-- ==== Sys2Proof/Word.lean ====
section
/-! DEFINITION. Words, bytes and blocks of the device, and the plainest arithmetic on them. -/

set_option Elab.async false

namespace Sys2Proof

/-- A register word (R8). -/
abbrev Word := BitVec 32

/-- A byte of host-visible memory. -/
abbrev Byte := BitVec 8

/-- The contents of one logical block: 4,096 bytes (R34). -/
abbrev Block := BitVec 32768

/-- Bits [lo + w - 1 : lo] of a number. -/
def bitsOf (n lo w : Nat) : Nat := n / 2 ^ lo % 2 ^ w

/-- One bit of a number, as a truth value. -/
def bitAt (n i : Nat) : Bool := n.testBit i

/-- A truth value as a one-bit number. -/
def bit (b : Bool) : Nat := if b then 1 else 0

/-- Saturating addition in a field of `w` bits. -/
def satAdd (w a b : Nat) : Nat := min (a + b) (2 ^ w - 1)

/-- The number with bit `i` set. -/
def setBit (n i : Nat) : Nat := n ||| 2 ^ i

/-- The number with bit `i` clear. -/
def clearBit (n i : Nat) : Nat := if n.testBit i then n - 2 ^ i else n

/-- Quotient rounded up. -/
def ceilDiv (a b : Nat) : Nat := (a + b - 1) / b

/-- The number of one bits among the low `w` bits. -/
def popCount (w n : Nat) : Nat := ((List.range w).filter (fun i => n.testBit i)).length

end Sys2Proof
end

