-- ==== Sys2Proof/Syntax.lean ====
section
/-! DEFINITION. The commands of the block: one constructor per row of spec/opcode_table.json, with the operands its rules
name. The table gives the rows no operands and no bits, so each operand is the function, channel, context, tag, voltage,
answer or message the row's rules speak of. -/

set_option Elab.async false

namespace Sys2Proof

/-- A PCIe function, or its port (R115). -/
abbrev Fn := Fin 2

/-- A hardware command context (R157). -/
abbrev CtxNo := Fin 65536

/-- A 14-bit tag (R113). -/
abbrev Tag := Fin 16384

/-- A ring pair (R150). -/
abbrev RingNo := Fin 1024

/-- A flash channel (R248). -/
abbrev Chan := Fin 64

/-- A LUN number 4t + l of a channel (R251). -/
abbrev LunNo := Fin 32

/-- A 64-byte command packet (R161), byte 0 in the low bits. -/
abbrev Packet := BitVec 512

/-- Data a command moves from host memory: what arrived, a failed transfer (R134, R136), or a list that breaks R162 or R163 as the data
moves (R593). -/
inductive Moved (α : Type) where
  | data (a : α)
  | failed
  | badList
  deriving DecidableEq, Repr

/-- One 16-byte SGL descriptor, or one 8-byte PRP page address (R162, R163): address, length, type byte, reserved bytes. -/
structure Piece where
  addr : Nat
  len : Nat := 0
  kind : Nat := 0
  rsvd : Nat := 0
  deriving DecidableEq, Repr

/-- What an inbound completion carries (R136). -/
inductive Cpl where
  | data (b : Block)
  | list (l : List Piece)
  | unsupported
  | abort
  | poisoned
  deriving DecidableEq, Repr

/-- The verdict of one decode, sense or check outside the model. -/
inductive Verdict where
  | pass
  | fail
  deriving DecidableEq, Repr

/-- The header of a session message as it was received (R384), with whether its tag verifies. -/
structure Hdr where
  seq : Nat
  view : Nat
  ack : Nat
  epoch : Nat
  /-- Bytes of the message in whole slots. -/
  size : Nat
  tagOk : Bool
  deriving DecidableEq, Repr

/-- A proposed or installed view (R387): its number, round, member set, steward and deputy. -/
structure View where
  number : Nat
  round : Nat
  members : Nat
  steward : Nat
  deputy : Nat
  deriving DecidableEq, Repr

/-- A beacon (R381), with whether its tag verifies. -/
structure Beacon where
  group : Nat
  member : Nat
  incarnation : Nat
  ctr : Nat
  base : Nat
  reqId : Nat
  log2 : Nat
  view : Nat
  tagOk : Bool
  deriving DecidableEq, Repr

/-- A granule header (R398). -/
structure GHead where
  lba : Nat := 0
  inc : Nat := 0
  ivFixed : Nat := 0
  osn : Nat := 0
  ivCtr : Nat := 0
  tag : BitVec 128 := 0
  deriving DecidableEq, Repr

/-- A CONTRIB entry (R414). -/
structure Entry where
  off : Nat
  unreadable : Bool := false
  stage : Nat := 0
  dg : BitVec 64 := 0
  head : GHead := {}
  deriving DecidableEq, Repr

/-- How a hard decode ends (R315, R316): corrected bits, unsatisfied checks, or an erased codeword. -/
inductive Decoded where
  | pass (corrected : Nat)
  | fail (unsatisfied : Nat)
  | erased
  deriving DecidableEq, Repr

/-- A unit that is ready at the plan cutoff and is not a NAND phase (R222): its FRM_COST index, its class (0 mandatory, 1 RD,
2 WR, 3 GC, 4 RB, 5 PT), the engine it needs, and whether it continues a command already started (R232). -/
structure PlanUnit where
  kind : Fin 16
  cls : Fin 6
  place : Nat
  cont : Bool
  deriving DecidableEq, Repr

/-- What the plan cutoff samples outside the device's registers (R220): the units ready besides NAND phases, and the choices the
manual leaves to the device: whether write-back, copies and map write-out start, whether a short word line is filled up, and
the IUs whose merge or copy read ended unrecovered (DESIGN CHOICE: log entry 13). -/
structure PlanIn where
  units : List PlanUnit := []
  fold : Bool := false
  pad : Bool := false
  copy : Bool := false
  mapOut : Bool := false
  lost : List Nat := []
  deriving DecidableEq, Repr

/-- What happens outside the device in a frame that ends (R67, R220): the bank voltage, the DRAM training steps that failed and
the sub-channels whose sweeps ran, pool parity errors as (buffer, line), the bytes each LUN puts on its bus by 32 × channel +
LUN, the channels whose training step passed, row mismatches as (the XOR page or the page that failed, the XOR page is at fault), and the code-fetch miss rate
of the frame per 1,000 fetches (R524) (DESIGN CHOICE: log entry 13). -/
structure FrameIn where
  vbank : Nat
  dramBad : List Nat := []
  sweeps : List Nat := []
  parity : List (Nat × Nat) := []
  caps : List (Nat × List Nat) := []
  trained : List Nat := []
  mismatch : List (Nat × Bool) := []
  missRate : Nat := 0
  deriving DecidableEq, Repr

/-- A command: one row of spec/opcode_table.json. -/
inductive Instr where
  /-- VIN_RISE (R62): VIN passes the rising brown-out threshold; Poulo starts operating, enables VDD_CORE and begins
  the rail sequence of a cold power-on. -/
  | vinRise (vin : Nat)
  /-- POWER_GOOD (R62): A regulator asserts its power-good input and Poulo enables the next rail step, or ends the
  sequence. -/
  | powerGood
  /-- POWER_GOOD_TIMEOUT (R62): A rail step's power-good has not arrived 5 ms after its enable; Poulo disables the
  rails in reverse order and waits 100 ms. -/
  | powerGoodTimeout
  /-- RAIL_SEQUENCE_RETRY (R62): The 100 ms wait after a failed rail attempt ends and Poulo starts the rail sequence
  again. -/
  | railSequenceRetry
  /-- BROWN_OUT (R79): VIN stays below HUP_BO_CFG.FALL for 2.0 µs; this is the trigger moment of a cold reset and
  starts the drain. -/
  | brownOut (vin : Nat)
  /-- OVERVOLTAGE (R79): VIN stays above 63.0 V for 2.0 µs; handled as a brown-out with cause overvoltage. -/
  | overvoltage (vin : Nat)
  /-- BANK_SWITCHOVER (R80): Poulo has closed HUP_SW_G and confirms VIN_SYS runs from the bank; the channel engines
  apply brown-out treatment and drain work may start. -/
  | bankSwitchover
  /-- DRAIN_END (R80): The DRAIN_END record is durable; drain mode ends, Poulo opens HUP_SW_G, disables the rails
  and starts a cold start or the bleed. -/
  | drainEnd
  /-- VBANK_CUTOFF (R82): VBANK falls to 22.0 V and Poulo disables every rail at once, ending the drain. -/
  | vbankCutoff (vbank : Nat)
  /-- BLEED_DISCHARGE_END (R72): After a drain with VIN absent, VBANK falls below 5.0 V and Poulo opens the bleed. -/
  | bleedDischargeEnd (vbank : Nat)
  /-- VBANK_OVERVOLTAGE (R66): VBANK reaches 60.0 V; Poulo stops the charger, sets OV_EVENT and closes the bleed. -/
  | vbankOvervoltage (vbank : Nat)
  /-- VBANK_OV_RECOVER (R66): After an overvoltage bleed VBANK falls to VCHG and Poulo opens the bleed. -/
  | vbankOvRecover (vbank : Nat)
  /-- CHARGE_TARGET_REACHED (R66): The charger brings VBANK to HUP_CHG_CFG.VCHG and holds it there. -/
  | chargeTargetReached (vbank : Nat)
  /-- CAP_MEAS_HOURLY (R69): The 1 h measurement timer expires and a bleed-method capacitance measurement begins by
  lowering the ceiling. -/
  | capMeasHourly
  /-- VBANK_DROP_DETECTED (R69): VBANK falls more than 0.5 V in one frame with neither drain nor bleed active, which
  starts a measurement within 1 ms. -/
  | vbankDropDetected (vbank : Nat)
  /-- MEAS_NOW (R78): A write of 1 to HUP_CTRL.MEAS_NOW starts a bleed-method measurement unless one is running. -/
  | measNow
  /-- MEAS_BLEED_CLOSE (R69): Once dirty data fits the ceiling at VCHG − 4.0 V, Poulo stops the charger and closes
  the bleed. -/
  | measBleedClose
  /-- MEAS_BLEED_OPEN (R69): VBANK has fallen 4.000 V under the bleed; the bleed opens and the 500 mA recharge and
  frame count begin. -/
  | measBleedOpen (vbank : Nat)
  /-- MEAS_COUNT_START (R69): In the charge method VBANK reaches 30.000 V and the device starts counting frames. -/
  | measCountStart (vbank : Nat)
  /-- MEAS_COMPLETE (R71): VBANK reaches the top of the 4 V measurement interval; C_meas is computed, recorded in
  the Health log and HUP_CAP_MEAS. -/
  | measComplete (vbank : Nat)
  /-- PERST_ASSERT (R87): The 12th consecutive low sample of PERST# is the trigger moment of a warm reset. -/
  | perstAssert (fn : Fn)
  /-- PERST_DEASSERT (R87): PERST# deasserts; link training starts within 1 ms and the event acts as a wake source. -/
  | perstDeassert (fn : Fn)
  /-- HOT_RESET (R137): An in-band hot reset is recognised at the end of its training sequence, the trigger moment
  of a hot reset. -/
  | hotReset (fn : Fn)
  /-- LINK_DOWN (R138): A port's Data Link Layer leaves DL_Active; outstanding requests fail, tags are released and
  a hot reset of the function follows. -/
  | linkDown (fn : Fn)
  /-- FLR (R101): A configuration write that initiates Function Level Reset resets that function's rings, contexts,
  MSI-X state and registers. -/
  | flr (fn : Fn)
  /-- RESET_END (R102): A function, hot or warm reset finishes within 10 ms and the function may be served again. -/
  | resetEnd (fn : Fn)
  /-- WATCHDOG_RESTART (R103): No lockstep pair has serviced the firmware watchdog for 100 ms; a cold reset with a
  drain powered from VIN begins. -/
  | watchdogRestart
  /-- COLD_REQ (R111): A write of BRU_CTRL.COLD_REQ with KEY 0xA5 starts a host cold request; another key records a
  register-write event. -/
  | coldReq (fn : Fn) (key : Byte)
  /-- LOCKSTEP_MISMATCH (R103): A lockstep pair mismatches; it is fenced within 10 µs and its contexts move to the
  other pairs with commands held. -/
  | lockstepMismatch (pair : Fin 8)
  /-- LOCKSTEP_TAKEOVER_DONE (R39): The remaining pairs have taken over the fenced pair's contexts and fetching
  resumes. -/
  | lockstepTakeoverDone
  /-- CHANNEL_ENGINE_STALL (R103): A channel engine shows no phase progress for 1 ms and restarts, reissuing its
  operations. -/
  | channelEngineStall (ch : Chan) (lun : LunNo)
  /-- RESTART (R275): A write of 1 to CHN_ENG_CTRL[n].RESTART restarts channel engine n as R103 describes. -/
  | channelRestart (fn : Fn) (ch : Chan)
  /-- CORE_DIODE_SAMPLE (R553): The thermal monitor samples a core diode and checks it for breakage, stop threshold
  and trip. -/
  | coreDiodeSample (diode : Fin 40) (reading : Option Int)
  /-- BOARD_SENSOR_SAMPLE (R553): Poulo's ADC samples the board thermistors every 1 ms. -/
  | boardSensorSample (input : Fin 4) (reading : Int)
  /-- TRIP_COOLDOWN (R560): After a trip Poulo's die sensor has read below 70.0 °C for 10 s and a cold start begins
  with cause thermal trip. -/
  | tripCooldown (temp : Int)
  /-- ORDERLY_STOP_COMPLETE (R557): No dirty data remains and the checkpoint reaches the present batch;
  THM_STATUS.STATE reads stopped. -/
  | orderlyStopComplete
  /-- ORDERLY_STOP_END (R558): Every unbroken sensor has read below its effective set point for 1 s; fetching
  resumes. -/
  | orderlyStopEnd
  /-- BOOT_CODE_LOADED (R92): The boot ROM has loaded the boot code, ending Grind step 0. -/
  | bootCodeLoaded
  /-- FIRMWARE_SLOT_CHECK (R516): Grind step 1 reads the activation record, checks the slots and boots one, ending
  step 1. -/
  | firmwareSlotCheck (ok1 : Bool) (ok2 : Bool)
  /-- ROOT_KEY_DERIVATION (R92): Grind step 2 reads fuses, derives the keys and loads the board configuration
  record, ending step 2. -/
  | rootKeyDerivation (okA : Bool) (okB : Bool)
  /-- HOST_INTERFACE_START (R92): Grind step 3 ends: the host interface is up and the admin ring can be fetched. -/
  | hostInterfaceStart
  /-- JOURNAL_REPLAY (R350): Grind step 5 replays the journal from the checkpoint and performs the start-up recovery
  actions. -/
  | journalReplay
  /-- BLOOM_ENTRY (R94): At the first boundary where every entry condition holds the device enters Bloom. -/
  | bloomEntry
  /-- POUR_ENTRY (R98): At the first boundary where granules, map and write buffer are complete the device enters
  Pour. -/
  | pourEntry
  /-- BLOOM_BOUND_MISSED (R100): Bloom is not entered within 2.0 s; the cause is recorded as event 0x0007. -/
  | bloomBoundMissed
  /-- CONFIG_REQUEST (R119): A configuration request is answered with retry status until step 2 ends and normally
  after. -/
  | configRequest (fn : Fn) (bdf : BitVec 16) (write : Bool) (dword : Fin 1024) (enables : BitVec 4) (data : Word)
  /-- PMCSR_WRITE (R528): A write of the PM Control/Status PowerState sets the function's request to P3 or back to
  its POWER_STATE target. -/
  | pmcsrWrite (fn : Fn) (data : Word)
  /-- BAR4_WRITE (R126): An inbound posted write to BAR4 is tagged with the epoch and translated by its window
  entry. -/
  | bar4Write (fn : Fn) (rid : BitVec 16) (off : Nat) (bytes : List Byte)
  /-- BAR4_READ (R132): An inbound BAR4 read is translated and answered, or refused with Unsupported Request. -/
  | bar4Read (fn : Fn) (rid : BitVec 16) (off : Nat) (len : Nat)
  /-- BAR0_MALFORMED_ACCESS (R10): An unaligned or sub-word BAR0 access is discarded or read as zero and records a
  register-access event. -/
  | bar0MalformedAccess (fn : Fn) (bar2 : Bool) (write : Bool) (off : Nat) (len : Nat)
  /-- REGISTER_WRITE (R15): A host write to a register without its own row acts by its access type, lock bit and
  pair rule. -/
  | registerWrite (fn : Fn) (off : Nat) (data : Word) (high : Option Word)
  /-- LOW_REGISTER_READ (R13): A read of the low register of a 64-bit pair, or of EVT_LAST, captures the matching
  high word. -/
  | lowRegisterRead (fn : Fn) (off : Nat)
  /-- MSIX_UNMASK (R125): Unmasking a vector with its pending bit set sends the held message. -/
  | msixUnmask (fn : Fn) (vector : Fin 2048)
  /-- COALESCE_TIMER (R184): AGG_TIME frames pass since the first unsignalled completion and the vector's message is
  sent. -/
  | coalesceTimer (fn : Fn) (ring : RingNo)
  /-- SQ_TAIL_DOORBELL (R154): A write of the SQ tail doorbell makes entries available for fetching. -/
  | sqTailDoorbell (fn : Fn) (ring : RingNo) (value : Word)
  /-- CQ_HEAD_DOORBELL (R154): A write of the CQ head doorbell releases CQ slots. -/
  | cqHeadDoorbell (fn : Fn) (ring : RingNo) (value : Word)
  /-- COMPLETION_TLP (R136): A completion for an outbound read arrives; its data is used, or an error status fails
  the request. -/
  | completionTlp (fn : Fn) (tag : Tag) (cpl : Cpl)
  /-- COMPLETION_TIMEOUT (R134): An outbound request's timer expires; AER logs it, the command fails with
  TRANSFER_ERROR and the tag is quarantined. -/
  | completionTimeout (fn : Fn) (tag : Tag)
  /-- TAG_QUARANTINE_END (R135): 1 s after its timeout a quarantined tag becomes free again. -/
  | tagQuarantineEnd (fn : Fn) (tag : Tag)
  /-- DLL_ACK (R27): The data-link acknowledgement of a completion TLP arrives; the command is accepted and its
  context freed. -/
  | dllAck (ctx : CtxNo)
  /-- CLKREQ_ASSERT (R88): Three low samples of CLKREQ# are latched as a wake source. -/
  | clkreqAssert (fn : Fn)
  /-- ELECTRICAL_IDLE_EXIT (R143): A receiver leaves electrical idle, latching a wake. -/
  | electricalIdleExit (fn : Fn)
  /-- ASPM_L1_ENTRY (R141): In P2 after 20 µs with no pending TLP or DLLP the device initiates ASPM L1. -/
  | aspmL1Entry (fn : Fn)
  /-- PME_TURN_OFF (R545): A PME_Turn_Off message is received and the device answers with PME_TO_Ack. -/
  | pmeTurnOff (fn : Fn)
  /-- WINDOW_COMMIT (R129): A write of WIN_EPOCH.COMMIT activates the owner's pending entries and increments the
  epoch. -/
  | windowCommit (fn : Fn)
  /-- EPOCH_RETIRE (R130): The last request of the earlier epoch is retired and WIN_EPOCH.BUSY clears. -/
  | epochRetire
  /-- ADMIN_ENABLE (R152): A write of 1 to HIF_ADM_CTRL.ENABLE checks the admin ring registers and creates the admin
  ring. -/
  | adminEnable (fn : Fn)
  /-- ADMIN_DISABLE (R152): A write of 0 to ENABLE deletes the admin ring, or is refused while I/O rings exist. -/
  | adminDisable (fn : Fn)
  /-- FETCH_ISSUE (R158): A free fetch engine arbitrates among rings and reads up to 8 submission entries. -/
  | fetchIssue (tag : Tag)
  /-- FETCH_COMPLETE (R156): Fetched entries enter command contexts and the SQ head advances. -/
  | fetchComplete (fn : Fn) (tag : Tag) (packets : List Packet)
  /-- READ (R195): READ resolves and moves its blocks to the host after its snapshot. -/
  | hostRead (ctx : CtxNo) (tag : Tag)
  /-- WRITE (R194): WRITE lands its blocks in the mirrored write buffer, publishes and commits them. -/
  | hostWrite (ctx : CtxNo) (tag : Tag)
  /-- FLUSH (R211): FLUSH waits for earlier writes of its ring to complete. -/
  | flush (ctx : CtxNo)
  /-- TRIM (R356): TRIM unmaps its range through end versions and a range-table entry. -/
  | trim (ctx : CtxNo)
  /-- WRITE_ZEROES (R356): WRITE_ZEROES zero-fills its range through end versions and a range-table entry. -/
  | writeZeroes (ctx : CtxNo)
  /-- VERIFY (R206): VERIFY resolves and checks its blocks without moving data. -/
  | verify (ctx : CtxNo) (tag : Tag)
  /-- IDENTIFY (R173): IDENTIFY returns the 4 KiB device data structure. -/
  | identify (ctx : CtxNo)
  /-- GET_LOG (R176): GET_LOG returns part of a log page and may release entries. -/
  | getLog (ctx : CtxNo)
  /-- SET_FEATURE (R172): SET_FEATURE sets a feature's current or saved value. -/
  | setFeature (ctx : CtxNo)
  /-- GET_FEATURE (R172): GET_FEATURE returns a feature's current, saved or default value. -/
  | getFeature (ctx : CtxNo)
  /-- RING_CREATE (R169): RING_CREATE creates an I/O ring pair with its scope, priority and vector. -/
  | ringCreate (ctx : CtxNo)
  /-- RING_DELETE (R170): RING_DELETE stops, aborts and completes the ring's commands and removes the ring pair. -/
  | ringDelete (ctx : CtxNo)
  /-- RING_RESET (R170): RING_RESET discards unfetched entries, aborts uncommitted commands and resets the ring
  pointers. -/
  | ringReset (ctx : CtxNo)
  /-- POWER_STATE (R529): POWER_STATE records the function's requested power state. -/
  | powerState (ctx : CtxNo)
  /-- FW_DOWNLOAD (R514): FW_DOWNLOAD programs part of a firmware image into a slot. -/
  | fwDownload (ctx : CtxNo) (image : Moved (List Block))
  /-- FW_ACTIVATE (R518): FW_ACTIVATE checks a slot and commits its activation. -/
  | fwActivate (ctx : CtxNo) (signatureOk : Bool)
  /-- KEY_LOAD (R498): KEY_LOAD loads a realm key, establishes the transport key or enrols a microcode key. -/
  | keyLoad (ctx : CtxNo) (rec : Moved (BitVec 512)) (pointOk : Bool) (unwrapped : Option (BitVec 256))
  /-- KEY_ROLL (R499): KEY_ROLL advances a slot's current epoch. -/
  | keyRoll (ctx : CtxNo)
  /-- KEY_PURGE (R496): KEY_PURGE puts a slot into PURGING and refuses new commands to its realm. -/
  | keyPurge (ctx : CtxNo)
  /-- GROUP_JOIN (R378): GROUP_JOIN checks a join record and commits a new or refreshed membership record. -/
  | groupJoin (ctx : CtxNo) (rec : Moved Block) (unwrapped : Option (BitVec 256))
  /-- GROUP_LEAVE (R379): GROUP_LEAVE leaves the group in orderly or immediate mode. -/
  | groupLeave (ctx : CtxNo)
  /-- GROUP_STATUS (R395): GROUP_STATUS returns the membership and peer registers. -/
  | groupStatus (ctx : CtxNo)
  /-- RAW_READ (R271): RAW_READ reads consecutive pages of one plane directly. -/
  | rawRead (ctx : CtxNo) (fail : Option Nat)
  /-- RAW_PROGRAM (R272): RAW_PROGRAM programs pages of a raw-use LUN without block-state checks. -/
  | rawProgram (ctx : CtxNo) (pages : Moved (List (List Block))) (pass : Bool)
  /-- RAW_ERASE (R273): RAW_ERASE erases one block of a raw-use LUN. -/
  | rawErase (ctx : CtxNo) (pass : Bool)
  /-- UCODE_LOAD (R303): UCODE_LOAD checks a Rinbo image and commits it into the inactive customer slot. -/
  | ucodeLoad (ctx : CtxNo) (image : Moved (List Word)) (signatureOk : Bool)
  /-- DIAG_ECHO (R171): DIAG test 0x01 returns the bitwise inverse of ARG. -/
  | diagEcho (ctx : CtxNo)
  /-- DIAG_DMA_LOOP (R171): DIAG test 0x02 reads LENGTH bytes from host memory and writes them back elsewhere. -/
  | diagDmaLoop (ctx : CtxNo) (data : Moved (List Block))
  /-- MIRROR_WRITE_DONE (R194): A 4 KiB block's mirror writes complete. -/
  | mirrorWriteDone (ctx : CtxNo) (blk : Nat)
  /-- JOURNAL_BATCH_DURABLE (R207): The frame's journal batch becomes durable, publishing versions and committing
  the commands it holds. -/
  | journalBatchDurable
  /-- GROUP_WAIT_EXPIRY (R209): A published GROUP write lacks its parity acknowledgements after GROUP_WAIT frames
  and is refused with GROUP_UNAVAILABLE. -/
  | groupWaitExpiry (ctx : CtxNo)
  /-- COMPLETION_WRITE (R194): When a CQ slot is free the device writes the committed or finished command's
  completion entry. -/
  | completionWrite (ctx : CtxNo)
  /-- READ_SNAPSHOT (R205): Once its dependencies are met and span entries held, a read takes its snapshot and
  references. -/
  | readSnapshot (ctx : CtxNo)
  /-- READ_DATA_DONE (R195): A read's last block has moved; references are released and the completion is written. -/
  | readDataDone (ctx : CtxNo)
  /-- FLUSH_COMPLETE (R211): Every earlier write of the ring has its completion written and the FLUSH completes. -/
  | flushComplete (ctx : CtxNo)
  /-- RANGE_APPLY (R357): A committed or adopted range is applied to the map in the background. -/
  | rangeApply (entry : Fin 64)
  /-- FRAME_BOUNDARY (R220): The next frame's plan takes effect, units are issued and the journal batch is written. -/
  | frameBoundary (inp : FrameIn)
  /-- PLAN_CUTOFF (R233): At 8 µs the scheduler samples its inputs and builds the next frame's plan. -/
  | planCutoff (inp : PlanIn)
  /-- CARRIED_LOAD_SUSPEND (R247): Carried load exceeds E_frame for OVER_LIMIT frames and the scheduler asks for
  suspends. -/
  | carriedLoadSuspend
  /-- DOMAIN_CLOCK_GATE (R240): A domain with no work for 20 µs gates its clock. -/
  | domainClockGate (domain : Fin 160)
  /-- DOMAIN_POWER_GATE (R240): A domain with no work for 160 µs gates its power. -/
  | domainPowerGate (domain : Fin 160)
  /-- CHANNEL_INIT_DONE (R252): A channel finishes initialisation and training and becomes ready. -/
  | channelInitDone (ch : Chan) (ids : List (Option Nat)) (rate : Fin 6) (temp : Int)
  /-- ZQ_SHORT_CAL (R253): The 1 s ZQ short calibration runs and may trigger retraining. -/
  | zqShortCal (ch : Chan) (code : Nat)
  /-- CHANNEL_RETRAIN_START (R253): A temperature drift or decode-failure trigger starts channel retraining. -/
  | channelRetrainStart (ch : Chan)
  /-- CHANNEL_RETRAIN_DONE (R253): All 24 retraining steps have passed and the new results are adopted. -/
  | channelRetrainDone (ch : Chan)
  /-- BUS_PHASE_STOP (R294): A bus phase still running 9,900 ns after the boundary is stopped. -/
  | busPhaseStop (ch : Chan) (lun : LunNo)
  /-- LUN_READY (R257): A LUN reports ready at the end of an array phase and its continuation runs. -/
  | lunReady (ch : Chan) (lun : LunNo) (bytes : List Nat)
  /-- TIMED_WAIT_END (R284): A TIMED array phase's frames pass and its continuation is offered. -/
  | timedWaitEnd (ch : Chan) (lun : LunNo)
  /-- SUSPEND_ISSUE (R264): A waiting read and met conditions cause the engine to suspend a busy operation. -/
  | suspendIssue (ch : Chan) (lun : LunNo)
  /-- SUSPEND_HOLD_EXPIRY (R265): HOLD_MAX frames pass since a suspend and the operation resumes. -/
  | suspendHoldExpiry (ch : Chan) (lun : LunNo)
  /-- RESUME_ISSUE (R265): No read waits or runs on a suspended LUN and the operation resumes. -/
  | resumeIssue (ch : Chan) (lun : LunNo)
  /-- UCODE_STORE_SWAP (R305): At boundary S the new image is written into the control store. -/
  | ucodeStoreSwap
  /-- UCODE_TABLES_ACTIVE (R305): At boundary S + 1 the new power tables enter use and the UCODE_LOAD completes. -/
  | ucodeTablesActive
  /-- HARD_DECODE_DONE (R316): A hard decode ends as pass or fail. -/
  | hardDecodeDone (page : Nat) (cw : Fin 16) (res : Decoded)
  /-- SOFT_DECODE_DONE (R316): A soft decode ends as pass or fail. -/
  | softDecodeDone (page : Nat) (cw : Fin 16) (ok : Bool)
  /-- ROW_REBUILD_DONE (R325): A row rebuild ends. -/
  | rowRebuildDone (page : Nat) (cw : Fin 16) (ok : Bool)
  /-- NAND_TEMP_READ (R319): The 1 s timer reads each LUN's temperature and updates its retry band. -/
  | nandTempRead (ch : Chan) (lun : LunNo) (reading : Option Int)
  /-- CHECKPOINT_ADVANCE (R349): The checkpoint advances by 1 GiB; root copies and a CKPT record are written. -/
  | checkpointAdvance
  /-- JOURNAL_URGENT (R349): The journal exceeds 3 GiB and map write-out becomes mandatory. -/
  | journalUrgent
  /-- JOURNAL_FULL (R349): The journal reaches 4 GiB and host write front-end admission stops. -/
  | journalFull
  /-- FREE_BAND_STATE_CHANGE (R361): The free-band count crosses a threshold. -/
  | freeBandStateChange
  /-- GC_ERASE_START (R358): A source block's VALID reaches zero and its ERASE_START record is written. -/
  | gcEraseStart (block : Nat)
  /-- WEAR_LEVEL_START (R359): The erase-count spread exceeds SPREAD_LIMIT and wear levelling starts. -/
  | wearLevelStart
  /-- GRADE_RECOMPUTE (R368): The health grade is recomputed. -/
  | gradeRecompute
  /-- BEACON_SEND (R381): The device writes its beacon on each unlinked peer. -/
  | beaconSend
  /-- BEACON_RECEIVED (R381): A beacon on the beacon board is checked and accepted or ignored. -/
  | beaconReceived (slot : Fin 24) (beacon : Beacon)
  /-- HELLO (R383): A HELLO is received and CHALLENGE is sent. -/
  | hello (peer : Fin 24) (na : Nat) (incarnation : Nat) (tagOk : Bool)
  /-- CHALLENGE (R383): A CHALLENGE is received; the initiator sends CONFIRM and becomes Linked. -/
  | challenge (peer : Fin 24) (nb : Nat) (echo : Nat) (incarnation : Nat) (tagOk : Bool)
  /-- CONFIRM (R383): A CONFIRM is received and the responder becomes Linked. -/
  | confirm (peer : Fin 24) (echo : Nat) (tagOk : Bool)
  /-- HANDSHAKE_TIMEOUT (R383): A handshake fails to complete in 10 ms. -/
  | handshakeTimeout (peer : Fin 24)
  /-- HANDSHAKE_RETRY (R383): The 10 ms delay after a failed handshake ends and it starts again. -/
  | handshakeRetry (peer : Fin 24)
  /-- PEER_ABSENT (R383): A Linked peer is silent for 20 ms and becomes Absent. -/
  | peerAbsent (peer : Fin 24)
  /-- HEARTBEAT_SEND (R386): Every 1 ms the device sends HEARTBEAT to each Linked peer. -/
  | heartbeatSend
  /-- HEARTBEAT (R385): A HEARTBEAT is received. -/
  | heartbeat (peer : Fin 24) (hdr : Hdr) (steward : Nat) (incarnation : Nat) (state : Nat) (view : View)
  /-- VIEW_PROPOSE (R387): A VIEW_PROPOSE is received and acknowledged durably if allowed. -/
  | viewPropose (peer : Fin 24) (hdr : Hdr) (view : View)
  /-- VIEW_ACK (R387): A VIEW_ACK is received by the proposer. -/
  | viewAck (peer : Fin 24) (hdr : Hdr) (view : View) (earlier : Option View)
  /-- VIEW_COMMIT (R387): A VIEW_COMMIT is received and the view installed. -/
  | viewCommit (peer : Fin 24) (hdr : Hdr) (view : View)
  /-- LEAVE_REQUEST (R388): A LEAVE_REQUEST reaches the steward. -/
  | leaveRequest (peer : Fin 24) (hdr : Hdr)
  /-- GRANT_EXPIRY (R390): A member's steward grant expires; the lowest InView member proposes a successor view. -/
  | grantExpiry
  /-- PROPOSAL_RETRY (R390): A proposal has no majority after 10 ms and is retried with a higher round. -/
  | proposalRetry
  /-- STEWARD_LEASE_EXPIRY (R389): The steward's lease ends and it stops coordinating. -/
  | stewardLeaseExpiry
  /-- ISOLATION_TIMEOUT (R380): No heartbeat from a majority for 50 ms; the device becomes Isolated. -/
  | isolationTimeout
  /-- STRIPE_OPEN_ISSUE (R402): The steward opens a new stripe to keep AHEAD open stripes per member. -/
  | stripeOpenIssue
  /-- STRIPE_OPEN (R413): A STRIPE_OPEN message is received and recorded. -/
  | stripeOpen (peer : Fin 24) (hdr : Hdr) (stripe : Nat) (k : Nat) (p : Nat) (q : Nat) (vacant : Nat) (view : Nat)
  /-- CONTRIB (R405): A CONTRIB message is received and applied to accumulators or rebuild chunks. -/
  | contrib (peer : Fin 24) (hdr : Hdr) (stripe : Nat) (slot : Nat) (flags : Nat) (plan : Nat) (entries : List Entry)
  /-- CONTRIB_ACK (R408): A CONTRIB_ACK arrives. -/
  | contribAck (peer : Fin 24) (hdr : Hdr) (stripe : Nat) (cseq : Nat) (role : Nat) (status : Nat)
  /-- RANGE_NOTE (R397): A RANGE_NOTE is received and held with the stripe. -/
  | rangeNote (peer : Fin 24) (hdr : Hdr) (stripe : Nat) (slba : Nat) (nblk : Nat) (zeroes : Bool) (incarnation : Nat) (osn : Nat)
  /-- SEG_CLOSE (R412): A SEG_CLOSE is received. -/
  | segClose (peer : Fin 24) (hdr : Hdr) (stripe : Nat) (slot : Nat) (granules : Nat)
  /-- SEAL_WAIT_EXPIRY (R403): SEAL_WAIT passes since a stripe opened and the segment is closed. -/
  | sealWaitExpiry (stripe : Nat)
  /-- STRIPE_STATE (R412): A STRIPE_STATE message is received. -/
  | stripeState (peer : Fin 24) (hdr : Hdr) (stripe : Nat) (state : Nat) (erased : Nat)
  /-- REBUILD_PLAN (R415): A REBUILD_PLAN message is received. -/
  | rebuildPlan (peer : Fin 24) (hdr : Hdr) (plan : Nat) (view : Nat) (stripe : Nat) (erased : Nat) (first : Nat)
  /-- CHUNK_DONE (R419): A CHUNK_DONE is received and checkpointed. -/
  | chunkDone (peer : Fin 24) (hdr : Hdr) (plan : Nat) (stripe : Nat) (chunk : Nat) (status : Nat) (unsolved : Nat)
  /-- CHECKPOINT (R419): The deputy receives CHECKPOINT. -/
  | checkpoint (peer : Fin 24) (hdr : Hdr) (plan : Nat) (stripe : Nat) (next : Nat) (erased : Nat)
  /-- CHECKPOINT_TIMER (R419): 10 ms pass since the last rebuild checkpoint and one is sent. -/
  | checkpointTimer
  /-- LEDGER_SYNC (R420): A LEDGER_SYNC is received and differing granules are pushed again. -/
  | ledgerSync (peer : Fin 24) (hdr : Hdr) (stripe : Nat) (slot : Nat) (first : Nat) (states : List Nat)
  /-- OUTER_READ (R421): An OUTER_READ request is received. -/
  | outerRead (peer : Fin 24) (hdr : Hdr) (stripe : Nat) (slot : Nat) (first : Nat) (count : Nat)
  /-- PATROL_REQUEST (R332): A PATROL_REQUEST is received and answered with digests. -/
  | patrolRequest (peer : Fin 24) (hdr : Hdr) (stripe : Nat) (chunk : Nat) (count : Nat)
  /-- PATROL_REPLY (R333): A PATROL_REPLY is received and compared. -/
  | patrolReply (peer : Fin 24) (hdr : Hdr) (stripe : Nat) (chunk : Nat) (count : Nat) (slot : Nat) (status : Nat) (digests : List Nat)
  /-- PATROL_REPLY_TIMEOUT (R333): No patrol reply arrives in 10 ms. -/
  | patrolReplyTimeout
  /-- DRAM_TRAINING_ADOPTED (R447): A training with a passing margin check is adopted at the boundary. -/
  | dramTrainingAdopted (sc : Fin 8)
  /-- MARGIN_CHECK_START (R448): A queued margin-check trigger starts its check. -/
  | marginCheckStart
  /-- DRAM_REFRESH (R436): A due refresh is issued ahead of other requests. -/
  | dramRefresh (sc : Fin 8)
  /-- ROW_IDLE_CLOSE (R437): An open DRAM row closes after PAGE_IDLE. -/
  | rowIdleClose (sc : Fin 8) (bank : Fin 64)
  /-- REQUEST_AGE_PROMOTION (R436): A request past AGE_LIMIT is promoted to class 0. -/
  | requestAgePromotion (sc : Fin 8) (line : Nat) (cls : Fin 4) (waited : Nat)
  /-- DRAM_LINE_READ (R440): A DRAM line read is checked and corrected or marked uncorrectable. -/
  | dramLineRead (sc : Fin 8) (line : Nat) (errs : List (Nat × Nat × Nat))
  /-- PARTIAL_LINE_WRITE (R442): A partial-line write merges through the merge buffer. -/
  | partialLineWrite (sc : Fin 8) (line : Nat) (mask : BitVec 64) (data : BitVec 512) (errs : List (Nat × Nat × Nat))
  /-- SCRUB_REWRITE (R441): The scrubber rewrites a queued correctable line. -/
  | scrubRewrite (sc : Fin 8)
  /-- BUFFER_ALLOCATE (R465): A pool request for 1 to 16 buffers is granted or queued. -/
  | bufferAllocate (owner : Fin 8) (n : Nat)
  /-- BUFFER_SHARE (R470): SHARE adds to a buffer's reference count. -/
  | bufferShare (handle : BitVec 18) (n : Fin 63)
  /-- BUFFER_RELEASE (R470): RELEASE decrements the count and frees the buffer at zero. -/
  | bufferRelease (handle : BitVec 18)
  /-- SEARCH (R474): A Thitralen search returns the winning match. -/
  | thiSearch (table : Fin 8) (key : BitVec 160) (mask : BitVec 80) (start : Fin 32768)
  /-- SEARCH_ADD (R476): A search that adds to the winner's associated data field. -/
  | searchAdd (table : Fin 8) (key : BitVec 160) (mask : BitVec 80) (start : Fin 32768) (field : Fin 4) (delta : Int)
  /-- INSERT_ANY (R476): An entry is inserted in the lowest free slot. -/
  | insertAny (table : Fin 8) (key : BitVec 160) (care : BitVec 160) (prio : Fin 16) (data : BitVec 64) (unique : Bool) (field : Fin 4) (add : Int)
  /-- INSERT_ORDERED (R477): An entry is inserted in order, moving up to 15 entries. -/
  | insertOrdered (table : Fin 8) (key : BitVec 160) (care : BitVec 160) (prio : Fin 16) (data : BitVec 64) (before : Option (Fin 32768))
  /-- DELETE (R476): An entry is deleted by index. -/
  | thiDelete (table : Fin 8) (index : Fin 32768)
  /-- DELETE_MATCH (R476): Every matching entry is deleted. -/
  | deleteMatch (table : Fin 8) (key : BitVec 160) (mask : BitVec 80)
  /-- WRITE_DATA (R476): Masked bits of an entry's associated data are replaced. -/
  | writeData (table : Fin 8) (index : Fin 32768) (data : BitVec 64) (mask : BitVec 64)
  /-- THI_READ (R476): An entry is returned whole. -/
  | thiRead (index : Fin 32768)
  /-- COMPACTION_STEP (R478): Compaction moves one entry into a hole of an ordered table. -/
  | compactionStep (table : Fin 8)
  /-- THI_RD_ADDR (R488): A write to THI_RD_ADDR captures a unit into THI_RD_DATA. -/
  | thiRdAddr (fn : Fn) (data : Word)
  /-- KEY_SWEEP_END (R504): A realm sweep ends and the oldest epoch rises. -/
  | keySweepEnd
  /-- KEY_PURGE_COMPLETE (R496): The realm's commands have been released; the slot becomes EMPTY and its range is
  trimmed. -/
  | keyPurgeComplete
  /-- DEBUG_CHALLENGE (R509): A write of SEC_DBG_CTRL.CHALLENGE issues a debug nonce. -/
  | debugChallenge
  /-- DEBUG_SUBMIT (R509): A write of SEC_DBG_CTRL.SUBMIT verifies the signature and unlocks JTAG after zeroising
  keys. -/
  | debugSubmit (signatureOk : Bool)
  /-- BOOT_STORE_WRITE_DONE (R512): A boot store program or erase completes. -/
  | bootStoreWriteDone
  /-- ACTIVATION_DRAIN_END (R213): After FW_ACTIVATE commits, contexts reach Released or 5 ms pass and the remaining
  contexts are persisted. -/
  | activationDrainEnd
  /-- FIRMWARE_RESUME (R519): The new firmware restores contexts, resumes fetching and completes FW_ACTIVATE. -/
  | firmwareResume
  /-- LOCK_ALL (R583): A write of GLB_LOCK_ALL sets every lock bit. -/
  | lockAll
  /-- RAW_EN (R270): A write to CHN_RAW_EN is stored for the next cold start. -/
  | rawEn (fn : Fn) (ch : Chan) (mask : Word)
  /-- IDLE_DETECTED (R530): The device has been idle for IDLE_WAIT frames with a lower target and starts the prepare
  phase. -/
  | idleDetected
  /-- PREPARE_END (R531): Prepare work ends at A1 and domains are asked. -/
  | prepareEnd
  /-- DOMAIN_ANSWER (R533): A domain answers ACCEPT, REFUSE or DELAY. -/
  | domainAnswer (domain : Fin 160)
  /-- ASK_TIMEOUT (R533): A domain has not answered 16 fr after the ask and counts as refusing. -/
  | askTimeout
  /-- QUIESCE_END (R531): Domains to be held off have stopped and the rails phase begins. -/
  | quiesceEnd
  /-- RAIL_ACK (R540): An AVSBus voltage read acknowledges a rail. -/
  | railAck (rail : Fin 3) (mv : Nat)
  /-- RAIL_TIMEOUT (R540): A rail is not acknowledged 100 µs after its write. -/
  | railTimeout (rail : Fin 3)
  /-- RAIL_RAISE_RETRY (R540): After a failed raise the request is repeated every 1 ms. -/
  | railRaiseRetry (rail : Fin 3)
  /-- POWER_COMMIT (R535): The target's hold-offs and clock stops apply on one edge. -/
  | powerCommit
  /-- COMMIT_WAKE_SAMPLE (R535): Four cycles after the commit PWR_WAKE is sampled. -/
  | commitWakeSample
  /-- EXIT_COMPLETE (R537): An exit ends and work is admitted. -/
  | exitComplete
  /-- ENTRY_RETRY (R533): The retry interval after a refusal or rail failure ends and entry begins again. -/
  | entryRetry
  /-- BEMF_CROSSING (R563): A back-EMF zero crossing is detected. -/
  | bemfCrossing (fan : Fin 4) (reverse : Bool) (rpm : Nat) (inTime : Bool)
  /-- MISSED_CROSSING (R564): No crossing arrives by the predicted time plus half an interval. -/
  | missedCrossing (fan : Fin 4)
  /-- PROBE_WINDOW_END (R567): The 10 ms probe window ends without a catch. -/
  | probeWindowEnd (fan : Fin 4)
  /-- BRAKE_RELEASE_MEASURE (R567): Every 100 fr of braking the fan is released for 10 fr and its speed measured. -/
  | brakeReleaseMeasure (fan : Fin 4) (rpm : Nat)
  /-- PEAK_LIMIT_TRIP (R562): The shunt comparator trips and ends the PWM on-time. -/
  | peakLimitTrip (fan : Fin 4) (close : Bool)
  /-- RAMP_END (R568): The 500 ms ramp ends without handover. -/
  | rampEnd (fan : Fin 4)
  /-- LOCATE_TIMEOUT (R568): A Locate start has no handover after 100 ms. -/
  | locateTimeout (fan : Fin 4)
  /-- RUN_SECOND (R567): A fan in Run for 1 s resets its failure count. -/
  | runSecond (fan : Fin 4)
  /-- COAST_TIMEOUT (R567): A coasting fan sees no crossing for 10 ms. -/
  | coastTimeout (fan : Fin 4)
  /-- SETTLE_TIMEOUT (R567): A settling fan sees no crossing for 10 ms. -/
  | settleTimeout (fan : Fin 4)
  /-- SETTLE_BRAKE (R567): A fan in Settle for 1 s is braked. -/
  | settleBrake (fan : Fin 4)
  /-- KE_MEASUREMENT (R571): The hourly timer measures a fan's back-EMF constant. -/
  | keMeasurement (fan : Fin 4) (ke : Nat)
  /-- FAN_RETRY (R576): A write of FAN_CTRL.RETRY restarts a fan from Fault. -/
  | fanRetry (fn : Fn) (mask : BitVec 4)
  /-- SMBUS_BLOCK_READ (R86): A sideband Block Read returns an item. -/
  | smbusBlockRead (item : Byte)
  /-- SMBUS_REFUSED (R590): Any other transaction is refused. -/
  | smbusRefused
  /-- SMBUS_TIMEOUT (R85): The clock-low timeout ends a transaction. -/
  | smbusTimeout
  /-- SIDEBAND_REFRESH (R86): Firmware refreshes sideband items every 1 ms. -/
  | sidebandRefresh
  /-- LINK_UP (R137): A port's Data Link Layer enters DL_Active after training; HIF_EP_LINK reports speed, width and
  DL_UP, configuration retry status may end, and admin service returns within 1 ms. -/
  | linkUp (fn : Fn) (speed : Fin 7) (width : Nat) (flit : Bool)
  /-- L0P_WIDTH_CHANGE (R141): The link partner or the device changes the active lane count under L0p, which the
  device accepts in any state and shows in HIF_EP_LINK.L0P_WIDTH. -/
  | l0pWidthChange (fn : Fn) (width : Nat)
  /-- POULO_SUPPLY_LOST (R59): With VIN not above its rising threshold, VBANK falls below 4.5 V and Poulo stops
  operating, ending the housekeeping outputs, the always-on domain and the SMBus port. -/
  | pouloSupplyLost (vbank : Nat)
  /-- PAD (R384): A PAD message is received on a session ring and the receiver takes the next message from offset
  0x1000. -/
  | padMessage (peer : Fin 24) (hdr : Hdr)
  deriving DecidableEq, Repr

end Sys2Proof
end

