-- ==== Sys2Proof/Decode.lean ====
section
/-! DEFINITION. The table gives the commands of this block no bits: no word spells a command. -/

set_option Elab.async false

namespace Sys2Proof

/-- The command a word spells by the table's bits: none, since no row of the table has bits (log entry 4). -/
def decodeTableWord (nbits w : Nat) : Option Instr :=
  match nbits, w with
  | _, _ => none

end Sys2Proof
end

