-- ==== Sys2Proof/Config.lean ====
section
/-! DEFINITION. What an implementation fixes and what the manual leaves open: opaque values without a body. Nothing can
evaluate them, so every statement about them holds whatever they are. -/

set_option Elab.async false

namespace Sys2Proof.Config

/-- A fresh free value of 64 bits, by the free counter of State: a result the manual calls undefined (DESIGN CHOICE: log entry 2). -/
opaque free : Nat → BitVec 64

/-- The contents of block `k` of a buffer or page the manual leaves undefined, by the free counter (DESIGN CHOICE: log entry 2). -/
opaque freeBlock : Nat → Nat → Block

/-- The epoch key K(s, e) from a base key, a slot and an epoch (R491, R492): the KDF's output is not computed. -/
opaque epochKey : BitVec 256 → Nat → Nat → BitVec 256

/-- The AES-256-GCM key stream of 4,096 bytes under a key and a 96-bit IV (R500). -/
opaque keyStream : BitVec 256 → BitVec 96 → Block

/-- MSB_96 of the AES-256-GCM tag of a key, an IV, 16 bytes of additional data and a ciphertext (R500). -/
opaque gcmTag : BitVec 256 → BitVec 96 → BitVec 128 → Block → BitVec 96

/-- The device's DRBG (R494, R509): 256 fresh bits by the free counter. -/
opaque drbg : Nat → BitVec 256

/-- The root key the fuses give (R492). -/
opaque rootKey : BitVec 256

/-- KDF(K, label number, context) of R491. -/
opaque kdf : BitVec 256 → Nat → Nat → BitVec 256

/-- The GCM tag of 128 bits of a Glitos message under a key, an IV and the covered bytes (R382, R384, R508). -/
opaque msgTag : BitVec 256 → BitVec 96 → List Nat → BitVec 128

/-- The shift at a row and column of the base matrix of a format (R312): the matrices are fixed, their values not given
(DESIGN CHOICE: log entry 9). -/
opaque baseShift : Nat → Nat → Nat → Option (Fin 128)

/-- The duty the fan speed loop sets from the measured speed, the target and the present duty (R563): the loop's gains are
not given (DESIGN CHOICE: log entry 10). -/
opaque fanDuty : Nat → Nat → Nat → Fin 1024

/-- Bytes of one training burst (R292): not given (DESIGN CHOICE: log entry 11). -/
opaque trainBytes : Nat

/-- The identity public key of log page 0x10 (R492, R515): x, then y, as 96 bytes with byte 0 in the low bits; the fuses fix it. -/
opaque identityPoint : BitVec 768

/-- The transport key from the device's identity key and a host's point (R492, R498): ECDH and its KDF are not computed. -/
opaque transportKey : BitVec 392 → BitVec 256

end Sys2Proof.Config
end

