-- ==== Sys2Proof/Machine/BaseImage.lean ====
section
/-! DEFINITION. The base Rinbo image the device ships with (R249, R302), in the layout of R298 to R300, with the QX-2T
description of the spec's worked example. Its sequences are a DESIGN CHOICE (log entry 12). -/

set_option Elab.async false

namespace Sys2Proof.Machine

/-! ### Micro-words (R288, R289) -/

/-- A micro-word of its fields. -/
def mw (op next arg : Nat) : Nat := op * 2 ^ 29 + next * 2 ^ 17 + arg
/-- EXEC. -/
def mwExec (nano count next : Nat) : Nat := mw 0 next (nano + count * 2 ^ 10)
/-- BRANCH. -/
def mwBranch (cond next alt : Nat) : Nat := mw 1 next (cond * 2 ^ 12 + alt)
/-- LOOP. -/
def mwLoop (n next alt : Nat) : Nat := mw 2 next (n * 2 ^ 15 + alt)
/-- SET. -/
def mwSet (dest src value next : Nat) : Nat := mw 3 next (dest * 2 ^ 14 + src * 2 ^ 12 + value)
/-- PHASE. -/
def mwPhase (cls busTime next : Nat) : Nat := mw 4 next (cls + busTime * 16)
/-- YIELD. -/
def mwYield (cls len wait cont : Nat) : Nat := mw 5 cont (cls + len * 16 + wait * 2 ^ 15)
/-- END. -/
def mwEnd (outcome : Nat) : Nat := mw 6 0 outcome

/-- The micro-words of the base image, address 0 first. -/
def baseMicro : List Nat :=
  -- RESET_LUN and its continuation 0x16; STATUS
  [mwPhase 1 5 1, mwExec 0 0 2, mwYield 1 10 0 0x16, mwPhase 1 0 4, mwEnd 0,
   mwPhase 1 10 6, mwExec 1 5 7, mwBranch 7 8 9, mwEnd 0, mwEnd 2]
  -- READ at 10, READ_OUT at 13
  ++ [mwPhase 1 10 11, mwExec 7 7 12, mwYield 2 4 0 3, mwPhase 3 30 14, mwExec 16 7 15, mwExec 15 0 16,
      mwBranch 0x0D 17 15, mwBranch 0x0E 18 19, mwEnd 0, mwYield 0 0 2 3]
  -- PROGRAM at 20, PROGRAM_DATA at 37, PROGRAM_END at 43
  ++ [mwBranch 0x0A 22 21, mwSet 1 0 3 23, mwSet 1 0 1 23, mwPhase 4 28 24, mwExec 24 6 25, mwSet 0 0 4 26,
      mwExec 31 0 27, mwLoop 0 26 28, mwSet 4 2 0 29, mwLoop 1 34 30, mwBranch 0x0C 38 31, mwSet 5 2 0 32,
      mwBranch 0x0A 33 39, mwSet 1 0 1 34, mwExec 32 0 35, mwBranch 0x0D 36 24, mwYield 0 0 2 5]
  ++ [mwPhase 4 28 24, mwExec 33 0 40, mwSet 1 0 3 34, mwBranch 0x0A 41 42, mwYield 6 20 0 6, mwYield 5 160 1 6,
      mwPhase 1 0 44, mwBranch 1 46 45, mwEnd 0, mwEnd 1]
  -- ERASE at 47, ERASE_END at 54
  ++ [mwPhase 1 20 48, mwExec 34 4 49, mwBranch 0x0C 52 50, mwExec 40 0 51, mwSet 5 2 0 48, mwExec 39 0 53,
      mwYield 7 300 1 8, mwPhase 1 0 44]
  -- ERASE_SUSPEND at 55, its continuation 0x17 at 58, ERASE_RESUME at 60, PROGRAM_SUSPEND at 63, PROGRAM_RESUME at 66
  ++ [mwPhase 1 5 56, mwExec 41 4 57, mwYield 7 3 0 0x17, mwPhase 1 0 59, mwBranch 3 45 46,
      mwPhase 1 5 61, mwExec 51 4 62, mwYield 7 0 1 8, mwPhase 1 5 64, mwExec 46 4 65, mwYield 5 2 0 0x17,
      mwPhase 1 5 67, mwExec 56 4 68, mwYield 5 0 1 6]
  -- SET_FEATURE and RETRY_SET at 69, their continuation 0x18 at 72, GET_FEATURE at 73, ZQ_LONG at 75, ZQ_SHORT at 78
  ++ [mwPhase 1 20 70, mwExec 61 6 71, mwYield 1 1 0 0x18, mwPhase 1 0 45, mwPhase 1 20 74, mwExec 68 6 45,
      mwPhase 1 10 76, mwExec 75 1 77, mwYield 1 1 0 0x18, mwPhase 1 10 79, mwExec 77 1 77]
  -- DCC_TRAIN at 80, READ_DQ_TRAIN at 83, WRITE_DQ_TRAIN at 85, TEMP_READ at 87
  ++ [mwPhase 1 20 81, mwExec 79 2 82, mwBranch 9 45 46, mwPhase 1 20 84, mwExec 82 2 82, mwPhase 1 20 86, mwExec 85 3 82,
      mwPhase 1 20 88, mwExec 89 4 45]

/-! ### Nano-words (R291, R292) -/

/-- A nano-word: length, data source and item, immediate byte, chip-enable code, CLE, ALE and a WE# pulse from tick 1 to 3, RE,
DQS, ODT, status mask and value. -/
def nw (len dsrc bsel imm ce : Nat) (cle ale we : Bool) (re : Nat := 0) (dqs : Nat := 0) (odt : Bool := false)
    (mask : Nat := 0) (value : Nat := 0) : Nat :=
  len + (if we then 2 ^ 16 + 3 * 2 ^ 24 else 0) + imm * 2 ^ 32 + dsrc * 2 ^ 40 + bsel * 2 ^ 44 + ce * 2 ^ 48 + bit cle * 2 ^ 50
    + bit ale * 2 ^ 51 + re * 2 ^ 52 + dqs * 2 ^ 54 + bit odt * 2 ^ 56 + mask * 2 ^ 64 + value * 2 ^ 72

/-- A command cycle that asserts CE#. -/
def nwCmd (imm : Nat) : Nat := nw 4 1 0 imm 1 true false true
/-- A closing command cycle with its wait. -/
def nwConfirm (imm : Nat) : Nat := nw 36 1 0 imm 0 true false true
/-- An address cycle. -/
def nwAddr (dsrc bsel : Nat) (len : Nat := 4) : Nat := nw len dsrc bsel 0 0 false true true
/-- The four row bytes. -/
def nwRow : List Nat := [nwAddr 3 0, nwAddr 3 1, nwAddr 3 2, nwAddr 3 3 36]
/-- The two column bytes. -/
def nwCol : List Nat := [nwAddr 2 0, nwAddr 2 1]
/-- The LUN number as an address cycle. -/
def nwLun (len : Nat := 4) : Nat := nwAddr 5 4 len

/-- The nano-words of the base image, address 0 first. -/
def baseNano : List Nat :=
  -- 0 reset; 1 to 6 status; 7 to 14 read; 15 codeword out; 16 to 23 select column
  [nw 36 1 0 0xFF 1 true false true, nwCmd 0x78] ++ nwRow ++ [nw 20 8 0 0 0 false false false 1 0 false 0x40 0x40]
  ++ [nwCmd 0x00] ++ nwCol ++ nwRow ++ [nwConfirm 0x30, nw 1 9 0 0 1 false false false 2]
  ++ [nwCmd 0x06] ++ nwCol ++ nwRow ++ [nwConfirm 0xE0]
  -- 24 to 30 program address; 31 codeword in; 32, 33 confirms; 34 to 40 erase
  ++ [nwCmd 0x80] ++ nwCol ++ nwRow ++ [nw 1 6 0 0 0 false false false 0 2 true, nwConfirm 0x1A, nwConfirm 0x10]
  ++ [nwCmd 0x60] ++ nwRow ++ [nwConfirm 0xD0, nwConfirm 0xD1]
  -- 41, 46 suspends; 51, 56 resumes
  ++ [nwCmd 0xB0] ++ nwRow ++ [nwCmd 0xB2] ++ nwRow ++ [nwCmd 0xB1] ++ nwRow ++ [nwCmd 0xB3] ++ nwRow
  -- 61 set features; 68 get features
  ++ [nwCmd 0xD5, nwLun, nwAddr 5 1 36] ++ (List.range 4).map (fun b => nw 4 4 b 0 0 false false true)
  ++ [nwCmd 0xD4, nwLun, nwAddr 5 1 36] ++ (List.range 4).map (fun b => nw 20 0xA b 0 0 false false false 1)
  -- 75 ZQ long; 77 ZQ short; 79 duty cycle; 82 read DQ; 85 write DQ; 89 temperature
  ++ [nwCmd 0xF9, nwLun 36, nwCmd 0xD9, nwLun 36]
  ++ [nwCmd 0x18, nwLun 36, nw 1 0xB 0 0 0 false false false 2, nwCmd 0x62, nwLun 36, nw 1 0xB 0 0 0 false false false 2]
  ++ [nwCmd 0x63, nwLun 36, nw 1 7 0 0 0 false false false 0 2, nw 1 0xB 0 0 0 false false false 2]
  ++ [nwCmd 0xD4, nwLun, nw 36 1 0 0xE7 0 false true true, nw 20 0xA 0 0 0 false false false 1, nw 20 0xA 1 0 0 false false false 1]

/-! ### Sections -/

/-- Entry addresses of the QX-2T description, by entry number from 0x00 (R286). -/
def baseEntries : List Nat :=
  [0, 5, 10, 13 + 0x2000, 20, 37 + 0x2000, 43 + 0x2000, 47, 54 + 0x2000, 55, 60, 63, 66, 69, 73, 75, 78, 80, 83, 85, 87, 69,
   3 + 0x2000, 58 + 0x2000, 72 + 0x2000]

/-- A number as `n` little-endian words. -/
def toWords (n v : Nat) : List (BitVec 32) := (List.range n).map (fun i => BitVec.ofNat 32 (v / 2 ^ (32 * i)))

/-- The QX-2T die description (R300): 512 bytes. -/
def baseDie : List (BitVec 32) :=
  let entries := baseEntries.zipIdx.foldl (fun a e => a + (e.1 + 0x1000) * 2 ^ (16 * e.2)) 0
  let susp (max latency overs least : Nat) : Nat := 1 + max * 2 ^ 8 + latency * 2 ^ 16 + overs * 2 ^ 32 + least * 2 ^ 48
  toWords 4 0
  ++ toWords 5 (4 + 3 * 2 ^ 8 + 3312 * 2 ^ 16 + 1152 * 2 ^ 32 + 384 * 2 ^ 48 + 16 * 2 ^ 64 + 0 * 2 ^ 72 + 3 * 2 ^ 80
      + 1 * 2 ^ 88 + 4 * 2 ^ 96 + 5 * 2 ^ 104 + 11 * 2 ^ 112 + 2 * 2 ^ 120 + 12 * 2 ^ 128 + 2 * 2 ^ 136 + 4 * 2 ^ 144 + 2 * 2 ^ 152)
  ++ toWords 2 (susp 20 25 1 50) ++ toWords 2 (susp 10 20 1 30) ++ toWords 1 (0 + 100 * 2 ^ 16) ++ toWords 2 0
  ++ toWords 16 (entries) ++ toWords 32 0
  ++ toWords 4 (3 + 6 * 2 ^ 8 + 250 * 2 ^ 32 + 550 * 2 ^ 48 + 1000 * 2 ^ 64)
  ++ (List.range 18).flatMap (fun i => toWords 2 ((i % 6) * 0x02020202 + 0x89 * 2 ^ 32 + 2 * 2 ^ 40)) ++ toWords 24 0

/-- The power section (R299): the QX-2T classes of R229 as table 0, for every channel. -/
def basePower : List (BitVec 32) :=
  let t := [0, 20, 100, 180, 160, 150, 130, 140, 0, 0, 0, 0, 0, 0, 0, 180]
  toWords 8 (t.zipIdx.foldl (fun a e => a + e.1 * 2 ^ (16 * e.2)) 0) ++ toWords 28 0

/-- Offsets of the sections in words. -/
def basePad (l : List (BitVec 32)) : List (BitVec 32) := l ++ List.replicate ((4 - l.length % 4) % 4) 0

/-- The base image as little-endian words (DESIGN CHOICE: log entry 12). -/
def baseImage : List (BitVec 32) :=
  let micro := basePad (baseMicro.map (BitVec.ofNat 32))
  let nano := baseNano.flatMap (toWords 4)
  let o1 := 256
  let o2 := o1 + 4 * micro.length
  let o3 := o2 + 4 * nano.length
  let o4 := o3 + 512
  let o5 := o4 + 144
  let hdr := 0x4F424E52 + 0x0001 * 2 ^ 32 + 256 * 2 ^ 48 + (o5 + 96) * 2 ^ 64 + 1 * 2 ^ 96 + baseMicro.length * 2 ^ 128
    + baseNano.length * 2 ^ 144 + 1 * 2 ^ 160 + 0 * 2 ^ 168 + o1 * 2 ^ 192 + o2 * 2 ^ 224 + o3 * 2 ^ 256 + o4 * 2 ^ 288
    + o5 * 2 ^ 320
  toWords 64 hdr ++ micro ++ nano ++ baseDie ++ basePower ++ toWords 24 0

end Sys2Proof.Machine
end

