-- ==== Sys2Proof/Machine/RegMap.lean ====
section
/-! DEFINITION. The register map: one record per field of a BAR0 register, with its offset, array shape, bits, access
type, reset values and reset scope, from the register tables of the chapters (R9, R14, R15, R19, R580, R585). -/

set_option Elab.async false

namespace Sys2Proof.Machine

/-- The access types of R15. -/
inductive Acc where
  | rw | ro | w1c | w1s | wo | rwl
  deriving DecidableEq, Repr

/-- The narrowest reset scope that restores a field (R17, R19). `kept` marks the sticky fields whose value the device
keeps across a cold reset and restores before Grind step 2 ends (R586); `none` marks a field with no stored value. -/
inductive Scope where
  | none | function | hot | warm | sticky | kept
  deriving DecidableEq, Repr

/-- The order of the scopes, narrowest first (R17). -/
def Scope.code : Scope → Nat
  | .none => 0 | .function => 1 | .hot => 2 | .warm => 3 | .sticky => 4 | .kept => 5

/-- One register field: the byte offset of its word (the low word of a 64-bit pair), the stride and count of its array,
its lowest bit and its width, its access type, its reset values (one, or one per index), its reset scope, whether each
function has its own copy (R581), and the least and greatest value that is not reserved (R14). -/
structure Fld where
  off : Nat
  stride : Nat := 0
  count : Nat := 1
  lo : Nat
  w : Nat
  acc : Acc
  resets : List Nat := [0]
  scope : Scope := .sticky
  perFn : Bool := false
  vlo : Nat := 0
  vhi : Nat := 2 ^ 64
  deriving DecidableEq, Repr

/-- The reset value of instance `i`. -/
def Fld.reset (r : Fld) (i : Nat) : Nat := r.resets.getD i (r.resets.headD 0)

/-- The key of instance `i` of a field for function `f` in the register file: scope, function, offset, lowest bit. -/
def Fld.key (r : Fld) (i f : Nat) : Nat :=
  ((r.scope.code * 2 + (if r.perFn then f % 2 else 0)) * 2 ^ 23 + (r.off + r.stride * i)) * 64 + r.lo

/-- The scope code of a key. -/
def keyScope (k : Nat) : Nat := k / 64 / 2 ^ 23 / 2

/-- The function of a key (0 for a shared field). -/
def keyFn (k : Nat) : Nat := k / 64 / 2 ^ 23 % 2

/-! HUP_STATUS (R73, 02_package_supply_and_holdup.md) -/
def Reg.HUP_STATUS.VIN_OK : Fld := { off := 0x60000, lo := 0, w := 1, acc := .ro }
def Reg.HUP_STATUS.CHARGING : Fld := { off := 0x60000, lo := 1, w := 1, acc := .ro }
def Reg.HUP_STATUS.WRITE_THR : Fld := { off := 0x60000, lo := 2, w := 1, acc := .ro }
def Reg.HUP_STATUS.MEAS_BUSY : Fld := { off := 0x60000, lo := 3, w := 1, acc := .ro }
def Reg.HUP_STATUS.MEAS_FAIL : Fld := { off := 0x60000, lo := 4, w := 1, acc := .ro, scope := .kept }
def Reg.HUP_STATUS.OV_EVENT : Fld := { off := 0x60000, lo := 5, w := 1, acc := .w1c }
def Reg.HUP_STATUS.BO_SEEN : Fld := { off := 0x60000, lo := 6, w := 1, acc := .w1c }
def Reg.HUP_STATUS.BLEED_ON : Fld := { off := 0x60000, lo := 7, w := 1, acc := .ro }
def Reg.HUP_STATUS.BUS_CLASS : Fld := { off := 0x60000, lo := 8, w := 2, acc := .ro }
/-! HUP_BANK_CFG (R74, 02_package_supply_and_holdup.md) -/
def Reg.HUP_BANK_CFG.COUNT : Fld := { off := 0x60004, lo := 0, w := 8, acc := .rwl, resets := [32], vlo := 1, vhi := 64 }
def Reg.HUP_BANK_CFG.UNIT : Fld := { off := 0x60004, lo := 8, w := 16, acc := .rwl, resets := [1000], vlo := 1, vhi := 65535 }
/-! HUP_CHG_CFG (R75, 02_package_supply_and_holdup.md) -/
def Reg.HUP_CHG_CFG.VCHG : Fld := { off := 0x60008, lo := 0, w := 8, acc := .rwl, resets := [108], vlo := 60, vhi := 116 }
def Reg.HUP_CHG_CFG.ICHG : Fld := { off := 0x60008, lo := 8, w := 5, acc := .rw, resets := [5], vlo := 1, vhi := 20 }
def Reg.HUP_CHG_CFG.CHG_EN : Fld := { off := 0x60008, lo := 13, w := 1, acc := .rw, resets := [1] }
/-! HUP_BO_CFG (R76, 02_package_supply_and_holdup.md) -/
def Reg.HUP_BO_CFG.FALL : Fld := { off := 0x6000C, lo := 0, w := 8, acc := .rwl, vlo := 43, vhi := 250 }
def Reg.HUP_BO_CFG.RISE : Fld := { off := 0x6000C, lo := 8, w := 8, acc := .rwl, vlo := 45, vhi := 252 }
/-! HUP_CAP_MEAS (R77, 02_package_supply_and_holdup.md) -/
def Reg.HUP_CAP_MEAS.CAP : Fld := { off := 0x60010, lo := 0, w := 16, acc := .ro, scope := .kept }
def Reg.HUP_CAP_MEAS.AGE : Fld := { off := 0x60010, lo := 16, w := 8, acc := .ro, scope := .kept }
def Reg.HUP_CAP_MEAS.VALID : Fld := { off := 0x60010, lo := 24, w := 1, acc := .ro }
def Reg.HUP_CAP_MEAS.METHOD : Fld := { off := 0x60010, lo := 25, w := 1, acc := .ro, scope := .kept }
/-! HUP_ENERGY (R77, 02_package_supply_and_holdup.md) -/
def Reg.HUP_ENERGY.EUSE : Fld := { off := 0x60014, lo := 0, w := 16, acc := .ro }
def Reg.HUP_ENERGY.VBANK : Fld := { off := 0x60014, lo := 16, w := 16, acc := .ro }
/-! HUP_CTRL (R78, 02_package_supply_and_holdup.md) -/
def Reg.HUP_CTRL.MEAS_NOW : Fld := { off := 0x60020, lo := 0, w := 1, acc := .wo, scope := .none }
def Reg.HUP_CTRL.LOCK : Fld := { off := 0x60020, lo := 1, w := 1, acc := .w1s }
/-! BRU_STAGE (R109, 03_bringup_and_resets.md) -/
def Reg.BRU_STAGE.STAGE : Fld := { off := 0x10000, lo := 0, w := 2, acc := .ro }
def Reg.BRU_STAGE.STEP : Fld := { off := 0x10000, lo := 4, w := 3, acc := .ro }
def Reg.BRU_STAGE.ADMIN_UP : Fld := { off := 0x10000, lo := 8, w := 1, acc := .ro }
def Reg.BRU_STAGE.IO_UP : Fld := { off := 0x10000, lo := 9, w := 1, acc := .ro }
def Reg.BRU_STAGE.WRITE_UP : Fld := { off := 0x10000, lo := 10, w := 1, acc := .ro }
def Reg.BRU_STAGE.MAP_RESIDENT : Fld := { off := 0x10000, lo := 11, w := 1, acc := .ro }
def Reg.BRU_STAGE.DRAM_READY : Fld := { off := 0x10000, lo := 12, w := 8, acc := .ro }
/-! BRU_RESET_CAUSE (R110, 03_bringup_and_resets.md) -/
def Reg.BRU_RESET_CAUSE.COLD : Fld := { off := 0x10004, lo := 0, w := 4, acc := .ro, scope := .kept }
def Reg.BRU_RESET_CAUSE.WARM_SEEN : Fld := { off := 0x10004, lo := 4, w := 1, acc := .w1c }
def Reg.BRU_RESET_CAUSE.HOT_SEEN : Fld := { off := 0x10004, lo := 5, w := 1, acc := .w1c }
def Reg.BRU_RESET_CAUSE.FLR0_SEEN : Fld := { off := 0x10004, lo := 6, w := 1, acc := .w1c }
def Reg.BRU_RESET_CAUSE.FLR1_SEEN : Fld := { off := 0x10004, lo := 7, w := 1, acc := .w1c }
def Reg.BRU_RESET_CAUSE.DRAIN_OK : Fld := { off := 0x10004, lo := 8, w := 1, acc := .ro, scope := .kept }
/-! BRU_CTRL (R111, 03_bringup_and_resets.md) -/
def Reg.BRU_CTRL.COLD_REQ : Fld := { off := 0x10008, lo := 0, w := 1, acc := .wo, scope := .none }
def Reg.BRU_CTRL.LOCK : Fld := { off := 0x10008, lo := 1, w := 1, acc := .w1s }
def Reg.BRU_CTRL.KEY : Fld := { off := 0x10008, lo := 8, w := 8, acc := .wo, scope := .none }
/-! BRU_TIMING (R112, 03_bringup_and_resets.md) -/
def Reg.BRU_TIMING.BLOOM_MS : Fld := { off := 0x1000C, lo := 0, w := 16, acc := .ro }
def Reg.BRU_TIMING.POUR : Fld := { off := 0x1000C, lo := 16, w := 16, acc := .ro }
/-! BRU_RECOVERY (R112, 03_bringup_and_resets.md) -/
def Reg.BRU_RECOVERY.ERASE_UNFIN : Fld := { off := 0x10010, lo := 0, w := 16, acc := .ro }
def Reg.BRU_RECOVERY.RECON : Fld := { off := 0x10010, lo := 16, w := 16, acc := .ro }
/-! HIF_EP_LINK (R145, 04_host_endpoint_and_windows.md) -/
def Reg.HIF_EP_LINK.SPEED : Fld := { off := 0x100000, lo := 0, w := 4, acc := .ro, scope := .hot, perFn := true }
def Reg.HIF_EP_LINK.WIDTH : Fld := { off := 0x100000, lo := 4, w := 5, acc := .ro, scope := .hot, perFn := true }
def Reg.HIF_EP_LINK.FLIT : Fld := { off := 0x100000, lo := 9, w := 1, acc := .ro, scope := .hot, perFn := true }
def Reg.HIF_EP_LINK.CLK_ARCH : Fld := { off := 0x100000, lo := 10, w := 2, acc := .ro, perFn := true }
def Reg.HIF_EP_LINK.DL_UP : Fld := { off := 0x100000, lo := 12, w := 1, acc := .ro, scope := .hot, perFn := true }
def Reg.HIF_EP_LINK.PORT_MODE : Fld := { off := 0x100000, lo := 13, w := 1, acc := .ro, perFn := true }
def Reg.HIF_EP_LINK.L0P_WIDTH : Fld := { off := 0x100000, lo := 14, w := 5, acc := .ro, scope := .hot, perFn := true }
/-! HIF_EP_CTO (R146, 04_host_endpoint_and_windows.md) -/
def Reg.HIF_EP_CTO.FRAMES : Fld := { off := 0x100004, lo := 0, w := 13, acc := .rw, scope := .function, perFn := true, vlo := 0, vhi := 6400 }
/-! HIF_EP_EVENT (R147, 04_host_endpoint_and_windows.md) -/
def Reg.HIF_EP_EVENT.CPL_TIMEOUT : Fld := { off := 0x100008, lo := 0, w := 1, acc := .w1c, perFn := true }
def Reg.HIF_EP_EVENT.LATE_CPL : Fld := { off := 0x100008, lo := 1, w := 1, acc := .w1c, perFn := true }
def Reg.HIF_EP_EVENT.LINK_DOWN : Fld := { off := 0x100008, lo := 2, w := 1, acc := .w1c, perFn := true }
def Reg.HIF_EP_EVENT.SURPRISE : Fld := { off := 0x100008, lo := 3, w := 1, acc := .w1c, perFn := true }
def Reg.HIF_EP_EVENT.POISONED : Fld := { off := 0x100008, lo := 4, w := 1, acc := .w1c, perFn := true }
/-! HIF_EP_CNT (R147, 04_host_endpoint_and_windows.md) -/
def Reg.HIF_EP_CNT.TIMEOUTS : Fld := { off := 0x10000C, lo := 0, w := 16, acc := .ro, scope := .warm, perFn := true }
def Reg.HIF_EP_CNT.LATE : Fld := { off := 0x10000C, lo := 16, w := 16, acc := .ro, scope := .warm, perFn := true }
/-! WIN_ENT_CTRL (R148, 04_host_endpoint_and_windows.md) -/
def Reg.WIN_ENT_CTRL.TARGET : Fld := { off := 0x110000, stride := 16, count := 256, lo := 0, w := 2, acc := .rw, scope := .function }
def Reg.WIN_ENT_CTRL.WR_EN : Fld := { off := 0x110000, stride := 16, count := 256, lo := 2, w := 1, acc := .rw, scope := .function }
def Reg.WIN_ENT_CTRL.RD_EN : Fld := { off := 0x110000, stride := 16, count := 256, lo := 3, w := 1, acc := .rw, scope := .function }
def Reg.WIN_ENT_CTRL.RID_CHK : Fld := { off := 0x110000, stride := 16, count := 256, lo := 4, w := 1, acc := .rw, scope := .function }
def Reg.WIN_ENT_CTRL.PENDING : Fld := { off := 0x110000, stride := 16, count := 256, lo := 5, w := 1, acc := .ro, scope := .function }
def Reg.WIN_ENT_CTRL.RID : Fld := { off := 0x110000, stride := 16, count := 256, lo := 16, w := 16, acc := .rw, scope := .function }
/-! WIN_ENT_BASE (R148, 04_host_endpoint_and_windows.md) -/
def Reg.WIN_ENT_BASE.BASE : Fld := { off := 0x110004, stride := 16, count := 256, lo := 0, w := 26, acc := .rw, scope := .function }
/-! WIN_ENT_LIMIT (R148, 04_host_endpoint_and_windows.md) -/
def Reg.WIN_ENT_LIMIT.LIMIT : Fld := { off := 0x110008, stride := 16, count := 256, lo := 0, w := 17, acc := .rw, scope := .function }
/-! WIN_EPOCH (R149, 04_host_endpoint_and_windows.md) -/
def Reg.WIN_EPOCH.EPOCH : Fld := { off := 0x112000, lo := 0, w := 16, acc := .ro }
def Reg.WIN_EPOCH.COMMIT : Fld := { off := 0x112000, lo := 16, w := 1, acc := .wo, scope := .none }
def Reg.WIN_EPOCH.BUSY : Fld := { off := 0x112000, lo := 17, w := 1, acc := .ro }
/-! WIN_STATUS (R149, 04_host_endpoint_and_windows.md) -/
def Reg.WIN_STATUS.COMMIT_REFUSED : Fld := { off := 0x112004, lo := 0, w := 1, acc := .w1c, scope := .function, perFn := true }
def Reg.WIN_STATUS.REFUSED_IDX : Fld := { off := 0x112004, lo := 8, w := 8, acc := .ro, scope := .function, perFn := true }
/-! WIN_DROP_CNT (R149, 04_host_endpoint_and_windows.md) -/
def Reg.WIN_DROP_CNT.COUNT : Fld := { off := 0x112008, lo := 0, w := 32, acc := .ro, scope := .warm }
/-! WIN_DROP_LAST (R149, 04_host_endpoint_and_windows.md) -/
def Reg.WIN_DROP_LAST.WINDOW : Fld := { off := 0x11200C, lo := 0, w := 8, acc := .ro, scope := .warm }
def Reg.WIN_DROP_LAST.REASON : Fld := { off := 0x11200C, lo := 8, w := 3, acc := .ro, scope := .warm }
def Reg.WIN_DROP_LAST.REQ_ID : Fld := { off := 0x11200C, lo := 16, w := 16, acc := .ro, scope := .warm }
/-! HIF_ADM_SIZE (R187, 05_command_rings_and_packets.md) -/
def Reg.HIF_ADM_SIZE.SQ_SIZE : Fld := { off := 0x100110, lo := 0, w := 16, acc := .rw, scope := .function, perFn := true }
def Reg.HIF_ADM_SIZE.CQ_SIZE : Fld := { off := 0x100110, lo := 16, w := 16, acc := .rw, scope := .function, perFn := true }
/-! HIF_ADM_CTRL (R187, 05_command_rings_and_packets.md) -/
def Reg.HIF_ADM_CTRL.ENABLE : Fld := { off := 0x100114, lo := 0, w := 1, acc := .rw, scope := .function, perFn := true }
def Reg.HIF_ADM_CTRL.READY : Fld := { off := 0x100114, lo := 1, w := 1, acc := .ro, scope := .function, perFn := true }
def Reg.HIF_ADM_CTRL.CFG_ERR : Fld := { off := 0x100114, lo := 2, w := 1, acc := .w1c, scope := .function, perFn := true }
/-! HIF_ASYNC (R188, 05_command_rings_and_packets.md) -/
def Reg.HIF_ASYNC.PEND : Fld := { off := 0x100118, lo := 1, w := 10, acc := .w1c, scope := .function, perFn := true }
/-! HIF_ASYNC_MASK (R188, 05_command_rings_and_packets.md) -/
def Reg.HIF_ASYNC_MASK.EN : Fld := { off := 0x10011C, lo := 1, w := 10, acc := .rw, resets := [1023], scope := .function, perFn := true }
/-! HIF_FETCH_ERR (R188, 05_command_rings_and_packets.md) -/
def Reg.HIF_FETCH_ERR.RING : Fld := { off := 0x100120, lo := 0, w := 10, acc := .ro, scope := .function, perFn := true }
def Reg.HIF_FETCH_ERR.REASON : Fld := { off := 0x100120, lo := 10, w := 3, acc := .ro, scope := .function, perFn := true }
def Reg.HIF_FETCH_ERR.VALID : Fld := { off := 0x100120, lo := 31, w := 1, acc := .w1c, scope := .function, perFn := true }
/-! HIF_CTX_FREE (R188, 05_command_rings_and_packets.md) -/
def Reg.HIF_CTX_FREE.FREE : Fld := { off := 0x100124, lo := 0, w := 17, acc := .ro, resets := [0x10000], scope := .warm }
/-! HIF_RING_STATE (R189, 05_command_rings_and_packets.md) -/
def Reg.HIF_RING_STATE.SQ_HEAD : Fld := { off := 0x101000, stride := 16, count := 1024, lo := 0, w := 16, acc := .ro, scope := .function, perFn := true }
def Reg.HIF_RING_STATE.SQ_TAIL : Fld := { off := 0x101000, stride := 16, count := 1024, lo := 16, w := 16, acc := .ro, scope := .function, perFn := true }
def Reg.HIF_RING_STATE.CQ_TAIL : Fld := { off := 0x101004, stride := 16, count := 1024, lo := 0, w := 16, acc := .ro, scope := .function, perFn := true }
def Reg.HIF_RING_STATE.CQ_HEAD : Fld := { off := 0x101004, stride := 16, count := 1024, lo := 16, w := 16, acc := .ro, scope := .function, perFn := true }
def Reg.HIF_RING_STATE.STATE : Fld := { off := 0x101008, stride := 16, count := 1024, lo := 0, w := 2, acc := .ro, scope := .function, perFn := true }
def Reg.HIF_RING_STATE.SCOPE : Fld := { off := 0x101008, stride := 16, count := 1024, lo := 2, w := 1, acc := .ro, scope := .function, perFn := true }
def Reg.HIF_RING_STATE.PHASE : Fld := { off := 0x101008, stride := 16, count := 1024, lo := 3, w := 1, acc := .ro, scope := .function, perFn := true }
def Reg.HIF_RING_STATE.VECTOR : Fld := { off := 0x101008, stride := 16, count := 1024, lo := 4, w := 11, acc := .ro, scope := .function, perFn := true }
def Reg.HIF_RING_STATE.INFLIGHT : Fld := { off := 0x101008, stride := 16, count := 1024, lo := 16, w := 16, acc := .ro, scope := .function, perFn := true }
/-! WBF_DIRTY (R216, 06_ordering_and_write_buffer.md) -/
def Reg.WBF_DIRTY.DIRTY_MIB : Fld := { off := 0x130000, lo := 0, w := 16, acc := .ro }
def Reg.WBF_DIRTY.CEILING_MIB : Fld := { off := 0x130000, lo := 16, w := 16, acc := .ro }
/-! WBF_SPANS (R216, 06_ordering_and_write_buffer.md) -/
def Reg.WBF_SPANS.USED : Fld := { off := 0x130004, lo := 0, w := 16, acc := .ro }
def Reg.WBF_SPANS.MAX : Fld := { off := 0x130004, lo := 16, w := 16, acc := .ro, resets := [24576] }
/-! WBF_CFG (R217, 06_ordering_and_write_buffer.md) -/
def Reg.WBF_CFG.GROUP_WAIT : Fld := { off := 0x130008, lo := 0, w := 16, acc := .rwl, resets := [10000], vlo := 1000, vhi := 60000 }
def Reg.WBF_CFG.LOCK : Fld := { off := 0x130008, lo := 31, w := 1, acc := .w1s }
/-! WBF_EVT (R218, 06_ordering_and_write_buffer.md) -/
def Reg.WBF_EVT.SPAN_FULL : Fld := { off := 0x13000C, lo := 0, w := 1, acc := .w1c }
def Reg.WBF_EVT.GROUP_EXPIRED : Fld := { off := 0x13000C, lo := 1, w := 1, acc := .w1c }
def Reg.WBF_EVT.MERGE_LOST : Fld := { off := 0x13000C, lo := 2, w := 1, acc := .w1c }
/-! WBF_OSN (R218, 06_ordering_and_write_buffer.md) -/
def Reg.WBF_OSN.LAST : Fld := { off := 0x130010, lo := 0, w := 64, acc := .ro }
/-! FRM_BUDGET (R241, 07_frame_energy_scheduler.md) -/
def Reg.FRM_BUDGET.CAP : Fld := { off := 0x30000, lo := 0, w := 16, acc := .rw }
def Reg.FRM_BUDGET.RATED : Fld := { off := 0x30000, lo := 16, w := 16, acc := .rwl, resets := [200], vlo := 1, vhi := 65535 }
/-! FRM_BASE (R241, 07_frame_energy_scheduler.md) -/
def Reg.FRM_BASE.BASE : Fld := { off := 0x30004, lo := 0, w := 16, acc := .rwl, resets := [400] }
/-! FRM_STATUS (R242, 07_frame_energy_scheduler.md) -/
def Reg.FRM_STATUS.TF : Fld := { off := 0x30008, lo := 0, w := 9, acc := .ro, resets := [256] }
def Reg.FRM_STATUS.MODE : Fld := { off := 0x30008, lo := 9, w := 2, acc := .ro }
def Reg.FRM_STATUS.THROTTLED : Fld := { off := 0x30008, lo := 11, w := 1, acc := .ro }
def Reg.FRM_STATUS.OVER_CARRY : Fld := { off := 0x30008, lo := 12, w := 1, acc := .ro }
def Reg.FRM_STATUS.OVERDRAW : Fld := { off := 0x30008, lo := 13, w := 1, acc := .w1c }
/-! FRM_POWER (R242, 07_frame_energy_scheduler.md) -/
def Reg.FRM_POWER.WORK : Fld := { off := 0x3000C, lo := 0, w := 16, acc := .ro }
def Reg.FRM_POWER.HOLD : Fld := { off := 0x3000C, lo := 16, w := 16, acc := .ro }
/-! FRM_POWER2 (R242, 07_frame_energy_scheduler.md) -/
def Reg.FRM_POWER2.FAN : Fld := { off := 0x30010, lo := 0, w := 16, acc := .ro }
def Reg.FRM_POWER2.CARRIED : Fld := { off := 0x30010, lo := 16, w := 16, acc := .ro }
/-! FRM_WEIGHT (R243, 07_frame_energy_scheduler.md) -/
def Reg.FRM_WEIGHT.RD : Fld := { off := 0x30014, lo := 0, w := 4, acc := .rwl, resets := [8], vlo := 1, vhi := 15 }
def Reg.FRM_WEIGHT.WR : Fld := { off := 0x30014, lo := 4, w := 4, acc := .rwl, resets := [6], vlo := 1, vhi := 15 }
def Reg.FRM_WEIGHT.GC : Fld := { off := 0x30014, lo := 8, w := 4, acc := .rwl, resets := [3] }
def Reg.FRM_WEIGHT.RB : Fld := { off := 0x30014, lo := 12, w := 4, acc := .rwl, resets := [2] }
def Reg.FRM_WEIGHT.PT : Fld := { off := 0x30014, lo := 16, w := 4, acc := .rwl, resets := [1] }
def Reg.FRM_WEIGHT.GC_URGENT : Fld := { off := 0x30014, lo := 20, w := 4, acc := .rwl, resets := [12] }
/-! FRM_CFG (R243, 07_frame_energy_scheduler.md) -/
def Reg.FRM_CFG.CARRY_PCT : Fld := { off := 0x30018, lo := 0, w := 7, acc := .rwl, resets := [80], vlo := 50, vhi := 95 }
def Reg.FRM_CFG.CREDIT_FRAMES : Fld := { off := 0x30018, lo := 8, w := 3, acc := .rwl, resets := [4], vlo := 1, vhi := 7 }
def Reg.FRM_CFG.OVER_LIMIT : Fld := { off := 0x30018, lo := 16, w := 8, acc := .rwl, resets := [10], vlo := 1, vhi := 255 }
/-! FRM_HOLDUP (R244, 07_frame_energy_scheduler.md) -/
def Reg.FRM_HOLDUP.OVH : Fld := { off := 0x3001C, lo := 0, w := 8, acc := .rwl, resets := [64] }
def Reg.FRM_HOLDUP.MARGIN : Fld := { off := 0x3001C, lo := 8, w := 8, acc := .rwl, vlo := 0, vhi := 50 }
def Reg.FRM_HOLDUP.DRAIN_W : Fld := { off := 0x3001C, lo := 16, w := 16, acc := .rwl, resets := [220], vlo := 1, vhi := 65535 }
/-! FRM_DRAIN (R244, 07_frame_energy_scheduler.md) -/
def Reg.FRM_DRAIN.RATE : Fld := { off := 0x30020, lo := 0, w := 16, acc := .rwl, resets := [400], vlo := 1, vhi := 65535 }
/-! FRM_JPB (R244, 07_frame_energy_scheduler.md) -/
def Reg.FRM_JPB.MODEL : Fld := { off := 0x30024, lo := 0, w := 16, acc := .ro, resets := [550] }
def Reg.FRM_JPB.MEAS : Fld := { off := 0x30024, lo := 16, w := 16, acc := .ro, scope := .kept }
/-! FRM_CEILING (R244, 07_frame_energy_scheduler.md) -/
def Reg.FRM_CEILING.CEIL_MIB : Fld := { off := 0x30028, lo := 0, w := 16, acc := .ro }
def Reg.FRM_CEILING.SOURCE : Fld := { off := 0x30028, lo := 16, w := 3, acc := .ro }
/-! FRM_CTRL (R245, 07_frame_energy_scheduler.md) -/
def Reg.FRM_CTRL.LOCK : Fld := { off := 0x3002C, lo := 0, w := 1, acc := .w1s }
/-! FRM_COUNT (R245, 07_frame_energy_scheduler.md) -/
def Reg.FRM_COUNT.FRAMES : Fld := { off := 0x30030, lo := 0, w := 64, acc := .ro }
/-! FRM_OVER (R245, 07_frame_energy_scheduler.md) -/
def Reg.FRM_OVER.OVERDRAW : Fld := { off := 0x30038, lo := 0, w := 16, acc := .ro, scope := .kept }
def Reg.FRM_OVER.SUSPEND : Fld := { off := 0x30038, lo := 16, w := 16, acc := .ro, scope := .kept }
/-! FRM_COST (R246, 07_frame_energy_scheduler.md) -/
def Reg.FRM_COST.LO : Fld := { off := 0x30100, stride := 4, count := 8, lo := 0, w := 16, acc := .rwl, resets := [150, 120, 3000, 210, 2000, 0, 0, 0] }
def Reg.FRM_COST.HI : Fld := { off := 0x30100, stride := 4, count := 8, lo := 16, w := 16, acc := .rwl, resets := [130, 350, 100, 60, 5000, 0, 0, 0] }
/-! FRM_PCLASS (R246, 07_frame_energy_scheduler.md) -/
def Reg.FRM_PCLASS.LO : Fld := { off := 0x30200, stride := 4, count := 32, lo := 0, w := 16, acc := .ro }
def Reg.FRM_PCLASS.HI : Fld := { off := 0x30200, stride := 4, count := 32, lo := 16, w := 16, acc := .ro }
/-! FRM_CHAN_TBL (R246, 07_frame_energy_scheduler.md) -/
def Reg.FRM_CHAN_TBL.ALL : Fld := { off := 0x30280, stride := 4, count := 4, lo := 0, w := 32, acc := .ro }
/-! CHN_ENG_CTRL (R275, 08_flash_channels.md) -/
def Reg.CHN_ENG_CTRL.RESTART : Fld := { off := 0x200000, stride := 4096, count := 64, lo := 0, w := 1, acc := .wo, scope := .none }
def Reg.CHN_ENG_CTRL.LOCK : Fld := { off := 0x200000, stride := 4096, count := 64, lo := 1, w := 1, acc := .w1s }
/-! CHN_ENG_STATUS (R275, 08_flash_channels.md) -/
def Reg.CHN_ENG_STATUS.STATE : Fld := { off := 0x200004, stride := 4096, count := 64, lo := 0, w := 3, acc := .ro }
def Reg.CHN_ENG_STATUS.RATE : Fld := { off := 0x200004, stride := 4096, count := 64, lo := 3, w := 4, acc := .ro }
def Reg.CHN_ENG_STATUS.BO_MODE : Fld := { off := 0x200004, stride := 4096, count := 64, lo := 7, w := 1, acc := .ro }
def Reg.CHN_ENG_STATUS.BUSY_LUNS : Fld := { off := 0x200004, stride := 4096, count := 64, lo := 8, w := 6, acc := .ro }
def Reg.CHN_ENG_STATUS.SUSP_LUNS : Fld := { off := 0x200004, stride := 4096, count := 64, lo := 14, w := 6, acc := .ro }
/-! CHN_POP (R276, 08_flash_channels.md) -/
def Reg.CHN_POP.TARGETS : Fld := { off := 0x200008, stride := 4096, count := 64, lo := 0, w := 4, acc := .rwl, vlo := 0, vhi := 8 }
def Reg.CHN_POP.LUNS : Fld := { off := 0x200008, stride := 4096, count := 64, lo := 4, w := 3, acc := .rwl, vlo := 1, vhi := 4 }
def Reg.CHN_POP.PLANES : Fld := { off := 0x200008, stride := 4096, count := 64, lo := 7, w := 3, acc := .rwl, vlo := 1, vhi := 4 }
/-! CHN_LUN_FAIL (R276, 08_flash_channels.md) -/
def Reg.CHN_LUN_FAIL.FAILED : Fld := { off := 0x20000C, stride := 4096, count := 64, lo := 0, w := 32, acc := .ro }
/-! CHN_RAW_EN (R276, 08_flash_channels.md) -/
def Reg.CHN_RAW_EN.RAW : Fld := { off := 0x200010, stride := 4096, count := 64, lo := 0, w := 32, acc := .rwl }
/-! CHN_RAW_ACT (R276, 08_flash_channels.md) -/
def Reg.CHN_RAW_ACT.RAW : Fld := { off := 0x200014, stride := 4096, count := 64, lo := 0, w := 32, acc := .ro }
/-! CHN_SUSP_CFG (R277, 08_flash_channels.md) -/
def Reg.CHN_SUSP_CFG.E_EN : Fld := { off := 0x200018, stride := 4096, count := 64, lo := 0, w := 1, acc := .rw, resets := [1] }
def Reg.CHN_SUSP_CFG.P_EN : Fld := { off := 0x200018, stride := 4096, count := 64, lo := 1, w := 1, acc := .rw, resets := [1] }
def Reg.CHN_SUSP_CFG.REMAIN_MIN : Fld := { off := 0x200018, stride := 4096, count := 64, lo := 2, w := 10, acc := .rw, resets := [100], vlo := 10, vhi := 1000 }
def Reg.CHN_SUSP_CFG.HOLD_MAX : Fld := { off := 0x200018, stride := 4096, count := 64, lo := 12, w := 10, acc := .rw, resets := [100], vlo := 10, vhi := 1000 }
/-! CHN_FAULT (R278, 08_flash_channels.md) -/
def Reg.CHN_FAULT.CODE : Fld := { off := 0x20001C, stride := 4096, count := 64, lo := 0, w := 4, acc := .ro }
def Reg.CHN_FAULT.LUN : Fld := { off := 0x20001C, stride := 4096, count := 64, lo := 4, w := 5, acc := .ro }
def Reg.CHN_FAULT.VALID : Fld := { off := 0x20001C, stride := 4096, count := 64, lo := 31, w := 1, acc := .w1c }
/-! CHN_FAULT_ADDR (R278, 08_flash_channels.md) -/
def Reg.CHN_FAULT_ADDR.ADDR : Fld := { off := 0x200020, stride := 4096, count := 64, lo := 0, w := 40, acc := .ro }
/-! CHN_CNT (R278, 08_flash_channels.md) -/
def Reg.CHN_CNT.SUSPENDS : Fld := { off := 0x200028, stride := 4096, count := 64, lo := 0, w := 16, acc := .ro, scope := .kept }
def Reg.CHN_CNT.CHECK_FAULTS : Fld := { off := 0x200028, stride := 4096, count := 64, lo := 16, w := 16, acc := .ro, scope := .kept }
/-! CHN_TRAIN (R278, 08_flash_channels.md) -/
def Reg.CHN_TRAIN.TEMP : Fld := { off := 0x20002C, stride := 4096, count := 64, lo := 0, w := 16, acc := .ro }
def Reg.CHN_TRAIN.COUNT : Fld := { off := 0x20002C, stride := 4096, count := 64, lo := 16, w := 8, acc := .ro, scope := .kept }
/-! UCS_STATUS (R307, 09_channel_microcode.md) -/
def Reg.UCS_STATUS.SOURCE : Fld := { off := 0x240000, lo := 0, w := 2, acc := .ro }
def Reg.UCS_STATUS.LOAD_BUSY : Fld := { off := 0x240000, lo := 2, w := 1, acc := .ro }
def Reg.UCS_STATUS.SWAP_PENDING : Fld := { off := 0x240000, lo := 3, w := 1, acc := .ro }
def Reg.UCS_STATUS.DIE_COUNT : Fld := { off := 0x240000, lo := 4, w := 4, acc := .ro }
def Reg.UCS_STATUS.KEY_ID : Fld := { off := 0x240000, lo := 8, w := 1, acc := .ro }
/-! UCS_VERSION (R307, 09_channel_microcode.md) -/
def Reg.UCS_VERSION.VERSION : Fld := { off := 0x240004, lo := 0, w := 32, acc := .ro }
/-! UCS_CNT (R308, 09_channel_microcode.md) -/
def Reg.UCS_CNT.SWAPS : Fld := { off := 0x240008, lo := 0, w := 16, acc := .ro, scope := .kept }
def Reg.UCS_CNT.OVERRUNS : Fld := { off := 0x240008, lo := 16, w := 16, acc := .ro, scope := .kept }
/-! UCS_TRAP (R308, 09_channel_microcode.md) -/
def Reg.UCS_TRAP.CODE : Fld := { off := 0x24000C, lo := 0, w := 8, acc := .ro }
def Reg.UCS_TRAP.CHANNEL : Fld := { off := 0x24000C, lo := 8, w := 6, acc := .ro }
def Reg.UCS_TRAP.LUN : Fld := { off := 0x24000C, lo := 14, w := 5, acc := .ro }
def Reg.UCS_TRAP.ADDR : Fld := { off := 0x24000C, lo := 19, w := 12, acc := .ro }
def Reg.UCS_TRAP.VALID : Fld := { off := 0x24000C, lo := 31, w := 1, acc := .w1c }
/-! UCS_RD_ADDR (R309, 09_channel_microcode.md) -/
def Reg.UCS_RD_ADDR.INDEX : Fld := { off := 0x240010, lo := 0, w := 12, acc := .rw, scope := .warm }
def Reg.UCS_RD_ADDR.SPACE : Fld := { off := 0x240010, lo := 12, w := 1, acc := .rw, scope := .warm }
/-! UCS_RD_DATA (R309, 09_channel_microcode.md) -/
def Reg.UCS_RD_DATA.DATA : Fld := { off := 0x240014, stride := 4, count := 4, lo := 0, w := 32, acc := .ro, scope := .warm }
/-! UCS_CTRL (R309, 09_channel_microcode.md) -/
def Reg.UCS_CTRL.LOCK : Fld := { off := 0x240024, lo := 0, w := 1, acc := .w1s }
/-! MIN_STATUS (R334, 10_media_integrity.md) -/
def Reg.MIN_STATUS.PATROL_RUN : Fld := { off := 0x260000, lo := 0, w := 1, acc := .ro }
def Reg.MIN_STATUS.OUTER_RUN : Fld := { off := 0x260000, lo := 1, w := 1, acc := .ro }
def Reg.MIN_STATUS.PAUSED : Fld := { off := 0x260000, lo := 2, w := 1, acc := .ro }
def Reg.MIN_STATUS.OPEN_RECOV : Fld := { off := 0x260000, lo := 16, w := 16, acc := .ro }
/-! MIN_PATROL_CFG (R334, 10_media_integrity.md) -/
def Reg.MIN_PATROL_CFG.RATE : Fld := { off := 0x260004, lo := 0, w := 16, acc := .rw, resets := [400] }
def Reg.MIN_PATROL_CFG.OUTER_PCT : Fld := { off := 0x260004, lo := 16, w := 7, acc := .rwl, resets := [25], vlo := 0, vhi := 100 }
/-! MIN_LADDER_CFG (R335, 10_media_integrity.md) -/
def Reg.MIN_LADDER_CFG.RETRY_MAX : Fld := { off := 0x260008, lo := 0, w := 5, acc := .rwl, resets := [8], vlo := 1, vhi := 30 }
def Reg.MIN_LADDER_CFG.SOFT_SENSES : Fld := { off := 0x260008, lo := 5, w := 1, acc := .rwl, resets := [1] }
def Reg.MIN_LADDER_CFG.LOCK : Fld := { off := 0x260008, lo := 31, w := 1, acc := .w1s }
/-! MIN_PATROL_PROG (R336, 10_media_integrity.md) -/
def Reg.MIN_PATROL_PROG.INNER_PASSES : Fld := { off := 0x26000C, lo := 0, w := 16, acc := .ro, scope := .kept }
def Reg.MIN_PATROL_PROG.INNER_DONE : Fld := { off := 0x26000C, lo := 16, w := 7, acc := .ro }
/-! MIN_PATROL_PROG2 (R336, 10_media_integrity.md) -/
def Reg.MIN_PATROL_PROG2.OUTER_PASSES : Fld := { off := 0x260010, lo := 0, w := 16, acc := .ro, scope := .kept }
def Reg.MIN_PATROL_PROG2.OUTER_DONE : Fld := { off := 0x260010, lo := 16, w := 7, acc := .ro }
/-! MIN_CNT (R336, 10_media_integrity.md) -/
def Reg.MIN_CNT.ROW_MISMATCH : Fld := { off := 0x260014, lo := 0, w := 16, acc := .ro, scope := .kept }
def Reg.MIN_CNT.OUTER_MISMATCH : Fld := { off := 0x260014, lo := 16, w := 16, acc := .ro, scope := .kept }
/-! MIN_CNT2 (R336, 10_media_integrity.md) -/
def Reg.MIN_CNT2.REFRESH_REQ : Fld := { off := 0x260018, lo := 0, w := 16, acc := .ro, scope := .kept }
def Reg.MIN_CNT2.ESCALATED : Fld := { off := 0x260018, lo := 16, w := 16, acc := .ro, scope := .kept }
/-! MIN_FMT (R337, 10_media_integrity.md) -/
def Reg.MIN_FMT.PARITY : Fld := { off := 0x260100, stride := 8, count := 8, lo := 0, w := 16, acc := .ro, resets := [208, 304, 400, 512, 640, 816, 0, 0] }
def Reg.MIN_FMT.CW_BYTES : Fld := { off := 0x260100, stride := 8, count := 8, lo := 16, w := 16, acc := .ro, resets := [4320, 4416, 4512, 4624, 4752, 4928, 0, 0] }
def Reg.MIN_FMT.COLS : Fld := { off := 0x260104, stride := 8, count := 8, lo := 0, w := 8, acc := .ro, resets := [13, 19, 25, 32, 40, 51, 0, 0] }
def Reg.MIN_FMT.REFRESH_BITS : Fld := { off := 0x260104, stride := 8, count := 8, lo := 8, w := 8, acc := .rwl, resets := [72, 104, 136, 176, 224, 288, 0, 0], vlo := 1, vhi := 255 }
/-! MIN_HMAT_ADDR (R338, 10_media_integrity.md) -/
def Reg.MIN_HMAT_ADDR.FMT : Fld := { off := 0x260200, lo := 0, w := 3, acc := .rw, scope := .warm }
def Reg.MIN_HMAT_ADDR.ROW : Fld := { off := 0x260200, lo := 3, w := 6, acc := .rw, scope := .warm }
def Reg.MIN_HMAT_ADDR.COL : Fld := { off := 0x260200, lo := 9, w := 9, acc := .rw, scope := .warm }
/-! MIN_HMAT_DATA (R338, 10_media_integrity.md) -/
def Reg.MIN_HMAT_DATA.SHIFT : Fld := { off := 0x260204, lo := 0, w := 8, acc := .ro, scope := .warm }
def Reg.MIN_HMAT_DATA.VALID : Fld := { off := 0x260204, lo := 8, w := 1, acc := .ro, scope := .warm }
/-! FTL_CAPACITY (R370, 11_translation_and_media_management.md) -/
def Reg.FTL_CAPACITY.BLOCKS : Fld := { off := 0x280000, lo := 0, w := 48, acc := .ro }
def Reg.FTL_CAPACITY.OP_PCT : Fld := { off := 0x280000, lo := 48, w := 8, acc := .ro }
/-! FTL_GC_CFG (R370, 11_translation_and_media_management.md) -/
def Reg.FTL_GC_CFG.GC_START : Fld := { off := 0x280008, lo := 0, w := 8, acc := .rwl, resets := [48] }
def Reg.FTL_GC_CFG.GC_CRIT : Fld := { off := 0x280008, lo := 8, w := 8, acc := .rwl, resets := [16] }
def Reg.FTL_GC_CFG.RESERVE_MIN : Fld := { off := 0x280008, lo := 16, w := 8, acc := .rwl, resets := [8], vlo := 4, vhi := 255 }
def Reg.FTL_GC_CFG.LOCK : Fld := { off := 0x280008, lo := 31, w := 1, acc := .w1s }
/-! FTL_WEAR_CFG (R371, 11_translation_and_media_management.md) -/
def Reg.FTL_WEAR_CFG.SPREAD_LIMIT : Fld := { off := 0x28000C, lo := 0, w := 12, acc := .rwl, resets := [200], vlo := 50, vhi := 4095 }
def Reg.FTL_WEAR_CFG.RATED_PE : Fld := { off := 0x28000C, lo := 12, w := 16, acc := .ro }
/-! FTL_WEAR (R371, 11_translation_and_media_management.md) -/
def Reg.FTL_WEAR.MIN_EC : Fld := { off := 0x280010, lo := 0, w := 16, acc := .ro, scope := .kept }
def Reg.FTL_WEAR.MAX_EC : Fld := { off := 0x280010, lo := 16, w := 16, acc := .ro, scope := .kept }
/-! FTL_FREE (R371, 11_translation_and_media_management.md) -/
def Reg.FTL_FREE.BANDS : Fld := { off := 0x280014, lo := 0, w := 16, acc := .ro }
def Reg.FTL_FREE.STATE : Fld := { off := 0x280014, lo := 16, w := 2, acc := .ro }
def Reg.FTL_FREE.OPEN : Fld := { off := 0x280014, lo := 18, w := 6, acc := .ro }
def Reg.FTL_FREE.RANGES : Fld := { off := 0x280014, lo := 24, w := 7, acc := .ro }
/-! FTL_HEALTH (R372, 11_translation_and_media_management.md) -/
def Reg.FTL_HEALTH.GRADE : Fld := { off := 0x280018, lo := 0, w := 2, acc := .ro, scope := .kept }
def Reg.FTL_HEALTH.READ_ONLY : Fld := { off := 0x280018, lo := 2, w := 1, acc := .ro, scope := .kept }
def Reg.FTL_HEALTH.SPARE_PCT : Fld := { off := 0x280018, lo := 8, w := 8, acc := .ro, scope := .kept }
def Reg.FTL_HEALTH.WEAR_PCT : Fld := { off := 0x280018, lo := 16, w := 8, acc := .ro, scope := .kept }
/-! FTL_JOURNAL (R372, 11_translation_and_media_management.md) -/
def Reg.FTL_JOURNAL.MIB : Fld := { off := 0x28001C, lo := 0, w := 13, acc := .ro }
def Reg.FTL_JOURNAL.URGENT : Fld := { off := 0x28001C, lo := 13, w := 1, acc := .ro }
/-! GLI_STATUS (R391, 12_peer_group_membership.md) -/
def Reg.GLI_STATUS.STATE : Fld := { off := 0x300000, lo := 0, w := 3, acc := .ro }
def Reg.GLI_STATUS.STEWARD : Fld := { off := 0x300000, lo := 3, w := 1, acc := .ro }
def Reg.GLI_STATUS.DEPUTY : Fld := { off := 0x300000, lo := 4, w := 1, acc := .ro }
def Reg.GLI_STATUS.MEMBER : Fld := { off := 0x300000, lo := 8, w := 5, acc := .ro }
def Reg.GLI_STATUS.GROUP : Fld := { off := 0x300000, lo := 16, w := 16, acc := .ro }
/-! GLI_VIEW (R391, 12_peer_group_membership.md) -/
def Reg.GLI_VIEW.VIEW : Fld := { off := 0x300004, lo := 0, w := 32, acc := .ro }
/-! GLI_MEMBERS (R392, 12_peer_group_membership.md) -/
def Reg.GLI_MEMBERS.MASK : Fld := { off := 0x300008, lo := 0, w := 24, acc := .ro }
/-! GLI_ROLES (R392, 12_peer_group_membership.md) -/
def Reg.GLI_ROLES.STEWARD : Fld := { off := 0x30000C, lo := 0, w := 5, acc := .ro }
def Reg.GLI_ROLES.DEPUTY : Fld := { off := 0x30000C, lo := 8, w := 5, acc := .ro }
/-! GLI_LINKED (R392, 12_peer_group_membership.md) -/
def Reg.GLI_LINKED.MASK : Fld := { off := 0x300010, lo := 0, w := 24, acc := .ro }
/-! GLI_CFG (R393, 12_peer_group_membership.md) -/
def Reg.GLI_CFG.BEACON_INT : Fld := { off := 0x300014, lo := 0, w := 14, acc := .rwl, resets := [1000], vlo := 100, vhi := 10000 }
def Reg.GLI_CFG.LOCK : Fld := { off := 0x300014, lo := 31, w := 1, acc := .w1s }
/-! GLI_CNT (R393, 12_peer_group_membership.md) -/
def Reg.GLI_CNT.AUTH_FAIL : Fld := { off := 0x300018, lo := 0, w := 16, acc := .ro, scope := .kept }
def Reg.GLI_CNT.VIEWS : Fld := { off := 0x300018, lo := 16, w := 16, acc := .ro, scope := .kept }
/-! GLI_PEER (R394, 12_peer_group_membership.md) -/
def Reg.GLI_PEER.SESSION : Fld := { off := 0x300100, stride := 16, count := 24, lo := 0, w := 2, acc := .ro }
def Reg.GLI_PEER.IN_VIEW : Fld := { off := 0x300100, stride := 16, count := 24, lo := 2, w := 1, acc := .ro }
def Reg.GLI_PEER.MISSED : Fld := { off := 0x300100, stride := 16, count := 24, lo := 8, w := 8, acc := .ro }
def Reg.GLI_PEER.REQ_ID : Fld := { off := 0x300100, stride := 16, count := 24, lo := 16, w := 16, acc := .ro }
def Reg.GLI_PEER.INCARNATION : Fld := { off := 0x300104, stride := 16, count := 24, lo := 0, w := 32, acc := .ro }
def Reg.GLI_PEER.EPOCH : Fld := { off := 0x300108, stride := 16, count := 24, lo := 0, w := 32, acc := .ro }
/-! GLI_STRIPE_CFG (R423, 13_peer_stripes_and_rebuild.md) -/
def Reg.GLI_STRIPE_CFG.K : Fld := { off := 0x301000, lo := 0, w := 5, acc := .rwl, resets := [22], vlo := 4, vhi := 22 }
def Reg.GLI_STRIPE_CFG.AHEAD : Fld := { off := 0x301000, lo := 5, w := 3, acc := .rwl, resets := [2], vlo := 2, vhi := 4 }
def Reg.GLI_STRIPE_CFG.SEAL_WAIT : Fld := { off := 0x301000, lo := 16, w := 16, acc := .rwl, resets := [1000], vlo := 10, vhi := 60000 }
/-! GLI_STRIPE_CNT (R424, 13_peer_stripes_and_rebuild.md) -/
def Reg.GLI_STRIPE_CNT.OPEN : Fld := { off := 0x301004, lo := 0, w := 8, acc := .ro }
def Reg.GLI_STRIPE_CNT.DEGRADED : Fld := { off := 0x301004, lo := 8, w := 16, acc := .ro }
/-! GLI_STRIPE_LOST (R424, 13_peer_stripes_and_rebuild.md) -/
def Reg.GLI_STRIPE_LOST.COUNT : Fld := { off := 0x301008, lo := 0, w := 32, acc := .ro }
/-! GLI_REBUILD (R424, 13_peer_stripes_and_rebuild.md) -/
def Reg.GLI_REBUILD.TARGET : Fld := { off := 0x30100C, lo := 0, w := 1, acc := .ro }
def Reg.GLI_REBUILD.PLANNING : Fld := { off := 0x30100C, lo := 1, w := 1, acc := .ro }
def Reg.GLI_REBUILD.RATE : Fld := { off := 0x30100C, lo := 16, w := 16, acc := .ro }
/-! GLI_WITHDRAWN (R424, 13_peer_stripes_and_rebuild.md) -/
def Reg.GLI_WITHDRAWN.COUNT : Fld := { off := 0x301010, lo := 0, w := 32, acc := .ro }
/-! DRC_STATUS (R453, 14_dram_and_memory_protection.md) -/
def Reg.DRC_STATUS.IN_SERVICE : Fld := { off := 0x160000, lo := 0, w := 8, acc := .ro }
def Reg.DRC_STATUS.FAILED : Fld := { off := 0x160000, lo := 8, w := 8, acc := .ro }
def Reg.DRC_STATUS.BLOOM_A : Fld := { off := 0x160000, lo := 16, w := 3, acc := .ro }
def Reg.DRC_STATUS.BLOOM_B : Fld := { off := 0x160000, lo := 19, w := 3, acc := .ro }
def Reg.DRC_STATUS.TRN_SC : Fld := { off := 0x160000, lo := 22, w := 3, acc := .ro }
def Reg.DRC_STATUS.TRN_BUSY : Fld := { off := 0x160000, lo := 25, w := 1, acc := .ro }
def Reg.DRC_STATUS.SELF_REFRESH : Fld := { off := 0x160000, lo := 26, w := 1, acc := .ro }
/-! DRC_GEOM (R453, 14_dram_and_memory_protection.md) -/
def Reg.DRC_GEOM.DENSITY : Fld := { off := 0x16000C, lo := 0, w := 2, acc := .rwl, vlo := 0, vhi := 2 }
def Reg.DRC_GEOM.RANKS : Fld := { off := 0x16000C, lo := 2, w := 1, acc := .rwl }
def Reg.DRC_GEOM.MAX_RATE : Fld := { off := 0x16000C, lo := 3, w := 2, acc := .rwl, vlo := 1, vhi := 3 }
/-! DRC_CFG (R454, 14_dram_and_memory_protection.md) -/
def Reg.DRC_CFG.QUOTA : Fld := { off := 0x160004, lo := 0, w := 6, acc := .rwl, resets := [48], vlo := 1, vhi := 62 }
def Reg.DRC_CFG.QUOTA_TRN : Fld := { off := 0x160004, lo := 8, w := 6, acc := .rwl, resets := [22] }
def Reg.DRC_CFG.AGE_LIMIT : Fld := { off := 0x160004, lo := 16, w := 12, acc := .rwl, resets := [200], vlo := 50, vhi := 4000 }
/-! DRC_CFG2 (R454, 14_dram_and_memory_protection.md) -/
def Reg.DRC_CFG2.PAGE_IDLE : Fld := { off := 0x160008, lo := 0, w := 8, acc := .rwl, resets := [20], vlo := 1, vhi := 255 }
def Reg.DRC_CFG2.LOCK : Fld := { off := 0x160008, lo := 31, w := 1, acc := .w1s }
/-! DRC_SC (R455, 14_dram_and_memory_protection.md) -/
def Reg.DRC_SC.STATE : Fld := { off := 0x160100, stride := 32, count := 8, lo := 0, w := 3, acc := .ro }
def Reg.DRC_SC.RATE : Fld := { off := 0x160100, stride := 32, count := 8, lo := 3, w := 2, acc := .ro }
def Reg.DRC_SC.GRANULES : Fld := { off := 0x160100, stride := 32, count := 8, lo := 5, w := 16, acc := .ro }
def Reg.DRC_SC.TAG_TEMP : Fld := { off := 0x160104, stride := 32, count := 8, lo := 0, w := 16, acc := .ro }
def Reg.DRC_SC.TAG_MV : Fld := { off := 0x160104, stride := 32, count := 8, lo := 16, w := 16, acc := .ro }
def Reg.DRC_SC.TRAININGS : Fld := { off := 0x160108, stride := 32, count := 8, lo := 0, w := 16, acc := .ro }
def Reg.DRC_SC.CE_1S : Fld := { off := 0x160108, stride := 32, count := 8, lo := 16, w := 8, acc := .ro }
def Reg.DRC_SC.UNINIT_READS : Fld := { off := 0x16010C, stride := 32, count := 8, lo := 0, w := 32, acc := .ro }
/-! MEM_CFG (R456, 14_dram_and_memory_protection.md) -/
def Reg.MEM_CFG.SCRUB_RATE : Fld := { off := 0x170000, lo := 0, w := 13, acc := .rwl, resets := [400], vlo := 40, vhi := 4000 }
def Reg.MEM_CFG.CE_RETRAIN : Fld := { off := 0x170000, lo := 16, w := 8, acc := .rwl, resets := [16], vlo := 1, vhi := 255 }
def Reg.MEM_CFG.DEV_LIMIT : Fld := { off := 0x170000, lo := 24, w := 8, acc := .rwl, resets := [64], vlo := 1, vhi := 255 }
/-! MEM_CFG2 (R456, 14_dram_and_memory_protection.md) -/
def Reg.MEM_CFG2.UE_LIMIT : Fld := { off := 0x170004, lo := 0, w := 4, acc := .rwl, resets := [4], vlo := 1, vhi := 15 }
def Reg.MEM_CFG2.LOCK : Fld := { off := 0x170004, lo := 31, w := 1, acc := .w1s }
/-! MEM_SCRUB (R456, 14_dram_and_memory_protection.md) -/
def Reg.MEM_SCRUB.PASSES : Fld := { off := 0x170008, lo := 0, w := 16, acc := .ro, scope := .kept }
def Reg.MEM_SCRUB.DONE : Fld := { off := 0x170008, lo := 16, w := 7, acc := .ro }
/-! MEM_SC (R457, 14_dram_and_memory_protection.md) -/
def Reg.MEM_SC.CE : Fld := { off := 0x170100, stride := 32, count := 8, lo := 0, w := 32, acc := .ro, scope := .kept }
def Reg.MEM_SC.UE : Fld := { off := 0x170104, stride := 32, count := 8, lo := 0, w := 16, acc := .ro, scope := .kept }
def Reg.MEM_SC.REMAP_USED : Fld := { off := 0x170104, stride := 32, count := 8, lo := 16, w := 6, acc := .ro }
def Reg.MEM_SC.LAST : Fld := { off := 0x170108, stride := 32, count := 8, lo := 0, w := 35, acc := .ro }
def Reg.MEM_SC.DEVICE : Fld := { off := 0x170108, stride := 32, count := 8, lo := 35, w := 4, acc := .ro }
def Reg.MEM_SC.UNCORR : Fld := { off := 0x170108, stride := 32, count := 8, lo := 39, w := 1, acc := .ro }
/-! MEM_REMAP (R458, 14_dram_and_memory_protection.md) -/
def Reg.MEM_REMAP.LINE : Fld := { off := 0x171000, stride := 8, count := 256, lo := 0, w := 29, acc := .ro }
def Reg.MEM_REMAP.VALID : Fld := { off := 0x171000, stride := 8, count := 256, lo := 29, w := 1, acc := .ro }
def Reg.MEM_REMAP.POISON : Fld := { off := 0x171000, stride := 8, count := 256, lo := 30, w := 1, acc := .ro }
/-! BPM_STATUS (R483, 15_buffer_pool_and_associative_engine.md) -/
def Reg.BPM_STATUS.FREE : Fld := { off := 0x150000, lo := 0, w := 15, acc := .ro, resets := [16384] }
def Reg.BPM_STATUS.BACKPRESSURE : Fld := { off := 0x150000, lo := 15, w := 1, acc := .ro }
def Reg.BPM_STATUS.SHARED_FREE : Fld := { off := 0x150000, lo := 16, w := 15, acc := .ro, resets := [6400] }
def Reg.BPM_STATUS.CRITICAL : Fld := { off := 0x150000, lo := 31, w := 1, acc := .ro }
/-! BPM_CFG (R483, 15_buffer_pool_and_associative_engine.md) -/
def Reg.BPM_CFG.WARN : Fld := { off := 0x150004, lo := 0, w := 15, acc := .rwl, resets := [1024], vlo := 64, vhi := 4096 }
def Reg.BPM_CFG.CRIT : Fld := { off := 0x150004, lo := 16, w := 15, acc := .rwl, resets := [256], vlo := 16, vhi := 4095 }
def Reg.BPM_CFG.LOCK : Fld := { off := 0x150004, lo := 31, w := 1, acc := .w1s }
/-! BPM_POLICY (R483, 15_buffer_pool_and_associative_engine.md) -/
def Reg.BPM_POLICY.POLICY : Fld := { off := 0x150008, lo := 0, w := 1, acc := .rw }
/-! BPM_EVT (R484, 15_buffer_pool_and_associative_engine.md) -/
def Reg.BPM_EVT.PARITY : Fld := { off := 0x15000C, lo := 0, w := 1, acc := .w1c }
def Reg.BPM_EVT.DOUBLE_FREE : Fld := { off := 0x15000C, lo := 1, w := 1, acc := .w1c }
def Reg.BPM_EVT.STALE : Fld := { off := 0x15000C, lo := 2, w := 1, acc := .w1c }
def Reg.BPM_EVT.ZERO_REQ : Fld := { off := 0x15000C, lo := 3, w := 1, acc := .w1c }
def Reg.BPM_EVT.BAD_REQ : Fld := { off := 0x15000C, lo := 4, w := 1, acc := .w1c }
def Reg.BPM_EVT.FREE_ACCESS : Fld := { off := 0x15000C, lo := 5, w := 1, acc := .w1c }
def Reg.BPM_EVT.REF_OVERFLOW : Fld := { off := 0x15000C, lo := 6, w := 1, acc := .w1c }
/-! BPM_CNT (R484, 15_buffer_pool_and_associative_engine.md) -/
def Reg.BPM_CNT.PARITY : Fld := { off := 0x150010, lo := 0, w := 16, acc := .ro, scope := .kept }
def Reg.BPM_CNT.FREE_FAULTS : Fld := { off := 0x150010, lo := 16, w := 16, acc := .ro, scope := .kept }
/-! BPM_OWN (R485, 15_buffer_pool_and_associative_engine.md) -/
def Reg.BPM_OWN.MIN : Fld := { off := 0x150100, stride := 8, count := 8, lo := 0, w := 15, acc := .rwl, resets := [2048, 2048, 2048, 1024, 1024, 512, 256, 1024] }
def Reg.BPM_OWN.MAX : Fld := { off := 0x150100, stride := 8, count := 8, lo := 16, w := 15, acc := .rwl, resets := [8192, 8192, 6144, 4096, 1024, 2048, 1024, 4096], vlo := 0, vhi := 16384 }
def Reg.BPM_OWN.USED : Fld := { off := 0x150104, stride := 8, count := 8, lo := 0, w := 15, acc := .ro }
def Reg.BPM_OWN.WAITING : Fld := { off := 0x150104, stride := 8, count := 8, lo := 15, w := 1, acc := .ro }
def Reg.BPM_OWN.PEAK : Fld := { off := 0x150104, stride := 8, count := 8, lo := 16, w := 15, acc := .ro, scope := .warm }
/-! THI_STATUS (R486, 15_buffer_pool_and_associative_engine.md) -/
def Reg.THI_STATUS.READY : Fld := { off := 0x140000, lo := 0, w := 1, acc := .ro }
def Reg.THI_STATUS.COMPACTING : Fld := { off := 0x140000, lo := 1, w := 1, acc := .ro }
def Reg.THI_STATUS.FREE_UNITS : Fld := { off := 0x140000, lo := 16, w := 16, acc := .ro }
/-! THI_CFG (R486, 15_buffer_pool_and_associative_engine.md) -/
def Reg.THI_CFG.HEAD_ROOM : Fld := { off := 0x140004, lo := 0, w := 8, acc := .rwl, resets := [64], vlo := 16, vhi := 255 }
def Reg.THI_CFG.LOCK : Fld := { off := 0x140004, lo := 31, w := 1, acc := .w1s }
/-! THI_CNT (R486, 15_buffer_pool_and_associative_engine.md) -/
def Reg.THI_CNT.MULTI_HITS : Fld := { off := 0x140008, lo := 0, w := 16, acc := .ro, scope := .kept }
def Reg.THI_CNT.NO_ROOM : Fld := { off := 0x140008, lo := 16, w := 16, acc := .ro, scope := .kept }
/-! THI_OPS (R486, 15_buffer_pool_and_associative_engine.md) -/
def Reg.THI_OPS.COUNT : Fld := { off := 0x14000C, lo := 0, w := 64, acc := .ro }
/-! THI_TABLE (R487, 15_buffer_pool_and_associative_engine.md) -/
def Reg.THI_TABLE.BASE : Fld := { off := 0x140100, stride := 16, count := 8, lo := 0, w := 15, acc := .ro }
def Reg.THI_TABLE.LAST : Fld := { off := 0x140100, stride := 16, count := 8, lo := 16, w := 15, acc := .ro }
def Reg.THI_TABLE.WIDTH : Fld := { off := 0x140104, stride := 16, count := 8, lo := 0, w := 2, acc := .ro }
def Reg.THI_TABLE.ORDERED : Fld := { off := 0x140104, stride := 16, count := 8, lo := 2, w := 1, acc := .ro }
def Reg.THI_TABLE.COUNT : Fld := { off := 0x140104, stride := 16, count := 8, lo := 16, w := 16, acc := .ro }
def Reg.THI_TABLE.FIRST : Fld := { off := 0x140108, stride := 16, count := 8, lo := 0, w := 15, acc := .ro }
/-! THI_RD_ADDR (R488, 15_buffer_pool_and_associative_engine.md) -/
def Reg.THI_RD_ADDR.UNIT : Fld := { off := 0x140200, lo := 0, w := 15, acc := .rw, scope := .warm }
/-! THI_RD_DATA (R488, 15_buffer_pool_and_associative_engine.md) -/
def Reg.THI_RD_DATA.KEY : Fld := { off := 0x140204, stride := 4, count := 2, lo := 0, w := 32, acc := .ro, scope := .warm }
def Reg.THI_RD_DATA.KEY2 : Fld := { off := 0x14020C, lo := 0, w := 16, acc := .ro, scope := .warm }
def Reg.THI_RD_DATA.VALID : Fld := { off := 0x140210, lo := 0, w := 1, acc := .ro, scope := .warm }
def Reg.THI_RD_DATA.WIDTH : Fld := { off := 0x140210, lo := 1, w := 2, acc := .ro, scope := .warm }
def Reg.THI_RD_DATA.TABLE : Fld := { off := 0x140210, lo := 3, w := 3, acc := .ro, scope := .warm }
def Reg.THI_RD_DATA.PRIO : Fld := { off := 0x140210, lo := 6, w := 4, acc := .ro, scope := .warm }
def Reg.THI_RD_DATA.ENTRY : Fld := { off := 0x140210, lo := 10, w := 15, acc := .ro, scope := .warm }
def Reg.THI_RD_DATA.DATA : Fld := { off := 0x140214, stride := 4, count := 2, lo := 0, w := 32, acc := .ro, scope := .warm }
/-! SEC_STATUS (R520, 16_security_and_boot_store.md) -/
def Reg.SEC_STATUS.DEBUG : Fld := { off := 0x380000, lo := 0, w := 2, acc := .ro }
def Reg.SEC_STATUS.TK_SET : Fld := { off := 0x380000, lo := 2, w := 1, acc := .ro }
def Reg.SEC_STATUS.GROUP_KEY : Fld := { off := 0x380000, lo := 3, w := 1, acc := .ro }
def Reg.SEC_STATUS.LOADED : Fld := { off := 0x380000, lo := 4, w := 13, acc := .ro }
def Reg.SEC_STATUS.SWEEPING : Fld := { off := 0x380000, lo := 17, w := 1, acc := .ro }
def Reg.SEC_STATUS.MC_BANKS : Fld := { off := 0x380000, lo := 18, w := 3, acc := .ro }
/-! SEC_KEY_CFG (R520, 16_security_and_boot_store.md) -/
def Reg.SEC_KEY_CFG.LIMIT_LOG2 : Fld := { off := 0x380004, lo := 0, w := 6, acc := .rwl, resets := [40], vlo := 24, vhi := 40 }
def Reg.SEC_KEY_CFG.SWEEP_SPAN : Fld := { off := 0x380004, lo := 6, w := 4, acc := .rwl, resets := [8], vlo := 4, vhi := 12 }
def Reg.SEC_KEY_CFG.LOCK : Fld := { off := 0x380004, lo := 31, w := 1, acc := .w1s }
/-! SEC_CNT (R520, 16_security_and_boot_store.md) -/
def Reg.SEC_CNT.AUTH_FAIL : Fld := { off := 0x380008, lo := 0, w := 16, acc := .ro, scope := .kept }
def Reg.SEC_CNT.ROLLS : Fld := { off := 0x380008, lo := 16, w := 16, acc := .ro, scope := .kept }
/-! SEC_DBG_CTRL (R521, 16_security_and_boot_store.md) -/
def Reg.SEC_DBG_CTRL.CHALLENGE : Fld := { off := 0x380010, lo := 0, w := 1, acc := .wo, scope := .none }
def Reg.SEC_DBG_CTRL.SUBMIT : Fld := { off := 0x380010, lo := 1, w := 1, acc := .wo, scope := .none }
/-! SEC_DBG_CHAL (R521, 16_security_and_boot_store.md) -/
def Reg.SEC_DBG_CHAL.NONCE : Fld := { off := 0x380020, stride := 4, count := 8, lo := 0, w := 32, acc := .ro, scope := .warm }
/-! SEC_DBG_RESP (R521, 16_security_and_boot_store.md) -/
def Reg.SEC_DBG_RESP.SIG : Fld := { off := 0x380040, stride := 4, count := 24, lo := 0, w := 32, acc := .wo, scope := .none }
/-! SEC_REALM_SEL (R522, 16_security_and_boot_store.md) -/
def Reg.SEC_REALM_SEL.SLOT : Fld := { off := 0x3800A0, lo := 0, w := 12, acc := .rw, scope := .warm }
/-! SEC_REALM_FIRST (R522, 16_security_and_boot_store.md) -/
def Reg.SEC_REALM_FIRST.LBA : Fld := { off := 0x3800A8, lo := 0, w := 48, acc := .ro }
/-! SEC_REALM_LAST (R522, 16_security_and_boot_store.md) -/
def Reg.SEC_REALM_LAST.LBA : Fld := { off := 0x3800B0, lo := 0, w := 48, acc := .ro }
/-! SEC_SLOT (R523, 16_security_and_boot_store.md) -/
def Reg.SEC_SLOT.STATE : Fld := { off := 0x388000, stride := 8, count := 4096, lo := 0, w := 2, acc := .ro }
def Reg.SEC_SLOT.AUTO_ROLL : Fld := { off := 0x388000, stride := 8, count := 4096, lo := 2, w := 1, acc := .ro }
def Reg.SEC_SLOT.ORIGIN : Fld := { off := 0x388000, stride := 8, count := 4096, lo := 3, w := 1, acc := .ro }
def Reg.SEC_SLOT.SPAN : Fld := { off := 0x388000, stride := 8, count := 4096, lo := 4, w := 4, acc := .ro }
def Reg.SEC_SLOT.EPOCH : Fld := { off := 0x388000, stride := 8, count := 4096, lo := 8, w := 20, acc := .ro }
def Reg.SEC_SLOT.WARNED : Fld := { off := 0x388000, stride := 8, count := 4096, lo := 28, w := 1, acc := .ro }
def Reg.SEC_SLOT.USAGE : Fld := { off := 0x388004, stride := 8, count := 4096, lo := 0, w := 32, acc := .ro }
/-! BST_STATUS (R524, 16_security_and_boot_store.md) -/
def Reg.BST_STATUS.ACTIVE : Fld := { off := 0x390000, lo := 0, w := 2, acc := .ro }
def Reg.BST_STATUS.RECOVERY : Fld := { off := 0x390000, lo := 2, w := 1, acc := .ro }
def Reg.BST_STATUS.FUSED_SV : Fld := { off := 0x390000, lo := 3, w := 6, acc := .ro }
def Reg.BST_STATUS.FAIL_COUNT : Fld := { off := 0x390000, lo := 9, w := 2, acc := .ro }
def Reg.BST_STATUS.WRITING : Fld := { off := 0x390000, lo := 11, w := 1, acc := .ro }
def Reg.BST_STATUS.ACTIVATING : Fld := { off := 0x390000, lo := 12, w := 1, acc := .ro }
/-! BST_CTRL (R524, 16_security_and_boot_store.md) -/
def Reg.BST_CTRL.LOCK : Fld := { off := 0x390004, lo := 0, w := 1, acc := .w1s }
/-! BST_FETCH (R524, 16_security_and_boot_store.md) -/
def Reg.BST_FETCH.MISS_RATE : Fld := { off := 0x390008, lo := 0, w := 16, acc := .ro, scope := .warm }
def Reg.BST_FETCH.STALLS : Fld := { off := 0x390008, lo := 16, w := 16, acc := .ro, scope := .warm }
/-! BST_SLOT (R525, 16_security_and_boot_store.md) -/
def Reg.BST_SLOT.STATE : Fld := { off := 0x390010, stride := 8, count := 2, lo := 0, w := 2, acc := .ro }
def Reg.BST_SLOT.CHECK : Fld := { off := 0x390010, stride := 8, count := 2, lo := 2, w := 2, acc := .ro }
def Reg.BST_SLOT.SV : Fld := { off := 0x390010, stride := 8, count := 2, lo := 4, w := 6, acc := .ro }
def Reg.BST_SLOT.WRITTEN : Fld := { off := 0x390010, stride := 8, count := 2, lo := 10, w := 12, acc := .ro }
def Reg.BST_SLOT.VERSION : Fld := { off := 0x390014, stride := 8, count := 2, lo := 0, w := 32, acc := .ro }
/-! PWR_STATUS (R546, 17_power_states_and_domains.md) -/
def Reg.PWR_STATUS.STATE : Fld := { off := 0x20000, lo := 0, w := 3, acc := .ro }
def Reg.PWR_STATUS.TARGET : Fld := { off := 0x20000, lo := 3, w := 3, acc := .ro }
def Reg.PWR_STATUS.PHASE : Fld := { off := 0x20000, lo := 6, w := 3, acc := .ro }
def Reg.PWR_STATUS.REFUSED : Fld := { off := 0x20000, lo := 9, w := 1, acc := .w1c }
def Reg.PWR_STATUS.DOMAIN : Fld := { off := 0x20000, lo := 10, w := 8, acc := .ro }
def Reg.PWR_STATUS.ABORT_AT : Fld := { off := 0x20000, lo := 18, w := 2, acc := .ro }
/-! PWR_REQ (R546, 17_power_states_and_domains.md) -/
def Reg.PWR_REQ.F0 : Fld := { off := 0x20004, lo := 0, w := 3, acc := .ro, scope := .function }
def Reg.PWR_REQ.F1 : Fld := { off := 0x20004, lo := 3, w := 3, acc := .ro, scope := .function }
/-! PWR_CFG (R547, 17_power_states_and_domains.md) -/
def Reg.PWR_CFG.IDLE_WAIT : Fld := { off := 0x20008, lo := 0, w := 8, acc := .rwl, resets := [10], vlo := 1, vhi := 255 }
def Reg.PWR_CFG.RETRY : Fld := { off := 0x20008, lo := 8, w := 8, acc := .rwl, resets := [10], vlo := 1, vhi := 255 }
def Reg.PWR_CFG.OFF_EN : Fld := { off := 0x20008, lo := 16, w := 1, acc := .rwl }
def Reg.PWR_CFG.PME_EVT : Fld := { off := 0x20008, lo := 17, w := 3, acc := .rwl, resets := [7] }
def Reg.PWR_CFG.LOCK : Fld := { off := 0x20008, lo := 31, w := 1, acc := .w1s }
/-! PWR_P1_CFG (R547, 17_power_states_and_domains.md) -/
def Reg.PWR_P1_CFG.CAP : Fld := { off := 0x2000C, lo := 0, w := 16, acc := .rw, resets := [120] }
/-! PWR_P1_MASK (R548, 17_power_states_and_domains.md) -/
def Reg.PWR_P1_MASK.OFF : Fld := { off := 0x20010, stride := 4, count := 5, lo := 0, w := 32, acc := .rwl, resets := [0, 0, 0xfe000000, 0x19e1ff, 0x40000000] }
/-! PWR_WAKE (R549, 17_power_states_and_domains.md) -/
def Reg.PWR_WAKE.EI_EXIT : Fld := { off := 0x20030, lo := 0, w := 1, acc := .ro, scope := .hot }
def Reg.PWR_WAKE.CLKREQ : Fld := { off := 0x20030, lo := 1, w := 1, acc := .ro, scope := .hot }
def Reg.PWR_WAKE.PERST : Fld := { off := 0x20030, lo := 2, w := 1, acc := .ro, scope := .warm }
def Reg.PWR_WAKE.TLP_F0 : Fld := { off := 0x20030, lo := 3, w := 1, acc := .ro, scope := .function }
def Reg.PWR_WAKE.TLP_F1 : Fld := { off := 0x20030, lo := 4, w := 1, acc := .ro, scope := .function }
def Reg.PWR_WAKE.INTERNAL : Fld := { off := 0x20030, lo := 5, w := 1, acc := .ro }
/-! PWR_LAT (R549, 17_power_states_and_domains.md) -/
def Reg.PWR_LAT.ENTRY : Fld := { off := 0x20034, lo := 0, w := 16, acc := .ro, scope := .warm }
def Reg.PWR_LAT.EXIT : Fld := { off := 0x20034, lo := 16, w := 16, acc := .ro, scope := .warm }
/-! PWR_CNT (R549, 17_power_states_and_domains.md) -/
def Reg.PWR_CNT.ENTRIES : Fld := { off := 0x20038, lo := 0, w := 16, acc := .ro, scope := .kept }
def Reg.PWR_CNT.ABANDONED : Fld := { off := 0x20038, lo := 16, w := 16, acc := .ro, scope := .kept }
/-! PWR_DOM_STATE (R550, 17_power_states_and_domains.md) -/
def Reg.PWR_DOM_STATE.ALL : Fld := { off := 0x20040, stride := 4, count := 10, lo := 0, w := 32, acc := .ro }
/-! PWR_AVS (R551, 17_power_states_and_domains.md) -/
def Reg.PWR_AVS.REQ_MV : Fld := { off := 0x20080, stride := 8, count := 3, lo := 0, w := 12, acc := .ro, resets := [800, 850, 900] }
def Reg.PWR_AVS.ACK_MV : Fld := { off := 0x20080, stride := 8, count := 3, lo := 12, w := 12, acc := .ro, resets := [800, 850, 900] }
def Reg.PWR_AVS.BUSY : Fld := { off := 0x20080, stride := 8, count := 3, lo := 24, w := 1, acc := .ro }
def Reg.PWR_AVS.FAULT : Fld := { off := 0x20080, stride := 8, count := 3, lo := 25, w := 1, acc := .ro }
def Reg.PWR_AVS.P0_MV : Fld := { off := 0x20084, stride := 8, count := 3, lo := 0, w := 12, acc := .ro }
/-! THM_STATUS (R573, 18_thermal_and_fans.md) -/
def Reg.THM_STATUS.STATE : Fld := { off := 0x40000, lo := 0, w := 2, acc := .ro }
def Reg.THM_STATUS.HOT_CLASS : Fld := { off := 0x40000, lo := 2, w := 2, acc := .ro }
def Reg.THM_STATUS.HOT_INDEX : Fld := { off := 0x40000, lo := 4, w := 11, acc := .ro }
def Reg.THM_STATUS.BROKEN : Fld := { off := 0x40000, lo := 24, w := 8, acc := .ro }
/-! THM_TEMP (R573, 18_thermal_and_fans.md) -/
def Reg.THM_TEMP.COMPOSITE : Fld := { off := 0x40004, lo := 0, w := 16, acc := .ro }
def Reg.THM_TEMP.HOTTEST : Fld := { off := 0x40004, lo := 16, w := 16, acc := .ro }
/-! THM_CFG (R574, 18_thermal_and_fans.md) -/
def Reg.THM_CFG.SP : Fld := { off := 0x40008, lo := 0, w := 8, acc := .rw, resets := [95], vlo := 70, vhi := 100 }
def Reg.THM_CFG.NAND_SP : Fld := { off := 0x40008, lo := 8, w := 8, acc := .rwl, resets := [80], vlo := 50, vhi := 90 }
def Reg.THM_CFG.EXT_SP : Fld := { off := 0x40008, lo := 16, w := 8, acc := .rwl, resets := [70], vlo := 40, vhi := 90 }
def Reg.THM_CFG.SLOPE : Fld := { off := 0x40008, lo := 24, w := 8, acc := .rwl, resets := [16], vlo := 1, vhi := 64 }
/-! THM_CFG2 (R574, 18_thermal_and_fans.md) -/
def Reg.THM_CFG2.NAND_STOP : Fld := { off := 0x4000C, lo := 0, w := 8, acc := .rwl, resets := [90] }
def Reg.THM_CFG2.EXT_STOP : Fld := { off := 0x4000C, lo := 8, w := 8, acc := .rwl, resets := [80] }
def Reg.THM_CFG2.BROKEN_E : Fld := { off := 0x4000C, lo := 16, w := 4, acc := .rwl, resets := [8], vlo := 2, vhi := 9 }
def Reg.THM_CFG2.FAN_DERATE : Fld := { off := 0x4000C, lo := 20, w := 4, acc := .rwl, resets := [5] }
def Reg.THM_CFG2.LOCK : Fld := { off := 0x4000C, lo := 31, w := 1, acc := .w1s }
/-! THM_CNT (R575, 18_thermal_and_fans.md) -/
def Reg.THM_CNT.THROTTLE : Fld := { off := 0x40010, lo := 0, w := 16, acc := .ro, scope := .kept }
def Reg.THM_CNT.STOPS : Fld := { off := 0x40010, lo := 16, w := 8, acc := .ro, scope := .kept }
def Reg.THM_CNT.TRIPS : Fld := { off := 0x40010, lo := 24, w := 8, acc := .ro, scope := .kept }
/-! THM_DIODE (R575, 18_thermal_and_fans.md) -/
def Reg.THM_DIODE.TEMP : Fld := { off := 0x40100, stride := 4, count := 40, lo := 0, w := 16, acc := .ro }
def Reg.THM_DIODE.BROKEN : Fld := { off := 0x40100, stride := 4, count := 40, lo := 16, w := 1, acc := .ro }
def Reg.THM_DIODE.PRESENT : Fld := { off := 0x40100, stride := 4, count := 40, lo := 17, w := 1, acc := .ro }
/-! THM_EXT (R575, 18_thermal_and_fans.md) -/
def Reg.THM_EXT.TEMP : Fld := { off := 0x40200, stride := 4, count := 4, lo := 0, w := 16, acc := .ro }
def Reg.THM_EXT.BROKEN : Fld := { off := 0x40200, stride := 4, count := 4, lo := 16, w := 1, acc := .ro }
def Reg.THM_EXT.PRESENT : Fld := { off := 0x40200, stride := 4, count := 4, lo := 17, w := 1, acc := .ro }
/-! FAN_CTRL (R576, 18_thermal_and_fans.md) -/
def Reg.FAN_CTRL.POLICY : Fld := { off := 0x50000, lo := 0, w := 2, acc := .rw }
def Reg.FAN_CTRL.ENABLE : Fld := { off := 0x50000, lo := 2, w := 4, acc := .rwl }
def Reg.FAN_CTRL.RETRY : Fld := { off := 0x50000, lo := 6, w := 4, acc := .wo, scope := .none }
def Reg.FAN_CTRL.LOCK : Fld := { off := 0x50000, lo := 31, w := 1, acc := .w1s }
/-! FAN_STATUS (R576, 18_thermal_and_fans.md) -/
def Reg.FAN_STATUS.P_FAN : Fld := { off := 0x50004, lo := 0, w := 16, acc := .ro }
def Reg.FAN_STATUS.FAULT_MASK : Fld := { off := 0x50004, lo := 16, w := 4, acc := .ro }
/-! FAN_F (R577, 18_thermal_and_fans.md) -/
def Reg.FAN_F.POLES : Fld := { off := 0x50100, stride := 32, count := 4, lo := 0, w := 4, acc := .rwl, vlo := 1, vhi := 8 }
def Reg.FAN_F.RATED_RPM : Fld := { off := 0x50100, stride := 32, count := 4, lo := 4, w := 16, acc := .rwl }
def Reg.FAN_F.VMOT : Fld := { off := 0x50100, stride := 32, count := 4, lo := 20, w := 8, acc := .rwl }
def Reg.FAN_F.MIN_RPM : Fld := { off := 0x50104, stride := 32, count := 4, lo := 0, w := 12, acc := .rwl }
def Reg.FAN_F.CATCH_RPM : Fld := { off := 0x50104, stride := 32, count := 4, lo := 12, w := 12, acc := .rwl }
def Reg.FAN_F.ILIM : Fld := { off := 0x50104, stride := 32, count := 4, lo := 24, w := 8, acc := .rwl }
def Reg.FAN_F.KE_NOM : Fld := { off := 0x50108, stride := 32, count := 4, lo := 0, w := 16, acc := .rwl }
def Reg.FAN_F.KE_TOL : Fld := { off := 0x50108, stride := 32, count := 4, lo := 16, w := 8, acc := .rwl, resets := [15], vlo := 5, vhi := 40 }
def Reg.FAN_F.P_RATED : Fld := { off := 0x50108, stride := 32, count := 4, lo := 24, w := 8, acc := .rwl }
def Reg.FAN_F.TARGET : Fld := { off := 0x5010C, stride := 32, count := 4, lo := 0, w := 16, acc := .rw }
def Reg.FAN_F.STATE : Fld := { off := 0x50110, stride := 32, count := 4, lo := 0, w := 4, acc := .ro }
def Reg.FAN_F.REVERSE : Fld := { off := 0x50110, stride := 32, count := 4, lo := 4, w := 1, acc := .ro }
def Reg.FAN_F.FAILS : Fld := { off := 0x50110, stride := 32, count := 4, lo := 5, w := 2, acc := .ro }
def Reg.FAN_F.KE_LOW : Fld := { off := 0x50110, stride := 32, count := 4, lo := 7, w := 1, acc := .ro }
def Reg.FAN_F.KE_WRONG : Fld := { off := 0x50110, stride := 32, count := 4, lo := 8, w := 1, acc := .ro }
def Reg.FAN_F.RPM : Fld := { off := 0x50110, stride := 32, count := 4, lo := 16, w := 16, acc := .ro }
def Reg.FAN_F.DUTY : Fld := { off := 0x50114, stride := 32, count := 4, lo := 0, w := 10, acc := .ro }
def Reg.FAN_F.KE_MEAS : Fld := { off := 0x50114, stride := 32, count := 4, lo := 16, w := 16, acc := .ro }
def Reg.FAN_F.LOSSES : Fld := { off := 0x50118, stride := 32, count := 4, lo := 0, w := 16, acc := .ro, scope := .kept }
def Reg.FAN_F.STARTS : Fld := { off := 0x50118, stride := 32, count := 4, lo := 16, w := 16, acc := .ro, scope := .kept }
/-! GLB_ID (R589, 19_register_map.md) -/
def Reg.GLB_ID.VENDOR : Fld := { off := 0x0, lo := 0, w := 16, acc := .ro, resets := [8011] }
def Reg.GLB_ID.DEVICE : Fld := { off := 0x0, lo := 16, w := 16, acc := .ro, resets := [25632] }
/-! GLB_REV (R589, 19_register_map.md) -/
def Reg.GLB_REV.REVISION : Fld := { off := 0x4, lo := 0, w := 8, acc := .ro, resets := [1] }
def Reg.GLB_REV.STEPPING : Fld := { off := 0x4, lo := 8, w := 16, acc := .ro }
/-! GLB_LOCK_ALL (R589, 19_register_map.md) -/
def Reg.GLB_LOCK_ALL.LOCK_ALL : Fld := { off := 0x8, lo := 0, w := 1, acc := .w1s }
def Reg.GLB_LOCK_ALL.ALL_LOCKED : Fld := { off := 0x8, lo := 1, w := 1, acc := .ro }
/-! GLB_SCRATCH (R589, 19_register_map.md) -/
def Reg.GLB_SCRATCH.VALUE : Fld := { off := 0xC, lo := 0, w := 32, acc := .rw, scope := .warm }
/-! GLB_MAP (R589, 19_register_map.md) -/
def Reg.GLB_MAP.REGISTERS : Fld := { off := 0x10, lo := 0, w := 16, acc := .ro, resets := [6387] }
def Reg.GLB_MAP.VIEWS : Fld := { off := 0x10, lo := 16, w := 16, acc := .ro, resets := [561] }
/-! SBD_STATUS (R590, 19_register_map.md) -/
def Reg.SBD_STATUS.ADDR : Fld := { off := 0x70000, lo := 0, w := 7, acc := .ro }
def Reg.SBD_STATUS.BUSY : Fld := { off := 0x70000, lo := 7, w := 1, acc := .ro }
def Reg.SBD_STATUS.TIMEOUT : Fld := { off := 0x70000, lo := 8, w := 1, acc := .w1c }
def Reg.SBD_STATUS.REFUSED : Fld := { off := 0x70000, lo := 9, w := 1, acc := .w1c }
/-! SBD_CNT (R590, 19_register_map.md) -/
def Reg.SBD_CNT.READS : Fld := { off := 0x70004, lo := 0, w := 16, acc := .ro, scope := .kept }
def Reg.SBD_CNT.REFUSED : Fld := { off := 0x70004, lo := 16, w := 16, acc := .ro, scope := .kept }
/-! SBD_LAST (R590, 19_register_map.md) -/
def Reg.SBD_LAST.ITEM : Fld := { off := 0x70008, lo := 0, w := 8, acc := .ro }
/-! CSQ_PAIRS (R591, 19_register_map.md) -/
def Reg.CSQ_PAIRS.ACTIVE : Fld := { off := 0x120000, lo := 0, w := 8, acc := .ro }
def Reg.CSQ_PAIRS.FENCED : Fld := { off := 0x120000, lo := 8, w := 8, acc := .ro }
/-! CSQ_HOLD (R591, 19_register_map.md) -/
def Reg.CSQ_HOLD.FETCH_HELD : Fld := { off := 0x120004, lo := 0, w := 1, acc := .ro }
def Reg.CSQ_HOLD.RECON_F0 : Fld := { off := 0x120004, lo := 1, w := 1, acc := .ro }
def Reg.CSQ_HOLD.RECON_F1 : Fld := { off := 0x120004, lo := 2, w := 1, acc := .ro }
/-! CSQ_CNT (R591, 19_register_map.md) -/
def Reg.CSQ_CNT.TAKEOVERS : Fld := { off := 0x120008, lo := 0, w := 16, acc := .ro, scope := .kept }
def Reg.CSQ_CNT.ACTIVATIONS : Fld := { off := 0x120008, lo := 16, w := 16, acc := .ro, scope := .kept }
/-! CSQ_WDOG (R591, 19_register_map.md) -/
def Reg.CSQ_WDOG.SINCE : Fld := { off := 0x12000C, lo := 0, w := 14, acc := .ro }
/-! EVT_STATUS (R592, 19_register_map.md) -/
def Reg.EVT_STATUS.COUNT : Fld := { off := 0x3A0000, lo := 0, w := 13, acc := .ro }
def Reg.EVT_STATUS.WRAPPED : Fld := { off := 0x3A0000, lo := 13, w := 1, acc := .ro }
/-! EVT_TOTAL (R592, 19_register_map.md) -/
def Reg.EVT_TOTAL.TOTAL : Fld := { off := 0x3A0008, lo := 0, w := 64, acc := .ro }
/-! EVT_LAST (R592, 19_register_map.md) -/
def Reg.EVT_LAST.CODE : Fld := { off := 0x3A0010, lo := 0, w := 16, acc := .ro }
def Reg.EVT_LAST.SOURCE : Fld := { off := 0x3A0010, lo := 16, w := 8, acc := .ro }
def Reg.EVT_LAST.FUNC : Fld := { off := 0x3A0010, lo := 24, w := 8, acc := .ro }
/-! EVT_DETAIL (R592, 19_register_map.md) -/
def Reg.EVT_DETAIL.DETAIL : Fld := { off := 0x3A0014, lo := 0, w := 32, acc := .ro }
/-! HIF_ADM_SQ_BASE (R186, 05_command_rings_and_packets.md) -/
def Reg.HIF_ADM_SQ_BASE.ADDR : Fld := { off := 0x100100, lo := 0, w := 64, acc := .rw, scope := .function, perFn := true }
/-! HIF_ADM_CQ_BASE (R186, 05_command_rings_and_packets.md) -/
def Reg.HIF_ADM_CQ_BASE.ADDR : Fld := { off := 0x100108, lo := 0, w := 64, acc := .rw, scope := .function, perFn := true }

/-- A part of the register map. -/
def regs0 : List Fld := [
  Reg.HUP_STATUS.VIN_OK, Reg.HUP_STATUS.CHARGING, Reg.HUP_STATUS.WRITE_THR,
  Reg.HUP_STATUS.MEAS_BUSY, Reg.HUP_STATUS.MEAS_FAIL, Reg.HUP_STATUS.OV_EVENT,
  Reg.HUP_STATUS.BO_SEEN, Reg.HUP_STATUS.BLEED_ON, Reg.HUP_STATUS.BUS_CLASS,
  Reg.HUP_BANK_CFG.COUNT, Reg.HUP_BANK_CFG.UNIT, Reg.HUP_CHG_CFG.VCHG,
  Reg.HUP_CHG_CFG.ICHG, Reg.HUP_CHG_CFG.CHG_EN, Reg.HUP_BO_CFG.FALL,
  Reg.HUP_BO_CFG.RISE, Reg.HUP_CAP_MEAS.CAP, Reg.HUP_CAP_MEAS.AGE,
  Reg.HUP_CAP_MEAS.VALID, Reg.HUP_CAP_MEAS.METHOD, Reg.HUP_ENERGY.EUSE,
  Reg.HUP_ENERGY.VBANK, Reg.HUP_CTRL.MEAS_NOW, Reg.HUP_CTRL.LOCK,
  Reg.BRU_STAGE.STAGE, Reg.BRU_STAGE.STEP, Reg.BRU_STAGE.ADMIN_UP,
  Reg.BRU_STAGE.IO_UP, Reg.BRU_STAGE.WRITE_UP, Reg.BRU_STAGE.MAP_RESIDENT,
  Reg.BRU_STAGE.DRAM_READY, Reg.BRU_RESET_CAUSE.COLD, Reg.BRU_RESET_CAUSE.WARM_SEEN,
  Reg.BRU_RESET_CAUSE.HOT_SEEN, Reg.BRU_RESET_CAUSE.FLR0_SEEN, Reg.BRU_RESET_CAUSE.FLR1_SEEN,
  Reg.BRU_RESET_CAUSE.DRAIN_OK, Reg.BRU_CTRL.COLD_REQ, Reg.BRU_CTRL.LOCK,
  Reg.BRU_CTRL.KEY]

/-- A part of the register map. -/
def regs1 : List Fld := [
  Reg.BRU_TIMING.BLOOM_MS, Reg.BRU_TIMING.POUR, Reg.BRU_RECOVERY.ERASE_UNFIN,
  Reg.BRU_RECOVERY.RECON, Reg.HIF_EP_LINK.SPEED, Reg.HIF_EP_LINK.WIDTH,
  Reg.HIF_EP_LINK.FLIT, Reg.HIF_EP_LINK.CLK_ARCH, Reg.HIF_EP_LINK.DL_UP,
  Reg.HIF_EP_LINK.PORT_MODE, Reg.HIF_EP_LINK.L0P_WIDTH, Reg.HIF_EP_CTO.FRAMES,
  Reg.HIF_EP_EVENT.CPL_TIMEOUT, Reg.HIF_EP_EVENT.LATE_CPL, Reg.HIF_EP_EVENT.LINK_DOWN,
  Reg.HIF_EP_EVENT.SURPRISE, Reg.HIF_EP_EVENT.POISONED, Reg.HIF_EP_CNT.TIMEOUTS,
  Reg.HIF_EP_CNT.LATE, Reg.WIN_ENT_CTRL.TARGET, Reg.WIN_ENT_CTRL.WR_EN,
  Reg.WIN_ENT_CTRL.RD_EN, Reg.WIN_ENT_CTRL.RID_CHK, Reg.WIN_ENT_CTRL.PENDING,
  Reg.WIN_ENT_CTRL.RID, Reg.WIN_ENT_BASE.BASE, Reg.WIN_ENT_LIMIT.LIMIT,
  Reg.WIN_EPOCH.EPOCH, Reg.WIN_EPOCH.COMMIT, Reg.WIN_EPOCH.BUSY,
  Reg.WIN_STATUS.COMMIT_REFUSED, Reg.WIN_STATUS.REFUSED_IDX, Reg.WIN_DROP_CNT.COUNT,
  Reg.WIN_DROP_LAST.WINDOW, Reg.WIN_DROP_LAST.REASON, Reg.WIN_DROP_LAST.REQ_ID,
  Reg.HIF_ADM_SIZE.SQ_SIZE, Reg.HIF_ADM_SIZE.CQ_SIZE, Reg.HIF_ADM_CTRL.ENABLE,
  Reg.HIF_ADM_CTRL.READY]

/-- A part of the register map. -/
def regs2 : List Fld := [
  Reg.HIF_ADM_CTRL.CFG_ERR, Reg.HIF_ASYNC.PEND, Reg.HIF_ASYNC_MASK.EN,
  Reg.HIF_FETCH_ERR.RING, Reg.HIF_FETCH_ERR.REASON, Reg.HIF_FETCH_ERR.VALID,
  Reg.HIF_CTX_FREE.FREE, Reg.HIF_RING_STATE.SQ_HEAD, Reg.HIF_RING_STATE.SQ_TAIL,
  Reg.HIF_RING_STATE.CQ_TAIL, Reg.HIF_RING_STATE.CQ_HEAD, Reg.HIF_RING_STATE.STATE,
  Reg.HIF_RING_STATE.SCOPE, Reg.HIF_RING_STATE.PHASE, Reg.HIF_RING_STATE.VECTOR,
  Reg.HIF_RING_STATE.INFLIGHT, Reg.WBF_DIRTY.DIRTY_MIB, Reg.WBF_DIRTY.CEILING_MIB,
  Reg.WBF_SPANS.USED, Reg.WBF_SPANS.MAX, Reg.WBF_CFG.GROUP_WAIT,
  Reg.WBF_CFG.LOCK, Reg.WBF_EVT.SPAN_FULL, Reg.WBF_EVT.GROUP_EXPIRED,
  Reg.WBF_EVT.MERGE_LOST, Reg.WBF_OSN.LAST, Reg.FRM_BUDGET.CAP,
  Reg.FRM_BUDGET.RATED, Reg.FRM_BASE.BASE, Reg.FRM_STATUS.TF,
  Reg.FRM_STATUS.MODE, Reg.FRM_STATUS.THROTTLED, Reg.FRM_STATUS.OVER_CARRY,
  Reg.FRM_STATUS.OVERDRAW, Reg.FRM_POWER.WORK, Reg.FRM_POWER.HOLD,
  Reg.FRM_POWER2.FAN, Reg.FRM_POWER2.CARRIED, Reg.FRM_WEIGHT.RD,
  Reg.FRM_WEIGHT.WR]

/-- A part of the register map. -/
def regs3 : List Fld := [
  Reg.FRM_WEIGHT.GC, Reg.FRM_WEIGHT.RB, Reg.FRM_WEIGHT.PT,
  Reg.FRM_WEIGHT.GC_URGENT, Reg.FRM_CFG.CARRY_PCT, Reg.FRM_CFG.CREDIT_FRAMES,
  Reg.FRM_CFG.OVER_LIMIT, Reg.FRM_HOLDUP.OVH, Reg.FRM_HOLDUP.MARGIN,
  Reg.FRM_HOLDUP.DRAIN_W, Reg.FRM_DRAIN.RATE, Reg.FRM_JPB.MODEL,
  Reg.FRM_JPB.MEAS, Reg.FRM_CEILING.CEIL_MIB, Reg.FRM_CEILING.SOURCE,
  Reg.FRM_CTRL.LOCK, Reg.FRM_COUNT.FRAMES, Reg.FRM_OVER.OVERDRAW,
  Reg.FRM_OVER.SUSPEND, Reg.FRM_COST.LO, Reg.FRM_COST.HI,
  Reg.FRM_PCLASS.LO, Reg.FRM_PCLASS.HI, Reg.FRM_CHAN_TBL.ALL,
  Reg.CHN_ENG_CTRL.RESTART, Reg.CHN_ENG_CTRL.LOCK, Reg.CHN_ENG_STATUS.STATE,
  Reg.CHN_ENG_STATUS.RATE, Reg.CHN_ENG_STATUS.BO_MODE, Reg.CHN_ENG_STATUS.BUSY_LUNS,
  Reg.CHN_ENG_STATUS.SUSP_LUNS, Reg.CHN_POP.TARGETS, Reg.CHN_POP.LUNS,
  Reg.CHN_POP.PLANES, Reg.CHN_LUN_FAIL.FAILED, Reg.CHN_RAW_EN.RAW,
  Reg.CHN_RAW_ACT.RAW, Reg.CHN_SUSP_CFG.E_EN, Reg.CHN_SUSP_CFG.P_EN,
  Reg.CHN_SUSP_CFG.REMAIN_MIN]

/-- A part of the register map. -/
def regs4 : List Fld := [
  Reg.CHN_SUSP_CFG.HOLD_MAX, Reg.CHN_FAULT.CODE, Reg.CHN_FAULT.LUN,
  Reg.CHN_FAULT.VALID, Reg.CHN_FAULT_ADDR.ADDR, Reg.CHN_CNT.SUSPENDS,
  Reg.CHN_CNT.CHECK_FAULTS, Reg.CHN_TRAIN.TEMP, Reg.CHN_TRAIN.COUNT,
  Reg.UCS_STATUS.SOURCE, Reg.UCS_STATUS.LOAD_BUSY, Reg.UCS_STATUS.SWAP_PENDING,
  Reg.UCS_STATUS.DIE_COUNT, Reg.UCS_STATUS.KEY_ID, Reg.UCS_VERSION.VERSION,
  Reg.UCS_CNT.SWAPS, Reg.UCS_CNT.OVERRUNS, Reg.UCS_TRAP.CODE,
  Reg.UCS_TRAP.CHANNEL, Reg.UCS_TRAP.LUN, Reg.UCS_TRAP.ADDR,
  Reg.UCS_TRAP.VALID, Reg.UCS_RD_ADDR.INDEX, Reg.UCS_RD_ADDR.SPACE,
  Reg.UCS_RD_DATA.DATA, Reg.UCS_CTRL.LOCK, Reg.MIN_STATUS.PATROL_RUN,
  Reg.MIN_STATUS.OUTER_RUN, Reg.MIN_STATUS.PAUSED, Reg.MIN_STATUS.OPEN_RECOV,
  Reg.MIN_PATROL_CFG.RATE, Reg.MIN_PATROL_CFG.OUTER_PCT, Reg.MIN_LADDER_CFG.RETRY_MAX,
  Reg.MIN_LADDER_CFG.SOFT_SENSES, Reg.MIN_LADDER_CFG.LOCK, Reg.MIN_PATROL_PROG.INNER_PASSES,
  Reg.MIN_PATROL_PROG.INNER_DONE, Reg.MIN_PATROL_PROG2.OUTER_PASSES, Reg.MIN_PATROL_PROG2.OUTER_DONE,
  Reg.MIN_CNT.ROW_MISMATCH]

/-- A part of the register map. -/
def regs5 : List Fld := [
  Reg.MIN_CNT.OUTER_MISMATCH, Reg.MIN_CNT2.REFRESH_REQ, Reg.MIN_CNT2.ESCALATED,
  Reg.MIN_FMT.PARITY, Reg.MIN_FMT.CW_BYTES, Reg.MIN_FMT.COLS,
  Reg.MIN_FMT.REFRESH_BITS, Reg.MIN_HMAT_ADDR.FMT, Reg.MIN_HMAT_ADDR.ROW,
  Reg.MIN_HMAT_ADDR.COL, Reg.MIN_HMAT_DATA.SHIFT, Reg.MIN_HMAT_DATA.VALID,
  Reg.FTL_CAPACITY.BLOCKS, Reg.FTL_CAPACITY.OP_PCT, Reg.FTL_GC_CFG.GC_START,
  Reg.FTL_GC_CFG.GC_CRIT, Reg.FTL_GC_CFG.RESERVE_MIN, Reg.FTL_GC_CFG.LOCK,
  Reg.FTL_WEAR_CFG.SPREAD_LIMIT, Reg.FTL_WEAR_CFG.RATED_PE, Reg.FTL_WEAR.MIN_EC,
  Reg.FTL_WEAR.MAX_EC, Reg.FTL_FREE.BANDS, Reg.FTL_FREE.STATE,
  Reg.FTL_FREE.OPEN, Reg.FTL_FREE.RANGES, Reg.FTL_HEALTH.GRADE,
  Reg.FTL_HEALTH.READ_ONLY, Reg.FTL_HEALTH.SPARE_PCT, Reg.FTL_HEALTH.WEAR_PCT,
  Reg.FTL_JOURNAL.MIB, Reg.FTL_JOURNAL.URGENT, Reg.GLI_STATUS.STATE,
  Reg.GLI_STATUS.STEWARD, Reg.GLI_STATUS.DEPUTY, Reg.GLI_STATUS.MEMBER,
  Reg.GLI_STATUS.GROUP, Reg.GLI_VIEW.VIEW, Reg.GLI_MEMBERS.MASK,
  Reg.GLI_ROLES.STEWARD]

/-- A part of the register map. -/
def regs6 : List Fld := [
  Reg.GLI_ROLES.DEPUTY, Reg.GLI_LINKED.MASK, Reg.GLI_CFG.BEACON_INT,
  Reg.GLI_CFG.LOCK, Reg.GLI_CNT.AUTH_FAIL, Reg.GLI_CNT.VIEWS,
  Reg.GLI_PEER.SESSION, Reg.GLI_PEER.IN_VIEW, Reg.GLI_PEER.MISSED,
  Reg.GLI_PEER.REQ_ID, Reg.GLI_PEER.INCARNATION, Reg.GLI_PEER.EPOCH,
  Reg.GLI_STRIPE_CFG.K, Reg.GLI_STRIPE_CFG.AHEAD, Reg.GLI_STRIPE_CFG.SEAL_WAIT,
  Reg.GLI_STRIPE_CNT.OPEN, Reg.GLI_STRIPE_CNT.DEGRADED, Reg.GLI_STRIPE_LOST.COUNT,
  Reg.GLI_REBUILD.TARGET, Reg.GLI_REBUILD.PLANNING, Reg.GLI_REBUILD.RATE,
  Reg.GLI_WITHDRAWN.COUNT, Reg.DRC_STATUS.IN_SERVICE, Reg.DRC_STATUS.FAILED,
  Reg.DRC_STATUS.BLOOM_A, Reg.DRC_STATUS.BLOOM_B, Reg.DRC_STATUS.TRN_SC,
  Reg.DRC_STATUS.TRN_BUSY, Reg.DRC_STATUS.SELF_REFRESH, Reg.DRC_GEOM.DENSITY,
  Reg.DRC_GEOM.RANKS, Reg.DRC_GEOM.MAX_RATE, Reg.DRC_CFG.QUOTA,
  Reg.DRC_CFG.QUOTA_TRN, Reg.DRC_CFG.AGE_LIMIT, Reg.DRC_CFG2.PAGE_IDLE,
  Reg.DRC_CFG2.LOCK, Reg.DRC_SC.STATE, Reg.DRC_SC.RATE,
  Reg.DRC_SC.GRANULES]

/-- A part of the register map. -/
def regs7 : List Fld := [
  Reg.DRC_SC.TAG_TEMP, Reg.DRC_SC.TAG_MV, Reg.DRC_SC.TRAININGS,
  Reg.DRC_SC.CE_1S, Reg.DRC_SC.UNINIT_READS, Reg.MEM_CFG.SCRUB_RATE,
  Reg.MEM_CFG.CE_RETRAIN, Reg.MEM_CFG.DEV_LIMIT, Reg.MEM_CFG2.UE_LIMIT,
  Reg.MEM_CFG2.LOCK, Reg.MEM_SCRUB.PASSES, Reg.MEM_SCRUB.DONE,
  Reg.MEM_SC.CE, Reg.MEM_SC.UE, Reg.MEM_SC.REMAP_USED,
  Reg.MEM_SC.LAST, Reg.MEM_SC.DEVICE, Reg.MEM_SC.UNCORR,
  Reg.MEM_REMAP.LINE, Reg.MEM_REMAP.VALID, Reg.MEM_REMAP.POISON,
  Reg.BPM_STATUS.FREE, Reg.BPM_STATUS.BACKPRESSURE, Reg.BPM_STATUS.SHARED_FREE,
  Reg.BPM_STATUS.CRITICAL, Reg.BPM_CFG.WARN, Reg.BPM_CFG.CRIT,
  Reg.BPM_CFG.LOCK, Reg.BPM_POLICY.POLICY, Reg.BPM_EVT.PARITY,
  Reg.BPM_EVT.DOUBLE_FREE, Reg.BPM_EVT.STALE, Reg.BPM_EVT.ZERO_REQ,
  Reg.BPM_EVT.BAD_REQ, Reg.BPM_EVT.FREE_ACCESS, Reg.BPM_EVT.REF_OVERFLOW,
  Reg.BPM_CNT.PARITY, Reg.BPM_CNT.FREE_FAULTS, Reg.BPM_OWN.MIN,
  Reg.BPM_OWN.MAX]

/-- A part of the register map. -/
def regs8 : List Fld := [
  Reg.BPM_OWN.USED, Reg.BPM_OWN.WAITING, Reg.BPM_OWN.PEAK,
  Reg.THI_STATUS.READY, Reg.THI_STATUS.COMPACTING, Reg.THI_STATUS.FREE_UNITS,
  Reg.THI_CFG.HEAD_ROOM, Reg.THI_CFG.LOCK, Reg.THI_CNT.MULTI_HITS,
  Reg.THI_CNT.NO_ROOM, Reg.THI_OPS.COUNT, Reg.THI_TABLE.BASE,
  Reg.THI_TABLE.LAST, Reg.THI_TABLE.WIDTH, Reg.THI_TABLE.ORDERED,
  Reg.THI_TABLE.COUNT, Reg.THI_TABLE.FIRST, Reg.THI_RD_ADDR.UNIT,
  Reg.THI_RD_DATA.KEY, Reg.THI_RD_DATA.KEY2, Reg.THI_RD_DATA.VALID,
  Reg.THI_RD_DATA.WIDTH, Reg.THI_RD_DATA.TABLE, Reg.THI_RD_DATA.PRIO,
  Reg.THI_RD_DATA.ENTRY, Reg.THI_RD_DATA.DATA, Reg.SEC_STATUS.DEBUG,
  Reg.SEC_STATUS.TK_SET, Reg.SEC_STATUS.GROUP_KEY, Reg.SEC_STATUS.LOADED,
  Reg.SEC_STATUS.SWEEPING, Reg.SEC_STATUS.MC_BANKS, Reg.SEC_KEY_CFG.LIMIT_LOG2,
  Reg.SEC_KEY_CFG.SWEEP_SPAN, Reg.SEC_KEY_CFG.LOCK, Reg.SEC_CNT.AUTH_FAIL,
  Reg.SEC_CNT.ROLLS, Reg.SEC_DBG_CTRL.CHALLENGE, Reg.SEC_DBG_CTRL.SUBMIT,
  Reg.SEC_DBG_CHAL.NONCE]

/-- A part of the register map. -/
def regs9 : List Fld := [
  Reg.SEC_DBG_RESP.SIG, Reg.SEC_REALM_SEL.SLOT, Reg.SEC_REALM_FIRST.LBA,
  Reg.SEC_REALM_LAST.LBA, Reg.SEC_SLOT.STATE, Reg.SEC_SLOT.AUTO_ROLL,
  Reg.SEC_SLOT.ORIGIN, Reg.SEC_SLOT.SPAN, Reg.SEC_SLOT.EPOCH,
  Reg.SEC_SLOT.WARNED, Reg.SEC_SLOT.USAGE, Reg.BST_STATUS.ACTIVE,
  Reg.BST_STATUS.RECOVERY, Reg.BST_STATUS.FUSED_SV, Reg.BST_STATUS.FAIL_COUNT,
  Reg.BST_STATUS.WRITING, Reg.BST_STATUS.ACTIVATING, Reg.BST_CTRL.LOCK,
  Reg.BST_FETCH.MISS_RATE, Reg.BST_FETCH.STALLS, Reg.BST_SLOT.STATE,
  Reg.BST_SLOT.CHECK, Reg.BST_SLOT.SV, Reg.BST_SLOT.WRITTEN,
  Reg.BST_SLOT.VERSION, Reg.PWR_STATUS.STATE, Reg.PWR_STATUS.TARGET,
  Reg.PWR_STATUS.PHASE, Reg.PWR_STATUS.REFUSED, Reg.PWR_STATUS.DOMAIN,
  Reg.PWR_STATUS.ABORT_AT, Reg.PWR_REQ.F0, Reg.PWR_REQ.F1,
  Reg.PWR_CFG.IDLE_WAIT, Reg.PWR_CFG.RETRY, Reg.PWR_CFG.OFF_EN,
  Reg.PWR_CFG.PME_EVT, Reg.PWR_CFG.LOCK, Reg.PWR_P1_CFG.CAP,
  Reg.PWR_P1_MASK.OFF]

/-- A part of the register map. -/
def regs10 : List Fld := [
  Reg.PWR_WAKE.EI_EXIT, Reg.PWR_WAKE.CLKREQ, Reg.PWR_WAKE.PERST,
  Reg.PWR_WAKE.TLP_F0, Reg.PWR_WAKE.TLP_F1, Reg.PWR_WAKE.INTERNAL,
  Reg.PWR_LAT.ENTRY, Reg.PWR_LAT.EXIT, Reg.PWR_CNT.ENTRIES,
  Reg.PWR_CNT.ABANDONED, Reg.PWR_DOM_STATE.ALL, Reg.PWR_AVS.REQ_MV,
  Reg.PWR_AVS.ACK_MV, Reg.PWR_AVS.BUSY, Reg.PWR_AVS.FAULT,
  Reg.PWR_AVS.P0_MV, Reg.THM_STATUS.STATE, Reg.THM_STATUS.HOT_CLASS,
  Reg.THM_STATUS.HOT_INDEX, Reg.THM_STATUS.BROKEN, Reg.THM_TEMP.COMPOSITE,
  Reg.THM_TEMP.HOTTEST, Reg.THM_CFG.SP, Reg.THM_CFG.NAND_SP,
  Reg.THM_CFG.EXT_SP, Reg.THM_CFG.SLOPE, Reg.THM_CFG2.NAND_STOP,
  Reg.THM_CFG2.EXT_STOP, Reg.THM_CFG2.BROKEN_E, Reg.THM_CFG2.FAN_DERATE,
  Reg.THM_CFG2.LOCK, Reg.THM_CNT.THROTTLE, Reg.THM_CNT.STOPS,
  Reg.THM_CNT.TRIPS, Reg.THM_DIODE.TEMP, Reg.THM_EXT.TEMP,
  Reg.THM_DIODE.BROKEN, Reg.THM_EXT.BROKEN, Reg.THM_DIODE.PRESENT,
  Reg.THM_EXT.PRESENT]

/-- A part of the register map. -/
def regs11 : List Fld := [
  Reg.FAN_CTRL.POLICY, Reg.FAN_CTRL.ENABLE, Reg.FAN_CTRL.RETRY,
  Reg.FAN_CTRL.LOCK, Reg.FAN_STATUS.P_FAN, Reg.FAN_STATUS.FAULT_MASK,
  Reg.FAN_F.POLES, Reg.FAN_F.RATED_RPM, Reg.FAN_F.VMOT,
  Reg.FAN_F.MIN_RPM, Reg.FAN_F.CATCH_RPM, Reg.FAN_F.ILIM,
  Reg.FAN_F.KE_NOM, Reg.FAN_F.KE_TOL, Reg.FAN_F.P_RATED,
  Reg.FAN_F.TARGET, Reg.FAN_F.STATE, Reg.FAN_F.REVERSE,
  Reg.FAN_F.FAILS, Reg.FAN_F.KE_LOW, Reg.FAN_F.KE_WRONG,
  Reg.FAN_F.RPM, Reg.FAN_F.DUTY, Reg.FAN_F.KE_MEAS,
  Reg.FAN_F.LOSSES, Reg.FAN_F.STARTS, Reg.GLB_ID.VENDOR,
  Reg.GLB_ID.DEVICE, Reg.GLB_REV.REVISION, Reg.GLB_REV.STEPPING,
  Reg.GLB_LOCK_ALL.LOCK_ALL, Reg.GLB_LOCK_ALL.ALL_LOCKED, Reg.GLB_SCRATCH.VALUE,
  Reg.GLB_MAP.REGISTERS, Reg.GLB_MAP.VIEWS, Reg.SBD_STATUS.ADDR,
  Reg.SBD_STATUS.BUSY, Reg.SBD_STATUS.TIMEOUT, Reg.SBD_STATUS.REFUSED,
  Reg.SBD_CNT.READS]

/-- A part of the register map. -/
def regs12 : List Fld := [
  Reg.SBD_CNT.REFUSED, Reg.SBD_LAST.ITEM, Reg.CSQ_PAIRS.ACTIVE,
  Reg.CSQ_PAIRS.FENCED, Reg.CSQ_HOLD.FETCH_HELD, Reg.CSQ_HOLD.RECON_F0,
  Reg.CSQ_HOLD.RECON_F1, Reg.CSQ_CNT.TAKEOVERS, Reg.CSQ_CNT.ACTIVATIONS,
  Reg.CSQ_WDOG.SINCE, Reg.EVT_STATUS.COUNT, Reg.EVT_STATUS.WRAPPED,
  Reg.EVT_TOTAL.TOTAL, Reg.EVT_LAST.CODE, Reg.EVT_LAST.SOURCE,
  Reg.EVT_LAST.FUNC, Reg.EVT_DETAIL.DETAIL, Reg.HIF_ADM_SQ_BASE.ADDR,
  Reg.HIF_ADM_CQ_BASE.ADDR]

/-- Every field of the register map. -/
def regTable : List Fld :=
  regs0 ++ regs1 ++ regs2 ++ regs3 ++ regs4 ++ regs5 ++ regs6 ++ regs7 ++ regs8 ++ regs9 ++ regs10 ++ regs11 ++ regs12

end Sys2Proof.Machine
end

