-- ==== Sys2Proof/Machine/Tbl.lean ====
section
/-! DEFINITION. Sparse tables: what an unlisted key reads as is one value of the table, keys rise strictly and no
entry equals that value, so equal tables are equal data. Byte memory (Host.Cell) is the table of bytes. -/

set_option Elab.async false

namespace Sys2Proof.Machine

/-- A sparse table: key and entry pairs in rising order of key. -/
abbrev Tbl (α : Type) := List (Nat × α)

variable {α : Type}

/-- The entry at key `k`; `d` is what an unlisted key reads as. -/
def Tbl.get (d : α) : Tbl α → Nat → α
  | [], _ => d
  | (j, a) :: t, k => if k = j then a else Tbl.get d t k

/-- Lists `a` at key `k`, in its place. -/
def Tbl.put : Tbl α → Nat → α → Tbl α
  | [], k, a => [(k, a)]
  | (j, b) :: t, k, a =>
    if k < j then (k, a) :: (j, b) :: t
    else if k = j then (k, a) :: t
    else (j, b) :: Tbl.put t k a

/-- Unlists key `k`. -/
def Tbl.drop (t : Tbl α) (k : Nat) : Tbl α := t.filter (fun p => !decide (p.1 = k))

/-- Makes key `k` read as `a`, keeping the canonical form. -/
def Tbl.set [DecidableEq α] (d : α) (t : Tbl α) (k : Nat) (a : α) : Tbl α :=
  if a = d then Tbl.drop t k else Tbl.put t k a

/-- Changes the entry at key `k` by `f`. -/
def Tbl.upd [DecidableEq α] (d : α) (t : Tbl α) (k : Nat) (f : α → α) : Tbl α :=
  Tbl.set d t k (f (Tbl.get d t k))

/-- Every key listed is above `k`. -/
def Tbl.above (k : Nat) (t : Tbl α) : Bool := t.all (fun p => decide (k < p.1))

/-- The canonical form: keys strictly rising, no entry equal to what an unlisted key reads as. -/
def Tbl.wf [DecidableEq α] (d : α) : Tbl α → Bool
  | [] => true
  | (k, a) :: t => Tbl.above k t && !decide (a = d) && Tbl.wf d t

/-- The first listed key whose entry passes the test. -/
def Tbl.findKey (p : Nat → α → Bool) (t : Tbl α) : Option Nat := (t.find? (fun e => p e.1 e.2)).map (·.1)

/-- Changes every listed entry by `f` and restores the canonical form. -/
def Tbl.mapAll [DecidableEq α] (d : α) (f : Nat → α → α) (t : Tbl α) : Tbl α :=
  (t.map (fun e => (e.1, f e.1 e.2))).filter (fun e => !decide (e.2 = d))

/-- Byte memory: what an unlisted address reads as is zero (R128, R433). -/
abbrev Memory := List Host.Cell

/-- One byte read (DESIGN CHOICE: log entry 38). -/
def Memory.byte (m : Memory) (a : Nat) : Byte := Tbl.get 0 m a

/-- One byte written, keeping the canonical form. -/
def Memory.setByte (m : Memory) (a : Nat) (b : Byte) : Memory := Tbl.set 0 m a b

/-- Bytes written from address `a` upward. -/
def Memory.write (m : Memory) (a : Nat) : List Byte → Memory
  | [] => m
  | b :: bs => Memory.write (Memory.setByte m a b) (a + 1) bs

/-- `n` bytes read from address `a` upward. -/
def Memory.read (m : Memory) (a : Nat) : Nat → List Byte
  | 0 => []
  | n + 1 => Memory.byte m a :: Memory.read m (a + 1) n

/-- The canonical form of memory. -/
def Memory.wf (m : Memory) : Bool := Tbl.wf (0 : Byte) m

end Sys2Proof.Machine
end

