-- ==== Sys2Proof/Machine/State.lean ====
section
/-! DEFINITION. The state of the LDL-6420 as plain data: every register, ring, context, buffer, table, counter, sensor, fan
and engine the spec gives the device, and the queue of waiting commands. A register field's home is the register file
`regs`, unless a typed field below holds it (the register then is a computed view, Machine/Regs.lean). -/

set_option Elab.async false

namespace Sys2Proof.Machine

/-! ### Stops -/

/-- No command of this model stops with a fault: every row of the table has an effect or leaves the state unchanged. -/
inductive Fault where
  deriving DecidableEq, Repr

/-- Reasons a command has no meaning. -/
inductive Refusal where
  /-- A command whose meaning is not written yet: raised by its arm of exec alone. Safe: the model stops. -/
  | notModelled (mnemonic : String)
  deriving DecidableEq, Repr

/-! ### Logs and reports -/

/-- One Event log entry (R181). -/
structure Event where
  time : Nat
  code : Nat
  source : Nat
  func : Nat
  detail : Nat
  deriving DecidableEq, Repr

/-- The cause byte of a Reconcile entry (R179): the reset at whose trigger moment it was created. -/
inductive Cause where
  | cold | warm | hot | function
  deriving DecidableEq, Repr

/-- One Reconcile entry (R45, R46, R179). -/
structure Recon where
  fn : Nat
  posted : Bool
  ring : Nat
  cid : Nat
  opc : Nat
  cause : Cause
  status : Nat
  result : Nat
  seq : Nat
  deriving DecidableEq, Repr

/-- One Lost-stripe entry (R180): its ranges are (SLBA, NBLK) pairs. -/
structure LostEntry where
  seq : Nat
  stripe : Nat
  group : Nat
  member : Nat
  cause : Nat
  ranges : List (Nat × Nat)
  hours : Nat
  deriving DecidableEq, Repr

/-- One capacitance record of the Health page (R71, R178). -/
structure CapRecord where
  cap : Nat
  bleed : Bool
  pass : Bool
  hours : Nat
  deriving DecidableEq, Repr

/-- What an operation of the Thitralen engine returns (R474, R476, R477). -/
inductive ThiOut where
  | miss
  | hit (index : Nat) (multi : Bool) (data : Nat)
  | added (index value : Nat)
  | inserted (index : Nat)
  | present (index : Nat)
  | full
  | noRoomNear
  | badIndex
  | deleted (n : Nat)
  | done (index : Nat)
  | entry (index width table prio value care data : Nat)
  deriving DecidableEq, Repr

/-- What the device puts on its buses and pins, newest first in State.out: the model's record of answers. -/
inductive Out where
  | cfgRetry (fn : Nat)
  | cfgData (fn off : Nat) (value : Word)
  | readData (fn addr : Nat) (value : Nat)
  | completerAbort (fn : Nat)
  | unsupported (fn : Nat)
  | readReq (fn tag addr len : Nat)
  | hostWrite (fn addr len : Nat) (data : Block)
  | hostBytes (fn addr : Nat) (data : List Nat)
  | cqe (fn ring slot : Nat) (entry : BitVec 128)
  | msix (fn vector : Nat)
  | mailbox (fn : Nat) (bytes : List Byte)
  | nand (channel lun : Nat) (op : Nat) (addr : Nat)
  | peer (member : Nat) (kind : Nat) (payload : List Nat)
  | peerWrite (member stage : Nat) (data : Block)
  | smbus (item : Nat) (value : Word)
  | smbusNack
  | ltr (fn : Nat) (microseconds : Option Nat)
  | pmPme (fn : Nat)
  | pmeToAck (fn : Nat)
  | wakePin (port : Nat) (asserted : Bool)
  | avsWrite (port mv : Nat)
  | lookup (r : ThiOut)
  | buffers (owner : Nat) (handles : List Nat)
  | internalFault (block : Nat)
  | dramLine (sc line : Nat) (data : Option (BitVec 512))
  deriving DecidableEq, Repr

/-! ### Supply, bank and Poulo (chapter 02) -/

/-- A capacitance measurement's phase (R69). -/
inductive Meas where
  /-- No measurement runs. -/
  | idle
  /-- Charge method, waiting for 30.000 V. -/
  | chargeWait
  /-- Charge method, counting from this frame. -/
  | chargeCount (start : Nat)
  /-- Bleed method: the ceiling is lowered and the dirty data must fit it. -/
  | lowering
  /-- Bleed method: the bleed was closed at a bank voltage. -/
  | bleeding (top : Nat)
  /-- Bleed method: recharging at 500 mA to the voltage it began at, counting from this frame. -/
  | bleedCount (start top : Nat)
  deriving DecidableEq, Repr

/-- The trigger of a drain (R80, R103, R239, R559). -/
inductive DrainKind where
  | none | brownOut | overvoltage | watchdog | coldReq | trip
  deriving DecidableEq, Repr

/-- Poulo's supply, rails and bank (R58 to R72, R79 to R82). Voltages in millivolts. -/
structure Supply where
  /-- VIN now. -/
  vin : Nat := 0
  /-- VBANK at the last frame boundary (R67). -/
  vbank : Nat := 0
  /-- Poulo operates (R59). -/
  operating : Bool := false
  /-- Rail steps enabled, 0 to 5 (R62). -/
  steps : Nat := 0
  /-- Power-goods received of the present attempt, 0 to 6: the fifth step has two rails (R62). -/
  goods : Nat := 0
  /-- Attempts of the present rail sequence (R62). -/
  attempts : Nat := 0
  /-- The 100 ms wait before a retry runs (R62). -/
  retryWait : Bool := false
  /-- Three attempts failed and the rails stay off (R62). -/
  railsFailed : Bool := false
  /-- The core die is out of reset (R92). -/
  coreUp : Bool := false
  /-- HUP_OR_G drives the ideal-diode switch closed (R59, R80). -/
  orGate : Bool := false
  /-- HUP_SW_G drives the hold-up switch closed (R80). -/
  swGate : Bool := false
  /-- The drain in progress (R80, R239). -/
  drain : DrainKind := .none
  /-- The switch-over to the bank is confirmed, or the drain runs from VIN: drain work may start (R80, R103). -/
  drainWork : Bool := false
  /-- The bleed of R72 runs: VIN absent after a drain. -/
  discharging : Bool := false
  /-- The cause the next cold start reports (R104, R110). -/
  nextCause : Nat := 0
  /-- The next cold start follows a brown-out drain (R73, BO_SEEN). -/
  boPending : Bool := false
  /-- The last drain ended complete, or there was none (R110, DRAIN_OK). -/
  drainOk : Bool := true
  /-- The measurement in progress (R69). -/
  meas : Meas := .idle
  /-- A new bleed-method measurement starts once the bank is charged (R69, R70). -/
  measDue : Bool := false
  /-- C_meas of the most recent completed measurement in frames of its count: 1.25 µF each; 0 while none has completed. -/
  cmeas : Nat := 0
  /-- Its verdict (R67). -/
  passed : Bool := false
  /-- The overvoltage bleed of R66 is closed. -/
  ovBleed : Bool := false
  /-- The last eight records of the Health page, newest first (R71). -/
  caps : List CapRecord := []
  /-- The frame of the last hourly measurement timer start (R69). -/
  hourFrom : Nat := 0
  /-- The frame at which the last completed measurement ended (R77). -/
  measAt : Nat := 0
  /-- The frame of VIN passing the rising threshold (R99, R112). -/
  vinAt : Nat := 0
  /-- Off with VIN present: PERST# was asserted in P3 after PME_TO_Ack with OFF_EN (R545). -/
  off : Bool := false
  /-- The bank voltage and the dirty bytes at the trigger moment of the drain, and the energy given up and the bytes of the last drain while
  JPB_MEAS has not taken them, the energy in the unit of eUse2 (R238). -/
  drainFrom : Nat := 0
  drainBytes : Nat := 0
  sample : Option (Nat × Nat) := none
  deriving DecidableEq, Repr

/-- The strap balls (R55) and the board's own facts: the board configuration record of the boot store as values for the
register fields it loads in Grind step 2 (keys as Fld.key), and what the record gives outside the register file. -/
structure Board where
  busSel : Bool
  portMode : Bool
  sbAddr : Bool
  /-- (key, value) pairs of the register fields the record or the fuses load. -/
  fields : List (Nat × Nat)
  subsysVendor : Nat
  subsysId : Nat
  serial : Nat
  opPct : Nat
  /-- DRAM sub-channels populated, one bit each (R427). -/
  dramMask : Nat
  deriving DecidableEq, Repr

/-! ### Bring-up (chapter 03) -/

/-- The stage of R90. -/
inductive Stage where
  | grind | bloom | pour
  deriving DecidableEq, Repr

/-- Bring-up state (R90 to R100, R103). -/
structure Boot where
  stage : Stage := .grind
  /-- Grind steps ended, as the greatest k such that steps 0 to k - 1 have ended, of steps 0 to 3 (R92). -/
  step : Nat := 0
  /-- Step 4 has ended: the Bloom pair is trained and its first 4 GiB initialised. -/
  step4 : Bool := false
  /-- The raw flash exceeds the map space, and that is recorded (R428). -/
  tooBig : Bool := false
  /-- Step 5 has ended: replay is complete. -/
  step5 : Bool := false
  /-- Replay has run and waits for step 4 to end. -/
  replayed : Bool := false
  /-- No firmware slot passed its check (R100, R517). -/
  recovery : Bool := false
  /-- The 2.0 s bound was missed and recorded (R100). -/
  boundMissed : Bool := false
  /-- The kept values of sticky registers have been restored (R586). -/
  restored : Bool := false
  /-- The first cold start after manufacture is behind (R258, R341, R494). -/
  manufactured : Bool := false
  /-- Map pages still to be loaded in the background (R96), and the whole map is loaded and merged (R98). -/
  mapLeft : Nat := 0
  /-- The write buffer has been extended to every trained pair (R98). -/
  extended : Bool := false
  deriving DecidableEq, Repr

/-- The lockstep pairs (R39, R103): the pair whose contexts are being taken over. -/
structure Pairs where
  takeover : Option Nat := none
  deriving DecidableEq, Repr

/-! ### Host endpoint (chapter 04) -/

/-- One PCIe function and its port. -/
structure Ep where
  /-- Writable configuration dwords by offset; what an unlisted offset holds is its reset value. -/
  cfg : Tbl Nat := []
  /-- The requester ID the function captured from its configuration requests (PRESUMED: the PCIe specification), matched by R378. -/
  rid : Nat := 0
  /-- PERST# of the port is asserted (R87). -/
  perst : Bool := true
  /-- The reset of the function in progress (R102). -/
  resetting : Option Cause := none
  /-- D3hot requested through PMCSR (R528). -/
  d3 : Bool := false
  /-- The POWER_STATE target of the function (R529). -/
  target : Nat := 0
  /-- PME_Turn_Off was answered with PME_TO_Ack (R140, R545). -/
  pmeOff : Bool := false
  /-- The link entered ASPM L1 (R141). -/
  l1 : Bool := false
  /-- The admin ring is being deleted: ENABLE reads 0 once its completions are written (R152). -/
  disabling : Bool := false
  /-- The RECONCILE event of R105 has been posted for the entries held. -/
  reconPosted : Bool := false
  /-- Asynchronous events that wait for the return to D0: (type, INFO) (R544). -/
  owed : List (Nat × Nat) := []
  /-- PME_Status is set (R144). -/
  pme : Bool := false
  /-- The CQ slot + 1 of the earlier entry of each event type whose slot the host has not released (R183). -/
  asyncSlot : Tbl Nat := []
  /-- The Health part-failure flag since the last HEALTH report (R182). -/
  partFailed : Bool := false
  deriving DecidableEq, Repr

/-- One MSI-X vector (R124, R125). -/
structure Msix where
  addr : Nat := 0
  data : Nat := 0
  masked : Bool := true
  pend : Bool := false
  deriving DecidableEq, Repr

/-- The active copy of a window entry (R126, R129). -/
structure Win where
  target : Nat := 0
  wrEn : Bool := false
  rdEn : Bool := false
  ridChk : Bool := false
  rid : Nat := 0
  base : Nat := 0
  limit : Nat := 0
  deriving DecidableEq, Repr

/-- What a tag of a port is used for (R133 to R135). -/
inductive TagUse where
  | idle
  /-- A submission fetch of `n` entries of a ring from an index, with its deadline frame. -/
  | fetch (ring start n deadline : Nat)
  /-- The read of block `blk` of a context's data. -/
  | data (ctx blk deadline : Nat)
  /-- The read of a PRP page list or an SGL descriptor list of a context. -/
  | list (ctx deadline : Nat)
  /-- Quarantined until a frame. -/
  | quarantined (untilFrame : Nat)
  deriving DecidableEq, Repr

/-! ### Rings and contexts (chapter 05) -/

/-- The ring states of R189. -/
inductive RingSt where
  | absent | active | resetting | error
  deriving DecidableEq, Repr

/-- One ring pair (R150 to R158, R184, R189). -/
structure Ring where
  st : RingSt := .absent
  sqBase : Nat := 0
  cqBase : Nat := 0
  sqSize : Nat := 0
  cqSize : Nat := 0
  sqHead : Nat := 0
  sqTail : Nat := 0
  cqHead : Nat := 0
  cqTail : Nat := 0
  phase : Bool := false
  group : Bool := false
  prio : Nat := 0
  vector : Nat := 0
  aggCount : Nat := 0
  aggTime : Nat := 0
  /-- Fetched commands whose completions have not been written (F of R157). -/
  inflight : Nat := 0
  /-- Completions written and not yet signalled (R184). -/
  unsig : Nat := 0
  /-- The frame of the first unsignalled completion (R184). -/
  unsigAt : Nat := 0
  /-- Entries asked for by a fetch that has not completed (R158). -/
  asked : Nat := 0
  /-- The admin context of the RING_DELETE or RING_RESET in progress (R170), plus one. -/
  waiter : Nat := 0
  /-- The command in progress is a RING_DELETE. -/
  deleting : Bool := false
  /-- Unfetched entries the reset discarded (R167). -/
  discarded : Nat := 0
  deriving DecidableEq, Repr

/-- The states of a context: R194, R195, R211, and an admin command's execution. -/
inductive Phase where
  | free
  | ordered
  | landing
  | published
  | snapshot
  | moving
  /-- An admin command that passed its checks and has not run. -/
  | executing
  /-- An admin command whose record is in the journal and not yet durable (R28). -/
  | committing
  /-- Committed; the completion is not yet written. -/
  | committed
  /-- Ended without a commit; the completion is not yet written. -/
  | finished
  /-- The completion TLP was transmitted and not yet acknowledged (R27). -/
  | sent
  deriving DecidableEq, Repr

/-- Where a snapshot took a block from (R205). -/
inductive Source where
  | version (osn : Nat)
  | media (addr : Nat)
  | zero (unwritten : Bool)
  deriving DecidableEq, Repr

/-- The data pointer walk of a command (R162, R163, R593). -/
structure Walk where
  /-- Host (address, length) pieces known so far, in transfer order. -/
  segs : List (Nat × Nat) := []
  /-- Address of the next list, if one is still to be read. -/
  next : Option Nat := none
  /-- Descriptors or entries of that list. -/
  count : Nat := 0
  /-- Lists read. -/
  lists : Nat := 0
  deriving DecidableEq, Repr

/-- One hardware command context (R157). -/
structure Ctx where
  phase : Phase := .free
  fn : Nat := 0
  ring : Nat := 0
  pkt : Packet := 0
  /-- Fetch order (R107). -/
  order : Nat := 0
  /-- Ordering sequence number; 0 when none was assigned (R190). -/
  osn : Nat := 0
  status : Nat := 0
  result : Nat := 0
  unwritten : Bool := false
  rebuilt : Bool := false
  /-- The command was committed (R28). -/
  committed : Bool := false
  /-- Next block to read from the host, or to move to it. -/
  blk : Nat := 0
  /-- Blocks received from the host and sealed, as a mask. -/
  received : Nat := 0
  walk : Walk := {}
  /-- The frame at which the command was published (R209). -/
  pubAt : Nat := 0
  /-- The command holds its span entries (R198). -/
  spans : Bool := false
  /-- The sources of the snapshot, block by block (R205). -/
  snap : List Source := []
  /-- Reconcile and Lost-stripe SEQs the GET_LOG releases when posted (R177). -/
  release : List Nat := []
  /-- The command's wait for a span entry has been counted (R198). -/
  spanWait : Bool := false
  /-- Reserved invocation counters of the blocks: (slot, epoch, J) per block (R503). -/
  ivs : List (Nat × Nat × Nat) := []
  /-- The frame at which the command was fetched (R52). -/
  fetchedAt : Nat := 0
  /-- Blocks decoded from flash and ready to move, as a mask, and blocks that ended with a status: (block, status). -/
  ready : Nat := 0
  bad : List (Nat × Nat) := []
  /-- Acknowledgements of the command's range note: bit 0 from P, bit 1 from Q (R30, R397). -/
  note : Nat := 0
  /-- What an admin command carries from its checks to its commit: an unwrapped or generated key, the record that was read, and the
  words of an image or of a log page's snapshot (R176, R303, R378, R498). -/
  key : BitVec 256 := 0
  page : Block := 0
  img : List (BitVec 32) := []
  deriving DecidableEq, Repr

/-! ### Data (chapters 06, 11, 16) -/

/-- A sealed block: ciphertext, the 12 tag bytes and IVW (R500, R501). -/
structure Sealed where
  ct : Block
  tag : BitVec 96
  ivw : BitVec 32
  deriving DecidableEq, Repr

/-- One block of a page image or a version. -/
inductive Stored where
  /-- Zeroes that were never sealed: a block no write filled (R203). -/
  | zero
  | block (s : Sealed)
  /-- The unrecovered marker of R203. -/
  | lost
  deriving DecidableEq, Repr

/-- The states of a version (R197); `landing` before it is published. -/
inductive VerSt where
  | landing | staged | committed | adopted
  deriving DecidableEq, Repr

/-- A version: the data one write gives one IU (R197). -/
structure Version where
  osn : Nat
  iu : Nat
  mask : Nat
  st : VerSt
  /-- The blocks by their index in the IU, 0 to 3. -/
  data : List (Nat × Stored)
  /-- Blocks with both mirror copies written, as a mask. -/
  mirrored : Nat
  clean : Bool
  /-- The two sub-channels that hold its copies (R196). -/
  scA : Nat
  scB : Nat
  /-- The media address of the page it was folded into, when programmed. -/
  folded : Option Nat
  /-- Blocks whose granules P and Q have acknowledged (R30), as masks. -/
  ackP : Nat
  ackQ : Nat
  /-- The version's outer placement no longer counts as pending. -/
  placed : Bool
  /-- The frame of its last use (R200). -/
  used : Nat
  deriving DecidableEq, Repr

/-- The states of a range-table entry (R356, R357). -/
inductive RangeSt where
  | landing | published | committed | adopted
  deriving DecidableEq, Repr

/-- A range-table entry (R356): the IUs a TRIM or WRITE_ZEROES covers whole. -/
structure RangeEnt where
  osn : Nat
  zeroes : Bool
  firstIu : Nat
  count : Nat
  st : RangeSt
  deriving DecidableEq, Repr

/-- What an ADMIN record changes when it becomes durable (R346, R28): the owners' kept tables. -/
inductive AdminRec where
  | osnMark (mark : Nat)
  | feature (fid value : Nat)
  | keySlot (slot : Nat)
  | keyMark (slot : Nat)
  | transportKey
  | microcodeKey
  | purge (slot : Nat)
  | group
  | leave
  | ucode (slot : Nat)
  | activate (slot : Nat)
  | view
  | generic (owner : Nat)
  deriving DecidableEq, Repr

/-- One journal record (R346). -/
inductive Rec where
  | version (iu mask osn : Nat)
  | commit (ring fn cid opc status osn : Nat)
  | map (guarded : Bool) (cause iu entry old : Nat)
  | range (zeroes : Bool) (iu count osn : Nat)
  | rangeDone (osn count : Nat)
  | eraseStart (mask : Nat) (slc : Bool) (addr : Nat)
  | eraseEnd (mask : Nat) (slc : Bool) (addr : Nat)
  | bandOpen (band : Nat)
  | bandClose (band : Nat)
  | retire (cause addr : Nat)
  | drain (iu mask osn addr : Nat)
  | mapPage (kind page a b : Nat)
  | ckpt (batch a b : Nat)
  | drainEnd (bytes : Nat)
  | admin (a : AdminRec) (ctx : Nat)
  | ledger (type a b c : Nat)
  deriving DecidableEq, Repr

/-- The journal (R345 to R350): the batch being collected, the batch written and not yet durable, the durable records since
the checkpoint position (oldest first) and the map as of that position. -/
structure Journal where
  /-- The number of the batch being collected. -/
  batch : Nat := 1
  collecting : List Rec := []
  /-- The batch in flight: its number and its records. -/
  flight : Option (Nat × List Rec) := none
  /-- Durable batches since the checkpoint position, oldest first. -/
  durable : List (Nat × List Rec) := []
  /-- The checkpoint position (R349). -/
  position : Nat := 0
  /-- The position of the last durable CKPT record. -/
  ckpt : Nat := 0
  /-- Bytes of journal since the checkpoint position. -/
  bytes : Nat := 0
  /-- Write-out is in the mandatory class (R349). -/
  urgent : Bool := false
  /-- The journal has reached 4 GiB (R349). -/
  full : Bool := false
  /-- Dirty map pages: page number and first-dirtied batch (R348). -/
  dirty : Tbl Nat := []
  deriving DecidableEq, Repr

/-- The map entry of R342. -/
inductive MapEnt where
  | unmapped
  | zeroed
  | media (addr : Nat)
  deriving DecidableEq, Repr

/-- Translation, write buffer and journal. -/
structure Ftl where
  /-- The map in DRAM (R342, R343). -/
  map : Tbl MapEnt := []
  /-- The map as of the checkpoint position, on flash (R349, R350). -/
  root : Tbl MapEnt := []
  journal : Journal := {}
  /-- The versions in the write buffer, oldest first (R197). -/
  versions : List Version := []
  /-- The range table (R356). -/
  ranges : List RangeEnt := []
  /-- What the drain of the last cold reset wrote (R365). -/
  drained : List Version := []
  /-- The last OSN assigned (R190). -/
  osn : Nat := 0
  /-- The durable OSN mark (R190). -/
  mark : Nat := 2 ^ 20
  /-- Rotation of mirror placement after a loss (R196). -/
  rotor : Nat := 0
  /-- Fixed capacity in logical blocks, set at the first cold start (R341). -/
  capacity : Nat := 0
  /-- Spare blocks at the first cold start (R367). -/
  spare0 : Nat := 0
  /-- Wear levelling is in progress (R359). -/
  levelling : Bool := false
  /-- Read-only through spare space is permanent (R368). -/
  spent : Bool := false
  /-- The next band number (never reused, R351), and garbage collection runs (R358). -/
  nextBand : Nat := 1
  collecting : Bool := false
  /-- Dirty bytes last measured above the ceiling hold admission (R237). -/
  excess : Bool := false
  deriving DecidableEq, Repr

/-! ### Flash channels, microcode and media (chapters 08, 09, 10) -/

/-- The LUN states of R257. -/
inductive LunSt where
  | idle | sensing | dataOut | dataIn | busy | suspending | suspended | resetting | failed
  deriving DecidableEq, Repr

/-- The scheduling classes of R232. -/
inductive Cls where
  | mandatory | rd | wr | gc | rb | pt
  deriving DecidableEq, Repr

/-- The kinds of operation a channel engine runs (chapter 08, "Operations and queues"). -/
inductive OpKind where
  | read | program | erase | feature | training
  deriving DecidableEq, Repr

/-- What an operation's end is reported to. -/
inductive OpFor where
  /-- Nothing waits, or the decode tasks of its page do. -/
  | none
  /-- The stripe of a band's word line: (band, word line) (R354). -/
  | stripe (band wl : Nat)
  /-- The erase of a block: whether it was started for a band's formation. -/
  | erase
  deriving DecidableEq, Repr

/-- A sequence context (R281). -/
structure Seq where
  c0 : Nat := 0
  c1 : Nat := 0
  c2 : Nat := 0
  c3 : Nat := 0
  pgo : Nat := 0
  cwp : Nat := 0
  plane : Nat := 0
  latch : Nat := 0
  hit : Bool := false
  deriving DecidableEq, Repr

/-- One NAND operation. -/
structure Op where
  kind : OpKind
  /-- Media address; a multi-plane operation names plane 0. -/
  addr : Nat
  /-- Plane mask. -/
  planes : Nat
  slc : Bool
  cls : Cls
  entry : Nat
  /-- Page images to program: (media address, IU plus one or 0 for an XOR or filler page, four blocks). -/
  images : List (Nat × Nat × List Stored) := []
  owner : OpFor := .none
  /-- The parameters of R289: retry level, feature address and value, codewords, training step. -/
  level : Nat := 0
  faddr : Nat := 0
  fval : Nat := 0
  cws : Nat := 0
  step : Nat := 0
  /-- LEN of its present array phase, and the frames left when it was last suspended (R264, R297). -/
  len : Nat := 0
  left : Nat := 0
  suspends : Nat := 0
  resumed : Bool := false
  deriving DecidableEq, Repr

/-- One LUN of a channel (R255, R257, R281, R284). -/
structure Lun where
  st : LunSt := .idle
  op : Option Op := none
  seq : Seq := {}
  /-- The YIELD reached: WAIT, continuation entry, power class, and the frame of its declared end (R284). -/
  wait : Nat := 0
  cont : Nat := 0
  pcls : Nat := 0
  endAt : Nat := 0
  /-- The continuation is offered for admission (R285). -/
  offered : Bool := false
  /-- The suspended operation with its context and continuation, and the frame of its suspend (R265). -/
  held : Option (Op × Seq × Nat) := none
  heldAt : Nat := 0
  /-- The carried load asked for the suspend (R247). -/
  carried : Bool := false
  /-- The sequence that runs is a suspend's. -/
  suspends : Bool := false
  /-- A bus phase ran past 9,900 ns and waits to be stopped (R294). -/
  overs : Option Nat := none
  /-- The six class queues as one list in posting order; each operation carries its class (R255). -/
  queue : List Op := []
  /-- The die description matched at initialisation, and the Read ID it was matched by (R252). -/
  die : Nat := 0
  id : Nat := 0
  /-- Band, temperature, consecutive bad samples (R319, R554); the level applied in the die and the current level per band (R320). -/
  band : Nat := 0
  temp : Int := 0
  applied : Nat := 0
  current : Tbl Nat := []
  /-- The frame of the last phase progress (R257). -/
  progressAt : Nat := 0
  deriving DecidableEq, Repr

/-- One channel's initialisation, training and retraining (R252, R253). -/
structure Chn where
  /-- Retraining steps passed, plus one, when a retraining runs; its cause (R279). -/
  retrain : Nat := 0
  cause : Nat := 0
  /-- Reads and hard-decode failures of the last second (R253). -/
  reads : Nat := 0
  hardFails : Nat := 0
  /-- ZQ drive-strength code at the last training, and the latest. -/
  zq : Nat := 0
  zqNow : Nat := 0
  /-- Bus time used in this frame, in 0.25 ns (R294). -/
  used : Nat := 0
  deriving DecidableEq, Repr

/-- Block states of R258. -/
inductive BlkSt where
  | erased | opened | closed | erasing | eraseUnfin | retired | raw
  deriving DecidableEq, Repr

/-- One block-state entry (R258, R353) with its erase count (R359). An unlisted block is as the first cold start leaves it:
ERASE_UNFIN, write pointer unknown. -/
structure Blk where
  st : BlkSt := .eraseUnfin
  slc : Bool := false
  /-- Write pointer; none when unknown (0x1FFF). -/
  wp : Option Nat := none
  valid : Nat := 0
  kind : Nat := 0
  /-- The lowest page below WP whose program has not completed (R261). -/
  busyFrom : Option Nat := none
  erases : Nat := 0
  /-- Relocation is requested (R329, R362). -/
  refresh : Bool := false
  /-- ERASE_START (R259): 0 none, 1 its record waits, 2 it is durable and the erase is not issued, 3 the erase is posted. -/
  started : Nat := 0
  /-- The band of the block plus one; 0 for a free block. -/
  band : Nat := 0
  deriving DecidableEq, Repr

/-- One IU slot of a programmed page: the IU plus one (0 for an XOR or filler page) and its four blocks. -/
structure PageImg where
  iu : Nat := 0
  blocks : List Stored := []
  /-- The page was interrupted or failed and counts as invalid (R108). -/
  invalid : Bool := false
  deriving DecidableEq, Repr

/-- Band kinds of R351. -/
inductive BandKind where
  | host | gc | journal | map | drain | drainFold
  deriving DecidableEq, Repr

/-- An IU placed in a stripe: the IU, its page, the highest OSN folded or the expected old entry, the cause of its MAP record
(none for a fold), and whether that record has been written (R355). -/
structure Placed where
  iu : Nat
  addr : Nat
  top : Nat
  cause : Option Nat
  mapped : Bool
  deriving DecidableEq, Repr

/-- The pages of one word line of a band, from their issue until every IU of it is mapped and its groups have left exposure. -/
structure Stripe where
  wl : Nat
  /-- Channels whose programs have not passed, and channels whose programs failed, as masks. -/
  waiting : Nat
  failed : Nat
  ius : List Placed
  deriving DecidableEq, Repr

/-- One band record (R351), with the next word line to fill and the stripes in progress. -/
structure Band where
  number : Nat
  dieSet : Nat
  kind : BandKind
  slc : Bool
  channels : Nat
  /-- Block index by channel. -/
  blocks : List (Nat × Nat)
  empty : Nat
  openedAt : Nat
  isOpen : Bool
  closedAt : Nat
  next : Nat
  stripes : List Stripe
  deriving DecidableEq, Repr

/-- The steps of a codeword's ladder as a decode task waits in them (R316, R321). -/
inductive DecSt where
  | sensing | hard | softSensing | soft | row | outer
  deriving DecidableEq, Repr

/-- A codeword being read for a command's block or for patrol (R321). -/
structure Dec where
  /-- Page address with its IU slot, and the codeword of that IU slot. -/
  addr : Nat
  cw : Nat
  /-- The context plus one and its block, or 0 for patrol. -/
  ctx : Nat
  blk : Nat
  cls : Cls
  st : DecSt
  /-- Retry senses used, the level of the present sense, the levels tried, and the best failed level: (unsatisfied checks, level). -/
  senses : Nat := 0
  level : Nat := 0
  tried : List Nat := []
  best : Option (Nat × Nat) := none
  /-- Soft senses still to come. -/
  softLeft : Nat := 0
  /-- Some decode passed LDPC and failed its tag (R506). -/
  badTag : Bool := false
  deriving DecidableEq, Repr

/-- A reply to an outer patrol request (R332): the member, its slot, its status and its digests. -/
structure DigestReply where
  member : Nat
  slot : Nat
  status : Nat
  digests : List Nat
  deriving DecidableEq, Repr

/-- An outer patrol request that waits for replies (R332, R333). -/
structure PatrolWait where
  stripe : Nat
  chunk : Nat
  count : Nat
  deadline : Nat
  replies : List DigestReply
  deriving DecidableEq, Repr

/-- Patrol (R327 to R333). -/
structure Patrol where
  inner : Nat := 0
  outer : Nat := 0
  /-- The outer walk: the stripe number last visited and its next chunk (R331). -/
  outerAt : Nat × Nat := (0, 0)
  /-- The band being walked plus one, its row, and the channel position within the row. -/
  band : Nat := 0
  row : Nat := 0
  pos : Nat := 0
  /-- The row last saved (R328): band plus one and row. -/
  saved : Nat × Nat := (0, 0)
  /-- Rows walked since the last save. -/
  since : Nat := 0
  /-- Outer requests that wait for replies. -/
  waits : List PatrolWait := []
  deriving DecidableEq, Repr

/-- The images of the boot store and the control store (R280, R298, R302): little-endian words. -/
structure Ucode where
  base : List (BitVec 32) := []
  slotA : List (BitVec 32) := []
  slotB : List (BitVec 32) := []
  /-- The customer slot the slot record names active: 1 A, 2 B, 0 none. -/
  record : Nat := 0
  /-- The active image. -/
  active : List (BitVec 32) := []
  /-- The image that waits for its swap, its source, the swap frame and whether the store has been written (R305). -/
  next : List (BitVec 32) := []
  nextFrom : Nat := 0
  swapAt : Nat := 0
  swapped : Bool := false
  /-- The context of the UCODE_LOAD that waits for the swap, plus one. -/
  loader : Nat := 0
  deriving DecidableEq, Repr

/-- The frame scheduler (R220 to R239): credits by class in nJ, and the plan. What is booked is read
from the LUNs. -/
structure Sched where
  /-- Credit of the classes RD 0, WR 1, GC 2, RB 3, PT 4 (R233, R234). -/
  credit : Tbl Nat := []
  /-- E_frame of the present plan. -/
  energy : Nat := 0
  /-- LUNs whose continuation or head operation of a class the plan admits, in admission order: LUN, class, codewords admitted. -/
  plan : List (Nat × Nat × Nat) := []
  /-- The plan was made and not yet issued. -/
  made : Bool := false
  /-- Consecutive cutoffs at which the carried load exceeded E_frame (R247), and suspension is in force. -/
  overs : Nat := 0
  suspending : Bool := false
  /-- Map-page reads and other units admitted by the plan, by FRM_COST index (R222). -/
  units : Tbl Nat := []
  /-- Charge current the cutoff chose, in 0.1 A (R226). -/
  ichg : Nat := 0
  deriving DecidableEq, Repr

/-! ### Power (chapter 17) -/

/-- The power block (R527 to R541): what its registers do not hold. -/
structure Pwr where
  /-- The state being entered, and the state in which the entry began (R531, R534). -/
  goal : Nat := 0
  origin : Nat := 0
  startAt : Nat := 0
  /-- Domain answers of the ask phase: 1 accepted, 2 refused, 3 delayed (R533). -/
  answers : Tbl Nat := []
  askAt : Nat := 0
  /-- Rails still to be written in this sequence: (rail, mV), in order (R540). -/
  waiting : List (Nat × Nat) := []
  /-- Frame of the last write of each port, and writes of the present request (R540). -/
  wroteAt : Tbl Nat := []
  writes : Tbl Nat := []
  /-- Voltage of each rail before the present request (R540). -/
  before : Tbl Nat := []
  /-- Rails whose raise failed and is repeated every 100 fr (R540). -/
  raiseFailed : Nat := 0
  /-- Rails are being raised (an exit or an abandonment). -/
  raising : Bool := false
  /-- The frame of the wake's recognition, and the state the exit leads to (R536, R537). -/
  wakeAt : Nat := 0
  exitTo : Nat := 0
  /-- The retry interval ends at this frame (R533). -/
  retryAt : Option Nat := none
  /-- Consecutive idle frames (R530). -/
  idle : Nat := 0
  /-- PWR_WAKE is to be sampled four cycles after a commit (R535). -/
  sample : Bool := false
  /-- Fabric and core clocks run at 800 MHz (R527). -/
  fullClock : Bool := true
  /-- Frame of the last work of a domain (R240). -/
  work : Tbl Nat := []
  deriving DecidableEq, Repr

/-! ### Thermal and fans (chapter 18) -/

/-- One sensor (R553, R554): its class, reading and consecutive-sample counts. -/
structure Sensor where
  seen : Bool := false
  temp : Int := 0
  broken : Bool := false
  deviant : Nat := 0
  implausible : Nat := 0
  plausible : Nat := 0
  atStop : Nat := 0
  atTrip : Nat := 0
  deriving DecidableEq, Repr

/-- One hourly record of the temperature history (R561). -/
structure HourRec where
  hours : Nat
  low : Int
  mean : Int
  high : Int
  throttled : Nat
  hotClass : Nat
  hotIndex : Nat
  deriving DecidableEq, Repr

/-- The thermal monitor (R553 to R561): what its registers do not hold. -/
structure Thermal where
  /-- Frame since which every unbroken sensor has read below its effective set point (R558). -/
  coolFrom : Option Nat := none
  /-- Frame at which the orderly stop began (R557). -/
  stopAt : Nat := 0
  /-- After a trip: the core die is held off and the fans run at rated speed (R560). -/
  tripped : Bool := false
  /-- Temperature history (R561): frames above the set point and stopped, the highest composite, the bins, the hours. -/
  aboveSp : Nat := 0
  stopped : Nat := 0
  maxComposite : Int := 0
  bins : Tbl Nat := []
  hourly : List HourRec := []
  /-- The hour being collected: samples, sum, least, greatest, frames throttled, counts of the hottest sensor. -/
  hN : Nat := 0
  hSum : Int := 0
  hLow : Int := 0
  hHigh : Int := 0
  hThrottled : Nat := 0
  hHot : Tbl Nat := []
  deriving DecidableEq, Repr

/-- One fan (R562 to R572): what its registers do not hold. -/
structure Fan where
  /-- Consecutive crossings in one direction, valid crossings, consecutive misses. -/
  fwd : Nat := 0
  rev : Nat := 0
  valid : Nat := 0
  misses : Nat := 0
  /-- The frame of entering the present state, and of the last crossing. -/
  since : Nat := 0
  lastAt : Nat := 0
  /-- The frame since which the fan has been in Run without a reset of A. -/
  runFrom : Nat := 0
  /-- Commanded speed in 0.1 rpm, slewed (R563). -/
  cmd : Nat := 0
  /-- The PWM on-time was ended by the peak limit (R562). -/
  cut : Bool := false
  /-- Locate pulses done, of 12 (R568). -/
  pulse : Nat := 0
  /-- Braked in Settle until no crossing is seen (R567). -/
  braked : Bool := false
  /-- Frame of the last back-EMF measurement (R571). -/
  keAt : Nat := 0
  deriving DecidableEq, Repr

/-- The sideband items as last refreshed (R86), and the transaction in progress. -/
structure Sideband where
  items : Tbl Nat := []
  /-- Frame of the last refresh. -/
  at_ : Nat := 0
  deriving DecidableEq, Repr

/-! ### DRAM (chapter 14) -/

/-- The page counter of a bank and its open row (R437). -/
structure Bank where
  ctr : Nat := 2
  /-- The row of the last access. -/
  last : Option Nat := none
  opened : Bool := false
  deriving DecidableEq, Repr

/-- One merge-buffer entry (R442): the whole merged line and the mask of written bytes. -/
structure Merge where
  line : Nat
  mask : Nat
  data : BitVec 512
  /-- The merge read was uncorrectable; the bytes are kept until the line is recovered. -/
  blocked : Bool
  deriving DecidableEq, Repr

/-- One DRAM sub-channel (R429 to R450): what its registers do not hold. -/
structure Sc where
  /-- Line contents by line index; an unlisted line holds zeroes. -/
  lines : Tbl (BitVec 512) := []
  /-- Granules below this one are swept; claimed or individually initialised ranges; granules awaited by a write (R432, R433). -/
  swept : Nat := 0
  claimed : List (Nat × Nat) := []
  wanted : List Nat := []
  banks : Tbl Bank := []
  merge : List Merge := []
  /-- Lines waiting for the scrubber, oldest first, and lines it has rewritten (R441). -/
  scrub : List Nat := []
  scrubbed : List Nat := []
  /-- Distinct correctable lines of the last second with the component each located: (frame, line, component) (R448, R451). -/
  seen : List (Nat × Nat × Nat) := []
  /-- Frames of the uncorrectable lines of the last hour (R451). -/
  ueAt : List Nat := []
  /-- The latest 100 samples of the PHY diode (R447, R448). -/
  temps : List Int := []
  /-- Steps of the training or margin check run so far, and whether one of its margin offsets showed an error. -/
  steps : Nat := 0
  trnBad : Bool := false
  /-- The rate being tried, as DRC_GEOM.MAX_RATE. -/
  trying : Nat := 0
  /-- Frame of the last event 0x0104 plus one (R433). -/
  uninitAt : Nat := 0
  /-- Requests promoted to class 0 by age, oldest first, by line (R436). -/
  promoted : List Nat := []
  /-- Same-bank refreshes issued, modulo 4. -/
  refreshed : Nat := 0
  deriving DecidableEq, Repr

/-- The DRAM controller as a whole. -/
structure Dram where
  /-- Queued margin-check triggers in their order: (sub-channel, cause) (R448). -/
  queue : List (Nat × Nat) := []
  /-- Members of the Bloom pair trained so far, lower first (R92). -/
  pair : List Nat := []
  /-- The staging pair: first copy and second copy (R431). -/
  staging : Option (Nat × Nat) := none
  /-- The remap tables as recorded in the boot store: (sub-channel, line, poison) (R445). -/
  remapSaved : List (Nat × Nat × Bool) := []
  /-- The tables have changed since they were recorded. -/
  remapDirty : Bool := false
  /-- Map pages of a failed sub-channel wait to be reloaded (R452). -/
  reload : Bool := false
  deriving DecidableEq, Repr

/-! ### Buffer pool and Thitralen (chapter 15) -/

/-- One pool buffer (R460, R470): free while its count is 0. -/
structure Buf where
  owner : Nat := 0
  gen : Nat := 0
  refs : Nat := 0
  /-- The valid map, and the lines and the side field written. -/
  valid : Nat := 0
  lines : Tbl (BitVec 512) := []
  side : BitVec 128 := 0
  deriving DecidableEq, Repr

/-- The buffer pool (R460 to R472). -/
structure Pool where
  bufs : Tbl Buf := []
  /-- Requests that wait, oldest first: (owner, buffers) (R468). -/
  queue : List (Nat × Nat) := []
  /-- The policy in effect (R467). -/
  fcfs : Bool := false
  /-- The back-pressure state: 0 Normal, 1 Warning, 2 Critical (R469). -/
  press : Nat := 0
  deriving DecidableEq, Repr

/-- One Thitralen entry, by the number of its first unit (R473). WIDTH is the table's. -/
structure ThiEnt where
  valid : Bool := false
  table : Nat := 0
  prio : Nat := 0
  value : Nat := 0
  care : Nat := 0
  data : Nat := 0
  deriving DecidableEq, Repr

/-! ### Security and the boot store (chapter 16) -/

/-- One key slot (R494 to R504, R523). -/
structure KeySlot where
  /-- 0 EMPTY, 1 LOADED, 2 PURGING. -/
  st : Nat := 0
  base : BitVec 256 := 0
  autoRoll : Bool := false
  generated : Bool := false
  /-- The realm's first and last LBA; zero for slot 0. -/
  first : Nat := 0
  last : Nat := 0
  epoch : Nat := 0
  oldest : Nat := 0
  /-- Counter values reserved or skipped in the current epoch. -/
  usage : Nat := 0
  warned : Bool := false
  /-- The invocation counters J[r]; an unlisted one stands at `floor`. -/
  ctr : Tbl Nat := []
  floor : Nat := 0
  /-- Durable marks of the counters in units of 256, less one. -/
  marks : Tbl Nat := []
  /-- The admin context of the KEY_PURGE that waits, plus one. -/
  purger : Nat := 0
  /-- The sweep's target epoch, plus one, while a sweep runs (R504). -/
  sweep : Nat := 0
  deriving DecidableEq, Repr

/-- Keys and debug access (R492, R509). -/
structure Sec where
  slots : Tbl KeySlot := []
  /-- The transport key. -/
  tk : Option (BitVec 256) := none
  /-- The group key, and its persisted counter (R508). -/
  groupKey : Option (BitVec 256) := none
  groupCtr : Nat := 0
  /-- Customer microcode keys enrolled, one per fuse bank, oldest first (R498). -/
  mcKeys : List (BitVec 392) := []
  /-- The key SRAM holds the storage wrapping key and the identity key (R92, R492). -/
  ready : Bool := false
  /-- Failed debug signatures since the cold reset (R509). -/
  dbgFails : Nat := 0
  /-- SEC_DBG_RESP as written (R521). -/
  resp : Tbl Nat := []
  deriving DecidableEq, Repr

/-- One firmware slot of the boot store (R514): its 4 KiB units by number, and the units written. -/
structure FwSlot where
  /-- 0 EMPTY, 1 WRITING, 2 COMPLETE. ACTIVE is the activation record's. -/
  st : Nat := 0
  /-- 0 unchecked, 1 passed, 2 failed. -/
  check : Nat := 0
  units : Tbl Block := []
  written : Nat := 0
  deriving DecidableEq, Repr

/-- What a boot-store write in progress records (R445, R512). -/
inductive StoreOp where
  | image | remap | ucode | record
  deriving DecidableEq, Repr

/-- The boot store (R510 to R519). -/
structure Bst where
  active : Nat := 1
  failCount : Nat := 0
  fusedSv : Nat := 0
  fw : Tbl FwSlot := []
  /-- Programs and erases that run, oldest first. -/
  queue : List StoreOp := []
  /-- The context of the FW_ACTIVATE that committed, plus one, and the frame of its commit (R213, R519). -/
  activator : Nat := 0
  commitAt : Nat := 0
  /-- The drain of R213 has ended and the new firmware has not resumed. -/
  swapped : Bool := false
  deriving DecidableEq, Repr


/-! ### The peer group and its stripes (chapters 12 and 13) -/

/-- What the device holds of a listed member besides GLI_PEER (R377, R381, R383, R384). -/
structure Peer where
  listed : Bool := false
  base : Nat := 0
  log2 : Nat := 0
  reqId : Nat := 0
  /-- The last (INCARNATION, CTR) accepted in a beacon, plus one on the counter. -/
  seenInc : Nat := 0
  seenCtr : Nat := 0
  /-- Own and peer nonce of the handshake, the frame at which it began, and the frame of the retry. -/
  mine : Nat := 0
  theirs : Nat := 0
  greetAt : Nat := 0
  retryAt : Nat := 0
  /-- The session key, and the frame of the last heartbeat. -/
  key : Option (BitVec 256) := none
  heardAt : Nat := 0
  /-- Next SEQ to send, next SEQ expected, bytes consumed since the last ACK sent, and the frame of that ACK. -/
  sendSeq : Nat := 1
  recvSeq : Nat := 1
  unacked : Nat := 0
  ackAt : Nat := 0
  /-- The ring position of the next message expected, in bytes. -/
  pos : Nat := 0x1000
  /-- The latest steward heartbeat number the peer has echoed (R389). -/
  echoed : Nat := 0
  /-- The frame of the last beacon sent to it. -/
  beaconAt : Nat := 0
  /-- The ledger states have been sent to it in this session (R420). -/
  synced : Bool := false
  /-- It asked to leave (R388), and the frame at which its absence or request was seen. -/
  leaving : Bool := false
  goneAt : Nat := 0
  deriving DecidableEq, Repr

/-- A CONTRIB sent and not yet acknowledged (R407, R408). -/
structure Sent where
  peer : Nat
  seq : Nat
  stripe : Nat
  slot : Nat
  withdraw : Bool
  offs : List Nat
  stages : List Nat
  /-- The OSN of a range note, or 0. -/
  osn : Nat := 0
  deriving DecidableEq, Repr

/-- A granule that the device holds as a data member (R397, R399): its offset, header and sealed block, which parity members have
acknowledged it, and its withdrawal with its acknowledgements (R410). -/
structure Gran where
  off : Nat
  head : GHead
  data : Stored
  ackP : Bool := false
  ackQ : Bool := false
  /-- Media address of the IU slot that holds the block, plus one; 0 while only the buffer does. -/
  addr : Nat := 0
  withdrawn : Bool := false
  wdP : Bool := false
  wdQ : Bool := false
  deriving DecidableEq, Repr

/-- The states of R412 in the order of their codes. -/
inductive StripeSt where
  | opened | sealed | thinning | degraded | rebuilding | lost | released
  deriving DecidableEq, Repr

/-- A parity member's record of one granule (R405): 1 COUNTED, 2 WITHDRAWN; an unlisted one is EMPTY. -/
structure Tally where
  st : Nat := 0
  head : GHead := {}
  deriving DecidableEq, Repr

/-- One peer stripe in which the device holds a role or a target's place (R401, R405, R408, R412). -/
structure PStripe where
  num : Nat
  k : Nat
  p : Nat
  q : Nat
  vacant : Nat
  view : Nat
  st : StripeSt := .opened
  /-- The state before Degraded. -/
  before : StripeSt := .opened
  /-- Erased mask of R411. -/
  erased : Nat := 0
  /-- Slots whose segments are closed, as a mask. -/
  closed : Nat := 0
  openedAt : Nat := 0
  /-- Accumulator by offset, and tallies by slot × 16384 + offset, of a parity member. -/
  acc : Tbl Block := []
  tally : Tbl Tally := []
  /-- Range notes held: (slot, slba, nblk, osn). -/
  notes : List (Nat × Nat × Nat × Nat) := []
  /-- The own data segment: granules by offset, and the next free offset. -/
  grans : List Gran := []
  fill : Nat := 0
  /-- The plan in force, its next chunk, and the chunks reported done, as a mask. -/
  plan : Nat := 0
  next : Nat := 0
  done : Nat := 0
  deriving DecidableEq, Repr

/-- A source's report of one chunk to the aggregator (R416): slot as R332, and its granules: offset, data (none when unreadable),
header. -/
structure ChunkSource where
  slot : Nat
  grans : List (Nat × Option Block × GHead)
  deriving DecidableEq, Repr

/-- A chunk being solved by this device as aggregator (R416, R421). -/
structure Agg where
  stripe : Nat
  chunk : Nat
  plan : Nat
  /-- It serves an outer read of this device (R421), not a rebuild. -/
  outer : Bool
  sources : List ChunkSource
  deriving DecidableEq, Repr

/-- The group (R374 to R390): what the GLI registers do not hold. -/
structure Group where
  peers : Tbl Peer := []
  incarnation : Nat := 0
  /-- Steward heartbeat: the last number sent and the frame of each number not yet echoed by a majority; the lease's end. -/
  hb : Nat := 0
  hbAt : Tbl Nat := []
  lease : Nat := 0
  /-- The latest steward heartbeat received, and the end of the grant (R389). -/
  heard : Nat := 0
  grant : Nat := 0
  /-- The highest proposal acknowledged (R387), and its acknowledgement that waits for its batch: (proposer, earlier). -/
  acked : Option View := none
  ackDue : Option (Nat × Option View) := none
  /-- The proposal in progress, its acknowledgements, the frame it was sent, and failed rounds. -/
  prop : Option View := none
  acks : Nat := 0
  propAt : Nat := 0
  fails : Nat := 0
  /-- The highest earlier proposal named in an acknowledgement. -/
  earlier : Option View := none
  /-- A majority has acknowledged and the view becomes durable with the next batch. -/
  winning : Bool := false
  /-- The frame since which a majority has not been heard (R380). -/
  quietFrom : Nat := 0
  lastSent : Nat := 0
  /-- The context of the GROUP_LEAVE that waits, plus one. -/
  leaver : Nat := 0
  /-- Members reconciled after their return (R420), as a mask. -/
  reconciled : Nat := 0
  /-- Stripes, granules that wait for a segment, messages unacknowledged, chunks being solved. -/
  stripes : List PStripe := []
  waiting : List (Nat × Nat × Nat) := []
  sent : List Sent := []
  aggs : List Agg := []
  /-- Acknowledgements owed once the present batch is durable: (peer, stripe, CSEQ, role), by batch number (R408). -/
  owed : List (Nat × Nat × Nat × Nat) := []
  owedNext : List (Nat × Nat × Nat × Nat) := []
  /-- Next staging slot on each peer. -/
  stage : Tbl Nat := []
  /-- The next stripe number and plan number of a steward; the frame of the last rebuild checkpoint. -/
  nextStripe : Nat := 1
  nextPlan : Nat := 1
  ckptAt : Nat := 0
  /-- (INCARNATION, OSN) applied by a target, by LBA (R417). -/
  applied : List (Nat × Nat × Nat) := []
  /-- Granules applied in the last second. -/
  appliedNow : Nat := 0
  deriving DecidableEq, Repr


/-! ### The state -/

/-- The state of the device. -/
structure State where
  /-- The register file: by Fld.key, the exclusive or of the field's value and its reset value. -/
  regs : Tbl Nat
  /-- Kept values of sticky registers over a cold reset, until Grind step 2 ends (R586). -/
  keptRegs : Tbl Nat
  /-- Low words of 64-bit pairs written and not yet combined, and captured high words (R13), by offset. -/
  pairLow : Tbl (Option Nat)
  pairHigh : Tbl (Option Nat)
  /-- The frame counter of the model (R6): boundaries since power first came. -/
  frame : Nat
  board : Board
  sup : Supply
  boot : Boot
  pairs : Pairs
  eps : Tbl Ep
  msix : Tbl Msix
  wins : Tbl Win
  /-- The mailbox SRAM (R128) and, above it, the peer staging region of DRAM (R431), as bytes. -/
  mem : Memory
  tags : Tbl TagUse
  rings : Tbl Ring
  ctxs : Tbl Ctx
  /-- Contexts taken since the warm reset (HIF_CTX_FREE). -/
  nextOrder : Nat
  recon : List Recon
  reconSeq : Nat
  lost : List LostEntry
  lostSeq : Nat
  /-- The latest 4,096 Event log entries, newest first, and the count since manufacture (R181). -/
  events : List Event
  eventTotal : Nat
  /-- Health counters of R178 by page offset. -/
  health : Tbl Nat
  /-- Saved features by FID, plus one (R172), and the host time. -/
  saved : Tbl Nat
  hostTime : Nat
  /-- Round-robin position of the fetch arbitration (R158): key of the ring last served. -/
  rrLast : Nat
  /-- Entries the ring last served may still be fetched in its turn (R158). -/
  rrLeft : Nat
  ftl : Ftl
  blks : Tbl Blk
  pages : Tbl PageImg
  bands : List Band
  chns : Tbl Chn
  luns : Tbl Lun
  pwr : Pwr
  sensors : Tbl Sensor
  thermal : Thermal
  fans : Tbl Fan
  sideband : Sideband
  dram : Dram
  scs : Tbl Sc
  pool : Pool
  thi : Tbl ThiEnt
  sec : Sec
  bst : Bst
  /-- Codewords being read (R321), and patrol (R327 to R333). -/
  decs : List Dec
  patrol : Patrol
  /-- The control store and the images of the boot store (R280, R302). -/
  ucode : Ucode
  sched : Sched
  group : Group
  /-- Everything the device has put on its buses, newest first. -/
  out : List Out
  /-- The counter of free values: the model's own field (DESIGN CHOICE, log entry 2). -/
  free : Nat
  /-- The commands that wait, first in, first out. -/
  pending : List Instr
  deriving DecidableEq, Repr

/-- The field values the board configuration record and the fuses give: bay Sienna where the manual fixes a value, a DESIGN
CHOICE elsewhere (log entry 3). -/
def boardFields : List (Nat × Nat) :=
  (List.range 64).flatMap (fun c =>
    [(Reg.CHN_POP.TARGETS.key c 0, 8), (Reg.CHN_POP.LUNS.key c 0, 4), (Reg.CHN_POP.PLANES.key c 0, 4)])
  ++ [(Reg.HUP_BANK_CFG.COUNT.key 0 0, 32), (Reg.HUP_BANK_CFG.UNIT.key 0 0, 1000),
      (Reg.FRM_BUDGET.RATED.key 0 0, 250), (Reg.FRM_BASE.BASE.key 0 0, 420),
      (Reg.FTL_WEAR_CFG.RATED_PE.key 0 0, 3000), (Reg.FTL_CAPACITY.OP_PCT.key 0 0, 10),
      (Reg.DRC_GEOM.DENSITY.key 0 0, 0), (Reg.DRC_GEOM.RANKS.key 0 0, 1), (Reg.DRC_GEOM.MAX_RATE.key 0 0, 3),
      (Reg.FAN_CTRL.ENABLE.key 0 0, 15)]
  ++ (List.range 4).flatMap (fun f =>
    [(Reg.FAN_F.POLES.key f 0, 4), (Reg.FAN_F.RATED_RPM.key f 0, 1400), (Reg.FAN_F.VMOT.key f 0, 24),
     (Reg.FAN_F.MIN_RPM.key f 0, 200), (Reg.FAN_F.CATCH_RPM.key f 0, 300), (Reg.FAN_F.ILIM.key f 0, 120),
     (Reg.FAN_F.KE_NOM.key f 0, 900), (Reg.FAN_F.P_RATED.key f 0, 15), (Reg.THM_EXT.PRESENT.key f 0, 1)])
  ++ (List.range 40).map (fun d => (Reg.THM_DIODE.PRESENT.key d 0, 1))
  ++ [(Reg.PWR_AVS.P0_MV.key 0 0, 800), (Reg.PWR_AVS.P0_MV.key 1 0, 850), (Reg.PWR_AVS.P0_MV.key 2 0, 900)]

/-- The board at reset: the straps and the record of bay Sienna (DESIGN CHOICE, log entry 3). -/
def Board.sienna : Board :=
  { busSel := true, portMode := false, sbAddr := false, fields := boardFields, subsysVendor := 0x1F4B, subsysId := 0x0001,
    serial := 0, opPct := 10, dramMask := 0xFF }

/-- The first 4 KiB of the image the device is delivered with: a header in the form of R513, then the base Rinbo image at byte 256
(DESIGN CHOICE, log entry 3). -/
def factoryHeader : Block :=
  BitVec.ofNat 32768 (0x3157464C + 1 * 2 ^ 32 + 256 * 2 ^ 48 + 4096 * 2 ^ 64 + 1 * 2 ^ 96 + 0 * 2 ^ 128 + 1 * 2 ^ 136
    + 1 * 2 ^ 144 + 1 * 2 ^ 152 + 0xC40 * 2 ^ 160 + 0x100 * 2 ^ 192 + 4 * baseImage.length * 2 ^ 224 + 0x3030303030312E31 * 2 ^ 256
    + 4000 * 2 ^ 320 + baseImage.foldr (fun w n => w.toNat + n * 2 ^ 32) 0 * 2 ^ 2048)

/-- The boot store as delivered: slot 1 active and complete, slot 2 erased (DESIGN CHOICE, log entry 3). -/
def Bst.factory : Bst := { fw := [(1, { st := 2, units := [(0, factoryHeader)], written := 1 })] }

/-- The machine as delivered, before VIN first rises: every register at its reset value, nothing in memory, no power.
It is the state of a cold reset held (R17, R586); the first command that does anything is VIN_RISE (log entry 1). -/
def State.reset : State :=
  { regs := [], keptRegs := [], pairLow := [], pairHigh := [], frame := 0, board := Board.sienna, sup := {}, boot := {},
    pairs := {}, eps := [], msix := [], wins := [], mem := [], tags := [], rings := [], ctxs := [], nextOrder := 0,
    recon := [], reconSeq := 0, lost := [], lostSeq := 0, events := [], eventTotal := 0, health := [], saved := [],
    hostTime := 0, rrLast := 0, rrLeft := 0, ftl := {}, blks := [], pages := [], bands := [], chns := [], luns := [],
    pwr := {}, sensors := [], thermal := {}, fans := [], sideband := {},
    dram := {}, scs := [],
    pool := {}, thi := [],
    sec := {}, bst := Bst.factory,
    decs := [], patrol := {}, ucode := { base := baseImage }, sched := {}, group := {},
    out := [], free := 0, pending := [] }

end Sys2Proof.Machine
end

