-- ==== Sys2Proof/Machine/Ops.lean ====
section
/-! DEFINITION. The named operations over the state: register fields, tables, the Event log, Health counters, interrupts,
completion entries and asynchronous events. Every read and write of a piece of state goes through one of these. -/

set_option Elab.async false

namespace Sys2Proof.Machine

/-! ### Outcomes -/

/-- The next state as an outcome. -/
abbrev ok (s : State) : Host.Outcome State Fault Refusal := .next s

/-! ### Register fields (R5, R8, R15) -/

/-- The value of instance `i` of a register field for function `f`. -/
def State.rd (s : State) (r : Fld) (i : Nat := 0) (f : Nat := 0) : Nat :=
  (Tbl.get 0 s.regs (r.key i f) ^^^ r.reset i) % 2 ^ r.w

/-- Gives instance `i` of a register field for function `f` the value `v`. -/
def State.wr (s : State) (r : Fld) (v : Nat) (i : Nat := 0) (f : Nat := 0) : State :=
  { s with regs := Tbl.set 0 s.regs (r.key i f) ((v % 2 ^ r.w) ^^^ r.reset i) }

/-- A one-bit field as a truth value. -/
def State.on (s : State) (r : Fld) (i : Nat := 0) (f : Nat := 0) : Bool := s.rd r i f != 0

/-- Adds to a saturating counter field (R5). -/
def State.bump (s : State) (r : Fld) (n : Nat := 1) (i : Nat := 0) (f : Nat := 0) : State :=
  s.wr r (min (s.rd r i f + n) (2 ^ r.w - 1)) i f

/-- A register field as a signed number in two's complement. -/
def State.rdInt (s : State) (r : Fld) (i : Nat := 0) (f : Nat := 0) : Int :=
  let v := s.rd r i f
  if v < 2 ^ (r.w - 1) then (v : Int) else (v : Int) - 2 ^ r.w

/-- A signed number as the contents of a field of `w` bits, clipped to its range. -/
def signedField (w : Nat) (v : Int) : Nat :=
  let lo : Int := - (2 ^ (w - 1))
  let hi : Int := 2 ^ (w - 1) - 1
  ((max lo (min hi v)) % (2 ^ w)).toNat

/-- Two consecutive events of one source of time: the frame counter. -/
def State.hours (s : State) : Nat := s.frame / 360000000

/-! ### The Event log (R181) and the Health page (R178) -/

/-- Records an Event log entry: the latest 4,096 are kept. -/
def State.event (s : State) (source code detail : Nat) (func : Nat := 0xFF) : State :=
  { s with
    events := ({ time := s.frame, code := code, source := source, func := func, detail := detail } :: s.events).take 4096
    eventTotal := s.eventTotal + 1 }

/-- A register-write event (R14): code 0x0002 with the BAR0 offset, SOURCE the block of the register. -/
def State.regEvent (s : State) (off func : Nat) : State :=
  s.event (if 0x200000 ≤ off ∧ off < 0x240000 then 0x20 else off / 65536) 0x0002 off func

/-- A Health counter by its page offset. -/
def State.health_ (s : State) (off : Nat) : Nat := Tbl.get 0 s.health off

/-- Sets a Health value. -/
def State.setHealth (s : State) (off v : Nat) : State := { s with health := Tbl.set 0 s.health off v }

/-- Counts in a Health counter of `bytes` bytes, which saturates (R178). -/
def State.count (s : State) (off bytes : Nat) (n : Nat := 1) : State :=
  s.setHealth off (satAdd (8 * bytes) (s.health_ off) n)

/-! ### Buses -/

/-- Puts something on a bus or a pin. -/
def State.emit (s : State) (o : Out) : State := { s with out := o :: s.out }

/-! ### Table accessors -/

/-- The function's endpoint state. -/
def State.ep (s : State) (f : Nat) : Ep := Tbl.get {} s.eps f
/-- Changes the function's endpoint state. -/
def State.setEp (s : State) (f : Nat) (e : Ep) : State := { s with eps := Tbl.set {} s.eps f e }

/-- The key of ring `n` of function `f`. -/
def ringKey (f n : Nat) : Nat := f * 1024 + n
/-- Ring pair `n` of function `f`. -/
def State.ring (s : State) (f n : Nat) : Ring := Tbl.get {} s.rings (ringKey f n)
/-- Changes ring pair `n` of function `f`. -/
def State.setRing (s : State) (f n : Nat) (r : Ring) : State := { s with rings := Tbl.set {} s.rings (ringKey f n) r }

/-- A hardware command context. -/
def State.ctx (s : State) (c : Nat) : Ctx := Tbl.get {} s.ctxs c
/-- Changes a context; an all-reset context is free. -/
def State.setCtx (s : State) (c : Nat) (x : Ctx) : State := { s with ctxs := Tbl.set {} s.ctxs c x }

/-- The key of a tag of a port. -/
def tagKey (f t : Nat) : Nat := f * 16384 + t
/-- What a tag of a port is used for. -/
def State.tag (s : State) (f t : Nat) : TagUse := Tbl.get .idle s.tags (tagKey f t)
/-- Changes the use of a tag. -/
def State.setTag (s : State) (f t : Nat) (u : TagUse) : State := { s with tags := Tbl.set .idle s.tags (tagKey f t) u }

/-- The key of a vector of a function. -/
def vecKey (f v : Nat) : Nat := f * 2048 + v
/-- An MSI-X vector. -/
def State.vec (s : State) (f v : Nat) : Msix := Tbl.get {} s.msix (vecKey f v)
/-- Changes an MSI-X vector. -/
def State.setVec (s : State) (f v : Nat) (m : Msix) : State := { s with msix := Tbl.set {} s.msix (vecKey f v) m }

/-- The active copy of a window entry. -/
def State.win (s : State) (n : Nat) : Win := Tbl.get {} s.wins n
/-- Changes the active copy of a window entry (DEDUCED: log entry 27). -/
def State.setWin (s : State) (n : Nat) (w : Win) : State := { s with wins := Tbl.set {} s.wins n w }

/-- The key of a LUN: channel and LUN number. -/
def lunKey (c l : Nat) : Nat := c * 32 + l
/-- A LUN. -/
def State.lun (s : State) (c l : Nat) : Lun := Tbl.get {} s.luns (lunKey c l)
/-- Changes a LUN. -/
def State.setLun (s : State) (c l : Nat) (u : Lun) : State := { s with luns := Tbl.set {} s.luns (lunKey c l) u }

/-- A channel's training state. -/
def State.chn (s : State) (c : Nat) : Chn := Tbl.get {} s.chns c
/-- Changes a channel's training state. -/
def State.setChn (s : State) (c : Nat) (x : Chn) : State := { s with chns := Tbl.set {} s.chns c x }

/-- A block-state entry, by the block's media address with page and IU slot zero. -/
def State.blk (s : State) (a : Nat) : Blk := Tbl.get {} s.blks (a / 2 ^ 14)
/-- Changes a block-state entry. -/
def State.setBlk (s : State) (a : Nat) (b : Blk) : State := { s with blks := Tbl.set {} s.blks (a / 2 ^ 14) b }

/-- The IU slot of a page. -/
def State.page (s : State) (a : Nat) : PageImg := Tbl.get {} s.pages a
/-- Changes the IU slot of a page. -/
def State.setPage (s : State) (a : Nat) (p : PageImg) : State := { s with pages := Tbl.set {} s.pages a p }

/-! ### The functions and the link -/

/-- The functions the port arrangement gives the device (R115). -/
def State.fns (s : State) : List Nat := if s.on Reg.HIF_EP_LINK.PORT_MODE then [0, 1] else [0]

/-- The function exists (R115). -/
def State.hasFn (s : State) (f : Nat) : Bool := f == 0 || s.on Reg.HIF_EP_LINK.PORT_MODE

/-- A configuration dword as stored, before the fixed fields are merged (Machine/Endpoint.lean). -/
def State.cfgRaw (s : State) (f off : Nat) : Nat := Tbl.get 0 (s.ep f).cfg off

/-- Memory Space Enable of the function (R119). -/
def State.mse (s : State) (f : Nat) : Bool := (s.cfgRaw f 0x04).testBit 1
/-- Bus Master Enable of the function (R119). -/
def State.bme (s : State) (f : Nat) : Bool := (s.cfgRaw f 0x04).testBit 2
/-- MSI-X Enable of the function (R124, the PCIe specification). -/
def State.msixOn (s : State) (f : Nat) : Bool := (s.cfgRaw f 0x90).testBit 31
/-- The MSI-X Function Mask (R125). -/
def State.fnMask (s : State) (f : Nat) : Bool := (s.cfgRaw f 0x90).testBit 30

/-- The link of the function's port is up (R145). -/
def State.linkUp (s : State) (f : Nat) : Bool := s.on Reg.HIF_EP_LINK.DL_UP 0 f

/-- The core die serves: it is out of reset and no drain runs (R80: from recognition no completion entry is transmitted). -/
def State.serving (s : State) : Bool := s.sup.coreUp && decide (s.sup.drain = .none)

/-- The host reaches the function's BARs: core up, link up, Memory Space Enable set, the function not in D3hot and no reset in
progress. -/
def State.reachable (s : State) (f : Nat) : Bool :=
  s.serving && s.hasFn f && s.linkUp f && s.mse f && !(s.ep f).d3 && (s.ep f).resetting.isNone

/-- The device may send requests for the function: link up, Bus Master Enable, not in D3hot, no reset in progress. -/
def State.canSend (s : State) (f : Nat) : Bool :=
  s.serving && s.hasFn f && s.linkUp f && s.bme f && !(s.ep f).d3 && (s.ep f).resetting.isNone

/-- The ring is on the link's function and not deleted. -/
def Ring.exists_ (r : Ring) : Bool := decide (r.st ≠ .absent)

/-! ### Interrupts (R124, R125, R184, R185) -/

/-- Restarts the count and the timer of every I/O CQ on a vector (R184). -/
def State.restartCoalesce (s : State) (f v : Nat) : State :=
  { s with rings := Tbl.mapAll {} (fun k r =>
      if k / 1024 = f ∧ k % 1024 ≠ 0 ∧ r.vector = v then { r with unsig := 0, unsigAt := 0 } else r) s.rings }

/-- Signals a vector: the message is sent, or its pending bit is set while the vector or the function is masked (R125). -/
def State.signal (s : State) (f v : Nat) : State :=
  if s.msixOn f && !s.fnMask f && !(s.vec f v).masked then
    ((s.setVec f v { s.vec f v with pend := false }).emit (.msix f v)).restartCoalesce f v
  else (s.setVec f v { s.vec f v with pend := true }).restartCoalesce f v

/-! ### Completion entries (R164, R165) -/

/-- The 16 bytes of a completion entry. -/
def cqEntry (result sqHead ring cid status cflags : Nat) : BitVec 128 :=
  BitVec.ofNat 128 (result % 2 ^ 32 + sqHead % 2 ^ 16 * 2 ^ 32 + ring % 2 ^ 16 * 2 ^ 48 + cid % 2 ^ 16 * 2 ^ 64
    + status % 2 ^ 16 * 2 ^ 80 + cflags % 2 ^ 16 * 2 ^ 96)

/-- Entries written to the CQ that the host has not released (U of R157). -/
def Ring.unreleased (r : Ring) : Nat := if r.cqSize = 0 then 0 else (r.cqTail + r.cqSize - r.cqHead) % r.cqSize

/-- The CQ has a free slot (R151). -/
def Ring.cqRoom (r : Ring) : Bool := decide (r.unreleased + 1 < r.cqSize)

/-- Writes an entry at the CQ tail: the tail and the phase advance (R165) (DEDUCED: log entry 44). -/
def State.putCqe (s : State) (f n : Nat) (result cid status cflags : Nat) : State :=
  let r := s.ring f n
  let last := r.cqTail + 1 == r.cqSize
  (s.setRing f n { r with cqTail := if last then 0 else r.cqTail + 1, phase := if last then !r.phase else r.phase }).emit
    (.cqe f n r.cqTail (cqEntry result r.sqHead n cid status (cflags + bit r.phase)))

/-! ### Asynchronous events (R182, R183) -/

/-- Bits of HIF_ASYNC.PEND: type t is bit t, the field's bit t - 1. -/
def State.asyncPend (s : State) (f t : Nat) : Bool := (s.rd Reg.HIF_ASYNC.PEND 0 f).testBit (t - 1)

/-- The admin ring of the function exists (R152). -/
def State.adminUp (s : State) (f : Nat) : Bool := s.on Reg.HIF_ADM_CTRL.READY 0 f

/-- Posts an asynchronous event of type `t` with INFO on the function's admin CQ, when R183 allows it. A HEALTH event carries INFO[2] when a
part has failed since the last report (R182) (DEDUCED: log entry 45). -/
def State.postAsync (s : State) (f t info : Nat) : State :=
  let r := s.ring f 0
  let e := s.ep f
  let failed := t == 3 && (e.partFailed || decide (4 ≤ info))
  if s.adminUp f && s.canSend f && (s.rd Reg.HIF_ASYNC_MASK.EN 0 f).testBit (t - 1) && !s.asyncPend f t
      && Tbl.get 0 e.asyncSlot t == 0 && r.cqRoom then
    let v := if t = 3 then info % 4 + 4 * bit failed else info
    let s1 := s.wr Reg.HIF_ASYNC.PEND (setBit (s.rd Reg.HIF_ASYNC.PEND 0 f) (t - 1)) 0 f
    let s2 := s1.setEp f { e with asyncSlot := Tbl.set 0 e.asyncSlot t (r.cqTail + 1), partFailed := e.partFailed && t != 3 }
    (s2.putCqe f 0 (t % 256 + (min v 65535) * 65536) 0xFFFF 0 8).signal f 0
  else if failed && !e.partFailed then s.setEp f { e with partFailed := true }
  else s

/-- The bit of PWR_CFG.PME_EVT of an asynchronous event type: THERMAL, HEALTH, LOST_STRIPE (R547). -/
def pmeBit (t : Nat) : Option Nat := if t = 5 then some 0 else if t = 3 then some 1 else if t = 4 then some 2 else none

/-- A wake event in D3hot with PME_En set: PM_PME on a link that is up, else WAKE#; PME_Status is set, and no further message is
sent until the host clears it (R144, R544). -/
def State.pmeWake (s : State) (f t : Nat) : State :=
  match pmeBit t with
  | some b =>
    let c := s.cfgRaw f 0x44
    if c.testBit 8 && !c.testBit 15 && (s.rd Reg.PWR_CFG.PME_EVT).testBit b then
      let s1 := s.setEp f { s.ep f with cfg := Tbl.set 0 (s.ep f).cfg 0x44 (setBit c 15), pme := true }
      if s.linkUp f && !(s.ep f).pmeOff then s1.emit (.pmPme f) else s1.emit (.wakePin f true)
    else s
  | none => s

/-- An asynchronous event occurs: in D3hot it waits for the return to D0, and may wake the host (R183, R544). -/
def State.async (s : State) (f t info : Nat) : State :=
  if (s.ep f).d3 then
    let e := s.ep f
    (s.setEp f { e with owed := e.owed.filter (fun o => o.1 != t) ++ [(t, info)] }).pmeWake f t
  else s.postAsync f t info

/-- Posts an asynchronous event to every function (R91, R182). -/
def State.asyncAll (s : State) (t info : Nat) : State := s.fns.foldl (fun s f => s.async f t info) s

/-! ### Free values -/

/-- The next free value: nothing constrains it. -/
def State.freeNat (s : State) : Nat := (Config.free s.free).toNat

/-- Advances the free counter (DESIGN CHOICE: log entry 2). -/
def State.freeNext (s : State) : State := { s with free := s.free + 1 }

/-! ### Contexts -/

/-- The lowest context number that is free, among the numbers from `n` up, in a table in rising order. -/
def lowestFree (t : Tbl Ctx) (n : Nat) : Nat :=
  match t with
  | [] => n
  | (k, _) :: t => if k = n then lowestFree t (n + 1) else n

/-- Free contexts (HIF_CTX_FREE, R188). -/
def State.ctxFree (s : State) : Nat := 65536 - s.ctxs.length

/-- Contexts that hold a command, with their numbers. -/
def State.live (s : State) : List (Nat × Ctx) := s.ctxs.filter (fun e => decide (e.2.phase ≠ .free))

/-- Frees a context (Released of R194, R195). -/
def State.freeCtx (s : State) (c : Nat) : State := s.setCtx c {}

end Sys2Proof.Machine
end

