-- ==== Sys2Proof/Machine/Operands.lean ====
section
/-! DEFINITION. The operand forms: packet fields (R161, R167), media addresses (R254), LBAs and IUs (R340), spans (R198),
block addresses in host memory (R162, R163). -/

set_option Elab.async false

namespace Sys2Proof.Machine

/-! ### Packet fields (R161) -/

/-- Bits [lo + w - 1 : lo] of a packet, bit 0 being bit 0 of byte 0. -/
def pkField (p : Packet) (lo w : Nat) : Nat := bitsOf p.toNat lo w

/-- OPC. -/
def pkOpc (p : Packet) : Nat := pkField p 0 8
/-- FLAGS.PTYPE. -/
def pkPtype (p : Packet) : Nat := pkField p 8 2
/-- CID. -/
def pkCid (p : Packet) : Nat := pkField p 16 16
/-- DPTR1. -/
def pkDptr1 (p : Packet) : Nat := pkField p 128 64
/-- DPTR2. -/
def pkDptr2 (p : Packet) : Nat := pkField p 192 64
/-- SLBA. -/
def pkSlba (p : Packet) : Nat := pkField p 256 48
/-- A doubleword DWn. -/
def pkDw (p : Packet) (n : Nat) : Nat := pkField p (32 * n) 32
/-- NBLK. -/
def pkNblk (p : Packet) : Nat := pkDw p 10

/-- The opcodes of R167. -/
inductive Opc where
  | read | write | flush | trim | writeZeroes | verify | identify | getLog | setFeature | getFeature | ringCreate
  | ringDelete | ringReset | powerState | fwDownload | fwActivate | keyLoad | keyRoll | keyPurge | groupJoin | groupLeave
  | groupStatus | rawRead | rawProgram | rawErase | ucodeLoad | diag
  deriving DecidableEq, Repr

/-- The opcode a byte names, none when it is unassigned (R166, R167). -/
def opcOf (n : Nat) : Option Opc :=
  if n = 0x01 then some .read else if n = 0x02 then some .write else if n = 0x03 then some .flush
  else if n = 0x04 then some .trim else if n = 0x05 then some .writeZeroes else if n = 0x08 then some .verify
  else if n = 0x10 then some .identify else if n = 0x11 then some .getLog else if n = 0x12 then some .setFeature
  else if n = 0x13 then some .getFeature else if n = 0x14 then some .ringCreate else if n = 0x15 then some .ringDelete
  else if n = 0x16 then some .ringReset else if n = 0x18 then some .powerState else if n = 0x1A then some .fwDownload
  else if n = 0x1B then some .fwActivate else if n = 0x20 then some .keyLoad else if n = 0x21 then some .keyRoll
  else if n = 0x22 then some .keyPurge else if n = 0x30 then some .groupJoin else if n = 0x31 then some .groupLeave
  else if n = 0x32 then some .groupStatus else if n = 0x38 then some .rawRead else if n = 0x39 then some .rawProgram
  else if n = 0x3A then some .rawErase else if n = 0x3C then some .ucodeLoad else if n = 0x3E then some .diag else none

/-- The opcode of a packet. -/
def pkOp (p : Packet) : Option Opc := opcOf (pkOpc p)

/-- An I/O opcode: valid only on I/O rings (R166). -/
def Opc.io : Opc → Bool
  | .read | .write | .flush | .trim | .writeZeroes | .verify => true
  | _ => false

/-- A write in the sense of R192. -/
def Opc.isWrite : Opc → Bool
  | .write | .trim | .writeZeroes => true
  | _ => false

/-- A read in the sense of R192. -/
def Opc.isRead : Opc → Bool
  | .read | .verify => true
  | _ => false

/-- The context's command has this opcode. -/
def Ctx.is (x : Ctx) (o : Opc) : Bool := decide (pkOp x.pkt = some o)
/-- The context's command is a write (R192). -/
def Ctx.isWrite (x : Ctx) : Bool := match pkOp x.pkt with | some o => o.isWrite | none => false
/-- The context's command is a read (R192). -/
def Ctx.isRead (x : Ctx) : Bool := match pkOp x.pkt with | some o => o.isRead | none => false
/-- The first LBA of the context's command. -/
def Ctx.slba (x : Ctx) : Nat := pkSlba x.pkt
/-- The block count of the context's command; none for a FLUSH. -/
def Ctx.nblk (x : Ctx) : Nat := if x.is .flush then 0 else pkNblk x.pkt
/-- The ring's durability scope is the ring's (R153). -/
def Ctx.cid (x : Ctx) : Nat := pkCid x.pkt

/-! ### LBAs, IUs and spans (R198, R340) -/

/-- The IU of an LBA. -/
def iuOf (lba : Nat) : Nat := lba / 4
/-- The span of an LBA: 1 MiB of logical blocks. -/
def spanOf (lba : Nat) : Nat := lba / 256
/-- The span of an IU. -/
def spanOfIu (iu : Nat) : Nat := iu / 64

/-- The 4-bit mask of blocks of an IU in a range of LBAs (R191). -/
def iuMask (slba nblk iu : Nat) : Nat :=
  ((List.range 4).filter (fun b => decide (slba ≤ 4 * iu + b ∧ 4 * iu + b < slba + nblk))).foldl (fun m b => m + 2 ^ b) 0

/-- The IUs a range touches, in order. -/
def iusOf (slba nblk : Nat) : List Nat :=
  if nblk = 0 then [] else (List.range (iuOf (slba + nblk - 1) - iuOf slba + 1)).map (fun i => iuOf slba + i)

/-- The IUs a range covers only in part: its end IUs (R356). -/
def endIus (slba nblk : Nat) : List Nat :=
  if nblk = 0 then [] else
  let a := iuOf slba
  let b := iuOf (slba + nblk - 1)
  (if a = b then [a] else [a, b]).filter (fun i => decide (iuMask slba nblk i ≠ 15))

/-- The first IU a range covers whole, and their count (R356). -/
def wholeIus (slba nblk : Nat) : Nat × Nat :=
  let a := (slba + 3) / 4
  let b := (slba + nblk) / 4
  (a, b - a)

/-- Two ranges of LBAs share a block (R25, R191). -/
def rangesMeet (a n b m : Nat) : Bool := decide (a < b + m ∧ b < a + n ∧ 0 < n ∧ 0 < m)

/-- Two commands overlap (R191). -/
def Ctx.overlaps (x y : Ctx) : Bool := rangesMeet x.slba x.nblk y.slba y.nblk

/-! ### Media addresses (R254) -/

/-- CHANNEL of a media address. -/
def adChannel (a : Nat) : Nat := bitsOf a 34 6
/-- TARGET of a media address. -/
def adTarget (a : Nat) : Nat := bitsOf a 31 3
/-- LUN of a media address, within its target. -/
def adLun (a : Nat) : Nat := bitsOf a 29 2
/-- The LUN number 4t + l (R251). -/
def adLunNo (a : Nat) : Nat := 4 * adTarget a + adLun a
/-- PLANE of a media address. -/
def adPlane (a : Nat) : Nat := bitsOf a 27 2
/-- BLOCK of a media address. -/
def adBlock (a : Nat) : Nat := bitsOf a 14 13
/-- PAGE of a media address. -/
def adPage (a : Nat) : Nat := bitsOf a 2 12
/-- IU_SLOT of a media address. -/
def adSlot (a : Nat) : Nat := bitsOf a 0 2

/-- The media address of its fields. -/
def mkAddr (channel lunNo plane block page slot : Nat) : Nat :=
  channel * 2 ^ 34 + lunNo * 2 ^ 29 + plane * 2 ^ 27 + block * 2 ^ 14 + page * 4 + slot

/-- The address of the block an address lies in: page and IU slot zero. -/
def adOfBlock (a : Nat) : Nat := a / 2 ^ 14 * 2 ^ 14

/-- The populated LUNs of a channel, as a test on a LUN number (R251). -/
def State.lunPopulated (s : State) (c l : Nat) : Bool :=
  decide (l / 4 < s.rd Reg.CHN_POP.TARGETS c ∧ l % 4 < s.rd Reg.CHN_POP.LUNS c)

/-- The LUN has failed or is retired as a die (R276). -/
def State.lunFailed (s : State) (c l : Nat) : Bool := (s.rd Reg.CHN_LUN_FAIL.FAILED c).testBit l

/-- The LUN is set aside for raw use (R270). -/
def State.lunRaw (s : State) (c l : Nat) : Bool := (s.rd Reg.CHN_RAW_ACT.RAW c).testBit l

/-- The channel is ready (R275). -/
def State.chanReady (s : State) (c : Nat) : Bool := s.rd Reg.CHN_ENG_STATUS.STATE c == 3

end Sys2Proof.Machine
end

