-- ==== Sys2Proof/Machine/Flags.lean ====
section
/-! DEFINITION. Status computations: the bank's energy and what it allows (R67, R68, R236), the write buffer's counts
(R198, R199), the status bits those set. -/

set_option Elab.async false

namespace Sys2Proof.Machine

/-! ### The bank (R67, R68, R77) -/

/-- C_use in nF: 0.98 C_meas less 1.2 UNIT, of a measurement that counted `n` frames (1.25 µF each) (R67, R69). -/
def cUse (n unit : Nat) : Nat := 1225 * n - 1200 * unit

/-- Twice the usable energy in fJ at a bank voltage in mV, zero at 24.0 V or below (R67). -/
def eUse2 (n unit mv : Nat) : Nat := cUse n unit * (mv * mv - 24000 * 24000)

/-- 1 J in the unit of `eUse2`. -/
def joule2 : Nat := 2 * 10 ^ 15

/-- The charge voltage in mV (R75). -/
def State.vchg (s : State) : Nat := 500 * s.rd Reg.HUP_CHG_CFG.VCHG
/-- UNIT in µF (R74). -/
def State.unit (s : State) : Nat := s.rd Reg.HUP_BANK_CFG.UNIT
/-- The brown-out falling threshold in mV (R76). -/
def State.fallMv (s : State) : Nat := 200 * s.rd Reg.HUP_BO_CFG.FALL
/-- The brown-out rising threshold in mV (R76). -/
def State.riseMv (s : State) : Nat := 200 * s.rd Reg.HUP_BO_CFG.RISE

/-- The present usable energy, of the most recent completed measurement at the present bank voltage (R67). -/
def State.eNow (s : State) : Nat := eUse2 s.sup.cmeas s.unit s.sup.vbank
/-- The usable energy at VCHG. -/
def State.eAtVchg (s : State) : Nat := eUse2 s.sup.cmeas s.unit s.vchg

/-- A measurement has completed since manufacture (R67). -/
def State.measured (s : State) : Bool := s.sup.cmeas != 0

/-- The rows of R68. -/
inductive WriteMode where
  /-- Completed under the dirty-data ceiling. -/
  | normal
  /-- Held uncompleted. -/
  | held
  /-- Completed with a ceiling of zero (R37). -/
  | zeroCeiling
  /-- Completed with READ_ONLY. -/
  | readOnly
  deriving DecidableEq, Repr

/-- How writes are treated now (R68). While no measurement has completed, E_use is zero and writes are held. -/
def State.writeMode (s : State) : WriteMode :=
  if !s.measured then .held
  else if s.sup.passed then (if 10 * joule2 ≤ s.eNow then .normal else .held)
  else if 2 * joule2 ≤ s.eAtVchg then (if 2 * joule2 ≤ s.eNow then .zeroCeiling else .held)
  else .readOnly

/-- R68 allows writes to complete: HUP_STATUS.WRITE_THR (R73). -/
def State.writesAllowed (s : State) : Bool :=
  match s.writeMode with
  | .normal | .zeroCeiling => true
  | .held | .readOnly => false

/-- Refreshes HUP_STATUS.WRITE_THR, HUP_ENERGY and BRU_STAGE.WRITE_UP (R68, R77, R109). -/
def State.refreshBank (s : State) : State :=
  let s1 := s.wr Reg.HUP_STATUS.WRITE_THR (bit s.writesAllowed)
  let s2 := s1.wr Reg.HUP_ENERGY.EUSE (min (s.eNow / (2 * 10 ^ 13)) 0xFFFF)
  let s3 := s2.wr Reg.HUP_ENERGY.VBANK (min (s.sup.vbank / 10) 0xFFFF)
  s3.wr Reg.BRU_STAGE.WRITE_UP (bit (s.on Reg.BRU_STAGE.IO_UP && s.writesAllowed))

/-! ### The dirty-data ceiling (R236) -/

/-- Live channels: those ready (R236). -/
def State.liveChannels (s : State) : Nat := ((List.range 64).filter (fun c => s.chanReady c)).length

/-- Dirty bytes of one version: its blocks, once per version (R199). -/
def Version.dirty (v : Version) : Nat := if v.clean then 0 else 4096 * popCount 4 v.mask

/-- Dirty data in bytes (R199). -/
def State.dirty (s : State) : Nat := (s.ftl.versions.map Version.dirty).foldl (· + ·) 0

/-- The ceiling in MiB that an energy allows, before the 4 GiB limit (R236). -/
def ceilingOf (s : State) (e : Nat) : Nat :=
  let x := e - s.rd Reg.FRM_HOLDUP.OVH * (joule2 / 10)
  let m := 100 + s.rd Reg.FRM_HOLDUP.MARGIN
  let model := x * s.rd Reg.FRM_DRAIN.RATE * s.liveChannels * 100
    / max 1 (s.rd Reg.FRM_HOLDUP.DRAIN_W * 1000 * 64 * 20000 * m * 2 ^ 20)
  let meas := s.rd Reg.FRM_JPB.MEAS
  if meas = 0 then model else min model (x * 100 / (meas * 20000 * m * 2 ^ 20))

/-- A bleed-method measurement is about to begin or is running (R236). -/
def State.bleedMeasuring (s : State) : Bool :=
  match s.sup.meas with
  | .lowering | .bleeding _ | .bleedCount _ _ => true
  | .idle | .chargeWait | .chargeCount _ => false

/-- The bank voltage R236 takes: capped while a bleed-method measurement runs. -/
def State.ceilingVolts (s : State) : Nat := if s.bleedMeasuring then min s.sup.vbank (s.vchg - 4000) else s.sup.vbank

/-- The ceiling in MiB and its source as FRM_CEILING.SOURCE names it (R236, R244). -/
def State.ceilingNow (s : State) : Nat × Nat :=
  if s.measured && !s.sup.passed then (0, 4)
  else
    let e := eUse2 s.sup.cmeas s.unit s.ceilingVolts
    if e < 10 * joule2 then (0, 5)
    else
      let raw := ceilingOf s e
      let c := min raw 4096
      let src := if raw ≤ 4096 then (if s.ceilingVolts < s.sup.vbank then 3 else 0) else 1
      if s.boot.stage = .bloom ∧ 2048 < c then (2048, 2) else (c, src)

/-- The ceiling in bytes. -/
def State.ceilingBytes (s : State) : Nat := s.rd Reg.FRM_CEILING.CEIL_MIB * 2 ^ 20

/-- An orderly thermal stop runs: FRM_STATUS.MODE reads 0b10 (R557). -/
def State.stopping (s : State) : Bool := s.rd Reg.FRM_STATUS.MODE == 2

/-- Recomputes the ceiling (R236), taken as zero in an orderly stop (R557), and notes the beginning of an excess (R237). -/
def State.refreshCeiling (s : State) : State :=
  let c : Nat × Nat := (if s.stopping then 0 else s.ceilingNow.1, s.ceilingNow.2)
  let s1 := (s.wr Reg.FRM_CEILING.CEIL_MIB c.1).wr Reg.FRM_CEILING.SOURCE c.2
  let s2 := s1.wr Reg.FRM_JPB.MODEL (min 0xFFFF (s.rd Reg.FRM_HOLDUP.DRAIN_W * 64000
    / max 1 (s.rd Reg.FRM_DRAIN.RATE * s.liveChannels)))
  let s3 := s2.setHealth 0x094 c.1
  let overs := decide (c.1 * 2 ^ 20 < s.dirty)
  let s4 := { s3 with ftl := { s3.ftl with excess := overs } }
  if overs && !s.ftl.excess then s4.event 0x03 0x0102 (ceilDiv s.dirty (2 ^ 20) % 65536 + c.1 % 65536 * 65536) else s4

/-! ### Span entries (R198) -/

/-- Inserts a number into a rising list without repeats. -/
def insertNat (n : Nat) : List Nat → List Nat
  | [] => [n]
  | m :: t => if n < m then n :: m :: t else if n = m then m :: t else m :: insertNat n t

/-- The spans a command holds entries for: every span of a READ, VERIFY or WRITE, the spans of the end versions of a TRIM
or WRITE_ZEROES (R198). -/
def Ctx.spansOf (x : Ctx) : List Nat :=
  if x.is .trim || x.is .writeZeroes then (endIus x.slba x.nblk).map spanOfIu
  else if x.nblk = 0 then []
  else (List.range (spanOf (x.slba + x.nblk - 1) - spanOf x.slba + 1)).map (fun i => spanOf x.slba + i)

/-- The spans in use: of commands in flight that hold them and of versions in the buffer (R198). -/
def State.spansUsed (s : State) : List Nat :=
  let a := s.ftl.versions.foldl (fun l v => insertNat (spanOfIu v.iu) l) []
  (s.live.filter (fun e => e.2.spans)).foldl (fun l e => e.2.spansOf.foldl (fun l n => insertNat n l) l) a

/-- The span entries of the table (R198). -/
def spanMax : Nat := 24576

/-- A span entry is free, or held already, for every span the command touches (R194, R198). -/
def State.spansFree (s : State) (x : Ctx) : Bool :=
  let used := s.spansUsed
  decide ((x.spansOf.foldl (fun l n => insertNat n l) used).length ≤ spanMax)

end Sys2Proof.Machine
end

