-- ==== Sys2Proof/Machine/Galois.lean ====
section
/-! DEFINITION. GF(2^8) with the polynomial 0x11D and α = 2: the field of the line code and of the outer code (R395, R439). -/

set_option Elab.async false

namespace Sys2Proof.Machine

/-- Multiplication by α = 2. -/
def gfDouble (a : Nat) : Nat := if a < 128 then 2 * a else (2 * a) ^^^ 0x11D

/-- Product of two field elements, over the low bits of the second. -/
def gfMulBits : Nat → Nat → Nat → Nat
  | 0, _, _ => 0
  | n + 1, a, b => (if b % 2 = 1 then a else 0) ^^^ gfMulBits n (gfDouble a) (b / 2)

/-- Product of two field elements. -/
def gfMul (a b : Nat) : Nat := gfMulBits 8 a b

/-- α^j. -/
def gfAlpha : Nat → Nat
  | 0 => 1
  | n + 1 => gfDouble (gfAlpha n)

/-- a^n by repeated multiplication. -/
def gfPow (a : Nat) : Nat → Nat
  | 0 => 1
  | n + 1 => gfMul a (gfPow a n)

/-- The multiplicative inverse: a^254. -/
def gfInv (a : Nat) : Nat := gfPow a 254

/-- Sum over a list of α^d · s_d, from exponent `d`. -/
def gfSum : Nat → List Nat → Nat
  | _, [] => 0
  | d, s :: t => gfMul (gfAlpha d) s ^^^ gfSum (d + 1) t

/-- Exclusive or over a list. -/
def xorAll (l : List Nat) : Nat := l.foldl (· ^^^ ·) 0

/-! ### Blocks of bytes (R331, R404) -/

/-- The byte `v` in every byte of a block. -/
def everyByte (v : Nat) : Block := BitVec.ofNat 32768 (v * ((2 ^ 32768 - 1) / 255))

/-- Every byte of a block multiplied by α = 2. -/
def gfDoubleBlock (b : Block) : Block :=
  ((b &&& everyByte 0x7F) <<< 1) ^^^ (((b >>> 7) &&& everyByte 1) * BitVec.ofNat 32768 0x1D)

/-- Every byte of a block multiplied by a field element, over its low bits. -/
def gfBlockBits : Nat → Nat → Block → Block
  | 0, _, _ => 0
  | n + 1, c, b => (if c % 2 = 1 then b else 0) ^^^ gfBlockBits n (c / 2) (gfDoubleBlock b)

/-- Every byte of a block multiplied by a field element. -/
def gfBlock (c : Nat) (b : Block) : Block := gfBlockBits 8 c b

/-- One bit step of the CRC-64 of R331. -/
def crcBit (c : BitVec 64) : BitVec 64 := if c.getLsbD 63 then (c <<< 1) ^^^ 0x42F0E1EBA9EA3693#64 else c <<< 1

/-- One byte of the CRC-64: no reflection, the byte enters at the top. -/
def crcByte (c : BitVec 64) (b : BitVec 8) : BitVec 64 :=
  crcBit (crcBit (crcBit (crcBit (crcBit (crcBit (crcBit (crcBit (c ^^^ (b.zeroExtend 64 <<< 56)))))))))

/-- The CRC-64 of the bytes of a block, continued from `c`. -/
def crcBlock (c : BitVec 64) (b : Block) : BitVec 64 :=
  (List.range 4096).foldl (fun c i => crcByte c (b.extractLsb' (8 * i) 8)) c

/-- The digest Dg of a granule (R331, R405). -/
def dg (b : Block) : BitVec 64 := crcBlock 0 b

/-- The digest of a chunk: its granules in order (R331). -/
def dgAll (l : List Block) : BitVec 64 := l.foldl crcBlock 0

end Sys2Proof.Machine
end

