-- ==== Sys2Proof/Machine/Dram.lean ====
section
/-! DEFINITION. The DRAM controller: the line code, page counters, the merge buffer, scrubbing, remapping, training, margin
checks and the loss of a sub-channel (R426 to R459). -/

set_option Elab.async false

namespace Sys2Proof.Machine

/-- A part has failed: the HEALTH event is posted with INFO[2] set (R182). -/
def State.partFail (s : State) : State := s.asyncAll 3 (s.rd Reg.FTL_HEALTH.GRADE + 4)

/-- A sub-channel. -/
def State.sc (s : State) (n : Nat) : Sc := Tbl.get {} s.scs n
/-- Changes a sub-channel. -/
def State.setSc (s : State) (n : Nat) (x : Sc) : State := { s with scs := Tbl.set {} s.scs n x }

/-- Capacity of a sub-channel in granules of 1 MiB (R426, R453). -/
def State.scGranules (s : State) : Nat :=
  match s.rd Reg.DRC_GEOM.DENSITY with
  | 0 => if s.on Reg.DRC_GEOM.RANKS then 32768 else 16384
  | 1 => 24576
  | _ => 32768

/-- The sub-channel is in service. -/
def State.scUp (s : State) (n : Nat) : Bool := (s.rd Reg.DRC_STATUS.IN_SERVICE).testBit n

/-! ### The line code (R438, R439, R440) -/

/-- The symbol of component `d` in codeword `i` of a 64-byte line: its nibbles on beats 2i and 2i + 1 (R438). -/
def lineSym (line i d : Nat) : Nat := bitsOf line (64 * i + 4 * d) 4 + 16 * bitsOf line (64 * i + 32 + 4 * d) 4

/-- The check symbols that make both syndromes of eight data symbols zero (R439). -/
def checkSyms (data : List Nat) : List Nat :=
  let a := xorAll data
  let b := gfSum 0 data
  let s9 := gfMul (b ^^^ gfMul (gfAlpha 8) a) (gfInv (gfAlpha 8 ^^^ gfAlpha 9))
  [a ^^^ s9, s9]

/-- Codeword `i` of a line: ten symbols (R438, R439). -/
def codeword (line i : Nat) : List Nat :=
  let d := (List.range 8).map (lineSym line i)
  d ++ checkSyms d

/-- A codeword as it is read, with the errors (codeword, component, value) of the read applied. -/
def readWord (line : Nat) (errs : List (Nat × Nat × Nat)) (i : Nat) : List Nat :=
  (codeword line i).mapIdx (fun d v => (errs.filter (fun e => e.1 == i && e.2.1 == d)).foldl (fun v e => v ^^^ (e.2.2 % 256)) v)

/-- The codeword verdicts of R440. -/
inductive WordVerdict where
  | clean
  | located (component value : Nat)
  | uncorrectable
  deriving DecidableEq, Repr

/-- The verdict on syndromes T0 and T1 (R440). -/
def wordVerdict (t0 t1 : Nat) : WordVerdict :=
  if t0 = 0 then (if t1 = 0 then .clean else .uncorrectable)
  else match (List.range 10).find? (fun j => gfMul (gfAlpha j) t0 == t1) with
    | some j => .located j t0
    | none => .uncorrectable

/-- Corrects a codeword by its verdict (R440). -/
def correctWord (w : List Nat) : WordVerdict → List Nat
  | .located j v => w.mapIdx (fun d x => if d = j then x ^^^ v else x)
  | _ => w

/-- The line verdicts of R440. -/
inductive LineVerdict where
  | clean
  | correctable (component : Nat)
  | uncorrectable
  deriving DecidableEq, Repr

/-- The verdict on a line from its codewords' verdicts (R440). -/
def lineVerdict (vs : List WordVerdict) : LineVerdict :=
  vs.foldl (fun l v =>
    match l, v with
    | .uncorrectable, _ => .uncorrectable
    | l, .clean => l
    | _, .uncorrectable => .uncorrectable
    | .clean, .located j _ => .correctable j
    | .correctable k, .located j _ => if j = k then .correctable k else .uncorrectable) .clean

/-- The 64 bytes of a line from the data symbols of its eight codewords. -/
def lineOf (ws : List (List Nat)) : BitVec 512 :=
  BitVec.ofNat 512 ((ws.mapIdx (fun i w => ((w.take 8).mapIdx (fun d v =>
    v % 16 * 2 ^ (64 * i + 4 * d) + v / 16 % 16 * 2 ^ (64 * i + 32 + 4 * d))).foldl (· + ·) 0)).foldl (· + ·) 0)

/-- A line read with errors: its verdict and its corrected bytes. -/
def decodeLine (line : BitVec 512) (errs : List (Nat × Nat × Nat)) : LineVerdict × BitVec 512 :=
  let ws := (List.range 8).map (readWord line.toNat errs)
  let vs := ws.map (fun w => wordVerdict (xorAll w) (gfSum 0 w))
  (lineVerdict vs, lineOf ((ws.zip vs).map (fun e => correctWord e.1 e.2)))

/-! ### Page counters (R437) -/

/-- The bank of an offset: bank group, bank and rank (R429). -/
def State.bankOf (s : State) (off : Nat) : Nat :=
  bitsOf off 6 5 + (if s.on Reg.DRC_GEOM.RANKS then bitsOf off 34 1 * 32 else 0)
/-- The row of an offset (R429). -/
def State.rowOf (s : State) (off : Nat) : Nat := bitsOf off 18 (if s.rd Reg.DRC_GEOM.DENSITY = 0 then 16 else 17)

/-- A bank after an access to a row: the counter moves by whether the row is that of the previous access, and the access
leaves the row open at 0b10 or 0b11 (R437). -/
def Bank.access (b : Bank) (row : Nat) : Bank :=
  let c := match b.last with
    | none => b.ctr
    | some r => if r = row then min 3 (b.ctr + 1) else b.ctr - 1
  { ctr := c, last := some row, opened := decide (2 ≤ c) }

/-- An access to an offset of a sub-channel. -/
def State.touch (s : State) (n off : Nat) : State :=
  let x := s.sc n
  s.setSc n { x with banks := Tbl.upd {} x.banks (s.bankOf off) (fun b => b.access (s.rowOf off)) }

/-! ### Granules (R432, R433) -/

/-- The granule is initialised or claimed. -/
def Sc.granuleUp (x : Sc) (g : Nat) : Bool :=
  decide (g < x.swept) || x.claimed.any (fun r => decide (r.1 ≤ g ∧ g < r.2))

/-- Claims the granules of a range: a claimed granule counts as initialised. -/
def State.claim (s : State) (n lo hi : Nat) : State :=
  let x := s.sc n
  let fresh := ((List.range (hi - lo)).filter (fun g => !x.granuleUp (lo + g))).length
  (s.setSc n { x with claimed := x.claimed ++ [(lo, hi)] }).bump Reg.DRC_SC.GRANULES fresh n

/-- The first granule at or above `g` that no claim covers. -/
def Sc.nextFree (x : Sc) (g : Nat) : Nat :=
  (x.claimed ++ x.claimed).foldl (fun g r => if r.1 ≤ g ∧ g < r.2 then r.2 else g) g

/-- GRANULE_SWEEP: the sweep initialises one granule of a sub-channel, an awaited one first, else the lowest; a sub-channel with
every granule initialised enters service whole (R432, R433, R455, R109). -/
def State.sweep (s : State) (n : Nat) : State :=
  let x := s.sc n
  let st := s.rd Reg.DRC_SC.STATE n
  if st = 2 ∧ s.rd Reg.DRC_SC.GRANULES n < s.scGranules then
    let y : Sc := match x.wanted with
      | g :: t => if x.granuleUp g then { x with wanted := t, swept := x.nextFree x.swept + 1 }
                  else { x with wanted := t, claimed := x.claimed ++ [(g, g + 1)] }
      | [] => { x with swept := x.nextFree x.swept + 1 }
    let s1 := (s.setSc n y).bump Reg.DRC_SC.GRANULES 1 n
    if s.scGranules ≤ s1.rd Reg.DRC_SC.GRANULES n then
      (s1.wr Reg.DRC_SC.STATE 3 n).wr Reg.BRU_STAGE.DRAM_READY (setBit (s1.rd Reg.BRU_STAGE.DRAM_READY) n)
    else s1
  else s

/-! ### Loss of a sub-channel (R451, R452) -/

/-- The two highest-numbered in-service sub-channels outside the Bloom pair, if there are two (R431). -/
def State.stagingPair (s : State) : Option (Nat × Nat) :=
  let c := (List.range 8).reverse.filter (fun n => s.scUp n && !s.dram.pair.contains n)
  match c with
  | a :: b :: _ => some (a, b)
  | _ => none

/-- A sub-channel fails: event 0x0103, the Health bit, its queues and its role; mirrored regions are served from the surviving
copy, and its map pages wait for reload (R452). -/
def State.scFail (s : State) (n cause : Nat) : State :=
  if (s.rd Reg.DRC_STATUS.FAILED).testBit n then s else
  let s1 := ((s.wr Reg.DRC_SC.STATE 6 n).wr Reg.DRC_STATUS.FAILED (setBit (s.rd Reg.DRC_STATUS.FAILED) n)).wr
    Reg.DRC_STATUS.IN_SERVICE (clearBit (s.rd Reg.DRC_STATUS.IN_SERVICE) n)
  let s2 := s1.setHealth 0x080 (setBit (s1.health_ 0x080) n)
  let s3 := if s2.on Reg.DRC_STATUS.TRN_BUSY && s2.rd Reg.DRC_STATUS.TRN_SC == n then s2.wr Reg.DRC_STATUS.TRN_BUSY 0 else s2
  let stage := match s3.dram.staging with
    | some (a, b) =>
      if a = n ∨ b = n then
        let keep := if a = n then b else a
        match (List.range 8).reverse.filter (fun m => s3.scUp m && !s3.dram.pair.contains m && m != keep) with
        | m :: _ => some (keep, m)
        | [] => some (keep, keep)
      else some (a, b)
    | none => none
  let s4 := { s3 with dram := { s3.dram with queue := s3.dram.queue.filter (fun q => q.1 != n), staging := stage,
                                             reload := s3.dram.reload || !s3.dram.pair.contains n } }
  (s4.event 0x16 0x0103 (n + cause * 8)).partFail

/-! ### Remapping (R441, R444, R445) -/

/-- The remap entry of a line, by its index in the sub-channel's table. -/
def State.remapOf (s : State) (n line : Nat) : Option Nat :=
  (List.range 32).find? (fun e => s.on Reg.MEM_REMAP.VALID (32 * n + e) && s.rd Reg.MEM_REMAP.LINE (32 * n + e) == line)

/-- The line is poisoned (R444). -/
def State.poisoned (s : State) (n line : Nat) : Bool :=
  match s.remapOf n line with
  | some e => s.on Reg.MEM_REMAP.POISON (32 * n + e)
  | none => false

/-- Sets or clears POISON of a line that is remapped. -/
def State.setPoison (s : State) (n line : Nat) (p : Bool) : State :=
  match s.remapOf n line with
  | some e => { s.wr Reg.MEM_REMAP.POISON (bit p) (32 * n + e) with dram := { s.dram with remapDirty := true } }
  | none => s

/-- Enters a line in the remap table; a full table fails the sub-channel (R445, R451). -/
def State.remap (s : State) (n line : Nat) (poison : Bool) : State :=
  if (s.remapOf n line).isSome then s.setPoison n line (poison || s.poisoned n line)
  else match (List.range 32).find? (fun e => !s.on Reg.MEM_REMAP.VALID (32 * n + e)) with
    | none => (s.event 0x17 0x0102 n).scFail n 4
    | some e =>
      let s1 := ((s.wr Reg.MEM_REMAP.LINE line (32 * n + e)).wr Reg.MEM_REMAP.VALID 1 (32 * n + e)).wr
        Reg.MEM_REMAP.POISON (bit poison) (32 * n + e)
      let s2 := s1.bump Reg.MEM_SC.REMAP_USED 1 n
      { s2.event 0x17 0x0101 (n + line % 2 ^ 29 * 8) with dram := { s2.dram with remapDirty := true } }

/-- A trigger of R448 is queued, merged with one that waits. -/
def State.marginTrigger (s : State) (n cause : Nat) : State :=
  if s.scUp n && !s.dram.queue.any (fun q => q.1 == n)
      && !(s.on Reg.DRC_STATUS.TRN_BUSY && s.rd Reg.DRC_STATUS.TRN_SC == n) then
    { s with dram := { s.dram with queue := s.dram.queue ++ [(n, cause)] } }
  else s

/-- The error registers of a line (R457). -/
def State.lastLine (s : State) (n line device : Nat) (uncorr : Bool) : State :=
  ((s.wr Reg.MEM_SC.LAST (64 * line) n).wr Reg.MEM_SC.DEVICE device n).wr Reg.MEM_SC.UNCORR (bit uncorr) n

/-- LINE_UNCORRECTABLE: counted, recorded and poisoned; UE_LIMIT in an hour fails the sub-channel (R444, R451). -/
def State.lineBad (s : State) (n line : Nat) : State :=
  let s1 := (((s.bump Reg.MEM_SC.UE 1 n).event 0x17 0x0100 (n + line % 2 ^ 29 * 8)).lastLine n line 0xF true).remap n line true
  let x := s1.sc n
  let recent := s1.frame :: x.ueAt.filter (fun t => decide (s1.frame < t + 360000000))
  let s2 := s1.setSc n { x with ueAt := recent }
  if s2.rd Reg.MEM_CFG2.UE_LIMIT ≤ recent.length then s2.scFail n 3 else s2

/-- A correctable line: counted, placed in the scrub queue, remapped after a rewrite; the limits of R448 and R451. -/
def State.lineCorrected (s : State) (n line device : Nat) : State :=
  let s1 := ((s.bump Reg.MEM_SC.CE 1 n).count 0x084 4).lastLine n line device false
  let x := s1.sc n
  if (s1.remapOf n line).isSome then s1
  else if x.scrubbed.contains line then
    (s1.event 0x17 0x0104 (n + line % 2 ^ 29 * 8)).remap n line false
  else
    let old := x.seen.filter (fun e => decide (s1.frame < e.1 + 100000))
    let queued := x.scrub.contains line
    let seen := if queued || old.any (fun e => e.2.1 == line) then old else (s1.frame, line, device) :: old
    let y : Sc := { x with seen := seen, scrub := if queued || decide (64 ≤ x.scrub.length) then x.scrub else x.scrub ++ [line] }
    let s2 := (s1.setSc n y).wr Reg.DRC_SC.CE_1S (min 255 seen.length) n
    let s3 := if s2.rd Reg.MEM_CFG.CE_RETRAIN < seen.length then s2.marginTrigger n 3 else s2
    if s3.rd Reg.MEM_CFG.DEV_LIMIT ≤ (seen.filter (fun e => e.2.2 == device)).length then
      (s3.event 0x17 0x0103 (n + device * 8)).scFail n 2
    else s3

/-- One line access: bytes delivered, or none when the line is uncorrectable (R433, R440, R442, R444, R445). -/
def State.readLine (s : State) (n line : Nat) (errs : List (Nat × Nat × Nat)) : Option (BitVec 512) × State :=
  let x := s.sc n
  let g := line / 16384
  match x.merge.find? (fun m => m.line == line && !m.blocked) with
  | some m => (some m.data, s)
  | none =>
    if !x.granuleUp g then
      let s1 := s.bump Reg.DRC_SC.UNINIT_READS 1 n
      if x.uninitAt = 0 ∨ x.uninitAt + 100000 ≤ s.frame + 1 then
        (some 0, (s1.setSc n { x with uninitAt := s.frame + 1 }).event 0x16 0x0104 (n + g % 65536 * 8))
      else (some 0, s1)
    else if s.poisoned n line then (none, s)
    else
      let s1 := s.touch n (64 * line)
      let data := Tbl.get 0 x.lines line
      if (s.remapOf n line).isSome then (some data, s1)
      else match decodeLine data errs with
        | (.clean, d) => (some d, s1)
        | (.correctable j, d) => (some d, s1.lineCorrected n line j)
        | (.uncorrectable, _) => (none, s1.lineBad n line)

/-! ### Training (R446 to R449) -/

/-- The mean of the PHY diode's samples (R447, R448). -/
def Sc.meanTemp (x : Sc) : Int := if x.temps = [] then 0 else (x.temps.foldl (· + ·) 0) / x.temps.length

/-- A sample of a sub-channel's PHY diode: a mean more than 10.0 °C from the tag triggers a margin check (R448). -/
def State.dramDiode (s : State) (n : Nat) (t : Int) : State :=
  let x := s.sc n
  let y : Sc := { x with temps := (t :: x.temps).take 100 }
  let s1 := s.setSc n y
  let tag := s1.rdInt Reg.DRC_SC.TAG_TEMP n
  let d := y.meanTemp - tag
  if decide (y.temps.length = 100) && (decide (100 < d) || decide (d < -100)) then s1.marginTrigger n 1 else s1

/-- The tag of a passed check: temperature and VDD_PHY (R447). -/
def State.tag_ (s : State) (n : Nat) : State :=
  (s.wr Reg.DRC_SC.TAG_TEMP (signedField 16 (s.sc n).meanTemp) n).wr Reg.DRC_SC.TAG_MV (s.rd Reg.PWR_AVS.ACK_MV 2) n

/-- A full training begins at a rate (R446). -/
def State.trainFrom (s : State) (n rate : Nat) : State :=
  s.setSc n { s.sc n with steps := 0, trnBad := false, trying := rate }

/-- A training failed at its rate: event 0x0100 and the next lower rate, or the loss of the sub-channel (R447, R427). -/
def State.trainFail (s : State) (n : Nat) : State :=
  let r := (s.sc n).trying
  let s1 := s.event 0x16 0x0100 (n + r * 8)
  if r ≤ 1 then s1.scFail n 1 else s1.trainFrom n (r - 1)

/-- DRAM_TRAINING_STEP: the step of one sub-channel in the ended frame; `bad`: it failed, or its margin offset showed a bit
error (R446, R447, R448). -/
def State.dramStep (s : State) (n : Nat) (bad : Bool) : State :=
  let x := s.sc n
  let st := s.rd Reg.DRC_SC.STATE n
  if st = 1 ∨ st = 5 then
    if x.steps < 666 then
      if bad then (s.setSc n { x with steps := x.steps + 1, trnBad := true }).trainFail n
      else s.setSc n { x with steps := x.steps + 1 }
    else s
  else if st = 4 then
    let y : Sc := { x with steps := x.steps + 1, trnBad := x.trnBad || bad }
    let s1 := s.setSc n y
    if y.steps < 8 then s1
    else if y.trnBad then
      ((s1.wr Reg.DRC_SC.STATE 5 n).trainFrom n (s1.rd Reg.DRC_SC.RATE n)).event 0x16 0x0101 (n + 32 * 8)
    else ((s1.wr Reg.DRC_SC.STATE 3 n).tag_ n).wr Reg.DRC_STATUS.TRN_BUSY 0
  else s

/-- The DRAM work of a frame boundary: training steps, merge write-back, the sweep (R446, R442, R432). `bad`: sub-channels whose
step failed; `sweeps`: sub-channels whose sweep finished a granule, once for each. -/
def State.dramFrame (s : State) (bad sweeps : List Nat) : State :=
  let s1 := (List.range 8).foldl (fun s n => s.dramStep n (bad.contains n)) s
  let s2 := (List.range 8).foldl (fun s n =>
    let x := s.sc n
    if x.merge = [] then s else s.setSc n { x with merge := x.merge.filter (fun m => m.blocked) }) s1
  sweeps.foldl (fun s n => if n < 8 then s.sweep n else s) s2

/-- Any margin check or retraining in progress is abandoned; the previous results stay in force (R449). -/
def State.dramAbandon (s : State) : State :=
  let s1 := (List.range 8).foldl (fun s n =>
    let st := s.rd Reg.DRC_SC.STATE n
    if st = 4 ∨ st = 5 then (s.wr Reg.DRC_SC.STATE 3 n).setSc n { s.sc n with steps := 0, trnBad := false } else s) s
  { s1.wr Reg.DRC_STATUS.TRN_BUSY 0 with dram := { s1.dram with queue := [] } }

/-- P3 entry: merge buffers written back, every rank in self-refresh (R450). -/
def State.dramSelfRefresh (s : State) : State :=
  let s1 := s.dramAbandon
  (List.range 8).foldl (fun s n => if s.scUp n then (s.wr Reg.DRC_SC.STATE 7 n).setSc n { s.sc n with merge := [] } else s)
    (s1.wr Reg.DRC_STATUS.SELF_REFRESH 1)

/-- P3 exit: self-refresh ends; a sub-channel serves again (R450). -/
def State.dramWake (s : State) : State :=
  (List.range 8).foldl (fun s n => if s.rd Reg.DRC_SC.STATE n = 7 then
      (s.wr Reg.DRC_SC.STATE (if s.rd Reg.DRC_SC.GRANULES n < s.scGranules then 2 else 3) n).tag_ n else s)
    (s.wr Reg.DRC_STATUS.SELF_REFRESH 0)

/-- Grind step 4 begins: every populated sub-channel trains at once at the highest rate; the remap tables are reloaded, and
every granule is uninitialised (R427, R432, R445). -/
def State.dramStart (s : State) : State :=
  let s1 := (List.range 8).foldl (fun s n =>
    if s.board.dramMask.testBit n then
      ((s.setSc n {}).wr Reg.DRC_SC.STATE 1 n).trainFrom n (s.rd Reg.DRC_GEOM.MAX_RATE)
    else s) s
  s1.dram.remapSaved.foldl (fun s e =>
    match (List.range 32).find? (fun i => !s.on Reg.MEM_REMAP.VALID (32 * e.1 + i)) with
    | some i => (((s.wr Reg.MEM_REMAP.LINE e.2.1 (32 * e.1 + i)).wr Reg.MEM_REMAP.VALID 1 (32 * e.1 + i)).wr
        Reg.MEM_REMAP.POISON (bit e.2.2) (32 * e.1 + i)).bump Reg.MEM_SC.REMAP_USED 1 e.1
    | none => s) s1

/-- The remap tables as they are recorded in the boot store (R445). -/
def State.remapImage (s : State) : List (Nat × Nat × Bool) :=
  ((List.range 256).filter (fun e => s.on Reg.MEM_REMAP.VALID e)).map
    (fun e => (e / 32, s.rd Reg.MEM_REMAP.LINE e, s.on Reg.MEM_REMAP.POISON e))

/-! ### The rows -/

/-- DRAM_TRAINING_ADOPTED (R447, R427, R431, R92): a training that has run its 666 steps with a passing margin check is adopted;
at a cold start the sub-channel enters service, the first two form the Bloom pair, and the staging pair is fixed when both of
its members have trained. -/
def execDramTrainingAdopted (sc : Fin 8) (s : State) : Host.Outcome State Fault Refusal :=
  let n := sc.val
  let x := s.sc n
  let st := s.rd Reg.DRC_SC.STATE n
  if decide (st = 1 ∨ st = 5) && decide (666 ≤ x.steps) && !x.trnBad && s.serving then
    let s1 := ((s.setSc n { x with banks := [], steps := 0 }).wr Reg.DRC_SC.RATE x.trying n).tag_ n
    let s2 := (s1.bump Reg.DRC_SC.TRAININGS 1 n).event 0x16 0x0102 (n + signedField 16 (s1.sc n).meanTemp * 8)
    if st = 5 then ok ((s2.wr Reg.DRC_SC.STATE 3 n).wr Reg.DRC_STATUS.TRN_BUSY 0)
    else
      let s3 := (s2.wr Reg.DRC_SC.STATE 2 n).wr Reg.DRC_STATUS.IN_SERVICE (setBit (s2.rd Reg.DRC_STATUS.IN_SERVICE) n)
      let bloom := decide (s3.dram.pair.length < 2)
      let p := if bloom then insertNat n s3.dram.pair else s3.dram.pair
      let s4 := { s3 with dram := { s3.dram with pair := p } }
      let s5 := match p with
        | [a, b] => (s4.wr Reg.DRC_STATUS.BLOOM_A a).wr Reg.DRC_STATUS.BLOOM_B b
        | _ => s4
      let s6 := if bloom then s5.claim n 4096 14400 else s5.claim n 0 2048
      let trained := (List.range 8).all (fun m => let t := s6.rd Reg.DRC_SC.STATE m; t != 1)
      if !bloom && trained && s6.dram.staging.isNone then
        match s6.stagingPair with
        | some (a, b) => ok (({ s6 with dram := { s6.dram with staging := some (a, b) } }.claim a 2048 8192).claim b 2048 8192)
        | none => ok s6
      else ok s6
  else ok s

/-- MARGIN_CHECK_START (R448): the oldest queued trigger starts its check when no sub-channel is in a check or retraining. -/
def execMarginCheckStart (s : State) : Host.Outcome State Fault Refusal :=
  match s.dram.queue with
  | (n, cause) :: t =>
    if s.serving && !s.on Reg.DRC_STATUS.TRN_BUSY && s.rd Reg.DRC_SC.STATE n == 3 then
      let s1 := { s with dram := { s.dram with queue := t } }
      let s2 := ((s1.wr Reg.DRC_STATUS.TRN_BUSY 1).wr Reg.DRC_STATUS.TRN_SC n).wr Reg.DRC_SC.STATE 4 n
      ok ((s2.setSc n { s2.sc n with steps := 0, trnBad := false }).event 0x16 0x0101 (n + cause * 8))
    else ok s
  | [] => ok s

/-- DRAM_REFRESH (R426, R436): a due same-bank refresh is issued ahead of other requests; it closes the open rows of its bank in
every bank group (PRESUMED: log entry 67). -/
def execDramRefresh (sc : Fin 8) (s : State) : Host.Outcome State Fault Refusal :=
  let n := sc.val
  let x := s.sc n
  if s.scUp n && s.rd Reg.DRC_SC.STATE n != 7 then
    ok (s.setSc n { x with refreshed := (x.refreshed + 1) % 4,
                           banks := Tbl.mapAll {} (fun k b => if k / 8 % 4 = x.refreshed then { b with opened := false } else b) x.banks })
  else ok s

/-- ROW_IDLE_CLOSE (R437): an open row with no access for PAGE_IDLE is closed. -/
def execRowIdleClose (sc : Fin 8) (bank : Fin 64) (s : State) : Host.Outcome State Fault Refusal :=
  let n := sc.val
  let x := s.sc n
  ok (s.setSc n { x with banks := Tbl.upd {} x.banks bank.val (fun b => { b with opened := false }) })

/-- REQUEST_AGE_PROMOTION (R436): a request of class 1 to 3 that has waited longer than AGE_LIMIT (in 10 ns) goes to class 0,
behind the requests promoted earlier. -/
def execRequestAgePromotion (sc : Fin 8) (line : Nat) (cls : Fin 4) (waited : Nat) (s : State) :
    Host.Outcome State Fault Refusal :=
  let n := sc.val
  let x := s.sc n
  if s.scUp n && decide (cls.val ≠ 0) && decide (s.rd Reg.DRC_CFG.AGE_LIMIT < waited) && !x.promoted.contains line then
    ok (s.setSc n { x with promoted := x.promoted ++ [line] })
  else ok s

/-- DRAM_LINE_READ (R433, R440, R441, R444): one line is read, with the errors the components add; its bytes are delivered, or
it is returned marked uncorrectable. -/
def execDramLineRead (sc : Fin 8) (line : Nat) (errs : List (Nat × Nat × Nat)) (s : State) :
    Host.Outcome State Fault Refusal :=
  let n := sc.val
  if s.scUp n && decide (line < s.scGranules * 16384) && s.rd Reg.DRC_SC.STATE n != 7 then
    let x := s.sc n
    let r := (s.setSc n { x with promoted := x.promoted.filter (· != line) }).readLine n line errs
    ok (r.2.emit (.dramLine n line r.1))
  else ok s

/-- The bytes of a line with those the mask names replaced. -/
def mergeBytes (old new : BitVec 512) (mask : BitVec 64) : BitVec 512 :=
  BitVec.ofNat 512 (((List.range 64).map (fun i =>
    bitsOf (if mask.getLsbD i then new.toNat else old.toNat) (8 * i) 8 * 2 ^ (8 * i))).foldl (· + ·) 0)

/-- PARTIAL_LINE_WRITE (R433, R439, R442, R444): a write to one line. A full line is written whole and clears POISON; a part goes
through a merge entry, which reads and corrects the line; with no free entry, or in an uninitialised granule, it waits. -/
def execPartialLineWrite (sc : Fin 8) (line : Nat) (mask : BitVec 64) (data : BitVec 512) (errs : List (Nat × Nat × Nat))
    (s : State) : Host.Outcome State Fault Refusal :=
  let n := sc.val
  let x := s.sc n
  if !(s.scUp n && decide (line < s.scGranules * 16384) && s.rd Reg.DRC_SC.STATE n != 7) then ok s
  else if !x.granuleUp (line / 16384) then
    ok (s.setSc n { x with wanted := if x.wanted.contains (line / 16384) then x.wanted else x.wanted ++ [line / 16384] })
  else if mask = BitVec.allOnes 64 then
    let s1 := s.touch n (64 * line)
    let y := s1.sc n
    ok ((s1.setSc n { y with lines := Tbl.set 0 y.lines line data, merge := y.merge.filter (fun m => m.line != line) }).setPoison
      n line false)
  else match x.merge.find? (fun m => m.line == line) with
    | some m =>
      let d := mergeBytes m.data data mask
      let m' : Merge := { m with mask := m.mask ||| mask.toNat, data := d }
      ok (s.setSc n { x with merge := x.merge.map (fun e => if e.line == line then m' else e),
                             lines := if m.blocked then x.lines else Tbl.set 0 x.lines line d })
    | none =>
      if 32 ≤ x.merge.length then ok s
      else
        let r := s.readLine n line errs
        let y := r.2.sc n
        match r.1 with
        | some old =>
          let d := mergeBytes old data mask
          ok (r.2.setSc n { y with lines := Tbl.set 0 y.lines line d,
                                   merge := y.merge ++ [{ line := line, mask := mask.toNat, data := d, blocked := false }] })
        | none =>
          ok (r.2.setSc n { y with merge := y.merge ++ [{ line := line, mask := mask.toNat, data := mergeBytes 0 data mask,
                                                          blocked := true }] })

/-- SCRUB_REWRITE (R441, R442): the scrubber rewrites the oldest queued line; a line with an open merge entry is rewritten with
unchanged bytes. The scrubber is stopped in the drain and in P3. -/
def execScrubRewrite (sc : Fin 8) (s : State) : Host.Outcome State Fault Refusal :=
  let n := sc.val
  let x := s.sc n
  match x.scrub with
  | line :: t =>
    if s.serving && s.scUp n && s.rd Reg.DRC_SC.STATE n != 7 then
      ok (s.setSc n { x with scrub := t, scrubbed := insertNat line x.scrubbed })
    else ok s
  | [] => ok s

end Sys2Proof.Machine
end

