-- ==== Sys2Proof/Machine/Pool.lean ====
section
/-! DEFINITION. The buffer pool: owners, policies, back-pressure, sharing and release (R460 to R472). -/

set_option Elab.async false

namespace Sys2Proof.Machine

/-- A pool buffer. -/
def State.buf (s : State) (b : Nat) : Buf := Tbl.get {} s.pool.bufs b
/-- Changes a pool buffer. -/
def State.setBuf (s : State) (b : Nat) (x : Buf) : State :=
  { s with pool := { s.pool with bufs := Tbl.set {} s.pool.bufs b x } }

/-- USED of an owner. -/
def State.bufUsed (s : State) (o : Nat) : Nat := s.rd Reg.BPM_OWN.USED o
/-- MIN of an owner. -/
def State.bufMin (s : State) (o : Nat) : Nat := s.rd Reg.BPM_OWN.MIN o
/-- MAX of an owner. -/
def State.bufMax (s : State) (o : Nat) : Nat := s.rd Reg.BPM_OWN.MAX o

/-- The minimum an owner has held back under the policy in effect: owners 4 and 7 always, the others natively (R465, R466). -/
def State.bufHeld (s : State) (o : Nat) : Nat := if s.pool.fcfs && o != 4 && o != 7 then 0 else s.bufMin o

/-- Buffers of the shared part. -/
def State.sharedSize (s : State) : Nat := 16384 - ((List.range 8).map s.bufHeld).foldl (· + ·) 0
/-- Buffers of the shared part in use. -/
def State.sharedUsed (s : State) : Nat := ((List.range 8).map (fun o => s.bufUsed o - s.bufHeld o)).foldl (· + ·) 0
/-- Free buffers of the shared part. -/
def State.sharedFree (s : State) : Nat := s.sharedSize - s.sharedUsed
/-- Free buffers of the pool. -/
def State.poolFree (s : State) : Nat := 16384 - ((List.range 8).map s.bufUsed).foldl (· + ·) 0

/-- BACKPRESSURE: the state of R469 after a grant or a release, with event 0x0100 at each entry into Warning or Critical. -/
def State.backpressure (s : State) : State :=
  let f := if s.pool.fcfs then s.poolFree else s.sharedFree
  let p := if f ≤ s.rd Reg.BPM_CFG.CRIT then 2 else if f ≤ s.rd Reg.BPM_CFG.WARN then 1 else 0
  let s1 := (s.wr Reg.BPM_STATUS.FREE s.poolFree).wr Reg.BPM_STATUS.SHARED_FREE s.sharedFree
  let s2 := (s1.wr Reg.BPM_STATUS.BACKPRESSURE (bit (p != 0))).wr Reg.BPM_STATUS.CRITICAL (bit (p == 2))
  let s3 := { s2 with pool := { s2.pool with press := p } }
  if s.pool.press < p then s3.event 0x15 0x0100 (s.sharedFree % 32768 + p * 32768) else s3

/-- The pool grants a request of `n` buffers for owner `o` now (R465, R466, R467, R469). -/
def State.bufGrantable (s : State) (o n : Nat) : Bool :=
  let after := s.bufUsed o + n
  let extra := (after - s.bufHeld o) - (s.bufUsed o - s.bufHeld o)
  decide (after ≤ s.bufMax o) && decide (extra ≤ s.sharedFree)
    && !(decide (s.pool.press = 2) && (o == 0 || o == 1 || o == 3) && decide (s.bufMin o < after))

/-- The lowest-numbered free buffers. -/
def State.freeBufs (s : State) (n : Nat) : List Nat := ((List.range 16384).filter (fun b => (s.buf b).refs == 0)).take n

/-- Grants `n` buffers to owner `o`: generation + 1, count 1, valid map and side field clear (R461, R470). -/
def State.grant (s : State) (o n : Nat) : State :=
  let l := s.freeBufs n
  let s1 := l.foldl (fun s b => s.setBuf b { owner := o, gen := ((s.buf b).gen + 1) % 16, refs := 1 }) s
  let s2 := s1.wr Reg.BPM_OWN.USED (s1.bufUsed o + n) o
  let s3 := s2.wr Reg.BPM_OWN.PEAK (max (s2.rd Reg.BPM_OWN.PEAK o) (s2.bufUsed o)) o
  (s3.emit (.buffers o (l.map (fun b => b + (s3.buf b).gen * 2 ^ 14)))).backpressure

/-- WAITING of an owner. -/
def State.bufWaiting (s : State) (o : Nat) : Bool := s.pool.queue.any (fun q => q.1 == o)

/-- Serves the queued requests in arrival order, each owner's in turn (R468). -/
def State.serveQueue (s : State) : State :=
  let r := s.pool.queue.foldl (fun (acc : State × List (Nat × Nat)) q =>
    if !acc.2.any (fun p => p.1 == q.1) && acc.1.bufGrantable q.1 q.2 then (acc.1.grant q.1 q.2, acc.2)
    else (acc.1, acc.2 ++ [q])) (s, [])
  let s1 := { r.1 with pool := { r.1.pool with queue := r.2 } }
  (List.range 8).foldl (fun s o => s.wr Reg.BPM_OWN.WAITING (bit (s.bufWaiting o)) o) s1

/-- A double free or a stale handle: refused, counted and recorded (R471). -/
def State.freeFault (s : State) (b gen : Nat) (double : Bool) : State :=
  let x := s.buf b
  let s1 := if double then s.wr Reg.BPM_EVT.DOUBLE_FREE 1 else s.wr Reg.BPM_EVT.STALE 1
  ((s1.bump Reg.BPM_CNT.FREE_FAULTS).event 0x15 0x0101 (b + gen * 2 ^ 14 + x.gen * 2 ^ 18 + x.owner * 2 ^ 22)).emit
    (.internalFault 0x15)

/-- BUFFER_PARITY_ERROR: a read of a valid line fails parity; the requester recovers from its source. A read of a free buffer
returns zeroes and is recorded (R462, R471). -/
def State.parityError (s : State) (b line : Nat) : State :=
  let x := s.buf b
  if x.refs = 0 then
    ((s.wr Reg.BPM_EVT.FREE_ACCESS 1).event 0x15 0x0102 b).emit (.internalFault 0x15)
  else if x.valid.testBit line then
    ((s.wr Reg.BPM_EVT.PARITY 1).bump Reg.BPM_CNT.PARITY).event 0x15 0x0103 (b + line * 2 ^ 14 + x.owner * 2 ^ 20)
  else s

/-- POLICY_CHANGE: the policy written takes effect at the boundary (R467). -/
def State.policyFrame (s : State) : State :=
  if s.on Reg.BPM_POLICY.POLICY = s.pool.fcfs then s
  else ({ s with pool := { s.pool with fcfs := s.on Reg.BPM_POLICY.POLICY } }.backpressure).serveQueue

/-! ### The rows -/

/-- BUFFER_ALLOCATE (R464 to R469): a request for 1 to 16 buffers is granted whole, or it waits in its owner's queue; any other
count is refused. -/
def execBufferAllocate (owner : Fin 8) (n : Nat) (s : State) : Host.Outcome State Fault Refusal :=
  let o := owner.val
  if !s.sup.coreUp then ok s
  else if n = 0 then ok (((s.wr Reg.BPM_EVT.ZERO_REQ 1).event 0x15 0x0104 (o * 32)).emit (.internalFault 0x15))
  else if 16 < n then ok (((s.wr Reg.BPM_EVT.BAD_REQ 1).event 0x15 0x0104 (n % 32 + o * 32)).emit (.internalFault 0x15))
  else if !s.bufWaiting o && s.bufGrantable o n then ok (s.grant o n)
  else ok ({ s with pool := { s.pool with queue := s.pool.queue ++ [(o, n)] } }.wr Reg.BPM_OWN.WAITING 1 o)

/-- BUFFER_SHARE (R470, R471): adds 1 to 62 to a buffer's reference count; refused above 63, on a free buffer and on a stale
handle. -/
def execBufferShare (handle : BitVec 18) (n : Fin 63) (s : State) : Host.Outcome State Fault Refusal :=
  let b := bitsOf handle.toNat 0 14
  let g := bitsOf handle.toNat 14 4
  let x := s.buf b
  if x.refs = 0 then ok (s.freeFault b g true)
  else if x.gen ≠ g then ok (s.freeFault b g false)
  else if 63 < x.refs + n.val then ok ((s.wr Reg.BPM_EVT.REF_OVERFLOW 1).event 0x15 0x0105 b)
  else ok (s.setBuf b { x with refs := x.refs + n.val })

/-- BUFFER_RELEASE (R468, R469, R470, R471): the count falls by one; at zero the buffer is free, USED falls, back-pressure is
evaluated and queued requests are served. -/
def execBufferRelease (handle : BitVec 18) (s : State) : Host.Outcome State Fault Refusal :=
  let b := bitsOf handle.toNat 0 14
  let g := bitsOf handle.toNat 14 4
  let x := s.buf b
  if x.refs = 0 then ok (s.freeFault b g true)
  else if x.gen ≠ g then ok (s.freeFault b g false)
  else
    let s1 := s.setBuf b { x with refs := x.refs - 1 }
    if x.refs = 1 then ok (((s1.wr Reg.BPM_OWN.USED (s1.bufUsed x.owner - 1) x.owner).backpressure).serveQueue)
    else ok s1

end Sys2Proof.Machine
end

