-- ==== Sys2Proof/Machine/Thitralen.lean ====
section
/-! DEFINITION. The Thitralen associative engine: entries, searches, insertions, compaction and the device's tables
(R473 to R482). -/

set_option Elab.async false

namespace Sys2Proof.Machine

/-- An entry by the number of its first unit. -/
def State.thiEnt (s : State) (i : Nat) : ThiEnt := Tbl.get {} s.thi i

/-- Units an entry of a table occupies (R473). -/
def State.thiWidth (s : State) (t : Nat) : Nat := 2 ^ min 2 (s.rd Reg.THI_TABLE.WIDTH t)
/-- First unit of a table. -/
def State.thiBase (s : State) (t : Nat) : Nat := s.rd Reg.THI_TABLE.BASE t
/-- The unit after the last of a table. -/
def State.thiEnd (s : State) (t : Nat) : Nat := if s.rd Reg.THI_TABLE.LAST t = 0 then 0 else s.rd Reg.THI_TABLE.LAST t + 1

/-- The valid entries of a table in rising order of index. -/
def State.thiList (s : State) (t : Nat) : List (Nat × ThiEnt) := s.thi.filter (fun e => e.2.valid && e.2.table == t)

/-- An entry matches a key under a global mask (R474): `wide` for the 160-bit keys of width 4. -/
def ThiEnt.hit (e : ThiEnt) (width : Nat) (key mask : Nat) : Bool :=
  let g := if width = 4 then mask + mask * 2 ^ 80 else mask
  let care := if width = 1 then 2 ^ 160 - 1 else e.care
  ((e.value ^^^ key) &&& g &&& care) == 0

/-- The matches of a search, in rising order of index (R474). -/
def State.thiMatches (s : State) (t key mask start : Nat) : List (Nat × ThiEnt) :=
  (s.thiList t).filter (fun e => decide (start ≤ e.1) && e.2.hit (s.thiWidth t) key mask)

/-- The winner: the highest priority, then the lowest index; with whether another match shares its priority (R474). -/
def thiWinner (l : List (Nat × ThiEnt)) : Option (Nat × ThiEnt × Bool) :=
  let top := l.foldl (fun p e => max p e.2.prio) 0
  match l.filter (fun e => e.2.prio == top) with
  | [] => none
  | (i, e) :: t => some (i, e, !t.isEmpty)

/-- Runs operations of the engine: THI_OPS counts (R486) (DEDUCED: log entry 71). -/
def State.thiOps (s : State) (n : Nat) : State := s.bump Reg.THI_OPS.COUNT n

/-- Free slots of a table below its first valid entry (R478). -/
def State.thiHeadRoom (s : State) (t : Nat) : Nat :=
  match s.thiList t with
  | [] => (s.thiEnd t - s.thiBase t) / s.thiWidth t
  | (i, _) :: _ => (i - s.thiBase t) / s.thiWidth t

/-- The lowest hole of a table: the lowest free slot above its first valid entry (R478). -/
def State.thiHole (s : State) (t : Nat) : Option Nat :=
  match s.thiList t with
  | [] => none
  | (i, _) :: _ =>
    (s.thiList t).foldl (fun h e => match h with
      | some h => if h = e.1 then some (e.1 + s.thiWidth t) else some h
      | none => none) (some i)

/-- An ordered table has a hole with an entry above it and too little head room: compaction has work (R478). -/
def State.thiCompacts (s : State) (t : Nat) : Bool :=
  s.on Reg.THI_TABLE.ORDERED t && decide (s.thiHeadRoom t < s.rd Reg.THI_CFG.HEAD_ROOM)
    && (match s.thiHole t with
        | some h => (s.thiList t).any (fun e => decide (h < e.1))
        | none => false)

/-- The registers that follow the entries: COUNT, FIRST, FREE_UNITS and COMPACTING, with event 0x0101 when it starts
(R478, R486, R487, R489). -/
def State.thiRefresh (s : State) (t : Nat) : State :=
  let l := s.thiList t
  let s1 := (s.wr Reg.THI_TABLE.COUNT l.length t).wr Reg.THI_TABLE.FIRST
    (if s.on Reg.THI_TABLE.ORDERED t then (match l with | [] => 0 | (i, _) :: _ => i) else 0) t
  let used := ((List.range 5).map (fun u => (s1.thiList u).length * s1.thiWidth u)).foldl (· + ·) 0
  let s2 := s1.wr Reg.THI_STATUS.FREE_UNITS (32768 - used)
  let go := (List.range 5).any s2.thiCompacts
  let s3 := s2.wr Reg.THI_STATUS.COMPACTING (bit go)
  if go && !s.on Reg.THI_STATUS.COMPACTING then s3.event 0x14 0x0101 (t + s3.thiHeadRoom t % 65536 * 8) else s3

/-- Writes an entry. -/
def State.setThi (s : State) (i : Nat) (e : ThiEnt) : State := { s with thi := Tbl.set {} s.thi i e }

/-- A 16-bit field of associated data with a signed amount added, saturating (R476). -/
def thiAdd (data field : Nat) (delta : Int) : Nat × Nat :=
  let old := bitsOf data (16 * field) 16
  let new := (max 0 (min 65535 ((old : Int) + delta))).toNat
  (data - old * 2 ^ (16 * field) + new * 2 ^ (16 * field), new)

/-- SEARCH (R474): the result and the state with its counts. -/
def State.thiSearch (s : State) (t key mask start : Nat) : ThiOut × State :=
  let s1 := s.thiOps 1
  match thiWinner (s.thiMatches t key mask start) with
  | none => (.miss, s1)
  | some (i, e, m) => (.hit i m e.data, if m then s1.bump Reg.THI_CNT.MULTI_HITS else s1)

/-- SEARCH_ADD (R476). -/
def State.thiSearchAdd (s : State) (t key mask start field : Nat) (delta : Int) : ThiOut × State :=
  match thiWinner (s.thiMatches t key mask start) with
  | none => (.miss, s.thiOps 1)
  | some (i, e, m) =>
    let d := thiAdd e.data field delta
    let s1 := (s.thiOps 1).setThi i { e with data := d.1 }
    (.added i d.2, if m then s1.bump Reg.THI_CNT.MULTI_HITS else s1)

/-- The slots of a table with no valid entry, in rising order. -/
def State.thiFree (s : State) (t : Nat) : List Nat :=
  ((List.range ((s.thiEnd t - s.thiBase t) / s.thiWidth t)).map (fun k => s.thiBase t + k * s.thiWidth t)).filter
    (fun i => !(s.thiEnt i).valid)

/-- A refused insertion: counted and recorded (R486, R489). -/
def State.thiRefuse (s : State) (t : Nat) (near : Bool) : State :=
  (s.bump Reg.THI_CNT.NO_ROOM).event 0x14 0x0100 (t + bit near * 8)

/-- INSERT_ANY (R476): the lowest free slot; with UNIQUE, an equal entry is found instead and its field is added to. -/
def State.thiInsertAny (s : State) (t key care prio data : Nat) (unique : Bool) (field : Nat) (add : Int) : ThiOut × State :=
  let same := (s.thiList t).find? (fun e => e.2.value == key && (s.thiWidth t == 1 || e.2.care == care) && e.2.prio == prio)
  match (if unique then same else none) with
  | some (i, e) => (.present i, (s.thiOps 1).setThi i { e with data := (thiAdd e.data field add).1 })
  | none =>
    match s.thiFree t with
    | [] => (.full, (s.thiOps 1).thiRefuse t false)
    | i :: _ =>
      let c := if s.thiWidth t = 1 then 0 else care
      (.inserted i, ((s.thiOps 1).setThi i
        { valid := true, table := t, prio := prio, value := key, care := c, data := data }).thiRefresh t)

/-- Moves the valid entries from slot `x` up to the slot before `hole` one slot upward, highest first (R477). -/
def State.thiShift (s : State) (w x : Nat) : Nat → Nat → State
  | 0, _ => s
  | n + 1, hole => if hole ≤ x then s else
      State.thiShift ((s.setThi hole (s.thiEnt (hole - w))).setThi (hole - w) {}) w x n (hole - w)

/-- INSERT_ORDERED (R477): before entry X or at the head, in the nearest free slot below X, else above it with at most 15
moves. -/
def State.thiInsertOrdered (s : State) (t : Nat) (e : ThiEnt) (before : Option Nat) : ThiOut × State :=
  let w := s.thiWidth t
  let l := s.thiList t
  let x := match before with
    | some i => if l.any (fun p => p.1 == i) then some i else none
    | none => match l with | [] => some (s.thiEnd t) | (i, _) :: _ => some i
  match x with
  | none => (.badIndex, s.thiOps 1)
  | some x =>
    match ((s.thiFree t).filter (fun i => decide (i < x))).getLast? with
    | some i => (.inserted i, ((s.thiOps 1).setThi i e).thiRefresh t)
    | none =>
      match (s.thiFree t).filter (fun i => decide (x < i)) with
      | [] => (.full, (s.thiOps 1).thiRefuse t false)
      | hole :: _ =>
        let h := (hole - x) / w
        if 15 < h then (.noRoomNear, ((s.thiOps 1).thiRefuse t true).thiRefresh t)
        else (.inserted x, (((s.thiOps (1 + h)).thiShift w x 16 hole).setThi x e).thiRefresh t)

/-- An index names a valid entry of a table (R476). -/
def State.thiHas (s : State) (t i : Nat) : Bool := (s.thiEnt i).valid && (s.thiEnt i).table == t

/-- DELETE (R476): VALID 0, and the slot is free. -/
def State.thiDelete (s : State) (t i : Nat) : ThiOut × State :=
  if s.thiHas t i then (.done i, ((s.thiOps 1).setThi i { s.thiEnt i with valid := false }).thiRefresh t)
  else (.badIndex, s.thiOps 1)

/-- DELETE_MATCH (R476): every matching entry, one slot each. -/
def State.thiDeleteMatch (s : State) (t key mask : Nat) : ThiOut × State :=
  let l := s.thiMatches t key mask 0
  (.deleted l.length,
    (l.foldl (fun s e => s.setThi e.1 { e.2 with valid := false }) (s.thiOps (max 1 l.length))).thiRefresh t)

/-- WRITE_DATA (R476): masked bits of the associated data. -/
def State.thiWriteData (s : State) (t i data mask : Nat) : ThiOut × State :=
  if s.thiHas t i then
    let e := s.thiEnt i
    (.done i, (s.thiOps 1).setThi i { e with data := ((e.data &&& mask) ^^^ e.data) ||| (data &&& mask) })
  else (.badIndex, s.thiOps 1)

/-- COMPACTION_STEP (R478): the valid entry nearest above the lowest hole moves into it. -/
def State.thiCompact (s : State) (t : Nat) : State :=
  if s.thiCompacts t then
    match s.thiHole t with
    | some h =>
      match (s.thiList t).find? (fun e => decide (h < e.1)) with
      | some (i, e) => (((s.thiOps 1).setThi h e).setThi i {}).thiRefresh t
      | none => s
    | none => s
  else s

/-- The bounds of the device's tables (R479): table, first unit, last unit, width code, ordered. -/
def thiTables : List (Nat × Nat × Nat × Nat × Nat) :=
  [(0, 0, 24575, 0, 0), (1, 24576, 28671, 1, 1), (2, 28672, 30719, 0, 0), (3, 30720, 31743, 0, 0), (4, 31744, 32255, 0, 0)]

/-- Firmware creates the tables in Grind step 3 (R479). -/
def State.thiCreate (s : State) : State :=
  let s1 := thiTables.foldl (fun s e =>
    (((s.wr Reg.THI_TABLE.BASE e.2.1 e.1).wr Reg.THI_TABLE.LAST e.2.2.1 e.1).wr Reg.THI_TABLE.WIDTH e.2.2.2.1 e.1).wr
      Reg.THI_TABLE.ORDERED e.2.2.2.2 e.1) { s with thi := [] }
  (s1.wr Reg.THI_STATUS.READY 1).wr Reg.THI_STATUS.FREE_UNITS 32768

/-- The 80 key bits of a unit of an entry (R473). -/
def ThiEnt.unit (e : ThiEnt) (w k : Nat) : Nat :=
  if w = 1 then e.value % 2 ^ 80
  else if w = 2 then (if k = 0 then e.value else e.care) % 2 ^ 80
  else if k < 2 then bitsOf e.value (80 * k) 80 else bitsOf e.care (80 * (k - 2)) 80

/-- A write of THI_RD_ADDR captures a unit, its entry's control bits and its associated data (R488). -/
def State.thiCapture (s : State) (u : Nat) : State :=
  let t := (thiTables.find? (fun e => decide (e.2.1 ≤ u ∧ u ≤ e.2.2.1))).map (·.1)
  let w := match t with | some t => s.thiWidth t | none => 1
  let i := u / w * w
  let e := s.thiEnt i
  let k := e.unit w (u - i)
  let s1 := (((s.thiOps 1).wr Reg.THI_RD_ADDR.UNIT u).wr Reg.THI_RD_DATA.KEY k 0).wr Reg.THI_RD_DATA.KEY (k / 2 ^ 32) 1
  let s2 := (((s1.wr Reg.THI_RD_DATA.KEY2 (k / 2 ^ 64)).wr Reg.THI_RD_DATA.VALID (bit e.valid)).wr
    Reg.THI_RD_DATA.WIDTH (if w = 4 then 2 else w - 1)).wr Reg.THI_RD_DATA.TABLE e.table
  ((s2.wr Reg.THI_RD_DATA.PRIO e.prio).wr Reg.THI_RD_DATA.ENTRY i).wr Reg.THI_RD_DATA.DATA e.data 0
    |>.wr Reg.THI_RD_DATA.DATA (e.data / 2 ^ 32) 1

/-! ### The span table and the range table (R479, R480) -/

/-- The span table has a free unit, or an entry, for every span of a list (R198). -/
def State.thiSpanRoom (s : State) (l : List Nat) : Bool :=
  decide ((l.filter (fun n => !(s.thiList 0).any (fun e => e.2.value == n))).length ≤ 24576 - (s.thiList 0).length)

/-- A command takes the entries of its spans (R479). -/
def State.thiTakeSpans (s : State) (l : List Nat) : State :=
  l.foldl (fun s n => (s.thiInsertAny 0 n 0 0 (2 ^ 32) true 2 1).2) s

/-- A command that ends gives its spans back; an entry with no command and no version is deleted (R479). -/
def State.thiGiveSpans (s : State) (l : List Nat) : State :=
  l.foldl (fun s n => (s.thiSearchAdd 0 n (2 ^ 80 - 1) 0 2 (-1)).2) s

/-- Deletes the span entries that no command holds and whose span lists no version (R479). -/
def State.thiSpanSweep (s : State) : State :=
  let dead := (s.thiList 0).filter (fun e => bitsOf e.2.data 32 16 == 0 && !s.ftl.versions.any (fun v => spanOfIu v.iu == e.2.value))
  if dead.isEmpty then s
  else (dead.foldl (fun s e => s.setThi e.1 { e.2 with valid := false }) (s.thiOps dead.length)).thiRefresh 0

/-- The aligned power-of-two runs that cover `n` IUs from `a`, in rising order (R480). -/
def rangeRuns : Nat → Nat → Nat → List (Nat × Nat)
  | 0, _, _ => []
  | f + 1, a, n =>
    if n = 0 then []
    else
      let k := ((List.range 46).filter (fun k => decide (a % 2 ^ k = 0 ∧ 2 ^ k ≤ n))).foldl max 0
      (a, k) :: rangeRuns f (a + 2 ^ k) (n - 2 ^ k)

/-- The range table has a free slot for every run of a range (R480). -/
def State.thiRangeRoom (s : State) (first count : Nat) : Bool :=
  decide ((rangeRuns 100 first count).length ≤ 2048 - (s.thiList 1).length)

/-- Inserts the runs of a range at the head, in rising order of address (R480). -/
def State.thiRangeInsert (s : State) (first count osn entry : Nat) (zeroes : Bool) : State :=
  (rangeRuns 100 first count).foldl (fun s r =>
    (s.thiInsertOrdered 1 { valid := true, table := 1, value := r.1 + entry * 2 ^ 46,
                            care := 2 ^ 80 - 2 ^ r.2, data := osn % 2 ^ 48 + entry * 2 ^ 48 + bit zeroes * 2 ^ 55 } none).2) s

/-- Sets COMMITTED on the runs of a range (R480). -/
def State.thiRangeCommit (s : State) (entry : Nat) : State :=
  ((s.thiMatches 1 (entry * 2 ^ 46) (63 * 2 ^ 46) 0)).foldl (fun s e => (s.thiWriteData 1 e.1 (2 ^ 54) (2 ^ 54)).2) s

/-- Deletes the runs of a range (R480). -/
def State.thiRangeDrop (s : State) (entry : Nat) : State := (s.thiDeleteMatch 1 (entry * 2 ^ 46) (63 * 2 ^ 46)).2

/-- The entries of tables 2 and 4 of a failed channel or die are removed (R482). -/
def State.thiPartGone (s : State) (addr mask : Nat) : State :=
  [2, 4].foldl (fun s t =>
    match s.thiDeleteMatch t addr mask with
    | (.deleted n, s1) => if n = 0 then s1 else s1.event 0x14 0x0102 (t + n % 65536 * 8)
    | (_, s1) => s1) s

/-- The engine runs: its tables exist and the core die is up. -/
def State.thiUp (s : State) : Bool := s.sup.coreUp && s.on Reg.THI_STATUS.READY

/-! ### The rows -/

/-- Puts an operation's result on the engine's port. -/
def thiAnswer (s : State) (r : ThiOut × State) : Host.Outcome State Fault Refusal :=
  if s.thiUp then ok (r.2.emit (.lookup r.1)) else ok s

/-- SEARCH (R474). -/
def execThiSearch (table : Fin 8) (key : BitVec 160) (mask : BitVec 80) (start : Fin 32768) (s : State) :
    Host.Outcome State Fault Refusal :=
  thiAnswer s (s.thiSearch table.val key.toNat mask.toNat start.val)

/-- SEARCH_ADD (R476). -/
def execSearchAdd (table : Fin 8) (key : BitVec 160) (mask : BitVec 80) (start : Fin 32768) (field : Fin 4) (delta : Int)
    (s : State) : Host.Outcome State Fault Refusal :=
  thiAnswer s (s.thiSearchAdd table.val key.toNat mask.toNat start.val field.val delta)

/-- INSERT_ANY (R476). -/
def execInsertAny (table : Fin 8) (key care : BitVec 160) (prio : Fin 16) (data : BitVec 64) (unique : Bool) (field : Fin 4)
    (add : Int) (s : State) : Host.Outcome State Fault Refusal :=
  thiAnswer s (s.thiInsertAny table.val key.toNat care.toNat prio.val data.toNat unique field.val add)

/-- INSERT_ORDERED (R477). -/
def execInsertOrdered (table : Fin 8) (key care : BitVec 160) (prio : Fin 16) (data : BitVec 64) (before : Option (Fin 32768))
    (s : State) : Host.Outcome State Fault Refusal :=
  thiAnswer s (s.thiInsertOrdered table.val
    { valid := true, table := table.val, prio := prio.val, value := key.toNat, care := care.toNat, data := data.toNat }
    (before.map (·.val)))

/-- DELETE (R476). -/
def execThiDelete (table : Fin 8) (index : Fin 32768) (s : State) : Host.Outcome State Fault Refusal :=
  thiAnswer s (s.thiDelete table.val index.val)

/-- DELETE_MATCH (R476). -/
def execDeleteMatch (table : Fin 8) (key : BitVec 160) (mask : BitVec 80) (s : State) : Host.Outcome State Fault Refusal :=
  thiAnswer s (s.thiDeleteMatch table.val key.toNat mask.toNat)

/-- WRITE_DATA (R476). -/
def execWriteData (table : Fin 8) (index : Fin 32768) (data mask : BitVec 64) (s : State) : Host.Outcome State Fault Refusal :=
  thiAnswer s (s.thiWriteData table.val index.val data.toNat mask.toNat)

/-- READ of the engine (R476): the entry whole. -/
def execThiRead (index : Fin 32768) (s : State) : Host.Outcome State Fault Refusal :=
  let e := s.thiEnt index.val
  thiAnswer s
    (if e.valid then .entry index.val (s.rd Reg.THI_TABLE.WIDTH e.table) e.table e.prio e.value e.care e.data else .badIndex,
     s.thiOps 1)

/-- COMPACTION_STEP (R478). -/
def execCompactionStep (table : Fin 8) (s : State) : Host.Outcome State Fault Refusal :=
  if s.thiUp then ok (s.thiCompact table.val) else ok s

end Sys2Proof.Machine
end

