-- ==== Sys2Proof/Machine/Security.lean ====
section
/-! DEFINITION. Keys, realms, invocation counters, sealing and opening of blocks, and the boot store's slots (R490 to R519). -/

set_option Elab.async false

namespace Sys2Proof.Machine

/-! ### Slots and realms (R494 to R496) -/

/-- A key slot. -/
def State.keySlot (s : State) (k : Nat) : KeySlot := Tbl.get {} s.sec.slots k

/-- SEC_STATUS.LOADED, TK_SET, GROUP_KEY, SWEEPING and MC_BANKS follow the keys (R520). -/
def State.secRefresh (s : State) : State :=
  let n := (s.sec.slots.filter (fun e => e.2.st == 1)).length
  let s1 := (s.wr Reg.SEC_STATUS.LOADED n).wr Reg.SEC_STATUS.TK_SET (bit s.sec.tk.isSome)
  ((s1.wr Reg.SEC_STATUS.GROUP_KEY (bit s.sec.groupKey.isSome)).wr Reg.SEC_STATUS.SWEEPING
    (bit (s.sec.slots.any (fun e => e.2.sweep != 0)))).wr Reg.SEC_STATUS.MC_BANKS (min 4 s.sec.mcKeys.length)

/-- Changes a key slot. -/
def State.setKeySlot (s : State) (k : Nat) (x : KeySlot) : State :=
  { s with sec := { s.sec with slots := Tbl.set {} s.sec.slots k x } }.secRefresh

/-- The span of a slot (R495). -/
def KeySlot.span (x : KeySlot) : Nat := x.epoch - x.oldest

/-- The slot whose realm an LBA lies in: slot 0 binds every LBA of no other realm (R494). -/
def State.slotOf (s : State) (lba : Nat) : Nat :=
  match s.sec.slots.find? (fun e => decide (0 < e.1) && e.2.st != 0 && decide (e.2.first ≤ lba ∧ lba ≤ e.2.last)) with
  | some (k, _) => k
  | none => 0

/-- The slots a range of LBAs touches: those whose realm meets it, and slot 0 for the LBAs of no other realm. -/
def State.slotsOf (s : State) (slba nblk : Nat) : List Nat :=
  if nblk = 0 then []
  else
    let met := s.sec.slots.filter (fun e => decide (0 < e.1) && e.2.st != 0 && decide (e.2.first < slba + nblk ∧ slba ≤ e.2.last))
    let covered := (met.map (fun e => min (e.2.last + 1) (slba + nblk) - max e.2.first slba)).foldl (· + ·) 0
    (if covered < nblk then [0] else []) ++ met.map (·.1)

/-- Every slot of a range is LOADED (R506: EMPTY and PURGING are refused with KEY_ABSENT). -/
def State.keysLoaded (s : State) (slba nblk : Nat) : Bool := (s.slotsOf slba nblk).all (fun k => (s.keySlot k).st == 1)

/-- An epoch advance is allowed (R496). -/
def KeySlot.rollable (x : KeySlot) : Bool := x.st == 1 && decide (x.span ≤ 13) && decide (x.epoch < 0xFFFFF)

/-- A sweep starts when the span reaches SWEEP_SPAN, with the current epoch as its target (R504). -/
def State.sweepCheck (s : State) (k : Nat) : State :=
  let x := s.keySlot k
  if x.st = 1 ∧ x.sweep = 0 ∧ s.rd Reg.SEC_KEY_CFG.SWEEP_SPAN ≤ x.span then s.setKeySlot k { x with sweep := x.epoch + 1 } else s

/-- The slot rolls: current epoch + 1, counters at zero, event 0x0102 (R496). -/
def State.rollSlot (s : State) (k : Nat) : State :=
  let x := s.keySlot k
  let s1 := s.setKeySlot k { x with epoch := x.epoch + 1, usage := 0, warned := false, ctr := [], floor := 0, marks := [] }
  ((s1.bump Reg.SEC_CNT.ROLLS).event 0x38 0x0102 (k + (x.epoch + 1) * 2 ^ 12)).sweepCheck k

/-! ### Invocation counters (R502, R503) -/

/-- J[r]. -/
def KeySlot.j (x : KeySlot) (r : Nat) : Nat := Tbl.get x.floor x.ctr r
/-- The durable mark of J[r]: 256 values ahead of its use. -/
def KeySlot.mark (x : KeySlot) (r : Nat) : Nat := 256 * (Tbl.get 0 x.marks r + 1)

/-- A bound of R503 would be passed by reserving the blocks of a range in slot `k`. -/
def State.keySpent (s : State) (k slba nblk : Nat) : Bool :=
  let x := s.keySlot k
  let mine := ((List.range nblk).map (fun i => slba + i)).filter (fun l => s.slotOf l == k)
  decide (2 ^ s.rd Reg.SEC_KEY_CFG.LIMIT_LOG2 < x.usage + mine.length) || mine.any (fun l => decide (2 ^ 28 ≤ x.j (l % 4096)))

/-- The usage warning of R503, once per epoch. -/
def State.keyWarn (s : State) (k r : Nat) : State :=
  let x := s.keySlot k
  if !x.warned && (decide (7 * 2 ^ s.rd Reg.SEC_KEY_CFG.LIMIT_LOG2 < 8 * x.usage) || decide (7 * 2 ^ 28 < 8 * x.j r)) then
    ((s.setKeySlot k { x with warned := true }).event 0x38 0x0103 k).asyncAll 7 k
  else s

/-- Reserves one counter value of the slot of an LBA: (slot, epoch, J). -/
def State.reserve1 (s : State) (lba : Nat) : (Nat × Nat × Nat) × State :=
  let k := s.slotOf lba
  let x := s.keySlot k
  let r := lba % 4096
  ((k, x.epoch, x.j r),
    (s.setKeySlot k { x with ctr := Tbl.set x.floor x.ctr r (x.j r + 1), usage := x.usage + 1 }).keyWarn k r)

/-- KEY_COUNTER_RESERVE (R503): the counters of all the blocks of a range; the slot rolls first where it must and may, and none
is the answer KEY_EXHAUSTED. -/
def State.reserve (s : State) (slba nblk : Nat) : Option (List (Nat × Nat × Nat) × State) :=
  let spent := (s.slotsOf slba nblk).filter (fun k => s.keySpent k slba nblk)
  if spent.all (fun k => (s.keySlot k).autoRoll && (s.keySlot k).rollable) then
    let s1 := spent.foldl State.rollSlot s
    some ((List.range nblk).foldl (fun (acc : List (Nat × Nat × Nat) × State) i =>
      let r := acc.2.reserve1 (slba + i)
      (acc.1 ++ [r.1], r.2)) ([], s1))
  else none

/-- A reserved counter value lies below its durable mark (R502). -/
def State.belowMark (s : State) (lba : Nat) (iv : Nat × Nat × Nat) : Bool :=
  let x := s.keySlot iv.1
  x.epoch != iv.2.1 || decide (iv.2.2 < x.mark (lba % 4096))

/-- The marks an ADMIN record makes durable: each counter that has reached its mark is given the next (R502). -/
def KeySlot.nextMarks (x : KeySlot) : Tbl Nat :=
  x.ctr.foldl (fun m e => if 256 * (Tbl.get 0 m e.1 + 1) ≤ e.2 then Tbl.set 0 m e.1 (e.2 / 256) else m) x.marks

/-- A slot has a counter at or past its mark. -/
def KeySlot.markDue (x : KeySlot) : Bool := x.ctr.any (fun e => decide (256 * (Tbl.get 0 x.marks e.1 + 1) ≤ e.2))

/-- After a cold start each J[r] resumes at its last durable mark; the values skipped count as used (R502). -/
def KeySlot.resume (x : KeySlot) : KeySlot :=
  let skipped := (x.ctr.map (fun e => x.mark e.1 - e.2)).foldl (· + ·) 0 + (4096 - x.ctr.length) * (256 - x.floor)
  { x with ctr := Tbl.mapAll 256 (fun _ m => 256 * (m + 1)) x.marks, floor := 256, usage := x.usage + skipped, purger := 0,
           sweep := 0, st := if x.st = 2 then 1 else x.st }

/-! ### Sealing and opening (R500, R505) -/

/-- The 96-bit IV: the fixed field, then the invocation counter, big-endian (R500) (DEDUCED: log entry 84). -/
def ivOf (slot epoch j lba : Nat) : BitVec 96 :=
  BitVec.ofNat 96 ((slot * 2 ^ 20 + epoch) * 2 ^ 64 + (j * 4096 + lba % 4096))

/-- IVW: [27:0] J, [31:28] the epoch modulo 16 (R500) (DEDUCED: log entry 84). -/
def ivwOf (epoch j : Nat) : BitVec 32 := BitVec.ofNat 32 (j % 2 ^ 28 + epoch % 16 * 2 ^ 28)

/-- The 16 bytes of additional data, byte 0 in the low bits (R500) (DEDUCED: log entry 84). -/
def aadOf (lba slot : Nat) (ivw : BitVec 32) : BitVec 128 :=
  BitVec.ofNat 128 (lba + ivw.toNat * 2 ^ 64 + slot * 2 ^ 96)

/-- Seals a block under a reserved counter (R500). -/
def State.seal (s : State) (lba : Nat) (iv : Nat × Nat × Nat) (pt : Block) : Sealed :=
  let k := Config.epochKey (s.keySlot iv.1).base iv.1 iv.2.1
  let n := ivOf iv.1 iv.2.1 iv.2.2 lba
  let w := ivwOf iv.2.1 iv.2.2
  let ct := pt ^^^ Config.keyStream k n
  { ct := ct, tag := Config.gcmTag k n (aadOf lba iv.1 w) ct, ivw := w }

/-- The epoch of a slot's range that IVW names (R505). -/
def KeySlot.epochOf (x : KeySlot) (ivw : BitVec 32) : Option Nat :=
  ((List.range 16).map (fun d => x.oldest + d)).find? (fun e => decide (e ≤ x.epoch) && decide (e % 16 = ivw.toNat / 2 ^ 28))

/-- Opens a block: none when its tag fails or no epoch of the range fits (R505, R506). -/
def State.unseal (s : State) (lba : Nat) (b : Sealed) : Option Block :=
  let k := s.slotOf lba
  let x := s.keySlot k
  match x.epochOf b.ivw with
  | none => none
  | some e =>
    let key := Config.epochKey x.base k e
    let n := ivOf k e (b.ivw.toNat % 2 ^ 28) lba
    if Config.gcmTag key n (aadOf lba k b.ivw) b.ct = b.tag then some (b.ct ^^^ Config.keyStream key n) else none

/-- A block completes with AUTH_FAIL: counted and recorded (R506). -/
def State.authFail (s : State) (lba : Nat) : State := (s.bump Reg.SEC_CNT.AUTH_FAIL).event 0x38 0x0105 (lba % 2 ^ 32)

/-- The LBA ranges of a slot's realm: (first, count); slot 0 binds what lies between the others, up to the capacity (R494). -/
def State.realmRanges (s : State) (k : Nat) : List (Nat × Nat) :=
  if k = 0 then
    let r := (s.sec.slots.filter (fun e => decide (0 < e.1) && e.2.st != 0)).map (fun e => (e.2.first, e.2.last))
    let sorted := r.mergeSort (fun a b => decide (a.1 ≤ b.1))
    let g := sorted.foldl (fun (acc : Nat × List (Nat × Nat)) e =>
      (e.2 + 1, if acc.1 < e.1 then acc.2 ++ [(acc.1, e.1 - acc.1)] else acc.2)) (0, [])
    if g.1 < s.ftl.capacity then g.2 ++ [(g.1, s.ftl.capacity - g.1)] else g.2
  else let x := s.keySlot k; [(x.first, x.last + 1 - x.first)]

/-- Two realms overlap, or a range meets a realm of another slot (R494, R498). -/
def State.realmMeets (s : State) (first last : Nat) : Bool :=
  s.sec.slots.any (fun e => decide (0 < e.1) && e.2.st != 0 && decide (e.2.first ≤ last ∧ first ≤ e.2.last))

/-! ### The boot store (R513 to R516) -/

/-- A firmware slot. -/
def State.fwSlot (s : State) (i : Nat) : FwSlot := Tbl.get {} s.bst.fw i

/-- A little-endian field of a block: bytes from an offset. -/
def blockField (b : Block) (off bytes : Nat) : Nat := bitsOf b.toNat (8 * off) (8 * bytes)

/-- Unit 0 of a slot as written; an erased unit reads 0xFF. -/
def FwSlot.head (x : FwSlot) : Block := if x.written.testBit 0 then Tbl.get 0 x.units 0 else BitVec.allOnes 32768

/-- IMAGE_LEN of unit 0. -/
def FwSlot.imageLen (x : FwSlot) : Nat := blockField x.head 0x008 4
/-- VERSION. -/
def FwSlot.version (x : FwSlot) : Nat := blockField x.head 0x00C 4
/-- SV. -/
def FwSlot.sv (x : FwSlot) : Nat := blockField x.head 0x010 1
/-- CTX_MIN, CTX_MAX and CTX_OWN. -/
def FwSlot.ctxMin (x : FwSlot) : Nat := blockField x.head 0x011 1
/-- CTX_MAX. -/
def FwSlot.ctxMax (x : FwSlot) : Nat := blockField x.head 0x012 1
/-- CTX_OWN. -/
def FwSlot.ctxOwn (x : FwSlot) : Nat := blockField x.head 0x013 1

/-- A word of a slot's image at a byte offset that is a multiple of four; erased bytes read 0xFF. -/
def FwSlot.word (x : FwSlot) (o : Nat) : BitVec 32 :=
  if x.written.testBit (o / 4096) then BitVec.ofNat 32 (blockField (Tbl.get 0 x.units (o / 4096)) (o % 4096) 4) else BitVec.allOnes 32
/-- The base Rinbo image of a slot, as words (R302, R513). -/
def FwSlot.base (x : FwSlot) : List (BitVec 32) :=
  (List.range (min 65536 (blockField x.head 0x01C 4) / 4)).map (fun i => x.word (blockField x.head 0x018 4 / 4 * 4 + 4 * i))

/-- The header is well formed (R513). -/
def FwSlot.headerOk (x : FwSlot) : Bool :=
  blockField x.head 0 4 == 0x3157464C && blockField x.head 4 2 == 1 && blockField x.head 6 2 == 256
    && decide (x.imageLen % 4 = 0) && decide (x.imageLen ≤ 12 * 2 ^ 20) && decide (96 ≤ x.imageLen) && decide (x.sv ≤ 63)
    && blockField x.head 0x28 4 + 96 == x.imageLen && decide (x.ctxMin ≤ x.ctxMax)

/-- Units written since the erase. -/
def FwSlot.unitCount (x : FwSlot) : Nat := popCount 3072 x.written

/-- Every unit of the image has been written (R514). -/
def FwSlot.whole (x : FwSlot) : Bool :=
  x.written.testBit 0 && decide (x.imageLen ≤ 12 * 2 ^ 20)
    && (List.range (ceilDiv x.imageLen 4096)).all (fun u => x.written.testBit u)

/-- The state of a slot as BST_SLOT and log page 0x10 report it (R514, R525). -/
def State.fwState (s : State) (i : Nat) : Nat := if s.bst.active = i then 3 else (s.fwSlot i).st

/-- The image passes its check but for its signatures, which `signatureOk` answers (R513) (DEDUCED: log entry 53). -/
def State.fwPasses (s : State) (i : Nat) (signatureOk : Bool) : Bool :=
  let x := s.fwSlot i
  x.whole && x.headerOk && decide (s.bst.fusedSv ≤ x.sv) && signatureOk

/-- BST registers follow the store (R524, R525). -/
def State.bstRefresh (s : State) : State :=
  let s1 := ((s.wr Reg.BST_STATUS.ACTIVE s.bst.active).wr Reg.BST_STATUS.FUSED_SV s.bst.fusedSv).wr
    Reg.BST_STATUS.FAIL_COUNT (min 3 s.bst.failCount)
  let s2 := (s1.wr Reg.BST_STATUS.WRITING (bit (!s.bst.queue.isEmpty))).wr Reg.BST_STATUS.ACTIVATING (bit (s.bst.activator != 0))
  [1, 2].foldl (fun s i =>
    let x := s.fwSlot i
    let k := i - 1
    ((((s.wr Reg.BST_SLOT.STATE (s.fwState i) k).wr Reg.BST_SLOT.CHECK x.check k).wr Reg.BST_SLOT.SV
      (if x.written.testBit 0 then x.sv else 0) k).wr Reg.BST_SLOT.WRITTEN x.unitCount k).wr Reg.BST_SLOT.VERSION
      (if x.written.testBit 0 then x.version else 0) k) s2

/-- Changes a firmware slot. -/
def State.setFw (s : State) (i : Nat) (x : FwSlot) : State :=
  { s with bst := { s.bst with fw := Tbl.set {} s.bst.fw i x } }.bstRefresh

/-- A program or erase of the store starts (R512). -/
def State.storeStart (s : State) (o : StoreOp) : State :=
  { s with bst := { s.bst with queue := s.bst.queue ++ [o] } }.wr Reg.BST_STATUS.WRITING 1

/-- The write of a changed remap table starts at a boundary (R445). -/
def State.storeFrame (s : State) : State :=
  if s.dram.remapDirty then { s with dram := { s.dram with remapDirty := false } }.storeStart .remap else s

/-- The device writes to `SLOT` the units a FW_DOWNLOAD carries (R514). -/
def State.fwProgram (s : State) (i off : Nat) (data : List Block) : State :=
  let x := if off = 0 then {} else s.fwSlot i
  let y := data.foldl (fun (acc : FwSlot × Nat) b =>
    ({ acc.1 with units := Tbl.set 0 acc.1.units acc.2 b, written := setBit acc.1.written acc.2 }, acc.2 + 1)) (x, off)
  let z := y.1
  (s.setFw i { z with st := if z.whole then 2 else 1, check := 0 }).storeStart .image

/-! ### The rows of the boot store -/

/-- BOOT_STORE_WRITE_DONE (R445, R512): the oldest program or erase completes. -/
def execBootStoreWriteDone (s : State) : Host.Outcome State Fault Refusal :=
  match s.bst.queue with
  | [] => ok s
  | o :: t =>
    let s1 := { s with bst := { s.bst with queue := t } }.wr Reg.BST_STATUS.WRITING (bit (!t.isEmpty))
    match o with
    | .remap => ok { s1 with dram := { s1.dram with remapSaved := s1.remapImage } }
    | _ => ok s1

end Sys2Proof.Machine
end

