-- ==== Sys2Proof/Machine/Power.lean ====
section
/-! DEFINITION. Power states, the domain handshake, rails, commits, exits and wakes (R527 to R545), and the gating of domains
(R240). -/

set_option Elab.async false

namespace Sys2Proof.Machine

/-! ### Requests and the target (R528) -/

/-- PWR_STATUS.STATE. -/
def State.pstate (s : State) : Nat := s.rd Reg.PWR_STATUS.STATE
/-- PWR_STATUS.TARGET. -/
def State.ptarget (s : State) : Nat := s.rd Reg.PWR_STATUS.TARGET
/-- PWR_STATUS.PHASE: 0 steady, 1 prepare, 2 ask, 3 quiesce, 4 rails, 5 exit. -/
def State.pphase (s : State) : Nat := s.rd Reg.PWR_STATUS.PHASE

/-- The request of a function: P3 in D3hot, else its last POWER_STATE target (R528). -/
def State.request (s : State) (f : Nat) : Nat := if (s.ep f).d3 then 3 else (s.ep f).target

/-- The power block's state changes. -/
def State.setPwr (s : State) (p : Pwr) : State := { s with pwr := p }

/-! ### Domains (R240, R542, R550) -/

/-- The state of a domain as PWR_DOM_STATE shows it. -/
def State.domState (s : State) (d : Nat) : Nat := bitsOf (s.rd Reg.PWR_DOM_STATE.ALL (d / 16)) (2 * (d % 16)) 2
/-- Changes the state of a domain. -/
def State.setDom (s : State) (d v : Nat) : State :=
  let w := s.rd Reg.PWR_DOM_STATE.ALL (d / 16)
  s.wr Reg.PWR_DOM_STATE.ALL (w - bitsOf w (2 * (d % 16)) 2 * 2 ^ (2 * (d % 16)) + v % 4 * 2 ^ (2 * (d % 16))) (d / 16)

/-- A domain has work: it wakes unless the state holds it off (R240). -/
def State.domWork (s : State) (d : Nat) : State :=
  let s1 := s.setPwr { s.pwr with work := Tbl.set 0 s.pwr.work d s.frame }
  if s.domState d = 1 ∨ s.domState d = 2 then s1.setDom d 0 else s1

/-- The domains a state holds off (R542, R548). -/
def State.heldOff (s : State) (st d : Nat) : Bool :=
  match st with
  | 0 => false
  | 1 => (s.rd Reg.PWR_P1_MASK.OFF (d / 32)).testBit (d % 32)
  | 2 => decide (9 ≤ d ∧ d ≤ 116) || decide (126 ≤ d ∧ d ≤ 148) || d == 157 || d == 158
  | _ => decide (6 ≤ d)

/-- Applies the hold-offs of a state to every domain (R535). -/
def State.applyHolds (s : State) (st : Nat) : State :=
  (List.range 160).foldl (fun s d =>
    if s.heldOff st d then s.setDom d 3 else if s.domState d = 3 then s.setDom d 0 else s) s

/-- The domains that never gate their power on their own (R240). -/
def keepsPower (d : Nat) : Bool := decide (d ≤ 5) || decide (9 ≤ d ∧ d ≤ 72) || decide (117 ≤ d ∧ d ≤ 124)

/-! ### Rails (R539, R540) -/

/-- The voltage of a rail in a state (R539). -/
def State.railTarget (s : State) (st r : Nat) : Nat :=
  match st, r with
  | 2, 0 => 700 | 2, 1 => 800 | 2, _ => 850
  | 3, 0 => 650 | 3, 1 => 750 | 3, _ => 850
  | _, r => s.rd Reg.PWR_AVS.P0_MV r

/-- A voltage write with commit on a rail's port (R540). -/
def State.railWrite (s : State) (r mv : Nat) : State :=
  let first := !s.on Reg.PWR_AVS.BUSY r
  let p := s.pwr
  let s1 := s.setPwr { p with wroteAt := Tbl.set 0 p.wroteAt r s.frame,
                              before := if first then Tbl.set 0 p.before r (s.rd Reg.PWR_AVS.REQ_MV r) else p.before,
                              writes := Tbl.set 0 p.writes r (if first then 1 else Tbl.get 0 p.writes r + 1) }
  ((s1.wr Reg.PWR_AVS.REQ_MV mv r).wr Reg.PWR_AVS.BUSY 1 r).emit (.avsWrite r mv)

/-- Writes the rails of a sequence that may move now: VDD_CORE is lowered before VDD_SRAM and raised after it, VDD_PHY moves in
the first frame (R540). -/
def State.railsGo (s : State) : State :=
  let w := s.pwr.waiting
  let blocked (r : Nat) : Bool :=
    if s.pwr.raising then r == 0 && (w.any (fun e => e.1 == 1) || s.on Reg.PWR_AVS.BUSY 1)
    else r == 1 && (w.any (fun e => e.1 == 0) || s.on Reg.PWR_AVS.BUSY 0)
  let now := w.filter (fun e => !blocked e.1 && !s.on Reg.PWR_AVS.BUSY e.1)
  let s1 := s.setPwr { s.pwr with waiting := w.filter (fun e => !now.any (fun x => x.1 == e.1)) }
  now.foldl (fun s e => s.railWrite e.1 e.2) s1

/-- Starts a sequence that takes the rails to a state's voltages; a rail with FAULT stays where it is on a lowering, and so does
VDD_SRAM when VDD_CORE stays (R540). -/
def State.railsTo (s : State) (st : Nat) (raising : Bool) : State :=
  let stuck (r : Nat) : Bool := !raising && (s.on Reg.PWR_AVS.FAULT r || (r == 1 && s.on Reg.PWR_AVS.FAULT 0))
  let moves := ([0, 1, 2].filter (fun r => !stuck r && s.rd Reg.PWR_AVS.REQ_MV r != s.railTarget st r)).map
    (fun r => (r, s.railTarget st r))
  (s.setPwr { s.pwr with waiting := moves, raising := raising }).railsGo

/-- Every rail of the sequence is acknowledged. -/
def State.railsDone (s : State) : Bool :=
  s.pwr.waiting.isEmpty && [0, 1, 2].all (fun r => !s.on Reg.PWR_AVS.BUSY r) && s.pwr.raiseFailed == 0

/-! ### Wakes, exits and abandonment (R534 to R538, R549) -/

/-- A bit is set in PWR_WAKE. -/
def State.wakeSet (s : State) : Bool :=
  s.on Reg.PWR_WAKE.EI_EXIT || s.on Reg.PWR_WAKE.CLKREQ || s.on Reg.PWR_WAKE.PERST || s.on Reg.PWR_WAKE.TLP_F0
    || s.on Reg.PWR_WAKE.TLP_F1 || s.on Reg.PWR_WAKE.INTERNAL

/-- Begins an exit: the rails are raised, and the state it leads to is the serving state (R536). -/
def State.startExit (s : State) (dst : Nat) : State :=
  ((s.wr Reg.PWR_STATUS.PHASE 5).setPwr { s.pwr with wakeAt := s.frame, exitTo := dst, idle := 0 }).railsTo 0 true

/-- The serving state of the present target (R536). -/
def State.servingState (s : State) : Nat := if s.ptarget ≤ 1 then s.ptarget else 0

/-- A wake source is recognised: it is latched while an entry or an exit runs or the device rests, and a device that rests
begins its exit (R143, R534, R535). -/
def State.latchWake (s : State) (r : Fld) : State :=
  let s1 := s.setPwr { s.pwr with idle := 0 }
  if s.pphase = 0 ∧ s.pstate < 2 then s1
  else
    let s2 := s1.wr r 1
    if s.pphase = 0 then (if s.pwr.sample then s2 else s2.startExit s.servingState) else s2

/-- A TLP received by a function is a wake source (R143). -/
def State.wakeTlp (s : State) (f : Nat) : State := s.latchWake (if f = 0 then Reg.PWR_WAKE.TLP_F0 else Reg.PWR_WAKE.TLP_F1)

/-- ENTRY_ABANDON (R534): at abort point `at_` (0 A1 to 3 A4), for cause 1 wake, 2 refusal, 3 rail failure; the return is an
exit to the state in which the entry began. -/
def State.abandon (s : State) (at_ cause domain : Nat) : State :=
  let s1 := (s.wr Reg.PWR_STATUS.ABORT_AT at_).bump Reg.PWR_CNT.ABANDONED
  let s2 := if cause = 2 then (s1.wr Reg.PWR_STATUS.REFUSED 1).wr Reg.PWR_STATUS.DOMAIN domain
            else if cause = 3 then s1.wr Reg.PWR_STATUS.DOMAIN 0xFF else s1
  let s3 := s2.event 0x02 0x0101 (at_ + (if cause = 2 then domain else 0xFF) * 4 + cause * 2 ^ 10)
  let retry := if cause = 1 then none else some (s3.frame + 10 * s3.rd Reg.PWR_CFG.RETRY)
  (s3.setPwr { s3.pwr with retryAt := retry }).startExit s3.pwr.origin

/-- The entry must stop at its next abort point: a wake is latched, or the target has fallen below the state being entered
(R534, R538). -/
def State.mustAbandon (s : State) : Bool := s.wakeSet || decide (s.ptarget < s.pwr.goal)

/-- An entry begins: the prepare phase (R531). -/
def State.startEntry (s : State) : State :=
  (s.wr Reg.PWR_STATUS.PHASE 1).setPwr
    { s.pwr with goal := s.ptarget, origin := s.pstate, startAt := s.frame, answers := [], retryAt := none }

/-- The device's target is the lowest request among the functions present; a lower target than the present state makes it leave
that state, and P1 is entered from P0 without waiting to be idle (R528, R531, R538). -/
def State.refreshTarget (s : State) : State :=
  let r0 := s.request 0
  let r1 := if s.on Reg.HIF_EP_LINK.PORT_MODE then s.request 1 else 0
  let t := if s.on Reg.HIF_EP_LINK.PORT_MODE then min r0 r1 else r0
  let s1 := ((s.wr Reg.PWR_REQ.F0 r0).wr Reg.PWR_REQ.F1 r1 0 1).wr Reg.PWR_STATUS.TARGET t
  if s1.pphase = 0 then
    if t < s1.pstate then s1.startExit s1.servingState
    else if t = 1 ∧ s1.pstate = 0 then s1.startEntry
    else s1
  else s1

/-- LTR: the latency tolerance of a state, when the function has LTR enabled (R142). -/
def State.sendLtr (s : State) : State :=
  s.fns.foldl (fun s f =>
    if (s.cfgRaw f 0x78).testBit 10 && s.linkUp f then
      s.emit (.ltr f (if s.pstate = 3 then none else if s.pstate = 2 then some 100 else some 2))
    else s) s

/-- The device reaches a state: event 0x0100, the POWER_STATE event and the LTR message (R529, R552). -/
def State.reached (s : State) (st old : Nat) : State :=
  ((((s.wr Reg.PWR_STATUS.STATE st).event 0x02 0x0100 (st + old * 8)).asyncAll 10 st)).sendLtr

/-- Contexts that have passed Fetched (R214, R530). -/
def State.working (s : State) : Bool := !s.ctxs.isEmpty

/-- Brown-out in P2, in P3 or in a transition: every rail is raised, and the exit in progress becomes the raise (R541). -/
def State.powerDrain (s : State) : State :=
  let s1 := if s.pstate < 2 ∧ s.pphase = 0 then s else s.startExit 0
  s1.dramAbandon

/-- The rails allow drain work (R541). -/
def State.drainRails (s : State) : Bool := s.railsDone

/-- The power block's state after a cold reset: P0 with every rail at its boot value; the registers follow their scopes. -/
def Pwr.cold (p : Pwr) : Pwr := { ({} : Pwr) with work := p.work }

/-! ### The rows of entry -/

/-- IDLE_DETECTED (R530, R531): idle for IDLE_WAIT frames with a target of higher number, the device begins the entry. -/
def execIdleDetected (s : State) : Host.Outcome State Fault Refusal :=
  if s.serving && s.pphase == 0 && decide (s.pstate < s.ptarget) && !s.working
      && decide (s.rd Reg.PWR_CFG.IDLE_WAIT ≤ s.pwr.idle) && s.pwr.retryAt.isNone then ok s.startEntry
  else ok s

/-- No NAND phase runs. -/
def State.phasesEnded (s : State) : Bool :=
  s.luns.all (fun e => match e.2.st with
    | .sensing | .busy | .dataOut | .dataIn | .suspending | .resetting => false
    | .idle | .suspended | .failed => true)

/-- The prepare work of a goal is done: nothing for P1; for P2 and P3 the NAND phases that ran have ended; for P3 no dirty data
is held and the checkpoint position equals the present batch (R531). -/
def State.prepared (s : State) : Bool :=
  decide (s.pwr.goal ≤ 1)
    || (!s.working && s.phasesEnded
        && (decide (s.pwr.goal < 3) || (s.dirty == 0 && s.ftl.journal.collecting.isEmpty && s.ftl.journal.flight.isNone
              && s.ftl.journal.dirty.isEmpty)))

/-- PREPARE_END (R531, R533): at A1 the domains are asked, or the entry is abandoned. -/
def execPrepareEnd (s : State) : Host.Outcome State Fault Refusal :=
  if s.serving && s.pphase == 1 then
    if s.mustAbandon then ok (s.abandon 0 1 0xFF)
    else if s.prepared then
      ok ((s.wr Reg.PWR_STATUS.PHASE 2).setPwr { s.pwr with askAt := s.frame, answers := [] })
    else ok s
  else ok s

/-- What a domain answers: 1 ACCEPT, 2 REFUSE, 3 DELAY (R533). -/
def State.domainAnswer (s : State) (d : Nat) : Nat :=
  let late := decide (s.pwr.askAt + 16 ≤ s.frame)
  let delay (busy : Bool) (refuses : Bool) : Nat := if !busy then 1 else if late && refuses then 2 else 3
  if d = 6 ∨ d = 7 then delay s.working true
  else if 9 ≤ d ∧ d ≤ 72 then
    delay ((List.range 32).any (fun l => match (s.lun (d - 9) l).st with
      | .sensing | .busy | .dataOut | .dataIn | .suspending | .resetting => true
      | _ => false)) true
  else if 117 ≤ d ∧ d ≤ 124 then delay (!(s.sc (d - 117)).merge.isEmpty) true
  else if 125 ≤ d ∧ d ≤ 132 then
    if s.live.any (fun e => (e.2.is .fwActivate || e.2.is .ucodeLoad) && decide (e.2.phase ≠ .sent))
        || s.on Reg.UCS_STATUS.SWAP_PENDING || s.pairs.takeover.isSome || s.bst.activator != 0 then 2 else 1
  else if d = 159 then delay (!s.bst.queue.isEmpty) (s.pwr.goal == 3)
  else 1

/-- The ask phase has its answer from every domain that is not held off. -/
def State.allAccepted (s : State) : Bool :=
  (List.range 160).all (fun d => s.domState d == 3 || Tbl.get 0 s.pwr.answers d == 1)

/-- DOMAIN_ANSWER (R533, R534): a domain's answer; a refusal abandons the entry at A2, and the last acceptance ends the ask. -/
def execDomainAnswer (domain : Fin 160) (s : State) : Host.Outcome State Fault Refusal :=
  let d := domain.val
  if s.serving && s.pphase == 2 && s.domState d != 3 && Tbl.get 0 s.pwr.answers d != 1 then
    let a := s.domainAnswer d
    let s1 := s.setPwr { s.pwr with answers := Tbl.set 0 s.pwr.answers d a }
    if a = 2 then ok (s1.abandon 1 2 d)
    else if s1.allAccepted then
      if s1.mustAbandon then ok (s1.abandon 1 1 0xFF) else ok (s1.wr Reg.PWR_STATUS.PHASE 3)
    else ok s1
  else ok s

/-- ASK_TIMEOUT (R533): a domain that has not answered ACCEPT 16 fr after the ask counts as refusing. -/
def execAskTimeout (s : State) : Host.Outcome State Fault Refusal :=
  if s.serving && s.pphase == 2 && decide (s.pwr.askAt + 16 ≤ s.frame) then
    match (List.range 160).find? (fun d => s.domState d != 3 && Tbl.get 0 s.pwr.answers d != 1) with
    | some d => ok (s.abandon 1 2 d)
    | none => ok s
  else ok s

/-- QUIESCE_END (R531, R450, R539, R540): the domains have stopped; clocks are at 400 MHz for P2 and P3, DRAM is in self-refresh
for P3, and the rails phase begins. -/
def execQuiesceEnd (s : State) : Host.Outcome State Fault Refusal :=
  if s.serving && s.pphase == 3 then
    if s.mustAbandon then ok (s.abandon 2 1 0xFF)
    else
      let g := s.pwr.goal
      let s1 := if g < 2 then s else s.setPwr { s.pwr with fullClock := false }
      let s2 := if g = 3 then s1.dramSelfRefresh else s1
      ok ((s2.wr Reg.PWR_STATUS.PHASE 4).railsTo g false)
  else ok s

/-- A reading lies within ±2 % of a requested voltage (R540). -/
def railOk (mv req : Nat) : Bool := decide (100 * mv ≤ 102 * req ∧ 98 * req ≤ 100 * mv)

/-- RAIL_ACK (R540, R448): a voltage read within ±2 % acknowledges the rail, and the next rail of the sequence moves; a change of
VDD_PHY triggers margin checks. -/
def execRailAck (rail : Fin 3) (mv : Nat) (s : State) : Host.Outcome State Fault Refusal :=
  let r := rail.val
  let req := s.rd Reg.PWR_AVS.REQ_MV r
  if s.sup.coreUp && s.on Reg.PWR_AVS.BUSY r && railOk mv req then
    let s1 := (s.wr Reg.PWR_AVS.ACK_MV req r).wr Reg.PWR_AVS.BUSY 0 r
    let s2 := s1.setPwr { s1.pwr with raiseFailed := clearBit s1.pwr.raiseFailed r }
    let s3 := if r = 2 then (List.range 8).foldl (fun s n => if s.rd Reg.DRC_SC.TAG_MV n = req then s else s.marginTrigger n 2) s2
              else s2
    ok s3.railsGo
  else ok s

/-- RAIL_TIMEOUT (R540): 10 fr after its write the rail is written once more; a second timeout is a rail failure: a lowering is
undone and abandoned at A4, a raise is repeated and reported as a failed part. -/
def execRailTimeout (rail : Fin 3) (s : State) : Host.Outcome State Fault Refusal :=
  let r := rail.val
  let req := s.rd Reg.PWR_AVS.REQ_MV r
  if s.sup.coreUp && s.on Reg.PWR_AVS.BUSY r && decide (Tbl.get 0 s.pwr.wroteAt r + 10 ≤ s.frame) then
    if Tbl.get 0 s.pwr.writes r < 2 then ok (s.railWrite r req)
    else
      let up := s.pwr.raising
      let s1 := (s.event 0x02 0x0102 (r + req * 4 + bit up * 2 ^ 14)).wr Reg.PWR_AVS.FAULT 1 r
      let s2 := s1.wr Reg.PWR_AVS.BUSY 0 r
      if up then ok (s2.setPwr { s2.pwr with raiseFailed := setBit s2.pwr.raiseFailed r }).partFail
      else ok ((s2.railWrite r (Tbl.get 0 s2.pwr.before r)).abandon 3 3 0xFF)
  else ok s

/-- RAIL_RAISE_RETRY (R540): a failed raise is requested again every 100 fr. -/
def execRailRaiseRetry (rail : Fin 3) (s : State) : Host.Outcome State Fault Refusal :=
  let r := rail.val
  if s.sup.coreUp && s.pwr.raiseFailed.testBit r && !s.on Reg.PWR_AVS.BUSY r
      && decide (Tbl.get 0 s.pwr.wroteAt r + 100 ≤ s.frame) then ok (s.railWrite r (s.rd Reg.PWR_AVS.REQ_MV r))
  else ok s

/-- POWER_COMMIT (R535, R546, R549): with every rail acknowledged and no wake latched, the target's hold-offs and clock stops
apply and the entry is complete. -/
def execPowerCommit (s : State) : Host.Outcome State Fault Refusal :=
  if s.serving && s.pphase == 4 then
    if s.mustAbandon then ok (s.abandon 3 1 0xFF)
    else if s.railsDone then
      let g := s.pwr.goal
      let s1 := (s.wr Reg.PWR_STATUS.PHASE 0).applyHolds g
      let s2 := (s1.bump Reg.PWR_CNT.ENTRIES).wr Reg.PWR_LAT.ENTRY (min 65535 (s.frame - s.pwr.startAt))
      ok ((s2.setPwr { s2.pwr with sample := true }).reached g s.pstate)
    else ok s
  else ok s

/-- COMMIT_WAKE_SAMPLE (R535): four cycles after the commit PWR_WAKE is sampled; a bit that is set begins the exit at once. -/
def execCommitWakeSample (s : State) : Host.Outcome State Fault Refusal :=
  if s.serving && s.pwr.sample && s.pphase == 0 then
    let s1 := s.setPwr { s.pwr with sample := false }
    if s1.wakeSet then ok (s1.startExit s1.servingState) else ok s1
  else ok s

/-- EXIT_COMPLETE (R536, R537, R549): rails acknowledged, clocks at 800 MHz, domains ungated, DRAM out of self-refresh; work is
admitted, and the wakes are cleared. -/
def execExitComplete (s : State) : Host.Outcome State Fault Refusal :=
  if s.sup.coreUp && s.pphase == 5 && s.railsDone then
    let dst := s.pwr.exitTo
    let old := s.pstate
    let s1 := (s.wr Reg.PWR_STATUS.PHASE 0).setPwr { s.pwr with fullClock := true, sample := false, raising := false }
    let s2 := if s.on Reg.DRC_STATUS.SELF_REFRESH then s1.dramWake else s1
    let s3 := [Reg.PWR_WAKE.EI_EXIT, Reg.PWR_WAKE.CLKREQ, Reg.PWR_WAKE.PERST, Reg.PWR_WAKE.TLP_F0,
      Reg.PWR_WAKE.INTERNAL].foldl (fun s r => s.wr r 0) (s2.wr Reg.PWR_WAKE.TLP_F1 0)
    let s4 := (s3.applyHolds dst).wr Reg.PWR_LAT.EXIT (min 65535 ((s.frame - s.pwr.wakeAt) * 10))
    if old = dst then ok s4.refreshTarget else ok (s4.reached dst old).refreshTarget
  else ok s

/-- ENTRY_RETRY (R533): the retry interval after a refusal or a rail failure has ended, and entry begins again if the target still
calls for it. -/
def execEntryRetry (s : State) : Host.Outcome State Fault Refusal :=
  match s.pwr.retryAt with
  | some t =>
    if s.serving && s.pphase == 0 && decide (t ≤ s.frame) then
      if s.pstate < s.ptarget then ok s.startEntry else ok (s.setPwr { s.pwr with retryAt := none })
    else ok s
  | none => ok s

/-- DOMAIN_CLOCK_GATE (R240): a domain with no work for 2 fr gates its clock (DESIGN CHOICE: log entry 55). -/
def execDomainClockGate (domain : Fin 160) (s : State) : Host.Outcome State Fault Refusal :=
  let d := domain.val
  if s.serving && s.domState d == 0 && decide (Tbl.get 0 s.pwr.work d + 2 ≤ s.frame) then ok (s.setDom d 1) else ok s

/-- DOMAIN_POWER_GATE (R240): a domain with no work for 16 fr gates its power, but for the PCIe, channel and DRAM domains. -/
def execDomainPowerGate (domain : Fin 160) (s : State) : Host.Outcome State Fault Refusal :=
  let d := domain.val
  if s.serving && decide (s.domState d < 2) && !keepsPower d && decide (Tbl.get 0 s.pwr.work d + 16 ≤ s.frame) then
    ok (s.setDom d 2)
  else ok s

/-- CLKREQ_ASSERT (R88, R143): the host asserts CLKREQ#. -/
def execClkreqAssert (fn : Fn) (s : State) : Host.Outcome State Fault Refusal :=
  if s.sup.operating && s.hasFn fn.val then ok (s.latchWake Reg.PWR_WAKE.CLKREQ) else ok s

/-- ELECTRICAL_IDLE_EXIT (R143, R536): a receiver leaves electrical idle; a link in L1 returns to L0. -/
def execElectricalIdleExit (fn : Fn) (s : State) : Host.Outcome State Fault Refusal :=
  let f := fn.val
  if s.sup.operating && s.hasFn f then ok ((s.setEp f { s.ep f with l1 := false }).latchWake Reg.PWR_WAKE.EI_EXIT) else ok s

/-- ASPM_L1_ENTRY (R141, R527): the device enters ASPM L1 on its own only in P2, on a link that is up. -/
def execAspmL1Entry (fn : Fn) (s : State) : Host.Outcome State Fault Refusal :=
  let f := fn.val
  if s.serving && s.hasFn f && s.linkUp f && s.pstate == 2 && s.pphase == 0 then ok (s.setEp f { s.ep f with l1 := true })
  else ok s

end Sys2Proof.Machine
end

