-- ==== Sys2Proof/Machine/Microcode.lean ====
section
/-! DEFINITION. Channel microcode: the Rinbo image, its load checks, the sequencer of a bus phase, and the replacement of the
active image (R280 to R310). -/

set_option Elab.async false

namespace Sys2Proof.Machine

/-! ### The Rinbo image (R298 to R300) -/

/-- An image: little-endian words. -/
abbrev Img := List (BitVec 32)

/-- `w` bits of an image at a byte offset and a bit within that byte's word; a field does not cross a word. -/
def imgBits (g : Img) (byte lo w : Nat) : Nat := bitsOf (g.getD (byte / 4) 0).toNat (8 * (byte % 4) + lo) w
/-- A byte of an image. -/
def imgByte (g : Img) (b : Nat) : Nat := imgBits g b 0 8
/-- A half-word of an image. -/
def imgHalf (g : Img) (b : Nat) : Nat := imgBits g b 0 16
/-- A word of an image. -/
def imgWord (g : Img) (b : Nat) : Nat := imgBits g b 0 32

/-- VERSION. -/
def imgVersion (g : Img) : Nat := imgWord g 0x00C
/-- MICRO_COUNT. -/
def imgMicros (g : Img) : Nat := imgHalf g 0x010
/-- NANO_COUNT. -/
def imgNanos (g : Img) : Nat := imgHalf g 0x012
/-- DIE_COUNT. -/
def imgDies (g : Img) : Nat := imgByte g 0x014
/-- KEY_ID. -/
def imgKey (g : Img) : Nat := imgByte g 0x015

/-- The micro-word at an address; none beyond the count (R298). -/
def microAt (g : Img) (a : Nat) : Option Nat := if a < imgMicros g then some (imgWord g (imgWord g 0x018 + 4 * a)) else none
/-- The nano-word at an address. -/
def nanoAt (g : Img) (a : Nat) : Nat :=
  let o := imgWord g 0x01C + 16 * a
  imgWord g o + imgWord g (o + 4) * 2 ^ 32 + imgWord g (o + 8) * 2 ^ 64 + imgWord g (o + 12) * 2 ^ 96

/-- The byte offset of a field of die description `d`. -/
def dieAt (g : Img) (d off : Nat) : Nat := imgWord g 0x020 + 512 * d + off
/-- PLANES of a description. -/
def diePlanes (g : Img) (d : Nat) : Nat := imgByte g (dieAt g d 0x010)
/-- BLOCKS of a description. -/
def dieBlocks (g : Img) (d : Nat) : Nat := imgHalf g (dieAt g d 0x012)
/-- The pages of a block in a mode. -/
def diePages (g : Img) (d : Nat) (slc : Bool) : Nat := imgHalf g (dieAt g d (if slc then 0x016 else 0x014))
/-- PAGE_KIB. -/
def diePageKib (g : Img) (d : Nat) : Nat := imgByte g (dieAt g d 0x018)
/-- FORMAT_IDX. -/
def dieFormat (g : Img) (d : Nat) : Nat := imgByte g (dieAt g d 0x019)
/-- PP_PAGES. -/
def diePpPages (g : Img) (d : Nat) : Nat := imgByte g (dieAt g d 0x01A)
/-- PP_REACH. -/
def diePpReach (g : Img) (d : Nat) : Nat := imgByte g (dieAt g d 0x01B)
/-- DATA_QUANTUM. -/
def dieQuantum (g : Img) (d : Nat) : Nat := imgByte g (dieAt g d 0x01C)
/-- MAX_RATE. -/
def dieMaxRate (g : Img) (d : Nat) : Nat := imgByte g (dieAt g d 0x01D)
/-- IUs a page holds. -/
def dieSlots (g : Img) (d : Nat) : Nat := diePageKib g d / 16
/-- Codewords of a page. -/
def dieCws (g : Img) (d : Nat) : Nat := diePageKib g d / 4
/-- Pages per plane in one word line of a mode: one in SLC mode. -/
def dieGroup (g : Img) (d : Nat) (slc : Bool) : Nat := if slc then 1 else max 1 (diePpPages g d)

/-- The suspend fields of a kind of operation (R263): supported, maximum, latency in µs, overhead and minimum run in frames. -/
structure SuspInfo where
  supported : Bool
  most : Nat
  latency : Nat
  overhead : Nat
  least : Nat
  deriving DecidableEq, Repr

/-- E_SUSP or P_SUSP of a description. -/
def dieSusp (g : Img) (d : Nat) (erase : Bool) : SuspInfo :=
  let o := dieAt g d (if erase then 0x024 else 0x02C)
  { supported := imgBits g o 0 1 == 1, most := imgByte g (o + 1), latency := imgHalf g (o + 2),
    overhead := imgHalf g (o + 4), least := imgHalf g (o + 6) }

/-- ENTRY e of a description. -/
def dieEntry (g : Img) (d e : Nat) : Nat := imgHalf g (dieAt g d (0x040 + 2 * e))
/-- The micro address of a defined entry. -/
def entryAt (g : Img) (d e : Nat) : Option Nat :=
  if (dieEntry g d e).testBit 12 then some (dieEntry g d e % 4096) else none

/-- A signed half-word. -/
def signed16 (v : Nat) : Int := if v < 32768 then (v : Int) else (v : Int) - 65536
/-- A signed byte. -/
def signed8 (v : Nat) : Int := if v < 128 then (v : Int) else (v : Int) - 256

/-- BANDS and LEVELS of the retry table (R318). -/
def dieBands (g : Img) (d : Nat) : Nat := imgByte g (dieAt g d 0x100)
/-- LEVELS. -/
def dieLevels (g : Img) (d : Nat) : Nat := imgByte g (dieAt g d 0x101)
/-- LIMIT of a band in 0.1 °C. -/
def dieLimit (g : Img) (d b : Nat) : Int := signed16 (imgHalf g (dieAt g d (0x104 + 2 * b)))
/-- VALUE of retry entry `i`. -/
def dieRetryValue (g : Img) (d i : Nat) : Nat := imgWord g (dieAt g d (0x110 + 8 * i))
/-- FADDR of retry entry `i`. -/
def dieRetryAddr (g : Img) (d i : Nat) : Nat := imgByte g (dieAt g d (0x114 + 8 * i))
/-- SOFT_DELTA of retry entry `i`. -/
def dieSoftDelta (g : Img) (d i : Nat) : Int := signed8 (imgByte g (dieAt g d (0x115 + 8 * i)))

/-- A Read ID matches a description (R300). -/
def dieMatches (g : Img) (d id : Nat) : Bool :=
  let o := dieAt g d 0
  let want := imgWord g o + imgWord g (o + 4) * 2 ^ 32
  let mask := imgWord g (o + 8) + imgWord g (o + 12) * 2 ^ 32
  id &&& mask == want &&& mask

/-- The first description a Read ID matches (R300). -/
def imgMatch (g : Img) (id : Nat) : Option Nat := (List.range (imgDies g)).find? (fun d => dieMatches g d id)

/-- The mean charge of a class under a power table, in mW: class 0 is free and class 15 takes the highest entry (R228). -/
def imgDraw (g : Img) (t c : Nat) : Nat :=
  let e (c : Nat) : Nat := imgHalf g (imgWord g 0x024 + 32 * t + 2 * c)
  if c = 0 then 0 else if c = 15 then ((List.range 16).map e).foldl max 0 else e c

/-- The power table of a channel (R299). -/
def imgTable (g : Img) (n : Nat) : Nat := imgBits g (imgWord g 0x024 + 128 + n / 4) (2 * (n % 4)) 2

/-! ### The sequencer (R282 to R295) -/

/-- What a bus phase sees of its operation and its LUN. -/
structure PhaseEnv where
  g : Img
  op : Op
  lun : Nat
  /-- Codewords of the operation. -/
  total : Nat
  /-- Codeword bytes, and the trained rate in MT/s. -/
  cw : Nat
  rate : Nat
  bo : Bool
  deriving DecidableEq, Repr

/-- A bus phase as it runs: its context, the bytes the bus still returns, the codewords still admitted and those moved, the time
since the boundary and the part of it in bursts in 0.25 ns, its PHASE word, and the result bytes. -/
structure Run where
  seq : Seq
  caps : List Nat
  adm : Nat
  moved : Nat := 0
  time : Nat := 0
  burst : Nat := 0
  phaseAt : Nat := 0
  busTime : Nat := 0
  opened : Bool := false
  feats : List Nat := []
  deriving DecidableEq, Repr

/-- How a bus phase ends. -/
inductive Stop where
  | yield (cls len wait cont : Nat)
  | done (outcome : Nat)
  | trap (code addr : Nat)
  | overs
  deriving DecidableEq, Repr

/-- The highest plane of a mask. -/
def topPlane (m : Nat) : Nat := ((List.range 4).filter (fun p => m.testBit p)).foldl max 0
/-- The lowest plane of a mask. -/
def lowPlane (m : Nat) : Nat := ((List.range 4).find? (fun p => m.testBit p)).getD 0
/-- The next plane of a mask above `p`. -/
def nextPlane (m p : Nat) : Nat := ((List.range 4).find? (fun q => decide (p < q) && m.testBit q)).getD p

/-- A condition of R290. -/
def condTrue (e : PhaseEnv) (r : Run) (c : Nat) : Bool :=
  if c = 0 then true
  else if c ≤ 8 then r.seq.latch.testBit (c - 1)
  else if c = 0x09 then r.seq.hit
  else if c = 0x0A then e.op.slc
  else if c = 0x0B then decide (1 < popCount 4 e.op.planes)
  else if c = 0x0C then r.seq.plane == topPlane e.op.planes
  else if c = 0x0D then r.adm == 0
  else if c = 0x0E then decide (e.total ≤ r.seq.cwp)
  else if c = 0x0F then e.op.level != 0
  else if c = 0x10 then r.seq.c0 == 0
  else if c = 0x11 then r.seq.c1 == 0
  else if c = 0x12 then r.seq.c2 == 0
  else if c = 0x13 then r.seq.c3 == 0
  else if c = 0x14 then e.op.resumed
  else if c = 0x15 then e.bo
  else false

/-- A counter Cn. -/
def Seq.ctr (q : Seq) (n : Nat) : Nat := if n = 0 then q.c0 else if n = 1 then q.c1 else if n = 2 then q.c2 else q.c3
/-- Sets a counter Cn. -/
def Seq.setCtr (q : Seq) (n v : Nat) : Seq :=
  if n = 0 then { q with c0 := v } else if n = 1 then { q with c1 := v } else if n = 2 then { q with c2 := v } else { q with c3 := v }

/-- A parameter of R289. -/
def PhaseEnv.param (e : PhaseEnv) (i : Nat) : Nat :=
  if i = 0 then e.op.level else if i = 1 then e.op.faddr else if i = 2 then e.total else if i = 3 then e.op.step else e.lun

/-- SET (R289). -/
def runSet (e : PhaseEnv) (q : Seq) (dest src value : Nat) : Seq :=
  if dest = 5 then { q with plane := nextPlane e.op.planes q.plane, pgo := 0 }
  else
    let old := if dest = 4 then q.pgo else q.ctr dest
    let v := if src = 0 then value else if src = 1 then e.param value else (old + 1) % 4096
    if dest = 4 then { q with pgo := v } else q.setCtr dest v

/-- The time of `bytes` bytes at the trained rate, in 0.25 ns. -/
def burstTime (e : PhaseEnv) (bytes : Nat) : Nat := bytes * 4000 / max 1 e.rate

/-- One nano-word (R291 to R293). -/
def runNano (e : PhaseEnv) (r : Run) (w : Nat) : Run :=
  let dsrc := bitsOf w 40 4
  let r1 := { r with time := r.time + 5 * bitsOf w 0 16 }
  if dsrc = 0x6 ∨ dsrc = 0x9 then
    let b := burstTime e e.cw
    { r1 with time := r1.time + b, burst := r1.burst + b, adm := r1.adm - 1, moved := r1.moved + 1,
              seq := { r1.seq with cwp := r1.seq.cwp + 1 } }
  else if dsrc = 0x7 then
    let b := burstTime e Config.trainBytes
    { r1 with time := r1.time + b, burst := r1.burst + b }
  else if dsrc = 0x8 then
    let c := r1.caps.headD 0 % 256
    { r1 with caps := r1.caps.tail,
              seq := { r1.seq with latch := c, hit := (c &&& bitsOf w 64 8) == bitsOf w 72 8 } }
  else if dsrc = 0xA then { r1 with caps := r1.caps.tail, feats := r1.feats ++ [r1.caps.headD 0 % 256] }
  else if dsrc = 0xB then
    let b := burstTime e Config.trainBytes
    { r1 with time := r1.time + b, burst := r1.burst + b, caps := r1.caps.tail,
              seq := { r1.seq with hit := r1.caps.headD 0 != 0 } }
  else r1

/-- 9,900 ns in 0.25 ns: the bus phases of a frame end by then (R294). -/
def busLimit : Nat := 39600

/-- The nano-words of an EXEC, back to back; a phase is stopped at the end of the nano-word that passes 9,900 ns (R294). -/
def runExec (e : PhaseEnv) : Nat → Nat → Run → Run
  | 0, _, r => r
  | n + 1, a, r => if busLimit < r.time then r else runExec e n (a + 1) (runNano e r (nanoAt e.g a))

/-- Runs micro-words from an address. Every word costs at least one tick, so a phase that has not ended after 7,921 words runs
past 9,900 ns. -/
def runPhase (e : PhaseEnv) : Nat → Nat → Run → Run × Stop
  | 0, _, r => (r, .overs)
  | n + 1, a, r =>
    if busLimit < r.time then (r, .overs)
    else
      match microAt e.g a with
      | none => (r, .trap 0 a)
      | some w =>
        let op := bitsOf w 29 3
        let next := bitsOf w 17 12
        let t := { r with time := r.time + 5 }
        if op = 0 then runPhase e n next (runExec e (bitsOf w 10 5 + 1) (bitsOf w 0 10) r)
        else if op = 1 then runPhase e n (if condTrue e t (bitsOf w 12 5) then next else bitsOf w 0 12) t
        else if op = 2 then
          let c := bitsOf w 15 2
          let v := t.seq.ctr c - 1
          runPhase e n (if v = 0 then bitsOf w 0 12 else next) { t with seq := t.seq.setCtr c v }
        else if op = 3 then runPhase e n next { t with seq := runSet e t.seq (bitsOf w 14 3) (bitsOf w 12 2) (bitsOf w 0 12) }
        else if op = 4 then runPhase e n next { t with phaseAt := a, busTime := bitsOf w 4 12, opened := true }
        else if op = 5 then (t, .yield (bitsOf w 0 4) (bitsOf w 4 11) (bitsOf w 15 2) (bitsOf w 17 5))
        else if op = 6 then (t, .done (bitsOf w 0 2))
        else (t, .trap (bitsOf w 0 8) a)

/-- The words of the longest phase (R294). -/
def phaseFuel : Nat := 7921

/-! ### Phase structure and summaries (R282, R283) -/

/-- The words that may follow a word. -/
def microNext (w : Nat) : List Nat :=
  let next := bitsOf w 17 12
  match bitsOf w 29 3 with
  | 1 => [next, bitsOf w 0 12]
  | 2 => [next, bitsOf w 0 12]
  | 0 | 3 | 4 => [next]
  | _ => []

/-- Words reachable from a list of (address, PHASE passed) pairs: a PHASE word marks what follows it. -/
def reach (g : Img) : Nat → List (Nat × Bool) → List (Nat × Bool) → List (Nat × Bool)
  | 0, _, seen => seen
  | _, [], seen => seen
  | n + 1, (a, p) :: todo, seen =>
    if seen.contains (a, p) then reach g n todo seen
    else
      let w := (microAt g a).getD 0
      let q := p || bitsOf w 29 3 == 4
      reach g n ((microNext w).map (fun b => (b, q)) ++ todo) ((a, p) :: seen)

/-- Words reachable from an address. -/
def reachFrom (g : Img) (a : Nat) (p : Bool) : List (Nat × Bool) := reach g (6 * imgMicros g + 8) [(a, p)] []

/-- A terminal word: YIELD, END or TRAP. -/
def terminal (w : Nat) : Bool := decide (5 ≤ bitsOf w 29 3)

/-- The YIELD words reachable from an address. -/
def yieldsFrom (g : Img) (a : Nat) : List Nat :=
  ((reachFrom g a true).map (fun e => (microAt g e.1).getD 0)).filter (fun w => bitsOf w 29 3 == 5)

/-- Static conditions (R290). -/
def staticCond (c : Nat) : Bool := c == 0 || c == 0x0A || c == 0x0B || c == 0x0F

/-- The PHASE word an operation's entry leads to, found by its static branches (R283), with the words passed. -/
def findPhase (e : PhaseEnv) : Nat → Nat → Run → Option Nat
  | 0, _, _ => none
  | n + 1, a, r =>
    match microAt e.g a with
    | none => none
    | some w =>
      if bitsOf w 29 3 = 4 then some a
      else if bitsOf w 29 3 = 1 then findPhase e n (if condTrue e r (bitsOf w 12 5) then bitsOf w 17 12 else bitsOf w 0 12) r
      else findPhase e n (bitsOf w 17 12) r

/-- The phase summary (R283): BUS_TIME, the class of the bus phase, and the largest LEN and the highest draw of its YIELDs. -/
def phaseSummary (g : Img) (table phase : Nat) : Nat × Nat × Nat × Nat :=
  let w := (microAt g phase).getD 0
  let ys := yieldsFrom g (bitsOf w 17 12)
  (bitsOf w 4 12, bitsOf w 0 4, (ys.map (fun y => bitsOf y 4 11)).foldl max 0,
    (ys.map (fun y => imgDraw g table (bitsOf y 0 4))).foldl max 0)

/-! ### Load checks (R303) -/

/-- INVALID_FIELD, SEQUENCE_ERROR and SIGNATURE_FAIL as R167 numbers them. -/
def stInvalidField : Nat := 0x0002
def stSequence : Nat := 0x0007
def stSignature : Nat := 0x0025

/-- The sections of an image as (offset, bytes), in words of the header. -/
def imgSections (g : Img) : List (Nat × Nat) :=
  [(0, 256), (imgWord g 0x018, 4 * imgMicros g), (imgWord g 0x01C, 16 * imgNanos g), (imgWord g 0x020, 512 * imgDies g),
   (imgWord g 0x024, 144), (imgWord g 0x028, 96)]

/-- The first field of the header that breaks R298, by byte offset. -/
def headerBad (g : Img) (len : Nat) : Option Nat :=
  let secs := imgSections g
  let overlaps := secs.zipIdx.any (fun a => secs.zipIdx.any (fun b =>
    decide (a.2 < b.2) && decide (a.1.1 < b.1.1 + b.1.2 ∧ b.1.1 < a.1.1 + a.1.2)))
  if imgWord g 0 ≠ 0x4F424E52 then some 0x000
  else if imgHalf g 4 ≠ 1 then some 0x004
  else if imgHalf g 6 ≠ 256 then some 0x006
  else if imgWord g 8 ≠ len ∨ 65536 < len then some 0x008
  else if imgMicros g = 0 ∨ 4096 < imgMicros g then some 0x010
  else if imgNanos g = 0 ∨ 1024 < imgNanos g then some 0x012
  else if imgDies g = 0 ∨ 8 < imgDies g then some 0x014
  else if 1 < imgKey g then some 0x015
  else if imgWord g 0x028 + 96 ≠ len then some 0x028
  else if overlaps ∨ secs.any (fun e => decide (e.1 % 16 ≠ 0 ∨ len < e.1 + e.2)) then some 0x018
  else none

/-- A micro-word breaks R288 to R290. -/
def microBad (g : Img) (w : Nat) : Bool :=
  let m := imgMicros g
  let next := bitsOf w 17 12
  let alt := bitsOf w 0 12
  match bitsOf w 29 3 with
  | 0 => bitsOf w 15 2 != 0 || decide (m ≤ next) || decide (imgNanos g ≤ bitsOf w 0 10 + bitsOf w 10 5)
  | 1 => decide (0x15 < bitsOf w 12 5) || decide (m ≤ next) || decide (m ≤ alt)
  | 2 => bitsOf w 12 3 != 0 || decide (m ≤ next) || decide (m ≤ alt)
  | 3 => decide (5 < bitsOf w 14 3) || bitsOf w 12 2 == 3 || decide (m ≤ next)
      || (bitsOf w 12 2 == 1 && decide (4 < alt)) || (bitsOf w 14 3 == 5 && (bitsOf w 12 2 != 2 || alt != 0))
  | 4 => bitsOf w 16 1 != 0 || decide (m ≤ next)
  | 5 => bitsOf w 22 7 != 0
  | 6 => bitsOf w 2 15 != 0 || next != 0 || bitsOf w 0 2 == 3
  | _ => bitsOf w 8 9 != 0 || next != 0

/-- A nano-word breaks R291 or R292. -/
def nanoBad (w : Nat) : Bool :=
  let fall := bitsOf w 16 8
  let rise := bitsOf w 24 8
  let dsrc := bitsOf w 40 4
  bitsOf w 0 16 == 0 || !((fall == 0 && rise == 0) || decide (fall < rise ∧ rise ≤ bitsOf w 0 16))
    || decide (0xB < dsrc) || bitsOf w 48 2 == 3 || bitsOf w 52 2 == 3 || bitsOf w 54 2 == 3
    || ((dsrc == 6 || dsrc == 7) && bitsOf w 54 2 != 2) || ((dsrc == 9 || dsrc == 0xB) && bitsOf w 52 2 != 2)
    || bitsOf w 47 1 != 0 || bitsOf w 57 7 != 0 || bitsOf w 80 48 != 0

/-- A YIELD breaks R284, R297 or the load rules; `resume` allows LEN 0. -/
def yieldBad (g : Img) (d : Nat) (resume : Bool) (w : Nat) : Bool :=
  let len := bitsOf w 4 11
  let wait := bitsOf w 15 2
  let e := dieEntry g d (bitsOf w 17 5)
  !(e.testBit 12 && e.testBit 13)
    || (if wait = 2 then bitsOf w 0 4 != 0 || len != 0
        else decide (1024 < len) || (len == 0 && !(resume && wait != 3)))

/-- The walk from an entry of a description breaks R282 or a load rule. -/
def entryBad (g : Img) (d e a : Nat) : Bool :=
  let nodes := reachFrom g a false
  nodes.any (fun x =>
    let w := (microAt g x.1).getD 0
    let op := bitsOf w 29 3
    if x.2 then op == 4 || (op == 5 && yieldBad g d (e == 0x0A || e == 0x0C) w) || (op == 6 && bitsOf w 0 2 == 2 && e != 1)
        || !(reachFrom g x.1 true).any (fun y => terminal ((microAt g y.1).getD 0))
    else !(op == 3 || (op == 1 && staticCond (bitsOf w 12 5)) || (op == 4 && decide (bitsOf w 4 12 ≤ 990)))
        || !(reachFrom g x.1 false).any (fun y => y.2))

/-- The entries a description must define (R286). -/
def requiredEntries (g : Img) (d : Nat) : List Nat :=
  [0, 1, 2, 3, 4, 5, 6, 7, 8, 0x0D, 0x0E, 0x0F, 0x10, 0x11, 0x12, 0x13, 0x14, 0x15]
  ++ (if (dieSusp g d true).supported then [9, 0xA] else []) ++ (if (dieSusp g d false).supported then [0xB, 0xC] else [])

/-- A description breaks R286, R300 or R318. -/
def dieBad (g : Img) (d : Nat) : Bool :=
  let limits := (List.range (dieBands g d - 1)).map (dieLimit g d)
  (requiredEntries g d).any (fun e => (entryAt g d e).isNone)
    || diePlanes g d == 0 || decide (4 < diePlanes g d) || !(imgByte g (dieAt g d 0x011) == 3 || imgByte g (dieAt g d 0x011) == 4)
    || decide (8192 < dieBlocks g d) || decide (4096 < diePages g d false) || decide (4096 < diePages g d true)
    || !([16, 32, 48, 64].contains (diePageKib g d)) || decide (5 < dieFormat g d)
    || !(imgByte g (dieAt g d 0x022) == 3 || imgByte g (dieAt g d 0x022) == 4)
    || decide (8 * imgByte g (dieAt g d 0x022) < imgByte g (dieAt g d 0x01E) + imgByte g (dieAt g d 0x01F)
        + imgByte g (dieAt g d 0x020) + imgByte g (dieAt g d 0x021))
    || dieBands g d == 0 || decide (4 < dieBands g d) || dieLevels g d == 0 || decide (30 < dieLevels g d)
    || decide (30 < dieBands g d * dieLevels g d) || (limits.zip limits.tail).any (fun p => decide (p.2 ≤ p.1))

/-- The new image keeps what the LUN's present description fixes (R303, last row). -/
def dieKeeps (old new : Img) (d e : Nat) : Bool :=
  [0x010, 0x018, 0x019, 0x01A, 0x01B, 0x01E, 0x01F, 0x020, 0x021, 0x022, 0x023].all (fun o =>
      imgByte old (dieAt old d o) == imgByte new (dieAt new e o))
    && [0x012, 0x014, 0x016].all (fun o => imgHalf old (dieAt old d o) == imgHalf new (dieAt new e o))
    && (List.range 32).all (fun i => !((dieEntry old d i).testBit 12 && (dieEntry old d i).testBit 13)
        || ((dieEntry new e i).testBit 12 && (dieEntry new e i).testBit 13))

/-- The byte offset of the first micro-word, nano-word, entry or description of an image that breaks R303. -/
def wordsBad (g : Img) : Option Nat :=
  match (List.range (imgMicros g)).find? (fun a => microBad g ((microAt g a).getD 0)) with
  | some a => some (imgWord g 0x018 + 4 * a)
  | none =>
    match (List.range (imgNanos g)).find? (fun a => nanoBad (nanoAt g a)) with
    | some a => some (imgWord g 0x01C + 16 * a)
    | none =>
      let entries := (List.range (imgDies g)).flatMap (fun d => (List.range 32).map (fun e => (d, e)))
      match entries.find? (fun x => match entryAt g x.1 x.2 with
          | some a => decide (imgMicros g ≤ a) || entryBad g x.1 x.2 a
          | none => false) with
      | some x => some (dieAt g x.1 (0x040 + 2 * x.2))
      | none => ((List.range (imgDies g)).find? (dieBad g)).map (fun d => dieAt g d 0)

/-- Every LUN in service, by Read ID and present description, matches a description of the new image that keeps what it must (the last check
of R303). -/
def State.imgFits (s : State) (g : Img) (ids : List (Nat × Nat)) : Bool :=
  ids.all (fun x => match imgMatch g x.1 with
    | some e => dieKeeps s.ucode.active g x.2 e
    | none => false)

/-- The Read ID and present description of every LUN in service: neither failed nor set aside for raw use (R303). -/
def State.lunIds (s : State) : List (Nat × Nat) :=
  (s.luns.filter (fun e => s.lunPopulated (e.1 / 32) (e.1 % 32) && s.chanReady (e.1 / 32) && !s.lunFailed (e.1 / 32) (e.1 % 32)
    && !s.lunRaw (e.1 / 32) (e.1 % 32))).map (fun e => (e.2.id, e.2.die))

/-- The checks of R303 in order; `ids` gives the Read ID of every LUN in service with its present description. The failure status
and the byte offset of the offending item. -/
def ucodeCheck (s : State) (g : Img) (len : Nat) (signatureOk : Bool) (ids : List (Nat × Nat)) : Option (Nat × Nat) :=
  if s.on Reg.UCS_CTRL.LOCK then some (stSequence, 0)
  else match headerBad g len with
    | some o => some (stInvalidField, o)
    | none =>
      if !signatureOk then some (stSignature, imgWord g 0x028)
      else if imgVersion g < imgVersion s.ucode.active then some (stSequence, 0x00C)
      else match wordsBad g with
        | some o => some (stInvalidField, o)
        | none => if s.imgFits g ids then none else some (stSequence, imgWord g 0x020)

/-! ### The active image (R302, R305 to R308) -/

/-- The power tables of an image enter FRM_PCLASS and FRM_CHAN_TBL (R299, R305). -/
def State.loadTables (s : State) (g : Img) : State :=
  let cell (t c : Nat) : Nat := imgHalf g (imgWord g 0x024 + 32 * t + 2 * c)
  let s1 := (List.range 4).foldl (fun s t => (List.range 8).foldl (fun s j =>
    (s.wr Reg.FRM_PCLASS.LO (cell t (2 * j)) (8 * t + j)).wr Reg.FRM_PCLASS.HI (cell t (2 * j + 1)) (8 * t + j)) s) s
  (List.range 4).foldl (fun s i => s.wr Reg.FRM_CHAN_TBL.ALL
    (((List.range 16).map (fun m => imgTable g (16 * i + m) * 4 ^ m)).foldl (· + ·) 0) i) s1

/-- UCS_STATUS and UCS_VERSION follow the active image; `src` is 0 base, 1 slot A, 2 slot B (R307). -/
def State.ucodeShow (s : State) (g : Img) (src : Nat) : State :=
  (((s.wr Reg.UCS_STATUS.SOURCE src).wr Reg.UCS_STATUS.DIE_COUNT (imgDies g)).wr Reg.UCS_STATUS.KEY_ID (imgKey g)).wr
    Reg.UCS_VERSION.VERSION (imgVersion g)

/-- An image becomes active at a cold start (R302): event 0x0100. -/
def State.ucodeActivate (s : State) (g : Img) (src : Nat) : State :=
  ((({ s with ucode := { s.ucode with active := g } }).loadTables g).ucodeShow g src).event 0x24 0x0100 (imgVersion g)

/-- The image of a customer slot. -/
def Ucode.slot (u : Ucode) (k : Nat) : Img := if k = 1 then u.slotA else u.slotB

/-- The choice of the active image at a cold start (R302): the active customer slot if its signature passes, else the other,
else the base image. -/
def State.ucodeStart (s : State) (okA okB : Bool) : State :=
  let u := s.ucode
  let ok_ (k : Nat) : Bool := !(u.slot k).isEmpty && (if k = 1 then okA else okB)
  if u.record = 0 then s.ucodeActivate u.base 0
  else if ok_ u.record then s.ucodeActivate (u.slot u.record) u.record
  else
    let s1 := s.event 0x24 0x0104 u.record
    let o := 3 - u.record
    if ok_ o then s1.ucodeActivate (u.slot o) o else s1.ucodeActivate u.base 0

/-- The swap of a committed UCODE_LOAD is set for the boundary after next (R305, step 1). -/
def State.swapSet (s : State) (g : Img) (src ctx : Nat) : State :=
  { s.wr Reg.UCS_STATUS.SWAP_PENDING 1 with
    ucode := { s.ucode with next := g, nextFrom := src, swapAt := s.frame + 2, swapped := false, loader := ctx + 1 } }

/-- No bus phase is admitted for frame `f`: it is the swap frame (R305). -/
def State.swapFrame (s : State) (f : Nat) : Bool := s.on Reg.UCS_STATUS.SWAP_PENDING && s.ucode.swapAt == f

/-- UCODE_STORE_SWAP (R305, R306, R310): at boundary S the new image is written into the control store; a brown-out recognised
before it leaves the old image in place until the next cold start. -/
def execUcodeStoreSwap (s : State) : Host.Outcome State Fault Refusal :=
  if s.sup.coreUp && s.on Reg.UCS_STATUS.SWAP_PENDING && decide (s.ucode.swapAt ≤ s.frame) && !s.ucode.swapped then
    if s.serving then
      let g := s.ucode.next
      let luns := Tbl.mapAll {} (fun _ u => { u with die := (imgMatch g u.id).getD u.die }) s.luns
      let s1 := { s with ucode := { s.ucode with active := g, swapped := true }, luns := luns }
      ok (((s1.ucodeShow g s.ucode.nextFrom).bump Reg.UCS_CNT.SWAPS).event 0x24 0x0100 (imgVersion g))
    else ok s
  else ok s

end Sys2Proof.Machine
end

