-- ==== Sys2Proof/Machine/Buffer.lean ====
section
/-! DEFINITION. Ordering and the write buffer: dependencies, versions, publication, refusal and adoption, snapshots
(R190 to R212, R356). -/

set_option Elab.async false

namespace Sys2Proof.Machine

/-! ### The journal batch (R207, R345) -/

/-- Adds a record to the batch that the next boundary writes. -/
def State.record (s : State) (r : Rec) : State :=
  { s with ftl := { s.ftl with journal := { s.ftl.journal with collecting := s.ftl.journal.collecting ++ [r] } } }

/-- The records of the batch that is written and not yet durable. -/
def State.inFlight (s : State) : List Rec := match s.ftl.journal.flight with | some (_, l) => l | none => []

/-! ### Context ends -/

/-- The command ends with a status and has no commit: its completion is to be written (R194, R195). -/
def State.endCtx (s : State) (c status : Nat) : State := s.setCtx c { s.ctx c with phase := .finished, status := status }

/-- The command ends with success and a RESULT. -/
def State.endOk (s : State) (c : Nat) (result : Nat := 0) : State :=
  s.setCtx c { s.ctx c with phase := .finished, status := 0, result := result }

/-! ### OSNs (R190) -/

/-- Assigns the next OSN to a context; the durable mark is raised ahead of it. -/
def State.assignOsn (s : State) : Nat × State :=
  let o := s.ftl.osn + 1
  let s1 := { s with ftl := { s.ftl with osn := o } }
  (o, if s.ftl.mark ≤ o + 2 ^ 19 then
        let s2 := { s1 with ftl := { s1.ftl with mark := o + 2 ^ 20 } }
        s2.record (.admin (.osnMark (o + 2 ^ 20)) 0)
      else s1)

/-! ### Dependencies (R192) -/

/-- A write is past its decision: committed, refused or released. -/
def Ctx.decided (x : Ctx) : Bool :=
  match x.phase with
  | .committed | .finished | .sent | .free => true
  | _ => false

/-- A completion entry has been written for the command. -/
def Ctx.written (x : Ctx) : Bool :=
  match x.phase with
  | .sent | .free => true
  | _ => false

/-- A read has taken its snapshot, or ended. -/
def Ctx.snapped (x : Ctx) : Bool := decide (x.phase ≠ .ordered)

/-- Two commands came from one ring. -/
def Ctx.sameRing (x y : Ctx) : Bool := x.fn == y.fn && x.ring == y.ring

/-- The contexts with a lower OSN. -/
def State.earlier (s : State) (x : Ctx) : List Ctx := (s.live.map (·.2)).filter (fun y => y.osn != 0 && decide (y.osn < x.osn))

/-- R192 allows the commit of a write; `batch` holds the OSNs committed earlier in the same batch (R207). -/
def State.mayCommit (s : State) (x : Ctx) (batch : List Nat) : Bool :=
  (s.earlier x).all (fun y =>
    if y.isWrite then !x.overlaps y || y.decided || batch.contains y.osn
    else if y.isRead then !(x.sameRing y && x.overlaps y) || y.snapped
    else !(x.sameRing y) || y.written)

/-- R192 allows the snapshot of a read. -/
def State.maySnap (s : State) (x : Ctx) : Bool :=
  (s.earlier x).all (fun y => !(y.isWrite && x.sameRing y && x.overlaps y) || y.decided)

/-- R211: the completion entry is written for every write of the FLUSH's ring with a lower OSN. -/
def State.mayFlush (s : State) (x : Ctx) : Bool := (s.earlier x).all (fun y => !(y.isWrite && x.sameRing y) || y.written)

/-! ### Versions (R196, R197, R199) -/

/-- The versions of an IU, oldest first. -/
def State.stack (s : State) (iu : Nat) : List Version := s.ftl.versions.filter (fun v => v.iu == iu && decide (v.st ≠ .landing))

/-- Changes every version. -/
def State.mapVersions (s : State) (f : Version → Version) : State :=
  { s with ftl := { s.ftl with versions := s.ftl.versions.map f } }

/-- Keeps the versions that pass a test. -/
def State.keepVersions (s : State) (p : Version → Bool) : State :=
  { s with ftl := { s.ftl with versions := s.ftl.versions.filter p } }

/-- A version is Committed or Adopted. -/
def Version.settled (v : Version) : Bool :=
  match v.st with
  | .committed | .adopted => true
  | _ => false

/-- The sub-channels in service, in ascending order. -/
def State.scsUp (s : State) : List Nat := (List.range 8).filter s.scUp

/-- The pair of sub-channels a version is placed on (R196): by span in Pour with all eight healthy, the Bloom pair in Bloom, any two
healthy ones in rotation otherwise. -/
def State.mirrorPair (s : State) (iu : Nat) : Nat × Nat :=
  let up := s.scsUp
  if s.boot.stage ≠ .pour then (match s.dram.pair with | a :: b :: _ => (a, b) | _ => (0, 1))
  else if up.length = 8 then (2 * (spanOfIu iu % 4), 2 * (spanOfIu iu % 4) + 1)
  else if up.length < 2 then (up.headD 0, up.headD 0)
  else
    let a := s.ftl.rotor % up.length
    (up.getD a 0, up.getD ((a + 1) % up.length) 0)

/-- Allocates the versions of a command at Landing (R194): one per IU, with mask and data. -/
def State.allocate (s : State) (osn : Nat) (ius : List (Nat × Nat × List (Nat × Stored))) : State :=
  ius.foldl (fun s u =>
    let pr := s.mirrorPair u.1
    let v : Version := { osn := osn, iu := u.1, mask := u.2.1, st := .landing, data := u.2.2, mirrored := 0, clean := false,
                         scA := pr.1, scB := pr.2, folded := none, ackP := 0, ackQ := 0, placed := false, used := s.frame }
    { s with ftl := { s.ftl with versions := s.ftl.versions ++ [v], rotor := s.ftl.rotor + 1 } }) s

/-- Bytes a command will hold dirty: its blocks, or the blocks of its end versions (R194, R199, R356). -/
def Ctx.bytes (x : Ctx) : Nat :=
  if x.is .write then 4096 * x.nblk
  else ((endIus x.slba x.nblk).map (fun i => 4096 * popCount 4 (iuMask x.slba x.nblk i))).foldl (· + ·) 0

/-- The command's bytes fit under the ceiling, and R68 lets writes complete (R194); under a failed measurement a write is admitted
one at a time, since it completes only once it is programmed (R37). -/
def State.admits (s : State) (x : Ctx) : Bool :=
  match s.writeMode with
  | .normal =>
    if s.stopping then decide (s.dirty + x.bytes ≤ s.ceilingNow.1 * 2 ^ 20) && !s.ftl.journal.full
    else decide (s.dirty + x.bytes ≤ s.ceilingBytes) && !s.ftl.excess && !s.ftl.journal.full
  | .zeroCeiling => !s.ftl.journal.full
  | .held | .readOnly => false

/-! ### Refusal and adoption (R210) -/

/-- The versions and the range entry of an uncommitted command end: published ones are adopted, the others discarded. -/
def State.adopt (s : State) (osn : Nat) : State :=
  let s1 := s.keepVersions (fun v => v.osn != osn || decide (v.st ≠ .landing))
  let s2 := s1.mapVersions (fun v => if v.osn = osn ∧ v.st = .staged then { v with st := .adopted } else v)
  let dropped := s2.ftl.ranges.zipIdx.filter (fun e => e.1.osn == osn && decide (e.1.st = .landing))
  let s3 := dropped.foldl (fun s e => s.thiRangeDrop e.2) s2
  { s3 with ftl := { s3.ftl with ranges := s3.ftl.ranges.map (fun r =>
      if r.osn = osn then (match r.st with
        | .landing => { r with count := 0, osn := 0 }
        | .published => { r with st := .adopted }
        | _ => r)
      else r) } }

/-- An uncommitted write is refused with a status (R194, R210). -/
def State.refuse (s : State) (c status : Nat) : State := (s.adopt (s.ctx c).osn).endCtx c status

/-- The write is uncommitted and past its checks. -/
def Ctx.uncommitted (x : Ctx) : Bool :=
  x.isWrite && (match x.phase with
    | .ordered | .landing | .published => true
    | _ => false)

/-! ### The map (R342) -/

/-- The map entry of an IU. -/
def State.entry (s : State) (iu : Nat) : MapEnt := Tbl.get .unmapped s.ftl.map iu

/-- Changes the VALID count of the block of a media address by one. -/
def State.countValid (s : State) (a : Nat) (up : Bool) : State :=
  let b := s.blk a
  s.setBlk a { b with valid := if up then b.valid + 1 else b.valid - 1 }

/-- Sets a map entry and keeps the VALID counts of the blocks it leaves and enters (R353); the map page becomes dirty (R348). -/
def State.setMap (s : State) (iu : Nat) (e : MapEnt) : State :=
  let s1 := match s.entry iu with | .media a => s.countValid a false | _ => s
  let s2 := match e with | .media a => s1.countValid a true | _ => s1
  let j := s2.ftl.journal
  let page := iu / 819
  let d := if Tbl.get 0 j.dirty page = 0 then Tbl.set 0 j.dirty page j.batch else j.dirty
  { s2 with ftl := { s2.ftl with map := Tbl.set .unmapped s2.ftl.map iu e, journal := { j with dirty := d } } }

/-- The map entry as a 40-bit number (R342). -/
def MapEnt.code : MapEnt → Nat
  | .unmapped => 0xFFFFFFFFFF
  | .zeroed => 0xFFFFFFFFFE
  | .media a => a

/-- The entry of a 40-bit number. -/
def entOf (n : Nat) : MapEnt := if n = 0xFFFFFFFFFF then .unmapped else if n = 0xFFFFFFFFFE then .zeroed else .media n

/-! ### The snapshot (R204, R205) -/

/-- The committed or adopted range entries that cover an IU below an OSN. -/
def State.rangeOver (s : State) (iu osn : Nat) : Option RangeEnt :=
  (s.ftl.ranges.filter (fun r => decide (r.osn < osn ∧ r.firstIu ≤ iu ∧ iu < r.firstIu + r.count)
    && (match r.st with
      | .committed | .adopted => true
      | _ => false))).foldl
    (fun b r => match b with
      | some x => if x.osn < r.osn then some r else b
      | none => some r) none

/-- The version a snapshot takes a block from: the settled one with the highest OSN below the read's own. -/
def State.versionFor (s : State) (iu b osn : Nat) : Option Version :=
  ((s.stack iu).filter (fun v => v.settled && v.mask.testBit b && decide (v.osn < osn))).foldl
    (fun w v => match w with
      | some x => if x.osn < v.osn then some v else w
      | none => some v) none

/-- The source of a block for a read with an OSN (R205, R356). -/
def State.sourceOf (s : State) (lba osn : Nat) : Source :=
  let iu := iuOf lba
  let r := s.rangeOver iu osn
  let fromRange (r : RangeEnt) : Source := .zero (!r.zeroes)
  match s.versionFor iu (lba % 4) osn, r with
  | some v, some r => if r.osn < v.osn then .version v.osn else fromRange r
  | some v, none => .version v.osn
  | none, some r => fromRange r
  | none, none =>
    match s.entry iu with
    | .media a => .media a
    | .zeroed => .zero false
    | .unmapped => .zero true

/-- A version held by a read's snapshot is referenced (R195). -/
def State.referenced (s : State) (v : Version) : Bool :=
  s.live.any (fun e => e.2.isRead && decide (e.2.phase = .snapshot ∨ e.2.phase = .moving)
    && e.2.snap.any (fun x => decide (x = .version v.osn)) && rangesMeet e.2.slba e.2.nblk (4 * v.iu) 4)

/-- Drops the clean versions that no read refers to. -/
def State.sweepVersions (s : State) : State := s.keepVersions (fun v => !v.clean || s.referenced v)

/-! ### Publication and commitment of a batch (R194, R207) -/

/-- Every block of the command is mirrored. -/
def State.allMirrored (s : State) (osn : Nat) : Bool :=
  (s.ftl.versions.filter (fun v => v.osn == osn)).all (fun v => v.mirrored == v.mask)

/-- The command is ready to be published by the next batch: in Landing with every block received and mirrored. -/
def State.publishable (s : State) (x : Ctx) : Bool :=
  x.isWrite && decide (x.phase = .landing) && s.allMirrored x.osn
    && (!x.is .write || decide (popCount 4096 x.received = x.nblk))

/-- The ring's scope is GROUP (R153). -/
def State.groupRing (s : State) (x : Ctx) : Bool := (s.ring x.fn x.ring).group

/-- Both parity members have acknowledged the command's contribution (R30). -/
def State.groupAcked (s : State) (x : Ctx) : Bool :=
  (s.ftl.versions.filter (fun v => v.osn == x.osn)).all (fun v => x.is .trim || x.is .writeZeroes || (v.ackP == v.mask && v.ackQ == v.mask))
    && (x.is .write || x.note == 3)

/-- Under R37 a write completes only once its versions are programmed in class J form. -/
def State.programmed (s : State) (osn : Nat) : Bool :=
  (s.ftl.versions.filter (fun v => v.osn == osn)).all (fun v => v.folded.isSome)

/-- The scope condition of R29, R30 and R37 for a published command. -/
def State.scopeMet (s : State) (x : Ctx) : Bool :=
  (!s.groupRing x || s.groupAcked x)
    && (match s.writeMode with
        | .zeroCeiling => s.programmed x.osn
        | _ => true)

/-- Inserts a context into a list in rising order of OSN. -/
def insertOsn (e : Nat × Ctx) : List (Nat × Ctx) → List (Nat × Ctx)
  | [] => [e]
  | f :: t => if e.2.osn < f.2.osn then e :: f :: t else f :: insertOsn e t

/-- The writes in flight in rising order of OSN. -/
def State.writesByOsn (s : State) : List (Nat × Ctx) := (s.live.filter (fun e => e.2.isWrite)).foldl (fun l e => insertOsn e l) []

/-- The commit record of a command (R346). -/
def commitRec (x : Ctx) : Rec := .commit x.ring x.fn x.cid (pkOpc x.pkt) 0 x.osn

/-- The records of publication and commitment a boundary puts into its batch (R207): the version and range records of commands that
are published with it, then in OSN order the commit records R28 to R30 and R192 allow. -/
def State.batchWrites (s : State) : State :=
  let ws := s.writesByOsn
  let pub := ws.filter (fun e => s.publishable e.2)
  let s1 := pub.foldl (fun s e =>
    let s2 := (s.ftl.versions.filter (fun v => v.osn == e.2.osn)).foldl (fun s v => s.record (.version v.iu v.mask v.osn)) s
    s2) s
  let cand := ws.filter (fun e => decide (e.2.phase = .published) || s.publishable e.2)
  let chosen := cand.foldl (fun (l : List Nat) e =>
    if s.scopeMet e.2 && s.mayCommit e.2 l then l ++ [e.2.osn] else l) []
  (cand.filter (fun e => chosen.contains e.2.osn)).foldl (fun s e => s.record (commitRec e.2)) s1

/-- A command is published by its durable batch: its versions are staged (R194, R197). -/
def State.publish (s : State) (c : Nat) : State :=
  let x := s.ctx c
  let s1 := s.mapVersions (fun v => if v.osn = x.osn ∧ v.st = .landing then { v with st := .staged } else v)
  let s2 : State := { s1 with ftl := { s1.ftl with ranges := s1.ftl.ranges.map (fun r =>
    if r.osn = x.osn ∧ r.st = .landing then { r with st := .published } else r) } }
  s2.setCtx c { x with phase := .published, pubAt := s.frame }

/-- The number of a range-table entry. -/
def State.rangeNo (s : State) (osn : Nat) : Option Nat := (s.ftl.ranges.zipIdx.find? (fun e => e.1.osn == osn && e.1.count != 0)).map (·.2)

/-- A write is committed by its durable batch (R28, R194). -/
def State.commitWrite (s : State) (c : Nat) : State :=
  let x := s.ctx c
  let s1 := s.mapVersions (fun v => if v.osn = x.osn ∧ v.st = .staged then { v with st := .committed } else v)
  let s2 : State := { s1 with ftl := { s1.ftl with ranges := s1.ftl.ranges.map (fun r =>
    if r.osn = x.osn ∧ r.st = .published then { r with st := .committed } else r) } }
  let s3 := match s.rangeNo x.osn with | some i => s2.thiRangeCommit i | none => s2
  (s3.setCtx c { x with phase := .committed, committed := true, status := 0 }).count 0x028 8 x.nblk

/-- The context of a live write with an OSN. -/
def State.ctxOfOsn (s : State) (osn : Nat) : Option Nat := (s.live.find? (fun e => e.2.osn == osn && osn != 0)).map (·.1)

/-! ### Views of the WBF registers (R216, R218) -/

/-- WBF_DIRTY: dirty data in MiB rounded up and the ceiling. -/
def State.wbfDirty (s : State) : Nat := min 0xFFFF (ceilDiv s.dirty (2 ^ 20)) + s.rd Reg.FRM_CEILING.CEIL_MIB * 2 ^ 16
/-- WBF_SPANS.USED. -/
def State.wbfSpans (s : State) : Nat := (s.thiList 0).length

end Sys2Proof.Machine
end

