-- ==== Sys2Proof/Machine/Windows.lean ====
section
/-! DEFINITION. The BAR4 translation windows: staged and active copies, the epoch commit and inbound requests (R126 to R132). -/

set_option Elab.async false

namespace Sys2Proof.Machine

/-- The function that owns a window entry; none for the device's own entries (R127). -/
def State.winOwner (s : State) (n : Nat) : Option Nat :=
  if n < 16 then some (if s.on Reg.HIF_EP_LINK.PORT_MODE && decide (8 ≤ n) then 1 else 0) else none

/-- The staged copy of an entry. -/
def State.staged (s : State) (n : Nat) : Win :=
  { target := s.rd Reg.WIN_ENT_CTRL.TARGET n, wrEn := s.on Reg.WIN_ENT_CTRL.WR_EN n, rdEn := s.on Reg.WIN_ENT_CTRL.RD_EN n,
    ridChk := s.on Reg.WIN_ENT_CTRL.RID_CHK n, rid := s.rd Reg.WIN_ENT_CTRL.RID n, base := s.rd Reg.WIN_ENT_BASE.BASE n,
    limit := s.rd Reg.WIN_ENT_LIMIT.LIMIT n }

/-- Firmware writes a staged copy: the entry is pending (R129). -/
def State.stage (s : State) (n : Nat) (w : Win) : State :=
  let s1 := (((s.wr Reg.WIN_ENT_CTRL.TARGET w.target n).wr Reg.WIN_ENT_CTRL.WR_EN (bit w.wrEn) n).wr Reg.WIN_ENT_CTRL.RD_EN
    (bit w.rdEn) n).wr Reg.WIN_ENT_CTRL.RID_CHK (bit w.ridChk) n
  ((((s1.wr Reg.WIN_ENT_CTRL.RID w.rid n).wr Reg.WIN_ENT_BASE.BASE w.base n).wr Reg.WIN_ENT_LIMIT.LIMIT w.limit n).wr
    Reg.WIN_ENT_CTRL.PENDING 1 n)

/-- First byte of the peer staging region: 2 GiB into the first copy's sub-channel (R431). -/
def State.stagingBase (s : State) : Nat :=
  match s.stagingPair with
  | some (hi, _) => hi * 2 ^ 35 + 2 ^ 31
  | none => 0

/-- Size of the peer staging region: 6 GiB (R430). -/
def stagingSize : Nat := 6 * 2 ^ 30

/-- A staged copy obeys R128 and R131 for its owner. -/
def State.winOk (s : State) (n : Nat) (w : Win) : Bool :=
  let lo := w.base * 4096
  let hi := (w.base + w.limit) * 4096
  if w.target = 0 then true
  else if w.target = 1 then
    !decide (n < 16) && w.limit != 0 && s.stagingPair.isSome
      && decide (s.stagingBase ≤ lo ∧ hi ≤ s.stagingBase + stagingSize)
  else if w.target = 2 then
    w.limit != 0 && (if n < 16 then decide (hi ≤ 0x40000) else decide (0x40000 ≤ lo ∧ hi ≤ 0x100000))
  else false

/-- The pending entries of an owner. -/
def State.winPending (s : State) (owner : Option Nat) : List Nat :=
  (List.range 256).filter (fun n => decide (s.winOwner n = owner) && s.on Reg.WIN_ENT_CTRL.PENDING n)

/-- The epoch commit of an owner (R129, R131): refused while BUSY, or for the lowest entry that breaks its rules. The index of a
refusal, or none. -/
def State.winCommit (s : State) (owner : Option Nat) : State × Option Nat :=
  if s.on Reg.WIN_EPOCH.BUSY then (s, some 0xFF)
  else
    let p := s.winPending owner
    match p.find? (fun n => !s.winOk n (s.staged n)) with
    | some n => (s, some n)
    | none =>
      let s1 := p.foldl (fun s n => (s.setWin n (s.staged n)).wr Reg.WIN_ENT_CTRL.PENDING 0 n) s
      ((s1.wr Reg.WIN_EPOCH.EPOCH (s.rd Reg.WIN_EPOCH.EPOCH + 1)).wr Reg.WIN_EPOCH.BUSY 1, none)

/-- Firmware commits the device-owned entries; a refusal is recorded (R129, R149). -/
def State.winDevice (s : State) : State :=
  match s.winCommit none with
  | (s1, none) => s1
  | (s1, some i) => s1.event 0x11 0x0006 i

/-- WINDOW_COMMIT (R129, R131): a write of WIN_EPOCH.COMMIT commits the writing function's pending entries. -/
def execWindowCommit (fn : Fn) (s : State) : Host.Outcome State Fault Refusal :=
  if s.reachable fn.val then
    match (s.wakeTlp fn.val).winCommit (some fn.val) with
    | (s1, none) => ok s1
    | (s1, some i) =>
      ok ((s1.wr Reg.WIN_STATUS.COMMIT_REFUSED 1 0 fn.val).wr Reg.WIN_STATUS.REFUSED_IDX i 0 fn.val)
  else ok s

/-- EPOCH_RETIRE (R130): every request of the earlier epoch has been retired and BUSY clears. -/
def execEpochRetire (s : State) : Host.Outcome State Fault Refusal :=
  if s.sup.coreUp then ok (s.wr Reg.WIN_EPOCH.BUSY 0) else ok s

/-- log2 of the BAR4 size of a function (R119, R123): the size the Resizable BAR Control register is set to, 64 GiB until then. -/
def State.bar4Log2 (s : State) (f : Nat) : Nat :=
  let v := bitsOf (s.cfgRaw f 0x2E0) 8 6
  if v = 0 then 36 else 20 + v

/-- Why an inbound request is refused (R126, R132, R149): 1 invalid, 2 beyond LIMIT, 3 requester, 4 not enabled; or its address. -/
def State.winTranslate (s : State) (f : Nat) (rid off : Nat) (write : Bool) : Nat × Nat ⊕ Nat × Nat :=
  let size := 2 ^ s.bar4Log2 f / 256
  let n := off / size % 256
  let w := s.win n
  let o := off % size
  if w.target = 0 ∨ w.target = 3 then .inl (n, 1)
  else if w.limit * 4096 ≤ o then .inl (n, 2)
  else if w.ridChk && rid != w.rid then .inl (n, 3)
  else if !(if write then w.wrEn else w.rdEn) then .inl (n, 4)
  else .inr (n, w.base * 4096 + o)

/-- A refused BAR4 request is counted and shown (R132, R149). -/
def State.winDrop (s : State) (n reason rid : Nat) : State :=
  (((s.bump Reg.WIN_DROP_CNT.COUNT).wr Reg.WIN_DROP_LAST.WINDOW n).wr Reg.WIN_DROP_LAST.REASON reason).wr
    Reg.WIN_DROP_LAST.REQ_ID rid

/-- BAR4_WRITE (R126, R132): a posted write is translated and stored, or discarded and counted. -/
def execBar4Write (fn : Fn) (rid : BitVec 16) (off : Nat) (bytes : List Byte) (s : State) :
    Host.Outcome State Fault Refusal :=
  if s.reachable fn.val then
    let s1 := s.wakeTlp fn.val
    match s1.winTranslate fn.val rid.toNat off true with
    | .inl (n, r) => ok ((s1.winDrop n r rid.toNat).emit (.unsupported fn.val))
    | .inr (_, a) => ok { s1 with mem := Memory.write s1.mem a bytes }
  else ok s

/-- BAR4_READ (R126, R132): a read is translated and answered, or completed with Unsupported Request and counted (DEDUCED: log entry 37). -/
def execBar4Read (fn : Fn) (rid : BitVec 16) (off : Nat) (len : Nat) (s : State) : Host.Outcome State Fault Refusal :=
  if s.reachable fn.val then
    let s1 := s.wakeTlp fn.val
    match s1.winTranslate fn.val rid.toNat off false with
    | .inl (n, r) => ok ((s1.winDrop n r rid.toNat).emit (.unsupported fn.val))
    | .inr (_, a) => ok (s1.emit (.mailbox fn.val (Memory.read s1.mem a (min len 4096))))
  else ok s

end Sys2Proof.Machine
end

