-- ==== Sys2Proof/Machine/Group.lean ====
section
/-! DEFINITION. The peer group: membership, beacons, sessions, messages (R374 to R386, R391 to R396). -/

set_option Elab.async false

namespace Sys2Proof.Machine

/-! ### Own membership -/

/-- A listed member. -/
def State.peer (s : State) (j : Nat) : Peer := Tbl.get {} s.group.peers j
/-- Changes a listed member. -/
def State.setPeer (s : State) (j : Nat) (p : Peer) : State :=
  { s with group := { s.group with peers := Tbl.set {} s.group.peers j p } }
/-- Changes the group's own part. -/
def State.setGroup (s : State) (g : Group) : State := { s with group := g }

/-- GLI_STATUS.STATE: 0 None, 1 Joining, 2 InView, 3 Isolated, 4 Leaving. -/
def State.gstate (s : State) : Nat := s.rd Reg.GLI_STATUS.STATE
/-- The device's own member number. -/
def State.own (s : State) : Nat := s.rd Reg.GLI_STATUS.MEMBER
/-- The device is a member of a group: its membership record names one (R374). -/
def State.member (s : State) : Bool := s.rd Reg.GLI_STATUS.GROUP != 0
/-- The device is in the view of a group (R209). -/
def State.inView (s : State) : Bool := s.gstate == 2 || s.gstate == 4
/-- Group traffic runs: the device serves, with its membership active. -/
def State.groupUp (s : State) : Bool := s.serving && s.gstate != 0

/-- The installed view's members as a mask. -/
def State.viewMask (s : State) : Nat := s.rd Reg.GLI_MEMBERS.MASK
/-- Installed view number. -/
def State.viewNo (s : State) : Nat := s.rd Reg.GLI_VIEW.VIEW
/-- Steward of the installed view. -/
def State.steward (s : State) : Nat := s.rd Reg.GLI_ROLES.STEWARD
/-- The device's steward lease runs (R389). -/
def State.leads (s : State) : Bool := s.on Reg.GLI_STATUS.STEWARD && decide (s.frame < s.group.lease)

/-- The listed member numbers. -/
def State.listed (s : State) : List Nat := (List.range 24).filter (fun j => (s.peer j).listed)
/-- The members of a mask. -/
def maskMembers (m : Nat) : List Nat := (List.range 24).filter (fun j => m.testBit j)
/-- The mask of a list of members. -/
def membersMask (l : List Nat) : Nat := l.foldl setBit 0
/-- The members whose majority the successor of the installed view needs: the installed view, or the listed members for view 0
(R387, R388). -/
def State.electors (s : State) : Nat := if s.viewNo = 0 then membersMask s.listed else s.viewMask
/-- A set of members is more than half of a mask (R387). -/
def majority (of_ set : Nat) : Bool := decide (popCount 24 of_ < 2 * popCount 24 (of_ &&& set))

/-! ### Sessions (R383) -/

/-- GLI_PEER[j].SESSION: 0 Unknown, 1 Greeting, 2 Linked, 3 Absent. -/
def State.session (s : State) (j : Nat) : Nat := s.rd Reg.GLI_PEER.SESSION j
/-- The session with a member is Linked. -/
def State.linked (s : State) (j : Nat) : Bool := s.session j == 2

/-- Changes a session's state; GLI_LINKED follows (R392). -/
def State.setSession (s : State) (j v : Nat) : State :=
  let m := s.rd Reg.GLI_LINKED.MASK
  (s.wr Reg.GLI_PEER.SESSION v j).wr Reg.GLI_LINKED.MASK (if v = 2 then setBit m j else clearBit m j)

/-- Members of the view heard within 5,000 frames, the device included (R380). -/
def State.hears (s : State) : List Nat :=
  (maskMembers s.viewMask).filter (fun j => j == s.own || ((s.peer j).heardAt != 0 && decide (s.frame < (s.peer j).heardAt + 5000)))

/-- A majority of the view is heard (R380). -/
def State.hearsMajority (s : State) : Bool := decide (popCount 24 s.viewMask < 2 * s.hears.length)

/-- Takes the next value of the persisted group-key counter (R382). -/
def State.groupCtr (s : State) : Nat × State := (s.sec.groupCtr, { s with sec := { s.sec with groupCtr := s.sec.groupCtr + 1 } })

/-- Sends a handshake message or a beacon: it takes a group-key counter (R382, R383). -/
def State.sendPlain (s : State) (j kind : Nat) (payload : List Nat) : State :=
  let c := s.groupCtr
  c.2.emit (.peer j kind (payload ++ [c.1]))

/-- Sends a session message: its header carries SEQ, the installed view and the acknowledgement (R384). -/
def State.sendMsg (s : State) (j kind : Nat) (payload : List Nat) : State :=
  if s.linked j then
    let p := s.peer j
    (s.setPeer j { p with sendSeq := p.sendSeq + 1, unacked := 0, ackAt := s.frame }).emit
      (.peer j kind ([p.sendSeq, s.viewNo, p.recvSeq - 1, s.rd Reg.GLI_PEER.EPOCH j] ++ payload))
  else s

/-- A session is dropped for a cause of event 0x0104. -/
def State.dropSession (s : State) (j cause : Nat) : State :=
  ((s.setSession j 0).setPeer j { s.peer j with key := none, retryAt := s.frame }).event 0x30 0x0104 (j + cause * 32)

/-- The initiator greets: HELLO with a fresh nonce (R383). -/
def State.greet (s : State) (j : Nat) : State :=
  let na := (Config.drbg s.free).toNat % 2 ^ 128
  ((s.freeNext.setSession j 1).setPeer j { s.peer j with mine := na, greetAt := s.frame }).sendPlain j 0x02
    [na, s.group.incarnation]

/-- A handshake fails (R383): counted, recorded, retried 1,000 frames later. -/
def State.greetFail (s : State) (j : Nat) : State :=
  (((s.setSession j 0).setPeer j { s.peer j with retryAt := s.frame + 1000 }).bump Reg.GLI_CNT.AUTH_FAIL).event 0x30 0x0102 j

/-- The device is the initiator toward a member: the lower-numbered of the pair (R383). -/
def State.initiates (s : State) (j : Nat) : Bool := decide (s.own < j)

/-- Joining devices that the installed view already includes enter it once Linked with a majority of it (R380). -/
def State.rejoin (s : State) : State :=
  if s.gstate = 1 && s.viewMask.testBit s.own
      && majority s.viewMask (setBit (s.rd Reg.GLI_LINKED.MASK) s.own) then
    (s.wr Reg.GLI_STATUS.STATE 2).asyncAll 6 (popCount 24 s.viewMask)
  else s

/-- Both sides are Linked: the session key is derived, the pair's EPOCH rises by one and the sequences start again (R383, R492). -/
def State.link (s : State) (j na nb incarnation : Nat) : State :=
  let lo := min s.own j
  let hi := max s.own j
  let key := Config.kdf ((s.sec.groupKey).getD 0) 3 (((na * 2 ^ 128 + nb) * 256 + lo) * 256 + hi)
  let p := s.peer j
  let s1 := ((s.setSession j 2).wr Reg.GLI_PEER.EPOCH (s.rd Reg.GLI_PEER.EPOCH j + 1) j).wr Reg.GLI_PEER.INCARNATION incarnation j
  ((s1.wr Reg.GLI_PEER.MISSED 0 j).setPeer j
    { p with key := some key, heardAt := s.frame, sendSeq := 1, recvSeq := 1, unacked := 0, pos := 0x1000, echoed := 0, synced := false }).rejoin

/-- A session message is taken (R384): its SEQ is the next expected, its EPOCH is the session's and its tag verifies; else the
session is dropped. -/
def State.take (s : State) (j : Nat) (h : Hdr) : Option State :=
  if !(s.groupUp && (s.peer j).listed && s.linked j) then none
  else if !h.tagOk || h.epoch != s.rd Reg.GLI_PEER.EPOCH j then some (s.dropSession j 2)
  else if h.seq != (s.peer j).recvSeq then some (s.dropSession j 1)
  else
    let p := s.peer j
    let at_ := if p.pos + h.size ≤ 0x7000 then p.pos + h.size else 0x1000
    let p1 := { p with recvSeq := p.recvSeq + 1, unacked := p.unacked + h.size, pos := at_ }
    let s1 := s.setPeer j p1
    if 12288 < p1.unacked ∧ p1.ackAt + 10 ≤ s.frame then
      some (s1.sendMsg j 0x05 [s.group.heard, s.group.incarnation, s.gstate])
    else some s1

/-- The message was accepted: `take` left the session Linked. -/
def tookOk (s : State) (j : Nat) : Bool := s.linked j

/-! ### The address table and the windows (R375, R377, R406) -/

/-- The staged copies of entries 17 + j and 41 + j of a member. -/
def State.stagePeer (s : State) (j : Nat) : State :=
  let p := s.peer j
  let live := p.listed && j != s.own
  let log2 := if (s.peer s.own).log2 = 0 then 36 else (s.peer s.own).log2
  let pages := 2 ^ log2 / 256 / 4096
  let s1 := s.stage (17 + j) (if live then
    { target := 2, wrEn := true, ridChk := true, rid := p.reqId, base := 0x41 + 7 * j, limit := 7 } else {})
  if s.stagingPair.isSome then
    s1.stage (41 + j) (if live then
      { target := 1, wrEn := true, ridChk := true, rid := p.reqId, base := s.stagingBase / 4096 + j * pages, limit := pages } else {})
  else s1

/-- Programs the device-owned entries of a membership and commits them as one epoch (R375, R406). -/
def State.stageGroup (s : State) : State :=
  let s1 := s.stage 16 { target := 2, wrEn := true, base := 0x40, limit := 1 }
  ((List.range 24).foldl State.stagePeer s1).winDevice

/-- The staging region enters or leaves service, so entries 41 to 64 follow it. -/
def State.restage (s : State) : State := if s.gstate = 0 then s else s.stageGroup

/-- The device starts to join (R380): INCARNATION was raised by the caller, entries 16 to 64 are programmed, sessions start. -/
def State.startJoining (s : State) : State :=
  let s1 := (s.wr Reg.GLI_STATUS.STATE 1).stageGroup
  (s1.listed.filter (fun j => s1.initiates j)).foldl State.greet s1

/-- Bloom entry, or the staging region entering service after it: a device whose record names a group joins (R380). -/
def State.autoJoin (s : State) : State :=
  if s.member && s.gstate == 0 && s.stagingPair.isSome && decide (s.boot.stage ≠ .grind) then s.startJoining else s

/-- Departure (R379): sessions are dropped, entries 16 to 255 become invalid and the uncommitted writes of GROUP rings are refused. -/
def State.depart (s : State) : State :=
  let s1 := (List.range 24).foldl (fun s j =>
    ((((s.setSession j 0).wr Reg.GLI_PEER.IN_VIEW 0 j).wr Reg.GLI_PEER.MISSED 0 j).wr Reg.GLI_PEER.REQ_ID 0 j).setPeer j {}) s
  let s2 := ((List.range 240).foldl (fun s i => s.stage (16 + i) {}) s1).winDevice
  let s3 := (s2.live.filter (fun e => e.2.uncommitted && s2.groupRing e.2)).foldl (fun s e => s.refuse e.1 0x0030) s2
  let s4 := ((s3.wr Reg.GLI_STATUS.STATE 0).wr Reg.GLI_STATUS.STEWARD 0).wr Reg.GLI_STATUS.DEPUTY 0
  let s5 := ((s4.wr Reg.GLI_STATUS.GROUP 0).wr Reg.GLI_STATUS.MEMBER 0).wr Reg.GLI_MEMBERS.MASK 0
  let s6 := s5.wr Reg.GLI_VIEW.VIEW 0
  { s6 with group := { incarnation := s6.group.incarnation }, sec := { s6.sec with groupKey := none } }.secRefresh

/-! ### Beacons (R381) -/

/-- BEACON_SEND (R381): the device writes its beacon on the board of every listed peer whose session is not Linked: every BEACON_INT
frames in Joining, every second otherwise. -/
def execBeaconSend (s : State) : Host.Outcome State Fault Refusal :=
  if s.groupUp then
    let every := if s.gstate = 1 then s.rd Reg.GLI_CFG.BEACON_INT else 100000
    let o := s.peer s.own
    ok ((s.listed.filter (fun j => j != s.own && !s.linked j && ((s.peer j).beaconAt == 0 || decide ((s.peer j).beaconAt + every ≤ s.frame)))).foldl
      (fun s j => (s.setPeer j { s.peer j with beaconAt := s.frame }).sendPlain j 0x100
        [s.rd Reg.GLI_STATUS.GROUP, s.own, bit (s.gstate == 2) + 2 * bit s.leads, s.group.incarnation, o.base, o.reqId, o.log2, s.viewNo]) s)
  else ok s

/-- A beacon is accepted (R381): tag, group and slot, and (INCARNATION, CTR) above the last pair accepted. -/
def State.beaconOk (s : State) (j : Nat) (b : Beacon) : Bool :=
  let p := s.peer j
  b.tagOk && b.group == s.rd Reg.GLI_STATUS.GROUP && b.member == j && p.listed && j != s.own
    && (decide (p.seenInc < b.incarnation) || (p.seenInc == b.incarnation && decide (p.seenCtr ≤ b.ctr)))

/-- BEACON_RECEIVED (R381, R383): a beacon on the board is checked; an accepted one may move the peer's address, wakes an Absent
session, and starts the handshake. -/
def execBeaconReceived (slot : Fin 24) (beacon : Beacon) (s : State) : Host.Outcome State Fault Refusal :=
  let j := slot.val
  if s.groupUp && s.beaconOk j beacon then
    let p := { s.peer j with seenInc := beacon.incarnation, seenCtr := beacon.ctr + 1 }
    let moved := p.base != beacon.base || p.reqId != beacon.reqId || p.log2 != beacon.log2
    let s1 := (s.setPeer j p).wr Reg.GLI_PEER.INCARNATION beacon.incarnation j
    let s2 := if moved then
        let s3 := (s1.setPeer j { p with base := beacon.base, reqId := beacon.reqId, log2 := beacon.log2, key := none }).wr
          Reg.GLI_PEER.REQ_ID beacon.reqId j
        (((s3.stagePeer j).winDevice).setSession j 0).event 0x30 0x0106 j
      else if s1.session j = 3 then s1.setSession j 0 else s1
    if s2.session j = 0 && s2.initiates j && decide ((s2.peer j).retryAt ≤ s2.frame) then ok (s2.greet j) else ok s2
  else ok s

/-! ### The handshake (R383) -/

/-- HELLO (R383): the responder in Unknown answers CHALLENGE with a fresh nonce. A new INCARNATION drops a Linked session first. -/
def execHello (peer : Fin 24) (na : Nat) (incarnation : Nat) (tagOk : Bool) (s : State) : Host.Outcome State Fault Refusal :=
  let j := peer.val
  if s.groupUp && (s.peer j).listed && !s.initiates j && j != s.own && tagOk then
    let s1 := if s.linked j && incarnation != s.rd Reg.GLI_PEER.INCARNATION j then s.dropSession j 3 else s
    if s1.session j = 0 then
      let nb := (Config.drbg s1.free).toNat % 2 ^ 128
      let s2 := (s1.freeNext.setSession j 1).wr Reg.GLI_PEER.INCARNATION incarnation j
      ok ((s2.setPeer j { s2.peer j with mine := nb, theirs := na, greetAt := s2.frame }).sendPlain j 0x03
        [nb, na, s2.group.incarnation])
    else ok s1
  else ok s

/-- CHALLENGE (R383): the initiator in Greeting checks the echo, sends CONFIRM and is Linked. -/
def execChallenge (peer : Fin 24) (nb : Nat) (echo : Nat) (incarnation : Nat) (tagOk : Bool) (s : State) :
    Host.Outcome State Fault Refusal :=
  let j := peer.val
  if s.groupUp && s.session j == 1 && s.initiates j then
    if !tagOk then ok (s.greetFail j)
    else if echo = (s.peer j).mine then
      ok ((s.sendPlain j 0x04 [nb]).link j (s.peer j).mine nb incarnation)
    else ok s
  else ok s

/-- CONFIRM (R383): the responder in Greeting checks the echo and is Linked. -/
def execConfirm (peer : Fin 24) (echo : Nat) (tagOk : Bool) (s : State) : Host.Outcome State Fault Refusal :=
  let j := peer.val
  if s.groupUp && s.session j == 1 && !s.initiates j then
    if !tagOk then ok (s.greetFail j)
    else if echo = (s.peer j).mine then
      ok (s.link j (s.peer j).theirs (s.peer j).mine (s.rd Reg.GLI_PEER.INCARNATION j))
    else ok s
  else ok s

/-- HANDSHAKE_TIMEOUT (R383): 1,000 frames have passed in Greeting. -/
def execHandshakeTimeout (peer : Fin 24) (s : State) : Host.Outcome State Fault Refusal :=
  let j := peer.val
  if s.groupUp && s.session j == 1 && decide ((s.peer j).greetAt + 1000 ≤ s.frame) then ok (s.greetFail j) else ok s

/-- HANDSHAKE_RETRY (R383): the delay has passed and the initiator greets again. -/
def execHandshakeRetry (peer : Fin 24) (s : State) : Host.Outcome State Fault Refusal :=
  let j := peer.val
  if s.groupUp && (s.peer j).listed && s.session j == 0 && s.initiates j && decide ((s.peer j).retryAt ≤ s.frame) then ok (s.greet j)
  else ok s

/-! ### PAD (R384) -/

/-- PAD (R384): the next message starts at offset 0x1000 of the ring. -/
def execPadMessage (peer : Fin 24) (hdr : Hdr) (s : State) : Host.Outcome State Fault Refusal :=
  let j := peer.val
  match s.take j hdr with
  | some s1 => if tookOk s1 j then ok (s1.setPeer j { s1.peer j with pos := 0x1000 }) else ok s1
  | none => ok s

end Sys2Proof.Machine
end

