-- ==== Sys2Proof/Machine/Media.lean ====
section
/-! DEFINITION. Media: blocks and their checks, reads of codewords and their ladder, rows, retirement, patrol findings
(R251 to R262, R311 to R330, R353, R360 to R363). -/

set_option Elab.async false

namespace Sys2Proof.Machine

/-! ### Addresses and die descriptions -/

/-- The LUN of a media address. -/
def State.lunOf (s : State) (a : Nat) : Lun := s.lun (adChannel a) (adLunNo a)
/-- The die description of a media address's LUN. -/
def State.dieOf (s : State) (a : Nat) : Nat := (s.lunOf a).die
/-- The address of the page of an address: IU slot zero. -/
def adOfPage (a : Nat) : Nat := a / 4 * 4

/-- A media address is valid (R254). -/
def State.addrOk (s : State) (a : Nat) (slc : Bool) : Bool :=
  let g := s.ucode.active
  let d := s.dieOf a
  decide (a < 2 ^ 40) && decide (adTarget a < s.rd Reg.CHN_POP.TARGETS (adChannel a))
    && decide (adLun a < s.rd Reg.CHN_POP.LUNS (adChannel a)) && decide (adPlane a < s.rd Reg.CHN_POP.PLANES (adChannel a))
    && decide (adBlock a < dieBlocks g d) && decide (adPage a < diePages g d slc) && decide (adSlot a < dieSlots g d)

/-- The part that holds an address serves: the channel is ready and the LUN has not failed. -/
def State.partUp (s : State) (a : Nat) : Bool := s.chanReady (adChannel a) && !s.lunFailed (adChannel a) (adLunNo a)

/-! ### Engine faults (R262, R279) -/

/-- An internal fault of a channel engine: code, LUN and address are shown, codes 1 and 2 counted. -/
def State.chFault (s : State) (a code : Nat) : State :=
  let c := adChannel a
  let s1 := ((s.wr Reg.CHN_FAULT.CODE code c).wr Reg.CHN_FAULT.LUN (adLunNo a) c).wr Reg.CHN_FAULT.VALID 1 c
  let s2 := s1.wr Reg.CHN_FAULT_ADDR.ADDR (a % 2 ^ 40) c
  if code = 1 ∨ code = 2 then s2.bump Reg.CHN_CNT.CHECK_FAULTS 1 c else s2

/-! ### Retirement (R259, R362, R363) -/

/-- The cause codes of a RETIRE record. -/
def retireProgram : Nat := 0
def retireErase : Nat := 1
def retireDie : Nat := 2
def retireRaw : Nat := 3

/-- Blocks of a LUN in state RETIRED. -/
def State.retiredOf (s : State) (c l : Nat) : Nat :=
  (s.blks.filter (fun e => adChannel (e.1 * 2 ^ 14) == c && adLunNo (e.1 * 2 ^ 14) == l && decide (e.2.st = .retired))).length

/-- The die is retired (R363): its LUN bit, a RETIRE record, event 0x0101, and relocation of its blocks at rebuild priority. -/
def State.dieRetire (s : State) (c l : Nat) : State :=
  if s.lunFailed c l then s
  else
    let s1 := s.wr Reg.CHN_LUN_FAIL.FAILED (setBit (s.rd Reg.CHN_LUN_FAIL.FAILED c) l) c
    let s2 := (s1.record (.retire retireDie (mkAddr c l 0 0 0 0))).event 0x28 0x0101 (c + l * 64)
    let s3 := (s2.count 0x074 4).setLun c l { s2.lun c l with st := .failed, op := none, queue := [], held := none }
    let s4 : State := { s3 with
      blks := Tbl.mapAll {} (fun k b => if adChannel (k * 2 ^ 14) = c ∧ adLunNo (k * 2 ^ 14) = l ∧ b.valid ≠ 0
        then { b with refresh := true } else b) s3.blks
      bands := s3.bands.map (fun b => if b.dieSet = l ∧ b.channels.testBit c then { b with empty := setBit b.empty c } else b) }
    (s4.thiPartGone (mkAddr c l 0 0 0 0) (63 * 2 ^ 34 + 31 * 2 ^ 29)).partFail

/-- A block is retired (R259, R362, R363): a RETIRE record, event 0x0100; past 2 % of a LUN's blocks the die is retired. -/
def State.blkRetire (s : State) (a cause : Nat) : State :=
  let b := adOfBlock a
  let s1 := (s.setBlk b { s.blk b with st := .retired, started := 0 }).record (.retire cause b)
  let s2 := (s1.event 0x28 0x0100 (cause + adChannel a * 4 + adLunNo a * 2 ^ 8 + adBlock a * 2 ^ 13)).count 0x070 4
  let total := dieBlocks s.ucode.active (s.dieOf a) * diePlanes s.ucode.active (s.dieOf a)
  if total < 50 * s2.retiredOf (adChannel a) (adLunNo a) ∧ total ≠ 0 then s2.dieRetire (adChannel a) (adLunNo a) else s2

/-! ### Reading codewords (R255, R261, R320, R321, R360) -/

/-- A read holds a reference on the block of an address: some codeword of it is being read, or a snapshot names it and has not moved
its data (R360). -/
def State.refOn (s : State) (a : Nat) : Bool :=
  s.decs.any (fun d => adOfBlock d.addr == adOfBlock a)
    || s.live.any (fun e => e.2.isRead && decide (e.2.phase = .snapshot ∨ e.2.phase = .moving) && e.2.snap.any (fun x => match x with
      | .media b => adOfBlock b == adOfBlock a
      | _ => false))

/-- Operations of a class queued on a LUN. -/
def Lun.queued (u : Lun) (c : Cls) : Nat := (u.queue.filter (fun o => decide (o.cls = c))).length

/-- Posts an operation on its class queue of a LUN, which holds eight (R255). -/
def State.post (s : State) (c l : Nat) (o : Op) : Option State :=
  let u := s.lun c l
  if 8 ≤ u.queued o.cls then none else some (s.setLun c l { u with queue := u.queue ++ [o] })

/-- A read operation of the LUN is posted or running for a page at a level and feature value. -/
def Lun.reads (u : Lun) (page level fval : Nat) : Bool :=
  (u.queue ++ u.op.toList).any (fun o => decide (o.kind = .read) && adOfPage o.addr == page && o.level == level && o.fval == fval)

/-- The retry value of soft sense `k` of the offsets of R321: each byte moves by k × SOFT_DELTA, saturating. -/
def softValue (value : Nat) (delta k : Int) : Nat :=
  ((List.range 4).map (fun i =>
    let v := signed8 (bitsOf value (8 * i) 8)
    signedField 8 (max (-128) (min 127 (v + k * delta))) * 2 ^ (8 * i))).foldl (· + ·) 0

/-- The offsets of the soft senses in their order (R321). -/
def softOffsets (five : Bool) : List Int := if five then [0, -2, -1, 1, 2] else [0, -1, 1]

/-- The feature value of the sense a task waits for: that of its level, moved in a soft sense. -/
def State.senseValue (s : State) (d : Dec) : Nat :=
  let g := s.ucode.active
  let die := s.dieOf d.addr
  let v := dieRetryValue g die d.level
  if d.st = .softSensing then
    let offs := softOffsets (s.on Reg.MIN_LADDER_CFG.SOFT_SENSES)
    softValue v (dieSoftDelta g die d.level) (offs.getD (offs.length - d.softLeft) 0)
  else v

/-- Posts the reads that codewords wait for, one per page, level and value, as the queues take them. -/
def State.feedReads (s : State) : State :=
  s.decs.foldl (fun s d =>
    if d.st = .sensing ∨ d.st = .softSensing then
      let c := adChannel d.addr
      let l := adLunNo d.addr
      let page := adOfPage d.addr
      let v := s.senseValue d
      if (s.lun c l).reads page d.level v then s
      else
        let n := (s.decs.filter (fun e => adOfPage e.addr == page && decide (e.st = d.st) && e.level == d.level)).length
        (s.post c l { kind := .read, addr := page, planes := 2 ^ adPlane page, slc := (s.blk page).slc, cls := d.cls, entry := 2,
                      level := d.level, fval := v, faddr := dieRetryAddr s.ucode.active (s.dieOf page) d.level, cws := n }).getD s
    else s) s

/-- Changes the codewords being read that pass a test. -/
def State.mapDecs (s : State) (p : Dec → Bool) (f : Dec → Dec) : State :=
  { s with decs := s.decs.map (fun d => if p d then f d else d) }

/-- Removes one codeword. -/
def State.dropDec (s : State) (d : Dec) : State := { s with decs := s.decs.filter (fun e => decide (e ≠ d)) }

/-- The level index of a LUN's current level in its band (R319, R320). -/
def State.startLevel (s : State) (a : Nat) : Nat :=
  let u := s.lunOf a
  u.band * dieLevels s.ucode.active u.die + Tbl.get 0 u.current u.band

/-- Starts to read codeword `cw` of a page for a command's block (context plus one) or for patrol (0): on a failed part the ladder
starts at its row step (R321). -/
def State.startDec (s : State) (addr cw ctx blk : Nat) (cls : Cls) : State :=
  let lv := s.startLevel addr
  let d : Dec := { addr := addr, cw := cw, ctx := ctx, blk := blk, cls := cls, st := if s.partUp addr then .sensing else .row,
                   level := lv, tried := [lv] }
  { s with decs := s.decs ++ [d] }

/-- Distance of a temperature from a band's range (R321). -/
def bandDistance (g : Img) (die own b : Nat) (t : Int) : Int :=
  if own < b then dieLimit g die (b - 1) - t else t - dieLimit g die b

/-- Inserts a band in order of distance. -/
def insertBand (e : Int × Nat) : List (Int × Nat) → List (Int × Nat)
  | [] => [e]
  | f :: t => if e.1 < f.1 then e :: f :: t else f :: insertBand e t

/-- The levels of step 2 in their order (R321): the other levels of the LUN's band ascending, then those of the other bands, nearest
limit first. -/
def State.retryOrder (s : State) (a : Nat) : List Nat :=
  let u := s.lunOf a
  let g := s.ucode.active
  let n := dieLevels g u.die
  let others := ((List.range (dieBands g u.die)).filter (fun b => b != u.band)).foldl
    (fun l b => insertBand (bandDistance g u.die u.band b u.temp, b) l) []
  (List.range n).map (fun i => u.band * n + i) ++ others.flatMap (fun e => (List.range n).map (fun i => e.2 * n + i))

/-- The next step of a codeword whose hard decode failed with `unsat` unsatisfied checks (R321). -/
def State.nextStep (s : State) (d : Dec) (unsat : Nat) : Dec :=
  let best := match d.best with
    | some (n, l) => if unsat < n then some (unsat, d.level) else some (n, l)
    | none => some (unsat, d.level)
  let next := if d.senses < s.rd Reg.MIN_LADDER_CFG.RETRY_MAX then (s.retryOrder d.addr).find? (fun l => !d.tried.contains l) else none
  match next with
  | some l => { d with st := .sensing, senses := d.senses + 1, level := l, tried := d.tried ++ [l], best := best }
  | none => { d with st := .softSensing, best := best, level := (best.map (·.2)).getD d.level,
                     softLeft := if s.on Reg.MIN_LADDER_CFG.SOFT_SENSES then 5 else 3 }

/-- The block that a codeword of a page holds, as stored. -/
def State.codewordOf (s : State) (addr cw : Nat) : Stored :=
  let p := s.page addr
  if p.invalid then .lost else p.blocks.getD (cw % 4) .zero

/-- The LBA of a codeword of a page. -/
def State.lbaOf (s : State) (addr cw : Nat) : Nat := 4 * ((s.page addr).iu - 1) + cw % 4

/-- What the content check of R316 says of a stored block: passes, fails its tag, or holds no data. -/
inductive TagCheck where
  | good
  | bad
  | marked
  deriving DecidableEq, Repr

/-- The check of a stored block against its tag (R316, R505, R506). -/
def State.tagCheck (s : State) (lba : Nat) : Stored → TagCheck
  | .zero => .good
  | .lost => .marked
  | .block b => if (s.unseal lba b).isSome then .good else .bad

/-- A command's block is ready to move. -/
def State.blockReady (s : State) (d : Dec) (rebuilt : Bool) : State :=
  if d.ctx = 0 then s
  else
    let x := s.ctx (d.ctx - 1)
    s.setCtx (d.ctx - 1) { x with ready := setBit x.ready d.blk, rebuilt := x.rebuilt || rebuilt }

/-- A command's block ends with a status. -/
def State.blockBad (s : State) (d : Dec) (status : Nat) : State :=
  if d.ctx = 0 then s
  else
    let x := s.ctx (d.ctx - 1)
    s.setCtx (d.ctx - 1) { x with bad := x.bad ++ [(d.blk, status)] }

/-- Relocation of a block is requested (R329); patrol requests are counted. -/
def State.refresh (s : State) (a : Nat) (patrol : Bool) : State :=
  let b := s.blk a
  let s1 := if b.refresh then s else s.setBlk a { b with refresh := true }
  if patrol then s1.bump Reg.MIN_CNT2.REFRESH_REQ else s1

/-- The LUN's current level becomes the level at which a retry succeeded (R319). -/
def State.levelWon (s : State) (d : Dec) : State :=
  let u := s.lunOf d.addr
  let n := dieLevels s.ucode.active u.die
  s.setLun (adChannel d.addr) (adLunNo d.addr) { u with current := Tbl.set 0 u.current (d.level / max 1 n) (d.level % max 1 n) }

/-- A codeword is recovered at a step (1 hard, 2 retry, 3 soft): it is counted, patrol acts on its finding, and the block is ready
(R321, R322, R329). -/
def State.decPass (s : State) (d : Dec) (step corrected : Nat) : State :=
  let s1 := s.dropDec d
  let s2 := if step = 1 then (if corrected = 0 then s1 else s1.count 0x038 8)
    else if step = 2 then (s1.levelWon d).count 0x040 8
    else s1.count 0x048 8
  let limit := s.rd Reg.MIN_FMT.REFRESH_BITS (dieFormat s.ucode.active (s.dieOf d.addr))
  let s3 := if d.ctx = 0 ∧ (step ≠ 1 ∨ limit ≤ corrected) then s2.refresh d.addr true else s2
  s3.blockReady d false

/-- A codeword waits for its row step (R321). -/
def State.toRow (s : State) (d : Dec) : State :=
  s.mapDecs (fun e => decide (e = d)) (fun e => { e with st := .row })

/-- MIN_STATUS.OPEN_RECOV: pages under recovery at step 4 or 5 (R334). -/
def State.openRecov (s : State) : Nat :=
  ((s.decs.filter (fun d => decide (d.st = .row ∨ d.st = .outer))).foldl (fun l d => insertNat d.addr l) []).length

/-- A failed decode takes the codeword to its next step. -/
def State.decFail (s : State) (d : Dec) (unsat : Nat) (badTag : Bool) : State :=
  s.mapDecs (fun e => decide (e = d)) (fun e => { s.nextStep e unsat with badTag := e.badTag || badTag })

/-- The data of a read operation has left the die: the codewords it was for go to the decoders (R257). -/
def State.senseDone (s : State) (o : Op) : State :=
  let mine (d : Dec) : Bool := adOfPage d.addr == adOfPage o.addr && d.level == o.level
  let s1 := s.mapDecs (fun d => mine d && decide (d.st = .sensing)) (fun d => { d with st := .hard })
  (s1.mapDecs (fun d => mine d && decide (d.st = .softSensing)) (fun d =>
    if d.softLeft ≤ 1 then { d with softLeft := 0, st := .soft } else { d with softLeft := d.softLeft - 1 })).feedReads

/-- A read operation ended without data: its page counts as failed and goes to the row step (R261, R295). -/
def State.senseLost (s : State) (o : Op) : State :=
  (s.decs.filter (fun d => adOfPage d.addr == adOfPage o.addr && decide (d.st = .sensing ∨ d.st = .softSensing))).foldl
    State.toRow s

/-- The reads in progress on failed or lost parts move to the row step. -/
def State.decsOfPart (s : State) (c l : Nat) : State :=
  (s.decs.filter (fun d => adChannel d.addr == c && adLunNo d.addr == l && decide (d.st = .sensing ∨ d.st = .softSensing))).foldl
    State.toRow s

/-! ### Decodes (R316) -/

/-- The codewords of a page that wait for a decode of a kind. -/
def State.decsAt (s : State) (page cw : Nat) (st : DecSt) : List Dec :=
  s.decs.filter (fun d => d.addr == page && d.cw == cw && decide (d.st = st))

/-- HARD_DECODE_DONE (R315, R316, R321, R322): a pass is checked against its tag and delivered; a fail takes the ladder's next step; an
erased codeword goes to the row step. -/
def execHardDecodeDone (page : Nat) (cw : Fin 16) (res : Decoded) (s : State) : Host.Outcome State Fault Refusal :=
  if s.sup.coreUp then
    let c := adChannel page
    let ds := s.decsAt page cw.val .hard
    let s0 := if ds.isEmpty then s else s.setChn c { s.chn c with reads := (s.chn c).reads + 1 }
    ok ((ds.foldl (fun s d =>
      match res with
      | .erased => s.toRow d
      | .fail n =>
        (s.decFail d n false).setChn c { s.chn c with hardFails := (s.chn c).hardFails + 1 }
      | .pass n =>
        match s.tagCheck (s.lbaOf d.addr d.cw) (s.codewordOf d.addr d.cw) with
        | .good => s.decPass d (if d.senses = 0 then 1 else 2) n
        | .marked => ((s.dropDec d).blockBad d 0x0020)
        | .bad => s.decFail d 0 true) s0).feedReads)
  else ok s

/-- SOFT_DECODE_DONE (R316, R321, R329): a pass that its tag confirms is delivered and marks the block for relocation when patrol found
it; a fail goes to the row step. -/
def execSoftDecodeDone (page : Nat) (cw : Fin 16) (okD : Bool) (s : State) : Host.Outcome State Fault Refusal :=
  if s.sup.coreUp then
    ok (((s.decsAt page cw.val .soft).foldl (fun s d =>
      if okD then
        match s.tagCheck (s.lbaOf d.addr d.cw) (s.codewordOf d.addr d.cw) with
        | .good => s.decPass d 3 0
        | .marked => ((s.dropDec d).blockBad d 0x0020)
        | .bad => (s.mapDecs (fun e => decide (e = d)) (fun e => { e with badTag := true })).toRow { d with badTag := true }
      else s.toRow d) s).feedReads)
  else ok s

/-! ### Rows (R323 to R326) -/

/-- The band of a number. -/
def State.band (s : State) (n : Nat) : Option Band := s.bands.find? (fun b => b.number == n)

/-- Changes a band. -/
def State.setBand (s : State) (b : Band) : State :=
  { s with bands := s.bands.map (fun x => if x.number = b.number then b else x) }

/-- The band of a media address. -/
def State.bandOf (s : State) (a : Nat) : Option Band :=
  let n := (s.blk a).band
  if n = 0 then none else s.band (n - 1)

/-- The channels of a band in ascending order. -/
def Band.chans (b : Band) : List Nat := (List.range 64).filter (fun c => b.channels.testBit c)

/-- The block index of a band on a channel. -/
def Band.block (b : Band) (c : Nat) : Nat := ((b.blocks.find? (fun e => e.1 == c)).map (·.2)).getD 0

/-- The channel of the XOR page of row (p, q): c_((p × P + q) mod W) (R323). -/
def Band.xorChan (b : Band) (planes p q : Nat) : Nat := b.chans.getD ((p * planes + q) % max 1 b.chans.length) 0

/-- The word line of a page in a band. -/
def State.wordLine (s : State) (b : Band) (p : Nat) : Nat :=
  p / dieGroup s.ucode.active (s.lun (b.chans.headD 0) b.dieSet).die b.slc

/-- A word line has been programmed on every channel of the band: its stripe no longer waits (R324). -/
def Band.wlClosed (b : Band) (w : Nat) : Bool :=
  decide (w < b.next) && b.stripes.all (fun st => st.wl != w || st.waiting == 0)

/-- The row of a page is closed: every page of it has completed with status pass (R324). -/
def State.rowClosed (s : State) (a : Nat) : Bool :=
  match s.bandOf a with
  | some b => b.wlClosed (s.wordLine b (adPage a))
  | none => false

end Sys2Proof.Machine
end

