-- ==== Sys2Proof/Machine/Stripes.lean ====
section
/-! DEFINITION. Peer stripes: segments, granules, parity, acknowledgements, the ledger, the stripe states, withdrawal, rebuild and outer
reads (R397 to R425), and outer patrol (R331 to R333). -/

set_option Elab.async false

namespace Sys2Proof.Machine

/-! ### Stripes and roles (R401, R412) -/

/-- The code of a stripe state (R412). -/
def StripeSt.code : StripeSt → Nat
  | .opened => 0 | .sealed => 1 | .thinning => 2 | .degraded => 3 | .rebuilding => 4 | .lost => 5 | .released => 6

/-- The state of a code. -/
def stripeStOf (n : Nat) : StripeSt :=
  if n = 0 then .opened else if n = 1 then .sealed else if n = 2 then .thinning else if n = 3 then .degraded
  else if n = 4 then .rebuilding else if n = 5 then .lost else .released

/-- A stripe the device knows. -/
def State.pstripe (s : State) (n : Nat) : Option PStripe := s.group.stripes.find? (fun p => p.num == n)

/-- The listed member at a place of L (R401). -/
def State.memberAt (s : State) (i : Nat) : Nat := s.listed.getD (i % max 1 s.listed.length) 0

/-- The member of data slot m of a stripe (R401). -/
def State.slotMember (s : State) (p : PStripe) (m : Nat) : Nat := s.memberAt (p.num + 2 + m)

/-- The data slots of a stripe that are not vacant. -/
def PStripe.slots (p : PStripe) : List Nat := (List.range p.k).filter (fun m => !p.vacant.testBit m)

/-- The data slot of a member in a stripe. -/
def State.slotOfMember (s : State) (p : PStripe) (j : Nat) : Option Nat := p.slots.find? (fun m => s.slotMember p m == j)

/-- The bit of a member's role in an erased mask: data slots 0 to 21, P 30, Q 31 (R411). -/
def State.roleBit (s : State) (p : PStripe) (j : Nat) : Option Nat :=
  if p.p = j then some 30 else if p.q = j then some 31 else s.slotOfMember p j

/-- The device is P or Q of a stripe. -/
def State.isParity (s : State) (p : PStripe) : Bool := p.p == s.own || p.q == s.own

/-- Members in a mask of erased roles. -/
def erasedCount (m : Nat) : Nat := popCount 32 m

/-- GLI_STRIPE_CNT follows the stripes in which the device holds a role (R424). -/
def State.stripeCounts (s : State) : State :=
  let mine := s.group.stripes.filter (fun p => (s.roleBit p s.own).isSome)
  let opened := (mine.filter (fun p => decide (p.st = .opened))).length
  let deg := (mine.filter (fun p => decide (p.st = .degraded ∨ p.st = .rebuilding))).length
  (s.wr Reg.GLI_STRIPE_CNT.OPEN (min 255 opened)).wr Reg.GLI_STRIPE_CNT.DEGRADED (min 65535 deg)

/-- Changes a stripe. -/
def State.setStripe (s : State) (p : PStripe) : State :=
  (s.setGroup { s.group with stripes := s.group.stripes.map (fun x => if x.num = p.num then p else x) }).stripeCounts

/-- Writes a ledger record when the device is a parity member of the stripe (R411). -/
def State.ledger (s : State) (p : PStripe) (type b c : Nat) : State :=
  if s.isParity p then s.record (.ledger type p.num b c) else s

/-- The live granules of the own segment go out again as new granules: they wait for a segment (R403, R409, R417, R418). -/
def State.replaceGrans (s : State) (p : PStripe) (g : Gran → Bool) : State :=
  let l := (p.grans.filter (fun x => g x && !x.withdrawn)).map (fun x => (x.head.osn, x.head.lba / 4, x.head.lba % 4))
  s.setGroup { s.group with waiting := s.group.waiting ++ l }

/-- A Lost-stripe entry is created and its event posted (R180, R182, R417). -/
def State.lostEntry (s : State) (p : PStripe) (cause : Nat) (ranges : List (Nat × Nat)) : State :=
  let e : LostEntry := { seq := s.lostSeq + 1, stripe := p.num, group := s.rd Reg.GLI_STATUS.GROUP, member := s.own, cause := cause,
                         ranges := ranges, hours := s.hours }
  let s1 : State := { s with lost := s.lost ++ [e], lostSeq := s.lostSeq + 1 }
  (s1.setHealth 0x090 s1.lost.length).asyncAll 4 1

/-- A stripe changes its state (R412): recorded with S_STATE, reported by P, with its events and counts. -/
def State.stripeGo (s : State) (p : PStripe) (st : StripeSt) : State :=
  let p1 := { p with st := st, before := if st = .degraded ∧ p.st ≠ .degraded ∧ p.st ≠ .rebuilding then p.st else p.before }
  let s1 := (s.setStripe p1).ledger p1 0x44 st.code p1.erased
  let s2 := if p1.p = s.own then
      let s3 := s1.sendMsg s1.steward 0x15 [p1.num, st.code, p1.erased]
      s3.sendMsg p1.q 0x15 [p1.num, st.code, p1.erased]
    else s1
  match st with
  | .degraded => if p.st = .degraded then s2 else s2.event 0x30 0x0110 (p.num % 2 ^ 32)
  | .lost =>
    let s4 := s2.event 0x30 0x0113 (p.num % 2 ^ 32)
    let s5 := if (s4.roleBit p1 s4.own).isSome then s4.bump Reg.GLI_STRIPE_LOST.COUNT else s4
    s5.replaceGrans p1 (fun _ => true)
  | .released =>
    match (s2.thiList 3).find? (fun e => e.2.value == p.num) with
    | some e => (s2.thiDelete 3 e.1).2
    | none => s2
  | _ => s2

/-- Records a stripe's opening (R402, R411): the stripe table takes its number, and a parity member writes S_OPEN. -/
def State.openStripe (s : State) (num k p q vacant view : Nat) : State :=
  if (s.pstripe num).isSome then s
  else
    let x : PStripe := { num := num, k := k, p := p, q := q, vacant := vacant, view := view, openedAt := s.frame }
    if (s.roleBit x s.own).isSome || s.leads then
      let r := s.thiInsertAny 3 num 0 0 0 false 0 0
      match r.1 with
      | .inserted _ =>
        ((r.2.setGroup { r.2.group with stripes := r.2.group.stripes ++ [x] }).ledger x 0x40
          (k + p * 2 ^ 8 + q * 2 ^ 16) (vacant + view * 2 ^ 32)).stripeCounts
      | _ => r.2
    else s

/-! ### Pushing (R397, R403, R406, R407) -/

/-- Staging slots of an area: S ÷ 256 ÷ 4,096 of the receiver's BAR4 (R406). -/
def State.stageSlots (s : State) (j : Nat) : Nat :=
  let l := (s.peer j).log2
  2 ^ (if l = 0 then 36 else l) / 256 / 4096

/-- The next staging slot on a peer whose granule has been acknowledged (R407). -/
def State.nextStage (s : State) (j : Nat) : Nat × State :=
  let n := Tbl.get 0 s.group.stage j % max 1 (s.stageSlots j)
  (n, s.setGroup { s.group with stage := Tbl.set 0 s.group.stage j (n + 1) })

/-- The sealed bytes of a stored block as a granule's data. -/
def Stored.bytes : Stored → Block
  | .block b => b.ct
  | _ => 0

/-- The header of a sealed block (R398, R501). -/
def State.headOf (s : State) (lba osn : Nat) (b : Stored) : GHead :=
  match b with
  | .block x =>
    let k := s.slotOf lba
    let e := ((s.keySlot k).epochOf x.ivw).getD 0
    { lba := lba, inc := s.group.incarnation, ivFixed := k * 2 ^ 20 + e, osn := osn,
      ivCtr := x.ivw.toNat % 2 ^ 28 * 4096 + lba % 4096, tag := x.tag.zeroExtend 128 }
  | _ => { lba := lba, inc := s.group.incarnation, osn := osn }

/-- Pushes granules to a member: each is written into a staging slot, then one CONTRIB names them (R407, R413, R414). -/
def State.push (s : State) (j num slot flags plan : Nat) (l : List (Nat × Option Block × GHead)) : State :=
  if s.linked j && !l.isEmpty then
    let r := l.foldl (fun (acc : List Nat × List Nat × State) g =>
      match g.2.1 with
      | none => (acc.1 ++ [g.1, 1, 0, 0], acc.2.1, acc.2.2)
      | some b =>
        let st := acc.2.2.nextStage j
        (acc.1 ++ [g.1, 0, st.1, (dg b).toNat], acc.2.1 ++ [st.1], st.2.emit (.peerWrite j st.1 b))) ([], [], s)
    let seq := (r.2.2.peer j).sendSeq
    let s1 := r.2.2.sendMsg j 0x11 ([num, slot, flags, l.length, plan] ++ r.1)
    let m : Sent := { peer := j, seq := seq, stripe := num, slot := slot, withdraw := flags.testBit 0, offs := l.map (·.1),
                      stages := r.2.1 }
    s1.setGroup { s1.group with sent := s1.group.sent ++ [m] }
  else s

/-- The own open segments that may take granules: P and Q are Linked, in order of stripe number, at most two (R403). -/
def State.segments (s : State) : List PStripe :=
  (s.group.stripes.filter (fun p => decide (p.st = .opened) && (match s.slotOfMember p s.own with
    | some m => !p.closed.testBit m && decide (p.fill < 16384)
    | none => false))).take 2

/-- The segment for a span (R403): by span number modulo 2 among the usable ones. -/
def State.segmentFor (s : State) (span : Nat) : Option PStripe :=
  let l := s.segments
  let usable (p : PStripe) : Bool := s.linked p.p && s.linked p.q
  match l with
  | [a, b] =>
    let (x, y) := if span % 2 = 0 then (a, b) else (b, a)
    if usable x then some x else if usable y then some y else none
  | [a] => if usable a then some a else none
  | _ => none

/-- Closes the own segment of a stripe (R403, R413). -/
def State.segClose (s : State) (p : PStripe) : State :=
  match s.slotOfMember p s.own with
  | some m =>
    let p1 := { p with closed := setBit p.closed m }
    let s1 := s.setStripe p1
    [p.p, p.q].foldl (fun s j => s.sendMsg j 0x14 [p.num, m, p.fill]) s1
  | none => s

/-- Places the blocks of a version in a segment and pushes them to P and Q, or lets them wait (R397, R403, R411). -/
def State.placeBlocks (s : State) (osn iu : Nat) (blocks : List (Nat × Stored)) : State :=
  if !s.member then s
  else match (if s.inView then s.segmentFor (spanOfIu iu) else none) with
    | none => s.setGroup { s.group with waiting := s.group.waiting ++ blocks.map (fun b => (osn, iu, b.1)) }
    | some p =>
      match s.slotOfMember p s.own with
      | none => s
      | some m =>
        let grans := blocks.mapIdx (fun i b => ({ off := p.fill + i, head := s.headOf (4 * iu + b.1) osn b.2, data := b.2 } : Gran))
        let p1 := { p with grans := p.grans ++ grans, fill := p.fill + blocks.length }
        let s1 := (s.setStripe p1).record (.ledger 0x45 p.num (p.fill + m * 2 ^ 16 + (blocks.length - 1) * 2 ^ 21)
          (iu + (blocks.map (fun b => 2 ^ b.1)).foldl (· + ·) 0 * 2 ^ 46))
        let out := grans.map (fun g => (g.off, some g.data.bytes, g.head))
        let s2 := [p.p, p.q].foldl (fun s j => s.push j p.num m 0 0 out) s1
        if 16384 ≤ p1.fill then s2.segClose p1 else s2

/-- Published versions join a stripe, whatever the ring's scope (R32, R397). -/
def State.placeVersion (s : State) (v : Version) : State := s.placeBlocks v.osn v.iu v.data

/-- The range note of a TRIM or WRITE_ZEROES goes to the parity members of a segment (R397, R413). -/
def State.placeRange (s : State) (x : Ctx) : State :=
  if s.member && s.inView then
    match s.segmentFor (spanOf x.slba) with
    | some p => [p.p, p.q].foldl (fun s j =>
        let seq := (s.peer j).sendSeq
        let s1 := s.sendMsg j 0x13 [p.num, x.slba, x.nblk, bit (x.is .writeZeroes), s.group.incarnation, x.osn]
        let m : Sent := { peer := j, seq := seq, stripe := p.num, slot := 0, withdraw := false, offs := [], stages := [], osn := x.osn }
        s1.setGroup { s1.group with sent := s1.group.sent ++ [m] }) s
    | none => s
  else s

/-- The block a waiting granule holds: from its version, or from flash when that has been freed (R403). -/
def State.waitingBlock (s : State) (osn iu b : Nat) : Stored :=
  match (s.stack iu).find? (fun v => v.osn == osn) with
  | some v => ((v.data.find? (fun e => e.1 == b)).map (·.2)).getD .zero
  | none => match s.entry iu with
    | .media a => s.codewordOf a b
    | _ => .zero

/-- Granules that wait are placed in order once a segment is usable (R403). -/
def State.placeWaiting (s : State) : State :=
  if s.inView && !s.group.waiting.isEmpty && !s.segments.isEmpty then
    let w := s.group.waiting
    w.foldl (fun s g => s.placeBlocks g.1 g.2.1 [(g.2.2, s.waitingBlock g.1 g.2.1 g.2.2)]) (s.setGroup { s.group with waiting := [] })
  else s

/-! ### Withdrawal (R400, R410) -/

/-- Withdraws the own granules that pass a test: the same bytes are sent a second time. -/
def State.withdraw (s : State) (g : Gran → Bool) : State :=
  s.group.stripes.foldl (fun s p =>
    match s.slotOfMember p s.own with
    | none => s
    | some m =>
      let hit := p.grans.filter (fun x => g x && !x.withdrawn)
      if hit.isEmpty ∨ p.st = .lost ∨ p.st = .released then s
      else
        let p1 := { p with grans := p.grans.map (fun x => if g x then { x with withdrawn := true } else x) }
        let s1 := (s.setStripe p1).bump Reg.GLI_WITHDRAWN.COUNT hit.length
        [(p.p, 30), (p.q, 31)].foldl (fun s r =>
          if p.erased.testBit r.2 then s else s.push r.1 p.num m 1 0 (hit.map (fun x => (x.off, some x.data.bytes, {})))) s1) s

/-- A withdrawal is complete: both parity members have acknowledged it, or the surviving one alone (R410). -/
def PStripe.withdrawnDone (p : PStripe) (x : Gran) : Bool :=
  x.withdrawn && (x.wdP || p.erased.testBit 30) && (x.wdQ || p.erased.testBit 31)

/-- Every own granule that passes a test is withdrawn with its withdrawal complete. -/
def State.allWithdrawn (s : State) (g : Gran → Bool) : Bool :=
  s.group.stripes.all (fun p => decide (p.st = .lost ∨ p.st = .released) || p.grans.all (fun x => !g x || p.withdrawnDone x))

/-- Granules of one IU's blocks moved to a page (R399). -/
def State.moveGrans (s : State) (iu addr : Nat) (top : Nat) : State :=
  s.setGroup { s.group with stripes := s.group.stripes.map (fun p =>
    { p with grans := p.grans.map (fun x => if x.head.lba / 4 = iu ∧ x.head.osn ≤ top ∧ !x.withdrawn then { x with addr := addr + 1 } else x) }) }

/-! ### CONTRIB as a parity member (R405, R408) -/

/-- The 4,096 bytes of staging slot `n` of a member's area (R406). -/
def State.stageBlock (s : State) (j n : Nat) : Block :=
  let log2 := if (s.peer s.own).log2 = 0 then 36 else (s.peer s.own).log2
  let a := s.stagingBase + j * (2 ^ log2 / 256) + n * 4096
  (Memory.read s.mem a 4096).foldr (fun (e : Byte) (b : Block) => (b <<< 8) ||| e.zeroExtend 32768) 0

/-- The key of a granule's tally. -/
def tallyKey (slot off : Nat) : Nat := slot * 16384 + off

/-- Why an entry is refused: 3 digest, 4 state; 0 when it is good (R405). -/
def State.entryStatus (s : State) (p : PStripe) (j slot : Nat) (wd : Bool) (e : Entry) : Nat :=
  let t := (Tbl.get {} p.tally (tallyKey slot e.off)).st
  if dg (s.stageBlock j e.stage) ≠ e.dg then 3
  else if !wd && t != 0 then 4
  else if wd && t != 1 then 4
  else 0

/-- Applies one entry to the accumulator (R404, R405). -/
def State.applyEntry (s : State) (p : PStripe) (j slot : Nat) (wd : Bool) (e : Entry) : PStripe :=
  let d := s.stageBlock j e.stage
  let d1 := if p.p = s.own then d else gfBlock (gfAlpha slot) d
  { p with acc := Tbl.set 0 p.acc e.off (Tbl.get 0 p.acc e.off ^^^ d1),
           tally := Tbl.set {} p.tally (tallyKey slot e.off) { st := if wd then 2 else 1, head := if wd then {} else e.head } }

/-- A REPUSH of a granule that is counted clears its chunk first: the accumulators and the tallies of its 16 offsets (R418). -/
def PStripe.clearChunk (p : PStripe) (chunk : Nat) : PStripe :=
  { p with acc := p.acc.filter (fun e => e.1 / 16 != chunk), tally := p.tally.filter (fun e => e.1 % 16384 / 16 != chunk) }

/-- Applies the entries of a message one after another, or gives the status that refuses the whole message (R405). -/
def State.applyEntries (s : State) (j slot : Nat) (wd again : Bool) : List Entry → PStripe → PStripe ⊕ Nat
  | [], p => .inl p
  | e :: es, p =>
    let p0 := if again && !wd && (Tbl.get {} p.tally (tallyKey slot e.off)).st == 1 then p.clearChunk (e.off / 16) else p
    let st := s.entryStatus p0 j slot wd e
    if st ≠ 0 then .inr st else s.applyEntries j slot wd again es (s.applyEntry p0 j slot wd e)

/-- Every granule of every slot is withdrawn, with every segment closed (R412). -/
def PStripe.allWithdrawn (p : PStripe) : Bool :=
  p.slots.all (fun m => p.closed.testBit m) && p.tally.all (fun e => e.2.st == 2)

/-- A CONTRIB to a parity member: refused whole, or applied entry by entry with S_ACC records and acknowledged after the batch. -/
def State.contribParity (s : State) (j seq num slot flags : Nat) (es : List Entry) : State :=
  let role (p : PStripe) : Nat := if p.p = s.own then 0 else 1
  let refuse (r st : Nat) : State := (s.sendMsg j 0x12 [num, seq, r, st]).event 0x30 0x0114 (st + j * 2 ^ 8)
  match s.pstripe num with
  | none => refuse 0 1
  | some p =>
    if !s.isParity p || s.slotMember p slot != j || !p.slots.contains slot then refuse (role p) 1
    else
      let wd := flags.testBit 0
      let live := match p.st with
        | .opened => true
        | .sealed | .thinning | .degraded => wd || flags.testBit 1
        | _ => false
      if !live || (!wd && !flags.testBit 1 && p.closed.testBit slot) then refuse (role p) 2
      else match s.applyEntries j slot wd (flags.testBit 1) es p with
        | .inr st => refuse (role p) st
        | .inl p1 =>
          let s1 := es.foldl (fun s e => s.record (.ledger 0x41 num (e.off + slot * 2 ^ 16 + bit wd * 2 ^ 32) e.dg.toNat)) (s.setStripe p1)
          let s2 := s1.setGroup { s1.group with owedNext := s1.group.owedNext ++ [(j, num, seq, role p)] }
          if wd ∧ p.st = .sealed then s2.stripeGo p1 .thinning
          else if wd ∧ (p.st = .thinning ∨ p.st = .degraded) ∧ p1.allWithdrawn then s2.stripeGo p1 .released
          else s2

/-- The batch is durable: the acknowledgements of its S_ACC records go out (R408). -/
def State.sendOwed (s : State) : State :=
  (s.group.owed).foldl (fun s a => s.sendMsg a.1 0x12 [a.2.1, a.2.2.1, a.2.2.2, 0]) (s.setGroup { s.group with owed := [] })

/-! ### Solving (R416) -/

/-- The value a source gives at an offset: zero where it lists none, none where it could not read it. -/
def ChunkSource.at_ (x : ChunkSource) (o : Nat) : Option Block :=
  match x.grans.find? (fun g => g.1 == o) with
  | some (_, b, _) => b
  | none => some 0

/-- The source of a slot. -/
def Agg.source (a : Agg) (slot : Nat) : Option ChunkSource := a.sources.find? (fun x => x.slot == slot)

/-- What the chunk's sources give for a slot at an offset. -/
def Agg.value (a : Agg) (slot o : Nat) : Option Block := (a.source slot).bind (fun x => x.at_ o)

/-- XOR of a list of blocks. -/
def xorBlocks (l : List Block) : Block := l.foldl (· ^^^ ·) 0

/-- g^(255 − a). -/
def gfInvPow (a : Nat) : Nat := gfInv (gfAlpha a)

/-- Solves an offset of a stripe (R416): the erased data slots with their values, or none when it needs a third erasure. `check` tells
whether a solved granule passes its tag. -/
def Agg.solve (a : Agg) (p : PStripe) (check : Nat → Block → Bool) (o : Nat) : Option (List (Nat × Block)) :=
  let vals := p.slots.map (fun m => (m, a.value m o))
  let lost := vals.filterMap (fun v => match v.2 with | none => some v.1 | some _ => none)
  let known := vals.filterMap (fun v => v.2.map (fun b => (v.1, b)))
  let vp := a.value 0xFE o
  let vq := a.value 0xFF o
  let xp := xorBlocks (known.map (·.2))
  let xq := xorBlocks (known.map (fun v => gfBlock (gfAlpha v.1) v.2))
  match lost, vp, vq with
  | [], _, _ => some []
  | [x], some bp, some bq =>
    let sp := bp ^^^ xp
    some [(x, if check x sp then sp else gfBlock (gfInvPow x) (bq ^^^ xq))]
  | [x], some bp, none => some [(x, bp ^^^ xp)]
  | [x], none, some bq => some [(x, gfBlock (gfInvPow x) (bq ^^^ xq))]
  | [x, y], some bp, some bq =>
    let sp := bp ^^^ xp
    let sq := bq ^^^ xq
    let dx := gfBlock (gfInv (gfAlpha x ^^^ gfAlpha y)) (sq ^^^ gfBlock (gfAlpha y) sp)
    some [(x, dx), (y, sp ^^^ dx)]
  | _, _, _ => none

/-- The own report of a chunk: the granules of the own data segment, or of the own parity. -/
def State.ownReport (s : State) (p : PStripe) (chunk : Nat) : ChunkSource :=
  let offs := (List.range 16).map (fun i => 16 * chunk + i)
  if s.isParity p then
    { slot := if p.p = s.own then 0xFE else 0xFF,
      grans := (offs.filter (fun o => Tbl.get 0 p.acc o != 0)).map (fun o => (o, some (Tbl.get 0 p.acc o), {})) }
  else
    let m := (s.slotOfMember p s.own).getD 0
    { slot := m, grans := (p.grans.filter (fun g => decide (g.off / 16 = chunk) && !g.withdrawn)).map (fun g =>
        (g.off, (match g.data with | .lost => none | d => some d.bytes), g.head)) }

/-- The roles that survive: the slots as R332 names them, with their members. -/
def State.survivors (s : State) (p : PStripe) : List (Nat × Nat) :=
  ((p.slots.filter (fun m => !p.erased.testBit m)).map (fun m => (m, s.slotMember p m)))
  ++ (if p.erased.testBit 30 then [] else [(0xFE, p.p)]) ++ (if p.erased.testBit 31 then [] else [(0xFF, p.q)])

/-- A granule passes its tag as far as the device holds its realm key (R416, R505). -/
def State.headOk (s : State) (h : GHead) (b : Block) : Bool :=
  let k := h.ivFixed / 2 ^ 20
  if (s.keySlot k).st = 1 then
    let x : Sealed := { ct := b, tag := h.tag.truncate 96, ivw := ivwOf (h.ivFixed % 2 ^ 20) (h.ivCtr / 4096) }
    (s.unseal h.lba x).isSome
  else true

/-- The stored form of a granule with its header. -/
def storedOf (h : GHead) (b : Block) : Stored :=
  .block { ct := b, tag := h.tag.truncate 96, ivw := ivwOf (h.ivFixed % 2 ^ 20) (h.ivCtr / 4096) }

/-- The header the surviving parity member keeps for a granule. -/
def Agg.header (a : Agg) (slot o : Nat) : GHead :=
  let hs := a.sources.filterMap (fun x => if x.slot = slot then (x.grans.find? (fun g => g.1 == o)).map (fun g => g.2.2) else none)
  hs.headD {}

/-- The tally header of a granule held by this device as parity member. -/
def PStripe.headAt (p : PStripe) (slot o : Nat) : GHead := (Tbl.get {} p.tally (tallyKey slot o)).head

/-- The stripe becomes Lost (R412, R417, R421). -/
def State.loseStripe (s : State) (p : PStripe) (cause : Nat) (ranges : List (Nat × Nat)) : State :=
  match p.st with
  | .lost | .released => s
  | _ => (s.stripeGo p .lost).lostEntry p cause ranges

/-! ### Outer reads of this device (R421, R326) -/

/-- A block of this device lies in a live stripe with its contribution acknowledged: (stripe, granule) (R50, R326). -/
def State.outerOf (s : State) (lba : Nat) : Option (PStripe × Gran) :=
  if !s.inView then none
  else s.group.stripes.findSome? (fun p =>
    match p.st with
    | .lost | .released => none
    | _ => (p.grans.find? (fun g => g.head.lba == lba && !g.withdrawn && g.ackP && g.ackQ)).map (fun g => (p, g)))

/-- Sends OUTER_READ for the chunk of a granule and begins to collect its sources (R421). -/
def State.outerRead (s : State) (p : PStripe) (g : Gran) : State :=
  let chunk := g.off / 16
  if s.group.aggs.any (fun a => a.stripe == p.num && a.chunk == chunk && a.outer) then s
  else
    let m := (s.slotOfMember p s.own).getD 0
    let a : Agg := { stripe := p.num, chunk := chunk, plan := 0, outer := true, sources := [] }
    ((s.survivors p).filter (fun r => r.2 != s.own)).foldl (fun s r => s.sendMsg r.2 0x1A [p.num, m, 16 * chunk, 16])
      (s.setGroup { s.group with aggs := s.group.aggs ++ [a] })

/-- A codeword is unrecovered (R50, R322, R506): AUTH_FAIL when some decode passed and every one failed its tag. -/
def State.unrecovered (s : State) (d : Dec) (status : Nat) : State :=
  let lba := s.lbaOf d.addr d.cw
  let s1 := s.dropDec d
  if d.badTag then (s1.blockBad d 0x0022).authFail lba
  else (s1.blockBad d status).event 0x26 0x0102 (lba % 2 ^ 32)

/-- The outer read of a chunk has every source: the codewords that wait for it are rebuilt or lost (R416, R421). -/
def State.outerSolve (s : State) (a : Agg) (p : PStripe) : State :=
  let m := (s.slotOfMember p s.own).getD 0
  let s1 := s.setGroup { s.group with aggs := s.group.aggs.filter (fun x => decide (x ≠ a)) }
  (s1.decs.filter (fun d => decide (d.st = .outer))).foldl (fun s d =>
    let lba := s.lbaOf d.addr d.cw
    match p.grans.find? (fun g => g.head.lba == lba && g.off / 16 == a.chunk && !g.withdrawn) with
    | none => s
    | some g =>
      let blind := { a with sources := a.sources.filter (fun x => x.slot != m) }
      match blind.solve p (fun _ b => s.headOk g.head b) g.off with
      | none => (s.unrecovered d 0x0021).loseStripe p 0x01 [(lba, 1)]
      | some l =>
        match l.find? (fun e => e.1 == m) with
        | none => s.unrecovered d 0x0021
        | some (_, b) =>
          if s.headOk g.head b then
            let pg := s.page d.addr
            let s2 := s.setPage d.addr { pg with blocks := pg.blocks.mapIdx (fun i x => if i = d.cw % 4 then storedOf g.head b else x) }
            ((((s2.dropDec d).blockReady d true).count 0x058 8).refresh d.addr false)
          else s.unrecovered d 0x0021) s1

/-! ### The aggregator and the target of a rebuild (R415 to R417) -/

/-- The members that hold the erased slots' numbers: a slot's target is its member in the present view (R415). -/
def State.targets (s : State) (p : PStripe) : List (Nat × Nat) :=
  ((p.slots.filter (fun m => p.erased.testBit m)).map (fun m => (m, s.slotMember p m)))
  ++ (if p.erased.testBit 30 then [(0xFE, p.p)] else []) ++ (if p.erased.testBit 31 then [(0xFF, p.q)] else [])

/-- The surviving members of a stripe in ascending order, without repeats. -/
def State.aggregators (s : State) (p : PStripe) : List Nat := (s.survivors p).foldl (fun l r => insertNat r.2 l) []

/-- The aggregator of a chunk (R416). -/
def State.aggregatorOf (s : State) (p : PStripe) (chunk : Nat) : Nat :=
  let l := s.aggregators p
  l.getD (chunk % max 1 l.length) 0

/-- The sources a chunk needs: Q is not read when a single data slot is erased and P survives (R416). -/
def State.needed (s : State) (p : PStripe) : List (Nat × Nat) :=
  let l := s.survivors p
  if erasedCount p.erased = 1 ∧ !p.erased.testBit 30 ∧ !p.erased.testBit 31 then l.filter (fun r => r.1 != 0xFF) else l

/-- A target applies a rebuilt data granule (R417): an internal write of the block, unless it has one newer. -/
def State.applyRebuilt (s : State) (p : PStripe) (slot o : Nat) (h : GHead) (b : Block) : State :=
  let seen := s.group.applied.any (fun a => a.1 == h.lba && (decide (h.inc < a.2.1) || (a.2.1 == h.inc && decide (h.osn ≤ a.2.2))))
  let written := (s.stack (iuOf h.lba)).any (fun v => v.mask.testBit (h.lba % 4)) ||
    (match s.entry (iuOf h.lba) with | .unmapped => false | _ => !(s.group.applied.any (fun a => a.1 == h.lba)))
  if seen || written then s
  else
    let r := s.assignOsn
    let s1 := r.2.allocate r.1 [(iuOf h.lba, 2 ^ (h.lba % 4), [(h.lba % 4, storedOf h b)])]
    let s2 := s1.mapVersions (fun v => if v.osn = r.1 then { v with st := .adopted, mirrored := v.mask } else v)
    let s3 := s2.record (.version (iuOf h.lba) (2 ^ (h.lba % 4)) r.1)
    let s4 := s3.record (.ledger 0x47 p.num (o + slot * 2 ^ 16) 0)
    s4.setGroup { s4.group with applied := (h.lba, h.inc, h.osn) :: s4.group.applied, appliedNow := s4.group.appliedNow + 1 }

/-- A rebuilt parity granule enters the target's parity space (R417). -/
def State.applyParity (s : State) (p : PStripe) (o : Nat) (b : Block) : State :=
  s.setStripe { p with acc := Tbl.set 0 p.acc o b }

/-- The aggregator solves a chunk whose sources have all reported: solved granules go to their targets and the steward hears
CHUNK_DONE (R413, R416). -/
def State.chunkSolve (s : State) (a : Agg) (p : PStripe) : State :=
  let s1 := s.setGroup { s.group with aggs := s.group.aggs.filter (fun x => decide (x ≠ a)) }
  let offs := (List.range 16).map (fun i => 16 * a.chunk + i)
  let headFor (slot o : Nat) : GHead := if s.isParity p then p.headAt slot o else a.header slot o
  let solved := offs.map (fun o => (o, a.solve p (fun m b => s.headOk (headFor m o) b) o))
  let bad := solved.filter (fun x => x.2.isNone)
  let data (slot : Nat) : List (Nat × Option Block × GHead) := solved.filterMap (fun x =>
    (x.2.bind (fun l => l.find? (fun e => e.1 == slot))).map (fun e => (x.1, some e.2, headFor slot x.1)))
  let parity (q : Bool) : List (Nat × Option Block × GHead) := solved.filterMap (fun x =>
    x.2.map (fun l =>
      let all := p.slots.map (fun m => (m, ((l.find? (fun e => e.1 == m)).map (·.2)).getD ((a.value m x.1).getD 0)))
      (x.1, some (xorBlocks (all.map (fun e => if q then gfBlock (gfAlpha e.1) e.2 else e.2))), {})))
  let s2 := (s.targets p).foldl (fun s t =>
    s.push t.2 p.num t.1 8 a.plan (if t.1 = 0xFE then parity false else if t.1 = 0xFF then parity true else data t.1)) s1
  let s3 := bad.foldl (fun s x => s.event 0x30 0x0115 (x.1)) s2
  let s4 := s3.sendMsg s3.steward 0x17 [a.plan, p.num, a.chunk, bit (!bad.isEmpty), bad.length]
  if bad.isEmpty then s4 else s4.loseStripe p 0x02 []

/-- A source's report reaches the aggregator: counted once; when every source has reported, the chunk is solved (R416, R419, R421). -/
def State.report (s : State) (num chunk plan : Nat) (outer : Bool) (src : ChunkSource) : State :=
  match s.pstripe num with
  | none => s
  | some p =>
    let old := s.group.aggs.find? (fun a => a.stripe == num && a.chunk == chunk && a.outer == outer)
    let base : Agg := old.getD { stripe := num, chunk := chunk, plan := plan, outer := outer, sources := [] }
    let withOwn : Agg := if outer || base.sources.any (fun x => x.slot == (s.ownReport p chunk).slot) then base
      else { base with sources := s.ownReport p chunk :: base.sources }
    let a : Agg := if withOwn.sources.any (fun x => x.slot == src.slot) then withOwn
      else { withOwn with sources := withOwn.sources ++ [src] }
    let want := if outer then (s.survivors p).filter (fun r => r.2 != s.own) else s.needed p
    let s1 := s.setGroup { s.group with aggs := (s.group.aggs.filter (fun x => decide (some x ≠ old))) ++ [a] }
    if want.all (fun r => a.sources.any (fun x => x.slot == r.1)) then
      (if outer then s1.outerSolve a p else s1.chunkSolve a p)
    else s1

/-- The device's own pushes as a source of a plan: every chunk from the first goes to its aggregator (R416). -/
def State.sourcePushes (s : State) (p : PStripe) (plan first : Nat) : State :=
  match (s.needed p).find? (fun r => r.2 == s.own) with
  | none => s
  | some (slot, _) =>
    (List.range (1024 - first)).foldl (fun s i =>
      let chunk := first + i
      let agg := s.aggregatorOf p chunk
      let rep := s.ownReport p chunk
      let grans := if rep.grans.isEmpty then [(16 * chunk, some 0, {})] else rep.grans
      if agg = s.own then s else s.push agg p.num slot 4 plan grans) s

/-! ### Patrol of stripes (R331 to R333) -/

/-- The granules of the own role in a chunk as blocks in order of offset, multiplied by `c`. -/
def State.chunkBlocks (s : State) (p : PStripe) (chunk c : Nat) : List Block :=
  let rep := s.ownReport p chunk
  (List.range 16).map (fun i => gfBlock c ((rep.at_ (16 * chunk + i)).getD 0))

/-- The digests of R332 for the own role: a data member's Dg(D) and Dg(g^m · D), a parity member's Dg and zero. -/
def State.chunkDigests (s : State) (p : PStripe) (chunk : Nat) : List Nat :=
  let a := (dgAll (s.chunkBlocks p chunk 1)).toNat
  if s.isParity p then [a, 0] else [a, (dgAll (s.chunkBlocks p chunk (gfAlpha ((s.slotOfMember p s.own).getD 0)))).toNat]

/-- The roles whose digests the P member needs for a chunk. -/
def State.patrolRoles (s : State) (p : PStripe) : List Nat := ((s.survivors p).filter (fun r => r.2 != s.own)).map (·.1)

/-- The compare of one chunk (R331, R333): P and Q consistent with the data. -/
def patrolCompare (own : Nat) (reps : List DigestReply) (i : Nat) : Bool × Bool :=
  let data := reps.filter (fun r => r.slot < 22)
  let q := (reps.find? (fun r => r.slot == 0xFF)).map (fun r => r.digests.getD (2 * i) 0)
  (xorAll (data.map (fun r => r.digests.getD (2 * i) 0)) == own,
   match q with
   | some v => xorAll (data.map (fun r => r.digests.getD (2 * i + 1) 0)) == v
   | none => true)

end Sys2Proof.Machine
end

