-- ==== Sys2Proof/Machine/Views.lean ====
section
/-! DEFINITION. Views, the steward lease, isolation and departure; what a view change does to stripes; rebuild planning
(R379, R380, R385 to R390, R409, R412, R415, R418, R420). -/

set_option Elab.async false

namespace Sys2Proof.Machine

/-! ### Stripes as the view changes (R409, R412, R417, R418) -/

/-- The own granules of a stripe are placed anew and the stripe is Released (R418). -/
def State.rePlace (s : State) (p : PStripe) : State :=
  let s1 := (s.stripeGo p .released).replaceGrans p (fun _ => true)
  s1.event 0x30 0x0116 (p.num % 2 ^ 32)

/-- A member of a stripe has left the view: its slots are erased and the stripe's state follows (R409, R412). -/
def State.stripeLeaves (s : State) (p : PStripe) (gone : List Nat) : State :=
  let mask := gone.foldl (fun m j => match s.roleBit p j with
    | some b => setBit m b
    | none => m) p.erased
  if mask = p.erased ∨ p.st = .lost ∨ p.st = .released then s
  else
    let p1 := { p with erased := mask }
    if 2 < erasedCount mask then
      let s1 := s.loseStripe p1 0x02 []
      if (s.targets p1).any (fun t => t.2 == s.own) then s1 else { s1 with lost := s.lost, lostSeq := s.lostSeq }
    else
      let wasOpen := decide (p.st = .opened)
      let p2 := match s.slotOfMember p s.own with
        | some m => if wasOpen then { p1 with closed := setBit p1.closed m } else p1
        | none => p1
      let s1 := s.stripeGo p2 .degraded
      if mask = 2 ^ 30 + 2 ^ 31 then s1.rePlace { p2 with st := .degraded }
      else if wasOpen && (mask.testBit 30 || mask.testBit 31) then
        s1.replaceGrans p2 (fun g => !(g.ackP || p2.erased.testBit 30) || !(g.ackQ || p2.erased.testBit 31) || !(g.ackP && g.ackQ))
      else s1

/-! ### Rebuild planning (R415, R419) -/

/-- A stripe can be planned: Degraded, every erased slot has a target in the view, and P and Q are not both erased. -/
def State.plannable (s : State) (p : PStripe) : Bool :=
  decide (p.st = .degraded) && p.erased != 0 && !(p.erased.testBit 30 && p.erased.testBit 31)
    && (s.targets p).all (fun t => s.viewMask.testBit t.2)

/-- The members that a plan of a stripe concerns: its survivors and its targets. -/
def State.planMembers (s : State) (p : PStripe) : List Nat :=
  ((s.survivors p) ++ (s.targets p)).foldl (fun l r => insertNat r.2 l) []

/-- The device takes a plan of a stripe it knows (R415, R416): a target is shown and recorded, a source pushes its chunks. -/
def State.takePlan (s : State) (p : PStripe) (plan erased first : Nat) : State :=
  let p1 := { p with plan := plan, erased := erased, next := first, done := 2 ^ first - 1 }
  let s1 := s.stripeGo p1 .rebuilding
  let s2 := if (s1.targets p1).any (fun t => t.2 == s.own) then
      (s1.wr Reg.GLI_REBUILD.TARGET 1).event 0x30 0x0111 plan
    else s1
  s2.sourcePushes { p1 with st := .rebuilding } plan first

/-- The steward records a rebuild checkpoint and copies it to its deputy (R419). -/
def State.checkpoint (s : State) (p : PStripe) : State :=
  let s1 := s.record (.ledger 0x46 p.num (p.plan + p.next * 2 ^ 32) p.erased)
  let s2 := s1.setGroup { s1.group with ckptAt := s1.frame }
  s2.sendMsg (s2.rd Reg.GLI_ROLES.DEPUTY) 0x18 [p.plan, p.num, p.next, p.erased]

/-- The steward issues a plan of a stripe from a chunk, under a number that never repeats (R415). -/
def State.issuePlan (s : State) (p : PStripe) (first : Nat) : State :=
  let n := s.group.nextPlan
  let s1 := (s.setGroup { s.group with nextPlan := n + 1 }).wr Reg.GLI_REBUILD.PLANNING 1
  let p1 := { p with plan := n, next := first }
  let s2 := ((s1.planMembers p1).filter (fun j => j != s1.own)).foldl
    (fun s j => s.sendMsg j 0x16 [n, s.viewNo, p.num, p.erased, first]) (s1.checkpoint p1)
  s2.takePlan p1 n p.erased first

/-- The steward's rebuild planning: one plan for each stripe that qualifies (R415). -/
def State.rebuildDuty (s : State) : State :=
  if s.leads then (s.group.stripes.filter s.plannable).foldl (fun s p => s.issuePlan p 0) s else s

/-! ### Installing a view (R380, R387, R390) -/

/-- The deputy of a member set: its lowest member other than the steward. -/
def deputyOf (members steward : Nat) : Nat := ((maskMembers members).filter (fun j => j != steward)).headD 0

/-- The steward of a new view takes its lease and carries the rebuilds on from the checkpoints (R390, R419). -/
def State.takeLease (s : State) (previous : Nat) : State :=
  let g := s.group
  let top := g.stripes.foldl (fun m p => max m p.plan) 0
  let last := g.stripes.foldl (fun m p => max m p.num) 0
  let s1 := (s.setGroup { g with lease := s.frame + 4500, hbAt := [], nextPlan := max g.nextPlan (top + 1),
                                 nextStripe := max g.nextStripe (last + 1) }).wr Reg.GLI_STATUS.STEWARD 1
  let s2 := s1.event 0x30 0x0103 (s1.own + previous * 32)
  (s2.group.stripes.filter (fun p => decide (p.st = .rebuilding))).foldl (fun s p => s.issuePlan p p.next) s2

/-- Installs a view. -/
def State.install (s : State) (v : View) : State :=
  let gone := maskMembers (s.viewMask &&& (v.members ^^^ s.viewMask))
  let old := s.steward
  let had := s.viewNo != 0
  let s1 := ((((s.wr Reg.GLI_VIEW.VIEW v.number).wr Reg.GLI_MEMBERS.MASK v.members).wr Reg.GLI_ROLES.STEWARD v.steward).wr
    Reg.GLI_ROLES.DEPUTY v.deputy).bump Reg.GLI_CNT.VIEWS
  let inside := v.members.testBit s.own
  let s2 := ((List.range 24).foldl (fun s j => s.wr Reg.GLI_PEER.IN_VIEW (bit (v.members.testBit j)) j) s1).wr
    Reg.GLI_STATUS.DEPUTY (bit (inside && v.deputy == s.own))
  let g2 : Group := { s2.group with prop := none, acks := 0, winning := false, earlier := none, fails := 0,
                                    grant := s2.frame + 5000 }
  let s3 := (s2.event 0x30 0x0100 v.number).setGroup g2
  let s4 := if had then s3.group.stripes.foldl (fun s p => s.stripeLeaves p gone) s3 else s3
  let s5 := if inside then
      (if s4.gstate = 4 then s4 else s4.wr Reg.GLI_STATUS.STATE 2)
    else if s4.gstate = 4 then s4.record (.admin .leave s4.group.leaver)
    else s4.wr Reg.GLI_STATUS.STATE 1
  let s6 := if inside && v.steward == s5.own then (if had && old == s5.own && s5.leads then s5 else s5.takeLease old)
    else s5.wr Reg.GLI_STATUS.STEWARD 0
  let s7 := if inside then s6.asyncAll 6 (popCount 24 v.members) else s6
  s7.rebuildDuty

/-! ### Proposing (R387, R388) -/

/-- The members a proposal goes to: the electors and the new set. -/
def State.audience (s : State) (v : View) : List Nat := (maskMembers (s.electors ||| v.members)).filter (fun j => j != s.own)

/-- Sends a proposal: the device's own acknowledgement counts when it is an elector (R387). -/
def State.propose (s : State) (v : View) : State :=
  let own := if s.electors.testBit s.own then 2 ^ s.own else 0
  let s1 := (s.setGroup { s.group with prop := some v, acks := own, propAt := s.frame, acked := some v, earlier := none,
                                       winning := false }).record (.admin .view 2)
  (s1.audience v).foldl (fun s j => s.sendMsg j 0x06 [v.number, v.round, v.members, v.steward, v.deputy]) s1

/-- The round a proposal for the next view starts with: above every round the device has acknowledged for it. -/
def State.nextRound (s : State) : Nat :=
  match s.group.acked with
  | some a => if a.number = s.viewNo + 1 then a.round + 1 else 0
  | none => 0

/-- A proposal of a member set with a steward. -/
def State.proposeSet (s : State) (members steward : Nat) : State :=
  s.propose { number := s.viewNo + 1, round := s.nextRound, members := members, steward := steward, deputy := deputyOf members steward }

/-- No stripe that the device knows still gives a member a role (R379, R388). -/
def State.rolesMoved (s : State) (j : Nat) : Bool :=
  s.group.stripes.all (fun p => match p.st with
    | .lost | .released => true
    | _ => match s.roleBit p j with
      | some b => p.erased.testBit b
      | none => true)

/-- The member set that the steward wants next (R388): without the absent and the leaving, itself among them (R379), with the joining that
are Linked. -/
def State.wanted (s : State) : Nat :=
  membersMask (s.listed.filter (fun j =>
    if s.viewMask.testBit j then
      if j = s.own then !(s.gstate == 4 && s.rolesMoved j)
      else !(s.session j == 3 || ((s.peer j).leaving && s.rolesMoved j))
    else s.linked j && s.group.reconciled.testBit j))

/-- The steward proposes what R388 asks for; the lowest-numbered listed member proposes the first view of a group. -/
def State.stewardDuty (s : State) : State :=
  if s.group.prop.isSome then s
  else if s.viewNo = 0 then
    let set := setBit (s.rd Reg.GLI_LINKED.MASK) s.own
    if s.gstate = 1 ∧ s.listed.headD 24 = s.own ∧ majority (membersMask s.listed) set then s.proposeSet set s.own else s
  else if s.leads && s.wanted != s.viewMask then
    let w := s.wanted
    let d := s.rd Reg.GLI_ROLES.DEPUTY
    s.proposeSet w (if w.testBit s.own then s.own else if w.testBit d then d else (maskMembers w).headD 0)
  else s

/-- A majority of the electors has acknowledged: the view becomes durable with the next batch (R387). -/
def State.countAcks (s : State) : State :=
  match s.group.prop with
  | some v =>
    if !s.group.winning && s.group.earlier.isNone && majority s.electors s.group.acks then
      (s.setGroup { s.group with winning := true }).record (.admin .view 1)
    else if !s.group.winning then
      match s.group.earlier with
      | some e => s.propose { v with round := s.nextRound, members := e.members, steward := e.steward, deputy := e.deputy }
      | none => s
    else s
  | none => s

/-- The winning proposal is durable: it is installed and committed to its audience (R387). -/
def State.viewWon (s : State) : State :=
  match s.group.prop with
  | some v =>
    if s.group.winning then
      let s1 := (s.audience v).foldl (fun s j => s.sendMsg j 0x08 [v.number, v.members, v.steward, v.deputy]) s
      s1.install v
    else s
  | none => s

/-- The durable acknowledgement of a proposal is sent (R387). -/
def State.viewAckSend (s : State) : State :=
  match s.group.ackDue, s.group.acked with
  | some (j, earlier), some v =>
    let e := match earlier with
      | some e => [1, e.number, e.round, e.members, e.steward, e.deputy]
      | none => [0]
    (s.setGroup { s.group with ackDue := none }).sendMsg j 0x07 ([v.number, v.round] ++ e)
  | _, _ => s

/-- Two proposals name the same set, steward and deputy. -/
def sameView (a b : View) : Bool := a.members == b.members && a.steward == b.steward && a.deputy == b.deputy

/-! ### Ledger states for a member being reconciled (R420) -/

/-- The states of a slot's granules as a parity member holds them, from an offset. -/
def PStripe.states (p : PStripe) (slot first n : Nat) : List Nat :=
  (List.range n).map (fun i => (Tbl.get {} p.tally (tallyKey slot (first + i))).st)

/-- States carried by one LEDGER_SYNC: what fits in 4,048 payload bytes. -/
def syncLen : Nat := 4032

/-- A parity member sends a slot's states to the slot's member, as many messages as they need. -/
def State.syncSlot (s : State) (p : PStripe) (slot j : Nat) : State :=
  (List.range (ceilDiv 16384 syncLen)).foldl (fun s i =>
    s.sendMsg j 0x19 ([p.num, slot, syncLen * i] ++ p.states slot (syncLen * i) (min syncLen (16384 - syncLen * i)))) s

/-- On a session with a member that is not yet in the view, or while the device itself is not, the states of the stripes they share are
exchanged once: a parity member sends a data member its slot's states, and a returning parity member tells the other one. -/
def State.syncWith (s : State) (j : Nat) : State :=
  if (s.peer j).synced || (s.viewMask.testBit j && s.inView) then s
  else
    let s1 := s.setPeer j { s.peer j with synced := true }
    let s2 := s1.group.stripes.foldl (fun s p =>
      match p.st with
      | .lost | .released | .rebuilding => s
      | _ =>
        if s.isParity p then
          match s.slotOfMember p j with
          | some m => s.syncSlot p m j
          | none => if !s.inView && (p.p == j || p.q == j) then s.sendMsg j 0x19 [p.num, if p.p = s.own then 0xFE else 0xFF, 0] else s
        else s) s1
    s2.setGroup { s2.group with reconciled := setBit s2.group.reconciled j }

/-! ### Rows -/

/-- HEARTBEAT_SEND (R385, R386, R389): every 100 frames to every Linked peer; the steward numbers it, a member echoes the latest number. -/
def execHeartbeatSend (s : State) : Host.Outcome State Fault Refusal :=
  if s.groupUp && decide (s.group.lastSent + 100 ≤ s.frame) then
    let lead := s.viewNo != 0 && s.inView && s.steward == s.own
    let n := if lead then s.group.hb + 1 else s.group.heard
    let g := s.group
    let recent := g.hbAt.filter (fun e => decide (s.frame < e.2 + 4500))
    let s1 := s.setGroup (if lead then { g with lastSent := s.frame, hb := n, hbAt := Tbl.set 0 recent n s.frame }
      else { g with lastSent := s.frame })
    let peers := s1.listed.filter s1.linked
    let s2 := peers.foldl (fun s j =>
      (s.wr Reg.GLI_PEER.MISSED (min 255 ((s.frame - (s.peer j).heardAt) / 100)) j).sendMsg j 0x05 [n, s.group.incarnation, s.gstate]) s1
    ok (s2.stewardDuty.rebuildDuty)
  else ok s

/-- The steward's lease follows the latest heartbeat that a majority of its view, counting itself, has echoed (R389). -/
def State.renewLease (s : State) : State :=
  if s.viewNo != 0 && s.inView && s.steward == s.own then
    let held := s.group.hbAt.filter (fun e =>
      majority s.viewMask (membersMask ((maskMembers s.viewMask).filter (fun j => j == s.own || decide (e.1 ≤ (s.peer j).echoed)))))
    let at_ := held.foldl (fun m e => max m e.2) 0
    if held.isEmpty then s
    else
      let lease := max s.group.lease (at_ + 4500)
      (s.setGroup { s.group with lease := lease }).wr Reg.GLI_STATUS.STEWARD (bit (decide (s.frame < lease)))
  else s

/-- A member that says it is Leaving: its parity roles are handled as R418 says. -/
def State.peerLeaves (s : State) (j : Nat) : State :=
  if (s.peer j).leaving then s
  else
    let s1 := s.setPeer j { s.peer j with leaving := true, goneAt := s.frame }
    (s1.group.stripes.filter (fun p => (p.p == j || p.q == j) && (match p.st with
      | .lost | .released => false
      | _ => true))).foldl (fun s p => s.rePlace p) s1

/-- HEARTBEAT (R380, R383, R385, R387, R389). -/
def execHeartbeat (peer : Fin 24) (hdr : Hdr) (steward : Nat) (incarnation : Nat) (state : Nat) (view : View) (s : State) :
    Host.Outcome State Fault Refusal :=
  let j := peer.val
  match s.take j hdr with
  | none => ok s
  | some s1 =>
    if !tookOk s1 j then ok s1
    else if incarnation != s1.rd Reg.GLI_PEER.INCARNATION j then ok (s1.dropSession j 3)
    else
      let p := s1.peer j
      let echo := if s1.steward = s1.own then max p.echoed steward else p.echoed
      let s2 := (s1.setPeer j { p with heardAt := s1.frame, echoed := echo }).wr Reg.GLI_PEER.MISSED 0 j
      let s3 := if s2.viewNo < hdr.view ∧ view.number = hdr.view then s2.install view else s2
      let s4 := if s3.viewNo ≠ 0 ∧ s3.steward = j ∧ j ≠ s3.own then
          s3.setGroup { s3.group with heard := max s3.group.heard steward, grant := s3.frame + 5000 }
        else s3
      let s5 := s4.renewLease
      let s6 := if s5.gstate = 3 && s5.viewMask.testBit s5.own && s5.hearsMajority then s5.wr Reg.GLI_STATUS.STATE 2 else s5
      let s7 := if state = 4 then s6.peerLeaves j else s6
      ok ((s7.syncWith j).stewardDuty)

/-- PEER_ABSENT (R383, R388): 2,000 frames without a heartbeat. -/
def execPeerAbsent (peer : Fin 24) (s : State) : Host.Outcome State Fault Refusal :=
  let j := peer.val
  if s.groupUp && s.linked j && decide ((s.peer j).heardAt + 2000 ≤ s.frame) then
    let s1 := (s.setSession j 3).event 0x30 0x0101 j
    ok ((s1.setPeer j { s1.peer j with key := none, goneAt := s1.frame }).stewardDuty)
  else ok s

/-- VIEW_PROPOSE (R387, R389): acknowledged when the view before it is installed, the round is above every round acknowledged for it, and
the grant names no other steward; the acknowledgement is sent once it is durable. -/
def execViewPropose (peer : Fin 24) (hdr : Hdr) (view : View) (s : State) : Host.Outcome State Fault Refusal :=
  let j := peer.val
  match s.take j hdr with
  | none => ok s
  | some s1 =>
    let before := match s1.group.acked with
      | some a => if a.number = view.number then some a else none
      | none => none
    let fresh := match before with
      | some a => decide (a.round < view.round)
      | none => true
    let granted := s1.viewNo != 0 && decide (s1.frame < s1.group.grant) && view.steward != s1.steward
    if tookOk s1 j && view.number == s1.viewNo + 1 && fresh && !granted then
      ok ((s1.setGroup { s1.group with acked := some view, ackDue := some (j, before) }).record (.admin .view 0))
    else ok s1

/-- VIEW_ACK (R387): counted for the proposal in progress; an earlier proposal it names replaces the proposer's own set. -/
def execViewAck (peer : Fin 24) (hdr : Hdr) (view : View) (earlier : Option View) (s : State) : Host.Outcome State Fault Refusal :=
  let j := peer.val
  match s.take j hdr with
  | none => ok s
  | some s1 =>
    match s1.group.prop with
    | some v =>
      if tookOk s1 j && v.number == view.number && v.round == view.round then
        let best := match earlier, s1.group.earlier with
          | some e, some b => if sameView e v then some b else if b.round < e.round then some e else some b
          | some e, none => if sameView e v then none else some e
          | none, b => b
        ok (s1.setGroup { s1.group with acks := setBit s1.group.acks j, earlier := best }).countAcks
      else ok s1
    | none => ok s1

/-- VIEW_COMMIT (R387): a view above the installed one is installed. -/
def execViewCommit (peer : Fin 24) (hdr : Hdr) (view : View) (s : State) : Host.Outcome State Fault Refusal :=
  let j := peer.val
  match s.take j hdr with
  | none => ok s
  | some s1 => if tookOk s1 j && decide (s1.viewNo < view.number) then ok (s1.install view) else ok s1

/-- LEAVE_REQUEST (R379, R388): the steward moves the member's stripe roles and proposes a view without it. -/
def execLeaveRequest (peer : Fin 24) (hdr : Hdr) (s : State) : Host.Outcome State Fault Refusal :=
  let j := peer.val
  match s.take j hdr with
  | none => ok s
  | some s1 => if tookOk s1 j then ok ((s1.peerLeaves j).stewardDuty) else ok s1

/-- The place of the device among the members that may propose once the grant has expired: those of the view other than the steward that
are the device itself or are heard. -/
def State.proposerRank (s : State) : Nat :=
  ((s.hears.filter (fun j => j != s.steward)).takeWhile (fun j => j != s.own)).length

/-- GRANT_EXPIRY (R390): the lowest InView member, and after each three failed rounds the next one, proposes the successor view with
itself as steward; an Absent old steward is left out. -/
def execGrantExpiry (s : State) : Host.Outcome State Fault Refusal :=
  if s.groupUp && s.gstate == 2 && s.viewNo != 0 && s.steward != s.own && decide (s.group.grant ≤ s.frame) && s.group.prop.isNone
      && decide (s.proposerRank * 3000 ≤ s.frame - s.group.grant) then
    let members := if s.session s.steward = 3 then clearBit s.viewMask s.steward else s.viewMask
    ok (s.proposeSet members s.own)
  else ok s

/-- PROPOSAL_RETRY (R390): no majority after 1,000 frames; the proposal goes out with a higher round. -/
def execProposalRetry (s : State) : Host.Outcome State Fault Refusal :=
  match s.group.prop with
  | some v =>
    if s.groupUp && !s.group.winning && decide (s.group.propAt + 1000 ≤ s.frame) then
      let s1 := s.setGroup { s.group with fails := s.group.fails + 1 }
      ok (s1.propose { v with round := s1.nextRound })
    else ok s
  | none => ok s

/-- STEWARD_LEASE_EXPIRY (R389): the device stops coordinating. -/
def execStewardLeaseExpiry (s : State) : Host.Outcome State Fault Refusal :=
  if s.groupUp && s.on Reg.GLI_STATUS.STEWARD && decide (s.group.lease ≤ s.frame) then
    ok (((s.wr Reg.GLI_STATUS.STEWARD 0).wr Reg.GLI_REBUILD.PLANNING 0).setGroup { s.group with prop := none, acks := 0, winning := false })
  else ok s

/-- ISOLATION_TIMEOUT (R380): no heartbeat from a majority for 5,000 frames. -/
def execIsolationTimeout (s : State) : Host.Outcome State Fault Refusal :=
  if s.groupUp && s.gstate == 2 && !s.hearsMajority then
    ok ((s.wr Reg.GLI_STATUS.STATE 3).event 0x30 0x0105 s.hears.length)
  else ok s

end Sys2Proof.Machine
end

