-- ==== Sys2Proof/Machine/StripeRows.lean ====
section
/-! DEFINITION. The commands of peer stripes: opening, contributions, acknowledgements, closing, rebuild, ledger and outer reads
(R402 to R421), row rebuilds and outer patrol (R325, R326, R331 to R333). -/

set_option Elab.async false

namespace Sys2Proof.Machine

/-! ### Opening and closing -/

/-- Open stripes in which a member holds an unclosed data segment. -/
def State.openSegments (s : State) (j : Nat) : Nat :=
  (s.group.stripes.filter (fun p => decide (p.st = .opened) && (match s.slotOfMember p j with
    | some m => !p.closed.testBit m
    | none => false))).length

/-- The next stripe number whose P and Q are both in the view, looking at most N numbers ahead (R402). -/
def State.nextNumber (s : State) : Option Nat :=
  (((List.range (max 1 s.listed.length)).map (fun i => s.group.nextStripe + i)).find? (fun n =>
    s.viewMask.testBit (s.memberAt n) && s.viewMask.testBit (s.memberAt (n + 1))))

/-- STRIPE_OPEN_ISSUE (R401, R402): while its lease runs the steward opens the next stripe when some member of the view has fewer than
AHEAD open stripes. -/
def execStripeOpenIssue (s : State) : Host.Outcome State Fault Refusal :=
  if s.groupUp && s.leads && s.gstate == 2
      && (maskMembers s.viewMask).any (fun j => decide (s.openSegments j < s.rd Reg.GLI_STRIPE_CFG.AHEAD)) then
    match s.nextNumber with
    | some n =>
      let k := min (s.rd Reg.GLI_STRIPE_CFG.K) (s.listed.length - 2)
      let p := s.memberAt n
      let q := s.memberAt (n + 1)
      let vacant := ((List.range k).filter (fun m => !s.viewMask.testBit (s.memberAt (n + 2 + m)))).foldl setBit 0
      let s1 := s.setGroup { s.group with nextStripe := n + 1 }
      let dst := ([p, q] ++ ((List.range k).filter (fun m => !vacant.testBit m)).map (fun m => s.memberAt (n + 2 + m))).filter (fun j => j != s.own)
      ok ((dst.foldl (fun s j => s.sendMsg j 0x10 [n, k, p, q, vacant, s.viewNo]) s1).openStripe n k p q vacant s1.viewNo)
    | none => ok s
  else ok s

/-- STRIPE_OPEN (R402, R413): the stripe is recorded by its members. -/
def execStripeOpen (peer : Fin 24) (hdr : Hdr) (stripe : Nat) (k : Nat) (p : Nat) (q : Nat) (vacant : Nat) (view : Nat) (s : State) :
    Host.Outcome State Fault Refusal :=
  let j := peer.val
  match s.take j hdr with
  | none => ok s
  | some s1 => if tookOk s1 j && s1.gstate != 4 then ok (s1.openStripe stripe k p q vacant view) else ok s1

/-- Every slot of an Open stripe is closed: it is Sealed (R412). -/
def State.sealIfClosed (s : State) (num : Nat) : State :=
  match s.pstripe num with
  | some p => if p.st = .opened ∧ p.slots.all (fun m => p.closed.testBit m) then s.stripeGo p .sealed else s
  | none => s

/-- SEG_CLOSE (R403, R411, R412): the slot's segment is closed, with its S_CLOSE record. -/
def execSegClose (peer : Fin 24) (hdr : Hdr) (stripe : Nat) (slot : Nat) (granules : Nat) (s : State) :
    Host.Outcome State Fault Refusal :=
  let j := peer.val
  match s.take j hdr with
  | none => ok s
  | some s1 =>
    match s1.pstripe stripe with
    | some p =>
      if tookOk s1 j && s1.slotMember p slot == j && p.slots.contains slot then
        let p1 := { p with closed := setBit p.closed slot }
        ok (((s1.setStripe p1).ledger p1 0x43 slot granules).sealIfClosed stripe)
      else ok s1
    | none => ok s1

/-- SEAL_WAIT_EXPIRY (R403): the own segment of a stripe is closed SEAL_WAIT after the stripe was opened. -/
def execSealWaitExpiry (stripe : Nat) (s : State) : Host.Outcome State Fault Refusal :=
  match s.pstripe stripe with
  | some p =>
    match s.slotOfMember p s.own with
    | some m =>
      if s.groupUp && decide (p.st = .opened) && !p.closed.testBit m
          && decide (p.openedAt + 100 * s.rd Reg.GLI_STRIPE_CFG.SEAL_WAIT ≤ s.frame) then
        ok ((s.segClose p).sealIfClosed stripe)
      else ok s
    | none => ok s
  | none => ok s

/-! ### Contributions -/

/-- The granules of a CONTRIB as a source's report: their bytes are read from the staging slots (R406, R416). -/
def State.reportOf (s : State) (j slot : Nat) (es : List Entry) : ChunkSource :=
  { slot := slot, grans := es.map (fun e => (e.off, if e.unreadable then none else some (s.stageBlock j e.stage), e.head)) }

/-- Every readable entry of a CONTRIB agrees with its digest. -/
def State.digestsOk (s : State) (j : Nat) (es : List Entry) : Bool :=
  es.all (fun e => e.unreadable || dg (s.stageBlock j e.stage) == e.dg)

/-- CONTRIB (R405, R408, R414, R416, R417): applied as a parity member, an aggregator or a target. -/
def execContrib (peer : Fin 24) (hdr : Hdr) (stripe : Nat) (slot : Nat) (flags : Nat) (plan : Nat) (entries : List Entry) (s : State) :
    Host.Outcome State Fault Refusal :=
  let j := peer.val
  match s.take j hdr with
  | none => ok s
  | some s1 =>
    if !tookOk s1 j then ok s1
    else if flags.testBit 2 then
      if s1.digestsOk j entries then
        ok ((s1.sendMsg j 0x12 [stripe, hdr.seq, 2, 0]).report stripe ((entries.map (·.off)).headD 0 / 16) plan (flags.testBit 4)
          (s1.reportOf j slot entries))
      else ok ((s1.sendMsg j 0x12 [stripe, hdr.seq, 2, 3]).event 0x30 0x0114 (3 + j * 2 ^ 8))
    else if flags.testBit 3 then
      match s1.pstripe stripe with
      | some p =>
        if !(s1.targets p).contains (slot, s1.own) || plan != p.plan then
          ok ((s1.sendMsg j 0x12 [stripe, hdr.seq, 3, 2]).event 0x30 0x0114 (2 + j * 2 ^ 8))
        else if s1.digestsOk j entries then
          let s2 := entries.foldl (fun s e =>
            if slot = 0xFE ∨ slot = 0xFF then
              match s.pstripe stripe with
              | some p => s.applyParity p e.off (s.stageBlock j e.stage)
              | none => s
            else s.applyRebuilt p slot e.off e.head (s.stageBlock j e.stage)) s1
          ok (s2.setGroup { s2.group with owedNext := s2.group.owedNext ++ [(j, stripe, hdr.seq, 3)] })
        else ok ((s1.sendMsg j 0x12 [stripe, hdr.seq, 3, 3]).event 0x30 0x0114 (3 + j * 2 ^ 8))
      | none => ok ((s1.sendMsg j 0x12 [stripe, hdr.seq, 3, 1]).event 0x30 0x0114 (1 + j * 2 ^ 8))
    else ok (s1.contribParity j hdr.seq stripe slot flags entries)

/-- A granule's acknowledgement counts for the version it came from (R30). -/
def State.ackVersion (s : State) (g : Gran) (isQ : Bool) : State :=
  s.mapVersions (fun v =>
    if v.osn = g.head.osn ∧ v.iu = g.head.lba / 4 then
      let v1 := if isQ then { v with ackQ := setBit v.ackQ (g.head.lba % 4) } else { v with ackP := setBit v.ackP (g.head.lba % 4) }
      { v1 with placed := v1.ackP == v1.mask && v1.ackQ == v1.mask }
    else v)

/-- A parity member has acknowledged granules of the own segment (R30, R408, R410, R412). -/
def State.acked (s : State) (p : PStripe) (m : Sent) (isQ : Bool) : State :=
  let mine (g : Gran) : Bool := m.offs.contains g.off
  let p1 := { p with grans := p.grans.map (fun g =>
    if !mine g then g
    else if m.withdraw then (if isQ then { g with wdQ := true } else { g with wdP := true })
    else (if isQ then { g with ackQ := true } else { g with ackP := true })) }
  let s1 := s.setStripe p1
  if m.withdraw then
    if p1.st = .sealed ∧ p1.grans.any (fun g => p1.withdrawnDone g) then s1.stripeGo p1 .thinning else s1
  else (p.grans.filter mine).foldl (fun s g => s.ackVersion g isQ) s1

/-- CONTRIB_ACK (R30, R407, R408, R409): the staging slots are free again; a good status counts, another lets the granules out again
(DEDUCED: log entry 72). -/
def execContribAck (peer : Fin 24) (hdr : Hdr) (stripe : Nat) (cseq : Nat) (role : Nat) (status : Nat) (s : State) :
    Host.Outcome State Fault Refusal :=
  let j := peer.val
  match s.take j hdr with
  | none => ok s
  | some s1 =>
    match s1.group.sent.find? (fun m => tookOk s1 j && m.peer == j && m.seq == cseq && m.stripe == stripe) with
    | none => ok s1
    | some m =>
      let s2 := s1.setGroup { s1.group with sent := s1.group.sent.filter (fun x => decide (x ≠ m)) }
      if m.osn ≠ 0 then
        match s2.ctxOfOsn m.osn with
        | some c => if status = 0 then ok (s2.setCtx c { s2.ctx c with note := setBit (s2.ctx c).note role }) else ok s2
        | none => ok s2
      else
        match s2.pstripe stripe with
        | none => ok s2
        | some p =>
          if 1 < role then ok s2
          else if status = 0 then ok (s2.acked p m (role == 1))
          else if m.withdraw then ok s2
          else if status = 3 then
            ok (s2.push j stripe m.slot 0 0 ((p.grans.filter (fun g => m.offs.contains g.off)).map (fun g => (g.off, some g.data.bytes, g.head))))
          else ok (s2.replaceGrans p (fun g => m.offs.contains g.off && !(g.ackP && g.ackQ)))

/-- RANGE_NOTE (R397, R411, R413): held with the stripe, with its S_RANGE record, and acknowledged once that is durable. -/
def execRangeNote (peer : Fin 24) (hdr : Hdr) (stripe : Nat) (slba : Nat) (nblk : Nat) (zeroes : Bool) (incarnation : Nat) (osn : Nat)
    (s : State) : Host.Outcome State Fault Refusal :=
  let j := peer.val
  match s.take j hdr with
  | none => ok s
  | some s1 =>
    if !tookOk s1 j then ok s1
    else match s1.pstripe stripe with
      | some p =>
        match s1.slotOfMember p j with
        | some m =>
          if s1.isParity p && incarnation == s1.rd Reg.GLI_PEER.INCARNATION j then
            let p1 := { p with notes := p.notes ++ [(m, slba, nblk, osn)] }
            let s2 := (s1.setStripe p1).ledger p1 0x42 (slba + m * 2 ^ 48) (nblk + bit zeroes * 2 ^ 32)
            ok (s2.setGroup { s2.group with owedNext := s2.group.owedNext ++ [(j, stripe, hdr.seq, if p.p = s2.own then 0 else 1)] })
          else ok (s1.sendMsg j 0x12 [stripe, hdr.seq, 0, 1])
        | none => ok (s1.sendMsg j 0x12 [stripe, hdr.seq, 0, 1])
      | none => ok (s1.sendMsg j 0x12 [stripe, hdr.seq, 0, 1])

/-- STRIPE_STATE (R412, R413): the state and the erased mask that P reports. -/
def execStripeState (peer : Fin 24) (hdr : Hdr) (stripe : Nat) (state : Nat) (erased : Nat) (s : State) :
    Host.Outcome State Fault Refusal :=
  let j := peer.val
  match s.take j hdr with
  | none => ok s
  | some s1 =>
    match s1.pstripe stripe with
    | some p =>
      if tookOk s1 j && decide (state < 7) && (p.st.code != state || p.erased != erased) then
        ok (s1.stripeGo { p with erased := erased } (stripeStOf state))
      else ok s1
    | none => ok s1

/-! ### Rebuild -/

/-- REBUILD_PLAN (R415, R416): taken when its number is the highest for the stripe and its view is installed; a target that never held
the stripe takes its roles from the stripe number. -/
def execRebuildPlan (peer : Fin 24) (hdr : Hdr) (plan : Nat) (view : Nat) (stripe : Nat) (erased : Nat) (first : Nat) (s : State) :
    Host.Outcome State Fault Refusal :=
  let j := peer.val
  match s.take j hdr with
  | none => ok s
  | some s1 =>
    if !tookOk s1 j || view != s1.viewNo || j != s1.steward then ok s1
    else
      let s2 := if (s1.pstripe stripe).isSome then s1
        else s1.openStripe stripe (min (s1.rd Reg.GLI_STRIPE_CFG.K) (s1.listed.length - 2)) (s1.memberAt stripe) (s1.memberAt (stripe + 1)) 0 view
      match s2.pstripe stripe with
      | some p => if p.plan < plan then ok (s2.takePlan p plan erased first) else ok s2
      | none => ok s2

/-- Every chunk of a plan has been reported: the stripe is Sealed again, or Thinning when a granule is withdrawn (R412). -/
def State.rebuilt (s : State) (p : PStripe) : State :=
  let thin := p.tally.any (fun e => e.2.st == 2) || p.grans.any (fun g => g.withdrawn)
  let p1 := { p with erased := 0, done := 0 }
  let s1 := (s.stripeGo p1 (if thin then .thinning else .sealed)).event 0x30 0x0112 (p.num % 2 ^ 32)
  let s2 := [p.p, p.q].foldl (fun s j => if j = s.own then s else s.sendMsg j 0x15 [p.num, if thin then 2 else 1, 0]) s1
  if s2.group.stripes.any (fun x => decide (x.st = .rebuilding)) then s2 else s2.wr Reg.GLI_REBUILD.PLANNING 0

/-- A chunk of a plan is done: the checkpoint moves (R419). -/
def State.chunkDone (s : State) (p : PStripe) (chunk status : Nat) : State :=
  let done := setBit p.done chunk
  let next := ((List.range 1024).find? (fun c => !done.testBit c)).getD 1024
  let p1 := { p with done := done, next := next }
  let s1 := (s.setStripe p1).checkpoint p1
  if status = 1 then s1.stripeGo p1 .lost
  else if next = 1024 then s1.rebuilt p1 else s1

/-- CHUNK_DONE (R419): counted by the steward under the present plan. -/
def execChunkDone (peer : Fin 24) (hdr : Hdr) (plan : Nat) (stripe : Nat) (chunk : Nat) (status : Nat) (unsolved : Nat) (s : State) :
    Host.Outcome State Fault Refusal :=
  let j := peer.val
  match s.take j hdr with
  | none => ok s
  | some s1 =>
    match s1.pstripe stripe with
    | some p =>
      if tookOk s1 j && s1.leads && plan == p.plan && decide (p.st = .rebuilding ∧ chunk < 1024) then
        ok (s1.chunkDone p chunk (if unsolved = 0 then status else 1))
      else ok s1
    | none => ok s1

/-- CHECKPOINT (R411, R419): the deputy records RB_CKPT. -/
def execCheckpoint (peer : Fin 24) (hdr : Hdr) (plan : Nat) (stripe : Nat) (next : Nat) (erased : Nat) (s : State) :
    Host.Outcome State Fault Refusal :=
  let j := peer.val
  match s.take j hdr with
  | none => ok s
  | some s1 =>
    if tookOk s1 j && j == s1.steward then
      let s2 := s1.record (.ledger 0x46 stripe (plan + next * 2 ^ 32) erased)
      match s2.pstripe stripe with
      | some p => ok (s2.setStripe { p with plan := max p.plan plan, next := next, erased := erased })
      | none => ok s2
    else ok s1

/-- CHECKPOINT_TIMER (R419): 1,000 frames since the last rebuild checkpoint. -/
def execCheckpointTimer (s : State) : Host.Outcome State Fault Refusal :=
  if s.groupUp && s.leads && decide (s.group.ckptAt + 1000 ≤ s.frame) then
    ok ((s.group.stripes.filter (fun p => decide (p.st = .rebuilding))).foldl (fun s p => s.checkpoint p) s)
  else ok s

/-! ### Reconciliation (R420) -/

/-- The own state of a granule as LEDGER_SYNC spells it. -/
def PStripe.granState (p : PStripe) (o : Nat) : Nat :=
  match p.grans.find? (fun g => g.off == o) with
  | some g => if g.withdrawn then 2 else 1
  | none => 0

/-- The role of a member is reconciled: its erased bit is cleared, and with none left the stripe returns to the state before (R412). -/
def State.reconcile (s : State) (p : PStripe) (j : Nat) : State :=
  match s.roleBit p j with
  | some b =>
    if p.erased.testBit b && decide (p.st = .degraded) then
      let e := clearBit p.erased b
      s.stripeGo { p with erased := e } (if e = 0 then p.before else .degraded)
    else s
  | none => s

/-- LEDGER_SYNC (R420): a data member pushes each granule whose states differ and answers with its own states; a parity member that has
seen the whole slot reconciles the member. -/
def execLedgerSync (peer : Fin 24) (hdr : Hdr) (stripe : Nat) (slot : Nat) (first : Nat) (states : List Nat) (s : State) :
    Host.Outcome State Fault Refusal :=
  let j := peer.val
  match s.take j hdr with
  | none => ok s
  | some s1 =>
    if !tookOk s1 j then ok s1
    else match s1.pstripe stripe with
      | none => ok (s1.sendMsg j 0x19 [stripe, slot, first])
      | some p =>
        if 22 ≤ slot then ok (s1.reconcile p j)
        else if s1.slotOfMember p s1.own = some slot then
          let diff := states.zipIdx.filter (fun e => e.1 != p.granState (first + e.2))
          let offs := diff.map (fun e => first + e.2)
          let add := p.grans.filter (fun g => offs.contains g.off && !g.withdrawn)
          let cut := p.grans.filter (fun g => offs.contains g.off && g.withdrawn && Tbl.get 0 (diff.map (fun e => (first + e.2, e.1))) g.off == 1)
          let s2 := s1.push j stripe slot 0 0 (add.map (fun g => (g.off, some g.data.bytes, g.head)))
          let s3 := s2.push j stripe slot 1 0 (cut.map (fun g => (g.off, some g.data.bytes, {})))
          ok (s3.sendMsg j 0x19 ([stripe, slot, first] ++ (List.range states.length).map (fun i => p.granState (first + i))))
        else if s1.isParity p && s1.slotOfMember p j == some slot && decide (16384 ≤ first + states.length) then ok (s1.reconcile p j)
        else ok s1

/-! ### Outer reads and outer patrol -/

/-- OUTER_READ (R421): the device pushes its own granules of the range to the member that asks. -/
def execOuterRead (peer : Fin 24) (hdr : Hdr) (stripe : Nat) (slot : Nat) (first : Nat) (count : Nat) (s : State) :
    Host.Outcome State Fault Refusal :=
  let j := peer.val
  match s.take j hdr with
  | none => ok s
  | some s1 =>
    match s1.pstripe stripe with
    | some p =>
      if tookOk s1 j && s1.slotMember p slot == j && decide (1 ≤ count ∧ count ≤ 16) then
        let rep := s1.ownReport p (first / 16)
        let grans := rep.grans.filter (fun g => decide (first ≤ g.1 ∧ g.1 < first + count))
        ok (s1.push j stripe rep.slot 0x14 0 (if grans.isEmpty then [(first, some 0, {})] else grans))
      else ok s1
    | none => ok s1

/-- PATROL_REQUEST (R332): the device answers with the digests of its role. -/
def execPatrolRequest (peer : Fin 24) (hdr : Hdr) (stripe : Nat) (chunk : Nat) (count : Nat) (s : State) :
    Host.Outcome State Fault Refusal :=
  let j := peer.val
  match s.take j hdr with
  | none => ok s
  | some s1 =>
    if !tookOk s1 j then ok s1
    else match s1.pstripe stripe with
      | none => ok (s1.sendMsg j 0x31 ([stripe, chunk, count, s1.own, 0, 3] ++ List.replicate (2 * count) 0))
      | some p =>
        let slot := if p.q = s1.own then 0xFF else if p.p = s1.own then 0xFE else (s1.slotOfMember p s1.own).getD 0
        let lost := p.grans.any (fun g => decide (chunk ≤ g.off / 16 ∧ g.off / 16 < chunk + count) && !g.withdrawn && (match g.data with
          | .lost => true
          | _ => false))
        let status := match p.st with
          | .lost | .released => 3
          | _ => if lost then 2 else 0
        let digests := (List.range count).flatMap (fun i => s1.chunkDigests p (chunk + i))
        ok (s1.sendMsg j 0x31 ([stripe, chunk, count, s1.own, slot, status] ++ digests))

/-- Every reply of an outer patrol request has come: the chunks are compared (R333). -/
def State.patrolJudge (s : State) (p : PStripe) (w : PatrolWait) : State :=
  let s0 : State := { s with patrol := { s.patrol with waits := s.patrol.waits.filter (fun x => decide (x.stripe ≠ w.stripe ∨ x.chunk ≠ w.chunk)) } }
  if w.replies.any (fun r => r.status == 3) then s0.sendMsg s0.steward 0x15 [p.num, p.st.code, p.erased]
  else if w.replies.any (fun r => r.status == 2) then s0
  else (List.range w.count).foldl (fun s i =>
    let own := (s.chunkDigests p (w.chunk + i)).headD 0
    let c := patrolCompare own w.replies i
    if c.1 && c.2 then s
    else (s.bump Reg.MIN_CNT.OUTER_MISMATCH).event 0x26 0x0104 ((w.chunk + i) % 1024 + bit (!c.1) * 2 ^ 10 + bit (!c.2) * 2 ^ 11)) s0

/-- PATROL_REPLY (R333): a reply is kept until every role has replied. -/
def execPatrolReply (peer : Fin 24) (hdr : Hdr) (stripe : Nat) (chunk : Nat) (count : Nat) (slot : Nat) (status : Nat) (digests : List Nat)
    (s : State) : Host.Outcome State Fault Refusal :=
  let j := peer.val
  match s.take j hdr with
  | none => ok s
  | some s1 =>
    if !tookOk s1 j then ok s1
    else match s1.pstripe stripe, s1.patrol.waits.find? (fun w => w.stripe == stripe && w.chunk == chunk && w.count == count) with
      | some p, some w =>
        let w1 := { w with replies := w.replies.filter (fun r => r.slot != slot) ++
                                      [{ member := j, slot := slot, status := status, digests := digests }] }
        let s2 : State := { s1 with patrol := { s1.patrol with waits := s1.patrol.waits.map (fun x => if x = w then w1 else x) } }
        if (s2.patrolRoles p).all (fun r => w1.replies.any (fun x => x.slot == r)) then ok (s2.patrolJudge p w1) else ok s2
      | _, _ => ok s1

/-- PATROL_REPLY_TIMEOUT (R333): requests without every reply after 1,000 frames are left to the next pass. -/
def execPatrolReplyTimeout (s : State) : Host.Outcome State Fault Refusal :=
  if s.serving then
    ok { s with patrol := { s.patrol with waits := s.patrol.waits.filter (fun w => decide (s.frame < w.deadline)) } }
  else ok s

/-! ### Row rebuilds (R325, R326) -/

/-- The detail of event 0x0100: channel, LUN, plane and page. -/
def rowDetail (a : Nat) : Nat := adChannel a + adLunNo a * 2 ^ 6 + adPlane a * 2 ^ 11 + adPage a * 2 ^ 13

/-- A codeword ends its row step unrebuilt: to step 5 when its contribution is acknowledged, else it is unrecovered (R50, R326). -/
def State.rowFailed (s : State) (d : Dec) : State :=
  match s.outerOf (s.lbaOf d.addr d.cw) with
  | some (p, g) =>
    let s1 := (s.bump Reg.MIN_CNT2.ESCALATED).event 0x26 0x0101 (adChannel d.addr + 2 ^ 6)
    (s1.mapDecs (fun e => decide (e = d)) (fun e => { e with st := .outer })).outerRead p g
  | none => s.unrecovered d 0x0020

/-- ROW_REBUILD_DONE (R325, R326): a rebuilt codeword whose tag verifies is delivered and its page relocated; any other goes to step 5.
A page of a row that is not closed is not rebuilt (DESIGN CHOICE: log entry 60). -/
def execRowRebuildDone (page : Nat) (cw : Fin 16) (okD : Bool) (s : State) : Host.Outcome State Fault Refusal :=
  if s.sup.coreUp then
    let ds := s.decsAt page cw.val .row
    let lba := s.lbaOf page cw.val
    let good := match s.tagCheck lba (s.codewordOf page cw.val) with
      | .good => true
      | _ => false
    let others := s.decs.any (fun d => d.addr == page && d.cw != cw.val && decide (d.st = .row))
    let s1 := if okD && good && s.rowClosed page && !ds.isEmpty && !others then
        ((s.count 0x050 8).event 0x26 0x0100 (rowDetail page)).refresh page false
      else s
    ok (ds.foldl (fun s d =>
      if okD && s.rowClosed page then
        match s.tagCheck lba (s.codewordOf page cw.val) with
        | .good => (s.dropDec d).blockReady d true
        | .marked => (s.dropDec d).blockBad d 0x0020
        | .bad => if d.badTag then s.unrecovered d 0x0022 else s.rowFailed d
      else s.rowFailed d) s1)
  else ok s

end Sys2Proof.Machine
end

