-- ==== Sys2Proof/Machine/Ftl.lean ====
section
/-! DEFINITION. Bands, placement, folds, garbage collection, wear, ranges, spare space and grades, map write-out and checkpoints
(R341 to R369). -/

set_option Elab.async false

namespace Sys2Proof.Machine

/-! ### Die sets and free blocks (R351, R352, R361) -/

/-- The live channels of die set d: ready, with the LUN populated, in service and not set aside for raw use. -/
def State.liveOf (s : State) (d : Nat) : List Nat :=
  (List.range 64).filter (fun c => s.chanReady c && s.lunPopulated c d && !s.lunFailed c d && !s.lunRaw c d)

/-- The block indexes of a LUN that are not free: some plane of them is in a band, retired, raw or being erased. -/
def State.usedBlocks (s : State) (c d : Nat) : List Nat :=
  (s.blks.filter (fun e =>
    let a := e.1 * 2 ^ 14
    adChannel a == c && adLunNo a == d && (e.2.band != 0 || e.2.started != 0 || (match e.2.st with
      | .retired | .raw | .erasing => true
      | _ => false)))).foldl (fun l e => insertNat (adBlock (e.1 * 2 ^ 14)) l) []

/-- Free blocks of a LUN. -/
def State.freeBlocks (s : State) (c d : Nat) : Nat := dieBlocks s.ucode.active (s.lun c d).die - (s.usedBlocks c d).length

/-- The least of a list, 0 for none. -/
def leastOf (l : List Nat) : Nat := match l with
  | [] => 0
  | a :: t => t.foldl min a

/-- The lowest count of free blocks among the live LUNs of a die set. -/
def State.dieSetFree (s : State) (d : Nat) : Nat := leastOf ((s.liveOf d).map (fun c => s.freeBlocks c d))

/-- A die set holds an open band. -/
def State.dieSetOpen (s : State) (d : Nat) : Bool := s.bands.any (fun b => b.dieSet == d && b.isOpen)

/-- The free-band count F (R361). -/
def State.freeBands (s : State) : Nat :=
  (((List.range 32).filter (fun d => !s.dieSetOpen d)).map s.dieSetFree).foldl (· + ·) 0 - 4

/-- The free-band state of a count (R361). -/
def State.freeState (s : State) (f : Nat) : Nat :=
  if f ≤ s.rd Reg.FTL_GC_CFG.RESERVE_MIN then 3 else if f ≤ s.rd Reg.FTL_GC_CFG.GC_CRIT then 2
  else if f ≤ s.rd Reg.FTL_GC_CFG.GC_START then 1 else 0

/-- FTL_FREE follows the count, the open bands and the ranges in use (R371), and garbage collection its hysteresis (R358). -/
def State.refreshFree (s : State) : State :=
  let f := s.freeBands
  let s1 := (s.wr Reg.FTL_FREE.BANDS (min f 0xFFFF)).wr Reg.FTL_FREE.OPEN (s.bands.filter (fun b => b.isOpen)).length
  let s2 := s1.wr Reg.FTL_FREE.RANGES (s1.ftl.ranges.filter (fun r => r.osn != 0)).length
  let start := s.rd Reg.FTL_GC_CFG.GC_START
  { s2 with ftl := { s2.ftl with collecting := if f ≤ start then true else if start + 8 < f then false else s2.ftl.collecting } }

/-! ### Forming a band (R351, R352) -/

/-- The number a BandKind is recorded with. -/
def BandKind.code : BandKind → Nat
  | .host => 1 | .gc => 2 | .journal => 3 | .map => 4 | .drain => 5 | .drainFold => 6

/-- KIND of a block-state entry in a band (R353). -/
def BandKind.blockKind : BandKind → Nat
  | .host => 1 | .gc => 2 | _ => 3

/-- Host and GC bands are native; the others are SLC (R351). -/
def BandKind.isSlc : BandKind → Bool
  | .host | .gc => false
  | _ => true

/-- Open bands of a kind. -/
def State.openBands (s : State) (k : BandKind) : List Band := s.bands.filter (fun b => b.isOpen && decide (b.kind = k))

/-- The block a LUN gives to a new band: the free one with the lowest erase count, then the lowest index; block 8,191 of the last LUN is
never taken (R342, R352). -/
def State.pickBlock (s : State) (c d : Nat) : Option Nat :=
  let used := s.usedBlocks c d
  ((List.range (dieBlocks s.ucode.active (s.lun c d).die)).filter (fun b => !used.contains b && !(b == 8191 && c == 63 && d == 31))).foldl
    (fun w b =>
      let e := (s.blk (mkAddr c d 0 b 0 0)).erases
      match w with
      | some (v : Nat × Nat) => if e < v.1 then some (e, b) else some v
      | none => some (e, b)) none |>.map (·.2)

/-- The planes of a LUN. -/
def State.planesOf (s : State) (c d : Nat) : Nat := max 1 (diePlanes s.ucode.active (s.lun c d).die)

/-- Marks the block of a channel for a band: an ERASE_START record goes out unless it is already erased in the band's mode (R258, R259). -/
def State.claimBlock (s : State) (band c d blk kind : Nat) (slc : Bool) : State :=
  let planes := s.planesOf c d
  let ready := (List.range planes).all (fun p =>
    let b := s.blk (mkAddr c d p blk 0 0)
    decide (b.st = .erased) && b.slc == slc)
  let s1 := (List.range planes).foldl (fun s p =>
    let a := mkAddr c d p blk 0 0
    s.setBlk a { s.blk a with band := band + 1, kind := kind, valid := 0, started := if ready then 0 else 1 }) s
  if ready then s1 else s1.record (.eraseStart (2 ^ planes - 1) slc (mkAddr c d 0 blk 0 0))

/-- The die set for a new band: the one with the most free blocks among those without an open band, the lowest-numbered of equals. -/
def State.pickDieSet (s : State) : Option Nat :=
  (((List.range 32).filter (fun d => !s.dieSetOpen d && decide (8 ≤ (s.liveOf d).length))).foldl (fun w d =>
    let f := s.dieSetFree d
    match w with
    | some (v : Nat × Nat) => if v.1 < f then some (f, d) else some v
    | none => if f = 0 then none else some (f, d)) none).map (·.2)

/-- Forms a band of a kind (R352): BAND_OPEN is recorded before its first program. -/
def State.form (s : State) (k : BandKind) : State :=
  match s.pickDieSet with
  | none => s
  | some d =>
    let blocks := (s.liveOf d).filterMap (fun c => (s.pickBlock c d).map (fun b => (c, b)))
    if blocks.length < 8 then s
    else
      let n := s.ftl.nextBand
      let b : Band := { number := n, dieSet := d, kind := k, slc := k.isSlc, channels := (blocks.map (·.1)).foldl setBit 0, blocks := blocks,
                        empty := 0, openedAt := s.ftl.journal.batch, isOpen := true, closedAt := 0, next := 0, stripes := [] }
      let s1 : State := { s with bands := s.bands ++ [b], ftl := { s.ftl with nextBand := n + 1 } }
      (blocks.foldl (fun s e => s.claimBlock n e.1 d e.2 k.blockKind k.isSlc) s1).record (.bandOpen n)

/-- A block leaves the block reference table when its erase is issued (R481). -/
def State.unrefBlock (s : State) (a : Nat) : State :=
  if (s.thiList 2).any (fun e => e.2.value == a) then (s.thiDeleteMatch 2 a (2 ^ 80 - 1)).2 else s

/-- Erases whose record is durable are posted as the queues take them (R259). -/
def State.feedErases (s : State) : State :=
  (s.blks.filter (fun e => e.2.started == 2 && adPlane (e.1 * 2 ^ 14) == 0)).foldl (fun s e =>
    let a := e.1 * 2 ^ 14
    let c := adChannel a
    let l := adLunNo a
    let slc := match s.bandOf a with
      | some b => if b.isOpen then b.slc else e.2.slc
      | none => e.2.slc
    let o : Op := { kind := .erase, addr := a, planes := 2 ^ s.planesOf c l - 1, slc := slc, cls := .gc, entry := 7, owner := .erase }
    match s.post c l o with
    | some s1 => (List.range (s.planesOf c l)).foldl (fun s p =>
        let b := mkAddr c l p (adBlock a) 0 0
        (s.setBlk b { s.blk b with started := 3 }).unrefBlock b) s1
    | none => s) s

/-! ### Filling a band (R323, R354, R355) -/

/-- Word lines of a band. -/
def State.wordLines (s : State) (b : Band) : Nat :=
  let g := s.ucode.active
  let die := (s.lun (b.chans.headD 0) b.dieSet).die
  diePages g die b.slc / dieGroup g die b.slc

/-- The channels of a band that still take programs. -/
def Band.liveChans (b : Band) : List Nat := b.chans.filter (fun c => !b.empty.testBit c)

/-- The next word line of a band can be issued: every block of it is erased or open at that page, and every queue has room. -/
def State.stripeReady (s : State) (b : Band) (cls : Cls) : Bool :=
  let g := s.ucode.active
  let die := (s.lun (b.chans.headD 0) b.dieSet).die
  let page := b.next * dieGroup g die b.slc
  b.isOpen && decide (b.next < s.wordLines b) && !b.liveChans.isEmpty
    && b.liveChans.all (fun c =>
      decide ((s.lun c b.dieSet).queued cls < 8)
      && (List.range (s.planesOf c b.dieSet)).all (fun p =>
        let k := s.blk (mkAddr c b.dieSet p (b.block c) 0 0)
        k.wp == some page && k.slc == b.slc && (match k.st with
          | .erased | .opened => true
          | _ => false)))

/-- The IU slots of the next word line in their order: rows, then channels but the XOR one, then slots. -/
def State.stripeSlots (s : State) (b : Band) : List Nat :=
  let g := s.ucode.active
  let die := (s.lun (b.chans.headD 0) b.dieSet).die
  let grp := dieGroup g die b.slc
  let planes := max 1 (diePlanes g die)
  (List.range grp).flatMap (fun i => (List.range planes).flatMap (fun q =>
    let p := b.next * grp + i
    (b.liveChans.filter (fun c => c != b.xorChan planes p q)).flatMap (fun c =>
      (List.range (dieSlots g die)).map (fun k => mkAddr c b.dieSet q (b.block c) p k))))

/-- Issues the next word line of a band with IUs: (IU, blocks, top OSN or expected old entry, cause). One multi-plane program goes to each
channel. -/
def State.startStripe (s : State) (b : Band) (cls : Cls) (l : List (Nat × List Stored × Nat × Option Nat)) : State :=
  let slots := s.stripeSlots b
  let put := slots.zip l
  let rest := (slots.drop l.length).map (fun a => (a, 0, ([] : List Stored)))
  let images := put.map (fun e => (e.1, e.2.1 + 1, e.2.2.1)) ++ rest
  let g := s.ucode.active
  let die := (s.lun (b.chans.headD 0) b.dieSet).die
  let page := b.next * dieGroup g die b.slc
  let st : Stripe := { wl := b.next, waiting := b.liveChans.foldl setBit 0, failed := 0,
                       ius := put.map (fun e => { iu := e.2.1, addr := e.1, top := e.2.2.2.1, cause := e.2.2.2.2, mapped := false }) }
  let last := decide (s.wordLines b ≤ b.next + 1)
  let b1 := { b with next := b.next + 1, stripes := b.stripes ++ [st], isOpen := !last, closedAt := if last then s.frame else b.closedAt }
  let s1 := s.setBand b1
  let s2 := b.liveChans.foldl (fun s c =>
    let o : Op := { kind := .program, addr := mkAddr c b.dieSet 0 (b.block c) page 0, planes := 2 ^ s.planesOf c b.dieSet - 1, slc := b.slc,
                    cls := cls, entry := 4, images := images.filter (fun e => adChannel e.1 == c), owner := .stripe b.number b.next,
                    cws := dieGroup g die b.slc * s.planesOf c b.dieSet * dieCws g die }
    (s.post c b.dieSet o).getD s) s1
  if last then s2.record (.bandClose b.number) else s2

/-- Busyness of a die set: operations queued or running on its LUNs (R354). -/
def State.busyness (s : State) (d : Nat) : Nat :=
  ((List.range 64).map (fun c => (s.lun c d).queue.length + (s.lun c d).op.toList.length)).foldl (· + ·) 0

/-- The open band of a kind whose die set is least busy, among those that can take a word line (DESIGN CHOICE: log entry 66). -/
def State.pickBand (s : State) (k : BandKind) (cls : Cls) : Option Band :=
  (((s.openBands k).filter (fun b => s.stripeReady b cls)).foldl (fun w b =>
    let n := s.busyness b.dieSet
    match w with
    | some (v : Nat × Band) => if n < v.1 then some (n, b) else some v
    | none => some (n, b)) none).map (·.2)

/-! ### Folds (R200, R203) -/

/-- The IU of a version can be folded: every version of its stack is settled, some is not folded yet, and a range above them all does not
cover it. -/
def State.foldable (s : State) (iu : Nat) : Bool :=
  let st := s.stack iu
  !st.isEmpty && st.all Version.settled && st.any (fun v => v.folded.isNone)
    && (match s.rangeOver iu (2 ^ 64) with
      | some r => st.any (fun v => decide (r.osn < v.osn))
      | none => true)

/-- The block a fold takes: the highest settled version that holds it, then a range above the map, then the flash copy (R200, R203). -/
def State.foldBlock (s : State) (iu b : Nat) (lost : Bool) : Stored :=
  let fromMap : Stored := match s.entry iu with
    | .media a => if lost then .lost else s.codewordOf a b
    | _ => .zero
  match s.versionFor iu b (2 ^ 64), s.rangeOver iu (2 ^ 64) with
  | some v, some r => if r.osn < v.osn then ((v.data.find? (fun e => e.1 == b)).map (·.2)).getD .zero else .zero
  | some v, none => ((v.data.find? (fun e => e.1 == b)).map (·.2)).getD .zero
  | none, some _ => .zero
  | none, none => fromMap

/-- The blocks of an IU's page image, and the highest OSN folded. -/
def State.foldIu (s : State) (iu : Nat) (lost : Bool) : List Stored × Nat :=
  ((List.range 4).map (fun b => s.foldBlock iu b lost),
   ((s.stack iu).map (·.osn)).foldl max (((s.rangeOver iu (2 ^ 64)).map (·.osn)).getD 0))

/-- The IUs that can be folded now, ascending, without repeats. -/
def State.foldList (s : State) : List Nat :=
  (s.ftl.versions.filter (fun v => v.folded.isNone)).foldl (fun l v => if s.foldable v.iu then insertNat v.iu l else l) []

/-- Starts the fold of IUs in a band: the versions are marked, a merge read that ended unrecovered is recorded, and the granules of
dropped blocks are withdrawn (R200, R203, R400). -/
def State.startFold (s : State) (b : Band) (cls : Cls) (ius : List Nat) (lost : List Nat) : State :=
  let l := ius.map (fun iu =>
    let f := s.foldIu iu (lost.contains iu)
    (iu, f.1, f.2, (none : Option Nat)))
  let slots := s.stripeSlots b
  let s1 := s.startStripe b cls l
  let at_ := ius.zip slots
  let s2 := s1.mapVersions (fun v => match at_.find? (fun e => e.1 == v.iu) with
    | some e => if v.settled then { v with folded := some e.2 } else v
    | none => v)
  let merged := ius.filter (fun iu => lost.contains iu && (match s.entry iu with
    | .media _ => true
    | _ => false))
  let s3 := merged.foldl (fun s iu => (s.wr Reg.WBF_EVT.MERGE_LOST 1).event 0x13 0x0102 (iu % 2 ^ 32)) s2
  let old (g : Gran) : Bool := ius.contains (g.head.lba / 4) && (match s.versionFor (g.head.lba / 4) (g.head.lba % 4) (2 ^ 64) with
    | some v => decide (g.head.osn < v.osn)
    | none => false)
  s3.withdraw old

/-! ### Copies (R358, R359, R362, R363) -/

/-- The IU slots of a block that the map references: (IU, address). -/
def State.validIn (s : State) (blockAddr : Nat) : List (Nat × Nat) :=
  (s.pages.filter (fun e => adOfBlock e.1 == adOfBlock blockAddr && e.2.iu != 0
      && decide (s.entry (e.2.iu - 1) = .media e.1))).map (fun e => (e.2.iu - 1, e.1))

/-- The blocks of a band, every plane. -/
def State.bandBlocks (s : State) (b : Band) : List Nat :=
  b.chans.flatMap (fun c => (List.range (s.planesOf c b.dieSet)).map (fun p => mkAddr c b.dieSet p (b.block c) 0 0))

/-- Valid IUs of a band. -/
def State.bandValid (s : State) (b : Band) : Nat := ((s.bandBlocks b).map (fun a => (s.blk a).valid)).foldl (· + ·) 0
/-- Erases of a band's blocks in total. -/
def State.bandErases (s : State) (b : Band) : Nat := ((s.bandBlocks b).map (fun a => (s.blk a).erases)).foldl (· + ·) 0

/-- The closed native band with the least of a measure, among those closed a second ago that hold valid IUs. -/
def State.leastBand (s : State) (f : Band → Nat) : Option Band :=
  ((s.bands.filter (fun b => !b.isOpen && !b.slc && decide (b.closedAt + 100000 ≤ s.frame) && decide (0 < s.bandValid b))).foldl (fun w b =>
    match w with
    | some (v : Nat × Band) => if f b < v.1 then some (f b, b) else some v
    | none => some (f b, b)) none).map (·.2)

/-- A copy of an IU is on its way already. -/
def State.copying (s : State) (iu : Nat) : Bool := s.bands.any (fun b => b.stripes.any (fun st => st.ius.any (fun p => p.iu == iu && p.cause.isSome)))

/-- The IUs to copy next, with their addresses and their cause: relocation first, then garbage collection, then wear levelling. -/
def State.copyList (s : State) : List (Nat × Nat) × Nat :=
  let free (l : List (Nat × Nat)) : List (Nat × Nat) := l.filter (fun e => !s.copying e.1)
  let reloc := free ((s.blks.filter (fun e => e.2.refresh)).flatMap (fun e => s.validIn (e.1 * 2 ^ 14)))
  if !reloc.isEmpty then (reloc, 2)
  else
    let gc := match (if s.ftl.collecting then s.leastBand s.bandValid else none) with
      | some b => free ((s.bandBlocks b).flatMap s.validIn)
      | none => []
    if !gc.isEmpty then (gc, 1)
    else match (if s.ftl.levelling then s.leastBand s.bandErases else none) with
      | some b => (free ((s.bandBlocks b).flatMap s.validIn), 3)
      | none => ([], 3)

/-- Reads in progress that resolved to a block (R360, R481). -/
def State.readsOn (s : State) (a : Nat) : Nat :=
  (s.live.filter (fun e => e.2.isRead && decide (e.2.phase = .snapshot ∨ e.2.phase = .moving) && e.2.snap.any (fun x => match x with
    | .media b => adOfBlock b == a
    | _ => false))).length

/-- A source block enters the block reference table before the first read of its copies; without a free unit it waits (R479, R481). -/
def State.refBlock (s : State) (a : Nat) : Bool × State :=
  if (s.thiList 2).any (fun e => e.2.value == a) then (true, s)
  else if (s.thiFree 2).isEmpty then (false, s)
  else (true, (s.thiInsertAny 2 a 0 0 (s.readsOn a % 2 ^ 16 + s.frame % 2 ^ 32 * 2 ^ 16) true 0 0).2)

/-- The copies whose source blocks are in the block reference table. -/
def State.refCopies (s : State) (l : List (Nat × Nat)) : List (Nat × Nat) × State :=
  l.foldl (fun (acc : List (Nat × Nat) × State) e =>
    let r := acc.2.refBlock (adOfBlock e.2)
    (if r.1 then acc.1 ++ [e] else acc.1, r.2)) ([], s)

/-- Starts a word line of copies in an open GC band: content and tags are copied unchanged (R358, R399). -/
def State.startCopies (s : State) (b : Band) (m : List (Nat × Nat)) (cause : Nat) (lost : List Nat) : State :=
  let r := s.refCopies m
  let l := r.1
  if l.isEmpty then r.2 else r.2.startStripe b (if cause = 2 then .rb else .gc) (l.map (fun e =>
    (e.1, (if lost.contains e.1 then List.replicate 4 Stored.lost else (List.range 4).map (fun c => s.codewordOf e.2 c)), e.2, some cause)))

/-! ### Mapping a word line (R355) -/

/-- The groups of a word line have left exposure: every program of it has ended, and for class B the next PP_REACH word lines too, or it is
the block's last (R269). -/
def State.closedWl (s : State) (b : Band) (w : Nat) : Bool :=
  let reach := if b.slc then 0 else diePpReach s.ucode.active (s.lun (b.chans.headD 0) b.dieSet).die
  b.wlClosed w && (decide (s.wordLines b ≤ w + 1) || (List.range reach).all (fun i => b.wlClosed (w + 1 + i)))

/-- Every read that touches an IU with an OSN below one has taken its snapshot (R195, R355). -/
def State.readsPast (s : State) (iu osn : Nat) : Bool :=
  s.live.all (fun e => !(e.2.isRead && decide (e.2.phase = .ordered) && decide (e.2.osn < osn) && rangesMeet e.2.slba e.2.nblk (4 * iu) 4))

/-- A range above the fold's top OSN covers the IU: the fold's MAP record is dropped (R357). -/
def State.overRanged (s : State) (p : Placed) : Bool :=
  p.cause.isNone && (match s.rangeOver p.iu (2 ^ 64) with
    | some r => decide (p.top < r.osn)
    | none => false)

/-- The MAP records of word lines that have left exposure go into the batch of this boundary. -/
def State.mapStripes (s : State) : State :=
  s.bands.foldl (fun s b => b.stripes.foldl (fun s st =>
    if s.closedWl b st.wl then
      st.ius.foldl (fun s p =>
        if p.mapped || s.overRanged p || (p.cause.isNone && !s.readsPast p.iu p.top) then s
        else
          let s1 := s.record (.map p.cause.isSome (p.cause.getD 0) p.iu p.addr p.top)
          match s1.band b.number with
          | some b1 => s1.setBand { b1 with stripes := b1.stripes.map (fun x =>
              if x.wl = st.wl then { x with ius := x.ius.map (fun q => if q.addr = p.addr then { q with mapped := true } else q) } else x) }
          | none => s1) s
    else s) s) s

/-- Word lines whose IUs are all mapped and that no longer guard exposed groups are forgotten. -/
def State.dropStripes (s : State) : State :=
  { s with bands := s.bands.map (fun b => { b with stripes := b.stripes.filter (fun st =>
      !(s.closedWl b st.wl && st.ius.all (fun p => p.mapped || s.overRanged p))) }) }

/-- A durable MAP record is applied (R200, R355, R358): a guarded one only when the present entry is the expected one. -/
def State.applyMap (s : State) (guarded : Bool) (iu entry old : Nat) : State :=
  if guarded then
    if s.entry iu = .media old then (s.setMap iu (entOf entry)).moveGrans iu entry (2 ^ 64)
    else s.event 0x28 0x0106 (iu % 2 ^ 32)
  else
    let s1 := (s.setMap iu (entOf entry)).moveGrans iu entry old
    s1.mapVersions (fun v => if v.iu = iu ∧ v.osn ≤ old ∧ v.folded = some entry then { v with clean := true } else v)

/-- Clean versions are freed, least recently used first, while a new command lacks a span entry: never one that a snapshot refers to or
whose withdrawal is not complete (R200, R410) (DESIGN CHOICE: log entry 65). -/
def State.freeClean (s : State) (x : Ctx) : State :=
  if s.spansFree x then s
  else
    let able := s.ftl.versions.filter (fun v => v.clean && !s.referenced v
      && s.allWithdrawn (fun g => g.withdrawn && g.head.osn == v.osn && g.head.lba / 4 == v.iu))
    match able with
    | [] => s
    | v :: t =>
      let lru := t.foldl (fun w v => if v.used < w.used then v else w) v
      s.keepVersions (fun v => !(able.contains v && spanOfIu v.iu == spanOfIu lru.iu))

/-! ### The ends of programs and erases (R259, R269, R353, R362, R363) -/

/-- Changes a stripe of a band. -/
def State.mapStripe (s : State) (band wl : Nat) (f : Stripe → Stripe) : State :=
  match s.band band with
  | some b => s.setBand { b with stripes := b.stripes.map (fun st => if st.wl = wl then f st else st) }
  | none => s

/-- The planes' block addresses of an operation. -/
def Op.blocks (o : Op) : List Nat :=
  ((List.range 4).filter (fun p => o.planes.testBit p)).map (fun p =>
    mkAddr (adChannel o.addr) (adLunNo o.addr) p (adBlock o.addr) 0 0)

/-- A program is confirmed (R259): the write pointer passes its group, and its pages hold their images until its end is known. -/
def State.programIssued (s : State) (o : Op) : State :=
  let g := s.ucode.active
  let die := s.dieOf o.addr
  let grp := dieGroup g die o.slc
  let pages := diePages g die o.slc
  let s1 := o.blocks.foldl (fun s a =>
    let b := s.blk a
    let wp := adPage o.addr + grp
    s.setBlk a { b with wp := some wp, st := if pages ≤ wp then .closed else .opened, busyFrom := some (adPage o.addr) }) s
  (o.images.foldl (fun s i => s.setPage i.1 { iu := i.2.1, blocks := i.2.2 }) s1).count 0x030 8 (popCount 4 o.planes * grp)

/-- A program ends (R269, R324, R362). -/
def State.programDone (s : State) (o : Op) (pass : Bool) : State :=
  let c := adChannel o.addr
  let s1 := o.blocks.foldl (fun s a => s.setBlk a { s.blk a with busyFrom := none }) s
  if pass then
    match o.owner with
    | .stripe band wl => s1.mapStripe band wl (fun st => { st with waiting := clearBit st.waiting c })
    | _ => s1
  else
    let s2 := o.images.foldl (fun s i => s.setPage i.1 { s.page i.1 with invalid := true }) (s1.count 0x068 4)
    let s3 := o.blocks.foldl (fun s a => (s.setBlk a { s.blk a with st := .closed, refresh := true })) s2
    match o.owner with
    | .stripe band _ =>
      let lose (st : Stripe) : Stripe :=
        { st with waiting := clearBit st.waiting c, failed := setBit st.failed c,
                  ius := st.ius.filter (fun p => adChannel p.addr != c || p.mapped) }
      let s4 := match s3.band band with
        | some b => s3.setBand { b with empty := setBit b.empty c, stripes := b.stripes.map lose }
        | none => s3
      let again : List Placed := match s.band band with
        | some b => b.stripes.flatMap (fun st => st.ius.filter (fun p => adChannel p.addr == c && !p.mapped))
        | none => []
      let s5 := s4.mapVersions (fun v => if again.any (fun p => p.iu == v.iu && v.folded == some p.addr) then { v with folded := none } else v)
      o.blocks.foldl (fun s a => s.blkRetire a retireProgram) s5
    | _ => o.blocks.foldl (fun s a => s.blkRetire a retireProgram) s3

/-- A block leaves its band once it is erased; a band without blocks is dropped. -/
def State.leaveBand (s : State) (a : Nat) : State :=
  match s.bandOf a with
  | some b =>
    if b.isOpen then s
    else
      let c := adChannel a
      let b1 := { b with channels := clearBit b.channels c, blocks := b.blocks.filter (fun e => e.1 != c) }
      if b1.channels = 0 then { s with bands := s.bands.filter (fun x => x.number != b.number) } else s.setBand b1
  | none => s

/-- An erase ends (R259, R359). -/
def State.eraseDone (s : State) (o : Op) (pass : Bool) : State :=
  if pass then
    let keep := match s.bandOf o.addr with
      | some b => b.isOpen
      | none => false
    let s1 := s.leaveBand o.addr
    let s2 := o.blocks.foldl (fun s a =>
      let b := s.blk a
      let s' : State := { s with pages := s.pages.filter (fun e => adOfBlock e.1 != a) }
      s'.setBlk a { b with st := .erased, slc := o.slc, wp := some 0, started := 0, refresh := false, busyFrom := none, valid := 0,
                           erases := min 65535 (b.erases + 1), band := if keep then b.band else 0, kind := if keep then b.kind else 0 }) s1
    s2.record (.eraseEnd o.planes o.slc (adOfBlock o.addr))
  else
    let s1 := s.count 0x06C 4
    let s2 := match s1.bandOf o.addr with
      | some b => s1.setBand { b with empty := setBit b.empty (adChannel o.addr) }
      | none => s1
    o.blocks.foldl (fun s a => s.blkRetire a retireErase) s2

/-! ### Ranges (R356, R357) -/

/-- The range of an entry in its number's place. -/
def State.rangeAt (s : State) (i : Nat) : Option RangeEnt := s.ftl.ranges[i]?

/-- Changes a range-table entry. -/
def State.setRange (s : State) (i : Nat) (r : RangeEnt) : State := { s with ftl := { s.ftl with ranges := s.ftl.ranges.set i r } }

/-- RANGE_APPLY (R357): the next map page of a committed or adopted range is applied: each IU without a version above the range's OSN is
set, once every earlier read that touches it has taken its snapshot. -/
def execRangeApply (entry : Fin 64) (s : State) : Host.Outcome State Fault Refusal :=
  match s.rangeAt entry.val with
  | some r =>
    let live := match r.st with
      | .committed | .adopted => true
      | _ => false
    let n := min r.count (819 - r.firstIu % 819)
    let ius := (List.range n).map (fun i => r.firstIu + i)
    if s.serving && live && r.count != 0 && ius.all (fun iu => s.readsPast iu r.osn) then
      let s1 := ius.foldl (fun s iu =>
        if (s.stack iu).any (fun v => decide (r.osn < v.osn)) then s else s.setMap iu (if r.zeroes then .zeroed else .unmapped)) s
      let s2 := s1.mapVersions (fun v => if r.firstIu ≤ v.iu ∧ v.iu < r.firstIu + n ∧ v.osn < r.osn ∧ v.settled = true then { v with clean := true } else v)
      let s3 : State := { s2 with bands := s2.bands.map (fun b => { b with stripes := b.stripes.map (fun st =>
        { st with ius := st.ius.filter (fun p => !(p.cause.isNone && decide (r.firstIu ≤ p.iu ∧ p.iu < r.firstIu + n ∧ p.top < r.osn)) || p.mapped) }) }) }
      let r1 := { r with firstIu := r.firstIu + n, count := r.count - n }
      let s4 := s3.setRange entry.val r1
      if r1.count = 0 ∨ r.firstIu / 65536 ≠ r1.firstIu / 65536 then ok (s4.record (.rangeDone r.osn r1.firstIu)) else ok s4
    else ok s
  | none => ok s

/-- A durable RANGE_DONE record frees the entry whose range is applied whole. -/
def State.rangeDone (s : State) (osn : Nat) : State :=
  match s.ftl.ranges.zipIdx.find? (fun e => e.1.osn == osn && e.1.count == 0 && osn != 0) with
  | some (_, i) => (s.thiRangeDrop i).setRange i { osn := 0, zeroes := false, firstIu := 0, count := 0, st := .landing }
  | none => s

/-- The lowest free entry of the range table, none when all 64 are in use. -/
def State.rangeSlot (s : State) : Option Nat :=
  match s.ftl.ranges.zipIdx.find? (fun e => e.1.osn == 0) with
  | some (_, i) => some i
  | none => if s.ftl.ranges.length < 64 then some s.ftl.ranges.length else none

/-- Puts a range into the table at its slot (R356). -/
def State.addRange (s : State) (r : RangeEnt) : State :=
  match s.rangeSlot with
  | some i =>
    let l := if i < s.ftl.ranges.length then s.ftl.ranges.set i r else s.ftl.ranges ++ [r]
    ({ s with ftl := { s.ftl with ranges := l } } : State).thiRangeInsert r.firstIu r.count r.osn i r.zeroes
  | none => s

/-! ### Free bands, erases, wear -/

/-- FREE_BAND_STATE_CHANGE (R361, R373): the count has crossed a threshold. -/
def execFreeBandStateChange (s : State) : Host.Outcome State Fault Refusal :=
  if s.serving && decide (s.boot.stage ≠ .grind) then
    let s1 := s.refreshFree
    let f := s1.rd Reg.FTL_FREE.BANDS
    let st := s1.freeState f
    if st = s1.rd Reg.FTL_FREE.STATE then ok s1 else ok ((s1.wr Reg.FTL_FREE.STATE st).event 0x28 0x0102 (st + f * 2 ^ 16))
  else ok s

/-- A block may be erased (R358): it holds no valid IU in any plane, no read refers to it, and its band is closed. -/
def State.erasable (s : State) (a : Nat) : Bool :=
  let c := adChannel a
  let l := adLunNo a
  let planes := (List.range (s.planesOf c l)).map (fun p => mkAddr c l p (adBlock a) 0 0)
  (match s.bandOf a with
    | some b => !b.isOpen && b.stripes.all (fun st => st.ius.isEmpty || st.ius.all (fun p => p.mapped || s.overRanged p))
    | none => false)
    && planes.all (fun p => (s.blk p).valid == 0 && (s.blk p).started == 0 && decide ((s.blk p).st = .closed) && !s.refOn p)

/-- GC_ERASE_START (R358, R400, R410): the granules of the block that the map no longer references are withdrawn, and once that is complete
the ERASE_START record goes into the next batch. -/
def execGcEraseStart (block : Nat) (s : State) : Host.Outcome State Fault Refusal :=
  if s.serving && s.erasable block then
    let c := adChannel block
    let l := adLunNo block
    let planes := (List.range (s.planesOf c l)).map (fun p => mkAddr c l p (adBlock block) 0 0)
    let onIt (g : Gran) : Bool := g.addr != 0 && planes.contains (adOfBlock (g.addr - 1))
    let s1 := s.withdraw onIt
    if s1.allWithdrawn onIt then
      let s2 := planes.foldl (fun s p => s.setBlk p { s.blk p with started := 1 }) s1
      ok (s2.record (.eraseStart (2 ^ planes.length - 1) (s.blk block).slc (mkAddr c l 0 (adBlock block) 0 0)))
    else ok s1
  else ok s

/-- Blocks of every LUN in service, per-plane blocks counted singly. -/
def State.blocksInService (s : State) : Nat :=
  ((List.range 64).flatMap (fun c => (List.range 32).map (fun l =>
    if s.chanReady c && s.lunPopulated c l && !s.lunFailed c l && !s.lunRaw c l then
      dieBlocks s.ucode.active (s.lun c l).die * s.planesOf c l
    else 0))).foldl (· + ·) 0

/-- The listed blocks in service that are not retired. -/
def State.listedBlocks (s : State) : List Blk :=
  (s.blks.filter (fun e =>
    let a := e.1 * 2 ^ 14
    s.partUp a && !s.lunRaw (adChannel a) (adLunNo a) && decide (e.2.st ≠ .retired))).map (·.2)

/-- Retired blocks of the LUNs in service. -/
def State.retiredBlocks (s : State) : Nat :=
  (s.blks.filter (fun e => s.partUp (e.1 * 2 ^ 14) && decide (e.2.st = .retired))).length

/-- The lowest and the highest erase count, and the sum, of blocks in service (R359, R367). -/
def State.wear (s : State) : Nat × Nat × Nat :=
  let l := (s.listedBlocks).map (·.erases)
  let lo := if l.length + s.retiredBlocks < s.blocksInService then 0 else leastOf l
  (lo, l.foldl max 0, l.foldl (· + ·) 0)

/-- FTL_WEAR follows the erase counts; levelling stops at three quarters of the limit (R359). -/
def State.refreshWear (s : State) : State :=
  let w := s.wear
  let s1 := (s.wr Reg.FTL_WEAR.MIN_EC w.1).wr Reg.FTL_WEAR.MAX_EC w.2.1
  { s1 with ftl := { s1.ftl with levelling := s1.ftl.levelling && decide (s.rd Reg.FTL_WEAR_CFG.SPREAD_LIMIT * 3 / 4 < w.2.1 - w.1) } }

/-- WEAR_LEVEL_START (R359): the spread exceeds SPREAD_LIMIT. -/
def execWearLevelStart (s : State) : Host.Outcome State Fault Refusal :=
  if s.serving then
    let s1 := s.refreshWear
    if s.rd Reg.FTL_WEAR_CFG.SPREAD_LIMIT < s1.rd Reg.FTL_WEAR.MAX_EC - s1.rd Reg.FTL_WEAR.MIN_EC then
      ok { s1 with ftl := { s1.ftl with levelling := true } }
    else ok s1
  else ok s

/-! ### Spare space and grades (R367, R368) -/

/-- The die description of the lowest live LUN, as the measure of a native block. -/
def State.refDie (s : State) : Nat := (s.lun (((List.range 64).find? s.chanReady).getD 0) 0).die

/-- Blocks needed (R367). -/
def State.needed367 (s : State) : Nat :=
  let g := s.ucode.active
  let d := s.refDie
  let perBlock := max 1 (diePages g d false * dieSlots g d)
  let planes := max 1 (diePlanes g d)
  let data := ceilDiv (ceilDiv (s.ftl.capacity / 4) perBlock * 64) 63
  let sys := ((s.bands.filter (fun b => b.slc)).map (fun b => b.chans.length * planes)).foldl (· + ·) 0
  data + sys + (s.rd Reg.FTL_GC_CFG.RESERVE_MIN + 4) * 64 * planes

/-- Spare blocks, 0 when there are none (R367). -/
def State.spare (s : State) : Nat := (s.blocksInService - s.retiredBlocks) - s.needed367

/-- SPARE_PCT. -/
def State.sparePct (s : State) : Nat := if s.ftl.spare0 = 0 then 0 else min 100 (100 * s.spare / s.ftl.spare0)

/-- WEAR_PCT. -/
def State.wearPct (s : State) : Nat :=
  min 255 (100 * s.wear.2.2 / max 1 (s.blocksInService - s.retiredBlocks) / max 1 (s.rd Reg.FTL_WEAR_CFG.RATED_PE))

/-- Health STATE[3]: a single part has failed (R178). -/
def State.degraded (s : State) : Bool :=
  s.health_ 0x078 != 0 || s.health_ 0x074 != 0 || s.health_ 0x080 != 0 || s.health_ 0x081 != 0 || s.health_ 0x082 != 0

/-- Writes are read-only: spare is spent for good, or the last row of R68 applies (R68, R368). -/
def State.readOnly (s : State) : Bool := s.ftl.spent || (s.measured && decide (s.writeMode = .readOnly))

/-- The grade (R368): 0 Ivory, 1 Amber, 2 Umber, 3 Sable. -/
def State.gradeNow (s : State) : Nat :=
  if s.readOnly then 3
  else if s.sparePct < 10 ∨ 100 ≤ s.wearPct ∨ (s.measured = true ∧ s.sup.passed = false) then 2
  else if s.sparePct < 50 ∨ 80 ≤ s.wearPct ∨ s.degraded = true then 1
  else 0

/-- The grade and its inputs are recomputed; a change posts HEALTH, and spare running out ends the writes still in Ordered (R368). -/
def State.regrade (s : State) : State :=
  let out := s.boot.manufactured && s.ftl.spare0 != 0 && s.spare == 0 && !s.ftl.spent
  let s0 := if out then
      let ws := s.live.filter (fun e => e.2.isWrite && decide (e.2.phase = .ordered))
      let s1 := ws.foldl (fun s e => s.endCtx e.1 0x0011) { s with ftl := { s.ftl with spent := true } }
      s1.event 0x28 0x0104 ws.length
    else s
  let sp := s0.sparePct
  let we := s0.wearPct
  let g := s0.gradeNow
  let s2 := ((s0.wr Reg.FTL_HEALTH.SPARE_PCT sp).wr Reg.FTL_HEALTH.WEAR_PCT we).wr Reg.FTL_HEALTH.READ_ONLY (bit s0.readOnly)
  if g = s2.rd Reg.FTL_HEALTH.GRADE then s2
  else ((s2.wr Reg.FTL_HEALTH.GRADE g).event 0x28 0x0103 (g + sp * 2 ^ 8 + we * 2 ^ 16)).asyncAll 3 g

/-- GRADE_RECOMPUTE (R368). -/
def execGradeRecompute (s : State) : Host.Outcome State Fault Refusal :=
  if s.serving && decide (s.boot.stage ≠ .grind) then ok (s.refreshWear.regrade) else ok s

/-! ### Map write-out and checkpoints (R348, R349) -/

/-- The oldest dirty map page. -/
def Journal.oldestDirty (j : Journal) : Option (Nat × Nat) :=
  j.dirty.foldl (fun w e => match w with
    | some v => if e.2 < v.2 then some e else some v
    | none => some e) none

/-- The first-dirtied batches of pages whose MAPPAGE record is not durable yet (R348). -/
def Journal.writing (j : Journal) : List Nat :=
  (j.collecting ++ ((j.flight.map (·.2)).getD [])).filterMap (fun r => match r with
    | .mapPage _ _ d _ => some d
    | _ => none)

/-- The checkpoint position now (R349): the lowest first-dirtied batch, or the present batch. -/
def Journal.positionNow (j : Journal) : Nat :=
  (j.writing).foldl min (match j.oldestDirty with
    | some e => e.2
    | none => j.batch)

/-- Writes out the oldest dirty map page: its image is taken and its MAPPAGE record goes into the batch with its first-dirtied batch; a
later change makes the page dirty anew (R348) (DESIGN CHOICE: log entry 63). -/
def State.writeOut (s : State) : State :=
  match s.ftl.journal.oldestDirty with
  | some (page, d) =>
    let j := s.ftl.journal
    ({ s with ftl := { s.ftl with journal := { j with dirty := Tbl.set 0 j.dirty page 0 } } } : State).record (.mapPage 1 page d 0)
  | none => s

/-- Bytes of journal in batches. -/
def batchBytes (l : List (Nat × List Rec)) : Nat := (l.map (fun b => 32 * b.2.length)).foldl (· + ·) 0

/-- FTL_JOURNAL follows the journal; urgency ends at 2 GiB and fullness below 4 GiB (R349, R372). -/
def State.refreshJournal (s : State) : State :=
  let j := s.ftl.journal
  let j1 := { j with urgent := j.urgent && decide (2 ^ 31 < j.bytes), full := j.full && decide (2 ^ 32 ≤ j.bytes) }
  let s1 : State := { s with ftl := { s.ftl with journal := j1 } }
  (s1.wr Reg.FTL_JOURNAL.MIB (min 4096 (j.bytes / 2 ^ 20))).wr Reg.FTL_JOURNAL.URGENT (bit j1.urgent)

/-- CHECKPOINT_ADVANCE (R349): the position has advanced and 1 GiB of journal lies behind it: both root copies and a CKPT record are
written, and what lies below the position is released. -/
def execCheckpointAdvance (s : State) : Host.Outcome State Fault Refusal :=
  let j := s.ftl.journal
  let p := j.positionNow
  if s.serving && decide (j.ckpt < p) && decide (2 ^ 30 ≤ j.bytes) then
    let kept := j.durable.filter (fun b => decide (p ≤ b.1))
    let bytes := if j.bytes - 2 ^ 30 < batchBytes kept then batchBytes kept else j.bytes - 2 ^ 30
    let s1 : State := { s with ftl := { s.ftl with root := s.ftl.map, journal := { j with position := p, ckpt := p, durable := kept, bytes := bytes } } }
    ok ((s1.record (.ckpt p 0 0)).refreshJournal)
  else ok s

/-- JOURNAL_URGENT (R349): the journal since the position exceeds 3 GiB. -/
def execJournalUrgent (s : State) : Host.Outcome State Fault Refusal :=
  let j := s.ftl.journal
  if s.serving && decide (3 * 2 ^ 30 < j.bytes) then
    ok (({ s with ftl := { s.ftl with journal := { j with urgent := true } } } : State).wr Reg.FTL_JOURNAL.URGENT 1)
  else ok s

/-- JOURNAL_FULL (R349, R373): the journal has reached 4 GiB and no new host-write front-end unit is admitted. -/
def execJournalFull (s : State) : Host.Outcome State Fault Refusal :=
  let j := s.ftl.journal
  if s.serving && decide (2 ^ 32 ≤ j.bytes) && !j.full then
    ok (({ s with ftl := { s.ftl with journal := { j with full := true } } } : State).event 0x28 0x0105 (j.batch % 2 ^ 32))
  else ok s

end Sys2Proof.Machine
end

