-- ==== Sys2Proof/Machine/Channels.lean ====
section
/-! DEFINITION. The channel engines: initialisation and training, the phases of an operation on its LUN, polls, suspend and resume, stops,
traps and restarts, brown-out (R252 to R279, R282 to R297, R305). -/

set_option Elab.async false

namespace Sys2Proof.Machine

/-! ### Rates and capacities (R250, R275) -/

/-- The rate of an encoding of CHN_ENG_STATUS.RATE in MT/s. -/
def rateMt (n : Nat) : Nat := if n = 1 then 800 else if n = 2 then 1600 else if n = 3 then 2400 else if n = 4 then 3200 else if n = 5 then 3600 else 0

/-- Codeword bytes of a die's page format (R314, R337). -/
def State.cwBytes (s : State) (die : Nat) : Nat := s.rd Reg.MIN_FMT.CW_BYTES (dieFormat s.ucode.active die)

/-- Codewords one frame of a channel carries: as many as fit in 9.6 µs, at most 8 (R250). -/
def State.transfers (s : State) (c die : Nat) : Nat :=
  min 8 (9600 * rateMt (s.rd Reg.CHN_ENG_STATUS.RATE c) / max 1 (1000 * s.cwBytes die))

/-- What a bus phase of an operation sees. -/
def State.phaseEnv (s : State) (c l : Nat) (o : Op) : PhaseEnv :=
  { g := s.ucode.active, op := o, lun := l, total := o.cws, cw := s.cwBytes (s.lun c l).die,
    rate := rateMt (s.rd Reg.CHN_ENG_STATUS.RATE c), bo := s.on Reg.CHN_ENG_STATUS.BO_MODE c }

/-- A fresh sequence context (R281). -/
def freshSeq (o : Op) : Seq := { plane := lowPlane o.planes }

/-! ### Ends of an operation (R257, R295) -/

/-- The LUN is left by its operation: Suspended when one is held, else Idle. -/
def State.freeLun (s : State) (c l : Nat) : State :=
  let u := s.lun c l
  s.setLun c l { u with op := none, wait := 0, offered := false, endAt := 0, overs := none, suspends := false,
                        st := if u.held.isSome then .suspended else .idle }

/-- An operation that its check or a trap refused fails to firmware: a read goes to the row step, a program's data is placed elsewhere and
its block closed, an erase retires its block (R260, R295). -/
def State.opRefused (s : State) (o : Op) : State :=
  match o.kind with
  | .read => s.senseLost o
  | .program =>
    let c := adChannel o.addr
    let s1 := o.blocks.foldl (fun s a => s.setBlk a { s.blk a with st := .closed, busyFrom := none }) s
    match o.owner with
    | .stripe band wl =>
      let lost : List Placed := match s.band band with
        | some b => b.stripes.flatMap (fun st => if st.wl = wl then st.ius.filter (fun p => adChannel p.addr == c) else [])
        | none => []
      let drop (st : Stripe) : Stripe :=
        if st.wl = wl then
          { st with waiting := clearBit st.waiting c, failed := setBit st.failed c, ius := st.ius.filter (fun p => adChannel p.addr != c) }
        else st
      let s2 := match s1.band band with
        | some b => s1.setBand { b with empty := setBit b.empty c, stripes := b.stripes.map drop }
        | none => s1
      s2.mapVersions (fun v => if lost.any (fun p => p.iu == v.iu && v.folded == some p.addr) then { v with folded := none } else v)
    | _ => s1
  | .erase => s.eraseDone o false
  | _ => s

/-- An operation ends with a pass or a fail (R257). -/
def State.opEnd (s : State) (c l : Nat) (o : Op) (pass : Bool) : State :=
  let s1 := s.freeLun c l
  match o.kind with
  | .read => if pass then s1.senseDone o else s1.senseLost o
  | .program => s1.programDone o pass
  | .erase => s1.eraseDone o pass
  | _ => s1

/-- A microcode trap (R295): shown, recorded, and the operation fails. -/
def State.opTrap (s : State) (c l : Nat) (o : Op) (code addr : Nat) : State :=
  let s1 := (((((s.wr Reg.UCS_TRAP.CODE code).wr Reg.UCS_TRAP.CHANNEL c).wr Reg.UCS_TRAP.LUN l).wr Reg.UCS_TRAP.ADDR addr).wr
    Reg.UCS_TRAP.VALID 1).event 0x24 0x0101 (code % 256 + c * 2 ^ 8 + l * 2 ^ 14)
  (s1.freeLun c l).opRefused o

/-! ### The checks before a confirm (R259, R260) -/

/-- The fault code of the block-state check, 0 when it passes. -/
def State.programFault (s : State) (o : Op) : Nat :=
  if o.blocks.any (fun a =>
      let b := s.blk a
      b.wp != some (adPage o.addr) || (match b.st with
        | .erased | .opened => false
        | _ => true)) then 1
  else if o.blocks.any (fun a => (s.blk a).slc != o.slc) then 2
  else 0

/-! ### Running a bus phase (R282 to R295) -/

/-- The array phase of a YIELD begins: LEN frames from the present one, a resume's LEN 0 being what is left plus the overhead (R284, R297). -/
def State.arrayPhase (s : State) (c l : Nat) (o : Op) (cls len wait cont : Nat) : State :=
  let u := s.lun c l
  let n := if len = 0 ∧ o.resumed then o.left + (dieSusp s.ucode.active u.die (decide (o.kind = .erase))).overhead else len
  let o1 := if u.suspends then o else { o with len := n }
  s.setLun c l { u with op := some o1, wait := wait, cont := cont, pcls := cls, endAt := s.frame + n, offered := false, progressAt := s.frame }

/-- A bus phase reaches its YIELD. A program's confirm and an erase's issue pass their checks and change the block states (R259, R260). -/
def State.yielded (s : State) (c l : Nat) (o : Op) (cls len wait cont : Nat) : State :=
  let u := s.lun c l
  if wait = 2 then s.setLun c l { u with wait := 2, cont := cont, offered := true, endAt := 0, progressAt := s.frame }
  else if o.kind = .program ∧ u.st = .dataIn then
    let f := s.programFault o
    if f ≠ 0 then (((s.chFault o.addr f).event 0x20 0x0100 (c + f * 2 ^ 6 + l * 2 ^ 10)).freeLun c l).opRefused o
    else
      let s1 := s.programIssued o
      (s1.setLun c l { s1.lun c l with st := .busy }).arrayPhase c l o cls len wait cont
  else if o.kind = .erase ∧ u.st = .dataIn then
    let s1 := o.blocks.foldl (fun s a => s.setBlk a { s.blk a with st := .erasing }) s
    (s1.setLun c l { s1.lun c l with st := .busy }).arrayPhase c l o cls len wait cont
  else s.arrayPhase c l o cls len wait cont

/-- Runs one bus phase of a LUN's operation from an entry, with `adm` codewords admitted and the bytes its bus returns, to its end. -/
def State.runLun (s : State) (c l : Nat) (o : Op) (entry adm : Nat) (caps : List Nat) : State :=
  let u := s.lun c l
  match entryAt s.ucode.active u.die entry with
  | none => ((s.chFault o.addr 6).freeLun c l).opRefused o
  | some a =>
    let e := s.phaseEnv c l o
    let r := runPhase e phaseFuel a { seq := u.seq, caps := caps, adm := adm }
    let s1 := (s.setLun c l { u with seq := r.1.seq, progressAt := s.frame }).setChn c { s.chn c with used := (s.chn c).used + r.1.time }
    let late := r.1.opened && decide (r.1.busTime * 40 + r.1.burst < r.1.time)
    let s2 := if late then (s1.bump Reg.UCS_CNT.OVERRUNS).event 0x24 0x0102 (c + r.1.phaseAt * 2 ^ 6) else s1
    match r.2 with
    | .yield cls len wait cont => s2.yielded c l o cls len wait cont
    | .done outcome =>
      if u.suspends then
        if outcome = 0 then
          s2.setLun c l { s2.lun c l with st := .suspended, op := none, suspends := false, endAt := 0, offered := false }
        else
          match u.held with
          | some (h, q, cont) =>
            let s3 := s2.setLun c l { s2.lun c l with held := none, suspends := false, op := some h, st := .busy,
                                                       seq := { q with latch := r.1.seq.latch, hit := r.1.seq.hit }, cont := cont,
                                                       wait := 0, endAt := s2.frame, offered := true }
            s3
          | none => s2.freeLun c l
      else if u.st = .resetting then s2.freeLun c l
      else s2.opEnd c l o (outcome == 0)
    | .trap code addr => s2.opTrap c l o code addr
    | .overs => s2.setLun c l { s2.lun c l with op := some o, overs := some r.1.phaseAt }

/-- The continuation of a LUN runs with the codewords its frame carries (R285). -/
def State.continue_ (s : State) (c l : Nat) (caps : List Nat) : State :=
  let u := s.lun c l
  match u.op with
  | none => s
  | some o =>
    let s1 := s.setLun c l { u with offered := false, endAt := 0,
                                    st := match o.kind, u.st with
                                      | .read, .sensing => .dataOut
                                      | _, st => st }
    s1.runLun c l o u.cont (min (o.cws - u.seq.cwp) (s.transfers c u.die)) caps

/-- A STATUS poll (R285, R286): what it leaves in the latch, whether it ends PASS, and the bus bytes left. -/
def State.poll (s : State) (c l : Nat) (o : Op) (caps : List Nat) : Option (Seq × List Nat) :=
  let u := s.lun c l
  match entryAt s.ucode.active u.die 1 with
  | none => none
  | some a =>
    match runPhase (s.phaseEnv c l o) phaseFuel a { seq := u.seq, caps := caps, adm := 0 } with
    | (r, .done 0) => some ({ u.seq with latch := r.seq.latch, hit := r.seq.hit }, r.caps)
    | _ => none

/-! ### Starting operations (R255, R257, R261, R262) -/

/-- Why an operation cannot start, as a fault code, 0 when it can (R261, R262). -/
def State.startFault (s : State) (o : Op) : Nat :=
  if s.lunFailed (adChannel o.addr) (adLunNo o.addr) || !s.chanReady (adChannel o.addr) then 5
  else if !s.addrOk o.addr o.slc then 4
  else if o.kind = .read then
    let b := s.blk o.addr
    let page := adPage o.addr
    let programmed := (match b.wp with
        | some w => decide (page < w)
        | none => false) && (match b.busyFrom with
        | some f => decide (page < f)
        | none => true)
    match b.st with
    | .opened | .closed => if programmed then 0 else 3
    | _ => 3
  else 0

/-- RETRY_SET runs before a sense whose level is not the one applied in the die (R320). -/
def State.retrySet (s : State) (c l : Nat) (o : Op) : State :=
  let u := s.lun c l
  if o.kind = .read ∧ u.applied ≠ o.level then
    match entryAt s.ucode.active u.die 0x15 with
    | some a =>
      let r := runPhase (s.phaseEnv c l o) phaseFuel a { seq := freshSeq o, caps := [], adm := 0 }
      (s.setLun c l { u with applied := o.level }).setChn c { s.chn c with used := (s.chn c).used + r.1.time }
    | none => s
  else s

/-- The state of a LUN as an operation's first bus phase runs. -/
def OpKind.first : OpKind → LunSt
  | .read => .sensing
  | .program | .erase => .dataIn
  | _ => .sensing

/-- Starts an operation of a LUN's queue: a refused one ends at once (R255, R261, R262). -/
def State.startOp (s : State) (c l : Nat) (o : Op) : State :=
  let u := s.lun c l
  let s1 := s.setLun c l { u with queue := u.queue.erase o }
  let f := s.startFault o
  if f ≠ 0 then
    let s2 := s1.chFault o.addr f
    (if f = 3 then s2.event 0x20 0x0106 (c + l * 2 ^ 6) else s2).opRefused o
  else
    let s2 := s1.retrySet c l o
    let s3 := s2.setLun c l { s2.lun c l with op := some o, seq := freshSeq o, st := o.kind.first, wait := 0, offered := false, endAt := 0,
                                               progressAt := s.frame }
    s3.runLun c l o o.entry (if o.kind = .program then min o.cws (s.transfers c u.die) else 0) []

/-- The head of each class queue of a LUN, in the order of the classes. -/
def Lun.heads (u : Lun) : List Op :=
  [Cls.mandatory, .rd, .wr, .gc, .rb, .pt].filterMap (fun c => u.queue.find? (fun o => decide (o.cls = c)))

/-! ### LUN rows -/

/-- LUN_READY (R257, R284, R285, R297): the poll finds the LUN ready. At or after the declared end the continuation runs at once; before it,
the continuation is offered. No poll runs in a swap frame (R305). -/
def execLunReady (ch : Chan) (lun : LunNo) (bytes : List Nat) (s : State) : Host.Outcome State Fault Refusal :=
  let c := ch.val
  let l := lun.val
  let u := s.lun c l
  if s.sup.coreUp && u.endAt != 0 && !u.offered && u.overs.isNone && decide (u.wait < 2) && !s.swapFrame s.frame then
    match u.op with
    | some o =>
      match s.poll c l o bytes with
      | some (q, rest) =>
        let s1 := s.setLun c l { u with seq := q, progressAt := s.frame }
        if u.st = .resetting then
          let s2 := s1.continue_ c l rest
          ok (if (s2.lun c l).st = .resetting then s2.freeLun c l else s2)
        else if u.endAt ≤ s.frame then
          let s2 := s1.continue_ c l rest
          let v := s2.lun c l
          ok (if u.suspends && v.offered && !v.suspends && decide (v.st = .busy) then s2.continue_ c l [] else s2)
        else ok (s1.setLun c l { s1.lun c l with offered := true })
      | none => ok s
    | none => ok s
  else ok s

/-- TIMED_WAIT_END (R284): the frames of a TIMED wait have passed and its continuation is offered. -/
def execTimedWaitEnd (ch : Chan) (lun : LunNo) (s : State) : Host.Outcome State Fault Refusal :=
  let u := s.lun ch.val lun.val
  if s.sup.coreUp && u.op.isSome && u.wait == 3 && u.endAt != 0 && decide (u.endAt ≤ s.frame) && !u.offered then
    ok (s.setLun ch.val lun.val { u with offered := true, progressAt := s.frame })
  else ok s

/-- A read of the mandatory or the RD class waits for the LUN (R264). -/
def Lun.readWaits (u : Lun) : Bool := u.queue.any (fun o => decide (o.kind = .read) && decide (o.cls = .mandatory ∨ o.cls = .rd))

/-- Frames of the array phase still declared after the present frame. -/
def State.remaining (s : State) (u : Lun) : Nat := u.endAt - s.frame - 1

/-- The conditions of R264 on a Busy LUN's operation. -/
def State.maySuspend (s : State) (c l : Nat) (o : Op) : Bool :=
  let u := s.lun c l
  let i := dieSusp s.ucode.active u.die (decide (o.kind = .erase))
  let en := match o.kind with
    | .erase => s.on Reg.CHN_SUSP_CFG.E_EN c
    | .program => s.on Reg.CHN_SUSP_CFG.P_EN c && !o.slc
    | _ => false
  decide (u.st = .busy) && u.wait == 1 && u.endAt != 0 && !u.suspends && u.held.isNone && i.supported && en
    && (u.readWaits || u.carried)
    && decide (s.rd Reg.CHN_SUSP_CFG.REMAIN_MIN c ≤ s.remaining u)
    && decide (i.least ≤ s.frame - (u.endAt - o.len)) && decide (o.suspends < i.most)

/-- SUSPEND_ISSUE (R264, R297). -/
def execSuspendIssue (ch : Chan) (lun : LunNo) (s : State) : Host.Outcome State Fault Refusal :=
  let c := ch.val
  let l := lun.val
  let u := s.lun c l
  match u.op with
  | some o =>
    if s.serving && s.maySuspend c l o then
      let o1 := { o with left := s.remaining u, suspends := o.suspends + 1, resumed := false }
      let s1 := (s.setLun c l { u with held := some (o1, u.seq, u.cont), heldAt := s.frame, suspends := true, st := .suspending,
                                       op := some o1, seq := freshSeq o1 }).bump Reg.CHN_CNT.SUSPENDS 1 c
      ok (s1.runLun c l o1 (if o.kind = .erase then 9 else 0xB) 0 [])
    else ok s
  | none => ok s

/-- mW a LUN is booked for in the frame after the present one (R229, R230). -/
def State.lunDraw (s : State) (c l : Nat) : Nat :=
  let u := s.lun c l
  if u.op.isSome && u.endAt != 0 && !u.offered then imgDraw s.ucode.active (imgTable s.ucode.active c) u.pcls else 0

/-- The carried load of the next frame in nJ (R230). -/
def State.carriedLoad (s : State) : Nat := (s.luns.map (fun e => 10 * s.lunDraw (e.1 / 32) (e.1 % 32))).foldl (· + ·) 0

/-- A phase that spans frames fits under CARRY_PCT of the present E_frame with the load booked (R231). The booked load only falls from frame
to frame, so the next frame decides. -/
def State.carryFits (s : State) (mw : Nat) : Bool :=
  decide ((s.carriedLoad + 10 * mw) * 100 ≤ s.rd Reg.FRM_CFG.CARRY_PCT * s.sched.energy)

/-- Resumes the suspended operation of a LUN (R265, R297). -/
def State.resumeLun (s : State) (c l : Nat) : State :=
  let u := s.lun c l
  match u.held with
  | some (o, q, cont) =>
    let o1 := { o with resumed := true }
    let s1 := s.setLun c l { u with held := none, op := some o1, seq := q, cont := cont, st := .busy, carried := false, endAt := 0 }
    s1.runLun c l o1 (if o.kind = .erase then 0xA else 0xC) 0 []
  | none => s

/-- The draw of a suspended operation. -/
def State.heldDraw (s : State) (c l : Nat) : Nat := imgDraw s.ucode.active (imgTable s.ucode.active c) (s.lun c l).pcls

/-- RESUME_ISSUE (R265): no read waits or runs on the suspended LUN and the carried load lets it. -/
def execResumeIssue (ch : Chan) (lun : LunNo) (s : State) : Host.Outcome State Fault Refusal :=
  let c := ch.val
  let l := lun.val
  let u := s.lun c l
  if s.serving && decide (u.st = .suspended) && u.op.isNone && !u.readWaits && !(u.carried && s.sched.suspending) && s.carryFits (s.heldDraw c l) then
    ok (s.resumeLun c l)
  else ok s

/-- SUSPEND_HOLD_EXPIRY (R265): HOLD_MAX frames have passed since the suspend. -/
def execSuspendHoldExpiry (ch : Chan) (lun : LunNo) (s : State) : Host.Outcome State Fault Refusal :=
  let c := ch.val
  let l := lun.val
  let u := s.lun c l
  if s.serving && decide (u.st = .suspended) && u.op.isNone && decide (u.heldAt + s.rd Reg.CHN_SUSP_CFG.HOLD_MAX c ≤ s.frame)
      && s.carryFits (s.heldDraw c l) then
    ok (s.resumeLun c l)
  else ok s

/-- Resets a LUN (R267, R294): RESET_LUN runs and the applied level is 0 again. -/
def State.resetLun (s : State) (c l : Nat) (o : Op) : State :=
  let u := s.lun c l
  let s1 := s.setLun c l { u with st := .resetting, op := some o, held := none, suspends := false, overs := none, offered := false,
                                  seq := freshSeq o, applied := 0, endAt := 0, wait := 0 }
  let s2 := s1.runLun c l o 0 0 []
  if (s2.lun c l).op.isSome then s2 else s2.setLun c l { s2.lun c l with st := .idle }

/-- BUS_PHASE_STOP (R294): the phase is stopped, its LUN is reset, and the operation ends as for a TRAP with code 0xFF. -/
def execBusPhaseStop (ch : Chan) (lun : LunNo) (s : State) : Host.Outcome State Fault Refusal :=
  let c := ch.val
  let l := lun.val
  let u := s.lun c l
  match u.op, u.overs with
  | some o, some a =>
    let s1 := s.event 0x24 0x0103 (c + a * 2 ^ 6)
    let s2 := s1.opTrap c l o 0xFF a
    ok (s2.resetLun c l o)
  | _, _ => ok s

/-! ### Engine restarts (R103, R257, R275) -/

/-- A LUN as its engine restarts: reads and erases in flight are posted again; a program that was confirmed counts as interrupted and its data
is placed elsewhere. -/
def State.restartLun (s : State) (c l : Nat) : State :=
  let u := s.lun c l
  let run := u.op.toList ++ (u.held.toList.map (·.1)).filter (fun o => u.op.all (fun x => x.kind != o.kind || x.addr != o.addr))
  let again := run.filter (fun o => decide (o.kind ≠ .program))
  let s1 := s.setLun c l { u with st := .idle, op := none, held := none, suspends := false, overs := none, offered := false, endAt := 0, applied := 0,
                                  queue := again.map (fun o => { o with resumed := false, suspends := 0 }) ++ u.queue, progressAt := s.frame }
  let s2 := again.foldl (fun s o => match o.kind with
    | .erase => o.blocks.foldl (fun s a => s.setBlk a { s.blk a with st := .eraseUnfin }) s
    | _ => s) s1
  (run.filter (fun o => decide (o.kind = .program))).foldl (fun s o =>
    (o.images.foldl (fun s i => s.setPage i.1 { s.page i.1 with invalid := true }) s).opRefused o) s2

/-- The engine of a channel restarts. -/
def State.restartEngine (s : State) (c l : Nat) : State :=
  let s1 := (s.chFault (mkAddr c l 0 0 0 0) 7).event 0x20 0x0101 (c + l * 2 ^ 6)
  ((s1.luns.filter (fun e => e.1 / 32 == c)).map (fun e => e.1 % 32)).foldl (fun s l => s.restartLun c l) s1

/-- CHANNEL_ENGINE_STALL (R103, R257): a LUN shows no phase progress for 100 frames beyond its declared length. -/
def execChannelEngineStall (ch : Chan) (lun : LunNo) (s : State) : Host.Outcome State Fault Refusal :=
  let u := s.lun ch.val lun.val
  if s.serving && u.op.isSome && decide (max u.progressAt u.endAt + 100 ≤ s.frame) then ok (s.restartEngine ch.val lun.val) else ok s

/-- RESTART (R275): the host restarts a channel engine. -/
def execChannelRestart (fn : Fn) (ch : Chan) (s : State) : Host.Outcome State Fault Refusal :=
  if s.reachable fn.val then
    let s1 := s.wakeTlp fn.val
    if s1.chanReady ch.val then ok (s1.restartEngine ch.val 0) else ok s1
  else ok s

/-! ### Initialisation and training (R252, R253, R270, R319) -/

/-- The band of a temperature (R319): the one with the lowest limit at or above it; a new band only past its boundary by 2.0 °C. -/
def bandFor (g : Img) (die old : Nat) (t : Int) : Nat :=
  let n := dieBands g die
  let at_ (x : Int) : Nat := ((List.range (n - 1)).find? (fun b => decide (x ≤ dieLimit g die b))).getD (n - 1)
  let b := at_ t
  if b = old then old
  else if old < b then (if dieLimit g die old + 20 < t then b else old)
  else (if t < dieLimit g die (old - 1) - 20 then b else old)

/-- A channel failure (R39, R252): its state, its bit in Health, its LUNs, and the part-failure report. -/
def State.channelFail (s : State) (c rate : Nat) : State :=
  let s1 := (s.wr Reg.CHN_ENG_STATUS.STATE 4 c).event 0x20 0x0105 (c + rate * 2 ^ 6)
  let s2 := s1.setHealth 0x078 (setBit (s1.health_ 0x078) c)
  let s3 : State := { s2 with
    luns := Tbl.mapAll {} (fun k u => if k / 32 = c then { u with st := .failed, op := none, held := none, queue := [] } else u) s2.luns
    blks := Tbl.mapAll {} (fun k b => if adChannel (k * 2 ^ 14) = c ∧ b.valid ≠ 0 then { b with refresh := true } else b) s2.blks
    bands := s2.bands.map (fun b => if b.channels.testBit c then { b with empty := setBit b.empty c } else b) }
  let gone := ((s3.decs.filter (fun d => adChannel d.addr == c && decide (d.st = .sensing ∨ d.st = .softSensing)))).foldl State.toRow s3
  (gone.thiPartGone (mkAddr c 0 0 0 0 0) (63 * 2 ^ 34)).partFail

/-- The populations of a channel differ from those of the lowest-numbered populated one (R251). -/
def State.popDiffers (s : State) (c : Nat) : Bool :=
  match (List.range 64).find? (fun i => s.rd Reg.CHN_POP.TARGETS i != 0) with
  | some i => s.rd Reg.CHN_POP.TARGETS c != s.rd Reg.CHN_POP.TARGETS i || s.rd Reg.CHN_POP.LUNS c != s.rd Reg.CHN_POP.LUNS i
      || s.rd Reg.CHN_POP.PLANES c != s.rd Reg.CHN_POP.PLANES i
  | none => false

/-- The LUN numbers of a channel's population in their order. -/
def State.lunsOf (s : State) (c : Nat) : List Nat := (List.range 32).filter (fun l => s.lunPopulated c l)

/-- CHANNEL_INIT_DONE (R251, R252, R253): each LUN takes the die description its identity matches or fails; a channel without a trained rate,
or populated unlike the others, fails; else it is ready at its rate. `ids` are the Read IDs by LUN in order, none where a LUN does not
answer. -/
def execChannelInitDone (ch : Chan) (ids : List (Option Nat)) (rate : Fin 6) (temp : Int) (s : State) : Host.Outcome State Fault Refusal :=
  let c := ch.val
  if s.sup.coreUp && decide (3 ≤ s.boot.step) && s.rd Reg.CHN_POP.TARGETS c != 0
      && (s.rd Reg.CHN_ENG_STATUS.STATE c == 0 || s.rd Reg.CHN_ENG_STATUS.STATE c == 1 || s.rd Reg.CHN_ENG_STATUS.STATE c == 2) then
    if rate.val = 0 ∨ s.popDiffers c then ok (s.channelFail c rate.val)
    else
      let g := s.ucode.active
      let s1 := (s.lunsOf c).zipIdx.foldl (fun s e =>
        match ((ids[e.2]?).join).bind (imgMatch g) with
        | some d =>
          let u := s.lun c e.1
          s.setLun c e.1 { u with die := d, id := ((ids[e.2]?).join).getD 0, st := if s.lunFailed c e.1 then .failed else .idle }
        | none =>
          if s.lunFailed c e.1 then s
          else ((s.event 0x20 0x0102 (c + e.1 * 2 ^ 6)).dieRetire c e.1)) s
      let s2 := ((s1.wr Reg.CHN_ENG_STATUS.RATE rate.val c).wr Reg.CHN_ENG_STATUS.STATE 3 c).wr Reg.CHN_TRAIN.TEMP (signedField 16 temp) c
      ok ((s2.bump Reg.CHN_TRAIN.COUNT 1 c).setChn c { s2.chn c with zqNow := (s2.chn c).zq, reads := 0, hardFails := 0 })
  else ok s

/-- The mean temperature of a channel's dies in 0.1 °C. -/
def State.meanTemp (s : State) (c : Nat) : Int :=
  let l := ((s.lunsOf c).filter (fun i => !s.lunFailed c i)).map (fun i => (s.lun c i).temp)
  l.foldl (· + ·) 0 / max 1 (l.length : Int)

/-- Reads and hard-decode failures of the last second over every channel. -/
def State.failTotals (s : State) : Nat × Nat :=
  ((s.chns.map (fun e => e.2.reads)).foldl (· + ·) 0, (s.chns.map (fun e => e.2.hardFails)).foldl (· + ·) 0)

/-- Why a channel is to retrain (R253): 1 temperature, 2 decode failures, 3 ZQ drift, 0 none. -/
def State.retrainCause (s : State) (c : Nat) : Nat :=
  let x := s.chn c
  let drift := s.meanTemp c - s.rdInt Reg.CHN_TRAIN.TEMP c
  let t := s.failTotals
  if 100 < drift ∨ drift < -100 then 1
  else if 4 * t.2 * x.reads < x.hardFails * t.1 then 2
  else if x.zq + 2 < x.zqNow ∨ x.zqNow + 2 < x.zq then 3
  else 0

/-- ZQ_SHORT_CAL (R253): the drive-strength code found; the counts of the last second end. -/
def execZqShortCal (ch : Chan) (code : Nat) (s : State) : Host.Outcome State Fault Refusal :=
  if s.serving && s.chanReady ch.val then
    let x := s.chn ch.val
    let s1 := s.setChn ch.val { x with zqNow := code }
    if x.retrain = 0 ∧ s1.retrainCause ch.val ≠ 0 then ok s1
    else ok (s1.setChn ch.val { s1.chn ch.val with reads := 0, hardFails := 0 })
  else ok s

/-- CHANNEL_RETRAIN_START (R253): at most four channels retrain at once. -/
def execChannelRetrainStart (ch : Chan) (s : State) : Host.Outcome State Fault Refusal :=
  let c := ch.val
  let x := s.chn c
  let cause := s.retrainCause c
  if s.serving && s.chanReady c && x.retrain == 0 && cause != 0 && decide ((s.chns.filter (fun e => e.2.retrain != 0)).length < 4) then
    ok (s.setChn c { x with retrain := 1, cause := cause, reads := 0, hardFails := 0 })
  else ok s

/-- CHANNEL_RETRAIN_DONE (R253): all 24 steps have passed and the new results are adopted. -/
def execChannelRetrainDone (ch : Chan) (s : State) : Host.Outcome State Fault Refusal :=
  let c := ch.val
  let x := s.chn c
  if s.serving && x.retrain == 25 then
    let s1 := s.setChn c { x with retrain := 0, zq := x.zqNow }
    ok (((s1.wr Reg.CHN_TRAIN.TEMP (signedField 16 (s.meanTemp c)) c).bump Reg.CHN_TRAIN.COUNT 1 c).event 0x20 0x0104 (c + x.cause * 2 ^ 6))
  else ok s

/-- RAW_EN (R270, R276): the mask is stored for the next cold start, unless its channel is locked. -/
def execRawEn (fn : Fn) (ch : Chan) (mask : Word) (s : State) : Host.Outcome State Fault Refusal :=
  if s.reachable fn.val then
    let s1 := s.wakeTlp fn.val
    if s1.on Reg.CHN_ENG_CTRL.LOCK ch.val then ok s1 else ok (s1.wr Reg.CHN_RAW_EN.RAW mask.toNat ch.val)
  else ok s

/-- UCODE_TABLES_ACTIVE (R305): at boundary S + 1 the new power tables enter use and the UCODE_LOAD completes. -/
def execUcodeTablesActive (s : State) : Host.Outcome State Fault Refusal :=
  if s.sup.coreUp && s.on Reg.UCS_STATUS.SWAP_PENDING && s.ucode.swapped && decide (s.ucode.swapAt < s.frame) then
    let g := s.ucode.active
    let s1 := (s.loadTables g).wr Reg.UCS_STATUS.SWAP_PENDING 0
    let c := s.ucode.loader
    let s2 : State := { s1 with ucode := { s1.ucode with swapped := false, loader := 0, next := [] } }
    if c = 0 then ok s2 else ok (s2.setCtx (c - 1) { s2.ctx (c - 1) with phase := .committed, committed := true, status := 0 })
  else ok s

/-! ### Brown-out (R267) -/

/-- A LUN at brown-out recognition: class J work goes on, class B work and reads are reset, what has not started is discarded. The number of
class B operations reset. -/
def State.brownLun (s : State) (c l : Nat) : State × Nat :=
  let u := s.lun c l
  let s0 := s.setLun c l { u with queue := [] }
  let heldB := match u.held with
    | some (o, _, _) => !o.slc
    | none => false
  match u.op with
  | some o =>
    let keep := o.slc && decide (u.st = .busy ∧ (o.kind = .program ∨ o.kind = .erase))
    if keep then (s0, 0)
    else
      let writes := decide (u.st = .busy ∨ u.st = .suspending) && decide (o.kind = .program ∨ o.kind = .erase)
      let mark := if writes && decide (o.kind = .program) then o.images.foldl (fun s i => s.setPage i.1 { s.page i.1 with invalid := true }) s0
        else if writes then o.blocks.foldl (fun s a => s.setBlk a { s.blk a with st := .eraseUnfin, wp := none }) s0 else s0
      (mark.resetLun c l o, (if writes && !o.slc then 1 else 0) + (if heldB && !u.suspends then 1 else 0))
  | none =>
    match u.held with
    | some (o, _, _) =>
      let mark := if o.kind = .program then o.images.foldl (fun s i => s.setPage i.1 { s.page i.1 with invalid := true }) s0
        else o.blocks.foldl (fun s a => s.setBlk a { s.blk a with st := .eraseUnfin, wp := none }) s0
      if o.slc then (mark.setLun c l { mark.lun c l with held := none, st := .idle }, 0) else (mark.resetLun c l o, 1)
    | none => (s0, 0)

/-- Every channel engine takes brown-out treatment (R267, R279). -/
def State.brownChannels (s : State) : State :=
  (List.range 64).foldl (fun s c =>
    if s.rd Reg.CHN_POP.TARGETS c = 0 then s
    else
      let r := ((s.luns.filter (fun e => e.1 / 32 == c)).map (fun e => e.1 % 32)).foldl (fun (a : State × Nat) l =>
        let b := a.1.brownLun c l
        (b.1, a.2 + b.2)) (s, 0)
      if r.2 = 0 then r.1 else r.1.event 0x20 0x0103 (c + r.2 * 2 ^ 6)) s

/-- BO_MODE of every populated channel (R267, R275). -/
def State.boMode (s : State) (on_ : Bool) : State :=
  (List.range 64).foldl (fun s c => if s.rd Reg.CHN_POP.TARGETS c = 0 then s else s.wr Reg.CHN_ENG_STATUS.BO_MODE (bit on_) c) s

end Sys2Proof.Machine
end

