-- ==== Sys2Proof/Machine/Fans.lean ====
section
/-! DEFINITION. The fan bridges and the fan states (R562 to R572, R576 to R578). -/

set_option Elab.async false

namespace Sys2Proof.Machine

/-- A fan. -/
def State.fan (s : State) (f : Nat) : Fan := Tbl.get {} s.fans f
/-- Changes a fan. -/
def State.setFan (s : State) (f : Nat) (x : Fan) : State := { s with fans := Tbl.set {} s.fans f x }

/-- The fan states as FAN_F.STATE names them (R577). -/
inductive FanSt where
  | off | probe | brake | ramp | locate | catch_ | run | coast | settle | fault
  deriving DecidableEq, Repr

/-- FAN_F.STATE of a fan state. -/
def FanSt.code : FanSt → Nat
  | .off => 0 | .probe => 1 | .brake => 2 | .ramp => 3 | .locate => 4 | .catch_ => 5 | .run => 6 | .coast => 7
  | .settle => 8 | .fault => 9

/-- The fan state a code names. -/
def fanStOf (n : Nat) : FanSt :=
  match n with
  | 1 => .probe | 2 => .brake | 3 => .ramp | 4 => .locate | 5 => .catch_ | 6 => .run | 7 => .coast | 8 => .settle
  | 9 => .fault | _ => .off

/-- The state of a fan. -/
def State.fanSt (s : State) (f : Nat) : FanSt := fanStOf (s.rd Reg.FAN_F.STATE f)

/-- The fan is enabled (R576). -/
def State.fanEnabled (s : State) (f : Nat) : Bool := (s.rd Reg.FAN_CTRL.ENABLE).testBit f
/-- The fan is in fault (R570). -/
def State.fanFaulted (s : State) (f : Nat) : Bool := (s.rd Reg.FAN_STATUS.FAULT_MASK).testBit f
/-- CATCH_RPM in rpm (R577). -/
def State.catchRpm (s : State) (f : Nat) : Nat := 10 * s.rd Reg.FAN_F.CATCH_RPM f
/-- RATED_RPM in rpm (R577). -/
def State.ratedRpm (s : State) (f : Nat) : Nat := 10 * s.rd Reg.FAN_F.RATED_RPM f
/-- MIN_RPM in rpm (R577). -/
def State.minRpm (s : State) (f : Nat) : Nat := 10 * s.rd Reg.FAN_F.MIN_RPM f

/-- The largest duty in 1/1,024: VMOT ÷ VIN (R563). -/
def State.dutyLimit (s : State) (f : Nat) : Nat := min 1023 (1024 * 500 * s.rd Reg.FAN_F.VMOT f / max 1 s.sup.vin)

/-- The duty of Ramp in 1/1,024, `t` frames after its start (R568): KE_NOM times the forced speed over VIN, plus 5 %; the electrical frequency
rises from 2 Hz to that of MIN_RPM over 50,000 frames, so the speed times the pole pairs rises from 120 rpm (DEDUCED: log entry 78). -/
def State.rampDuty (s : State) (f t : Nat) : Nat :=
  let poles := max 1 (s.rd Reg.FAN_F.POLES f)
  let speed := 120 * (50000 - t) + s.minRpm f * poles * min t 50000
  let unit := 50000 * poles * 1000 * max 1 s.sup.vin
  min (s.dutyLimit f) ((5 * 1024 * s.rd Reg.FAN_F.KE_NOM f * speed + 256 * unit) / (5 * unit))

/-- The duty at which a fan is caught in 1/1,024 (R569): the measured back-EMF over VIN (DEDUCED: log entry 78). -/
def State.catchDuty (s : State) (f ke : Nat) : Nat :=
  min (s.dutyLimit f) (1024 * ke * s.rd Reg.FAN_F.RPM f / (1000 * max 1 s.sup.vin))

/-- A fan enters a state: its counts restart. A start of Ramp drives the bridge at its first duty; every state in which the bridge is released,
and Brake, which drives the low sides only, has duty 0 (R562, R567, R568) (DEDUCED: log entry 78). -/
def State.fanGo (s : State) (f : Nat) (st : FanSt) : State :=
  let s1 := (s.wr Reg.FAN_F.STATE st.code f).setFan f
    { s.fan f with fwd := 0, rev := 0, valid := 0, misses := 0, since := s.frame, lastAt := s.frame, pulse := 0, braked := false, cut := false }
  match st with
  | .run | .catch_ | .locate => s1
  | .ramp => s1.wr Reg.FAN_F.DUTY (s.rampDuty f 0) f
  | _ => s1.wr Reg.FAN_F.DUTY 0 f

/-- Faulted fans. -/
def State.fansFaulted (s : State) : Nat := popCount 4 (s.rd Reg.FAN_STATUS.FAULT_MASK)

/-- A start: Ramp for A of 0 and 1, Locate for A of 2 and more (R567). -/
def State.fanStart (s : State) (f : Nat) : State :=
  (s.fanGo f (if s.rd Reg.FAN_F.FAILS f < 2 then .ramp else .locate)).bump Reg.FAN_F.STARTS 1 f

/-- A start attempt ends without handover: A + 1, Settle, event 0x0101 (R567, R568). -/
def State.fanFail (s : State) (f : Nat) : State :=
  let a := min 3 (s.rd Reg.FAN_F.FAILS f + 1)
  let loc := bit (s.fanSt f = .locate)
  ((s.fanGo f .settle).wr Reg.FAN_F.FAILS a f).event 0x05 0x0101 (f + loc * 4 + a * 8)

/-- A fan enters Run: a fault it had, before a RETRY or a cold start, is cleared (R570) (DEDUCED: log entry 81). -/
def State.fanRun (s : State) (f : Nat) : State :=
  let s1 := s.fanGo f .run
  let s2 := s1.setFan f { s1.fan f with runFrom := s.frame }
  if s.fanFaulted f || (s.health_ 0x082).testBit f then
    ((s2.wr Reg.FAN_STATUS.FAULT_MASK (clearBit (s2.rd Reg.FAN_STATUS.FAULT_MASK) f)).setHealth 0x082
      (clearBit (s2.health_ 0x082) f)).event 0x05 0x0103 f
  else s2

/-- A fan enters Fault: its bits are set and HEALTH is posted with INFO[2] (R570). -/
def State.fanFault (s : State) (f : Nat) (wrongMotor : Bool) : State :=
  let s1 := (s.fanGo f .fault).wr Reg.FAN_STATUS.FAULT_MASK (setBit (s.rd Reg.FAN_STATUS.FAULT_MASK) f)
  let s2 := (s1.setHealth 0x082 (setBit (s1.health_ 0x082) f)).event 0x05 0x0102 (f + bit wrongMotor * 4)
  s2.asyncAll 3 (s2.rd Reg.FTL_HEALTH.GRADE + 4)

/-- The target speed of a fan in rpm (R565): `composite` and the set point in 0.1 °C. -/
def State.fanTarget (s : State) (f : Nat) : Nat :=
  if !s.fanEnabled f || s.fanFaulted f then 0
  else if s.thermal.tripped || s.rd Reg.FRM_STATUS.TF < 256 || s.rd Reg.FRM_STATUS.MODE == 2
      || s.rd Reg.FAN_STATUS.FAULT_MASK != 0 then s.ratedRpm f
  else match s.rd Reg.FAN_CTRL.POLICY with
    | 0 =>
      let c := (s.rdInt Reg.THM_TEMP.COMPOSITE - ((s.rd Reg.THM_CFG.SP : Int) * 10 - 200)).toNat
      s.minRpm f + (s.ratedRpm f - s.minRpm f) * (min c 200) / 200
    | 2 => max (s.minRpm f) (min (s.rd Reg.FAN_F.TARGET f) (s.ratedRpm f))
    | _ => s.ratedRpm f

/-- The power of a fan in 0.1 W (R566), as a fraction: numerator and denominator. -/
def State.fanPower (s : State) (f : Nat) : Nat × Nat :=
  match s.fanSt f with
  | .off | .fault | .coast => (0, 1)
  | .ramp | .locate | .catch_ | .brake => (10 * s.rd Reg.FAN_F.P_RATED f, 4)
  | .probe | .run | .settle => (10 * s.rd Reg.FAN_F.P_RATED f * s.rd Reg.FAN_F.RPM f ^ 3, max 1 (s.ratedRpm f ^ 3))

/-- P_fan in 0.1 W (R566): the sum over the fans, rounded once, to the nearest tenth of a watt (DEDUCED: log entry 79). -/
def State.fansPower (s : State) : Nat :=
  let sum := [0, 1, 2, 3].foldl (fun (a : Nat × Nat) f =>
    let p := s.fanPower f
    (a.1 * p.2 + p.1 * a.2, a.2 * p.2)) (0, 1)
  (2 * sum.1 + sum.2) / (2 * sum.2)

/-- The frame update of one fan (R563, R565, R567): the slewed command, the duty of the speed loop or of Ramp, Off to Probe on a target
above 0, Run to Off on target 0 or disable. In P3 the targets hold (R527) (DESIGN CHOICE: log entry 10). -/
def State.fanFrame (s : State) (f : Nat) : State :=
  let x := s.fan f
  let goal := if s.rd Reg.PWR_STATUS.STATE = 3 then x.cmd else 10 * s.fanTarget f
  let cmd := if goal < x.cmd then x.cmd - 1 else if x.cmd < goal then x.cmd + 1 else x.cmd
  let s1 := s.setFan f { x with cmd := cmd, cut := false }
  match s.fanSt f with
  | .off => if 0 < goal && s.fanEnabled f then s1.fanGo f .probe else s1
  | .run =>
    if goal = 0 || !s.fanEnabled f then s1.fanGo f .off
    else s1.wr Reg.FAN_F.DUTY (min (s.dutyLimit f) (Config.fanDuty (s.rd Reg.FAN_F.RPM f) cmd (s.rd Reg.FAN_F.DUTY f)).val) f
  | .locate => s1.wr Reg.FAN_F.DUTY (min (s.dutyLimit f) (Config.fanDuty (s.rd Reg.FAN_F.RPM f) cmd (s.rd Reg.FAN_F.DUTY f)).val) f
  | .ramp => s1.wr Reg.FAN_F.DUTY (s.rampDuty f (s.frame - x.since)) f
  | _ => s1

/-- The fan control updates of a frame and P_fan (R222, R563, R566). -/
def State.fansFrame (s : State) : State :=
  let s1 := [0, 1, 2, 3].foldl State.fanFrame s
  s1.wr Reg.FAN_STATUS.P_FAN (min 0xFFFF s1.fansPower)

/-- Brown-out recognition releases every fan (R567). -/
def State.fansOff (s : State) : State :=
  [0, 1, 2, 3].foldl (fun s f => s.fanGo f .off) s

/-! ### The rows -/

/-- BEMF_CROSSING (R563, R567, R569): a zero crossing in a direction, the speed it gives, and whether it lies within ±25 % of
the expected interval. -/
def execBemfCrossing (fan : Fin 4) (reverse : Bool) (rpm : Nat) (inTime : Bool) (s : State) :
    Host.Outcome State Fault Refusal :=
  let f := fan.val
  let x := s.fan f
  let s1 := (s.wr Reg.FAN_F.RPM (min rpm 65535) f).wr Reg.FAN_F.REVERSE (bit reverse) f
  let y : Fan := { x with fwd := if reverse then 0 else x.fwd + 1, rev := if reverse then x.rev + 1 else 0,
                          valid := if !reverse && inTime then x.valid + 1 else 0, misses := 0, lastAt := s.frame }
  let s2 := s1.setFan f y
  let fast := decide (s.catchRpm f ≤ rpm)
  match s.fanSt f with
  | .probe =>
    if fast && decide (3 ≤ y.fwd) then ok (s2.fanGo f .catch_)
    else if fast && decide (3 ≤ y.rev) then ok ((s2.fanGo f .brake).event 0x05 0x0106 (f + min rpm 65535 * 4))
    else ok s2
  | .ramp => if decide (6 ≤ y.valid) && decide (x.since + 10000 ≤ s.frame) then ok (s2.fanRun f) else ok s2
  | .locate => if decide (6 ≤ y.valid) then ok (s2.fanRun f) else ok s2
  | .catch_ => if decide (6 ≤ y.valid) then ok ((s2.fanRun f).event 0x05 0x0105 (f + min rpm 65535 * 4)) else ok s2
  | .coast =>
    if !fast then ok (s2.fanGo f .settle)
    else if decide (3 ≤ y.fwd) then ok (s2.fanGo f .catch_) else ok s2
  | _ => ok s2

/-- MISSED_CROSSING (R564, R567): the third consecutive miss takes Run and Catch to Coast. -/
def execMissedCrossing (fan : Fin 4) (s : State) : Host.Outcome State Fault Refusal :=
  let f := fan.val
  let x := s.fan f
  let s1 := s.setFan f { x with misses := x.misses + 1, valid := 0, fwd := 0, rev := 0 }
  match s.fanSt f with
  | .run =>
    if 3 ≤ x.misses + 1 then
      ok (((s1.fanGo f .coast).bump Reg.FAN_F.LOSSES 1 f).event 0x05 0x0100
        (f + s.rd Reg.FAN_F.RPM f * 4))
    else ok s1
  | .catch_ => if 3 ≤ x.misses + 1 then ok (s1.fanGo f .coast) else ok s1
  | _ => ok s1

/-- PROBE_WINDOW_END (R567): the 10 ms probe window ends without a catch and a start begins. -/
def execProbeWindowEnd (fan : Fin 4) (s : State) : Host.Outcome State Fault Refusal :=
  if s.fanSt fan = .probe ∧ (s.fan fan).since + 1000 ≤ s.frame then ok (s.fanStart fan) else ok s

/-- BRAKE_RELEASE_MEASURE (R567): slower than CATCH_RPM after a release, the start begins. -/
def execBrakeReleaseMeasure (fan : Fin 4) (rpm : Nat) (s : State) : Host.Outcome State Fault Refusal :=
  if s.fanSt fan = .brake then
    let s1 := s.wr Reg.FAN_F.RPM (min rpm 65535) fan
    if rpm < s.catchRpm fan then ok (s1.fanStart fan) else ok s1
  else ok s

/-- PEAK_LIMIT_TRIP (R562, R568): the present on-time ends; in Locate the vector held ends, and a shortest rise of the twelve too close
to its opposite's fails the attempt at once (DESIGN CHOICE: log entry 80). -/
def execPeakLimitTrip (fan : Fin 4) (close : Bool) (s : State) : Host.Outcome State Fault Refusal :=
  let x := s.fan fan
  let n := if s.fanSt fan = .locate then min 12 (x.pulse + 1) else x.pulse
  let s1 := s.setFan fan { x with cut := true, pulse := n }
  if s.fanSt fan = .locate ∧ x.pulse < 12 ∧ n = 12 ∧ close then ok (s1.fanFail fan) else ok s1

/-- RAMP_END (R567, R568): the 500 ms ramp ends without handover. -/
def execRampEnd (fan : Fin 4) (s : State) : Host.Outcome State Fault Refusal :=
  if s.fanSt fan = .ramp ∧ (s.fan fan).since + 50000 ≤ s.frame then ok (s.fanFail fan) else ok s

/-- LOCATE_TIMEOUT (R567, R568): a Locate start has no handover after 100 ms. -/
def execLocateTimeout (fan : Fin 4) (s : State) : Host.Outcome State Fault Refusal :=
  if s.fanSt fan = .locate ∧ (s.fan fan).since + 10000 ≤ s.frame then ok (s.fanFail fan) else ok s

/-- RUN_SECOND (R567): 1 s in Run resets A. -/
def execRunSecond (fan : Fin 4) (s : State) : Host.Outcome State Fault Refusal :=
  if s.fanSt fan = .run ∧ (s.fan fan).runFrom + 100000 ≤ s.frame then
    ok ((s.wr Reg.FAN_F.FAILS 0 fan).setFan fan { s.fan fan with runFrom := s.frame })
  else ok s

/-- COAST_TIMEOUT (R567): no crossing for 10 ms in Coast leads to Probe. -/
def execCoastTimeout (fan : Fin 4) (s : State) : Host.Outcome State Fault Refusal :=
  if s.fanSt fan = .coast ∧ (s.fan fan).lastAt + 1000 ≤ s.frame then ok (s.fanGo fan .probe) else ok s

/-- SETTLE_TIMEOUT (R567, R570): no crossing for 10 ms in Settle leads to Probe, or to Fault at A = 3. -/
def execSettleTimeout (fan : Fin 4) (s : State) : Host.Outcome State Fault Refusal :=
  if s.fanSt fan = .settle ∧ (s.fan fan).lastAt + 1000 ≤ s.frame then
    if s.rd Reg.FAN_F.FAILS fan < 3 then ok (s.fanGo fan .probe) else ok (s.fanFault fan false)
  else ok s

/-- SETTLE_BRAKE (R567): 1 s in Settle with crossings still seen: braked until no crossing is seen. -/
def execSettleBrake (fan : Fin 4) (s : State) : Host.Outcome State Fault Refusal :=
  let x := s.fan fan
  if s.fanSt fan = .settle ∧ x.since + 100000 ≤ s.frame ∧ s.frame < x.lastAt + 1000 then
    ok (s.setFan fan { x with braked := true })
  else ok s

/-- KE_MEASUREMENT (R571): the measured back-EMF constant is classed against KE_NOM and KE_TOL. The hourly measurement
releases the bridge and catches the fan; a caught fan's duty is the measured back-EMF over VIN (R569). -/
def execKeMeasurement (fan : Fin 4) (ke : Nat) (s : State) : Host.Outcome State Fault Refusal :=
  let f := fan.val
  if s.fanSt f = .run ∨ s.fanSt f = .catch_ then
    let nom := 100 * s.rd Reg.FAN_F.KE_NOM f
    let tol := s.rd Reg.FAN_F.KE_NOM f * s.rd Reg.FAN_F.KE_TOL f
    let k := 100 * ke
    let s1 := s.wr Reg.FAN_F.KE_MEAS (min ke 65535) f
    let s2 := s1.setFan f { s1.fan f with keAt := s.frame }
    let detail (w : Nat) := f + w * 4 + min ke 65535 * 8
    if k + 2 * tol < nom ∨ nom + tol < k then
      ok (((s2.wr Reg.FAN_F.KE_WRONG 1 f).event 0x05 0x0104 (detail 1)).fanFault f true)
    else
      let s3 := if k + tol < nom then (s2.wr Reg.FAN_F.KE_LOW 1 f).event 0x05 0x0104 (detail 0) else s2
      let s4 := s3.wr Reg.FAN_F.DUTY (s3.catchDuty f ke) f
      if s.fanSt f = .run then ok (s4.fanGo f .catch_) else ok s4
  else ok s

/-- FAN_RETRY (R567, R576): each fan named leaves Fault for Probe with A = 0, when it is enabled. -/
def execFanRetry (fn : Fn) (mask : BitVec 4) (s : State) : Host.Outcome State Fault Refusal :=
  if s.reachable fn then
    ok ([0, 1, 2, 3].foldl (fun s f =>
      if mask.toNat.testBit f && decide (s.fanSt f = .fault) && s.fanEnabled f then
        ((s.wr Reg.FAN_F.FAILS 0 f).fanGo f .probe) else s) s)
  else ok s

end Sys2Proof.Machine
end

