-- ==== Sys2Proof/Machine/Sensors.lean ====
section
/-! DEFINITION. Temperature sensors: what a sample does to its sensor, the excess and the throttle factor of a cutoff, and the orderly stop
(R553 to R558, R573 to R578). -/

set_option Elab.async false

namespace Sys2Proof.Machine

/-! ### Classes -/

/-- The number of a sensor: class 0 core, 1 board, 2 NAND, and its index. -/
def sensorKey (cls i : Nat) : Nat := cls * 4096 + i

/-- A sensor. -/
def State.sensor (s : State) (k : Nat) : Sensor := Tbl.get {} s.sensors k
/-- Changes a sensor. -/
def State.setSensor (s : State) (k : Nat) (x : Sensor) : State := { s with sensors := Tbl.set {} s.sensors k x }

/-- The set point of a class less FAN_DERATE for each fan in fault, in 0.1 °C (R556). -/
def State.effSet (s : State) (cls : Nat) : Int :=
  let sp := if cls = 0 then s.rd Reg.THM_CFG.SP else if cls = 1 then s.rd Reg.THM_CFG.EXT_SP else s.rd Reg.THM_CFG.NAND_SP
  ((10 * sp : Nat) : Int) - (10 * s.rd Reg.THM_CFG2.FAN_DERATE * s.fansFaulted : Nat)

/-- The stop threshold of a class in 0.1 °C. -/
def State.stopAt (s : State) (cls : Nat) : Int :=
  if cls = 0 then 1050 else if cls = 1 then (10 * s.rd Reg.THM_CFG2.EXT_STOP : Nat) else (10 * s.rd Reg.THM_CFG2.NAND_STOP : Nat)

/-- A reading less the effective set point, for a broken sensor BROKEN_E (R555, R556). -/
def State.excessOf (s : State) (k : Nat) (x : Sensor) : Int :=
  if x.broken then (5 * s.rd Reg.THM_CFG2.BROKEN_E : Nat) else x.temp - s.effSet (k / 4096)

/-- The sensors that have been read. -/
def State.sensorsSeen (s : State) : List (Nat × Sensor) := s.sensors.filter (fun e => e.2.seen)

/-- The sensor that sets E, with E (R556). -/
def State.hotSensor (s : State) : Option (Nat × Int) :=
  s.sensorsSeen.foldl (fun w e =>
    let x := s.excessOf e.1 e.2
    match w with
    | some (k, m) => if m < x then some (e.1, x) else some (k, m)
    | none => some (e.1, x)) none

/-- The DETAIL of a sensor's events. -/
def sensorDetail (k : Nat) : Nat := k / 4096 + k % 4096 * 4

/-! ### State and reports (R573, R578) -/

/-- THM_STATUS.STATE follows the stop and TF; STOPPED is kept while the stop lasts. -/
def State.thermalState (s : State) : State :=
  let st := s.rd Reg.THM_STATUS.STATE
  s.wr Reg.THM_STATUS.STATE (if s.stopping then (if st = 3 then 3 else 2) else if s.rd Reg.FRM_STATUS.TF < 256 then 1 else 0)

/-- Posts the THERMAL event: a sensor became broken, a sensor was restored (R578). -/
def State.postThermal (s : State) (broke restored : Bool) : State :=
  s.asyncAll 5 (s.rd Reg.THM_STATUS.STATE + 4 * bit broke + 8 * bit restored)

/-- The counts of broken sensors (R178, R573). -/
def State.countBroken (s : State) : State :=
  let n := min 255 (s.sensors.filter (fun e => e.2.broken)).length
  (s.setHealth 0x083 n).wr Reg.THM_STATUS.BROKEN n

/-! ### Samples (R554) -/

/-- The median of a list of temperatures: of an even count the mean of the two in the middle. -/
def medianOf (l : List Int) : Int :=
  let t := l.foldl (fun (a : List Int) x => a.filter (fun y => decide (y ≤ x)) ++ [x] ++ a.filter (fun y => decide (x < y))) []
  let n := t.length
  if n % 2 = 1 then t.getD (n / 2) 0 else (t.getD (n / 2 - 1) 0 + t.getD (n / 2) 0) / 2

/-- A sample of a sensor after its plausibility has been judged: `bad` breaks it at once, `odd` only denies plausibility; the sensor breaks, or is
restored after 1,000 plausible samples, and an unbroken reading at the stop threshold is counted. -/
def State.sampled (s : State) (k : Nat) (x : Sensor) (temp : Option Int) (bad odd : Bool) : State :=
  let cls := k / 4096
  let t := temp.getD x.temp
  let plaus := !bad && !odd && temp.isSome
  let run := if plaus then min 1000 (x.plausible + 1) else 0
  let broken := bad || (x.broken && decide (run < 1000))
  let hot := temp.isSome && !broken && decide (s.stopAt cls ≤ t)
  let x1 : Sensor := { x with seen := true, temp := t, broken := broken, plausible := run, atStop := if hot then min 2 (x.atStop + 1) else 0 }
  let s1 := s.setSensor k x1
  let s2 := if cls = 0 then (s1.wr Reg.THM_DIODE.TEMP (signedField 16 t) (k % 4096)).wr Reg.THM_DIODE.BROKEN (bit broken) (k % 4096)
    else if cls = 1 then (s1.wr Reg.THM_EXT.TEMP (signedField 16 t) (k % 4096)).wr Reg.THM_EXT.BROKEN (bit broken) (k % 4096)
    else s1
  if broken && !x.broken then ((s2.countBroken).event 0x04 0x0101 (sensorDetail k)).postThermal true false
  else if !broken && x.broken then ((s2.countBroken).event 0x04 0x0102 (sensorDetail k)).postThermal false true
  else s2

/-- The orderly stop begins for a sensor (R557): fetching of I/O rings stops and the ceiling is zero. -/
def State.beginStop (s : State) (k : Nat) : State :=
  let s1 := ((s.wr Reg.FRM_STATUS.MODE 2).wr Reg.THM_STATUS.STATE 2).bump Reg.THM_CNT.STOPS
  let s2 : State := { s1 with thermal := { s1.thermal with stopAt := s.frame, coolFrom := none } }
  ((s2.event 0x04 0x0103 (sensorDetail k)).refreshCeiling).postThermal false false

/-- Two consecutive samples of an unbroken sensor at its stop threshold begin the orderly stop (R557). -/
def State.stopCheck (s : State) (k : Nat) : State :=
  if s.serving && !s.stopping && decide (2 ≤ (s.sensor k).atStop) then s.beginStop k else s

/-! ### The cutoff (R556, R558) -/

/-- TF_new of an excess in 0.1 °C. -/
def State.throttleOf (s : State) (e : Int) : Nat :=
  if e ≤ 0 then 256 else 256 - (s.rd Reg.THM_CFG.SLOPE * e.toNat + 5) / 10

/-- Every unbroken sensor reads below its class's effective set point. -/
def State.allCool (s : State) : Bool :=
  s.sensorsSeen.all (fun e => e.2.broken || decide (e.2.temp < s.effSet (e.1 / 4096)))

/-- The excess, the composite temperature and TF of a cutoff: TF falls at once and recovers by 1; a stop notes since when every sensor has been
cool. -/
def State.thermalCutoff (s : State) : State :=
  match s.hotSensor with
  | none => s
  | some (k, e) =>
    let hottest := (s.sensorsSeen.filter (fun x => !x.2.broken)).foldl (fun (w : Option Int) x => match w with
      | some m => some (max m x.2.temp)
      | none => some x.2.temp) none
    let comp := (10 * s.rd Reg.THM_CFG.SP : Nat) + e
    let old := s.rd Reg.FRM_STATUS.TF
    let new := s.throttleOf e
    let tf := if new ≤ old then new else min new (old + 1)
    let s1 := ((s.wr Reg.THM_STATUS.HOT_CLASS (k / 4096)).wr Reg.THM_STATUS.HOT_INDEX (k % 4096)).wr Reg.THM_TEMP.COMPOSITE (signedField 16 comp)
    let s2 := match hottest with
      | some h => s1.wr Reg.THM_TEMP.HOTTEST (signedField 16 h)
      | none => s1
    let s3 := (s2.wr Reg.FRM_STATUS.TF tf).wr Reg.FRM_STATUS.THROTTLED (bit (decide (tf < 256)))
    let cool := if s.stopping && s.allCool then (match s.thermal.coolFrom with
      | some t => some t
      | none => some s.frame) else none
    let s4 : State := { s3 with thermal := { s3.thermal with coolFrom := cool } }
    let s5 := s4.thermalState
    if old = 256 ∧ tf < 256 then
      (((s5.bump Reg.THM_CNT.THROTTLE).count 0x014 4).event 0x04 0x0100 (tf + 512)).postThermal false false
    else if old < 256 ∧ tf = 256 then s5.event 0x04 0x0100 256
    else s5

end Sys2Proof.Machine
end

