-- ==== Sys2Proof/Machine/Scheduler.lean ====
section
/-! DEFINITION. The frame scheduler: the budget, the costs, admission, the plan cutoff, patrol tokens and the write-back it starts
(R220 to R239, R327, R328, R331, R504). -/

set_option Elab.async false

namespace Sys2Proof.Machine

/-! ### The budget (R223 to R226) -/

/-- The charger brings VBANK up, recharge of a measurement included (R225). -/
def State.charging (s : State) : Bool := s.on Reg.HUP_STATUS.CHARGING && decide (s.sup.drain = .none)

/-- A capacitance measurement runs. -/
def State.measuring (s : State) : Bool := match s.sup.meas with
  | .idle => false
  | _ => true

/-- P_hold in mW at a charge current in 0.1 A (R225). -/
def State.pHold (s : State) (i : Nat) : Nat :=
  if s.sup.drain ≠ .none then 0
  else if s.charging then s.sup.vbank * i * 2 / 17
  else if s.on Reg.HUP_CHG_CFG.CHG_EN && !s.sup.ovBleed && s.sup.operating then 500
  else 0

/-- P_limit in mW: the cap the host set, the rated power and the power state's limit (R223). -/
def State.pLimit (s : State) : Nat :=
  let rated := 1000 * s.rd Reg.FRM_BUDGET.RATED
  let cap := s.rd Reg.FRM_BUDGET.CAP
  let a := if cap = 0 then rated else min rated (1000 * cap)
  if s.pstate = 1 then min a (1000 * s.rd Reg.PWR_P1_CFG.CAP) else a

/-- P_work in mW at a charge current (R223). -/
def State.pWork (s : State) (i : Nat) : Int :=
  (s.pLimit * s.rd Reg.FRM_STATUS.TF / 256 : Nat) - (s.pHold i : Int) - (100 * s.rd Reg.FRM_BASE.BASE : Nat)
    - (100 * s.rd Reg.FAN_STATUS.P_FAN : Nat)

/-- The charge current of a cutoff in 0.1 A (R69, R226). -/
def State.chooseCurrent (s : State) : Nat :=
  let full := s.rd Reg.HUP_CHG_CFG.ICHG
  if s.measuring then 5
  else if s.on Reg.HUP_STATUS.WRITE_THR then
    ((List.range (full + 1)).filter (fun i => decide (10000 ≤ s.pWork i))).foldl max 0
  else full

/-- E_frame in nJ (R223, R239). -/
def State.frameEnergy (s : State) (i : Nat) : Nat :=
  if s.sup.drain ≠ .none then 10000 * s.rd Reg.FRM_HOLDUP.DRAIN_W else 10 * (s.pWork i).toNat

/-! ### Units (R222, R227, R232) -/

/-- The cost of an FRM_COST index in nJ. -/
def State.cost (s : State) (k : Nat) : Nat := if k % 2 = 0 then s.rd Reg.FRM_COST.LO (k / 2) else s.rd Reg.FRM_COST.HI (k / 2)

/-- The most units of a kind in one frame: in total, and on one place (R222). -/
def unitCap (k : Nat) : Nat × Nat :=
  if k = 0 then (290, 290) else if k = 1 then (288, 72) else if k = 2 then (500, 62) else if k = 3 then (288, 9)
  else if k = 4 then (8, 1) else if k = 5 then (512, 8) else if k = 6 then (512, 8) else if k = 7 then (128, 128)
  else if k = 8 then (1, 1) else if k = 9 then (8, 1) else (1600, 1600)

/-- The power domain of the engine that a unit of an FRM_COST index needs at a place (R222, R542): the PCIe controllers, the cipher engines, the
DRAM sub-channels, the hard and soft slices, the channels, the parity accumulate engine and the Thitralen banks
(DESIGN CHOICE: log entry 55). -/
def unitDomain (k place : Nat) : Option Nat :=
  let among (first n : Nat) : Option Nat := if place < n then some (first + place) else none
  if k = 0 then among 0 2 else if k = 1 then among 113 4 else if k = 2 ∨ k = 9 then among 117 8 else if k = 3 then among 73 32
  else if k = 4 then among 105 8 else if k = 5 ∨ k = 6 then among 9 64 else if k = 7 then some 157 else if k = 10 then among 133 16 else none

/-- A unit that waits for admission: its class, whether it continues, its cost in the first frame, what it takes of the engines, and for a
NAND phase its LUN, bus time in ns, the codewords admitted with it, and its draw if it spans frames. -/
structure Cand where
  cls : Nat
  cont : Bool
  cost : Nat
  takes : List (Nat × Nat × Nat) := []
  lun : Option Nat := none
  bus : Nat := 0
  adm : Nat := 0
  mw : Nat := 0
  deriving DecidableEq, Repr

/-- A plan as it is built: units taken by kind and place and in total, bus time by channel, admitted LUNs, and the draw booked beyond the
frame. -/
structure PlanSt where
  used : Tbl Nat := []
  bus : Tbl Nat := []
  luns : List (Nat × Nat × Nat) := []
  booked : Nat := 0
  deriving DecidableEq, Repr

/-- The number of a class: 0 mandatory, 1 RD, 2 WR, 3 GC, 4 RB, 5 PT. -/
def Cls.code : Cls → Nat
  | .mandatory => 0 | .rd => 1 | .wr => 2 | .gc => 3 | .rb => 4 | .pt => 5

/-- A unit's engines have room (R222, R250, R294). -/
def PlanSt.room (p : PlanSt) (u : Cand) : Bool :=
  u.takes.all (fun t =>
    decide (Tbl.get 0 p.used (t.1 * 1024 + t.2.1) + t.2.2 ≤ (unitCap t.1).2) && decide (Tbl.get 0 p.used (t.1 * 1024 + 1023) + t.2.2 ≤ (unitCap t.1).1))
  && (match u.lun with
    | some k => p.luns.all (fun e => e.1 != k) && decide (Tbl.get 0 p.bus (k / 32) + u.bus ≤ 9900)
    | none => true)

/-- Admits a unit. -/
def PlanSt.accept (p : PlanSt) (u : Cand) : PlanSt :=
  { used := u.takes.foldl (fun t e =>
      Tbl.set 0 (Tbl.set 0 t (e.1 * 1024 + e.2.1) (Tbl.get 0 t (e.1 * 1024 + e.2.1) + e.2.2)) (e.1 * 1024 + 1023) (Tbl.get 0 t (e.1 * 1024 + 1023) + e.2.2)) p.used
    bus := match u.lun with
      | some k => Tbl.set 0 p.bus (k / 32) (Tbl.get 0 p.bus (k / 32) + u.bus)
      | none => p.bus
    luns := match u.lun with
      | some k => p.luns ++ [(k, u.cls, u.adm)]
      | none => p.luns
    booked := p.booked + 10 * u.mw }

/-- A unit is admissible: its engines have room, and a phase that spans frames fits under the carry limit (R231, R233). -/
def State.admissible (s : State) (energy carried : Nat) (p : PlanSt) (u : Cand) : Bool :=
  p.room u && (u.mw == 0 || decide ((carried + p.booked + 10 * u.mw) * 100 ≤ s.rd Reg.FRM_CFG.CARRY_PCT * energy))

/-- The NAND phase a LUN offers: its continuation, or an operation's first phase. -/
def State.phaseCand (s : State) (c l : Nat) (o : Op) (entry : Nat) (cont : Bool) (q : Seq) : Option Cand :=
  let g := s.ucode.active
  let die := (s.lun c l).die
  match entryAt g die entry with
  | none => some { cls := o.cls.code, cont := cont, cost := 0, lun := some (lunKey c l) }
  | some a =>
    let table := imgTable g c
    let e := s.phaseEnv c l o
    match findPhase e (imgMicros g + 1) a { seq := q, caps := [], adm := 0 } with
    | none => some { cls := o.cls.code, cont := cont, cost := 0, lun := some (lunKey c l) }
    | some ph =>
      let sm := phaseSummary g table ph
      let data := (o.kind = .read ∧ cont = true) ∨ o.kind = .program
      let adm := if data then min (o.cws - q.cwp) (s.transfers c die) else 0
      let mw := max (imgDraw g table sm.2.1) sm.2.2.2
      let per := s.cost 6 + (if o.kind = .read then s.cost 3 else s.cost 2 + s.cost 5)
      let takes := if adm = 0 then [] else [(6, c, adm)] ++ (if o.kind = .read then [(3, 0, 0)] else [(5, c, adm)])
      some { cls := o.cls.code, cont := cont, cost := 10 * mw + adm * per, takes := takes, lun := some (lunKey c l),
             bus := 10 * sm.1 + adm * s.cwBytes die * 1000 / max 1 e.rate, adm := adm, mw := if 1 < sm.2.2.1 then sm.2.2.2 else 0 }

/-- What a LUN offers at a cutoff: its continuation when one is offered, else, when it is free, the head of each class queue; a suspended LUN
offers only reads of the mandatory and RD classes (R255, R265, R285). -/
def State.lunCands (s : State) (c l : Nat) : List Cand :=
  let u := s.lun c l
  match u.op with
  | some o => if u.offered then (s.phaseCand c l o u.cont true u.seq).toList else []
  | none =>
    match u.st with
    | .idle => u.heads.filterMap (fun o => s.phaseCand c l o o.entry false (freshSeq o))
    | .suspended => (u.heads.filter (fun o => decide (o.kind = .read) && decide (o.cls = .mandatory ∨ o.cls = .rd))).filterMap
        (fun o => s.phaseCand c l o o.entry false (freshSeq o))
    | _ => []

/-- No engine that the unit needs has its domain held off (R240, R543) (DEDUCED: log entry 56). -/
def State.enginesOn (s : State) (u : Cand) : Bool :=
  u.takes.all (fun t => (unitDomain t.1 t.2.1).all (fun d => s.domState d != 3)) && u.lun.all (fun k => s.domState (9 + k / 32) != 3)

/-- Every unit ready at a cutoff, by class, those that continue first (R232). No bus phase is admitted for a swap frame (R305), no unit for an
engine whose domain is held off (R240); in a drain only drain work is (R239). -/
def State.cands (s : State) (units : List PlanUnit) (cls : Nat) : List Cand :=
  let nand := if s.swapFrame (s.frame + 1) then [] else s.luns.flatMap (fun e => s.lunCands (e.1 / 32) (e.1 % 32))
  let other := units.map (fun u => ({ cls := u.cls.val, cont := u.cont, cost := s.cost u.kind.val, takes := [(u.kind.val, u.place % 1023, 1)] } : Cand))
  let l := (nand ++ other).filter (fun u => u.cls == cls && s.enginesOn u)
  l.filter (fun u => u.cont) ++ l.filter (fun u => !u.cont)

/-- Serves one class: its head is admitted while it is admissible and its cost is covered; what is left of the class, its credit, the plan. -/
def State.serveClass (s : State) (energy carried : Nat) : List Cand → Nat → PlanSt → List Cand × Nat × PlanSt
  | [], cr, p => ([], cr, p)
  | u :: t, cr, p =>
    if s.admissible energy carried p u && decide (u.cost ≤ cr) then s.serveClass energy carried t (cr - u.cost) (p.accept u) else (u :: t, cr, p)

/-- The weight of a class (R233). -/
def State.weight (s : State) (c : Nat) : Nat :=
  if c = 1 then s.rd Reg.FRM_WEIGHT.RD else if c = 2 then s.rd Reg.FRM_WEIGHT.WR
  else if c = 3 then (if 2 ≤ s.rd Reg.FTL_FREE.STATE then s.rd Reg.FRM_WEIGHT.GC_URGENT else s.rd Reg.FRM_WEIGHT.GC)
  else if c = 4 then s.rd Reg.FRM_WEIGHT.RB else s.rd Reg.FRM_WEIGHT.PT

/-- A class while a plan is built: its number, its waiting units, its credit, and the credit given to it in this plan. -/
abbrev ClassSt := Nat × List Cand × Nat × Nat

/-- The passes of R233, at most `n`. -/
def State.passes (s : State) (energy carried : Nat) : Nat → Nat → List ClassSt → PlanSt → List ClassSt × PlanSt
  | 0, _, l, p => (l, p)
  | n + 1, pool, l, p =>
    let live (x : ClassSt) : Bool := match x.2.1 with
      | u :: _ => s.admissible energy carried p u
      | [] => false
    let a := l.filter live
    if a.isEmpty ∨ pool = 0 then (l, p)
    else
      let w := (a.map (fun x => s.weight x.1)).foldl (· + ·) 0
      let given := l.map (fun (x : ClassSt) =>
        if live x then
          let g := if w = 0 then pool / a.length else pool * s.weight x.1 / w
          (x.1, x.2.1, x.2.2.1 + g, x.2.2.2 + g)
        else x)
      let r := given.foldl (fun (acc : List ClassSt × PlanSt × Nat) (x : ClassSt) =>
        let y := s.serveClass energy carried x.2.1 x.2.2.1 acc.2.1
        let left := match y.1 with
          | u :: _ => s.admissible energy carried y.2.2 u
          | [] => false
        if left then (acc.1 ++ [(x.1, y.1, y.2.1, x.2.2.2)], y.2.2, acc.2.2)
        else (acc.1 ++ [(x.1, y.1, 0, x.2.2.2)], y.2.2, acc.2.2 + y.2.1)) ([], p, 0)
      s.passes energy carried n r.2.2 r.1 r.2.1

/-- The admission of every mandatory unit that its engines take, with the cost (R233, R235). -/
def mandatoryPlan (l : List Cand) (p : PlanSt) : PlanSt × Nat :=
  l.foldl (fun a u => if a.1.room u then (a.1.accept u, a.2 + u.cost) else a) (p, 0)

/-- The plan of the next frame (R233 to R235); in a drain, in P2 and in P3 only mandatory units run (R239, R527), and in an orderly stop no
unit of GC, RB or PT (R557). -/
def State.makePlan (s : State) (units : List PlanUnit) : State :=
  let i := s.chooseCurrent
  let energy := s.frameEnergy i
  let carried := s.carriedLoad
  let m := mandatoryPlan (s.cands units 0) {}
  let mcost := m.2 + s.cost 8
  let b := energy - carried
  let pool := b - mcost
  let lists : List ClassSt := [1, 2, 3, 4, 5].map (fun c => (c, s.cands units c, Tbl.get 0 s.sched.credit c, 0))
  let barred (c : Nat) : Bool := decide (s.sup.drain ≠ .none ∨ energy < carried ∨ 2 ≤ s.pstate) || (s.stopping && decide (3 ≤ c))
  let lists1 := lists.map (fun (x : ClassSt) => if barred x.1 then (x.1, ([] : List Cand), x.2.2.1, x.2.2.2) else x)
  let r := s.passes energy carried ((lists1.map (fun x => x.2.1.length)).foldl (· + ·) 8) pool lists1 m.1
  let keep := r.1.foldl (fun (t : Tbl Nat) (x : ClassSt) => match x.2.1 with
    | u :: _ => Tbl.set 0 t x.1 (min x.2.2.1 (max (s.rd Reg.FRM_CFG.CREDIT_FRAMES * x.2.2.2) u.cost))
    | [] => t) []
  let overs := decide (energy < carried)
  let s1 : State := { s with sched := { s.sched with credit := keep, energy := energy, plan := r.2.luns, made := true, ichg := i, units := r.2.used,
                                                     overs := if overs then s.sched.overs + 1 else 0, suspending := s.sched.suspending && overs } }
  let pw := s.pWork i
  let s2 := (((s1.wr Reg.FRM_POWER.WORK (min 0xFFFF (pw.toNat / 100))).wr Reg.FRM_POWER.HOLD (min 0xFFFF (s.pHold i / 100))).wr
    Reg.FRM_POWER2.FAN (s.rd Reg.FAN_STATUS.P_FAN)).wr Reg.FRM_POWER2.CARRIED (min 0xFFFF (carried / 1000))
  let s3 := s2.wr Reg.FRM_STATUS.OVER_CARRY (bit overs)
  if b < mcost then ((s3.wr Reg.FRM_STATUS.OVERDRAW 1).bump Reg.FRM_OVER.OVERDRAW).event 0x03 0x0100 ((mcost - b) % 2 ^ 32) else s3

/-! ### Write-back and copies started at a cutoff (R200, R354, R358, R361) -/

/-- New bands where the rules ask for them: host bands up to 8 above Reserve, a GC band while copies wait. -/
def State.formBands (s : State) : State :=
  let above := decide (s.rd Reg.FTL_GC_CFG.RESERVE_MIN < s.freeBands)
  let s1 := if above && decide ((s.openBands .host).length < 8) then s.form .host else s
  if !s1.copyList.1.isEmpty && (s1.openBands .gc).isEmpty then s1.form .gc else s1

/-- The fold of a cutoff: a full word line of the least busy host band, or a short one when it is to be filled up; SLC and class J under a
ceiling of zero (R37, R354). In Reserve folds wait (R361). -/
def State.foldStep (s : State) (pad : Bool) (lost : List Nat) : State :=
  let zero := decide (s.writeMode = .zeroCeiling)
  let kind : BandKind := if zero then .drainFold else .host
  let cls : Cls := if s.ftl.excess || zero then .mandatory else .wr
  let s1 := if zero && (s.openBands .drainFold).isEmpty && !s.foldList.isEmpty then s.form .drainFold else s
  if s1.rd Reg.FTL_FREE.STATE = 3 ∧ zero = false then s1
  else match s1.pickBand kind cls with
    | none => s1
    | some b =>
      let n := (s1.stripeSlots b).length
      let l := s1.foldList.take n
      if l.isEmpty ∨ (l.length < n ∧ pad = false) then s1 else s1.startFold b cls l lost

/-- The copies of a cutoff: a word line of the open GC band. Non-critical garbage collection waits while the target is P2 or P3 (R530). -/
def State.copyStep (s : State) (pad : Bool) (lost : List Nat) : State :=
  let c := s.copyList
  match s.pickBand .gc (if c.2 = 2 then .rb else .gc) with
  | none => s
  | some b =>
    let n := (s.stripeSlots b).length
    let l := c.1.take n
    let waits := decide (2 ≤ s.ptarget ∧ c.2 ≠ 2 ∧ s.rd Reg.FTL_FREE.STATE < 2)
    if l.isEmpty ∨ (l.length < n ∧ pad = false) ∨ waits = true then s else s.startCopies b l c.2 lost

/-! ### The realm sweep (R504) -/

/-- A stored block is sealed under an epoch of its slot below a target. -/
def State.staleBlock (s : State) (lba target : Nat) : Stored → Bool
  | .block b => match (s.keySlot (s.slotOf lba)).epochOf b.ivw with
    | some e => decide (e < target)
    | none => false
  | _ => false

/-- The IUs on flash with a block of slot `k` sealed below the sweep's target and no version in the buffer. -/
def State.staleIus (s : State) (k target : Nat) : List Nat :=
  (s.ftl.map.filter (fun e => match e.2 with
    | .media a => (s.stack e.1).isEmpty && (List.range 4).any (fun b => s.slotOf (4 * e.1 + b) == k && s.staleBlock (4 * e.1 + b) target (s.codewordOf a b))
    | _ => false)).map (·.1)

/-- Re-encrypts one IU of a sweeping realm: its blocks are opened and sealed under the current epoch as an adopted version (R504). -/
def State.resealIu (s : State) (iu : Nat) : State :=
  match s.entry iu with
  | .media a =>
    let r := s.assignOsn
    let d := (List.range 4).foldl (fun (acc : List (Nat × Stored) × State) b =>
      let lba := 4 * iu + b
      match acc.2.codewordOf a b with
      | .block x =>
        match acc.2.unseal lba x with
        | some pt =>
          let iv := acc.2.reserve1 lba
          (acc.1 ++ [(b, .block (iv.2.seal lba iv.1 pt))], iv.2)
        | none => (acc.1 ++ [(b, .block x)], acc.2)
      | y => (acc.1 ++ [(b, y)], acc.2)) ([], r.2)
    let s1 := d.2.allocate r.1 [(iu, 15, d.1)]
    let s2 := s1.mapVersions (fun v => if v.osn = r.1 then { v with st := .adopted, mirrored := v.mask } else v)
    s2.record (.version iu 15 r.1)
  | _ => s

/-- One step of the oldest sweep. -/
def State.sweepStep (s : State) : State :=
  match s.sec.slots.find? (fun e => e.2.sweep != 0) with
  | some (k, x) =>
    match s.staleIus k (x.sweep - 1) with
    | iu :: _ => s.resealIu iu
    | [] => s
  | none => s

/-! ### Patrol (R327, R328, R331, R332) -/

/-- The physical page size of the reference die in bytes: its codewords. -/
def State.physPage (s : State) : Nat := dieCws s.ucode.active s.refDie * s.cwBytes s.refDie

/-- The bands that inner patrol walks: those with closed rows, in order of number. -/
def State.patrolBands (s : State) : List Band := s.bands.filter (fun b => decide (0 < b.next))

/-- The band under the walk, or the next one after it (DESIGN CHOICE: log entry 64). -/
def State.patrolBand (s : State) : Option Band :=
  match s.patrolBands.find? (fun b => decide (s.patrol.band ≤ b.number + 1)) with
  | some b => some b
  | none => s.patrolBands.head?

/-- Rows of a band issued so far. -/
def State.rowsOf (s : State) (b : Band) : Nat :=
  let die := (s.lun (b.chans.headD 0) b.dieSet).die
  b.next * dieGroup s.ucode.active die b.slc * max 1 (diePlanes s.ucode.active die)

/-- The inner walk reads one page: its codewords are read as patrol (R328). The walk position is saved every 4,096 rows. -/
def State.patrolRead (s : State) : State :=
  match s.patrolBand with
  | none => s
  | some b =>
    let here := if s.patrol.band = b.number + 1 then (s.patrol.row, s.patrol.pos) else (0, 0)
    let planes := max 1 (diePlanes s.ucode.active (s.lun (b.chans.headD 0) b.dieSet).die)
    let c := b.chans.getD here.2 0
    let a := mkAddr c b.dieSet (here.1 % planes) (b.block c) (here.1 / planes) 0
    let n := dieCws s.ucode.active (s.lun c b.dieSet).die
    let s1 := if s.rowClosed a && !b.empty.testBit c then (List.range n).foldl (fun s i => s.startDec (a + i / 4) i 0 0 .pt) s else s
    let rowEnd := decide (b.chans.length ≤ here.2 + 1)
    let row := if rowEnd then here.1 + 1 else here.1
    let bandEnd := decide (s.rowsOf b ≤ row)
    let next := (s.patrolBands.find? (fun x => decide (b.number < x.number)))
    let pass := bandEnd && next.isNone
    let p := s1.patrol
    let since := if rowEnd then p.since + 1 else p.since
    let p1 : Patrol := { p with
      band := if bandEnd then (match next with
        | some x => x.number + 1
        | none => 0) else b.number + 1
      row := if bandEnd then 0 else row
      pos := if rowEnd then 0 else here.2 + 1
      since := if 4096 ≤ since then 0 else since
      saved := if 4096 ≤ since then (b.number + 1, row) else p.saved }
    let s2 : State := { s1 with patrol := p1 }
    let done := (s.patrolBands.filter (fun x => decide (x.number ≤ b.number))).length * 100 / max 1 s.patrolBands.length
    let s3 := s2.wr Reg.MIN_PATROL_PROG.INNER_DONE (if pass then 0 else min 100 done)
    if pass then
      let s4 := s3.bump Reg.MIN_PATROL_PROG.INNER_PASSES
      s4.event 0x26 0x0105 (s4.rd Reg.MIN_PATROL_PROG.INNER_PASSES)
    else s3

/-- The stripes that this device patrols as their P member, in order of number (R331). -/
def State.outerStripes (s : State) : List PStripe :=
  s.group.stripes.filter (fun p => p.p == s.own && decide (p.st = .sealed ∨ p.st = .thinning))

/-- Outer patrol asks for the digests of the next 16 chunks (R332). -/
def State.patrolAsk (s : State) : State :=
  match (match s.outerStripes.find? (fun p => decide (s.patrol.outerAt.1 ≤ p.num)) with
    | some p => some p
    | none => s.outerStripes.head?) with
  | none => s
  | some p =>
    let chunk := if s.patrol.outerAt.1 = p.num then s.patrol.outerAt.2 else 0
    let last := decide (1024 ≤ chunk + 16)
    let w : PatrolWait := { stripe := p.num, chunk := chunk, count := 16, deadline := s.frame + 1000, replies := [] }
    let pass := last && (s.outerStripes.filter (fun x => decide (p.num < x.num))).isEmpty
    let s1 : State := { s with patrol := { s.patrol with waits := s.patrol.waits ++ [w], outerAt := if last then (p.num + 1, 0) else (p.num, chunk + 16) } }
    let s2 := ((s.survivors p).filter (fun r => r.2 != s.own)).foldl (fun s r => s.sendMsg r.2 0x30 [p.num, chunk, 16]) s1
    if pass then
      let s3 := (s2.bump Reg.MIN_PATROL_PROG2.OUTER_PASSES).wr Reg.MIN_PATROL_PROG2.OUTER_DONE 0
      s3.event 0x26 0x0105 (s3.rd Reg.MIN_PATROL_PROG2.OUTER_PASSES + 2 ^ 16)
    else s2.wr Reg.MIN_PATROL_PROG2.OUTER_DONE
      (min 100 ((s.outerStripes.filter (fun x => decide (x.num < p.num))).length * 100 / max 1 s.outerStripes.length))

/-- The token rule of a cutoff, and the patrol it admits (R327). Patrol runs in Pour, while the patrol engine is not held off (R543)
(DEDUCED: log entry 56). -/
def State.patrolStep (s : State) : State :=
  let rate := s.rd Reg.MIN_PATROL_CFG.RATE
  let run := decide (s.boot.stage = .pour) && rate != 0 && s.serving && decide (s.ptarget < 2) && s.domState 158 != 3
  let s0 := ((s.wr Reg.MIN_STATUS.PATROL_RUN (bit run)).wr Reg.MIN_STATUS.PAUSED (bit (rate == 0))).wr Reg.MIN_STATUS.OUTER_RUN
    (bit (run && s.inView && !s.outerStripes.isEmpty))
  if !run then s0
  else
    let page := s.physPage
    let pct := min 100 (s.rd Reg.MIN_PATROL_CFG.OUTER_PCT)
    let inner := min (s.patrol.inner + rate * 10 * (100 - pct) / 100) (64 * page)
    let outer := min (s.patrol.outer + rate * 10 * pct / 100) (64 * page)
    let goIn := decide (0 < page ∧ page ≤ inner) && s.patrolBand.isSome
    let goOut := s.inView && decide (2 ^ 20 ≤ outer) && !s.outerStripes.isEmpty
    let s1 : State := { s0 with patrol := { s0.patrol with inner := if goIn then inner - page else inner, outer := if goOut then outer - 2 ^ 20 else outer } }
    let s2 := if goIn then s1.patrolRead else s1
    if goOut then s2.patrolAsk else s2

/-! ### Rows -/

/-- PLAN_CUTOFF (R200, R220 to R235, R327, R348, R556): the excess and TF are computed, the work of this cutoff is posted and the plan of the
next frame is built. In a drain nothing but the budget of R239 is planned. -/
def execPlanCutoff (inp : PlanIn) (s : State) : Host.Outcome State Fault Refusal :=
  if s.sup.coreUp && !s.sched.made then
    let s0 := s.thermalCutoff
    if s.serving && decide (s.boot.stage ≠ .grind) then
      let s1 := s0.formBands
      let s2 := if inp.fold || s1.ftl.excess then s1.foldStep inp.pad inp.lost else s1
      let s3 := if inp.copy then s2.copyStep inp.pad inp.lost else s2
      let s4 := if inp.mapOut || s3.ftl.journal.urgent then s3.writeOut else s3
      ok (((s4.sweepStep.patrolStep.feedErases).feedReads).makePlan inp.units)
    else ok (s0.makePlan inp.units)
  else ok s

/-- The longest remaining time first, erases before programs (R247's rule of the carried load). -/
def insertRun (e : Nat × Nat) : List (Nat × Nat) → List (Nat × Nat)
  | [] => [e]
  | f :: t => if f.2 < e.2 then e :: f :: t else f :: insertRun e t

/-- CARRIED_LOAD_SUSPEND: the carried load has exceeded E_frame for OVER_LIMIT frames; the engines are asked to suspend, erases first, then
programs, each by longest remaining time, until the load fits. -/
def execCarriedLoadSuspend (s : State) : Host.Outcome State Fault Refusal :=
  if s.serving && decide (s.rd Reg.FRM_CFG.OVER_LIMIT ≤ s.sched.overs) && decide (s.sched.energy < s.carriedLoad) then
    let runs (k : OpKind) : List (Nat × Nat) := (s.luns.filter (fun e => decide (e.2.st = .busy) && e.2.wait == 1 && (match e.2.op with
      | some o => decide (o.kind = k)
      | none => false))).foldl (fun l e => insertRun (e.1, s.remaining e.2) l) []
    let order := runs .erase ++ runs .program
    let r := order.foldl (fun (a : State × Nat) e =>
      if a.2 ≤ s.sched.energy then a
      else
        let c := e.1 / 32
        let l := e.1 % 32
        (a.1.setLun c l { a.1.lun c l with carried := true }, a.2 - 10 * s.lunDraw c l)) (s, s.carriedLoad)
    let s1 : State := { r.1 with sched := { r.1.sched with suspending := true } }
    ok (s1.event 0x03 0x0101 (min 0xFFFF (s.carriedLoad / 1000)))
  else ok s

end Sys2Proof.Machine
end

