-- ==== Sys2Proof/Machine/Pointers.lean ====
section
/-! DEFINITION. Tags and timeouts of outbound reads (R113, R133 to R136) and the walk of a command's data pointers
(R162, R163, R593). -/

set_option Elab.async false

namespace Sys2Proof.Machine

/-! ### Tags (R113, R133, R135) -/

/-- A tag is idle. -/
def TagUse.isIdle : TagUse → Bool
  | .idle => true
  | _ => false

/-- A tag has a request outstanding. -/
def TagUse.outstanding : TagUse → Bool
  | .idle | .quarantined _ => false
  | _ => true

/-- Requests outstanding on a port. -/
def State.outstanding (s : State) (f : Nat) : Nat :=
  (s.tags.filter (fun e => decide (e.1 / 16384 = f) && e.2.outstanding)).length

/-- The number of tags of a port: 14 bits in Flit mode, else 10 (R113). -/
def State.tagSpace (s : State) (f : Nat) : Nat := if s.on Reg.HIF_EP_LINK.FLIT 0 f then 16384 else 1024

/-- A tag may be given to a new request: idle, within the tag width, and fewer than 1,024 requests outstanding (R113, R135). -/
def State.tagFree (s : State) (f t : Nat) : Bool :=
  (s.tag f t).isIdle && decide (t < s.tagSpace f) && decide (s.outstanding f < 1024)

/-- The lowest tag from `t` up that a table in rising order does not list for the port. -/
def freeTagFrom (f : Nat) : Tbl TagUse → Nat → Nat
  | [], t => t
  | (k, _) :: l, t => if k = tagKey f t then freeTagFrom f l (t + 1) else freeTagFrom f l t

/-- The lowest idle tag of a port. -/
def State.lowTag (s : State) (f : Nat) : Nat := freeTagFrom f s.tags 0

/-- The completion timeout of a function in frames (R133). -/
def State.timeoutFrames (s : State) (f : Nat) : Nat :=
  let n := s.rd Reg.HIF_EP_CTO.FRAMES 0 f
  if n ≠ 0 then n
  else match s.cfgRaw f 0x78 % 16 with
    | 1 => 6
    | 2 => 800
    | _ => 5000

/-- Logs an uncorrectable error under AER: a bit of the Uncorrectable Error Status register (PRESUMED: log entry 30). -/
def State.aer (s : State) (f b : Nat) : State :=
  s.setEp f { s.ep f with cfg := Tbl.set 0 (s.ep f).cfg 0x104 (setBit (s.cfgRaw f 0x104) b) }

/-! ### The walk of the data pointers (R162, R163, R593) -/

/-- Bytes of host memory the walk has found. -/
def Walk.bytes (w : Walk) : Nat := (w.segs.map (·.2)).foldl (· + ·) 0

/-- A packet's own data-pointer fields obey R162 and R163 for a transfer of `len` bytes, and DPTR1 is not zero (R168). -/
def walkOk (p : Packet) (len : Nat) : Bool :=
  let a := pkDptr1 p
  let b := pkDptr2 p
  if pkPtype p = 0 then
    let room := 4096 - a % 4096
    a != 0 && a % 4 == 0
      && (if len ≤ room then b == 0 else if len ≤ room + 4096 then b % 4096 == 0 else b % 8 == 0)
  else a != 0 && a % 16 == 0 && decide (1 ≤ b ∧ b ≤ 256)

/-- Entries of a page list that starts at an address, for `n` pages still to come (R162). -/
def prpCount (addr n : Nat) : Nat := min n ((4096 - addr % 4096) / 8)

/-- The walk as the packet alone gives it. -/
def walkStart (p : Packet) (len : Nat) : Walk :=
  let a := pkDptr1 p
  let b := pkDptr2 p
  if pkPtype p = 0 then
    let first := min len (4096 - a % 4096)
    let rest := len - first
    if rest = 0 then { segs := [(a, first)] }
    else if rest ≤ 4096 then { segs := [(a, first), (b, rest)] }
    else { segs := [(a, first)], next := some b, count := prpCount b (ceilDiv rest 4096) }
  else { next := some a, count := b }

/-- The walk has covered the transfer. -/
def Walk.covers (w : Walk) (len : Nat) : Bool := decide (len ≤ w.bytes)

/-- Pages of a list page taken one by one until the transfer is covered. -/
def takePages (len : Nat) : List Piece → List (Nat × Nat) → Nat → List (Nat × Nat)
  | [], segs, _ => segs
  | p :: t, segs, have_ =>
    if len ≤ have_ then segs else takePages len t (segs ++ [(p.addr, min 4096 (len - have_))]) (have_ + min 4096 (len - have_))

/-- A PRP list page as it was read: every entry has offset 0, and its last entry names the next list page when more pages remain than fit
(R162). None when it breaks R162. -/
def applyPrp (w : Walk) (addr len : Nat) (l : List Piece) : Option Walk :=
  let rest := len - w.bytes
  let pages := ceilDiv rest 4096
  let fit := (4096 - addr % 4096) / 8
  if l.any (fun p => p.addr % 4096 != 0) then none
  else if pages ≤ fit then
    some { w with segs := takePages len l w.segs w.bytes, next := none, count := 0, lists := w.lists + 1 }
  else
    let nxt := (l.getLastD { addr := 0 }).addr
    let segs := takePages len l.dropLast w.segs w.bytes
    some { segs := segs, next := some nxt, count := prpCount nxt (pages - (fit - 1)), lists := w.lists + 1 }

/-- A descriptor of R163 is well formed, as the last of its list or not. -/
def pieceOk (p : Piece) (last : Bool) : Bool :=
  p.rsvd == 0 && p.len != 0 && p.len % 4 == 0
    && (if p.kind = 0 then p.addr % 4 == 0
        else p.kind == 1 && last && p.addr % 16 == 0 && p.len % 16 == 0 && decide (16 ≤ p.len ∧ p.len ≤ 4096))

/-- An SGL descriptor list as it was read (R163). None when it breaks R163. -/
def applySgl (w : Walk) (len : Nat) (l : List Piece) : Option Walk :=
  let data := l.filter (fun p => p.kind == 0)
  let segs := w.segs ++ data.map (fun p => (p.addr, p.len))
  let total := (segs.map (·.2)).foldl (· + ·) 0
  if !(l.dropLast.all (fun p => pieceOk p false) && l.getLast?.all (fun p => pieceOk p true)) || decide (len < total) then none
  else if total = len then some { segs := segs, next := none, count := 0, lists := w.lists + 1 }
  else match l.getLast? with
    | some p => if p.kind = 1 then some { segs := segs, next := some p.addr, count := p.len / 16, lists := w.lists + 1 } else none
    | none => none

/-- A list as it was read, for a command's transfer of `len` bytes: none when it breaks R162 or R163, or when the chain needs more than
65,536 lists (R593). -/
def applyList (w : Walk) (p : Packet) (len : Nat) (l : List Piece) : Option Walk :=
  let r := if pkPtype p = 0 then applyPrp w (w.next.getD 0) len l else applySgl w len l
  match r with
  | some v => if v.next.isSome && decide (65536 ≤ v.lists) then none else some v
  | none => none

/-- The host address pieces of bytes [off, off + n) of a transfer. -/
def slice : List (Nat × Nat) → Nat → Nat → List (Nat × Nat)
  | [], _, _ => []
  | (a, l) :: t, off, n =>
    if n = 0 then []
    else if l ≤ off then slice t (off - l) n
    else
      let k := min n (l - off)
      (a + off, k) :: slice t 0 (n - k)

/-- Sends the read of the next list of a walk with a tag. -/
def State.readList (s : State) (c t : Nat) : State :=
  let x := s.ctx c
  match x.walk.next with
  | some a =>
    (s.setTag x.fn t (.list c (s.frame + s.timeoutFrames x.fn))).emit
      (.readReq x.fn t a (x.walk.count * (if pkPtype x.pkt = 0 then 8 else 16)))
  | none => s

/-- Sends the read of a block of a command's data with a tag: one request per piece of host memory. -/
def State.readBlock (s : State) (c t b : Nat) : State :=
  let x := s.ctx c
  (slice x.walk.segs (4096 * b) 4096).foldl (fun s p => s.emit (.readReq x.fn t p.1 p.2))
    (s.setTag x.fn t (.data c b (s.frame + s.timeoutFrames x.fn)))

/-- A list or data read of a context is outstanding. -/
def State.listPending (s : State) (f c : Nat) : Bool :=
  s.tags.any (fun e => decide (e.1 / 16384 = f) && (match e.2 with
    | .list d _ => d == c
    | _ => false))

/-- Moves `n` bytes of a block to host memory, from byte `off` of the transfer (R159). -/
def State.moveOut (s : State) (c off n : Nat) (b : Block) : State :=
  let x := s.ctx c
  ((slice x.walk.segs off n).foldl (fun (acc : State × Nat) p =>
    (acc.1.emit (.hostWrite x.fn p.1 p.2 (BitVec.ofNat 32768 (bitsOf b.toNat (8 * acc.2) (8 * p.2)))), acc.2 + p.2)) (s, 0)).1

/-- Moves bytes to host memory, from byte 0 of the transfer. -/
def State.moveBytes (s : State) (c : Nat) (bytes : List Nat) : State :=
  let x := s.ctx c
  ((slice x.walk.segs 0 bytes.length).foldl (fun (acc : State × List Nat) p =>
    (acc.1.emit (.hostBytes x.fn p.1 (acc.2.take p.2)), acc.2.drop p.2)) (s, bytes)).1

/-- A context that ends leaves its outstanding reads without a command: their tags stay in use until the completion arrives or the timer
expires, and the data is discarded (context number 65,536 stands for none). -/
def State.dropTags (s : State) (c : Nat) : State :=
  { s with tags := s.tags.map (fun e => (e.1, match e.2 with
      | .data d b t => if d = c then .list 65536 t else .data d b t
      | .list d t => if d = c then .list 65536 t else .list d t
      | u => u)) }

end Sys2Proof.Machine
end

