-- ==== Sys2Proof/Machine/Regs.lean ====
section
/-! DEFINITION. What a read of a BAR0 word returns: the register file, and the registers that are views of typed state
(R12, R13, R580, R581, R586). -/

set_option Elab.async false

namespace Sys2Proof.Machine

/-! ### Views -/

/-- Fetching is stopped by a firmware activation or a lockstep takeover (R591). -/
def State.fetchHeld (s : State) : Bool := s.bst.activator != 0 || s.pairs.takeover.isSome

/-- A function holds unreleased Reconcile entries, once the log is restored (R47, R93, R105). -/
def State.hasRecon (s : State) (f : Nat) : Bool := s.boot.step5 && s.recon.any (fun r => r.fn == f)

/-- The number of a ring state (R189). -/
def RingSt.code : RingSt → Nat
  | .absent => 0 | .active => 1 | .resetting => 2 | .error => 3

/-- A word of HIF_RING_STATE[n] (R189). -/
def Ring.word (r : Ring) (k : Nat) : Nat :=
  match k with
  | 0 => r.sqHead % 65536 + r.sqTail % 65536 * 65536
  | 4 => r.cqTail % 65536 + r.cqHead % 65536 * 65536
  | 8 => r.st.code + bit r.group * 4 + bit r.phase * 8 + r.vector % 2048 * 16 + min r.inflight 65535 * 65536
  | _ => 0

/-- A word of the active copy of a window entry (R148). -/
def Win.word (w : Win) (k : Nat) : Nat :=
  match k with
  | 0 => w.target % 4 + bit w.wrEn * 4 + bit w.rdEn * 8 + bit w.ridChk * 16 + w.rid % 65536 * 65536
  | 4 => w.base
  | 8 => w.limit
  | _ => 0

/-- A word of SEC_SLOT[s] (R523). -/
def KeySlot.word (x : KeySlot) (k : Nat) : Nat :=
  if k = 0 then x.st + bit x.autoRoll * 4 + bit x.generated * 8 + min 15 x.span * 16 + x.epoch % 2 ^ 20 * 256 + bit x.warned * 2 ^ 28
  else min (2 ^ 32 - 1) (x.usage / 256)

/-- The addressed word of the active control store (R309). -/
def State.ucodeWord (s : State) (i : Nat) : Nat :=
  let a := s.rd Reg.UCS_RD_ADDR.INDEX
  let g := s.ucode.active
  if s.on Reg.UCS_RD_ADDR.SPACE then (if a < imgNanos g then bitsOf (nanoAt g a) (32 * i) 32 else 0)
  else if i = 0 then (microAt g a).getD 0 else 0

/-- The LUNs of a channel that run an array phase, and those suspended (R275). -/
def State.busyLuns (s : State) (c : Nat) : Nat :=
  ((List.range 32).filter (fun l => match (s.lun c l).st with
    | .sensing | .busy => true
    | _ => false)).length
/-- LUNs that hold a suspended operation. -/
def State.suspLuns (s : State) (c : Nat) : Nat := ((List.range 32).filter (fun l => (s.lun c l).held.isSome)).length

/-- The lock bits: field and number of instances (R582). -/
def lockFields : List Fld :=
  [Reg.HUP_CTRL.LOCK, Reg.BRU_CTRL.LOCK, Reg.WBF_CFG.LOCK, Reg.FRM_CTRL.LOCK, Reg.CHN_ENG_CTRL.LOCK, Reg.UCS_CTRL.LOCK,
   Reg.MIN_LADDER_CFG.LOCK, Reg.FTL_GC_CFG.LOCK, Reg.GLI_CFG.LOCK, Reg.DRC_CFG2.LOCK, Reg.MEM_CFG2.LOCK, Reg.BPM_CFG.LOCK,
   Reg.THI_CFG.LOCK, Reg.SEC_KEY_CFG.LOCK, Reg.BST_CTRL.LOCK, Reg.PWR_CFG.LOCK, Reg.THM_CFG2.LOCK, Reg.FAN_CTRL.LOCK]

/-- Every lock bit of every block is set (R589). -/
def State.allLocked (s : State) : Bool := lockFields.all (fun r => (List.range r.count).all (fun i => s.on r i))

/-- Words whose whole contents are a view of typed state: none for every other offset. -/
def State.viewWord (s : State) (f off : Nat) : Option Nat :=
  if 0x101000 ≤ off ∧ off < 0x105000 then some ((s.ring f ((off - 0x101000) / 16)).word (off % 16))
  else if 0x111000 ≤ off ∧ off < 0x112000 then some ((s.win ((off - 0x111000) / 16)).word (off % 16))
  else if 0x388000 ≤ off ∧ off < 0x390000 then
    some (if s.boot.restored then (s.keySlot ((off - 0x388000) / 8)).word (off % 8) else 0)
  else if 0x240014 ≤ off ∧ off < 0x240024 then some (s.ucodeWord ((off - 0x240014) / 4))
  else if off = 0x100124 then some s.ctxFree
  else if off = 0x120004 then some (bit s.fetchHeld + bit (s.hasRecon 0) * 2 + bit (s.hasRecon 1) * 4)
  else if off = 0x130000 then some s.wbfDirty
  else if off = 0x130004 then some (s.wbfSpans % 65536 + spanMax * 65536)
  else if off = 0x130010 then some (if s.boot.step5 then s.ftl.osn % 2 ^ 32 else 0)
  else if off = 0x130014 then some (if s.boot.step5 then s.ftl.osn / 2 ^ 32 % 2 ^ 32 else 0)
  else if 0x3800A8 ≤ off ∧ off < 0x3800B8 then
    let x := s.keySlot (s.rd Reg.SEC_REALM_SEL.SLOT)
    let v := if off < 0x3800B0 then x.first else x.last
    some (if x.st = 0 ∨ !s.boot.restored then 0 else if off % 8 = 0 then v % 2 ^ 32 else v / 2 ^ 32 % 2 ^ 16)
  else if 0x3A0000 ≤ off ∧ off < 0x3A0018 then
    if !s.boot.restored then some 0
    else if off = 0x3A0000 then some (s.events.length + bit (decide (4096 < s.eventTotal)) * 2 ^ 13)
    else if off = 0x3A0008 then some (s.eventTotal % 2 ^ 32)
    else if off = 0x3A000C then some (s.eventTotal / 2 ^ 32 % 2 ^ 32)
    else match s.events with
      | e :: _ => if off = 0x3A0010 then some (e.code + e.source * 2 ^ 16 + e.func * 2 ^ 24)
                  else if off = 0x3A0014 then some (e.detail % 2 ^ 32) else some 0
      | [] => some 0
  else none

/-- Fields that follow typed state although their word also holds stored fields. -/
def State.viewField (s : State) (r : Fld) (i : Nat) : Option Nat :=
  if r = Reg.CHN_ENG_STATUS.BUSY_LUNS then some (s.busyLuns i)
  else if r = Reg.CHN_ENG_STATUS.SUSP_LUNS then some (s.suspLuns i)
  else if r = Reg.MIN_STATUS.OPEN_RECOV then some (min 65535 s.openRecov)
  else if r = Reg.UCS_STATUS.LOAD_BUSY then some (bit (s.live.any (fun e => e.2.is .ucodeLoad && decide (e.2.phase ≠ .sent))))
  else if r = Reg.GLB_LOCK_ALL.ALL_LOCKED then some (bit s.allLocked)
  else none

/-! ### Words -/

/-- The index of the field's instance whose word, or high word, lies at an offset. -/
def Fld.at (r : Fld) (off : Nat) : Option (Nat × Bool) :=
  let hit (o : Nat) : Option Nat :=
    if o < r.off then none
    else if r.stride = 0 then (if o = r.off then some 0 else none)
    else if (o - r.off) % r.stride = 0 ∧ (o - r.off) / r.stride < r.count then some ((o - r.off) / r.stride) else none
  match hit off with
  | some i => some (i, false)
  | none => if 32 < r.w ∧ 4 ≤ off then (hit (off - 4)).map (fun i => (i, true)) else none

/-- The function whose copy of a field an access through a function meets (R581). -/
def Fld.fn (r : Fld) (f : Nat) : Nat := if r.perFn then f else 0

/-- The fields of the word at an offset, with their instance and whether it is the high word of a pair. -/
def fieldsAt (off : Nat) : List (Fld × Nat × Bool) := regTable.filterMap (fun r => (r.at off).map (fun e => (r, e.1, e.2)))

/-- The value a read finds in a field: write-only fields read as zero (R15). -/
def State.fieldNow (s : State) (f : Nat) (r : Fld) (i : Nat) : Nat :=
  match r.acc with
  | .wo => 0
  | _ => (s.viewField r i).getD (s.rd r i (r.fn f))

/-- The word a read of BAR0 returns: reserved bits and unassigned words read as zero (R11, R15). -/
def State.regWord (s : State) (f off : Nat) : Nat :=
  match s.viewWord f off with
  | some v => v
  | none => (fieldsAt off).foldl (fun n e =>
      let v := s.fieldNow f e.1 e.2.1
      n + (if e.2.2 then v / 2 ^ 32 % 2 ^ 32 else if 32 < e.1.w then v % 2 ^ 32 else v * 2 ^ e.1.lo)) 0

end Sys2Proof.Machine
end

