-- ==== Sys2Proof/Machine/Logs.lean ====
section
/-! DEFINITION. The contents of log pages and of the data structures that admin commands return (R173, R176 to R181, R395, R515,
R561). -/

set_option Elab.async false

namespace Sys2Proof.Machine

/-- A field of a page: offset, bytes, value. -/
abbrev PageField := Nat × Nat × Nat

/-- A byte of a page made of fields; a byte that no field covers reads as zero. -/
def pageByte (l : List PageField) (o : Nat) : Nat :=
  match l.find? (fun e => decide (e.1 ≤ o ∧ o < e.1 + e.2.1)) with
  | some (a, _, v) => bitsOf v (8 * (o - a)) 8
  | none => 0

/-- Bytes [off, off + n) of a page of a length, zeroes beyond it (R176). -/
def pageSlice (len : Nat) (f : Nat → Nat) (off n : Nat) : List Nat :=
  (List.range n).map (fun i => if off + i < len then f (off + i) else 0)

/-- Little-endian words of bytes. -/
def wordsOf : List Nat → List (BitVec 32)
  | a :: b :: c :: d :: t => BitVec.ofNat 32 (a + b * 2 ^ 8 + c * 2 ^ 16 + d * 2 ^ 24) :: wordsOf t
  | _ => []

/-- The bytes of little-endian words. -/
def bytesOf (l : List (BitVec 32)) : List Nat := l.flatMap (fun w => (List.range 4).map (fun k => bitsOf w.toNat (8 * k) 8))

/-- Characters as a number, the first in the low byte, padded with spaces to `n` bytes. -/
def asciiPad (l : List Nat) (n : Nat) : Nat :=
  ((List.range n).map (fun i => l.getD i 0x20 * 2 ^ (8 * i))).foldl (· + ·) 0

/-- The serial number's 20 bytes: a byte the board gives as zero is a space. -/
def State.serialBytes (s : State) : List Nat :=
  (List.range 20).map (fun i => let b := bitsOf s.board.serial (8 * i) 8; if b = 0 then 0x20 else b)

/-- Raw flash capacity in bytes: every populated LUN's blocks, pages and IU slots (R173). -/
def State.rawBytes (s : State) : Nat :=
  ((List.range 64).flatMap (fun c => (List.range 32).map (fun l =>
    if s.lunPopulated c l then
      let g := s.ucode.active
      let d := (s.lun c l).die
      dieBlocks g d * max 1 (diePlanes g d) * diePages g d false * dieSlots g d * 16384
    else 0))).foldl (· + ·) 0

/-- IDENTIFY data (R173). The model name's 17 characters are "Birrifel LDL-6420". -/
def State.identifyData (s : State) (f : Nat) : List PageField :=
  [(0x000, 2, 0x1F4B), (0x002, 2, 0x6420), (0x004, 20, asciiPad s.serialBytes 20),
   (0x018, 40, asciiPad [0x42, 0x69, 0x72, 0x72, 0x69, 0x66, 0x65, 0x6C, 0x20, 0x4C, 0x44, 0x4C, 0x2D, 0x36, 0x34, 0x32, 0x30] 40),
   (0x040, 8, blockField (s.fwSlot s.bst.active).head 0x20 8), (0x048, 1, s.bst.active),
   (0x049, 1, bit (s.on Reg.HIF_EP_LINK.PORT_MODE)), (0x04A, 1, f), (0x04B, 1, s.rd Reg.BRU_STAGE.STAGE), (0x050, 8, s.ftl.capacity),
   (0x058, 4, 4096), (0x05C, 4, 65536), (0x060, 2, 1023), (0x062, 2, 2048), (0x064, 4, 65536), (0x068, 2, 4096), (0x06A, 1, 24),
   (0x06C, 4, 16384), (0x070, 8, s.rawBytes)]

/-- The STATE byte of the Health page (R178). -/
def State.healthState (s : State) : Nat :=
  bit s.readOnly + bit (s.measured && !s.sup.passed) * 2 + bit (s.measured && decide (s.writeMode = .readOnly)) * 4 + bit s.degraded * 8
    + bit (s.on Reg.FRM_STATUS.THROTTLED) * 16 + bit s.member * 32

/-- A capacitance record's 8 bytes (R178). -/
def CapRecord.code (r : CapRecord) : Nat := r.cap % 65536 + bit r.bleed * 2 ^ 16 + bit r.pass * 2 ^ 17 + r.hours % 2 ^ 32 * 2 ^ 32

/-- The Health page (R178). -/
def State.healthPage (s : State) : List PageField :=
  [(0x000, 1, s.rd Reg.FTL_HEALTH.GRADE), (0x001, 1, s.rd Reg.FTL_HEALTH.SPARE_PCT), (0x002, 1, s.rd Reg.FTL_HEALTH.WEAR_PCT),
   (0x003, 1, s.healthState), (0x004, 2, s.rd Reg.THM_TEMP.COMPOSITE), (0x006, 2, s.rd Reg.THM_TEMP.HOTTEST),
   (0x008, 4, min s.hours (2 ^ 32 - 1)), (0x00C, 4, s.health_ 0x00C), (0x010, 4, s.health_ 0x010), (0x014, 4, s.health_ 0x014)]
  ++ [0x018, 0x020, 0x028, 0x030, 0x038, 0x040, 0x048, 0x050, 0x058, 0x060].map (fun o => (o, 8, s.health_ o))
  ++ [0x068, 0x06C, 0x070, 0x074].map (fun o => (o, 4, s.health_ o))
  ++ [(0x078, 8, s.health_ 0x078), (0x080, 1, s.health_ 0x080), (0x081, 1, s.health_ 0x081), (0x082, 1, s.health_ 0x082),
      (0x083, 1, s.health_ 0x083), (0x084, 4, s.health_ 0x084), (0x088, 2, s.health_ 0x088), (0x08C, 4, s.recon.length),
      (0x090, 4, s.lost.length), (0x094, 4, s.rd Reg.FRM_CEILING.CEIL_MIB)]
  ++ s.sup.caps.zipIdx.map (fun e => (0x0A0 + 8 * e.2, 8, e.1.code))

/-- The signed 16-bit field of a temperature in 0.1 °C. -/
def temp16 (t : Int) : Nat := signedField 16 t

/-- The temperature history page (R561). -/
def State.tempPage (s : State) : List PageField :=
  let t := s.thermal
  [(0x0000, 8, t.aboveSp), (0x0008, 8, t.stopped), (0x0010, 4, s.health_ 0x014), (0x0014, 2, s.rd Reg.THM_CNT.STOPS),
   (0x0016, 2, s.rd Reg.THM_CNT.TRIPS), (0x0018, 2, temp16 t.maxComposite), (0x001A, 2, t.hourly.length)]
  ++ (List.range 32).map (fun b => (0x0040 + 8 * b, 8, Tbl.get 0 t.bins b))
  ++ t.hourly.zipIdx.map (fun e => (0x0140 + 16 * e.2, 16,
      e.1.hours % 2 ^ 32 + temp16 e.1.low * 2 ^ 32 + temp16 e.1.mean * 2 ^ 48 + temp16 e.1.high * 2 ^ 64 + e.1.throttled % 2 ^ 32 * 2 ^ 80
        + e.1.hotClass % 256 * 2 ^ 112 + e.1.hotIndex % 256 * 2 ^ 120))

/-- A page header of R179. -/
def pageHead (count len oldest : Nat) : List PageField := [(0x00, 4, count), (0x04, 4, len), (0x08, 8, oldest)]

/-- The Reconcile entries a function's page lists: its own, and the other function's while that function's link is down (R48, R179). -/
def State.reconListed (s : State) (f : Nat) : List Recon :=
  s.recon.filter (fun r => r.fn == f || (s.hasFn r.fn && !s.linkUp r.fn))

/-- The CAUSE byte of a Reconcile entry (R179). -/
def Cause.code : Cause → Nat
  | .cold => 1 | .warm => 2 | .hot => 3 | .function => 4

/-- A Reconcile entry's 32 bytes (R179). -/
def Recon.code (r : Recon) : Nat :=
  r.fn + bit r.posted * 2 ^ 8 + r.ring % 2 ^ 16 * 2 ^ 16 + r.cid % 2 ^ 16 * 2 ^ 32 + r.opc % 256 * 2 ^ 48 + r.cause.code * 2 ^ 56
    + r.status % 2 ^ 16 * 2 ^ 64 + r.result % 2 ^ 32 * 2 ^ 96 + r.seq % 2 ^ 64 * 2 ^ 128

/-- The Reconcile page of a function (R179). -/
def State.reconPage (s : State) (f : Nat) : List PageField :=
  let l := s.reconListed f
  pageHead l.length (32 + 32 * l.length) ((l.head?.map (·.seq)).getD 0) ++ l.zipIdx.map (fun e => (0x20 + 32 * e.2, 32, e.1.code))

/-- Bytes of a Lost-stripe entry (R180). -/
def LostEntry.size (e : LostEntry) : Nat := 32 + 16 * e.ranges.length

/-- The fields of Lost-stripe entries from an offset upward (R180). -/
def lostFields : List LostEntry → Nat → List PageField
  | [], _ => []
  | e :: t, o =>
    [(o, 8, e.seq), (o + 8, 8, e.stripe), (o + 16, 2, e.group), (o + 18, 1, e.member), (o + 19, 1, e.cause), (o + 20, 4, e.ranges.length),
     (o + 24, 4, e.hours), (o + 28, 4, e.size)]
    ++ e.ranges.zipIdx.flatMap (fun r => [(o + 32 + 16 * r.2, 8, r.1.1 % 2 ^ 48), (o + 40 + 16 * r.2, 4, r.1.2)])
    ++ lostFields t (o + e.size)

/-- Length of the Lost-stripe page. -/
def State.lostLen (s : State) : Nat := 32 + (s.lost.map LostEntry.size).foldl (· + ·) 0

/-- The Lost-stripe page (R180). -/
def State.lostPage (s : State) : List PageField :=
  pageHead s.lost.length s.lostLen ((s.lost.head?.map (·.seq)).getD 0) ++ lostFields s.lost 32

/-- An Event entry's 16 bytes (R181). -/
def Event.code16 (e : Event) : Nat :=
  e.time % 2 ^ 64 + e.code % 2 ^ 16 * 2 ^ 64 + e.source % 256 * 2 ^ 80 + e.func % 256 * 2 ^ 88 + e.detail % 2 ^ 32 * 2 ^ 96

/-- The Event page, oldest first (R181). -/
def State.eventPage (s : State) : List PageField :=
  let n := s.events.length
  pageHead n (32 + 16 * n) (if n = 0 then 0 else s.eventTotal - n + 1)
    ++ s.events.reverse.zipIdx.map (fun e => (0x20 + 16 * e.2, 16, e.1.code16))

/-- The head of log page 0x10 (R515). -/
def State.storePage (s : State) : List PageField :=
  let n := min 4 s.sec.mcKeys.length
  [(0x0000, 1, s.bst.active), (0x0001, 1, s.bst.fusedSv), (0x0002, 1, (2 ^ n - 1) + (n - 1) * 2 ^ 4)]
  ++ [1, 2].map (fun i =>
    let x := s.fwSlot i
    (0x0040 * i, 64, s.fwState i + x.check * 2 ^ 8 + x.sv * 2 ^ 16 + x.imageLen * 2 ^ 32 + x.version * 2 ^ 64 + x.unitCount * 2 ^ 96
      + blockField x.head 0x20 8 * 2 ^ 128))
  ++ [(0x0100, 96, Config.identityPoint.toNat)]

/-- A byte of log page 0x10 (R515): the head, then the slots as read from the store, erased bytes as 0xFF. -/
def State.storeByte (s : State) (o : Nat) : Nat :=
  if o < 0x1000 then pageByte s.storePage o
  else
    let k := (o - 0x1000) / (12 * 2 ^ 20)
    let b := (o - 0x1000) % (12 * 2 ^ 20)
    let x := s.fwSlot (k + 1)
    if x.written.testBit (b / 4096) then blockField (Tbl.get 0 x.units (b / 4096)) (b % 4096) 1 else 0xFF

/-- Present length and contents of a log page for a function; none for an unlisted page (R176). -/
def State.logPage (s : State) (f page : Nat) : Option (Nat × (Nat → Nat)) :=
  if page = 0x01 then some (512, pageByte s.healthPage)
  else if page = 0x02 then some (11840, pageByte s.tempPage)
  else if page = 0x0A then some (s.lostLen, pageByte s.lostPage)
  else if page = 0x0C then some (32 + 32 * (s.reconListed f).length, pageByte (s.reconPage f))
  else if page = 0x0E then some (32 + 16 * s.events.length, pageByte s.eventPage)
  else if page = 0x10 then some (25169920, s.storeByte)
  else none

/-- The SEQs of the entries whose every byte lies in bytes [off, off + n) of the page (R177). -/
def State.releasable (s : State) (f page off n : Nat) : List Nat :=
  if page = 0x0C then
    ((s.reconListed f).zipIdx.filter (fun e => decide (off ≤ 0x20 + 32 * e.2 ∧ 0x20 + 32 * e.2 + 32 ≤ off + n))).map (·.1.seq)
  else if page = 0x0A then
    (s.lost.foldl (fun (acc : Nat × List Nat) e =>
      (acc.1 + e.size, if off ≤ acc.1 ∧ acc.1 + e.size ≤ off + n then acc.2 ++ [e.seq] else acc.2)) (32, [])).2
  else []

/-- GROUP_STATUS data (R395). -/
def State.groupData (s : State) : List PageField :=
  ([0, 4, 8, 12, 16].map (fun o => (o, 4, s.regWord 0 (0x300000 + o)))) ++ [(0x14, 4, s.group.incarnation)]
  ++ (List.range 24).flatMap (fun j =>
    ([0, 4, 8, 12].map (fun o => (0x40 + 32 * j + o, 4, s.regWord 0 (0x300100 + 16 * j + o)))) ++ [(0x50 + 32 * j, 8, (s.peer j).base)])

end Sys2Proof.Machine
end

