-- ==== Sys2Proof/Machine/Checks.lean ====
section
/-! DEFINITION. The checks before execution (R93, R161 to R176, R203, R206, R529) in the order of R175. -/

set_option Elab.async false

namespace Sys2Proof.Machine

/-! ### Status codes (R174) -/

def stSuccess : Nat := 0x0000
def stOpcode : Nat := 0x0001
def stField : Nat := 0x0002
def stRing : Nat := 0x0003
def stAbortedReset : Nat := 0x0004
def stAbortedRequest : Nat := 0x0005
def stTransfer : Nat := 0x0006
def stLbaRange : Nat := 0x0010
def stReadOnly : Nat := 0x0012
def stNotReady : Nat := 0x0013
def stMedia : Nat := 0x0020
def stAuthFail : Nat := 0x0022
def stKeyExhausted : Nat := 0x0023
def stKeyAbsent : Nat := 0x0024
def stGroupUnavailable : Nat := 0x0030
def stGroupRefused : Nat := 0x0031
def stNotErased : Nat := 0x0040
def stProgramFail : Nat := 0x0041
def stEraseFail : Nat := 0x0042
def stErasedInvalid : Nat := 0x0043

/-! ### Operands of the admin commands (R167) -/

/-- DW8 and DW9 as one number. -/
def pkDw8 (p : Packet) : Nat := pkField p 256 64
/-- Bits of a doubleword. -/
def pkBits (p : Packet) (n lo w : Nat) : Nat := bitsOf (pkDw p n) lo w
/-- Doublewords from `n` to 15 are zero. -/
def pkZeroFrom (p : Packet) (n : Nat) : Bool := pkField p (32 * n) (512 - 32 * n) == 0
/-- Bits of a doubleword from `lo` upward are zero. -/
def pkHighZero (p : Packet) (n lo : Nat) : Bool := pkDw p n / 2 ^ lo == 0
/-- Both data pointers are zero. -/
def pkNoData (p : Packet) : Bool := pkField p 128 128 == 0

/-- The media address of a raw command. -/
def pkMedia (p : Packet) : Nat := pkField p 256 40
/-- PAGES of a raw command. -/
def pkPages (p : Packet) : Nat := pkBits p 10 0 8
/-- MODE.ECC_BYPASS. -/
def pkBypass (p : Packet) : Bool := (pkDw p 11).testBit 0
/-- MODE.SLC. -/
def pkSlc (p : Packet) : Bool := (pkDw p 11).testBit 1

/-- The page size a raw command moves: the user page, or the physical page with ECC_BYPASS (R271, R272). -/
def State.rawPage (s : State) (p : Packet) : Nat :=
  let die := s.dieOf (pkMedia p)
  let kib := diePageKib s.ucode.active die
  if pkBypass p then kib / 4 * s.cwBytes die else kib * 1024

/-- Bytes a command moves to or from the host (R167). -/
def State.moveLen (s : State) (p : Packet) : Nat :=
  match pkOp p with
  | some .read | some .write => 4096 * pkNblk p
  | some .identify | some .groupStatus | some .groupJoin => 4096
  | some .getLog | some .fwDownload => pkDw p 12
  | some .keyLoad => 64
  | some .ucodeLoad => pkDw p 10
  | some .rawRead | some .rawProgram => pkPages p * s.rawPage p
  | _ => 0

/-- The pages a raw command names: the address is valid, its IU slot is zero and its pages stay in the block (R273). -/
def State.rawOk (s : State) (p : Packet) : Bool :=
  let a := pkMedia p
  pkField p 296 24 == 0 && adSlot a == 0 && s.addrOk a (pkSlc p) && pkPages p != 0
    && decide (adPage a + pkPages p ≤ diePages s.ucode.active (s.dieOf a) (pkSlc p))

/-- A feature's VALUE is accepted (R172): the drive power cap leaves 40 W above a tenth of BASE, the set point is 70 to 100 °C, the
fan policy is not reserved. -/
def State.featureOk (s : State) (fid v : Nat) : Bool :=
  match fid with
  | 1 => decide (v < 65536) && (v == 0 || decide (ceilDiv (s.rd Reg.FRM_BASE.BASE) 10 + 40 ≤ v))
  | 2 => decide (70 ≤ v ∧ v ≤ 100)
  | 3 => decide (v < 65536)
  | 4 => decide (v < 3)
  | 5 => decide (v < 2)
  | 6 => true
  | _ => false

/-- The fields of a command obey R161 to R172 for its opcode. -/
def State.fieldsOk (s : State) (p : Packet) (o : Opc) : Bool :=
  match o with
  | .read | .write =>
    pkField p 304 16 == 0 && decide (1 ≤ pkNblk p ∧ pkNblk p ≤ 4096) && pkZeroFrom p 11 && walkOk p (4096 * pkNblk p)
  | .verify => pkField p 304 16 == 0 && decide (1 ≤ pkNblk p ∧ pkNblk p ≤ 4096) && pkZeroFrom p 11 && pkNoData p
  | .flush => pkZeroFrom p 11 && pkNoData p
  | .trim | .writeZeroes => pkField p 304 16 == 0 && pkNblk p != 0 && pkZeroFrom p 11 && pkNoData p
  | .identify => pkZeroFrom p 8 && walkOk p 4096
  | .getLog =>
    let page := pkBits p 10 0 8
    let n := pkDw p 12
    pkDw8 p == 0 && pkHighZero p 10 9 && (s.logPage 0 page).isSome && (!(pkDw p 10).testBit 8 || page == 0x0A || page == 0x0C)
      && pkDw p 11 % 4 == 0 && n % 4 == 0 && decide (4 ≤ n ∧ n ≤ 2 ^ 22) && pkZeroFrom p 13 && walkOk p n
  | .setFeature =>
    let fid := pkBits p 10 0 8
    pkNoData p && pkDw8 p == 0 && pkHighZero p 10 9 && s.featureOk fid (pkDw p 11) && !(fid == 6 && (pkDw p 10).testBit 8)
      && pkZeroFrom p 12
  | .getFeature =>
    let fid := pkBits p 10 0 8
    let sel := pkBits p 10 8 2
    pkNoData p && pkDw8 p == 0 && pkHighZero p 10 10 && decide (1 ≤ fid ∧ fid ≤ 6) && sel != 3 && !(fid == 6 && sel == 1)
      && pkZeroFrom p 11
  | .ringCreate =>
    let sq := pkBits p 8 0 17
    let cq := pkBits p 9 0 17
    pkPtype p == 0 && pkDptr1 p % 4096 == 0 && pkDptr2 p % 4096 == 0 && pkHighZero p 8 17 && pkHighZero p 9 17
      && decide (2 ≤ sq ∧ sq ≤ 65536) && decide (2 ≤ cq ∧ cq ≤ 65536) && decide (sq ≤ cq) && pkBits p 10 13 3 == 0
      && pkHighZero p 10 27 && pkBits p 10 11 2 != 3 && pkHighZero p 11 16 && pkZeroFrom p 12
  | .ringDelete | .ringReset => pkNoData p && pkDw8 p == 0 && pkHighZero p 10 10 && pkZeroFrom p 11
  | .powerState => pkNoData p && pkDw8 p == 0 && decide (pkDw p 10 < 3) && pkZeroFrom p 11
  | .fwDownload =>
    let n := pkDw p 12
    pkDw8 p == 0 && decide (pkDw p 10 = 1 ∨ pkDw p 10 = 2) && n != 0 && n % 4096 == 0 && decide (n ≤ 2 ^ 22)
      && decide (pkDw p 11 * 4096 + n ≤ 12 * 2 ^ 20) && pkZeroFrom p 13 && walkOk p n
  | .fwActivate => pkNoData p && pkDw8 p == 0 && decide (pkDw p 10 = 1 ∨ pkDw p 10 = 2) && pkZeroFrom p 11
  | .keyLoad =>
    pkField p 304 16 == 0 && pkHighZero p 10 12 && pkHighZero p 12 16 && pkZeroFrom p 13 && walkOk p 64
      && decide (pkField p 256 48 ≤ pkField p 352 48)
  | .keyRoll | .keyPurge => pkNoData p && pkDw8 p == 0 && pkHighZero p 10 12 && pkZeroFrom p 11
  | .groupJoin =>
    pkDw8 p == 0 && pkBits p 10 0 16 != 0 && decide (pkBits p 10 16 5 < 24) && pkHighZero p 10 21 && pkZeroFrom p 11 && walkOk p 4096
  | .groupLeave => pkNoData p && pkDw8 p == 0 && pkHighZero p 10 1 && pkZeroFrom p 11
  | .groupStatus => pkZeroFrom p 8 && walkOk p 4096
  | .rawRead | .rawProgram =>
    s.rawOk p && pkHighZero p 10 8 && pkHighZero p 11 2 && pkZeroFrom p 12 && walkOk p (pkPages p * s.rawPage p)
  | .rawErase =>
    let a := pkMedia p
    pkNoData p && pkField p 296 24 == 0 && a % 2 ^ 14 == 0 && s.addrOk a (pkSlc p) && pkDw p 10 == 0 && pkHighZero p 11 2
      && !pkBypass p && pkZeroFrom p 12
  | .ucodeLoad =>
    let n := pkDw p 10
    pkDw8 p == 0 && n != 0 && n % 4 == 0 && decide (n ≤ 65536) && pkZeroFrom p 11 && walkOk p n
  | .diag =>
    let n := pkDw p 12
    pkDw8 p == 0 && pkHighZero p 10 8 && pkZeroFrom p 13
      && (match pkDw p 10 with
          | 1 => pkNoData p && n == 0
          | 2 => pkPtype p == 0 && pkDptr1 p != 0 && pkDptr1 p % 4096 == 0 && pkDptr2 p % 4096 == 0 && pkDw p 11 == 0
                   && n != 0 && n % 4096 == 0 && decide (n ≤ 2 ^ 20)
          | _ => false)

/-! ### NOT_READY (R93, R517) -/

/-- A command with a persistent effect among the admin commands (R33). -/
def pkPersistent (p : Packet) : Bool :=
  match pkOp p with
  | some .setFeature => (pkDw p 10).testBit 8
  | some .keyLoad | some .keyRoll | some .keyPurge | some .groupJoin | some .groupLeave | some .ucodeLoad | some .fwActivate => true
  | _ => false

/-- Grind serves an admin command (R93). -/
def State.grindServes (s : State) (p : Packet) : Bool :=
  match pkOp p with
  | some .identify | some .getFeature | some .ringCreate | some .ringDelete | some .ringReset | some .fwDownload | some .diag => true
  | some .setFeature => !(pkDw p 10).testBit 8
  | some .getLog =>
    let page := pkBits p 10 0 8
    page == 0x0E || page == 0x10 || (page == 0x0C && s.boot.step5)
  | _ => false

/-- Recovery serves an admin command (R517). -/
def recoveryServes (p : Packet) : Bool :=
  match pkOp p with
  | some .identify | some .fwDownload => true
  | some .getLog => pkBits p 10 0 8 == 0x0E || pkBits p 10 0 8 == 0x10
  | _ => false

/-- NOT_READY applies: in Grind to every I/O command and to the admin commands it does not serve; a command that R47 refuses keeps
that refusal (R93, R517) (DEDUCED: log entry 90). -/
def State.notReady (s : State) (f n : Nat) (p : Packet) : Bool :=
  decide (s.boot.stage = .grind)
    && (if n ≠ 0 then true
        else if s.boot.recovery then !recoveryServes p
        else !s.grindServes p && !(pkPersistent p && s.hasRecon f))

/-! ### The order of R175 -/

/-- The identifier is in progress on the ring: fetched, and its completion entry not written (R161). -/
def State.cidBusy (s : State) (f n cid : Nat) : Bool :=
  s.live.any (fun e => e.2.fn == f && e.2.ring == n && e.2.cid == cid && decide (e.2.phase ≠ .sent))

/-- The packet's common fields obey R161: PTYPE, the reserved flags and doublewords, and the identifier. -/
def State.commonOk (s : State) (f n : Nat) (p : Packet) : Bool :=
  decide (pkPtype p < 2) && pkField p 10 6 == 0 && pkField p 32 96 == 0 && !(n == 0 && pkCid p == 0xFFFF) && !s.cidBusy f n (pkCid p)

/-- RING_INVALID under R169. -/
def State.ringBad (s : State) (f : Nat) (p : Packet) (o : Opc) : Bool :=
  let r := pkBits p 10 0 10
  match o with
  | .ringCreate => r == 0 || (s.ring f r).exists_
  | .ringDelete | .ringReset => r == 0 || !(s.ring f r).exists_
  | _ => false

/-- The blocks whose counters a write reserves: a WRITE's own, or those of the end IUs of a TRIM or WRITE_ZEROES (R203, R356). -/
def sealedParts (p : Packet) (o : Opc) : List (Nat × Nat) :=
  match o with
  | .write => [(pkSlba p, pkNblk p)]
  | .trim | .writeZeroes =>
    (endIus (pkSlba p) (pkNblk p)).map (fun i =>
      let a := max (pkSlba p) (4 * i)
      (a, min (pkSlba p + pkNblk p) (4 * i + 4) - a))
  | _ => []

/-- Reserves the counters of parts one after another (R503). -/
def State.reserveParts (s : State) : List (Nat × Nat) → List (Nat × Nat × Nat) → Option (List (Nat × Nat × Nat) × State)
  | [], acc => some (acc, s)
  | (a, n) :: t, acc => match s.reserve a n with
    | some (l, s1) => s1.reserveParts t (acc ++ l)
    | none => none

/-- The status of the checks of R175 but for KEY_EXHAUSTED; none when they all pass (DEDUCED: log entry 90). -/
def State.checkStatus (s : State) (f n : Nat) (p : Packet) : Option Nat :=
  if s.notReady f n p then some stNotReady
  else match pkOp p with
    | none => some stOpcode
    | some o =>
      if o.io != (n != 0) then some stOpcode
      else if !(s.commonOk f n p && s.fieldsOk p o) then some stField
      else if s.ringBad f p o then some stRing
      else if pkPersistent p && s.hasRecon f then some stAbortedRequest
      else if o.io && decide (o ≠ .flush) then
        if s.ftl.capacity < pkSlba p + pkNblk p then some stLbaRange
        else if o.isWrite && s.readOnly then some stReadOnly
        else if o.isWrite && (s.ring f n).group && !s.inView then some stGroupUnavailable
        else if !s.keysLoaded (pkSlba p) (pkNblk p) then some stKeyAbsent
        else none
      else none

/-- The checks of R175: the refusal, or the counters reserved and the state that holds the reservation. -/
def State.checks (s : State) (f n : Nat) (p : Packet) : Nat ⊕ (List (Nat × Nat × Nat) × State) :=
  match s.checkStatus f n p with
  | some st => .inl st
  | none =>
    match pkOp p with
    | some o => match s.reserveParts (sealedParts p o) [] with
      | some r => .inr r
      | none => .inl stKeyExhausted
    | none => .inl stOpcode

/-! ### Entry into a context (R156, R176, R190) -/

/-- What a GET_LOG takes at its fetch: the page's length, its snapshot and the entries it may release (R176, R177). -/
def State.takeLog (s : State) (f : Nat) (x : Ctx) : Ctx :=
  let page := pkBits x.pkt 10 0 8
  let off := pkDw x.pkt 11
  let n := pkDw x.pkt 12
  match s.logPage f page with
  | some (len, b) =>
    { x with result := len, img := wordsOf (pageSlice (if page = 0x10 then min len 0x1000 else len) b off n),
             release := if (pkDw x.pkt 10).testBit 8 then s.releasable f page off n else [] }
  | none => x

/-- A fetched packet enters the lowest free context and is checked (R156, R175, R190). -/
def State.enter (s : State) (f n : Nat) (p : Packet) : State :=
  let c := lowestFree s.ctxs 0
  let r := s.ring f n
  let x : Ctx := { fn := f, ring := n, pkt := p, order := s.nextOrder + 1, fetchedAt := s.frame }
  let s1 : State := { s with nextOrder := s.nextOrder + 1 }
  let s2 := s1.setRing f n { r with sqHead := if r.sqHead + 1 = r.sqSize then 0 else r.sqHead + 1, inflight := r.inflight + 1 }
  match s2.checks f n p with
  | .inl st => s2.setCtx c { x with phase := .finished, status := st }
  | .inr (ivs, s3) =>
    if n ≠ 0 then
      let o := s3.assignOsn
      o.2.setCtx c { x with phase := .ordered, osn := o.1, ivs := ivs, walk := walkStart p (s.moveLen p) }
    else
      let y : Ctx := { x with phase := .executing, walk := walkStart p (s.moveLen p) }
      s3.setCtx c (if y.is .getLog then s3.takeLog f y else y)

end Sys2Proof.Machine
end

