-- ==== Sys2Proof/Machine/Rings.lean ====
section
/-! DEFINITION. Rings and contexts: aborts and drops of commands, the end of a ring reset or deletion, the trigger of a reset, the
Reconcile log, failed requests (R44 to R48, R105 to R107, R134, R152, R160, R170, R210, R212). -/

set_option Elab.async false

namespace Sys2Proof.Machine

/-- Commands run: no lockstep takeover holds the contexts, and no new firmware is being started (R44, R213). -/
def State.attends (s : State) : Bool := s.serving && s.pairs.takeover.isNone && !s.bst.swapped

/-! ### Aborted and dropped commands (R170, R210, R212) -/

/-- The record is that of an admin command's context. -/
def Rec.ofCtx (c : Nat) : Rec → Bool
  | .admin (.view) _ => false
  | .admin _ k => k == c + 1
  | _ => false

/-- The record is a departure (R379). -/
def Rec.leaves : Rec → Bool
  | .admin .leave _ => true
  | _ => false

/-- Unfinished effects of an admin command that ends uncommitted: its record leaves the journal batches, a slot it put into PURGING is
LOADED again, and it no longer waits for its group's view. -/
def State.undoAdmin (s : State) (c : Nat) : State :=
  let j := s.ftl.journal
  let mine (r : Rec) : Bool := r.ofCtx c && !(s.group.leaver == c + 1 && r.leaves)
  let s1 : State := { s with ftl := { s.ftl with journal :=
    { j with collecting := j.collecting.filter (fun r => !mine r),
             flight := j.flight.map (fun b => (b.1, b.2.filter (fun r => !mine r))) } } }
  let s2 := match s1.sec.slots.find? (fun e => e.2.st == 2 && e.2.purger == c + 1) with
    | some (k, x) => s1.setKeySlot k { x with st := 1, purger := 0 }
    | none => s1
  if s2.group.leaver = c + 1 then
    let s3 := s2.setGroup { s2.group with leaver := 0 }
    if s3.gstate = 4 ∧ (j.collecting ++ ((j.flight.map (·.2)).getD [])).any Rec.leaves = false then s3.wr Reg.GLI_STATUS.STATE 2 else s3
  else s2

/-- The codewords that are read for a context are given up. -/
def State.dropDecs (s : State) (c : Nat) : State := { s with decs := s.decs.filter (fun d => d.ctx != c + 1) }

/-- A command that has not committed and has not ended completes with a status; its unfinished reads of host memory are dropped (R170,
R210, R593). -/
def State.abortCtx (s : State) (c status : Nat) : State :=
  let x := s.ctx c
  if x.uncommitted then (s.dropTags c).refuse c status
  else
    match x.phase with
    | .ordered | .snapshot | .moving | .executing | .committing => (((s.dropTags c).dropDecs c).undoAdmin c).endCtx c status
    | _ => s

/-- A context ends without a completion (R44, R212): an uncommitted write is adopted or discarded (R210), the spans are given back. -/
def State.dropCtx (s : State) (c : Nat) : State :=
  let x := s.ctx c
  let s1 := if x.uncommitted then s.adopt x.osn else s
  let s2 := if x.committed then s1 else s1.undoAdmin c
  let s3 := if x.spans then s2.thiGiveSpans x.spansOf else s2
  let s4 := if s3.bst.activator = c + 1 then { s3 with bst := { s3.bst with activator := 65537 } } else s3
  let s5 := if s4.ucode.loader = c + 1 then { s4 with ucode := { s4.ucode with loader := 0 } } else s4
  ((s5.dropTags c).dropDecs c).freeCtx c

/-! ### The Reconcile log (R45 to R48, R105, R107) -/

/-- The event of R48 is posted at the first moment an entry is readable and an admin ring that can read it is served (R105). -/
def State.postRecon (s : State) : State :=
  s.fns.foldl (fun s f =>
    if s.hasRecon f && !(s.ep f).reconPosted then
      let o := 1 - f
      let dst := if s.adminUp f then some f else if s.hasFn o && s.adminUp o then some o else none
      match dst with
      | some g => (s.setEp f { s.ep f with reconPosted := true }).postAsync g 2 s.recon.length
      | none => s
    else s) s

/-- Releases the Reconcile and Lost-stripe entries of a GET_LOG (R106, R177). -/
def State.releaseLog (s : State) (page : Nat) (seqs : List Nat) : State :=
  if page = 0x0C then
    let s1 : State := { s with recon := s.recon.filter (fun r => !seqs.contains r.seq) }
    [0, 1].foldl (fun s f => if s.recon.any (fun r => r.fn == f) || !(s.ep f).reconPosted then s
      else s.setEp f { s.ep f with reconPosted := false }) s1
  else if page = 0x0A then { s with lost := s.lost.filter (fun l => !seqs.contains l.seq) }
  else s

/-- Inserts a context into a list in fetch order. -/
def insertOrder (e : Nat × Ctx) : List (Nat × Ctx) → List (Nat × Ctx)
  | [] => [e]
  | f :: t => if e.2.order < f.2.order then e :: f :: t else f :: insertOrder e t

/-- The trigger moment of a reset for some functions (R45, R46, R107): one entry for each committed command whose completion has not been
posted, in fetch order; then every context of the functions ends. -/
def State.trigger (s : State) (fs : List Nat) (cause : Cause) : State :=
  let mine := s.live.filter (fun e => fs.contains e.2.fn)
  let done := (mine.filter (fun e => e.2.committed)).foldl (fun l e => insertOrder e l) []
  let s1 := done.foldl (fun s e =>
    let x := e.2
    { s with recon := s.recon ++ [{ fn := x.fn, posted := decide (x.phase = .sent), ring := x.ring, cid := x.cid, opc := pkOpc x.pkt,
                                    cause := cause, status := x.status, result := x.result, seq := s.reconSeq + 1 }],
             reconSeq := s.reconSeq + 1 }) s
  let s2 := done.foldl (fun s e => s.setEp e.2.fn { s.ep e.2.fn with reconPosted := false }) s1
  mine.foldl (fun s e => s.dropCtx e.1) s2

/-! ### Rings that stop (R152, R170) -/

/-- SQ entries that are not fetched. -/
def Ring.unfetched (r : Ring) : Nat := if r.sqSize = 0 then 0 else (r.sqTail + r.sqSize - r.sqHead) % r.sqSize

/-- The fetch that is outstanding for a ring is dropped: its tag stays in use without a command. -/
def State.dropFetch (s : State) (f n : Nat) : State :=
  { s with tags := s.tags.map (fun e => (e.1, match e.2 with
      | .fetch m i k t => if e.1 / 16384 = f ∧ m = n then .list 65536 t else .fetch m i k t
      | u => u)) }

/-- The RING_RESET or RING_DELETE that waits for a ring, by its context plus one, is done. -/
def State.endStop (s : State) (w : Nat) (result : Nat := 0) : State :=
  let x := s.ctx (w - 1)
  if w ≠ 0 ∧ x.phase = .executing ∧ (x.is .ringDelete || x.is .ringReset) = true then s.endOk (w - 1) result else s

/-- The end of a ring reset or deletion, once every completion of the ring has been written (R152, R170). -/
def State.finishRing (s : State) (f n : Nat) : State :=
  let r := s.ring f n
  if r.st = .resetting ∧ r.inflight = 0 then
    if n = 0 then
      let s1 := (s.setRing f 0 {}).setEp f { s.ep f with disabling := false, asyncSlot := [] }
      (s1.wr Reg.HIF_ADM_CTRL.READY 0 0 f).wr Reg.HIF_ADM_CTRL.ENABLE 0 0 f
    else if r.deleting then (s.setRing f n {}).endStop r.waiter
    else
      (s.setRing f n { r with st := .active, sqHead := 0, sqTail := 0, asked := 0, waiter := 0, discarded := 0 }).endStop r.waiter r.discarded
  else s

/-- Steps 1 to 3 of R170 on a ring: fetching stops, unfetched entries are discarded, uncommitted commands complete with ABORTED_RESET. -/
def State.stopRing (s : State) (f n waiter : Nat) (deleting : Bool) : State :=
  let r := s.ring f n
  let s1 := (s.setRing f n { r with st := .resetting, waiter := waiter, deleting := deleting, discarded := r.unfetched, asked := 0 }).dropFetch f n
  let mine := (s1.live.filter (fun e => e.2.fn == f && e.2.ring == n)).map (·.1)
  (mine.foldl (fun s c => s.abortCtx c stAbortedReset) s1).finishRing f n

/-! ### Failed requests (R134, R136, R160) -/

/-- A submission fetch fails (R160): the ring goes to Error; reason 1 timeout, 2 Unsupported Request or Completer Abort, 3 poisoned. -/
def State.fetchFailed (s : State) (f n reason : Nat) : State :=
  let r := s.ring f n
  let s1 := s.setRing f n { r with st := if r.st = .active then .error else r.st, asked := 0 }
  let s2 := ((s1.wr Reg.HIF_FETCH_ERR.RING n 0 f).wr Reg.HIF_FETCH_ERR.REASON reason 0 f).wr Reg.HIF_FETCH_ERR.VALID 1 0 f
  (s2.event 0x10 0x0004 (n + reason * 2 ^ 16) f).async f 8 n

/-- The request of a tag has failed: its submission fetch fails, or its command with TRANSFER_ERROR (R134, R593). -/
def State.requestFailed (s : State) (f t reason : Nat) : State :=
  match s.tag f t with
  | .fetch n _ _ _ => s.fetchFailed f n reason
  | .data c _ _ | .list c _ => if c < 65536 then s.abortCtx c stTransfer else s
  | .idle | .quarantined _ => s

end Sys2Proof.Machine
end

