-- ==== Sys2Proof/Machine/Io.lean ====
section
/-! DEFINITION. Fetching, doorbells, outbound reads, the I/O commands and completion entries (R133 to R136, R152 to R160, R184, R185,
R194 to R211, R356, R591, R593). -/

set_option Elab.async false

namespace Sys2Proof.Machine

/-! ### Fetch arbitration (R157, R158, R591) -/

/-- Fetching is allowed at all: full service of the power state, no activation or takeover, no back-pressure of the pool (R157, R214,
R469, R591). -/
def State.mayFetch (s : State) (f : Nat) : Bool :=
  s.canSend f && s.pphase == 0 && decide (s.pstate < 2) && !s.fetchHeld && s.pool.press == 0

/-- Contexts that no outstanding fetch has a claim on. -/
def State.ctxSpare (s : State) : Nat := s.ctxFree - (s.rings.map (fun e => e.2.asked)).foldl (· + ·) 0

/-- How many entries of a ring one read may fetch: up to eight, to the tail, to the ring's end, as completion slots and contexts allow
(R157, R158). -/
def State.fetchRoom (s : State) (f n : Nat) : Nat :=
  let r := s.ring f n
  let cq := r.cqSize - (if n = 0 then 11 else 1) - (r.inflight + r.unreleased)
  min (min (min 8 r.unfetched) (r.sqSize - r.sqHead)) (min cq s.ctxSpare)

/-- The ring may be fetched now: Active, no fetch outstanding, admin service or I/O service on (R47, R152, R157, R557). -/
def State.fetchable (s : State) (f n : Nat) : Bool :=
  let r := s.ring f n
  decide (r.st = .active) && r.asked == 0 && s.mayFetch f && decide (0 < s.fetchRoom f n)
    && (if n = 0 then s.adminUp f else !s.hasRecon f && !s.stopping)

/-- The weight of a priority in entries of one turn (R158). -/
def Ring.turn (r : Ring) : Nat := 8 * 2 ^ r.prio

/-- The I/O rings that may be fetched, by key. -/
def State.fetchRings (s : State) : List Nat :=
  (s.rings.filter (fun e => e.1 % 1024 != 0 && s.fetchable (e.1 / 1024) (e.1 % 1024))).map (·.1)

/-- The ring that wins: an admin ring first, then the I/O ring whose turn lasts, else the next one in order; with what is left of its
turn before the fetch (R158). -/
def State.fetchWinner (s : State) : Option (Nat × Nat × Nat) :=
  match s.fns.find? (fun f => s.fetchable f 0) with
  | some f => some (f, 0, 8)
  | none =>
    let l := s.fetchRings
    if decide (0 < s.rrLeft) && l.contains s.rrLast then some (s.rrLast / 1024, s.rrLast % 1024, s.rrLeft)
    else
      match (l.find? (fun k => decide (s.rrLast < k))).or l.head? with
      | some k => some (k / 1024, k % 1024, (s.ring (k / 1024) (k % 1024)).turn)
      | none => none

/-- FETCH_ISSUE (R157, R158): the winner's entries are read with the tag, when it is free on the winner's port. -/
def execFetchIssue (tag : Tag) (s : State) : Host.Outcome State Fault Refusal :=
  match s.fetchWinner with
  | some (f, n, left) =>
    if s.tagFree f tag.val then
      let r := s.ring f n
      let k := min left (s.fetchRoom f n)
      let s1 := s.setRing f n { r with asked := k }
      let s2 : State := if n = 0 then s1 else { s1 with rrLast := ringKey f n, rrLeft := left - k }
      ok ((s2.setTag f tag.val (.fetch n r.sqHead k (s.frame + s.timeoutFrames f))).emit (.readReq f tag.val (r.sqBase + 64 * r.sqHead) (64 * k)))
    else ok s
  | none => ok s

/-- FETCH_COMPLETE (R156, R175, R190): the entries asked for enter contexts in order. -/
def execFetchComplete (fn : Fn) (tag : Tag) (packets : List Packet) (s : State) : Host.Outcome State Fault Refusal :=
  let f := fn.val
  match s.tag f tag.val with
  | .fetch n start k _ =>
    let r := s.ring f n
    if s.serving && decide (packets.length = k) && decide (r.st = .active) && r.sqHead == start then
      ok (packets.foldl (fun s p => s.enter f n p) ((s.setTag f tag.val .idle).setRing f n { r with asked := 0 }))
    else ok s
  | _ => ok s

/-! ### Doorbells (R122, R154, R155, R185, R214) -/

/-- A refused doorbell: event 0x0003 and RING_ERROR (R155). -/
def State.doorbellRefused (s : State) (f n value : Nat) : State :=
  (s.event 0x10 0x0003 (n + value % 65536 * 65536) f).async f 9 n

/-- The distance from an index to a later one of a ring. -/
def ringGap (size old new : Nat) : Nat := if size = 0 then 0 else (new + size - old) % size

/-- SQ_TAIL_DOORBELL (R122, R154, R155, R214). -/
def execSqTailDoorbell (fn : Fn) (ring : RingNo) (value : Word) (s : State) : Host.Outcome State Fault Refusal :=
  let f := fn.val
  let n := ring.val
  let v := value.toNat
  if s.reachable f then
    let s1 := s.wakeTlp f
    let r := s1.ring f n
    if r.st = .absent then ok (s1.event 0x10 0x0003 (n + v % 65536 * 65536) f)
    else if r.sqSize ≤ v ∨ r.st = .resetting ∨ ringGap r.sqSize r.sqHead v < r.unfetched then ok (s1.doorbellRefused f n v)
    else ok (s1.setRing f n { r with sqTail := v })
  else ok s

/-- The cause of a vector is consumed: the CQ of every ring on it is released to its tail (R185). -/
def State.consumed (s : State) (f v : Nat) : Bool :=
  s.rings.all (fun e => !(e.1 / 1024 == f && e.2.exists_ && e.2.vector == v) || e.2.cqHead == e.2.cqTail)

/-- The event types whose CQ slots lie in a released part of the admin CQ give up their slots (R183). -/
def State.releaseAsync (s : State) (f size old n : Nat) : State :=
  s.setEp f { s.ep f with asyncSlot := (s.ep f).asyncSlot.filter (fun e => !decide (ringGap size old (e.2 - 1) < n)) }

/-- CQ_HEAD_DOORBELL (R122, R154, R155, R183, R185). -/
def execCqHeadDoorbell (fn : Fn) (ring : RingNo) (value : Word) (s : State) : Host.Outcome State Fault Refusal :=
  let f := fn.val
  let n := ring.val
  let v := value.toNat
  if s.reachable f then
    let s1 := s.wakeTlp f
    let r := s1.ring f n
    if r.st = .absent then ok (s1.event 0x10 0x0003 (n + v % 65536 * 65536) f)
    else if r.cqSize ≤ v ∨ r.unreleased < ringGap r.cqSize r.cqHead v then ok (s1.doorbellRefused f n v)
    else
      let s2 := s1.setRing f n { r with cqHead := v }
      let s3 := if n = 0 then s2.releaseAsync f r.cqSize r.cqHead (ringGap r.cqSize r.cqHead v) else s2
      if s3.consumed f r.vector then ok (s3.setVec f r.vector { s3.vec f r.vector with pend := false }) else ok s3
  else ok s

/-- COALESCE_TIMER (R184): AGG_TIME frames have passed since the ring's first completion that is not signalled. -/
def execCoalesceTimer (fn : Fn) (ring : RingNo) (s : State) : Host.Outcome State Fault Refusal :=
  let f := fn.val
  let r := s.ring f ring.val
  if s.canSend f && ring.val != 0 && r.exists_ && r.unsig != 0 && r.aggTime != 0 && decide (r.unsigAt + r.aggTime ≤ s.frame) then
    ok (s.signal f r.vector)
  else ok s

/-! ### The admin ring (R152) -/

/-- The values of the admin ring registers obey R151. -/
def State.adminOk (s : State) (f : Nat) : Bool :=
  let sq := s.rd Reg.HIF_ADM_SIZE.SQ_SIZE 0 f
  let cq := s.rd Reg.HIF_ADM_SIZE.CQ_SIZE 0 f
  s.rd Reg.HIF_ADM_SQ_BASE.ADDR 0 f % 4096 == 0 && s.rd Reg.HIF_ADM_CQ_BASE.ADDR 0 f % 4096 == 0
    && decide (2 ≤ sq ∧ sq ≤ 4096) && decide (sq + 16 ≤ cq ∧ cq ≤ 4112)

/-- Admin service runs: Grind step 3 has ended, or the recovery path serves (R152, R517). -/
def State.adminServes (s : State) : Bool := decide (4 ≤ s.boot.step) || s.boot.recovery

/-- ADMIN_ENABLE (R152, R105): the admin ring is created, or CFG_ERR is set. -/
def execAdminEnable (fn : Fn) (s : State) : Host.Outcome State Fault Refusal :=
  let f := fn.val
  if s.reachable f && !s.on Reg.HIF_ADM_CTRL.ENABLE 0 f then
    let s0 := s.wakeTlp f
    if s0.adminOk f then
      let r : Ring := { st := .active, sqBase := s0.rd Reg.HIF_ADM_SQ_BASE.ADDR 0 f, cqBase := s0.rd Reg.HIF_ADM_CQ_BASE.ADDR 0 f,
                        sqSize := s0.rd Reg.HIF_ADM_SIZE.SQ_SIZE 0 f, cqSize := s0.rd Reg.HIF_ADM_SIZE.CQ_SIZE 0 f, phase := true }
      let s1 := (s0.setRing f 0 r).wr Reg.HIF_ADM_CTRL.ENABLE 1 0 f
      ok ((s1.wr Reg.HIF_ADM_CTRL.READY (bit s1.adminServes) 0 f).postRecon)
    else ok (s0.wr Reg.HIF_ADM_CTRL.CFG_ERR 1 0 f)
  else ok s

/-- An I/O ring of the function exists. -/
def State.ioRings (s : State) (f : Nat) : Bool := s.rings.any (fun e => e.1 / 1024 == f && e.1 % 1024 != 0 && e.2.exists_)

/-- ADMIN_DISABLE (R152): refused while I/O rings exist; else the admin ring stops, and goes once its completions are written. -/
def execAdminDisable (fn : Fn) (s : State) : Host.Outcome State Fault Refusal :=
  let f := fn.val
  if s.reachable f && s.on Reg.HIF_ADM_CTRL.ENABLE 0 f && !(s.ep f).disabling then
    let s0 := s.wakeTlp f
    if s0.ioRings f then ok (s0.regEvent 0x100114 f)
    else ok ((s0.setEp f { s0.ep f with disabling := true }).stopRing f 0 0 true)
  else ok s

/-! ### Outbound reads (R133 to R136, R593) -/

/-- An Unexpected Completion (R135). -/
def State.unexpected (s : State) (f t : Nat) : State :=
  (((s.aer f 16).wr Reg.HIF_EP_EVENT.LATE_CPL 1 0 f).bump Reg.HIF_EP_CNT.LATE 1 0 f).event 0x10 0x0005 t f

/-- The IUs of a context with their masks. -/
def Ctx.masks (x : Ctx) : List (Nat × Nat) := (iusOf x.slba x.nblk).map (fun i => (i, iuMask x.slba x.nblk i))

/-- A block of a landing write has arrived: it is sealed under its reserved counter and held in its version (R500). -/
def State.blockArrives (s : State) (c b : Nat) (data : Block) : State :=
  let x := s.ctx c
  let lba := x.slba + b
  if x.is .write ∧ x.phase = .landing ∧ b < x.nblk then
    let z := Stored.block (s.seal lba (x.ivs.getD b (0, 0, 0)) data)
    (s.mapVersions (fun v => if v.osn = x.osn ∧ v.iu = iuOf lba then { v with data := v.data ++ [(lba % 4, z)] } else v)).setCtx c
      { x with received := setBit x.received b }
  else s

/-- A page list or descriptor list has been read (R162, R163, R593). -/
def State.listArrives (s : State) (c : Nat) (l : List Piece) : State :=
  let x := s.ctx c
  match applyList x.walk x.pkt (s.moveLen x.pkt) l with
  | some w => s.setCtx c { x with walk := w }
  | none => s.abortCtx c stField

/-- The request of a tag ended with a completion status or poison (R136): kind 1 Unsupported Request, 2 Completer Abort, 3 poisoned. -/
def State.badCompletion (s : State) (f t kind : Nat) : State :=
  let s1 := s.requestFailed f t (if kind = 3 then 3 else 2)
  let s2 := (s1.setTag f t .idle).wr (if kind = 3 then Reg.HIF_EP_EVENT.POISONED else Reg.HIF_EP_EVENT.CPL_TIMEOUT) 1 0 f
  (s2.aer f (if kind = 3 then 12 else if kind = 2 then 15 else 20)).event 0x10 0x000A (t + kind * 2 ^ 16) f

/-- COMPLETION_TLP (R135, R136, R593): a completion for a tag: its data is used, an error fails the request, and one without a request is
unexpected. The entries of a submission fetch arrive as FETCH_COMPLETE. -/
def execCompletionTlp (fn : Fn) (tag : Tag) (cpl : Cpl) (s : State) : Host.Outcome State Fault Refusal :=
  let f := fn.val
  let t := tag.val
  if s.serving && s.hasFn f && s.linkUp f then
    match s.tag f t, cpl with
    | .idle, _ => ok (s.unexpected f t)
    | .quarantined _, _ => ok (s.unexpected f t)
    | _, .unsupported => ok (s.badCompletion f t 1)
    | _, .abort => ok (s.badCompletion f t 2)
    | _, .poisoned => ok (s.badCompletion f t 3)
    | .data c b _, .data d => ok ((s.setTag f t .idle).blockArrives c b d)
    | .list c _, .list l =>
      if c = 65536 then ok (s.setTag f t .idle)
      else if l.length = (s.ctx c).walk.count then ok ((s.setTag f t .idle).listArrives c l)
      else ok s
    | .list c _, .data _ => if c = 65536 then ok (s.setTag f t .idle) else ok s
    | _, _ => ok s
  else ok s

/-- The deadline frame of a tag's request. -/
def TagUse.deadline : TagUse → Option Nat
  | .fetch _ _ _ d | .data _ _ d | .list _ d => some d
  | .idle | .quarantined _ => none

/-- COMPLETION_TIMEOUT (R134): the timer of a tag has expired: AER, the register, the event, the failed request, the quarantine. -/
def execCompletionTimeout (fn : Fn) (tag : Tag) (s : State) : Host.Outcome State Fault Refusal :=
  let f := fn.val
  let t := tag.val
  match (s.tag f t).deadline with
  | some d =>
    if s.serving && decide (d ≤ s.frame) then
      let s1 := (s.requestFailed f t 1).setTag f t (.quarantined (s.frame + 100000))
      let s2 := ((s1.aer f 14).wr Reg.HIF_EP_EVENT.CPL_TIMEOUT 1 0 f).bump Reg.HIF_EP_CNT.TIMEOUTS 1 0 f
      ok (s2.event 0x10 0x0008 t f)
    else ok s
  | none => ok s

/-- TAG_QUARANTINE_END (R135): 1 s after its timeout the tag is free. -/
def execTagQuarantineEnd (fn : Fn) (tag : Tag) (s : State) : Host.Outcome State Fault Refusal :=
  match s.tag fn.val tag.val with
  | .quarantined t => if t ≤ s.frame then ok (s.setTag fn.val tag.val .idle) else ok s
  | _ => ok s

/-! ### Span entries (R198) -/

/-- The command takes its span entries, or waits; a wait is counted once (R198). -/
def State.takeSpans (s : State) (c : Nat) : Bool × State :=
  let x := s.ctx c
  if x.spans then (true, s)
  else
    let s1 := s.freeClean x
    let s2 := if s1.thiSpanRoom x.spansOf then s1 else s1.thiSpanSweep
    if s2.spansFree x && s2.thiSpanRoom x.spansOf then (true, (s2.thiTakeSpans x.spansOf).setCtx c { x with spans := true })
    else if x.spanWait then (false, s2)
    else (false, ((s2.setCtx c { x with spanWait := true }).wr Reg.WBF_EVT.SPAN_FULL 1).event 0x13 0x0100 s2.wbfSpans)

/-! ### Writes (R194, R356) -/

/-- Every reserved counter of the blocks lies below its durable mark (R502). -/
def State.marksHold (s : State) (parts : List (Nat × Nat)) (ivs : List (Nat × Nat × Nat)) : Bool :=
  let lbas := parts.flatMap (fun p => (List.range p.2).map (fun i => p.1 + i))
  (lbas.zip ivs).all (fun e => s.belowMark e.1 e.2)

/-- A landing WRITE asks for its next block, or for the list that says where it lies (R133, R162, R163). -/
def State.writeReads (s : State) (c t : Nat) : State :=
  let x := s.ctx c
  if s.canSend x.fn && s.tagFree x.fn t && decide (x.blk < x.nblk) then
    if x.walk.covers (4096 * (x.blk + 1)) then (s.readBlock c t x.blk).setCtx c { x with blk := x.blk + 1 }
    else if x.walk.next.isSome && !s.listPending x.fn c then s.readList c t
    else s
  else s

/-- WRITE (R194, R196, R201): an admitted WRITE enters Landing with its versions allocated; a landing one reads its next block from the
host (DEDUCED: log entry 46). -/
def execHostWrite (ctx : CtxNo) (tag : Tag) (s : State) : Host.Outcome State Fault Refusal :=
  let c := ctx.val
  let x := s.ctx c
  if s.attends && x.is .write then
    match x.phase with
    | .ordered =>
      if s.admits x && s.marksHold [(x.slba, x.nblk)] x.ivs then
        match s.takeSpans c with
        | (true, s1) =>
          ok ((s1.allocate x.osn (x.masks.map (fun e => (e.1, e.2, [])))).setCtx c { s1.ctx c with phase := .landing })
        | (false, s1) => ok s1
      else ok s
    | .landing => ok (s.writeReads c tag.val)
    | _ => ok s
  else ok s

/-- The end versions of a TRIM or WRITE_ZEROES: sealed zero blocks (R356). -/
def State.endVersions (s : State) (x : Ctx) : List (Nat × Nat × List (Nat × Stored)) :=
  let parts := match pkOp x.pkt with
    | some o => sealedParts x.pkt o
    | none => []
  let lbas := parts.flatMap (fun p => (List.range p.2).map (fun i => p.1 + i))
  let blocks := (lbas.zip x.ivs).map (fun e => (e.1, Stored.block (s.seal e.1 e.2 0)))
  (endIus x.slba x.nblk).map (fun i =>
    (i, iuMask x.slba x.nblk i, (blocks.filter (fun b => iuOf b.1 == i)).map (fun b => (b.1 % 4, b.2))))

/-- A TRIM or WRITE_ZEROES lands: its end versions, its range entry and its RANGE record (R194, R356, R480). -/
def State.landRange (s : State) (c : Nat) (zeroes : Bool) : State :=
  let x := s.ctx c
  let w := wholeIus x.slba x.nblk
  let parts := match pkOp x.pkt with
    | some o => sealedParts x.pkt o
    | none => []
  if s.admits x && s.marksHold parts x.ivs && (w.2 == 0 || (s.rangeSlot.isSome && s.thiRangeRoom w.1 w.2)) then
    match s.takeSpans c with
    | (true, s1) =>
      let s2 := s1.allocate x.osn (s1.endVersions x)
      let s3 := if w.2 = 0 then s2
        else (s2.addRange { osn := x.osn, zeroes := zeroes, firstIu := w.1, count := w.2, st := .landing }).record (.range zeroes w.1 w.2 x.osn)
      s3.setCtx c { s3.ctx c with phase := .landing }
    | (false, s1) => s1
  else s

/-- TRIM (R356). -/
def execTrim (ctx : CtxNo) (s : State) : Host.Outcome State Fault Refusal :=
  let x := s.ctx ctx.val
  if s.attends && x.is .trim && decide (x.phase = .ordered) then ok (s.landRange ctx.val false) else ok s

/-- WRITE_ZEROES (R356). -/
def execWriteZeroes (ctx : CtxNo) (s : State) : Host.Outcome State Fault Refusal :=
  let x := s.ctx ctx.val
  if s.attends && x.is .writeZeroes && decide (x.phase = .ordered) then ok (s.landRange ctx.val true) else ok s

/-- MIRROR_WRITE_DONE (R194, R196): both copies of a block of a landing write are written; `blk` is its offset from SLBA. -/
def execMirrorWriteDone (ctx : CtxNo) (blk : Nat) (s : State) : Host.Outcome State Fault Refusal :=
  let x := s.ctx ctx.val
  let lba := x.slba + blk
  if s.serving && x.isWrite && decide (x.phase = .landing) then
    ok (s.mapVersions (fun v =>
      if v.osn = x.osn ∧ v.iu = iuOf lba ∧ v.data.any (fun e => e.1 == lba % 4) = true then { v with mirrored := setBit v.mirrored (lba % 4) } else v))
  else ok s

/-- GROUP_WAIT_EXPIRY (R209, R210): a published GROUP write has waited GROUP_WAIT frames for its acknowledgements. -/
def execGroupWaitExpiry (ctx : CtxNo) (s : State) : Host.Outcome State Fault Refusal :=
  let c := ctx.val
  let x := s.ctx c
  if s.attends && x.isWrite && decide (x.phase = .published) && s.groupRing x && !s.groupAcked x
      && decide (x.pubAt + s.rd Reg.WBF_CFG.GROUP_WAIT ≤ s.frame) then
    ok (((s.refuse c stGroupUnavailable).wr Reg.WBF_EVT.GROUP_EXPIRED 1).event 0x13 0x0101 (x.ring + x.fn * 2 ^ 16))
  else ok s

/-! ### Reads (R195, R204 to R206) -/

/-- The flash blocks a snapshot reads, without repeats. -/
def Ctx.flashBlocks (x : Ctx) : List Nat :=
  x.snap.foldl (fun l e => match e with
    | .media a => insertNat (adOfBlock a) l
    | _ => l) []

/-- A read takes or gives back its references in the block reference table (R360, R481): a miss needs no action. -/
def State.thiRefs (s : State) (l : List Nat) (up : Bool) : State :=
  l.foldl (fun s a => (s.thiSearchAdd 2 a (2 ^ 80 - 1) 0 0 (if up then 1 else -1)).2) s

/-- READ_SNAPSHOT (R192, R195, R204, R205): with its dependencies met and its span entries held, the read names the source of every block
and starts the reads of flash (DEDUCED: log entry 46). -/
def execReadSnapshot (ctx : CtxNo) (s : State) : Host.Outcome State Fault Refusal :=
  let c := ctx.val
  let x := s.ctx c
  if s.attends && x.isRead && decide (x.phase = .ordered) && s.maySnap x then
    match s.takeSpans c with
    | (true, s1) =>
      let snap := (List.range x.nblk).map (fun i => s1.sourceOf (x.slba + i) x.osn)
      let y := { s1.ctx c with phase := .snapshot, snap := snap, unwritten := snap.any (fun e => decide (e = .zero true)) }
      let s2 := (s1.setCtx c y).thiRefs y.flashBlocks true
      let s3 := snap.zipIdx.foldl (fun s e => match e.1 with
        | .media a => s.startDec a ((x.slba + e.2) % 4) (c + 1) e.2 .rd
        | _ => s) s2
      let used := snap.zipIdx.map (fun e => (e.1, iuOf (x.slba + e.2)))
      ok ((s3.mapVersions (fun v => if used.any (fun (e : Source × Nat) => decide (e.1 = .version v.osn) && decide (e.2 = v.iu)) then { v with used := s.frame } else v)).feedReads)
    | (false, s1) => ok s1
  else ok s

/-- What a read finds at a block of its range. -/
inductive Found where
  /-- Its flash codeword is still being read. -/
  | waits
  | data (b : Block)
  | bad (status : Nat)
  deriving DecidableEq, Repr

/-- A stored block opened for a read (R203, R206, R505, R506). -/
def State.openStored (s : State) (lba : Nat) : Stored → Found
  | .zero => .data 0
  | .lost => .bad stMedia
  | .block b => match s.unseal lba b with
    | some d => .data d
    | none => .bad stAuthFail

/-- Block `i` of a read's range, by its snapshot (R205, R206). -/
def State.foundAt (s : State) (x : Ctx) (i : Nat) : Found :=
  let lba := x.slba + i
  match x.snap.getD i (.zero true) with
  | .zero _ => .data 0
  | .version o =>
    match s.ftl.versions.find? (fun v => v.osn == o && v.iu == iuOf lba) with
    | some v => s.openStored lba (((v.data.find? (fun e => e.1 == lba % 4)).map (·.2)).getD .zero)
    | none => .data 0
  | .media a =>
    match x.bad.find? (fun e => e.1 == i) with
    | some e => .bad e.2
    | none => if x.ready.testBit i then s.openStored lba (s.codewordOf a (lba % 4)) else .waits

/-- The next block of a moving read: a READ's data goes to the host, a failure is kept with its block. -/
def State.moveNext (s : State) (c : Nat) (out : Bool) : State :=
  let x := s.ctx c
  let i := x.blk
  match s.foundAt x i with
  | .waits => s.setCtx c { x with phase := .moving }
  | .data b =>
    let s1 := s.setCtx c { x with phase := .moving, blk := i + 1 }
    if out then s1.moveOut c (4096 * i) 4096 b else s1
  | .bad st =>
    let kept := x.bad.any (fun e => e.1 == i)
    let s1 := s.setCtx c { x with phase := .moving, blk := i + 1, bad := if kept then x.bad else x.bad ++ [(i, st)] }
    if st = stAuthFail && !kept then s1.authFail (x.slba + i) else s1

/-- READ (R159, R195, R205, R206): the next block moves to the host, or the list that says where it goes is read. -/
def execHostRead (ctx : CtxNo) (tag : Tag) (s : State) : Host.Outcome State Fault Refusal :=
  let c := ctx.val
  let x := s.ctx c
  if s.attends && x.is .read && decide (x.phase = .snapshot ∨ x.phase = .moving) && s.canSend x.fn && decide (x.blk < x.nblk) then
    if x.walk.covers (4096 * (x.blk + 1)) then ok (s.moveNext c true)
    else if x.walk.next.isSome && !s.listPending x.fn c && s.tagFree x.fn tag.val then
      ok ((s.setCtx c { x with phase := .moving }).readList c tag.val)
    else ok s
  else ok s

/-- VERIFY (R206): the next block is resolved and checked; nothing moves, so no tag is used. -/
def execVerify (ctx : CtxNo) (_tag : Tag) (s : State) : Host.Outcome State Fault Refusal :=
  let c := ctx.val
  let x := s.ctx c
  if s.attends && x.is .verify && decide (x.phase = .snapshot ∨ x.phase = .moving) && decide (x.blk < x.nblk) then ok (s.moveNext c false)
  else ok s

/-- The first failing block of a read, by block. -/
def firstBad : List (Nat × Nat) → Option (Nat × Nat)
  | [] => none
  | e :: t => match firstBad t with
    | some f => if f.1 < e.1 then some f else some e
    | none => some e

/-- READ_DATA_DONE (R164, R167, R195): the last block is done: references are released and the completion is due. -/
def execReadDataDone (ctx : CtxNo) (s : State) : Host.Outcome State Fault Refusal :=
  let c := ctx.val
  let x := s.ctx c
  if s.attends && x.isRead && decide (x.phase = .moving) && decide (x.nblk ≤ x.blk) then
    let s1 := (s.dropDecs c).thiRefs x.flashBlocks false
    let s2 := if x.is .read then s1.count 0x020 8 x.nblk else s1
    let lost := (x.bad.filter (fun e => e.2 == stMedia || e.2 == 0x0021)).length
    let s3 := if lost = 0 then s2 else s2.count 0x060 8 lost
    match firstBad x.bad with
    | some e => ok (s3.setCtx c { x with phase := .finished, status := e.2, result := e.1 })
    | none => ok (s3.endOk c)
  else ok s

/-! ### FLUSH (R211) -/

/-- The FLUSH completes once the entry of every earlier write of its ring has been written. -/
def State.flushEnds (s : State) (c : Nat) : State :=
  let x := s.ctx c
  if s.attends && x.is .flush && decide (x.phase = .ordered) && s.mayFlush x then s.endOk c else s

/-- FLUSH (R211): it completes at once when no earlier write of its ring is without its entry, and waits otherwise. -/
def execFlush (ctx : CtxNo) (s : State) : Host.Outcome State Fault Refusal := ok (s.flushEnds ctx.val)

/-- FLUSH_COMPLETE (R211): the wait of a FLUSH has ended. -/
def execFlushComplete (ctx : CtxNo) (s : State) : Host.Outcome State Fault Refusal := ok (s.flushEnds ctx.val)

/-! ### Completions (R27, R164, R165, R184) -/

/-- A feature's register takes a value: its current value (R172). -/
def State.applyFeature (s : State) (fid v : Nat) (f : Nat) : State :=
  match fid with
  | 1 => s.wr Reg.FRM_BUDGET.CAP v
  | 2 => s.wr Reg.THM_CFG.SP v
  | 3 => s.wr Reg.MIN_PATROL_CFG.RATE v
  | 4 => s.wr Reg.FAN_CTRL.POLICY v
  | 5 => s.wr Reg.BPM_POLICY.POLICY v
  | 6 => { s with hostTime := v }.event 0x10 0x0009 v f
  | _ => s

/-- What follows from the writing of a completion entry: a feature that is not saved takes its value (R172). -/
def State.entryWritten (s : State) (x : Ctx) : State :=
  if x.is .setFeature && x.status == 0 && !(pkDw x.pkt 10).testBit 8 then s.applyFeature (pkBits x.pkt 10 0 8) (pkDw x.pkt 11) x.fn else s

/-- The completion is counted and signalled (R184): at once on the admin ring and for a status other than SUCCESS, else as coalescing
says. -/
def State.signalEntry (s : State) (f n status : Nat) : State :=
  let r := s.ring f n
  if n = 0 then s.signal f 0
  else if status ≠ 0 ∨ r.aggCount ≤ r.unsig then s.signal f r.vector
  else s.setRing f n { r with unsig := r.unsig + 1, unsigAt := if r.unsig = 0 then s.frame else r.unsigAt }

/-- CFLAGS of a completion but for the phase (R164). -/
def Ctx.cflags (x : Ctx) : Nat := if x.isRead then bit x.unwritten * 2 + bit x.rebuilt * 4 else 0

/-- A committed or finished command may have its entry written: an activation and a microcode load complete only after their swaps
(R213, R304, R519). -/
def State.entryDue (s : State) (c : Nat) : Bool :=
  (match (s.ctx c).phase with
    | .committed | .finished => true
    | _ => false) && s.bst.activator != c + 1 && s.ucode.loader != c + 1

/-- COMPLETION_WRITE (R164, R165, R184, R194): with a CQ slot free the entry is written and signalled; the last one of a stopping ring ends
the stop. -/
def execCompletionWrite (ctx : CtxNo) (s : State) : Host.Outcome State Fault Refusal :=
  let c := ctx.val
  let x := s.ctx c
  if s.attends && s.entryDue c && s.canSend x.fn && (s.ring x.fn x.ring).exists_ && (s.ring x.fn x.ring).cqRoom then
    let s1 := s.putCqe x.fn x.ring x.result x.cid x.status x.cflags
    let r := s1.ring x.fn x.ring
    let s2 := (s1.setRing x.fn x.ring { r with inflight := r.inflight - 1 }).setCtx c { x with phase := .sent }
    ok (((s2.entryWritten x).signalEntry x.fn x.ring x.status).finishRing x.fn x.ring)
  else ok s

/-- DLL_ACK (R27, R106, R177, R194): the entry is posted: the command is accepted, a releasing GET_LOG releases its entries, and the context
is free (DEDUCED: log entry 44). -/
def execDllAck (ctx : CtxNo) (s : State) : Host.Outcome State Fault Refusal :=
  let c := ctx.val
  let x := s.ctx c
  if s.sup.coreUp && decide (x.phase = .sent) && s.linkUp x.fn then
    let s1 := if x.spans then s.thiGiveSpans x.spansOf else s
    let s2 := if x.is .getLog && x.status == 0 then s1.releaseLog (pkBits x.pkt 10 0 8) x.release else s1
    ok ((s2.dropTags c).freeCtx c)
  else ok s

end Sys2Proof.Machine
end

