-- ==== Sys2Proof/Machine/Admin.lean ====
section
/-! DEFINITION. The admin commands (R25, R28, R33, R167 to R173, R176, R177, R271 to R274, R303, R378, R379, R395, R496 to R499, R514,
R518, R529). A command with a persistent effect ends in a journal record here; its effect follows when the record is durable
(Machine/Journal.lean). -/

set_option Elab.async false

namespace Sys2Proof.Machine

/-! ### Execution in order -/

/-- The context holds an admin command of the opcode that has passed its checks and not run. -/
def State.adminRuns (s : State) (c : Nat) (o : Opc) : Bool :=
  let x := s.ctx c
  s.attends && x.ring == 0 && decide (x.phase = .executing) && x.is o

/-- The context's command is an admin command with a persistent effect (R33). -/
def Ctx.persists (x : Ctx) : Bool := x.ring == 0 && pkPersistent x.pkt

/-- A persistent admin command may run: every earlier one of its ring has committed or ended, so that they commit in submission order
(R25), and no other one is being made durable. -/
def State.adminTurn (s : State) (c : Nat) : Bool :=
  let x := s.ctx c
  s.live.all (fun e => !e.2.persists
    || !((e.2.fn == x.fn && decide (e.2.order < x.order) && decide (e.2.phase = .executing ∨ e.2.phase = .committing))
         || decide (e.2.phase = .committing)))

/-- The record of a persistent command enters the batch being collected; the command commits when it is durable (R28). -/
def State.persist (s : State) (c : Nat) (a : AdminRec) (x : Ctx) : State :=
  (s.setCtx c { x with phase := .committing }).record (.admin a (c + 1))

/-- An earlier command of the same function of one of some opcodes has not run. -/
def State.earlierRuns (s : State) (c : Nat) (os : List Opc) : Bool :=
  let x := s.ctx c
  s.live.any (fun e => e.2.fn == x.fn && e.2.ring == 0 && decide (e.2.order < x.order) && decide (e.2.phase = .executing)
    && os.any (fun o => e.2.is o))

/-- Data of an admin command goes to the host once the walk names all of its memory; until then the next list is read with the lowest free
tag (R159, R162, R163). -/
def State.dataOut (s : State) (c : Nat) (bytes : List Nat) (result : Nat) : State :=
  let x := s.ctx c
  if !s.canSend x.fn then s
  else if x.walk.covers bytes.length then (s.moveBytes c bytes).endOk c result
  else if x.walk.next.isSome && !s.listPending x.fn c && s.tagFree x.fn (s.lowTag x.fn) then s.readList c (s.lowTag x.fn)
  else s

/-- What an admin command's data from the host leads to: the data, or the status of a failed transfer (R134, R593). -/
def moved {α : Type} (m : Moved α) : α ⊕ Nat :=
  match m with
  | .data a => .inl a
  | .failed => .inr stTransfer
  | .badList => .inr stField

/-! ### IDENTIFY, GET_LOG, GROUP_STATUS -/

/-- IDENTIFY (R173). -/
def execIdentify (ctx : CtxNo) (s : State) : Host.Outcome State Fault Refusal :=
  let c := ctx.val
  if s.adminRuns c .identify then ok (s.dataOut c ((List.range 4096).map (pageByte (s.identifyData (s.ctx c).fn))) 0) else ok s

/-- The bytes a GET_LOG returns: its snapshot, and the slot bytes of page 0x10 as they are now (R176, R515). -/
def State.logBytes (s : State) (x : Ctx) : List Nat :=
  let off := pkDw x.pkt 11
  let snap := bytesOf x.img
  if pkBits x.pkt 10 0 8 = 0x10 then
    snap.zipIdx.map (fun e => if 0x1000 ≤ off + e.2 ∧ off + e.2 < x.result then s.storeByte (off + e.2) else e.1)
  else snap

/-- GET_LOG (R176, R177, R515): the snapshot of its fetch moves to the host; RESULT is the page's length. -/
def execGetLog (ctx : CtxNo) (s : State) : Host.Outcome State Fault Refusal :=
  let c := ctx.val
  let x := s.ctx c
  if s.adminRuns c .getLog && !s.earlierRuns c [.getLog, .fwDownload] then ok (s.dataOut c (s.logBytes x) x.result) else ok s

/-- GROUP_STATUS (R395). -/
def execGroupStatus (ctx : CtxNo) (s : State) : Host.Outcome State Fault Refusal :=
  let c := ctx.val
  if s.adminRuns c .groupStatus then ok (s.dataOut c ((List.range 4096).map (pageByte s.groupData)) 0) else ok s

/-! ### Features (R172) -/

/-- SET_FEATURE (R172): an unsaved value takes effect when the completion entry is written; a saved one commits. -/
def execSetFeature (ctx : CtxNo) (s : State) : Host.Outcome State Fault Refusal :=
  let c := ctx.val
  let x := s.ctx c
  if s.adminRuns c .setFeature then
    if (pkDw x.pkt 10).testBit 8 then
      (if s.adminTurn c then ok (s.persist c (.feature (pkBits x.pkt 10 0 8) (pkDw x.pkt 11)) x) else ok s)
    else ok (s.endOk c)
  else ok s

/-- The current value of a feature: its register, or the host time (R172). -/
def State.featureNow (s : State) (fid : Nat) : Nat :=
  match fid with
  | 1 => s.rd Reg.FRM_BUDGET.CAP
  | 2 => s.rd Reg.THM_CFG.SP
  | 3 => s.rd Reg.MIN_PATROL_CFG.RATE
  | 4 => s.rd Reg.FAN_CTRL.POLICY
  | 5 => s.rd Reg.BPM_POLICY.POLICY
  | 6 => s.hostTime
  | _ => 0

/-- The default value of a feature (R172): the reset value of its register. -/
def featureDefault (fid : Nat) : Nat :=
  match fid with
  | 1 => Reg.FRM_BUDGET.CAP.reset 0
  | 2 => Reg.THM_CFG.SP.reset 0
  | 3 => Reg.MIN_PATROL_CFG.RATE.reset 0
  | 4 => Reg.FAN_CTRL.POLICY.reset 0
  | 5 => Reg.BPM_POLICY.POLICY.reset 0
  | _ => 0

/-- The value GET_FEATURE selects: 0 current, 1 saved, 2 default (R168, R172). -/
def State.featureValue (s : State) (fid sel : Nat) : Nat :=
  if sel = 0 then s.featureNow fid
  else if sel = 1 then (if Tbl.get 0 s.saved fid = 0 then featureDefault fid else Tbl.get 0 s.saved fid - 1)
  else featureDefault fid

/-- GET_FEATURE (R168, R172). -/
def execGetFeature (ctx : CtxNo) (s : State) : Host.Outcome State Fault Refusal :=
  let c := ctx.val
  let x := s.ctx c
  if s.adminRuns c .getFeature then ok (s.endOk c (s.featureValue (pkBits x.pkt 10 0 8) (pkBits x.pkt 10 8 2))) else ok s

/-! ### Rings (R169, R170) -/

/-- RING_CREATE (R150, R153, R169): the ring pair becomes Active with its scope, priority, vector and coalescing. -/
def execRingCreate (ctx : CtxNo) (s : State) : Host.Outcome State Fault Refusal :=
  let c := ctx.val
  let x := s.ctx c
  let n := pkBits x.pkt 10 0 10
  if s.adminRuns c .ringCreate then
    if (s.ring x.fn n).exists_ then ok (s.endCtx c stRing)
    else
      let r : Ring := { st := .active, sqBase := pkDptr1 x.pkt, cqBase := pkDptr2 x.pkt, sqSize := pkBits x.pkt 8 0 17,
                        cqSize := pkBits x.pkt 9 0 17, phase := true, group := (pkDw x.pkt 10).testBit 10, prio := pkBits x.pkt 10 11 2,
                        vector := pkBits x.pkt 10 16 11, aggCount := pkBits x.pkt 11 0 8, aggTime := pkBits x.pkt 11 8 8 }
      ok ((s.setRing x.fn n r).endOk c)
  else ok s

/-- A RING_RESET or RING_DELETE acts on its ring: one that does not exist is refused, one that another command is stopping is waited for. -/
def State.ringStop (s : State) (c : Nat) (deleting : Bool) : State :=
  let x := s.ctx c
  let n := pkBits x.pkt 10 0 10
  match (s.ring x.fn n).st with
  | .absent => s.endCtx c stRing
  | .resetting => s
  | .active | .error => s.stopRing x.fn n (c + 1) deleting

/-- RING_DELETE (R170). -/
def execRingDelete (ctx : CtxNo) (s : State) : Host.Outcome State Fault Refusal :=
  if s.adminRuns ctx.val .ringDelete then ok (s.ringStop ctx.val true) else ok s

/-- RING_RESET (R170). -/
def execRingReset (ctx : CtxNo) (s : State) : Host.Outcome State Fault Refusal :=
  if s.adminRuns ctx.val .ringReset then ok (s.ringStop ctx.val false) else ok s

/-! ### Power (R528, R529) -/

/-- POWER_STATE (R529): the function's request is recorded. -/
def execPowerState (ctx : CtxNo) (s : State) : Host.Outcome State Fault Refusal :=
  let c := ctx.val
  let x := s.ctx c
  if s.adminRuns c .powerState then
    ok ((s.setEp x.fn { s.ep x.fn with target := pkBits x.pkt 10 0 2 }).refreshTarget.endOk c)
  else ok s

/-! ### Firmware (R514, R518, R519) -/

/-- FW_DOWNLOAD may not program its units (R514). -/
def State.fwRefused (s : State) (p : Packet) : Bool :=
  let i := pkDw p 10
  let off := pkDw p 11
  let x := s.fwSlot i
  s.on Reg.BST_CTRL.LOCK || s.fwState i == 3
    || (off != 0 && (x.st != 1 || (List.range (pkDw p 12 / 4096)).any (fun k => x.written.testBit (off + k))))

/-- FW_DOWNLOAD (R514, R515): in submission order with the GET_LOGs of its function, the units are sent to the store. -/
def execFwDownload (ctx : CtxNo) (image : Moved (List Block)) (s : State) : Host.Outcome State Fault Refusal :=
  let c := ctx.val
  let p := (s.ctx c).pkt
  if s.adminRuns c .fwDownload && !s.earlierRuns c [.getLog, .fwDownload] then
    if s.fwRefused p then ok (s.endCtx c stSequence)
    else match moved image with
      | .inr st => ok (s.endCtx c st)
      | .inl l => if 4096 * l.length = pkDw p 12 then ok ((s.fwProgram (pkDw p 10) (pkDw p 11) l).endOk c) else ok s
  else ok s

/-- Only one FW_ACTIVATE or UCODE_LOAD runs at a time (R303, R518): the others have completed. -/
def State.soleLoad (s : State) (c : Nat) : Bool :=
  s.live.all (fun e => e.1 == c || !(e.2.ring == 0 && (e.2.is .fwActivate || e.2.is .ucodeLoad))
    || decide (e.2.phase = .finished ∨ e.2.phase = .sent) || (decide (e.2.phase = .executing) && decide ((s.ctx c).order < e.2.order))
    || (decide (e.2.phase = .committed) && s.entryDue e.1))

/-- The running image's context format suits the new image, and the slot may be activated (R518, first row). -/
def State.activatable (s : State) (i : Nat) : Bool :=
  let y := s.fwSlot i
  let own := (s.fwSlot s.bst.active).ctxOwn
  !s.on Reg.BST_CTRL.LOCK && s.fwState i == 2 && decide (s.bst.fusedSv ≤ y.sv) && decide (y.ctxMin ≤ own ∧ own ≤ y.ctxMax)

/-- The base Rinbo image of a slot passes the format checks of R303 (R513) (DEDUCED: log entry 53). -/
def FwSlot.baseOk (x : FwSlot) : Bool := (headerBad x.base (4 * x.base.length)).isNone && (wordsBad x.base).isNone

/-- FW_ACTIVATE (R518, R519): the checks in order; the activation record is then made durable. -/
def execFwActivate (ctx : CtxNo) (signatureOk : Bool) (s : State) : Host.Outcome State Fault Refusal :=
  let c := ctx.val
  let x := s.ctx c
  let i := pkDw x.pkt 10
  if s.adminRuns c .fwActivate && s.adminTurn c && s.soleLoad c then
    if !s.activatable i then ok (s.endCtx c stSequence)
    else
      let good := s.fwPasses i signatureOk && (s.fwSlot i).baseOk
      let s1 := s.setFw i { s.fwSlot i with check := if good then 1 else 2 }
      if !good then ok (s1.endCtx c stSignature)
      else if s.rd Reg.UCS_STATUS.SOURCE = 0 && !s.imgFits (s.fwSlot i).base s.lunIds then ok (s1.endCtx c stSequence)
      else ok (s1.persist c (.activate i) x)
  else ok s

/-! ### The TRIM of a realm (R356, R357, R496) -/

/-- The mapped IUs of a range become unmapped and its settled older versions clean. -/
def State.unmapRange (s : State) (iu n osn : Nat) : State :=
  let hit := (s.ftl.map.filter (fun e => decide (iu ≤ e.1 ∧ e.1 < iu + n))).map (·.1)
  (hit.foldl (fun s k => s.setMap k .unmapped) s).mapVersions (fun v =>
    if iu ≤ v.iu ∧ v.iu < iu + n ∧ v.osn < osn ∧ v.settled = true then { v with clean := true } else v)

/-- The device trims a range of its own accord, under an OSN of its own (R190, R496): committed zero versions for the end IUs, which no key
seals, and a committed range entry for the whole ones; without room in the range table the map is changed at once
(DESIGN CHOICE: log entry 51). -/
def State.trimOwn (s : State) (first n : Nat) : State :=
  let o := s.assignOsn
  let ends := endIus first n
  let spans := ends.map spanOfIu
  let w := wholeIus first n
  let s1 := o.2.allocate o.1 (ends.map (fun i =>
    let m := iuMask first n i
    (i, m, ((List.range 4).filter (fun b => m.testBit b)).map (fun b => (b, Stored.zero)))))
  let s2 := ((s1.thiTakeSpans spans).mapVersions (fun v => if v.osn = o.1 then { v with st := .committed, mirrored := v.mask } else v)).thiGiveSpans spans
  if w.2 = 0 then s2
  else match s2.rangeSlot with
    | some i =>
      if s2.thiRangeRoom w.1 w.2 then
        ((s2.addRange { osn := o.1, zeroes := false, firstIu := w.1, count := w.2, st := .committed }).thiRangeCommit i).record
          (.range false w.1 w.2 o.1)
      else s2.unmapRange w.1 w.2 o.1
    | none => s2.unmapRange w.1 w.2 o.1

/-! ### Keys (R496 to R499) -/

/-- FORMAT of a key record (R497). -/
def krFormat (r : BitVec 512) : Nat := bitsOf r.toNat 0 8
/-- AUTO_ROLL. -/
def krAuto (r : BitVec 512) : Bool := r.toNat.testBit 16
/-- EPOCH. -/
def krEpoch (r : BitVec 512) : Nat := bitsOf r.toNat 32 20
/-- The compressed point: the prefix byte, then the x-coordinate, 49 bytes with the prefix in the low byte. -/
def krPoint (r : BitVec 512) : BitVec 392 := BitVec.ofNat 392 (bitsOf r.toNat 120 392)

/-- The key record breaks R497 or names a point that is not on the curve (R498, first row). -/
def krBad (r : BitVec 512) (pointOk : Bool) : Bool :=
  let n := r.toNat
  let f := krFormat r
  let point := f == 3 || f == 4
  !decide (1 ≤ f ∧ f ≤ 4) || bitsOf n 8 8 != 0 || decide (1 < bitsOf n 16 8) || (point && bitsOf n 16 8 != 0) || bitsOf n 24 8 != 0
    || decide (2 ^ 20 ≤ bitsOf n 32 32) || krEpoch r == 0xFFFFF || (point && krEpoch r != 0) || bitsOf n 64 56 != 0
    || (if point then !(bitsOf n 120 8 == 2 || bitsOf n 120 8 == 3) || !pointOk else bitsOf n 120 8 != 0)
    || (f == 1 && bitsOf n 448 64 != 0) || (f == 2 && bitsOf n 128 384 != 0)

/-- The status of a KEY_LOAD under R498; none for SUCCESS. -/
def State.keyLoadStatus (s : State) (p : Packet) (r : BitVec 512) (pointOk : Bool) (unwrapped : Option (BitVec 256)) : Option Nat :=
  let k := pkBits p 10 0 12
  let first := pkField p 256 48
  let last := pkField p 352 48
  let f := krFormat r
  let point := f == 3 || f == 4
  let lba := first != 0 || last != 0
  if krBad r pointOk then some stField
  else if (point && (k != 0 || lba)) || (k == 0 && lba) then some stField
  else if !point && decide (s.ftl.capacity ≤ last) then some stLbaRange
  else if !point && (s.keySlot k).st != 0 then some stSequence
  else if !point && k != 0 && s.realmMeets first last then some stSequence
  else if f == 1 && s.sec.tk.isNone then some stSequence
  else if f == 4 && decide (4 ≤ s.sec.mcKeys.length) then some stSequence
  else if f == 1 && unwrapped.isNone then some stAuthFail
  else none

/-- The key of a record (R492, R494, R498): unwrapped, generated by the DRBG, or agreed with the host's point. -/
def State.recordKey (s : State) (r : BitVec 512) (unwrapped : Option (BitVec 256)) : BitVec 256 × State :=
  if krFormat r = 1 then (unwrapped.getD 0, s)
  else if krFormat r = 2 then (Config.drbg s.free, s.freeNext)
  else if krFormat r = 3 then (Config.transportKey (krPoint r), s)
  else (0, s)

/-- KEY_LOAD (R497, R498): the record is checked and its change made durable (DEDUCED: log entry 48). -/
def execKeyLoad (ctx : CtxNo) (rec : Moved (BitVec 512)) (pointOk : Bool) (unwrapped : Option (BitVec 256)) (s : State) :
    Host.Outcome State Fault Refusal :=
  let c := ctx.val
  let x := s.ctx c
  if s.adminRuns c .keyLoad && s.adminTurn c then
    match moved rec with
    | .inr st => ok (s.endCtx c st)
    | .inl r =>
      match s.keyLoadStatus x.pkt r pointOk unwrapped with
      | some st => ok (s.endCtx c st)
      | none =>
        let k := s.recordKey r unwrapped
        let a : AdminRec := if krFormat r = 3 then .transportKey else if krFormat r = 4 then .microcodeKey else .keySlot (pkBits x.pkt 10 0 12)
        ok (k.2.persist c a { x with key := k.1, page := r.setWidth 32768 })
  else ok s

/-- KEY_ROLL (R496, R499). -/
def execKeyRoll (ctx : CtxNo) (s : State) : Host.Outcome State Fault Refusal :=
  let c := ctx.val
  let x := s.ctx c
  let k := pkBits x.pkt 10 0 12
  if s.adminRuns c .keyRoll && s.adminTurn c then
    if (s.keySlot k).rollable then ok (s.persist c (.keySlot k) x) else ok (s.endCtx c stSequence)
  else ok s

/-- KEY_PURGE (R496, R499): the slot is PURGING from now on; a slot that is EMPTY or being purged refuses (DESIGN CHOICE: log entry 49). -/
def execKeyPurge (ctx : CtxNo) (s : State) : Host.Outcome State Fault Refusal :=
  let c := ctx.val
  let k := pkBits (s.ctx c).pkt 10 0 12
  let y := s.keySlot k
  if s.adminRuns c .keyPurge && y.purger != c + 1 then
    if y.st = 1 then ok (s.setKeySlot k { y with st := 2, purger := c + 1 }) else ok (s.endCtx c stSequence)
  else ok s

/-- A command that passed its checks in the realm of a slot has not been released (R496). -/
def State.realmBusy (s : State) (k : Nat) : Bool :=
  s.live.any (fun e => e.2.ring != 0 && e.2.osn != 0 && e.2.nblk != 0 && (s.slotsOf e.2.slba e.2.nblk).contains k)

/-- The slot whose purge may end: the lowest one in PURGING whose realm no command is left in. -/
def State.purgeable (s : State) : Option (Nat × KeySlot) :=
  s.sec.slots.find? (fun e => e.2.st == 2 && e.2.purger != 0 && decide ((s.ctx (e.2.purger - 1)).phase = .executing)
    && !s.realmBusy e.1 && s.adminTurn (e.2.purger - 1))

/-- KEY_PURGE_COMPLETE (R496): the realm's commands have been released; the purge's record is made durable. -/
def execKeyPurgeComplete (s : State) : Host.Outcome State Fault Refusal :=
  if s.serving then
    match s.purgeable with
    | some (k, y) => ok (s.persist (y.purger - 1) (.purge k) (s.ctx (y.purger - 1)))
    | none => ok s
  else ok s

/-- A block sealed in an epoch of a slot older than `t` is still held: by a page of the map, a version, or a command that reserved it. -/
def State.staleEpoch (s : State) (k t : Nat) : Bool :=
  let y := s.keySlot k
  let old (lba : Nat) (b : Stored) : Bool := match b with
    | .block z => s.slotOf lba == k && (match y.epochOf z.ivw with
        | some e => decide (e < t)
        | none => false)
    | .zero | .lost => false
  s.ftl.map.any (fun e => match e.2 with
      | .media a => (s.page a).blocks.zipIdx.any (fun b => old (4 * e.1 + b.2) b.1)
      | .unmapped | .zeroed => false)
    || s.ftl.versions.any (fun v => v.data.any (fun b => old (4 * v.iu + b.1) b.2))
    || s.live.any (fun e => e.2.ivs.any (fun i => i.1 == k && decide (i.2.1 < t)))

/-- KEY_SWEEP_END (R504): a sweep of a realm has rewritten every block of an older epoch; the oldest epoch becomes the target. -/
def execKeySweepEnd (s : State) : Host.Outcome State Fault Refusal :=
  if s.serving then
    match s.sec.slots.find? (fun e => e.2.sweep != 0 && !s.staleEpoch e.1 (e.2.sweep - 1)) with
    | some (k, y) =>
      ok (((s.setKeySlot k { y with oldest := max y.oldest (y.sweep - 1), sweep := 0 }).event 0x38 0x0104
        (k + max y.oldest (y.sweep - 1) * 2 ^ 12)))
    | none => ok s
  else ok s

/-! ### The group (R377 to R380) -/

/-- The offset of a member's entry in a join record (R377). -/
def jrEntry (j : Nat) : Nat := 0x080 + 32 * j
/-- The members a join record lists. -/
def jrListed (r : Block) : List Nat := (List.range 24).filter (fun j => blockField r (jrEntry j) 1 == 1)
/-- GKEY of a join record. -/
def jrKey (r : Block) : BitVec 512 := BitVec.ofNat 512 (blockField r 0x010 64)

/-- The join record breaks R377 for the GROUP and MEMBER of DW10 (R378, first row). -/
def jrBad (r : Block) (group member : Nat) : Bool :=
  let n := blockField r 0x003 1
  blockField r 0 2 != group || blockField r 2 1 != member || !decide (6 ≤ n ∧ n ≤ 24) || n != (jrListed r).length
    || !(jrListed r).contains member || blockField r 0x004 12 != 0 || blockField r 0x050 48 != 0 || blockField r 0x380 3200 != 0
    || (List.range 24).any (fun j =>
      let o := jrEntry j
      decide (1 < blockField r o 1) || blockField r (o + 1) 1 != 0 || blockField r (o + 4) 4 != 0 || blockField r (o + 0x11) 15 != 0
        || (blockField r o 1 == 1 && !decide (30 ≤ blockField r (o + 0x10) 1 ∧ blockField r (o + 0x10) 1 ≤ 36)))

/-- The BAR4 base of a function. -/
def State.bar4Base (s : State) (f : Nat) : Nat := s.cfgRaw f 0x20 / 16 * 16 + s.cfgRaw f 0x24 * 2 ^ 32

/-- GKEY unwraps: a FORMAT 0x01, KIND 0x01 record under a transport key (R377, R378, R497). -/
def State.groupKeyOk (s : State) (r : Block) (unwrapped : Option (BitVec 256)) : Bool :=
  let k := (jrKey r).toNat
  bitsOf k 0 8 == 1 && bitsOf k 8 8 == 1 && bitsOf k 16 112 == 0 && bitsOf k 448 64 == 0 && s.sec.tk.isSome && unwrapped.isSome

/-- The status of a GROUP_JOIN under R378; none for SUCCESS. -/
def State.joinStatus (s : State) (p : Packet) (r : Block) (unwrapped : Option (BitVec 256)) : Option Nat :=
  let group := pkBits p 10 0 16
  let member := pkBits p 10 16 5
  let o := jrEntry member
  if jrBad r group member then some stField
  else if s.member && !(s.rd Reg.GLI_STATUS.GROUP == group && s.own == member) then some stSequence
  else if !s.fns.any (fun f => (s.ep f).rid == blockField r (o + 2) 2 && s.bar4Base f == blockField r (o + 8) 8)
      || !s.groupKeyOk r unwrapped then some stGroupRefused
  else none

/-- GROUP_JOIN (R377, R378): the record is checked and the membership record made durable. -/
def execGroupJoin (ctx : CtxNo) (rec : Moved Block) (unwrapped : Option (BitVec 256)) (s : State) : Host.Outcome State Fault Refusal :=
  let c := ctx.val
  let x := s.ctx c
  if s.adminRuns c .groupJoin && s.adminTurn c then
    match moved rec with
    | .inr st => ok (s.endCtx c st)
    | .inl r =>
      match s.joinStatus x.pkt r unwrapped with
      | some st => ok (s.endCtx c st)
      | none => ok (s.persist c .group { x with key := unwrapped.getD 0, page := r })
  else ok s

/-- GROUP_LEAVE (R379, R380): an immediate leave is made durable; an orderly one asks the steward and waits until a view without the device is
committed (DEDUCED: log entry 54). -/
def execGroupLeave (ctx : CtxNo) (s : State) : Host.Outcome State Fault Refusal :=
  let c := ctx.val
  let x := s.ctx c
  if s.adminRuns c .groupLeave && s.adminTurn c && s.group.leaver != c + 1 then
    if !s.member then ok (s.endCtx c stSequence)
    else if (pkDw x.pkt 10).testBit 0 then ok (s.persist c .leave x)
    else if s.gstate = 2 then
      let s1 := (s.setGroup { s.group with leaver := c + 1 }).wr Reg.GLI_STATUS.STATE 4
      ok (if s.steward = s.own then s1 else s1.sendMsg s.steward 0x09 [])
    else ok s
  else ok s

/-! ### Raw operations (R270 to R274) -/

/-- A raw command is the first of its LUN that has not run (R274). -/
def State.rawFirst (s : State) (c : Nat) : Bool :=
  let x := s.ctx c
  let a := pkMedia x.pkt
  s.live.all (fun e => !(e.2.ring == 0 && (e.2.is .rawRead || e.2.is .rawProgram || e.2.is .rawErase) && decide (e.2.phase = .executing)
    && decide (e.2.order < x.order) && pkMedia e.2.pkt / 2 ^ 29 == a / 2 ^ 29))

/-- A page of the range is still being programmed (R271). -/
def State.rawBusy (s : State) (a n : Nat) : Bool :=
  let b := s.blk a
  match b.busyFrom, b.wp with
  | some f, some w => decide (f < adPage a + n ∧ adPage a < w)
  | _, _ => false

/-- The pages of a raw read as bytes: ciphertext as stored, 0xFF for an erased page, and what is sensed with ECC_BYPASS, which the model
leaves free (R271). -/
def State.rawBytes_ (s : State) (p : Packet) : List Nat :=
  let a := pkMedia p
  let n := s.rawPage p
  if pkBypass p then
    (List.range (pkPages p * n)).map (fun i => bitsOf (Config.freeBlock s.free (i / 4096)).toNat (8 * (i % 4096)) 8)
  else
    let b := s.blk a
    (List.range (pkPages p)).flatMap (fun k =>
      let page := a + 4 * k
      if (match b.wp with
          | some w => decide (adPage a + k < w)
          | none => true) then
        (List.range (n / 16384)).flatMap (fun slot => (List.range 4).flatMap (fun i =>
          let z := ((s.page (page + slot)).blocks.getD i .zero).bytes
          (List.range 4096).map (fun o => bitsOf z.toNat (8 * o) 8)))
      else (List.range n).map (fun _ => 0xFF))

/-- RAW_READ (R271, R273): `fail` is the index of the first page whose decode fails (DEDUCED: log entry 52). -/
def execRawRead (ctx : CtxNo) (fail : Option Nat) (s : State) : Host.Outcome State Fault Refusal :=
  let c := ctx.val
  let x := s.ctx c
  let a := pkMedia x.pkt
  if s.adminRuns c .rawRead && s.rawFirst c then
    if s.lunFailed (adChannel a) (adLunNo a) then ok (s.endCtx c stSequence)
    else if (s.blk a).st = .erasing ∨ (s.blk a).st = .eraseUnfin then ok (s.endCtx c stErasedInvalid)
    else if s.rawBusy a (pkPages x.pkt) then ok s
    else match fail with
      | some k =>
        if pkBypass x.pkt = false ∧ k < pkPages x.pkt then ok (s.setCtx c { x with phase := .finished, status := stMedia, result := k })
        else ok (s.dataOut c (s.rawBytes_ x.pkt) 0).freeNext
      | none => ok (s.dataOut c (s.rawBytes_ x.pkt) 0).freeNext
  else ok s

/-- The LUN of a raw program or erase is set aside for raw use and has not failed (R270, R273). -/
def State.rawUse (s : State) (a : Nat) : Bool :=
  s.lunRaw (adChannel a) (adLunNo a) && !s.lunFailed (adChannel a) (adLunNo a)

/-- Stores the pages of a raw program: the host's blocks as they are, or contents that are free (R272). -/
def State.rawStore (s : State) (p : Packet) (pages : List (List Block)) (known : Bool) : State :=
  let a := pkMedia p
  let slots := dieSlots s.ucode.active (s.dieOf a)
  ((List.range (pkPages p)).foldl (fun s k => (List.range slots).foldl (fun s slot =>
      let bs := (List.range 4).map (fun i =>
        Stored.block { ct := if known then (pages.getD k []).getD (4 * slot + i) 0 else Config.freeBlock s.free (16 * k + 4 * slot + i), tag := 0, ivw := 0 })
      s.setPage (a + 4 * k + slot) { blocks := bs }) s) s).freeNext

/-- RAW_PROGRAM (R272, R273): `pass` is what the NAND reports (DESIGN CHOICE: log entry 50). -/
def execRawProgram (ctx : CtxNo) (pages : Moved (List (List Block))) (pass : Bool) (s : State) : Host.Outcome State Fault Refusal :=
  let c := ctx.val
  let x := s.ctx c
  let a := pkMedia x.pkt
  let b := s.blk a
  if s.adminRuns c .rawProgram && s.rawFirst c then
    if !s.rawUse a then ok (s.endCtx c stSequence)
    else match moved pages with
      | .inr st => ok (s.endCtx c st)
      | .inl l =>
        let erased := match b.wp with
          | some w => decide (w ≤ adPage a)
          | none => false
        let s1 := s.rawStore x.pkt l (erased && pass && !pkBypass x.pkt)
        let s2 := s1.setBlk a { s1.blk a with st := .raw, wp := some (max (b.wp.getD 0) (adPage a + pkPages x.pkt)) }
        ok (s2.endCtx c (if !erased then stNotErased else if pass then stSuccess else stProgramFail))
  else ok s

/-- RAW_ERASE (R273): `pass` is what the NAND reports. -/
def execRawErase (ctx : CtxNo) (pass : Bool) (s : State) : Host.Outcome State Fault Refusal :=
  let c := ctx.val
  let x := s.ctx c
  let a := pkMedia x.pkt
  if s.adminRuns c .rawErase && s.rawFirst c then
    if !s.rawUse a then ok (s.endCtx c stSequence)
    else
      let s1 : State := { s with pages := s.pages.filter (fun e => adOfBlock e.1 != a) }
      let s2 := s1.setBlk a { s1.blk a with st := .raw, wp := some 0, slc := pkSlc x.pkt, erases := (s1.blk a).erases + 1 }
      ok (s2.endCtx c (if pass then stSuccess else stEraseFail))
  else ok s

/-! ### UCODE_LOAD (R303, R304) -/

/-- UCODE_LOAD (R303, R304): the staged image is checked, and made durable in the inactive customer slot. -/
def execUcodeLoad (ctx : CtxNo) (image : Moved (List Word)) (signatureOk : Bool) (s : State) : Host.Outcome State Fault Refusal :=
  let c := ctx.val
  let x := s.ctx c
  if s.adminRuns c .ucodeLoad && s.adminTurn c && s.soleLoad c then
    match moved image with
    | .inr st => ok (s.endCtx c st)
    | .inl g =>
      if 4 * g.length = pkDw x.pkt 10 then
        match ucodeCheck s g (pkDw x.pkt 10) signatureOk s.lunIds with
        | some (st, off) => ok ((s.event 0x24 0x0105 (st + off / 4 % 2 ^ 16 * 2 ^ 16)).endCtx c st)
        | none => ok (s.persist c (.ucode (if s.ucode.record = 1 then 2 else 1)) { x with img := g })
      else ok s
  else ok s

/-! ### DIAG (R171) -/

/-- DIAG test 0x01, echo (R171). -/
def execDiagEcho (ctx : CtxNo) (s : State) : Host.Outcome State Fault Refusal :=
  let c := ctx.val
  let p := (s.ctx c).pkt
  if s.adminRuns c .diag && pkDw p 10 == 1 then ok (s.endOk c (2 ^ 32 - 1 - pkDw p 11)) else ok s

/-- DIAG test 0x02, DMA loop (R171). -/
def execDiagDmaLoop (ctx : CtxNo) (data : Moved (List Block)) (s : State) : Host.Outcome State Fault Refusal :=
  let c := ctx.val
  let x := s.ctx c
  if s.adminRuns c .diag && pkDw x.pkt 10 == 2 && s.canSend x.fn then
    match moved data with
    | .inr st => ok (s.endCtx c st)
    | .inl l =>
      if 4096 * l.length = pkDw x.pkt 12 then
        ok ((l.zipIdx.foldl (fun s e => s.emit (.hostWrite x.fn (pkDptr2 x.pkt + 4096 * e.2) 4096 e.1)) s).endOk c (pkDw x.pkt 12))
      else ok s
  else ok s

/-! ### Debug access (R509, R521) -/

/-- DEBUG_CHALLENGE (R509): a fresh nonce, unless challenges are refused or the part is unlocked. -/
def execDebugChallenge (s : State) : Host.Outcome State Fault Refusal :=
  if s.serving && decide (s.rd Reg.SEC_STATUS.DEBUG < 2) then
    let n := (Config.drbg s.free).toNat
    let s1 := (List.range 8).foldl (fun s i => s.wr Reg.SEC_DBG_CHAL.NONCE (bitsOf n (32 * i) 32) i) s.freeNext
    ok (s1.wr Reg.SEC_STATUS.DEBUG 1)
  else ok s

/-- Every key is destroyed, every slot EMPTY and its range trimmed as by a purge, and the device leaves its group (R379, R496, R509). -/
def State.zeroise (s : State) : State :=
  let full := s.sec.slots.filter (fun e => e.2.st != 0)
  let s1 := full.foldl (fun s e => s.record (.admin (.purge e.1) 0)) s
  let s2 : State := { s1 with sec := { s1.sec with slots := [], tk := none, groupKey := none } }
  let s3 := if full.isEmpty then s2 else s2.trimOwn 0 s2.ftl.capacity
  (if s3.member then s3.depart else s3).secRefresh.event 0x38 0x0106 full.length

/-- DEBUG_SUBMIT (R509): a signature that verifies zeroises every key and opens JTAG; one that fails locks it, and after three
failures challenges are refused. -/
def execDebugSubmit (signatureOk : Bool) (s : State) : Host.Outcome State Fault Refusal :=
  if s.serving && s.rd Reg.SEC_STATUS.DEBUG == 1 then
    if signatureOk then ok (s.zeroise.wr Reg.SEC_STATUS.DEBUG 2)
    else
      let n := s.sec.dbgFails + 1
      ok (({ s with sec := { s.sec with dbgFails := n } } : State).wr Reg.SEC_STATUS.DEBUG (if 3 ≤ n then 3 else 0))
  else ok s

end Sys2Proof.Machine
end

