-- ==== Sys2Proof/Machine/Journal.lean ====
section
/-! DEFINITION. What follows when a journal batch is durable: publication, commitment, map changes and the effects of ADMIN records
(R28, R172, R194, R207, R304, R346 to R350, R378, R379, R496, R498, R519). -/

set_option Elab.async false

namespace Sys2Proof.Machine

/-- A command with a persistent effect is committed (R28). -/
def State.commitAdmin (s : State) (c result : Nat) : State :=
  s.setCtx c { s.ctx c with phase := .committed, committed := true, status := 0, result := result }

/-! ### Keys -/

/-- A KEY_LOAD of a realm key takes effect (R496): current epoch EPOCH + 1, oldest epoch at most 15 below, counters at zero. -/
def State.slotLoaded (s : State) (k : Nat) (x : Ctx) : State :=
  let r : BitVec 512 := x.page.setWidth 512
  let e := krEpoch r + 1
  let gen := krFormat r == 2
  let y : KeySlot := { st := 1, base := x.key, autoRoll := krAuto r, generated := gen, first := pkField x.pkt 256 48,
                       last := pkField x.pkt 352 48, epoch := e, oldest := e - 15 }
  ((s.setKeySlot k y).event 0x38 0x0100 (k + bit gen * 2 ^ 12)).sweepCheck k

/-- A key slot's record is durable: a KEY_LOAD loads it, a KEY_ROLL rolls it (R496). -/
def State.slotDurable (s : State) (k c : Nat) : State :=
  let x := s.ctx c
  if x.is .keyLoad then (s.slotLoaded k x).commitAdmin c 0
  else
    let s1 := if (s.keySlot k).rollable then s.rollSlot k else s
    s1.commitAdmin c (s1.keySlot k).epoch

/-- A purge is durable (R496): the slot is EMPTY, its key destroyed, its range trimmed. -/
def State.purgeDurable (s : State) (k c : Nat) : State :=
  let ranges := s.realmRanges k
  let s1 := s.setKeySlot k {}
  let s2 := ranges.foldl (fun s r => s.trimOwn r.1 r.2) s1
  (s2.event 0x38 0x0101 k).commitAdmin c 0

/-! ### Membership (R378 to R380) -/

/-- The address table of a join record enters the device; sessions whose peer address, requester ID or key changes are dropped. -/
def State.takeTable (s : State) (r : Block) (newKey : Bool) : State :=
  (List.range 24).foldl (fun s j =>
    let o := jrEntry j
    let p := s.peer j
    if blockField r o 1 = 0 then ((s.setSession j 0).setPeer j {}).wr Reg.GLI_PEER.REQ_ID 0 j
    else
      let rid := blockField r (o + 2) 2
      let base := blockField r (o + 8) 8
      let q : Peer := { p with listed := true, base := base, log2 := blockField r (o + 0x10) 1, reqId := rid }
      let s1 := (s.setPeer j q).wr Reg.GLI_PEER.REQ_ID rid j
      if newKey || p.base != base || p.reqId != rid then
        (s1.setSession j 0).setPeer j { q with key := none, retryAt := s1.frame }
      else s1) s

/-- A membership record is durable: a join raises INCARNATION and starts to join, a refresh replaces the table and the key (R378, R380). -/
def State.groupDurable (s : State) (x : Ctx) : State :=
  let refresh := s.member
  let key := some x.key
  let newKey := decide (s.sec.groupKey ≠ key)
  let s1 := ({ s with sec := { s.sec with groupKey := key } } : State).secRefresh
  let s2 := (s1.wr Reg.GLI_STATUS.GROUP (pkBits x.pkt 10 0 16)).wr Reg.GLI_STATUS.MEMBER (pkBits x.pkt 10 16 5)
  if refresh then
    let s3 := s2.takeTable x.page newKey
    if s3.gstate = 0 then s3 else s3.stageGroup
  else
    let s3 := s2.setGroup { ({} : Group) with incarnation := s2.group.incarnation + 1 }
    (s3.takeTable x.page true).startJoining

/-- A departure is durable (R379): the device leaves, and the GROUP_LEAVE that asked for it is committed. -/
def State.leaveDurable (s : State) (k : Nat) : State :=
  let s1 := s.depart
  let x := s1.ctx (k - 1)
  if k ≠ 0 ∧ x.is .groupLeave = true ∧ (x.phase = .executing ∨ x.phase = .committing) then s1.commitAdmin (k - 1) 0 else s1

/-! ### Microcode and firmware (R304, R305, R519) -/

/-- A UCODE_LOAD is durable (R304): the inactive slot holds the image, the slot record names it, and its swap is set. -/
def State.ucodeDurable (s : State) (slot c : Nat) : State :=
  let g := (s.ctx c).img
  let u := s.ucode
  let s1 : State := { s with ucode := { u with slotA := if slot = 1 then g else u.slotA, slotB := if slot = 1 then u.slotB else g,
                                               record := slot } }
  ((s1.swapSet g slot c).storeStart .ucode).commitAdmin c 0

/-- A FW_ACTIVATE is durable (R519): the activation record names the slot, and the device drains toward the new firmware (R213). -/
def State.activateDurable (s : State) (slot c : Nat) : State :=
  let s1 : State := { s with bst := { s.bst with active := slot, failCount := 0, activator := c + 1, commitAt := s.frame } }
  ((s1.storeStart .record).bstRefresh.event 0x39 0x0103 (slot + (s1.fwSlot slot).version % 2 ^ 30 * 4)).commitAdmin c 0

/-! ### Records -/

/-- What an ADMIN record changes when it becomes durable; `k` is the command's context plus one, or 0 (R28, R346). -/
def State.adminDurable (s : State) (a : AdminRec) (k : Nat) : State :=
  let c := k - 1
  let x := s.ctx c
  let mine := k != 0 && decide (x.phase = .committing)
  match a with
  | .osnMark _ => s
  | .feature fid v =>
    if mine then (({ s with saved := Tbl.set 0 s.saved fid (v + 1) } : State).applyFeature fid v x.fn).commitAdmin c 0 else s
  | .keySlot slot => if mine then s.slotDurable slot c else s
  | .keyMark slot => s.setKeySlot slot { s.keySlot slot with marks := (s.keySlot slot).nextMarks }
  | .transportKey =>
    if mine then ({ s with sec := { s.sec with tk := some x.key } } : State).secRefresh.commitAdmin c 0 else s
  | .microcodeKey =>
    if mine then
      ({ s with sec := { s.sec with mcKeys := s.sec.mcKeys ++ [krPoint (x.page.setWidth 512)] } } : State).secRefresh.commitAdmin c 0
    else s
  | .purge slot => if mine then s.purgeDurable slot c else s
  | .group => if mine then (s.groupDurable x).commitAdmin c 0 else s
  | .leave => if mine || s.gstate == 4 then s.leaveDurable k else s
  | .ucode slot => if mine then s.ucodeDurable slot c else s
  | .activate slot => if mine then s.activateDurable slot c else s
  | .view => if k = 0 then s.viewAckSend else if k = 1 then s.viewWon else s
  | .generic _ => s

/-- A landing write is published by its durable records; a range it covers is noted to the parity members (R194, R397). -/
def State.publishRow (s : State) (c : Nat) : State :=
  let x := s.ctx c
  if s.publishable x then
    let s1 := s.publish c
    if x.is .write then s1 else s1.placeRange x
  else s

/-- What a record changes when it is durable (R207, R259, R345, R346, R348, R357). -/
def State.recDurable (s : State) (r : Rec) : State :=
  match r with
  | .version iu _ osn =>
    let s1 := match s.ctxOfOsn osn with
      | some c => s.publishRow c
      | none => s
    match (s1.stack iu).find? (fun v => v.osn == osn) with
    | some v => s1.placeVersion v
    | none => s1
  | .range _ _ _ osn =>
    match s.ctxOfOsn osn with
    | some c => if (endIus (s.ctx c).slba (s.ctx c).nblk).isEmpty then s.publishRow c else s
    | none => s
  | .commit _ _ _ _ _ osn =>
    match s.ctxOfOsn osn with
    | some c => if (s.ctx c).phase = .published then s.commitWrite c else s
    | none => s
  | .map guarded _ iu entry old => s.applyMap guarded iu entry old
  | .rangeDone osn count => if (s.ftl.ranges.any (fun e => e.osn == osn && e.count == 0 && e.firstIu == count)) then s.rangeDone osn else s
  | .eraseStart mask _ addr =>
    (List.range 4).foldl (fun s p =>
      let b := mkAddr (adChannel addr) (adLunNo addr) p (adBlock addr) 0 0
      if mask.testBit p && (s.blk b).started == 1 then s.setBlk b { s.blk b with started := 2 } else s) s
  | .admin a k => s.adminDurable a k
  | .eraseEnd _ _ _ | .bandOpen _ | .bandClose _ | .retire _ _ | .drain _ _ _ _ | .mapPage _ _ _ _ | .ckpt _ _ _ | .drainEnd _
  | .ledger _ _ _ _ => s

/-- JOURNAL_BATCH_DURABLE (R28, R207): the batch in flight is durable: its records take effect in their order, then the acknowledgements
that waited for it are sent (R408). -/
def execJournalBatchDurable (s : State) : Host.Outcome State Fault Refusal :=
  match s.ftl.journal.flight with
  | some (n, l) =>
    if s.serving then
      let j := s.ftl.journal
      let s1 : State := { s with ftl := { s.ftl with journal :=
        { j with flight := none, durable := j.durable ++ [(n, l)], bytes := j.bytes + 32 * l.length } } }
      ok ((l.foldl State.recDurable s1).sendOwed.sweepVersions.refreshJournal)
    else ok s
  | none => ok s

end Sys2Proof.Machine
end

