-- ==== Sys2Proof/Machine/Supply.lean ====
section
/-! DEFINITION. Supplies, the hold-up bank and cold resets: rails, brown-out, drains, the bleed, the charger and capacitance measurements
(R58 to R82, R101, R103, R238, R239, R365, R366). -/

set_option Elab.async false

namespace Sys2Proof.Machine

/-! ### Thresholds and straps (R58, R76) -/

/-- The default thresholds of BUS_SEL in 0.2 V: falling, rising. -/
def Board.thresholds (b : Board) : Nat × Nat := if b.busSel then (190, 200) else (43, 45)

/-- The rising threshold in mV: HUP_BO_CFG's, or the strap's while Poulo does not operate (DEDUCED: log entry 14). -/
def State.riseNow (s : State) : Nat := if s.sup.operating then s.riseMv else 200 * s.board.thresholds.2

/-- The falling threshold in mV. -/
def State.fallNow (s : State) : Nat := if s.sup.operating then s.fallMv else 200 * s.board.thresholds.1

/-- Changes the supply block. -/
def State.setSup (s : State) (p : Supply) : State := { s with sup := p }

/-! ### What a cold reset keeps (R101, R586) -/

/-- The key of a register field whose value the device keeps over a cold reset: counters and records, the LUNs that have failed or are raw,
the membership record and the installed view (DEDUCED: log entry 88). -/
def keptKey (k : Nat) : Bool :=
  let off := k / 64 % 2 ^ 23
  let lo := k % 64
  keyScope k == 5
    || (decide (0x200000 ≤ off ∧ off < 0x240000) && [12, 16, 20].contains (off % 4096))
    || (off == 0x300000 && decide (8 ≤ lo)) || [0x300004, 0x300008, 0x30000C].contains off
    || (decide (0x300100 ≤ off ∧ off < 0x300280) && off % 16 == 0 && (lo == 2 || lo == 16))

/-- What the device keeps of its group: the address table, its stripes and the durable acknowledgement of a view; INCARNATION rises (R381). -/
def Group.cold (g : Group) : Group :=
  { incarnation := g.incarnation + 1
    peers := Tbl.mapAll {} (fun _ p => { listed := p.listed, base := p.base, log2 := p.log2, reqId := p.reqId }) g.peers
    acked := g.acked, stripes := g.stripes, nextStripe := g.nextStripe, nextPlan := g.nextPlan, applied := g.applied }

/-- What the device keeps of its journal: the durable batches (R345). -/
def Journal.cold (j : Journal) : Journal :=
  { batch := j.batch, durable := j.durable, position := j.position, ckpt := j.ckpt, bytes := j.bytes }

/-- The state of the device held in cold reset, without supplies: what is kept is all that is left (R101) (DEDUCED: log entry 88). -/
def State.coldKeep (s : State) : State :=
  let g : Sec := { slots := Tbl.mapAll {} (fun _ x => x.resume) s.sec.slots, tk := s.sec.tk, groupKey := s.sec.groupKey,
                   groupCtr := s.sec.groupCtr, mcKeys := s.sec.mcKeys }
  let t : Thermal := { aboveSp := s.thermal.aboveSp, stopped := s.thermal.stopped, maxComposite := s.thermal.maxComposite,
                       bins := s.thermal.bins, hourly := s.thermal.hourly }
  let f : Ftl := { root := s.ftl.root, journal := s.ftl.journal.cold, drained := s.ftl.drained, mark := s.ftl.mark,
                   capacity := s.ftl.capacity, spare0 := s.ftl.spare0, spent := s.ftl.spent, nextBand := s.ftl.nextBand }
  let p : Supply := { vin := s.sup.vin, vbank := s.sup.vbank, operating := s.sup.operating, cmeas := s.sup.cmeas, passed := s.sup.passed,
                      caps := s.sup.caps, hourFrom := s.sup.hourFrom, measAt := s.sup.measAt, nextCause := s.sup.nextCause, boPending := s.sup.boPending,
                      drainOk := s.sup.drainOk, sample := s.sup.sample, discharging := s.sup.discharging }
  { State.reset with
    keptRegs := if s.boot.restored then s.regs.filter (fun e => keptKey e.1) else s.keptRegs
    frame := s.frame
    board := s.board
    sup := p
    boot := { manufactured := s.boot.manufactured }
    eps := Tbl.mapAll {} (fun _ e => { perst := e.perst }) s.eps
    recon := s.recon
    reconSeq := s.reconSeq
    lost := s.lost
    lostSeq := s.lostSeq
    events := s.events
    eventTotal := s.eventTotal
    health := s.health
    saved := s.saved
    ftl := f
    blks := s.blks
    pages := s.pages
    bands := s.bands
    thermal := t
    dram := { remapSaved := s.dram.remapSaved }
    sec := g
    bst := { active := s.bst.active, failCount := s.bst.failCount, fusedSv := s.bst.fusedSv, fw := s.bst.fw }
    patrol := { saved := s.patrol.saved, band := s.patrol.saved.1, row := s.patrol.saved.2 }
    ucode := { base := s.ucode.base, slotA := s.ucode.slotA, slotB := s.ucode.slotB, record := s.ucode.record }
    group := s.group.cold
    out := s.out
    free := s.free
    pending := s.pending }

/-! ### Measurements (R69 to R71) -/

/-- Begins a bleed-method measurement: the ceiling is lowered to its value at VCHG less 4.0 V. -/
def State.measBleed (s : State) : State :=
  ((s.setSup { s.sup with meas := .lowering, measDue := false }).wr Reg.HUP_STATUS.MEAS_BUSY 1).refreshCeiling

/-- The bank is charged to VCHG: the charger holds it there. -/
def State.charged (s : State) : Bool := decide (s.vchg ≤ s.sup.vbank)

/-- The charger runs while it is enabled, the bank is below VCHG, and no drain, bleed or lowered measurement stops it. -/
def State.recharge (s : State) : State :=
  let run := s.on Reg.HUP_CHG_CFG.CHG_EN && !s.charged && decide (s.sup.drain = .none) && !s.sup.ovBleed && s.sup.operating
  s.wr Reg.HUP_STATUS.CHARGING (bit run)

/-- A measurement ends early and its result is discarded; a new one starts once the bank is charged again (R70). -/
def State.measAbort (s : State) : State :=
  match s.sup.meas with
  | .idle => s
  | .lowering | .bleeding _ | .bleedCount _ _ | .chargeWait | .chargeCount _ =>
    ((s.setSup { s.sup with meas := .idle, measDue := true }).wr Reg.HUP_STATUS.MEAS_BUSY 0).wr Reg.HUP_STATUS.BLEED_ON
      (bit (s.sup.ovBleed || s.sup.discharging))

/-- A measurement that waits for the charged bank begins (R69, R70) (DEDUCED: log entry 18). -/
def State.measIfDue (s : State) : State :=
  if s.sup.measDue && decide (s.sup.meas = .idle) && s.charged && decide (s.sup.drain = .none) && !s.sup.ovBleed then s.measBleed else s

/-! ### Cold starts (R62, R69, R80, R101) -/

/-- A cold start begins: the straps are read, VDD_CORE is enabled, the charger starts, and the measurement of the start is chosen
(DEDUCED: log entry 18). -/
def State.coldStart (s : State) : State :=
  let k := s.coldKeep
  let th := s.board.thresholds
  let s1 := k.setSup { k.sup with operating := true, steps := 1, goods := 0, attempts := 1, orGate := true, vinAt := s.frame,
                                  discharging := false, boPending := false }
  let s2 := (((s1.wr Reg.HUP_BO_CFG.FALL th.1).wr Reg.HUP_BO_CFG.RISE th.2).wr Reg.HUP_STATUS.BUS_CLASS (bit s.board.busSel)).wr
    Reg.SBD_STATUS.ADDR (0x6A + bit s.board.sbAddr)
  let s3 := (s2.wr Reg.HIF_EP_LINK.PORT_MODE (bit s.board.portMode)).wr Reg.HIF_EP_LINK.PORT_MODE (bit s.board.portMode) 0 1
  let s4 := ((s3.wr Reg.HUP_STATUS.VIN_OK (bit (decide (s.sup.vin ≤ 63000)))).wr Reg.HUP_STATUS.BO_SEEN (bit s.sup.boPending)).recharge
  let s5 := s4.count 0x00C 4
  if s5.sup.vbank < 30000 ∧ 34000 ≤ s5.vchg then
    (s5.setSup { s5.sup with meas := .chargeWait }).wr Reg.HUP_STATUS.MEAS_BUSY 1
  else (s5.setSup { s5.sup with measDue := true }).measIfDue

/-- VIN_RISE (R62, R79): VIN passes the rising threshold; a cold start begins unless the core die runs, a drain is in progress, a thermal
trip holds the core die off, or the device is Off with VIN present (DEDUCED, DESIGN CHOICE: log entries 1 and 14). -/
def execVinRise (vin : Nat) (s : State) : Host.Outcome State Fault Refusal :=
  let rises := decide (s.sup.vin ≤ s.riseNow ∧ s.riseNow < vin)
  let s1 := s.setSup { s.sup with vin := vin }
  if rises && !s.sup.coreUp && decide (s.sup.drain = .none) && !s.thermal.tripped && !s.sup.off then ok s1.coldStart
  else if s.sup.operating && decide (s.sup.drain = .none ∨ s.sup.orGate = true) then
    ok (s1.wr Reg.HUP_STATUS.VIN_OK (bit (decide (s.fallNow < vin ∧ vin ≤ 63000))))
  else ok s1

/-! ### The rail sequence (R62) -/

/-- A rail sequence runs: the core die is not yet released. -/
def State.sequencing (s : State) : Bool :=
  s.sup.operating && s.sup.orGate && !s.sup.coreUp && decide (0 < s.sup.steps) && decide (s.sup.drain = .none)

/-- The next rail step of the sequence given its power-goods: the fifth step has two. -/
def railStep (goods : Nat) : Nat := min 5 (goods + 1)

/-- POWER_GOOD (R62): the next rail step is enabled, or the sequence ends and the core die leaves reset. -/
def execPowerGood (s : State) : Host.Outcome State Fault Refusal :=
  if s.sequencing && !s.sup.retryWait then
    let g := s.sup.goods + 1
    if 6 ≤ g then
      ok { s with sup := { s.sup with goods := 6, steps := 5, coreUp := true } }
    else ok (s.setSup { s.sup with goods := g, steps := railStep g })
  else ok s

/-- POWER_GOOD_TIMEOUT (R62): every rail is disabled; after the third failed attempt the rails stay off and item 0x00 reports it
(DESIGN CHOICE: log entry 86). -/
def execPowerGoodTimeout (s : State) : Host.Outcome State Fault Refusal :=
  if s.sequencing && !s.sup.retryWait then
    let p : Supply := { s.sup with steps := 0, goods := 0 }
    if 3 ≤ s.sup.attempts then ok (s.setSup { p with railsFailed := true }) else ok (s.setSup { p with retryWait := true })
  else ok s

/-- RAIL_SEQUENCE_RETRY (R62): the 100 ms wait has ended and the sequence starts again. -/
def execRailSequenceRetry (s : State) : Host.Outcome State Fault Refusal :=
  if s.sup.operating && s.sup.retryWait && s.sup.orGate then
    ok (s.setSup { s.sup with retryWait := false, steps := 1, goods := 0, attempts := s.sup.attempts + 1 })
  else ok s

/-! ### The trigger moment of a drain (R79, R80, R103, R239, R559) -/

/-- Records of batches that are not durable are gone: an erase whose start record is among them has not started, one whose end record is
among them is unfinished, and a band whose BAND_OPEN record is among them does not exist (R108, R345). -/
def State.cutJournal (s : State) : State :=
  let j := s.ftl.journal
  let gone := j.collecting ++ s.inFlight
  let s1 : State := { s with ftl := { s.ftl with journal := { j with collecting := [], flight := none } } }
  let planes (mask addr : Nat) : List Nat := ((List.range 4).filter (fun p => mask.testBit p)).map (fun p =>
    mkAddr (adChannel addr) (adLunNo addr) p (adBlock addr) 0 0)
  gone.foldl (fun s r => match r with
    | .eraseStart mask _ addr => (planes mask addr).foldl (fun s a => if (s.blk a).started = 1 then s.setBlk a { s.blk a with started := 0 } else s) s
    | .eraseEnd mask _ addr => (planes mask addr).foldl (fun s a => s.setBlk a { s.blk a with started := 3 }) s
    | .bandOpen n =>
      let s2 : State := { s with blks := Tbl.mapAll {} (fun _ b => if b.band = n + 1 then { b with band := 0 } else b) s.blks }
      { s2 with bands := s2.bands.filter (fun b => b.number != n) }
    | _ => s) s1

/-- The code of a drain's trigger as the cause of the cold start that follows (R110). -/
def DrainKind.cause : DrainKind → Nat
  | .none => 0 | .brownOut => 1 | .overvoltage => 2 | .watchdog => 3 | .coldReq => 4 | .trip => 5

/-- The drain follows a loss of VIN, or VIN above 63.0 V. -/
def DrainKind.bank : DrainKind → Bool
  | .brownOut | .overvoltage => true
  | _ => false

/-- Brown-out recognition in the blocks that act at once: HUP_OR_G opens, the fans are released, the engines go into brown-out mode, the key
SRAM is cleared (R80, R267, R492, R567). -/
def State.brownSignal (s : State) (overs : Bool) : State :=
  let s1 := s.fansOff.boMode true
  let s2 := s1.wr Reg.HUP_STATUS.VIN_OK 0
  let s3 := if overs then s2.wr Reg.HUP_STATUS.OV_EVENT 1 else s2
  { s3 with sup := { s3.sup with orGate := false }, sec := { s3.sec with ready := false }
            group := { s3.group with peers := Tbl.mapAll {} (fun _ p => { p with key := none }) s3.group.peers } }

/-- The trigger moment of a cold reset with a drain: the Reconcile entries are created, every command ends, the plan is discarded, the charger
stops, a measurement ends early, and the records that are not durable are gone (R45, R66, R70, R239). -/
def State.coldTrigger (s : State) (k : DrainKind) : State :=
  let s0 := s.setSup { s.sup with drain := k, drainFrom := s.sup.vbank, drainBytes := s.dirty, drainWork := !k.bank }
  let s1 := ((s0.trigger [0, 1] .cold).cutJournal.measAbort.wr Reg.HUP_STATUS.CHARGING 0).wr Reg.FRM_STATUS.MODE 1
  let s2 : State := { s1 with sched := { s1.sched with plan := [], made := false } }
  let s3 := s2.powerDrain
  if k.bank then
    let s4 := s3.count 0x010 4
    ({ s4 with sup := { s4.sup with boPending := true } } : State).brownSignal (decide (k = .overvoltage))
  else s3

/-- Recognition of a loss of VIN or of an overvoltage: a trigger moment; before the core die has left reset, an abandoned rail sequence; in a
drain that runs from VIN, only the switch to the bank (R79, R103) (DEDUCED, DESIGN CHOICE: log entries 15 and 16). -/
def State.recognise (s : State) (k : DrainKind) : State :=
  if s.sup.drain ≠ .none then
    if s.sup.orGate then s.brownSignal (decide (k = .overvoltage)) else s
  else if s.sup.coreUp then s.coldTrigger k
  else
    let s1 := if k = .overvoltage then s.wr Reg.HUP_STATUS.OV_EVENT 1 else s
    let s2 := s1.wr Reg.HUP_STATUS.VIN_OK 0
    if s.sup.orGate then
      let s3 := (s2.measAbort).wr Reg.HUP_STATUS.CHARGING 0
      s3.setSup { s3.sup with orGate := false, steps := 0, goods := 0, retryWait := false, railsFailed := false, nextCause := 0, drainOk := true }
    else s2.setSup { s2.sup with off := false }

/-- BROWN_OUT (R79, R80). -/
def execBrownOut (vin : Nat) (s : State) : Host.Outcome State Fault Refusal :=
  if s.sup.operating && decide (vin < s.fallMv) then ok ((s.setSup { s.sup with vin := vin }).recognise .brownOut) else ok s

/-- OVERVOLTAGE (R79). -/
def execOvervoltage (vin : Nat) (s : State) : Host.Outcome State Fault Refusal :=
  if s.sup.operating && decide (63000 < vin) then ok ((s.setSup { s.sup with vin := vin }).recognise .overvoltage) else ok s

/-- BANK_SWITCHOVER (R80): HUP_SW_G is closed; the channel engines apply brown-out treatment and drain work may start. -/
def execBankSwitchover (s : State) : Host.Outcome State Fault Refusal :=
  if decide (s.sup.drain ≠ .none) && !s.sup.orGate && !s.sup.swGate then
    let s1 := s.brownChannels
    ok (s1.setSup { s1.sup with swGate := true, drainWork := true })
  else ok s

/-! ### The drain (R365) -/

/-- The page image of a version: blocks outside its mask are zero. -/
def Version.image (v : Version) : List Stored :=
  (List.range 4).map (fun b => match v.data.find? (fun e => e.1 == b) with
    | some e => e.2
    | none => .zero)

/-- Writes page images, each of one IU, into bands of an SLC kind formed for them, at most `n` bands; the address of each, none where no
band takes it (DESIGN CHOICE: log entry 19). -/
def State.layDown (k : BandKind) : Nat → List (Nat × List Stored) → State → List (Option Nat) × State
  | 0, l, s => (l.map (fun _ => none), s)
  | _ + 1, [], s => ([], s)
  | n + 1, l, s =>
    let j := s.ftl.journal.collecting
    let s1 := s.form k
    match s1.band s.ftl.nextBand with
    | none => (l.map (fun _ => none), s)
    | some b =>
      let per := (s1.stripeSlots b).length
      let wls := min (s1.wordLines b) (ceilDiv l.length (max 1 per))
      let slots := (List.range wls).flatMap (fun w => s1.stripeSlots { b with next := w })
      let put := slots.zip l
      let blocks := s1.bandBlocks b
      let g := s1.ucode.active
      let die := (s1.lun (b.chans.headD 0) b.dieSet).die
      let s2 : State := { s1 with pages := s1.pages.filter (fun e => !blocks.contains (adOfBlock e.1))
                                  ftl := { s1.ftl with journal := { s1.ftl.journal with collecting := j ++ [.bandOpen b.number] } } }
      let s3 := blocks.foldl (fun s a =>
        let x := s.blk a
        s.setBlk a { x with st := .closed, slc := true, wp := some (wls * dieGroup g die true), started := 0, busyFrom := none,
                            erases := if x.st = .erased then x.erases else min 65535 (x.erases + 1) }) s2
      let s4 := put.foldl (fun s e => s.setPage e.1 { iu := e.2.1 + 1, blocks := e.2.2 }) s3
      let s5 := s4.setBand { b with isOpen := false, closedAt := s.frame, next := wls }
      let r := State.layDown k n (l.drop slots.length) s5
      (put.map (fun e => some e.1) ++ r.1, r.2)

/-- The versions a drain writes: published and not clean, oldest OSN first (R365). -/
def State.drainList (s : State) : List Version :=
  (s.ftl.versions.filter (fun v => decide (v.st ≠ .landing) && !v.clean)).foldl (fun l v =>
    l.filter (fun w => decide (w.osn ≤ v.osn)) ++ [v] ++ l.filter (fun w => decide (v.osn < w.osn))) []

/-- The drain of R365: the versions go to drain bands with DRAIN records, the range entries become RANGE records (DESIGN CHOICE: log entry 19). -/
def State.drain (s : State) : State :=
  let l := s.drainList
  let r := State.layDown .drain 4 (l.map (fun v => (v.iu, v.image))) s
  let placed := (l.zip r.1).map (fun e => { e.1 with folded := e.2 })
  let s1 : State := { r.2 with ftl := { r.2.ftl with drained := s.ftl.drained ++ placed } }
  let s2 := placed.foldl (fun s v => match v.folded with
    | some a => s.record (.drain v.iu v.mask v.osn a)
    | none => s) s1
  (s2.ftl.ranges.filter (fun e => e.count != 0 && decide (e.st ≠ .landing))).foldl (fun s e => s.record (.range e.zeroes e.firstIu e.count e.osn)) s2

/-- What the batch being collected holds becomes durable (DEDUCED: log entry 22). -/
def State.settle (s : State) : State :=
  let j := s.ftl.journal
  { s with ftl := { s.ftl with journal :=
    { j with collecting := [], batch := j.batch + 1, durable := j.durable ++ [(j.batch, j.collecting)], bytes := j.bytes + 32 * j.collecting.length } } }

/-- NAND operations that run when the rails go: the pages of a program are interrupted, an erase is unfinished (R108). -/
def State.interrupt (s : State) : State :=
  s.luns.foldl (fun s e =>
    (e.2.op.toList ++ (e.2.held.map (·.1)).toList).foldl (fun s o =>
      if o.kind = .program then o.images.foldl (fun s i => s.setPage i.1 { s.page i.1 with invalid := true }) s
      else if o.kind = .erase then o.blocks.foldl (fun s a => s.setBlk a { s.blk a with started := 3 }) s
      else s) s) s

/-- The rails are disabled at the end of a drain: a cold start begins at once with VIN above RISE, unless a thermal trip holds the core die
off; with VIN absent the bleed closes (R72, R80, R560). -/
def State.railsCut (s : State) (complete : Bool) : State :=
  let k := s.sup.drain
  let s1 := s.interrupt
  let s2 := s1.setSup { s1.sup with drain := .none, drainWork := false, swGate := false, orGate := false, coreUp := false, steps := 0, goods := 0,
                                    nextCause := k.cause, drainOk := complete }
  if k ≠ .trip ∧ s2.riseMv < s2.sup.vin then s2.coldStart
  else if s2.sup.vin ≤ s2.riseMv then (s2.setSup { s2.sup with discharging := true }).wr Reg.HUP_STATUS.BLEED_ON 1
  else s2

/-- The energy a drain took from the bank, in the unit of eUse2 (R238). -/
def State.drainEnergy (s : State) : Nat := eUse2 s.sup.cmeas s.unit s.sup.drainFrom - s.eNow

/-- DRAIN_END (R80, R365, R238): the drain's records are durable with its DRAIN_END record; the samples of R238 are kept for a drain of
256 MiB or more from the bank (DEDUCED: log entry 17). -/
def execDrainEnd (s : State) : Host.Outcome State Fault Refusal :=
  if decide (s.sup.drain ≠ .none) && s.sup.drainWork && s.drainRails then
    let k := s.sup.drain
    let s1 := (s.drain.record (.drainEnd s.sup.drainBytes)).settle
    let s2 := if k.bank && decide (2 ^ 28 ≤ s.sup.drainBytes) then
        s1.setSup { s1.sup with sample := some (s.drainEnergy, s.sup.drainBytes) }
      else s1
    ok (s2.railsCut true)
  else ok s

/-- Every rail is disabled at once in a drain (R82, R559). How much of the drain had become durable is open: a free value says how many of its
records stand (DESIGN CHOICE: log entries 20 and 21). -/
def State.drainCut (s : State) : State :=
  let s1 := s.freeNext.drain
  let recs := s1.ftl.journal.collecting
  let kept := recs.take (s.freeNat % (recs.length + 1))
  let stands (v : Version) : Bool := kept.any (fun r => match r with
    | .drain iu _ osn _ => iu == v.iu && osn == v.osn
    | _ => false)
  let s2 : State := { s1 with ftl := { s1.ftl with journal := { s1.ftl.journal with collecting := kept }
                                                   drained := s1.ftl.drained.filter (fun v => stands v || s.ftl.drained.contains v) } }
  s2.settle.railsCut false

/-- VBANK_CUTOFF (R82): VBANK falls to 22.0 V during a drain from the bank. -/
def execVbankCutoff (vbank : Nat) (s : State) : Host.Outcome State Fault Refusal :=
  if decide (s.sup.drain ≠ .none) && s.sup.swGate && decide (vbank ≤ 22000) then ok (s.setSup { s.sup with vbank := vbank }).drainCut
  else ok s

/-- BLEED_DISCHARGE_END (R72): VBANK is below 5.0 V and the bleed opens. -/
def execBleedDischargeEnd (vbank : Nat) (s : State) : Host.Outcome State Fault Refusal :=
  if s.sup.discharging && decide (vbank < 5000) then
    ok ((s.setSup { s.sup with discharging := false, vbank := vbank }).wr Reg.HUP_STATUS.BLEED_ON 0)
  else ok s

/-- POULO_SUPPLY_LOST (R59): Poulo stops operating: the always-on domain and the SMBus port lose their supply (DEDUCED: log entry 23). -/
def execPouloSupplyLost (vbank : Nat) (s : State) : Host.Outcome State Fault Refusal :=
  if s.sup.operating && decide (s.sup.vin ≤ s.riseMv ∧ vbank < 4500) && !s.sup.coreUp then
    let k := s.coldKeep
    ok (k.setSup { k.sup with operating := false, vbank := vbank, discharging := false })
  else ok s

/-! ### The charger and measurements (R66, R69 to R71) -/

/-- VBANK_OVERVOLTAGE (R66, R70): the charger stops, OV_EVENT is set, the bleed closes; a measurement ends early. -/
def execVbankOvervoltage (vbank : Nat) (s : State) : Host.Outcome State Fault Refusal :=
  if s.sup.operating && decide (60000 ≤ vbank) && !s.sup.ovBleed then
    let s1 := s.setSup { s.sup with vbank := vbank, ovBleed := true }
    ok ((((s1.measAbort).wr Reg.HUP_STATUS.CHARGING 0).wr Reg.HUP_STATUS.OV_EVENT 1).wr Reg.HUP_STATUS.BLEED_ON 1).refreshBank.refreshCeiling
  else ok s

/-- VBANK_OV_RECOVER (R66): VBANK has fallen to VCHG and the bleed opens; a measurement that is due begins. -/
def execVbankOvRecover (vbank : Nat) (s : State) : Host.Outcome State Fault Refusal :=
  if s.sup.ovBleed && decide (vbank ≤ s.vchg) then
    let s1 := (s.setSup { s.sup with vbank := vbank, ovBleed := false }).wr Reg.HUP_STATUS.BLEED_ON (bit s.sup.discharging)
    ok (s1.refreshBank.recharge.measIfDue.refreshCeiling)
  else ok s

/-- CHARGE_TARGET_REACHED (R66): the charger holds the bank at VCHG; a measurement that is due begins. -/
def execChargeTargetReached (vbank : Nat) (s : State) : Host.Outcome State Fault Refusal :=
  if s.on Reg.HUP_STATUS.CHARGING && decide (s.vchg ≤ vbank) then
    let s1 := (s.setSup { s.sup with vbank := vbank }).wr Reg.HUP_STATUS.CHARGING 0
    ok (s1.refreshBank.measIfDue.refreshCeiling)
  else ok s

/-- A measurement may begin: Poulo operates without a drain, and none runs. -/
def State.measFree (s : State) : Bool := s.sup.operating && decide (s.sup.drain = .none) && decide (s.sup.meas = .idle) && !s.sup.ovBleed

/-- CAP_MEAS_HOURLY (R69): every 360,000,000 fr a bleed-method measurement begins. -/
def execCapMeasHourly (s : State) : Host.Outcome State Fault Refusal :=
  if s.measFree && s.sup.coreUp && decide (s.sup.hourFrom + 360000000 ≤ s.frame) then
    ok (s.setSup { s.sup with hourFrom := s.frame }).measBleed
  else ok s

/-- VBANK_DROP_DETECTED (R69): VBANK fell by more than 0.5 V in one frame with neither drain nor bleed active. -/
def execVbankDropDetected (vbank : Nat) (s : State) : Host.Outcome State Fault Refusal :=
  if s.measFree && s.sup.coreUp && !s.on Reg.HUP_STATUS.BLEED_ON && decide (vbank + 500 < s.sup.vbank) then
    ok (((s.setSup { s.sup with vbank := vbank }).refreshBank).recharge.measBleed)
  else ok s

/-- MEAS_NOW (R78): a bleed-method measurement starts unless one is running. -/
def execMeasNow (s : State) : Host.Outcome State Fault Refusal :=
  if s.measFree && s.sup.coreUp then ok s.measBleed else ok s

/-- MEAS_BLEED_CLOSE (R69): the dirty data fits the lowered ceiling; the charger stops and the bleed closes. -/
def execMeasBleedClose (s : State) : Host.Outcome State Fault Refusal :=
  if decide (s.sup.meas = .lowering) && decide (s.dirty ≤ s.ceilingBytes) then
    ok (((s.setSup { s.sup with meas := .bleeding s.sup.vbank }).wr Reg.HUP_STATUS.CHARGING 0).wr Reg.HUP_STATUS.BLEED_ON 1)
  else ok s

/-- MEAS_BLEED_OPEN (R69): VBANK has fallen 4.000 V; the bleed opens and the recharge at 500 mA is counted. -/
def execMeasBleedOpen (vbank : Nat) (s : State) : Host.Outcome State Fault Refusal :=
  match s.sup.meas with
  | .bleeding top =>
    if vbank + 4000 ≤ top then
      ok (((s.setSup { s.sup with meas := .bleedCount s.frame top, vbank := vbank }).wr Reg.HUP_STATUS.BLEED_ON 0).wr Reg.HUP_STATUS.CHARGING 1)
    else ok s
  | _ => ok s

/-- MEAS_COUNT_START (R69): in the charge method VBANK reaches 30.000 V and the count begins. -/
def execMeasCountStart (vbank : Nat) (s : State) : Host.Outcome State Fault Refusal :=
  match s.sup.meas with
  | .chargeWait => if 30000 ≤ vbank then ok (s.setSup { s.sup with meas := .chargeCount s.frame, vbank := vbank }) else ok s
  | _ => ok s

/-- A measurement that counted `n` frames is complete: C_meas is 1.25 µF for each, it passes with 10 J at VCHG, and it is recorded (R67, R69,
R71, R77). -/
def State.measEnd (s : State) (n : Nat) (bleed : Bool) : State :=
  let s1 := s.setSup { s.sup with cmeas := n, meas := .idle, measDue := false }
  let pass := decide (10 * joule2 ≤ s1.eAtVchg)
  let cap := min 0xFFFF (n / 8)
  let r : CapRecord := { cap := cap, bleed := bleed, pass := pass, hours := s.hours }
  let s2 := s1.setSup { s1.sup with passed := pass, caps := (r :: s1.sup.caps).take 8, hourFrom := s.frame, measAt := s.frame }
  let s3 := (((s2.wr Reg.HUP_CAP_MEAS.CAP cap).wr Reg.HUP_CAP_MEAS.AGE 0).wr Reg.HUP_CAP_MEAS.VALID 1).wr Reg.HUP_CAP_MEAS.METHOD (bit bleed)
  let s4 := (s3.wr Reg.HUP_STATUS.MEAS_FAIL (bit (!pass))).wr Reg.HUP_STATUS.MEAS_BUSY 0
  s4.recharge.refreshBank.refreshCeiling

/-- MEAS_COMPLETE (R69, R71): VBANK reaches the top of the 4 V interval. -/
def execMeasComplete (vbank : Nat) (s : State) : Host.Outcome State Fault Refusal :=
  match s.sup.meas with
  | .chargeCount start =>
    if 34000 ≤ vbank ∧ start < s.frame then ok ((s.setSup { s.sup with vbank := vbank }).measEnd (s.frame - start) false) else ok s
  | .bleedCount start top =>
    if top ≤ vbank ∧ start < s.frame then ok ((s.setSup { s.sup with vbank := vbank }).measEnd (s.frame - start) true) else ok s
  | _ => ok s

end Sys2Proof.Machine
end

