-- ==== Sys2Proof/Machine/Resets.lean ====
section
/-! DEFINITION. Resets of function, hot and warm scope, links, D3hot and Off, and the internal resets (R87, R101 to R103, R137 to R144,
R528, R544, R545). -/

set_option Elab.async false

namespace Sys2Proof.Machine

/-! ### Resets of a function (R44, R101, R102, R212) -/

/-- Word offsets of the registers of which every function has its own copy (R581). -/
def ownOffset (off : Nat) : Bool := (decide (0x100000 ≤ off ∧ off < 0x110000) && off != 0x100124) || off == 0x112004

/-- The staged copies of the window entries: number of the entry of an offset (R148). -/
def stagedEntry (off : Nat) : Option Nat := if 0x110000 ≤ off ∧ off < 0x111000 then some ((off - 0x110000) / 16) else none

/-- The reset scope of a cause as a code of keyScope (R17). -/
def Cause.scope : Cause → Nat
  | .function => 1
  | .hot => 2
  | .warm => 3
  | .cold => 5

/-- The key of a register field loses its value in a reset of function `f` of a scope: the function's own registers, the window entries it
owns, and at warm scope every shared register of that scope; the device's own window entries are sticky (R101, R148). -/
def State.keyReset (s : State) (f : Nat) (c : Cause) (k : Nat) : Bool :=
  let off := k / 64 % 2 ^ 23
  let within := decide (1 ≤ keyScope k ∧ keyScope k ≤ c.scope)
  within && (match stagedEntry off with
    | some n => decide (s.winOwner n = some f)
    | none =>
      if ownOffset off then keyFn k == f
      else if off == 0x20004 then k % 64 == 3 * f
      else if off == 0x20030 && k % 64 == 3 + f then true
      else decide (2 ≤ c.scope) && decide (2 ≤ keyScope k) && !(off == 0x20030 && decide (3 ≤ k % 64)))

/-- The registers of a function after its reset. -/
def State.resetRegs (s : State) (f : Nat) (c : Cause) : State :=
  let own (e : Nat × Option Nat) : Bool := e.1 / 2 ^ 23 == f
  { s with regs := s.regs.filter (fun e => !s.keyReset f c e.1)
           pairLow := s.pairLow.filter (fun e => !own e)
           pairHigh := s.pairHigh.filter (fun e => !own e) }

/-- The SEEN bit of a reset's cause in BRU_RESET_CAUSE (R110). -/
def State.resetSeen (s : State) (f : Nat) (c : Cause) : State :=
  match c with
  | .warm => s.wr Reg.BRU_RESET_CAUSE.WARM_SEEN 1
  | .hot => s.wr Reg.BRU_RESET_CAUSE.HOT_SEEN 1
  | .function => if f = 0 then s.wr Reg.BRU_RESET_CAUSE.FLR0_SEEN 1 else s.wr Reg.BRU_RESET_CAUSE.FLR1_SEEN 1
  | .cold => s

/-- The requests of a function at its reset: a link that is lost releases every tag of the port; else they stay in use until their completions
arrive or their timers expire, and the data is discarded (R135, R138) (DEDUCED: log entry 33). -/
def State.resetTags (s : State) (f : Nat) (c : Cause) : State :=
  if c = .function then
    { s with tags := s.tags.map (fun e => if e.1 / 16384 = f then (e.1, match e.2 with
        | .fetch _ _ _ t | .data _ _ t | .list _ t => TagUse.list 65536 t
        | u => u) else e) }
  else { s with tags := s.tags.filter (fun e => e.1 / 16384 != f) }

/-- A reset of function, hot or warm scope of one function (R101): its Reconcile entries are created, its commands end, its rings, MSI-X
state, configuration space, registers and windows return to their reset values, and its power request is P0
(DEDUCED, PRESUMED: log entries 32 and 40). -/
def State.resetFn (s : State) (f : Nat) (c : Cause) : State :=
  let s1 := (s.trigger [f] c).resetTags f c
  let aer := s1.cfgRaw f 0x104
  let e := s1.ep f
  let e1 : Ep := { perst := e.perst, resetting := some c, partFailed := e.partFailed, reconPosted := false,
                   cfg := if c = .warm then [] else Tbl.set 0 [] 0x104 aer }
  let s2 := s1.setEp f e1
  let s3 : State := { s2 with rings := s2.rings.filter (fun x => x.1 / 1024 != f)
                              msix := s2.msix.filter (fun x => x.1 / 2048 != f)
                              wins := s2.wins.filter (fun x => decide (s2.winOwner x.1 ≠ some f)) }
  ((s3.resetRegs f c).resetSeen f c).refreshTarget

/-- PERST_ASSERT (R87, R101, R545): the trigger moment of a warm reset, ignored from brown-out recognition to the next cold start; in P3 after
PME_TO_Ack with OFF_EN the device goes to Off (DEDUCED, PRESUMED: log entries 32 and 40). -/
def execPerstAssert (fn : Fn) (s : State) : Host.Outcome State Fault Refusal :=
  let f := fn.val
  if s.hasFn f && !(s.ep f).perst then
    let s1 := s.setEp f { s.ep f with perst := true }
    if !s.serving then ok s1
    else if s.pstate = 3 ∧ s.pphase = 0 ∧ (s.ep f).pmeOff = true ∧ s.on Reg.PWR_CFG.OFF_EN = true then
      let s2 := ((s1.trigger [0, 1] .cold).cutJournal.interrupt).measAbort
      ok (s2.setSup { s2.sup with off := true, coreUp := false, orGate := false, steps := 0, goods := 0, nextCause := 0, drainOk := true })
    else ok (s.fns.foldl (fun s g => s.resetFn g .warm) s1)
  else ok s

/-- PERST_DEASSERT (R87, R143, R545): WAKE# is released, the event wakes the device, and a device that is Off starts cold. -/
def execPerstDeassert (fn : Fn) (s : State) : Host.Outcome State Fault Refusal :=
  let f := fn.val
  if s.hasFn f && (s.ep f).perst then
    let s1 := (s.setEp f { s.ep f with perst := false }).emit (.wakePin f false)
    if s.sup.off then (if s.riseNow < s.sup.vin then ok s1.coldStart else ok s1)
    else if s.serving then ok (s1.latchWake Reg.PWR_WAKE.PERST)
    else ok s1
  else ok s

/-- HOT_RESET (R101, R137): an in-band hot reset is recognised (DEDUCED: log entry 35). -/
def execHotReset (fn : Fn) (s : State) : Host.Outcome State Fault Refusal :=
  if s.serving && s.hasFn fn.val && s.linkUp fn.val then ok (s.resetFn fn.val .hot) else ok s

/-- LINK_DOWN (R137, R138, R140): the Data Link Layer leaves DL_Active: a hot reset of the function; SURPRISE without PME_Turn_Off. -/
def execLinkDown (fn : Fn) (s : State) : Host.Outcome State Fault Refusal :=
  let f := fn.val
  if s.serving && s.hasFn f && s.linkUp f then
    let surprise := !(s.ep f).pmeOff
    let s1 := (s.resetFn f .hot).wr Reg.HIF_EP_EVENT.LINK_DOWN 1 0 f
    ok (if surprise then s1.wr Reg.HIF_EP_EVENT.SURPRISE 1 0 f else s1)
  else ok s

/-- Configuration requests are answered normally: Grind step 2 has ended (R119), or the boot code serves the host in recovery (R517). -/
def State.configUp (s : State) (f : Nat) : Bool :=
  s.serving && s.hasFn f && s.linkUp f && (s.ep f).resetting.isNone && (decide (3 ≤ s.boot.step) || s.boot.recovery)

/-- FLR (R101): a configuration write initiates a Function Level Reset. -/
def execFlr (fn : Fn) (s : State) : Host.Outcome State Fault Refusal :=
  if s.configUp fn.val then ok ((s.wakeTlp fn.val).resetFn fn.val .function) else ok s

/-- RESET_END (R102): the reset of a function ends; a warm reset lasts until PERST# is deasserted. -/
def execResetEnd (fn : Fn) (s : State) : Host.Outcome State Fault Refusal :=
  let f := fn.val
  if s.serving && (s.ep f).resetting.isSome && !(s.ep f).perst then ok (s.setEp f { s.ep f with resetting := none }) else ok s

/-! ### Links (R137, R141, R145) -/

/-- A lane count the arrangement of ports has (R113). -/
def State.widthOk (s : State) (w : Nat) : Bool :=
  [1, 2, 4, 8].contains w || (w == 16 && !s.on Reg.HIF_EP_LINK.PORT_MODE)

/-- LINK_UP (R113, R137, R145): the Data Link Layer enters DL_Active; 64.0 GT/s needs Flit mode. -/
def execLinkUp (fn : Fn) (speed : Fin 7) (width : Nat) (flit : Bool) (s : State) : Host.Outcome State Fault Refusal :=
  let f := fn.val
  if s.serving && s.hasFn f && !s.linkUp f && !(s.ep f).perst && (s.ep f).resetting.isNone && decide (0 < speed.val)
      && s.widthOk width && (flit || decide (speed.val < 6)) then
    let s1 := ((s.wr Reg.HIF_EP_LINK.SPEED speed.val 0 f).wr Reg.HIF_EP_LINK.WIDTH width 0 f).wr Reg.HIF_EP_LINK.FLIT (bit flit) 0 f
    ok ((s1.wr Reg.HIF_EP_LINK.DL_UP 1 0 f).wr Reg.HIF_EP_LINK.L0P_WIDTH width 0 f)
  else ok s

/-- L0P_WIDTH_CHANGE (R141, R145): the active lane count changes under L0p. -/
def execL0pWidthChange (fn : Fn) (width : Nat) (s : State) : Host.Outcome State Fault Refusal :=
  let f := fn.val
  if s.serving && s.hasFn f && s.linkUp f && s.widthOk width && decide (width ≤ s.rd Reg.HIF_EP_LINK.WIDTH 0 f) then
    ok (s.wr Reg.HIF_EP_LINK.L0P_WIDTH width 0 f)
  else ok s

/-! ### D3hot (R140, R528, R544) -/

/-- The function leaves D3hot: the events that occurred there are posted (R544). -/
def State.leaveD3 (s : State) (f : Nat) : State :=
  let owed := (s.ep f).owed
  owed.foldl (fun s o => s.postAsync f o.1 o.2) (s.setEp f { s.ep f with d3 := false, owed := [] })

/-- A write of the Power Management Control/Status register: PME_En, PME_Status (W1C) and PowerState, of which D0 and D3hot are supported
(R113, R144, R528). -/
def State.pmcsr (s : State) (f data : Nat) : State :=
  let old := s.cfgRaw f 0x44
  let st := if data % 4 = 3 then 3 else if data % 4 = 0 then 0 else old % 4
  let pme := old.testBit 15 && !data.testBit 15
  let v := st + bit (data.testBit 8) * 2 ^ 8 + bit pme * 2 ^ 15
  let e := s.ep f
  let s1 := s.setEp f { e with cfg := Tbl.set 0 e.cfg 0x44 v, pme := pme }
  if st = 3 then (if e.d3 then s1 else (s1.setEp f { s1.ep f with d3 := true }).refreshTarget)
  else if e.d3 then (s1.leaveD3 f).refreshTarget
  else s1

/-- PMCSR_WRITE (R143, R528): the write is a TLP, and so a wake source. -/
def execPmcsrWrite (fn : Fn) (data : Word) (s : State) : Host.Outcome State Fault Refusal :=
  if s.configUp fn.val then ok ((s.pmcsr fn.val data.toNat).wakeTlp fn.val) else ok s

/-- PME_TURN_OFF (R140, R545): the device answers PME_TO_Ack. -/
def execPmeTurnOff (fn : Fn) (s : State) : Host.Outcome State Fault Refusal :=
  let f := fn.val
  if s.serving && s.hasFn f && s.linkUp f then
    ok ((s.setEp f { s.ep f with pmeOff := true }).emit (.pmeToAck f))
  else ok s

/-! ### Internal resets (R103, R111) -/

/-- WATCHDOG_RESTART (R103): the expiry is the trigger moment of a cold reset whose drain runs from VIN (DESIGN CHOICE: log entry 41). -/
def execWatchdogRestart (s : State) : Host.Outcome State Fault Refusal :=
  if s.serving then ok (s.coldTrigger .watchdog) else ok s

/-- COLD_REQ (R103, R111): a host cold request with KEY 0xA5, which LOCK blocks; any other key records a register-write event. -/
def execColdReq (fn : Fn) (key : Byte) (s : State) : Host.Outcome State Fault Refusal :=
  if s.reachable fn.val then
    if key ≠ 0xA5 then ok ((s.wakeTlp fn.val).regEvent 0x10008 fn.val)
    else if s.on Reg.BRU_CTRL.LOCK then ok (s.wakeTlp fn.val)
    else ok (s.coldTrigger .coldReq)
  else ok s

/-- LOCKSTEP_MISMATCH (R39, R103): the pair is fenced, and the other pairs take its contexts over with commands held. -/
def execLockstepMismatch (pair : Fin 8) (s : State) : Host.Outcome State Fault Refusal :=
  let p := pair.val
  let active := s.rd Reg.CSQ_PAIRS.ACTIVE
  if s.serving && active.testBit p then
    let f := setBit (s.rd Reg.CSQ_PAIRS.FENCED) p
    let s1 := (s.wr Reg.CSQ_PAIRS.ACTIVE (clearBit active p)).wr Reg.CSQ_PAIRS.FENCED f
    let s2 := ((s1.setHealth 0x081 f).bump Reg.CSQ_CNT.TAKEOVERS).partFail
    ok { s2 with pairs := { takeover := some p } }
  else ok s

/-- LOCKSTEP_TAKEOVER_DONE (R39, R103): the contexts are taken over and fetching resumes. -/
def execLockstepTakeoverDone (s : State) : Host.Outcome State Fault Refusal :=
  if s.serving && s.pairs.takeover.isSome then ok { s with pairs := { takeover := none } } else ok s

end Sys2Proof.Machine
end

