-- ==== Sys2Proof/Machine/Bringup.lean ====
section
/-! DEFINITION. Bring-up: the Grind steps, journal replay and the recovery of unfinished work, Bloom and Pour entry, and the start of new
firmware (R90 to R100, R108, R213, R258, R270, R341, R350, R366, R492, R494, R516 to R519). -/

set_option Elab.async false

namespace Sys2Proof.Machine

/-! ### Steps 0 and 1 (R92, R516, R517) -/

/-- BOOT_CODE_LOADED (R92): step 0 ends: the boot code runs on the lockstep pairs, each retested (DESIGN CHOICE: log entry 42). -/
def execBootCodeLoaded (s : State) : Host.Outcome State Fault Refusal :=
  if s.serving && s.boot.step == 0 then
    let s1 := (s.wr Reg.CSQ_PAIRS.ACTIVE 0xFF).setHealth 0x081 0
    ok (({ s1 with boot := { s1.boot with step := 1 } } : State).wr Reg.BRU_STAGE.STEP 1)
  else ok s

/-- The check of a slot at a cold start: its header, its signature and its base Rinbo image (R513). -/
def State.slotPasses (s : State) (i : Nat) (signatureOk : Bool) : Bool := s.fwPasses i signatureOk && (s.fwSlot i).baseOk

/-- A slot's check is shown; a failure is recorded (R516, R525). -/
def State.slotChecked (s : State) (i : Nat) (pass : Bool) : State :=
  let s1 := s.setFw i { s.fwSlot i with check := if pass then 1 else 2 }
  if pass then s1 else s1.event 0x39 0x0100 i

/-- A slot boots: step 1 has ended, and its base image is the boot store's (R302). -/
def State.bootSlot (s : State) (i failCount : Nat) : State :=
  let s1 : State := { s with bst := { s.bst with active := i, failCount := failCount }, boot := { s.boot with step := 2 }
                             ucode := { s.ucode with base := (s.fwSlot i).base } }
  s1.bstRefresh.wr Reg.BRU_STAGE.STEP 2

/-- FIRMWARE_SLOT_CHECK (R516, R517): the operands answer whether each slot's signatures verify. -/
def execFirmwareSlotCheck (ok1 ok2 : Bool) (s : State) : Host.Outcome State Fault Refusal :=
  if s.serving && s.boot.step == 1 && !s.boot.recovery then
    let n := s.bst.failCount + 1
    let a := s.bst.active
    let b := 3 - a
    let sig (i : Nat) : Bool := if i = 1 then ok1 else ok2
    let pa := s.slotPasses a (sig a)
    let s1 := s.slotChecked a pa
    if pa && decide (n < 3) then ok (s1.bootSlot a n)
    else
      let pb := s.slotPasses b (sig b)
      let s2 := s1.slotChecked b pb
      if pb then ok ((s2.event 0x39 0x0101 (b + (if pa then 2 else 1) * 4)).bootSlot b 0)
      else
        let s3 : State := { s2 with bst := { s2.bst with failCount := n }, boot := { s2.boot with recovery := true } }
        ok (((s3.bstRefresh.wr Reg.BST_STATUS.RECOVERY 1).wr Reg.BRU_STAGE.ADMIN_UP 1).event 0x39 0x0102 0)
  else ok s

/-! ### Step 2 (R74, R92, R119, R270, R302, R494, R586) -/

/-- Register fields take the values of a record, by field key. -/
def State.loadFields (s : State) (l : List (Nat × Nat)) : State :=
  l.foldl (fun s e => match (fieldsAt (e.1 / 64 % 2 ^ 23)).find? (fun x => x.1.lo == e.1 % 64 && !x.2.2) with
    | some x => s.wr x.1 e.2 x.2.1 (keyFn e.1)
    | none => s) s

/-- The key of CHN_LUN_FAIL, which step 5 restores (R276). -/
def failKey (k : Nat) : Bool :=
  let off := k / 64 % 2 ^ 23
  decide (0x200000 ≤ off ∧ off < 0x240000) && off % 4096 == 12

/-- The kept values of sticky registers return (R586): what the always-on domain counted since the cold start is added, a measurement that
has completed since stands, and the cause of the cold start is shown (R110). -/
def State.restoreKept (s : State) : State :=
  let reads := s.rd Reg.SBD_CNT.READS
  let refused := s.rd Reg.SBD_CNT.REFUSED
  let fresh := s.on Reg.HUP_CAP_MEAS.VALID
  let regs := (s.keptRegs.filter (fun e => !failKey e.1)).foldl (fun (t : Tbl Nat) e => Tbl.set 0 t e.1 e.2) s.regs
  let s1 : State := { s with regs := regs, keptRegs := s.keptRegs.filter (fun e => failKey e.1), boot := { s.boot with restored := true } }
  let s2 := (s1.bump Reg.SBD_CNT.READS reads).bump Reg.SBD_CNT.REFUSED refused
  let s3 := if fresh then
      (((s2.wr Reg.HUP_CAP_MEAS.CAP (s.rd Reg.HUP_CAP_MEAS.CAP)).wr Reg.HUP_CAP_MEAS.AGE (s.rd Reg.HUP_CAP_MEAS.AGE)).wr
        Reg.HUP_CAP_MEAS.METHOD (s.rd Reg.HUP_CAP_MEAS.METHOD)).wr Reg.HUP_STATUS.MEAS_FAIL (s.rd Reg.HUP_STATUS.MEAS_FAIL)
    else s2
  (s3.wr Reg.BRU_RESET_CAUSE.COLD s.sup.nextCause).wr Reg.BRU_RESET_CAUSE.DRAIN_OK (bit s.sup.drainOk)

/-- A trip is counted by the cold start that follows it (R560). -/
def State.countTrip (s : State) : State := if s.sup.nextCause = 5 then s.bump Reg.THM_CNT.TRIPS else s

/-- The LUNs whose raw bits were written take effect at the cold start (R270). -/
def State.rawTake (s : State) : State :=
  (List.range 64).foldl (fun s c => s.wr Reg.CHN_RAW_ACT.RAW (s.rd Reg.CHN_RAW_EN.RAW c) c) s

/-- The random base key of slot 0 at the first cold start after manufacture (R494). -/
def State.firstKey (s : State) : State :=
  if (s.keySlot 0).st = 0 then
    (s.setKeySlot 0 { st := 1, base := Config.drbg s.free, generated := true, epoch := 1, oldest := 0 }).freeNext
  else s

/-- ROOT_KEY_DERIVATION (R92, R302): step 2 ends: the keys, the board's configuration record and the kept values are in place, saved features
take effect, and the control store is loaded. The operands answer whether the customer images' signatures verify. -/
def execRootKeyDerivation (okA okB : Bool) (s : State) : Host.Outcome State Fault Refusal :=
  if s.serving && s.boot.step == 2 then
    let s1 : State := { s with sec := { s.sec with ready := true }, boot := { s.boot with step := 3 } }
    let s2 := (((s1.restoreKept.loadFields s.board.fields).countTrip.rawTake.firstKey).secRefresh).bstRefresh
    let s3 := s2.saved.foldl (fun s e => s.applyFeature e.1 (e.2 - 1) 0) s2
    ok (((s3.ucodeStart okA okB).refreshBank.refreshCeiling).wr Reg.BRU_STAGE.STEP 3)
  else ok s

/-! ### Steps 3 and 4 (R92, R427) -/

/-- HOST_INTERFACE_START (R92, R152): step 3 ends: admin service begins, and DRAM training starts. -/
def execHostInterfaceStart (s : State) : Host.Outcome State Fault Refusal :=
  if s.serving && s.boot.step == 3 then
    let s1 : State := { s with boot := { s.boot with step := 4 } }
    let s2 := ((s1.thiCreate.dramStart).wr Reg.BRU_STAGE.STEP 4).wr Reg.BRU_STAGE.ADMIN_UP 1
    ok (s2.fns.foldl (fun s f => if s.on Reg.HIF_ADM_CTRL.ENABLE 0 f then s.wr Reg.HIF_ADM_CTRL.READY 1 0 f else s) s2)
  else ok s

/-- Raw flash of the populated LUNs in bytes of user data (R341, R428). -/
def State.rawFlash (s : State) : Nat :=
  ((List.range 64).flatMap (fun c => (List.range 32).map (fun l =>
    if s.lunPopulated c l then
      let g := s.ucode.active
      let d := (s.lun c l).die
      dieBlocks g d * s.planesOf c l * diePages g d false * dieSlots g d * 16384
    else 0))).foldl (· + ·) 0

/-- The map space of the six sub-channels outside the Bloom pair holds 5 bytes for each IU of the raw flash (R428). -/
def State.mapFits (s : State) : Bool := decide (s.rawFlash / 16384 * 5 ≤ 6 * (s.scGranules - 4096) * 2 ^ 20)

/-- The first 4 GiB of both members of the Bloom pair are initialised. -/
def State.bloomSwept (s : State) : Bool :=
  match s.dram.pair with
  | [a, b] => decide (4096 ≤ (s.sc a).swept ∧ 4096 ≤ (s.sc b).swept)
  | _ => false

/-! ### Step 5: replay (R108, R212, R350, R357, R366) -/

/-- Block states at replay (R108): an erase without its end is ERASE_UNFIN, and the block of an interrupted program is closed and its data
relocated. -/
def Blk.restart (b : Blk) : Blk :=
  let b1 := { b with valid := 0, started := 0 }
  if 2 ≤ b.started ∨ b.st = .erasing then { b1 with st := .eraseUnfin, wp := none, busyFrom := none, refresh := false, band := 0, kind := 0 }
  else if b.busyFrom.isSome then { b1 with st := .closed, busyFrom := none, refresh := true }
  else b1

/-- The bands after a restart: a slot whose block is no longer the band's is gone, and an open band with a block that cannot take its next
word line is closed, or dropped when nothing was written. -/
def State.restartBands (s : State) : State :=
  s.bands.foldl (fun s b =>
    let mine (c p : Nat) : Blk := s.blk (mkAddr c b.dieSet p (b.block c) 0 0)
    let planes := List.range (s.planesOf (b.chans.headD 0) b.dieSet)
    let keep := b.blocks.filter (fun e => planes.all (fun p => (mine e.1 p).band == b.number + 1))
    let fit := keep.all (fun e => planes.all (fun p => match (mine e.1 p).st with
      | .erased | .opened => true
      | _ => false))
    let drop : State := { s with bands := s.bands.filter (fun x => x.number != b.number)
                                 blks := Tbl.mapAll {} (fun _ x => if x.band = b.number + 1 then { x with band := 0 } else x) s.blks }
    if keep.isEmpty then drop
    else if b.isOpen && !fit && b.next == 0 then drop
    else s.setBand { b with blocks := keep, channels := (keep.map (·.1)).foldl setBit 0, stripes := []
                            isOpen := b.isOpen && fit, closedAt := if b.isOpen && !fit then s.frame else b.closedAt }) s

/-- Replay in progress: the state, the highest OSN folded into each IU's entry, the ranges recorded and not applied, the OSNs committed. -/
abbrev Replay := State × Tbl Nat × List RangeEnt × List Nat

/-- Replays one record; `drained` says that the batch is a complete drain's (R350, R357, R366). -/
def replayRec (drained : Bool) (a : Replay) (r : Rec) : Replay :=
  let s := a.1
  match r with
  | .map guarded _ iu entry old =>
    if guarded then (if s.entry iu = .media old then (s.setMap iu (entOf entry), a.2) else a)
    else (s.setMap iu (entOf entry), Tbl.set 0 a.2.1 iu old, a.2.2)
  | .range zeroes iu count osn =>
    let st : RangeSt := if a.2.2.2.contains osn then .committed else if drained then .adopted else .landing
    (s, a.2.1, a.2.2.1.filter (fun x => x.osn != osn) ++ [{ osn := osn, zeroes := zeroes, firstIu := iu, count := count, st := st }], a.2.2.2)
  | .commit _ _ _ _ _ osn =>
    (s, a.2.1, a.2.2.1.map (fun x => if x.osn = osn then { x with st := .committed } else x), osn :: a.2.2.2)
  | .rangeDone osn upto =>
    match a.2.2.1.find? (fun x => x.osn == osn) with
    | some x =>
      let n := min x.count (upto - x.firstIu)
      let s1 := (List.range n).foldl (fun s i =>
        let iu := x.firstIu + i
        if osn < Tbl.get 0 a.2.1 iu then s else s.setMap iu (if x.zeroes then .zeroed else .unmapped)) s
      let x1 := { x with firstIu := x.firstIu + n, count := x.count - n }
      (s1, a.2.1, (a.2.2.1.map (fun y => if y.osn = osn then x1 else y)).filter (fun y => y.count != 0), a.2.2.2)
    | none => a
  | _ => a

/-- Replays the durable batches on the map as of the last checkpoint; a page that a batch changes is dirty from that batch on (R348, R350). -/
def State.replayBatches (s : State) : Replay :=
  let batch := s.ftl.journal.batch
  let s0 := s.ftl.root.foldl (fun s e => match e.2 with
    | .media a => s.countValid a true
    | _ => s) { s with ftl := { s.ftl with map := s.ftl.root } }
  let r := s.ftl.journal.durable.foldl (fun (a : Replay) b =>
    let s1 : State := { a.1 with ftl := { a.1.ftl with journal := { a.1.ftl.journal with batch := b.1 } } }
    let whole := b.2.any (fun r => match r with
      | .drainEnd _ => true
      | _ => false)
    b.2.foldl (replayRec whole) (s1, a.2)) (s0, [], [], [])
  ({ r.1 with ftl := { r.1.ftl with journal := { r.1.ftl.journal with batch := batch } } }, r.2)

/-- An IU whose drained stack is mapped or folded: its entry, with a MAP record (R366). -/
def State.drainMap (s : State) (iu addr top : Nat) : State := (s.setMap iu (.media addr)).record (.map false 0 iu addr top)

/-- The drained versions (R366): a single whole version is mapped to its drain page; every other stack is folded into a drain-fold band; a
version that no page holds stays in the buffer, dirty. -/
def State.replayDrain (s : State) (committed : List Nat) : State :=
  let vs := s.ftl.drained.map (fun v => { v with st := if committed.contains v.osn then .committed else .adopted, clean := false, used := s.frame })
  let ius := vs.foldl (fun (l : List Nat) v => insertNat v.iu l) []
  let of (iu : Nat) : List Version := vs.filter (fun v => v.iu == iu)
  let direct (iu : Nat) : Option (Nat × Nat) := match of iu with
    | [v] => if v.mask = 15 then v.folded.map (fun a => (a, v.osn)) else none
    | _ => none
  let s1 : State := { s with ftl := { s.ftl with versions := vs.map (fun v => { v with folded := none }) } }
  let folds := (ius.filter (fun iu => (direct iu).isNone)).map (fun iu => (iu, s1.foldIu iu false))
  let laid := State.layDown .drainFold 4 (folds.map (fun f => (f.1, f.2.1))) s1
  let placed := (folds.zip laid.1).filterMap (fun e => e.2.map (fun a => (e.1.1, a, e.1.2.2)))
  let s2 := ius.foldl (fun s iu => match direct iu with
    | some (a, o) => s.drainMap iu a o
    | none => s) laid.2
  let s3 := placed.foldl (fun s e => s.drainMap e.1 e.2.1 e.2.2) s2
  let s4 := s3.keepVersions (fun v => (direct v.iu).isNone && placed.all (fun e => e.1 != v.iu))
  let s5 := s4.mapVersions (fun v => let p := s4.mirrorPair v.iu; { v with scA := p.1, scB := p.2, mirrored := v.mask })
  { s5 with ftl := { s5.ftl with drained := [] } }

/-- Blocks of LUNs that enter or leave raw use at this start (R270). -/
def State.rawBlocks (s : State) : State :=
  { s with blks := Tbl.mapAll {} (fun k b =>
      let a := k * 2 ^ 14
      if s.lunRaw (adChannel a) (adLunNo a) then
        (if b.valid ≠ 0 then { b with refresh := true } else if b.st = .raw then b else { b with st := .raw, wp := none, band := 0, kind := 0 })
      else if b.st = .raw then { b with st := .eraseUnfin, wp := none, slc := false }
      else b) s.blks }

/-- The LUNs that have failed are known again (R276). -/
def State.restoreFailed (s : State) : State :=
  { s with regs := s.keptRegs.foldl (fun (t : Tbl Nat) e => Tbl.set 0 t e.1 e.2) s.regs, keptRegs := [] }

/-- CAPACITY and the spare space of the first cold start after manufacture (R341, R367). -/
def State.firstCapacity (s : State) : State :=
  if s.boot.manufactured then s
  else
    let user := ((List.range 64).flatMap (fun c => (List.range 32).map (fun l =>
      if s.chanReady c && s.lunPopulated c l && !s.lunFailed c l && !s.lunRaw c l then
        let g := s.ucode.active
        let d := (s.lun c l).die
        dieBlocks g d * s.planesOf c l * diePages g d false * dieSlots g d * 16384
      else 0))).foldl (· + ·) 0
    let ius := user * 63 * (100 - s.board.opPct) / (64 * 100 * 16384)
    let s1 : State := { s with ftl := { s.ftl with capacity := 4 * ius } }
    { s1 with ftl := { s1.ftl with spare0 := s1.spare }, boot := { s1.boot with manufactured := true } }

/-- JPB_MEAS of the last drain from the bank (R238): the energy in excess of OVH for each byte, in 0.01 nJ; above the model it is recorded. -/
def State.takeSample (s : State) : State :=
  match s.sup.sample with
  | some (e, n) =>
    let m := min 0xFFFF ((e - s.rd Reg.FRM_HOLDUP.OVH * (joule2 / 10)) / (20000 * max 1 n))
    let s1 := (s.setSup { s.sup with sample := none }).wr Reg.FRM_JPB.MEAS m
    let s2 := s1.refreshCeiling
    if s2.rd Reg.FRM_JPB.MODEL < m then s2.event 0x03 0x0103 (s2.rd Reg.FRM_JPB.MODEL + m * 2 ^ 16) else s2
  | none => s

/-- Every populated channel is ready or has failed (R258). -/
def State.channelsUp (s : State) : Bool :=
  (List.range 64).all (fun c => s.rd Reg.CHN_POP.TARGETS c == 0 || s.chanReady c || s.rd Reg.CHN_ENG_STATUS.STATE c == 4)

/-- Step 5 ends once replay is complete and step 4 has ended: the Reconcile log is restored (R92, R105). -/
def State.endStep5 (s : State) : State :=
  if s.boot.replayed && s.boot.step4 && !s.boot.step5 then
    (({ s with boot := { s.boot with step5 := true } } : State).wr Reg.BRU_STAGE.STEP 6).postRecon
  else s

/-- Pages of the map (R342). -/
def State.mapPages (s : State) : Nat :=
  (s.ftl.map.foldl (fun (a : Nat × Nat) e => if e.1 / 819 + 1 = a.2 then a else (a.1 + 1, e.1 / 819 + 1)) (0, 0)).1

/-- JOURNAL_REPLAY (R108, R350, R366): the journal is replayed and every recovery action is finished
(DEDUCED, DESIGN CHOICE: log entries 19, 21 and 22). -/
def execJournalReplay (s : State) : Host.Outcome State Fault Refusal :=
  if s.serving && decide (s.boot.stage = .grind ∧ 4 ≤ s.boot.step) && !s.boot.replayed && s.channelsUp then
    let unfin := (s.blks.filter (fun e => decide (2 ≤ e.2.started ∨ e.2.st = .erasing))).length
    let s1 := s.restoreFailed
    let s2 := ({ s1 with blks := Tbl.mapAll {} (fun _ b => b.restart) s1.blks } : State).restartBands
    let r := s2.replayBatches
    let live := r.2.2.1.filter (fun x => decide (x.st ≠ .landing))
    let s3 := live.foldl (fun s x => s.addRange x) r.1
    let s4 := (s3.replayDrain r.2.2.2).settle
    let s5 := (s4.rawBlocks.firstCapacity).takeSample
    let s6 : State := { s5 with ftl := { s5.ftl with osn := s5.ftl.mark - 1 }, boot := { s5.boot with replayed := true, mapLeft := s5.mapPages } }
    let s7 := s6.wr Reg.BRU_RECOVERY.ERASE_UNFIN (min 0xFFFF unfin)
    ok ((s7.refreshFree.refreshJournal.refreshWear).endStep5)
  else ok s

/-! ### Bloom and Pour (R90, R91, R94, R98, R100) -/

/-- BLOOM_ENTRY (R91, R94, R112, R380, R516). -/
def execBloomEntry (s : State) : Host.Outcome State Fault Refusal :=
  if s.serving && decide (s.boot.stage = .grind) && s.boot.step5
      && (decide (s.rd Reg.FTL_GC_CFG.RESERVE_MIN < s.freeBands) || s.readOnly) then
    let s1 : State := { s with boot := { s.boot with stage := .bloom } }
    let s2 := ((s1.wr Reg.BRU_STAGE.STAGE 1).wr Reg.BRU_STAGE.STEP 0).wr Reg.BRU_STAGE.IO_UP 1
    let s3 := (s2.wr Reg.BRU_TIMING.BLOOM_MS (min 0xFFFF ((s.frame - s.sup.vinAt) / 100))).wr Reg.BRU_RECOVERY.RECON (min 0xFFFF s.recon.length)
    let sv := (s3.fwSlot s3.bst.active).sv
    let up := decide (s3.bst.fusedSv < sv)
    let s4 : State := { s3 with bst := { s3.bst with failCount := 0, fusedSv := max s3.bst.fusedSv sv } }
    let s5 := if up then s4.event 0x39 0x0104 sv else s4
    ok (((s5.bstRefresh.refreshBank.refreshCeiling).autoJoin).asyncAll 1 1)
  else ok s

/-- Every sub-channel that passed training is whole: none trains or is still being initialised (R98). -/
def State.dramWhole (s : State) : Bool :=
  (List.range 8).all (fun n => !s.board.dramMask.testBit n || (s.rd Reg.DRC_STATUS.FAILED).testBit n || s.rd Reg.DRC_SC.STATE n == 3)

/-- POUR_ENTRY (R91, R98, R112). -/
def execPourEntry (s : State) : Host.Outcome State Fault Refusal :=
  if s.serving && decide (s.boot.stage = .bloom) && s.dramWhole && s.boot.mapLeft == 0 && s.boot.extended then
    let s1 : State := { s with boot := { s.boot with stage := .pour } }
    let s2 := ((s1.wr Reg.BRU_STAGE.STAGE 2).wr Reg.BRU_STAGE.MAP_RESIDENT 1).wr Reg.BRU_TIMING.POUR
      (min 0xFFFF ((s.frame - s.sup.vinAt) / 1000))
    ok (s2.refreshCeiling.asyncAll 1 2)
  else ok s

/-- BLOOM_BOUND_MISSED (R99, R100): Bloom was not entered within 2.0 s; the device stays in Grind and records the step in progress. -/
def execBloomBoundMissed (s : State) : Host.Outcome State Fault Refusal :=
  if s.serving && decide (s.boot.stage = .grind) && !s.boot.boundMissed && decide (s.sup.vinAt + 200000 ≤ s.frame) then
    ok (({ s with boot := { s.boot with boundMissed := true } } : State).event 0x01 0x0007 (s.rd Reg.BRU_STAGE.STEP))
  else ok s

/-! ### Firmware activation (R213, R519) -/

/-- ACTIVATION_DRAIN_END (R213): every other context has been released, or 500 fr have passed: the remaining contexts are persisted and the
new firmware is started. -/
def execActivationDrainEnd (s : State) : Host.Outcome State Fault Refusal :=
  if s.serving && s.bst.activator != 0 && !s.bst.swapped
      && (decide (s.bst.commitAt + 500 ≤ s.frame) || s.live.all (fun e => e.1 + 1 == s.bst.activator)) then
    ok { s with bst := { s.bst with swapped := true } }
  else ok s

/-- FIRMWARE_RESUME (R213, R302, R519): the new firmware restores the contexts and resumes fetching: the base Rinbo image follows, by a swap
when it is the active one, and the completion of FW_ACTIVATE is written first. -/
def execFirmwareResume (s : State) : Host.Outcome State Fault Refusal :=
  if s.serving && s.bst.swapped then
    let c := s.bst.activator - 1
    let g := (s.fwSlot s.bst.active).base
    let s1 : State := { s with bst := { s.bst with swapped := false, activator := 0 }, ucode := { s.ucode with base := g } }
    let s2 := (s1.bstRefresh).bump Reg.CSQ_CNT.ACTIVATIONS
    let s3 := if s2.rd Reg.UCS_STATUS.SOURCE = 0 then
        let t := s2.swapSet g 0 0
        { t with ucode := { t.ucode with loader := 0 } }
      else s2
    if h : c < 65536 then execCompletionWrite ⟨c, h⟩ s3 else ok s3
  else ok s

end Sys2Proof.Machine
end

