-- ==== Sys2Proof/Machine/Thermal.lean ====
section
/-! DEFINITION. The thermal rows: samples, the orderly stop's end, the hardware trip and its cool-down, and the temperature history (R319,
R553 to R561). -/

set_option Elab.async false

namespace Sys2Proof.Machine

/-- The hardware trip (R559): the fans run at rated speed, a cold reset with a drain from VIN begins, class B operations are reset. During a
drain no second trigger moment arises. -/
def State.trip (s : State) : State :=
  let s1 : State := { s with thermal := { s.thermal with tripped := true } }
  (s1.coldTrigger .trip).brownChannels

/-- CORE_DIODE_SAMPLE (R553, R554, R557, R559, R448): none is a conversion that failed. A diode that departs by more than 15.0 °C from the median
of its group for 10 samples is broken; two unbroken samples of 112.0 °C trip, and 120.0 °C in the drain of a trip cuts the rails. -/
def execCoreDiodeSample (diode : Fin 40) (reading : Option Int) (s : State) : Host.Outcome State Fault Refusal :=
  if s.sup.coreUp then
    let d := diode.val
    let k := sensorKey 0 d
    let x := s.sensor k
    let others := ((List.range 4).filter (fun i => 4 * (d / 4) + i != d)).filterMap (fun i =>
      let y := s.sensor (sensorKey 0 (4 * (d / 4) + i))
      if y.seen then some y.temp else none)
    let deviates := match reading with
      | some t => decide (150 < (t - medianOf (t :: others)).natAbs)
      | none => false
    let range := match reading with
      | some t => decide (-400 ≤ t ∧ t ≤ 1500)
      | none => false
    let n := if deviates then min 10 (x.deviant + 1) else 0
    let s1 := s.sampled k { x with deviant := n } reading (!range || decide (10 ≤ n)) deviates
    let y := s1.sensor k
    let t := reading.getD 0
    let hot := reading.isSome && !y.broken && decide (1120 ≤ t)
    let s2 := s1.setSensor k { y with atTrip := if hot then min 2 (y.atTrip + 1) else 0 }
    let s3 := match reading with
      | some t => if 32 ≤ d then s2.dramDiode (d - 32) t else s2
      | none => s2
    if hot && decide (1 ≤ y.atTrip) && decide (s.sup.drain = .none) then ok s3.trip
    else if reading.isSome && decide (1200 ≤ t) && !y.broken && decide (s.sup.drain = .trip) then ok s3.drainCut
    else ok (s3.stopCheck k)
  else ok s

/-- BOARD_SENSOR_SAMPLE (R553, R554): inputs the record marks absent are ignored; an open or a shorted input is broken. -/
def execBoardSensorSample (input : Fin 4) (reading : Int) (s : State) : Host.Outcome State Fault Refusal :=
  if s.sup.coreUp && s.on Reg.THM_EXT.PRESENT input.val then
    let k := sensorKey 1 input.val
    ok ((s.sampled k (s.sensor k) (some reading) (decide (reading < -400 ∨ 1500 < reading)) false).stopCheck k)
  else ok s

/-- The temperature of a TEMP_READ result in 0.1 °C: counts of TEMP_SCALE, and TEMP_OFFSET. -/
def dieTemp (g : Img) (d : Nat) (counts : Int) : Int :=
  counts * (imgHalf g (dieAt g d 0x036) : Int) / 10 + signed16 (imgHalf g (dieAt g d 0x034))

/-- NAND_TEMP_READ (R319, R553, R554): none is a trap of the sequence. Two implausible samples break the sensor; a plausible one sets the LUN's
temperature and band. -/
def execNandTempRead (ch : Chan) (lun : LunNo) (reading : Option Int) (s : State) : Host.Outcome State Fault Refusal :=
  let c := ch.val
  let l := lun.val
  if s.serving && s.chanReady c && s.lunPopulated c l && !s.lunFailed c l && !s.lunRaw c l then
    let g := s.ucode.active
    let u := s.lun c l
    let k := sensorKey 2 (32 * c + l)
    let x := s.sensor k
    let t := reading.map (dieTemp g u.die)
    let range := match t with
      | some v => decide (-400 ≤ v ∧ v ≤ 1250)
      | none => false
    let n := if range then 0 else min 2 (x.implausible + 1)
    let s1 := s.sampled k { x with implausible := n } t (decide (2 ≤ n)) (!range)
    let s2 := match t with
      | some v => if range then s1.setLun c l { s1.lun c l with temp := v, band := bandFor g u.die u.band v } else s1
      | none => s1
    ok (s2.stopCheck k)
  else ok s

/-- The work of step 4 of the orderly stop is done: no dirty data, and the checkpoint position is the present batch (R557). -/
def State.stopDone (s : State) : Bool :=
  s.dirty == 0 && s.ftl.journal.collecting.isEmpty && s.ftl.journal.flight.isNone && s.ftl.journal.dirty.isEmpty

/-- ORDERLY_STOP_COMPLETE (R557): THM_STATUS.STATE reads Stopped. -/
def execOrderlyStopComplete (s : State) : Host.Outcome State Fault Refusal :=
  if s.serving && s.stopping && s.rd Reg.THM_STATUS.STATE == 2 && s.stopDone then
    ok ((s.wr Reg.THM_STATUS.STATE 3).postThermal false false)
  else ok s

/-- ORDERLY_STOP_END (R558): every unbroken sensor has read below its effective set point for 100,000 fr: fetching resumes and the ceiling
returns. -/
def execOrderlyStopEnd (s : State) : Host.Outcome State Fault Refusal :=
  match s.thermal.coolFrom with
  | some t =>
    if s.serving && s.stopping && decide (t + 100000 ≤ s.frame) then
      let s1 : State := { s with thermal := { s.thermal with coolFrom := none } }
      let s2 := (s1.wr Reg.FRM_STATUS.MODE 0).thermalState
      ok (((s2.event 0x04 0x0104 (min 0xFFFFFFFF (s.frame - s.thermal.stopAt))).refreshCeiling).postThermal false false)
    else ok s
  | none => ok s

/-- TRIP_COOLDOWN (R560): Poulo's own sensor has read below 70.0 °C for 10 s: a cold start begins, with VIN above RISE. -/
def execTripCooldown (temp : Int) (s : State) : Host.Outcome State Fault Refusal :=
  if s.sup.operating && s.thermal.tripped && decide (s.sup.drain = .none) && !s.sup.coreUp && decide (temp < 700) then
    let s1 : State := { s with thermal := { s.thermal with tripped := false } }
    if s.riseNow < s.sup.vin then ok s1.coldStart else ok s1
  else ok s

/-! ### The temperature history (R561) -/

/-- The frame's share of the history: frames above the set point, frames stopped, frames throttled in the hour. -/
def State.historyFrame (s : State) : State :=
  let above := decide (10 * (s.rd Reg.THM_CFG.SP : Int) < s.rdInt Reg.THM_TEMP.COMPOSITE)
  let t := s.thermal
  { s with thermal := { t with aboveSp := t.aboveSp + bit above, stopped := t.stopped + bit s.stopping
                               hThrottled := t.hThrottled + bit (s.on Reg.FRM_STATUS.THROTTLED) } }

/-- The bin of a composite temperature in 0.1 °C. -/
def historyBin (c : Int) : Nat := min 31 (c.toNat / 50)

/-- The update of every second: the highest composite, its bin, and the hour being collected. -/
def State.historySecond (s : State) : State :=
  let t := s.thermal
  let c := s.rdInt Reg.THM_TEMP.COMPOSITE
  let hot := s.rd Reg.THM_STATUS.HOT_CLASS * 256 + s.rd Reg.THM_STATUS.HOT_INDEX % 256
  { s with thermal := { t with maxComposite := max t.maxComposite c, bins := Tbl.upd 0 t.bins (historyBin c) (· + 1)
                               hN := t.hN + 1, hSum := t.hSum + c, hLow := if t.hN = 0 then c else min t.hLow c
                               hHigh := if t.hN = 0 then c else max t.hHigh c, hHot := Tbl.upd 0 t.hHot hot (· + 1) } }

/-- The record of every hour. -/
def State.historyHour (s : State) : State :=
  let t := s.thermal
  let hot := (t.hHot.foldl (fun (w : Nat × Nat) e => if w.2 < e.2 then e else w) (0, 0)).1
  let r : HourRec := { hours := s.hours, low := t.hLow, mean := t.hSum / max 1 t.hN, high := t.hHigh, throttled := t.hThrottled
                       hotClass := hot / 256, hotIndex := hot % 256 }
  { s with thermal := { t with hourly := (r :: t.hourly).take 720, hN := 0, hSum := 0, hLow := 0, hHigh := 0, hThrottled := 0, hHot := [] } }

/-- The temperature history at a frame boundary. -/
def State.history (s : State) : State :=
  let s1 := s.historyFrame
  let s2 := if s.frame % 100000 = 0 then s1.historySecond else s1
  if s.frame % 360000000 = 0 then s2.historyHour else s2

end Sys2Proof.Machine
end

