-- ==== Sys2Proof/Machine/Frame.lean ====
section
/-! DEFINITION. FRAME_BOUNDARY: what happens at every boundary of 10 µs (R6, R67, R207, R220): the admitted units are issued, the journal
batch is written, and the work that rules tie to a boundary is done. -/

set_option Elab.async false

namespace Sys2Proof.Machine

/-! ### Time and the bank (R6, R67, R77, R591) -/

/-- The frame counter advances and Poulo samples the bank voltage; AGE follows in whole hours. -/
def State.frameTick (s : State) (vbank : Nat) : State :=
  let s1 : State := { s with frame := s.frame + 1 }
  let s2 := s1.setSup { s1.sup with vbank := vbank }
  (if s2.measured then s2.wr Reg.HUP_CAP_MEAS.AGE (min 255 ((s2.frame - s2.sup.measAt) / 360000000)) else s2).refreshBank

/-- FRM_COUNT counts, and so does the firmware watchdog while no lockstep pair that runs services it (R103, R245, R591)
(DESIGN CHOICE: log entry 41). -/
def State.frameCount (s : State) : State :=
  let s1 := s.bump Reg.FRM_COUNT.FRAMES
  let dead := s1.rd Reg.CSQ_PAIRS.ACTIVE == 0 && decide (1 ≤ s1.boot.step)
  let s2 := s1.wr Reg.CSQ_WDOG.SINCE (if dead then min 10000 (s1.rd Reg.CSQ_WDOG.SINCE + 1) else 0)
  if s2.sched.suspending then s2.bump Reg.FRM_OVER.SUSPEND else s2

/-! ### Availability (R51, R52, R53) -/

/-- The supply is within its operating ratings (R58). -/
def State.rated (s : State) : Bool := decide ((if s.board.busSel then 40000 else 9000) ≤ s.sup.vin ∧ s.sup.vin ≤ 60000)

/-- Counted wall time (R51): not an activation window, not a supply outside its ratings, not PERST# held, not P3 or Off. -/
def State.counted (s : State) : Bool :=
  s.rated && s.bst.activator == 0 && !s.fns.all (fun f => (s.ep f).perst) && s.pstate != 3 && !s.sup.off

/-- A READ or WRITE has waited 1,000 fr for a reason inside the device: not for completion room and not for the link (R52). -/
def State.waitedLong (s : State) : Bool :=
  s.live.any (fun e =>
    let x := e.2
    let written := match x.phase with
      | .finished | .committed => !(s.ring x.fn x.ring).cqRoom
      | .sent => true
      | _ => false
    (x.is .read || x.is .write) && decide (x.fetchedAt + 1000 ≤ s.frame) && s.canSend x.fn && !written)

/-- Counted time is unavailable (R52) (DEDUCED: log entry 43). -/
def State.unavailable (s : State) : Bool :=
  match s.boot.stage with
  | .grind => true
  | .bloom => !s.on Reg.HUP_STATUS.WRITE_THR || s.waitedLong
  | .pour => s.waitedLong

/-- UNAVAIL_FRAMES counts the frame (R53, R178). -/
def State.frameAvail (s : State) : State := if s.counted && s.unavailable then s.count 0x018 8 else s

/-! ### The plan takes effect (R220, R255, R285) -/

/-- Issues one admitted NAND phase: the continuation that is offered, or the head operation of its class; a suspended LUN takes only reads of
the mandatory and RD classes. -/
def State.issue (caps : List (Nat × List Nat)) (s : State) (e : Nat × Nat × Nat) : State :=
  let c := e.1 / 32
  let l := e.1 % 32
  let u := s.lun c l
  match u.op with
  | some _ =>
    if u.offered then s.continue_ c l (((caps.find? (fun x => x.1 == e.1)).map (·.2)).getD []) else s
  | none =>
    match u.heads.find? (fun o => o.cls.code == e.2.1) with
    | some o =>
      let free := decide (u.st = .idle)
      let read := decide (u.st = .suspended ∧ o.kind = .read) && decide (o.cls = .mandatory ∨ o.cls = .rd)
      if free || read then s.startOp c l o else s
    | none => s

/-- The domains of the engines to which a plan's units are issued have work, and wake (R240). -/
def State.wakeEngines (s : State) : State :=
  let s1 := s.sched.plan.foldl (fun s e => s.domWork (9 + e.1 / 32 % 64)) s
  s.sched.units.foldl (fun s e => match unitDomain (e.1 / 1024) (e.1 % 1024) with
    | some d => s.domWork d
    | none => s) s1

/-- The plan is issued in its order and is spent; a plan made before a drain began is discarded (R239). -/
def State.openFrame (s : State) (caps : List (Nat × List Nat)) : State :=
  let runs := decide (s.sup.drain = .none)
  let s0 := if runs then s.wakeEngines else s
  let s1 : State := { s0 with chns := Tbl.mapAll {} (fun _ x => { x with used := 0 }) s0.chns
                              sched := { s0.sched with made := false, plan := [], units := [] } }
  if runs then s.sched.plan.foldl (State.issue caps) s1 else s1

/-- Training steps (R253): the step passed in the frame that ends, in place of data transfers, at most one frame in four
(DESIGN CHOICE: log entry 59). -/
def State.trainSteps (s : State) (passed : List Nat) : State :=
  passed.foldl (fun s c =>
    let x := s.chn c
    if s.frame % 4 = 0 ∧ x.used = 0 ∧ 1 ≤ x.retrain ∧ x.retrain < 25 then s.setChn c { x with retrain := x.retrain + 1 } else s) s

/-! ### The journal batch (R207, R502) -/

/-- The marks of invocation counters that are due go into the batch (R502). -/
def State.keyMarks (s : State) : State :=
  (s.sec.slots.filter (fun e => e.2.markDue)).foldl (fun s e => s.record (.admin (.keyMark e.1) 0)) s

/-- The batch of the frame is written: publication and commit records, MAP records, key marks and what the frame collected. While the batch
before it is not yet durable, nothing is written (R207) (DESIGN CHOICE: log entry 58). -/
def State.journalFrame (s : State) : State :=
  match s.ftl.journal.flight with
  | some _ => s
  | none =>
    let s1 := s.batchWrites.mapStripes.keyMarks
    let j := s1.ftl.journal
    if j.collecting.isEmpty && s1.group.owedNext.isEmpty then s1
    else
      let s2 := s1.setGroup { s1.group with owed := s1.group.owed ++ s1.group.owedNext, owedNext := [] }
      { s2 with ftl := { s2.ftl with journal := { j with flight := some (j.batch, j.collecting), collecting := [], batch := j.batch + 1 } } }

/-! ### Recovery records (R326, R479) and row mismatches (R330) -/

/-- The pages under recovery hold entries of the recovery table, as far as it has room; an entry whose page is recovered is deleted
(DESIGN CHOICE: log entry 85). -/
def State.thiRecovSync (s : State) : State :=
  let pages := (s.decs.filter (fun d => decide (d.st = .row ∨ d.st = .outer))).foldl (fun l d => insertNat (adOfPage d.addr) l) []
  let gone := (s.thiList 4).filter (fun e => !pages.contains e.2.value)
  let s1 := gone.foldl (fun s e => (s.thiDelete 4 e.1).2) s
  pages.foldl (fun s a =>
    if (s.thiList 4).any (fun e => e.2.value == a) || (s.thiFree 4).isEmpty then s
    else (s.thiInsertAny 4 a 0 0 0 false 0 0).2) s1

/-- A row mismatch: the failed page goes to its row step; with no page failed the XOR page is at fault and every page of the row is
relocated. -/
def State.rowMismatch (s : State) (a : Nat) (xorBad : Bool) : State :=
  match s.bandOf a with
  | some b =>
    if s.rowClosed a then
      let s1 := (s.bump Reg.MIN_CNT.ROW_MISMATCH).event 0x26 0x0103 (bit xorBad + adPage a % 4096 * 2)
      if xorBad then
        b.chans.foldl (fun s c => s.refresh (mkAddr c b.dieSet (adPlane a) (b.block c) 0 0) false) s1
      else
        (List.range (dieCws s1.ucode.active (s1.dieOf a))).foldl (fun s i =>
          { s with decs := s.decs ++ [{ addr := adOfPage a + i / 4, cw := i, ctx := 0, blk := 0, cls := .pt, st := .row }] }) s1
    else s
  | none => s

/-! ### Bring-up at the boundary (R92, R95, R96, R98, R428, R452) -/

/-- Step 4 ends with the Bloom pair trained and its first 4 GiB initialised, unless the raw flash exceeds the map space (R92, R428). -/
def State.stepFour (s : State) : State :=
  if s.boot.stage = .grind ∧ 4 ≤ s.boot.step ∧ s.boot.step4 = false ∧ s.bloomSwept = true then
    if s.mapFits then ((({ s with boot := { s.boot with step4 := true } } : State).wr Reg.BRU_STAGE.STEP 5)).endStep5
    else if s.channelsUp && !s.boot.tooBig then
      ({ s with boot := { s.boot with tooBig := true } } : State).event 0x16 0x0106 0
    else s
  else s

/-- Map pages loaded in a frame (R96) (DESIGN CHOICE: log entry 62). -/
def mapPerFrame : Nat := 8

/-- The background map load, and the write buffer's extension once every sub-channel is whole (R96, R98). After a loss in Pour the failed
sub-channel's share of the map is loaded again (R452) (DESIGN CHOICE: log entry 62). -/
def State.mapLoad (s : State) : State :=
  match s.boot.stage with
  | .grind => s
  | .bloom =>
    let left := s.boot.mapLeft - mapPerFrame
    let s1 : State := { s with boot := { s.boot with mapLeft := left, extended := s.boot.extended || s.dramWhole } }
    if left = 0 then s1.wr Reg.BRU_STAGE.MAP_RESIDENT 1 else s1
  | .pour =>
    let again := if s.dram.reload then ceilDiv s.mapPages 6 else 0
    { s with boot := { s.boot with mapLeft := s.boot.mapLeft + again - mapPerFrame }, dram := { s.dram with reload := false } }

/-! ### Idleness (R530) and rates (R424, R524) -/

/-- The frame was idle: no context holds a command, and no unit of RD, WR, RB or PT was admissible, nor GC outside Critical (R530). -/
def State.idleFrame (s : State) : Bool :=
  !s.working && s.sched.plan.all (fun e => e.2.1 == 0 || (e.2.1 == 3 && decide (2 ≤ s.rd Reg.FTL_FREE.STATE)))

/-- The count of consecutive idle frames. -/
def State.countIdle (s : State) : State := s.setPwr { s.pwr with idle := if s.idleFrame then s.pwr.idle + 1 else 0 }

/-- GLI_REBUILD.RATE follows the granules applied in each second (R424). -/
def State.rebuildRate (s : State) : State :=
  if s.frame % 100000 = 0 then
    (s.wr Reg.GLI_REBUILD.RATE (min 0xFFFF (s.group.appliedNow * 4096 / 10000000))).setGroup { s.group with appliedNow := 0 }
  else s

/-! ### The row -/

/-- The work of a boundary that waits for nothing but the boundary, outside a drain; in P1 a changed mask takes effect (R543). -/
def State.frameWork (s : State) (inp : FrameIn) : State :=
  let s1 := s.journalFrame.dropStripes
  let s2 := (inp.mismatch.foldl (fun s e => s.rowMismatch e.1 e.2) s1).thiRecovSync
  let s3 := (s2.placeWaiting.thiSpanSweep.storeFrame).rebuildRate
  let s4 := (s3.stepFour.mapLoad.refreshFree).refreshJournal
  if s4.pstate = 1 ∧ s4.pphase = 0 then s4.applyHolds 1 else s4

/-- FRAME_BOUNDARY (R6, R67, R207, R220, R221): the plan takes effect and the batch is written. While the core die is down only time and
Poulo go on (DESIGN CHOICE: log entry 24). -/
def execFrameBoundary (inp : FrameIn) (s : State) : Host.Outcome State Fault Refusal :=
  if !s.sup.operating then ok s
  else
    let t := (s.trainSteps inp.trained).frameTick inp.vbank
    if !s.sup.coreUp then ok t.frameAvail
    else
      let s1 := ((t.countIdle.frameCount).openFrame inp.caps).refreshCeiling
      let s2 := s1.wr Reg.BST_FETCH.MISS_RATE (min 0xFFFF inp.missRate)
      let s3 := (s2.dramFrame inp.dramBad inp.sweeps).policyFrame
      let s4 := (inp.parity.foldl (fun s e => s.parityError e.1 e.2) s3).fansFrame
      let s5 := if s4.serving then s4.frameWork inp else s4
      ok s5.history.frameAvail

end Sys2Proof.Machine
end

