-- ==== Sys2Proof/Machine/Endpoint.lean ====
section
/-! DEFINITION. The host's accesses: configuration space (R119, R120), BAR0 registers by their access types (R10 to R16, R582 to R584), the
MSI-X table (R124, R125), and the sideband port (R85, R86, R590). -/

set_option Elab.async false

namespace Sys2Proof.Machine

/-! ### Actions -/

/-- The state after an action that always goes on. -/
def goes (s : State) : Host.Outcome State Fault Refusal → State
  | .next t => t
  | _ => s

/-- A register access that R10 discards or answers with zero (R10, R181). -/
def State.accessEvent (s : State) (off f : Nat) : State :=
  s.event (if 0x200000 ≤ off ∧ off < 0x240000 then 0x20 else off / 65536) 0x0001 off f

/-! ### The MSI-X table (R124, R125) -/

/-- A word of an MSI-X table entry. -/
def Msix.word (m : Msix) (k : Nat) : Nat :=
  match k with
  | 0 => m.addr % 2 ^ 32
  | 4 => m.addr / 2 ^ 32 % 2 ^ 32
  | 8 => m.data
  | _ => bit m.masked

/-- The message of a vector that was held back is sent once nothing masks it (R125). -/
def State.sendHeld (s : State) (f v : Nat) : State :=
  if (s.vec f v).pend && s.msixOn f && !s.fnMask f && !(s.vec f v).masked then s.signal f v else s

/-- The messages of every vector of a function that are no longer held back. -/
def State.sendAllHeld (s : State) (f : Nat) : State :=
  ((s.msix.filter (fun e => e.1 / 2048 == f && e.2.pend)).map (fun e => e.1 % 2048)).foldl (fun s v => s.sendHeld f v) s

/-- A write of a word of an MSI-X table entry. -/
def State.vecWrite (s : State) (f v k data : Nat) : State :=
  let m := s.vec f v
  match k with
  | 0 => s.setVec f v { m with addr := m.addr / 2 ^ 32 * 2 ^ 32 + data / 4 * 4 }
  | 4 => s.setVec f v { m with addr := m.addr % 2 ^ 32 + data * 2 ^ 32 }
  | 8 => s.setVec f v { m with data := data }
  | _ => (s.setVec f v { m with masked := data.testBit 0 }).sendHeld f v

/-- A word of the pending bit array. -/
def State.pbaWord (s : State) (f i : Nat) : Nat :=
  (List.range 32).foldl (fun n b => if (s.vec f (32 * i + b)).pend then n + 2 ^ b else n) 0

/-- MSIX_UNMASK (R125): the vector's mask bit is cleared; a pending message is sent. -/
def execMsixUnmask (fn : Fn) (vector : Fin 2048) (s : State) : Host.Outcome State Fault Refusal :=
  if s.reachable fn.val then
    let s1 := s.wakeTlp fn.val
    ok ((s1.setVec fn.val vector.val { s1.vec fn.val vector.val with masked := false }).sendHeld fn.val vector.val)
  else ok s

/-! ### Reads (R11, R13, R15, R592) -/

/-- The word that a 32-bit read of BAR0 finds. -/
def State.bar0Word (s : State) (f off : Nat) : Nat :=
  if 0x3C0000 ≤ off ∧ off < 0x3C8000 then (s.vec f ((off - 0x3C0000) / 16)).word (off % 16)
  else if 0x3D0000 ≤ off ∧ off < 0x3D0100 then s.pbaWord f ((off - 0x3D0000) / 4)
  else s.regWord f off

/-- The offset of the low register of a pair is given; EVT_LAST captures EVT_DETAIL in the same manner (R13, R592). -/
def pairAt (off : Nat) : Bool := off == 0x3A0010 || (fieldsAt off).any (fun e => decide (32 < e.1.w) && !e.2.2)

/-- The key under which a pair's captured high word is held: per function only for a register of which each function has its own. -/
def pairKey (f off : Nat) : Nat := (if (fieldsAt off).any (fun e => e.1.perFn) then f else 2) * 2 ^ 23 + off

/-- A 32-bit read of BAR0: its value, and the capture it makes or uses (R13). -/
def State.readWord_ (s : State) (f off : Nat) : Nat × State :=
  if pairAt off then
    (s.bar0Word f off, { s with pairHigh := Tbl.set none s.pairHigh (pairKey f off) (some (s.bar0Word f (off + 4))) })
  else if 4 ≤ off ∧ pairAt (off - 4) = true then
    match Tbl.get none s.pairHigh (pairKey f (off - 4)) with
    | some v => (v, { s with pairHigh := Tbl.set none s.pairHigh (pairKey f (off - 4)) none })
    | none => (s.bar0Word f off, s)
  else (s.bar0Word f off, s)

/-- A read that R10 answers with zero. -/
def State.zeroRead (s : State) (f off : Nat) : State := (s.accessEvent off f).emit (.readData f off 0)

/-- LOW_REGISTER_READ (R11, R13, R15, R592): a 32-bit read of BAR0. -/
def execLowRegisterRead (fn : Fn) (off : Nat) (s : State) : Host.Outcome State Fault Refusal :=
  let f := fn.val
  if s.reachable f && decide (off < 0x400000) then
    let s1 := s.wakeTlp f
    if off % 4 ≠ 0 then ok (s1.zeroRead f off)
    else
      let r := s1.readWord_ f off
      ok (r.2.emit (.readData f off r.1))
  else ok s

/-! ### Writes (R12 to R16, R127, R582 to R584) -/

/-- The lock bit that governs the RWL fields of a block is set; each channel has its own (R582). -/
def State.locked (s : State) (off : Nat) : Bool :=
  if 0x200000 ≤ off ∧ off < 0x240000 then s.on Reg.CHN_ENG_CTRL.LOCK ((off - 0x200000) / 4096)
  else match lockFields.find? (fun r => r.off / 65536 == off / 65536) with
    | some r => s.on r
    | none => false

/-- The value a write carries for a field of its word. -/
def Fld.carried (r : Fld) (data : Nat) : Nat := data / 2 ^ r.lo % 2 ^ r.w

/-- A value is within a field's own range. -/
def Fld.inRange (r : Fld) (v : Nat) : Bool := decide (r.vlo ≤ v ∧ v ≤ r.vhi)

/-- What a field of the same word holds after a write: the carried value, or the old one when that is out of range. -/
def State.left (s : State) (r : Fld) (i data : Nat) : Nat :=
  if r.inRange (r.carried data) then r.carried data else s.rd r i

/-- The least drive power cap in W (R224). -/
def State.capFloor (s : State) : Nat := ceilDiv (s.rd Reg.FRM_BASE.BASE) 10 + 40

/-- The domains that P1 may hold off, by word of PWR_P1_MASK (R542). -/
def p1Allowed (i : Nat) : Nat := if i = 2 then 0xFFFE0000 else if i = 3 then 0x1DFDFF else if i = 4 then 0x40000000 else 0

/-- The minima of the pool's owners with one of them replaced. -/
def State.minTotal (s : State) (o v : Nat) : Nat := ((List.range 8).map (fun k => if k = o then v else s.bufMin k)).foldl (· + ·) 0

/-- A write of MIN and MAX of an owner obeys R485. -/
def State.ownOk (s : State) (i data : Nat) : Bool :=
  decide (s.minTotal i (Reg.BPM_OWN.MIN.carried data) + s.rd Reg.BPM_CFG.WARN ≤ 16384)
    && decide (Reg.BPM_OWN.MIN.carried data ≤ Reg.BPM_OWN.MAX.carried data)

/-- The relations between fields that a value must keep to be no reserved value (R14, R76, R128, R146, R224, R243, R361, R453, R454, R484,
R485, R548, R565, R574). -/
def State.related (s : State) (r : Fld) (i v data : Nat) : Bool :=
  if r = Reg.HIF_EP_CTO.FRAMES then v == 0 || decide (6 ≤ v)
  else if r = Reg.HUP_BO_CFG.FALL ∨ r = Reg.HUP_BO_CFG.RISE then
    decide (s.left Reg.HUP_BO_CFG.FALL 0 data + 2 ≤ s.left Reg.HUP_BO_CFG.RISE 0 data)
  else if r = Reg.FRM_BUDGET.CAP then v == 0 || decide (s.capFloor ≤ v)
  else if r = Reg.PWR_P1_CFG.CAP then decide (s.capFloor ≤ v)
  else if r = Reg.FRM_WEIGHT.GC_URGENT then decide (Reg.FRM_WEIGHT.GC.carried data ≤ v)
  else if r = Reg.FTL_GC_CFG.GC_CRIT then decide (v < Reg.FTL_GC_CFG.GC_START.carried data)
  else if r = Reg.FTL_GC_CFG.RESERVE_MIN then decide (v < Reg.FTL_GC_CFG.GC_CRIT.carried data)
  else if r = Reg.BPM_CFG.CRIT then decide (v < s.left Reg.BPM_CFG.WARN 0 data)
  else if r = Reg.BPM_OWN.MIN ∨ r = Reg.BPM_OWN.MAX then s.ownOk i data
  else if r = Reg.DRC_GEOM.RANKS then v == 0 || Reg.DRC_GEOM.DENSITY.carried data == 0
  else if r = Reg.DRC_CFG.QUOTA_TRN then decide (v ≤ s.left Reg.DRC_CFG.QUOTA 0 data)
  else if r = Reg.THM_CFG2.NAND_STOP then decide (s.rd Reg.THM_CFG.NAND_SP + 5 ≤ v)
  else if r = Reg.THM_CFG2.EXT_STOP then decide (s.rd Reg.THM_CFG.EXT_SP + 5 ≤ v)
  else if r = Reg.FAN_CTRL.POLICY then decide (v < 3)
  else if r = Reg.PWR_P1_MASK.OFF then v ||| p1Allowed i == p1Allowed i
  else if r = Reg.WIN_ENT_CTRL.TARGET then v != 3
  else true

/-- A field that the register's own chapter makes read-only for some instances (R337, R485). -/
def fixedInstance (r : Fld) (i : Nat) : Bool :=
  (decide (r = Reg.BPM_OWN.MIN ∨ r = Reg.BPM_OWN.MAX) && (i == 4 || i == 7)) || (decide (r = Reg.MIN_FMT.REFRESH_BITS) && decide (6 ≤ i))

/-- A 32-bit write to a word of a pair: the low word waits; the high word takes effect with the last low word (R13). -/
def State.writePair (s : State) (r : Fld) (i f data : Nat) (high : Bool) : State :=
  let k := f * 2 ^ 23 + r.off
  if high then
    let low := (Tbl.get none s.pairLow k).getD (s.rd r i f % 2 ^ 32)
    ({ s with pairLow := Tbl.set none s.pairLow k none } : State).wr r (low + data * 2 ^ 32) i f
  else { s with pairLow := Tbl.set none s.pairLow k (some data) }

/-- A write as it meets one field: the state, and whether a reserved value was met (R14, R15). Lock bits are left for the end, and the action
bits and the enable of the admin ring act on their own. -/
def State.writeField (f data : Nat) (locked : Bool) (a : State × Bool) (e : Fld × Nat × Bool) : State × Bool :=
  let r := e.1
  let i := e.2.1
  let g := r.fn f
  let v := r.carried data
  match r.acc with
  | .ro | .wo | .w1s => a
  | .w1c => (a.1.wr r (a.1.rd r i g &&& (2 ^ r.w - 1 - v)) i g, a.2)
  | .rw | .rwl =>
    if r = Reg.HIF_ADM_CTRL.ENABLE ∨ fixedInstance r i = true ∨ (r.acc = .rwl ∧ locked = true) then a
    else if 32 < r.w then (a.1.writePair r i g data e.2.2, a.2)
    else if r.inRange v && a.1.related r i v data then (a.1.wr r v i g, a.2)
    else (a.1, true)

/-- The lock bits of a word are set last (R583). -/
def State.writeLock (data : Nat) (s : State) (e : Fld × Nat × Bool) : State :=
  match e.1.acc with
  | .w1s => if e.1 = Reg.GLB_LOCK_ALL.LOCK_ALL then s else s.wr e.1 (s.rd e.1 e.2.1 ||| e.1.carried data) e.2.1
  | _ => s

/-- GLB_LOCK_ALL: every lock bit of every block is set (R583). -/
def State.lockAll (s : State) : State :=
  (lockFields.foldl (fun s r => (List.range r.count).foldl (fun s i => s.wr r 1 i) s) s).wr Reg.GLB_LOCK_ALL.LOCK_ALL 1

/-- The capture of a base matrix entry (R312, R338). -/
def State.matrixCapture (s : State) : State :=
  let f := s.rd Reg.MIN_HMAT_ADDR.FMT
  let row := s.rd Reg.MIN_HMAT_ADDR.ROW
  let col := s.rd Reg.MIN_HMAT_ADDR.COL
  let p := s.rd Reg.MIN_FMT.COLS f
  let inside := decide (f < 6 ∧ row < p ∧ col < 257 + p)
  let sh := match Config.baseShift f row col with
    | some n => n.val
    | none => 0xFF
  (s.wr Reg.MIN_HMAT_DATA.VALID (bit inside)).wr Reg.MIN_HMAT_DATA.SHIFT (if inside then sh else 0)

/-- What follows from the new value of a register: the bank's figures and the charger (R66 to R68, R236), the pool's pressure (R469), the
compaction of ordered tables (R478), captures (R338, R488), and the signature words (R521). -/
def State.afterWrite (s : State) (off data : Nat) : State :=
  if off = 0x60004 ∨ off = 0x60008 then s.recharge.refreshBank.refreshCeiling
  else if off = 0x3001C ∨ off = 0x30020 then s.refreshCeiling
  else if off = 0x150004 ∨ (0x150100 ≤ off ∧ off < 0x150140) then s.backpressure.serveQueue
  else if off = 0x140004 then (if s.thiUp then s.thiRefresh 1 else s)
  else if off = 0x260200 then s.matrixCapture
  else if off = 0x140200 then s.thiCapture (data % 32768)
  else if 0x380040 ≤ off ∧ off < 0x3800A0 then
    { s with sec := { s.sec with resp := Tbl.set 0 s.sec.resp ((off - 0x380040) / 4) data } }
  else s

/-- The enable bit of the admin ring as a write finds it (R152). -/
def State.adminWrite (s : State) (fn : Fn) (on_ : Bool) : State :=
  if on_ then goes s (execAdminEnable fn s) else goes s (execAdminDisable fn s)

/-- The actions that a write's action bits start (R78, R103, R129, R275, R509, R567, R583); a submitted debug signature is DEBUG_SUBMIT's. -/
def State.act (s : State) (fn : Fn) (off data : Nat) : State :=
  if off = 0x8 then (if data.testBit 0 then s.lockAll else s)
  else if off = 0x60020 then (if data.testBit 0 then goes s (execMeasNow s) else s)
  else if off = 0x10008 then (if data.testBit 0 then goes s (execColdReq fn (BitVec.ofNat 8 (data / 256)) s) else s)
  else if off = 0x112000 then (if data.testBit 16 then goes s (execWindowCommit fn s) else s)
  else if off = 0x380010 then (if data.testBit 0 then goes s (execDebugChallenge s) else s)
  else if off = 0x50000 then goes s (execFanRetry fn (BitVec.ofNat 4 (data / 64)) s)
  else if off = 0x100114 then s.adminWrite fn (data.testBit 0)
  else if h : 0x200000 ≤ off ∧ off < 0x240000 ∧ off % 4096 = 0 then
    (if data.testBit 0 then goes s (execChannelRestart fn ⟨(off - 0x200000) / 4096, by omega⟩ s) else s)
  else s

/-- The captures that a write to either register of a pair ends (R13). -/
def State.endCapture (s : State) (f off : Nat) : State :=
  let s1 : State := if pairAt off then { s with pairHigh := Tbl.set none s.pairHigh (pairKey f off) none } else s
  if 4 ≤ off ∧ pairAt (off - 4) = true then { s1 with pairHigh := Tbl.set none s1.pairHigh (pairKey f (off - 4)) none } else s1

/-- A write of a staged window entry: only its owner's has an effect, and the entry is pending (R127, R129, R148). -/
def State.writeStaged (s : State) (f off data : Nat) : State :=
  let n := (off - 0x110000) / 16
  if s.winOwner n = some f ∧ off % 16 ≠ 12 then
    let r := (fieldsAt off).foldl (State.writeField f data false) (s, false)
    let s1 := r.1.wr Reg.WIN_ENT_CTRL.PENDING 1 n
    if r.2 then s1.regEvent off f else s1
  else s

/-- A 32-bit write of BAR0. -/
def State.writeWord_ (s : State) (fn : Fn) (off data : Nat) : State :=
  let f := fn.val
  if 0x3C0000 ≤ off ∧ off < 0x3C8000 then s.vecWrite f ((off - 0x3C0000) / 16) (off % 16) data
  else if 0x110000 ≤ off ∧ off < 0x111000 then s.writeStaged f off data
  else
    let fs := fieldsAt off
    let r := fs.foldl (State.writeField f data (s.locked off)) (s.endCapture f off, false)
    let s1 := if r.2 then r.1.regEvent off f else r.1
    let s2 := (fs.foldl (State.writeLock data) s1).afterWrite off data
    s2.act fn off data

/-- REGISTER_WRITE (R10 to R16, R582 to R584): a 32-bit write, or a 64-bit write as two of them, the lower offset first
(DEDUCED: log entries 25, 26 and 27). -/
def execRegisterWrite (fn : Fn) (off : Nat) (data : Word) (high : Option Word) (s : State) : Host.Outcome State Fault Refusal :=
  let f := fn.val
  if s.reachable f && decide (off < 0x400000) then
    let s1 := s.wakeTlp f
    if off % (if high.isSome then 8 else 4) ≠ 0 then ok (s1.accessEvent off f)
    else
      let s2 := s1.writeWord_ fn off data.toNat
      match high with
      | some h => ok (if s2.reachable f then s2.writeWord_ fn (off + 4) h.toNat else s2)
      | none => ok s2
  else ok s

/-- BAR0_MALFORMED_ACCESS (R10, R121, R124): a write that is short or not aligned is discarded, a short read within one word returns its bytes,
any other read returns zeroes, and an access of more than 8 bytes is aborted or discarded (DEDUCED: log entry 28). -/
def execBar0MalformedAccess (fn : Fn) (bar2 write : Bool) (off len : Nat) (s : State) : Host.Outcome State Fault Refusal :=
  let f := fn.val
  let good := (len == 4 && off % 4 == 0) || (len == 8 && off % 8 == 0)
  if s.reachable f && decide (off < 0x400000) && decide (0 < len) && !good then
    let s1 := s.wakeTlp f
    if write then ok (s1.accessEvent off f)
    else if 8 < len then ok (s1.emit (.completerAbort f))
    else
      let table := decide (0x3C0000 ≤ off ∧ off < 0x3D0100) && !bar2
      if off % 4 + len ≤ 4 ∧ table = false then
        let base := off / 4 * 4
        let r := if bar2 then
            (let q := s1.ring f (off / 4096)
             (if base % 4096 = 0 then q.sqTail else if base % 4096 = 4 then q.cqHead else 0, s1))
          else s1.readWord_ f base
        ok (r.2.emit (.readData f off (bitsOf r.1 (8 * (off % 4)) (8 * len))))
      else ok (s1.zeroRead f off)
  else ok s

/-- THI_RD_ADDR (R488): a write captures a unit into THI_RD_DATA. -/
def execThiRdAddr (fn : Fn) (data : Word) (s : State) : Host.Outcome State Fault Refusal :=
  if s.reachable fn.val then
    let s1 := s.wakeTlp fn.val
    ok (s1.thiCapture (data.toNat % 32768))
  else ok s

/-- LOCK_ALL (R583, R589). -/
def execLockAll (s : State) : Host.Outcome State Fault Refusal := if s.serving then ok s.lockAll else ok s

/-! ### Configuration space (R115, R117, R119, R120, R123) -/

/-- The header of an extended capability: ID, version, next pointer. -/
def extHead (id ver next : Nat) : Nat := id + ver * 2 ^ 16 + next * 2 ^ 20

/-- Device Control at reset: relaxed ordering, no snoop and 512-byte read requests (PRESUMED, the PCIe specification) (PRESUMED: log entry 30). -/
def devCtlReset : Nat := 0x2810

/-- The bits of a configuration dword that a write sets (R119, R120; the control registers' own bits are PRESUMED, the PCIe specification)
(PRESUMED: log entry 30). -/
def State.cfgMask (s : State) (f off : Nat) : Nat :=
  let k := s.bar4Log2 f
  match off with
  | 0x04 => 0x146
  | 0x10 => 0xFFC00000 | 0x14 => 0xFFFFFFFF
  | 0x18 => 0xFFC00000 | 0x1C => 0xFFFFFFFF
  | 0x20 => if 32 ≤ k then 0 else 0xFFFFFFFF / 2 ^ k * 2 ^ k
  | 0x24 => if 32 ≤ k then 0xFFFFFFFF / 2 ^ (k - 32) * 2 ^ (k - 32) else 0xFFFFFFFF
  | 0x3C => 0xFF
  | 0x58 => 0x79FF
  | 0x60 => 0x1CB
  | 0x78 => 0x140F
  | 0x80 => 0x1F
  | 0x90 => 0xC0000000
  | 0x108 => 0x07FFF030 | 0x10C => 0x07FFF030
  | 0x114 => 0xFFFF
  | 0x118 => 0x140
  | 0x2B0 => 0x7
  | 0x2E8 => 0x1FFF1FFF
  | 0x2F4 => 0xE3FFFF0F | 0x2F8 => 0xFF
  | _ => 0

/-- What the device fixes of a configuration dword (R119, R120). -/
def State.cfgFixed (s : State) (f off : Nat) : Nat :=
  let dual := s.on Reg.HIF_EP_LINK.PORT_MODE
  match off with
  | 0x00 => 0x64201F4B
  | 0x04 => 0x00100400
  | 0x08 => 0x01800001
  | 0x10 => 0x4 | 0x18 => 0x4
  | 0x20 => 0xC
  | 0x2C => if 3 ≤ s.boot.step then s.board.subsysVendor % 65536 + s.board.subsysId % 65536 * 65536 else 0
  | 0x34 => 0x40
  | 0x40 => 0x01 + 0x50 * 2 ^ 8 + (3 + 2 ^ 11 + 2 ^ 14) * 2 ^ 16
  | 0x44 => 0x8
  | 0x50 => 0x10 + 0x90 * 2 ^ 8 + (2 + 2 ^ 15) * 2 ^ 16
  | 0x54 => 2 + 2 ^ 5 + 2 ^ 15 + 2 ^ 28
  | 0x5C => 6 + (if dual then 8 else 16) * 2 ^ 4 + 2 * 2 ^ 10 + 4 * 2 ^ 15 + 2 ^ 18 + f * 2 ^ 24
  | 0x60 => (s.rd Reg.HIF_EP_LINK.SPEED 0 f + s.rd Reg.HIF_EP_LINK.WIDTH 0 f * 2 ^ 4) * 2 ^ 16
  | 0x74 => 1 + 2 ^ 11 + 2 ^ 16 + 2 ^ 17
  | 0x7C => 0x7E
  | 0x90 => 0x11 + 0x7FF * 2 ^ 16
  | 0x94 => 0x3C0000 | 0x98 => 0x3D0000
  | 0x100 => extHead 0x0001 2 0x180
  | 0x118 => 2 ^ 5 + 2 ^ 7
  | 0x180 => extHead 0x0019 1 0x1C0
  | 0x1C0 => extHead 0x0025 1 0x1D0 | 0x1C4 => 1
  | 0x1D0 => extHead 0x0026 1 0x200
  | 0x200 => extHead 0x002A 1 0x240
  | 0x240 => extHead 0x0031 1 0x260
  | 0x260 => extHead 0x0027 1 0x2A8
  | 0x2A8 => extHead 0x002F 1 0x2B8
  | 0x2AC => 2 ^ 1 + 2 ^ 2
  | 0x2B8 => extHead 0x0032 1 0x2D8
  | 0x2D8 => extHead 0x0015 1 0x2E4
  | 0x2DC => 0x7F * 2 ^ 14
  | 0x2E0 => 4 + 1 * 2 ^ 5 + (s.bar4Log2 f - 20) * 2 ^ 8
  | 0x2E4 => extHead 0x0018 1 0x2EC
  | 0x2EC => extHead 0x001E 1 0x2FC
  | 0x2F0 => 0x1F + 10 * 2 ^ 8 + 1 * 2 ^ 16 + 4 * 2 ^ 19
  | 0x2FC => extHead 0x0003 1 0x308
  | 0x300 => s.board.serial % 2 ^ 32 | 0x304 => s.board.serial / 2 ^ 32 % 2 ^ 32
  | 0x308 => extHead 0x000B 1 0x000
  | 0x30C => 0x0001 + 1 * 2 ^ 16 + 0x10 * 2 ^ 20
  | 0x310 => f + bit dual * 2 ^ 8 + s.rd Reg.GLB_REV.STEPPING * 2 ^ 16
  | _ => 0

/-- What a configuration dword stores is held as the exclusive or with its reset value. -/
def cfgReset (off : Nat) : Nat := if off = 0x58 then devCtlReset else if off = 0x80 then 6 else 0

/-- The value a configuration read returns. -/
def State.cfgWord (s : State) (f off : Nat) : Nat :=
  if off = 0x44 ∨ off = 0x104 then s.cfgRaw f off ||| s.cfgFixed f off
  else ((s.cfgRaw f off ^^^ cfgReset off) &&& s.cfgMask f off) ||| s.cfgFixed f off

/-- The bits that the byte enables of a write select. -/
def enableMask (e : Nat) : Nat := (List.range 4).foldl (fun n i => if e.testBit i then n + 0xFF * 2 ^ (8 * i) else n) 0

/-- Stores a configuration dword. -/
def State.setCfg (s : State) (f off v : Nat) : State := s.setEp f { s.ep f with cfg := Tbl.set 0 (s.ep f).cfg off v }

/-- A configuration write: `m` selects the enabled bits. PMCSR and the Function Level Reset act as their own rows do; status bits clear by
writing 1; BAR4 takes a supported size (R113, R119, R120, R123, R528). -/
def State.cfgWrite (s : State) (f off data m : Nat) : State :=
  let old := s.cfgWord f off
  let v := (data &&& m) ||| (old &&& (0xFFFFFFFF - m))
  if off = 0x44 then s.pmcsr f (if m.testBit 15 then v else clearBit v 15)
  else if off = 0x104 then s.setCfg f off (s.cfgRaw f off &&& (0xFFFFFFFF - (data &&& m)))
  else if off = 0x2E0 then
    let n := bitsOf v 8 6
    if 10 ≤ n ∧ n ≤ 16 then s.setCfg f off (n * 2 ^ 8) else s
  else if off = 0x58 ∧ m.testBit 15 = true ∧ data.testBit 15 = true then s.resetFn f .function
  else
    let s1 := s.setCfg f off ((v &&& s.cfgMask f off) ^^^ (cfgReset off &&& s.cfgMask f off))
    if off = 0x90 then s1.sendAllHeld f else s1

/-- CONFIG_REQUEST (R87, R119, R120, R143): answered with retry status until Grind step 2 ends, normally afterwards. A write tells the function
its requester ID (DEDUCED, PRESUMED: log entries 30, 31 and 34). -/
def execConfigRequest (fn : Fn) (bdf : BitVec 16) (write : Bool) (dword : Fin 1024) (enables : BitVec 4) (data : Word) (s : State) :
    Host.Outcome State Fault Refusal :=
  let f := fn.val
  let off := 4 * dword.val
  if s.configUp f then
    let s1 := s.wakeTlp f
    if write then ok ((s1.setEp f { s1.ep f with rid := bdf.toNat }).cfgWrite f off data.toNat (enableMask enables.toNat))
    else ok (s1.emit (.cfgData f off (BitVec.ofNat 32 (s1.cfgWord f off))))
  else if s.serving && s.hasFn f && s.linkUp f && (s.ep f).resetting.isNone then ok (s.emit (.cfgRetry f))
  else ok s

/-! ### The sideband port (R85, R86, R590) -/

/-- The value of an item that no source provides. -/
def noItem : Nat := 0xFFFFFFFF

/-- The value of a sideband item (R86). -/
def State.sidebandItem (s : State) (n : Nat) : Nat :=
  if n = 0 then
    let stage := if s.sup.railsFailed then 0xFF else match s.boot.stage with
      | .grind => 0
      | .bloom => 1
      | .pour => 2
    stage + s.rd Reg.FTL_HEALTH.GRADE * 2 ^ 8 + s.pstate * 2 ^ 16
  else if n ≤ 5 then Tbl.get noItem s.sideband.items n
  else noItem

/-- SMBUS_BLOCK_READ (R86, R590): an item is served. -/
def execSmbusBlockRead (item : Byte) (s : State) : Host.Outcome State Fault Refusal :=
  if s.sup.operating then
    let n := item.toNat
    ok (((s.bump Reg.SBD_CNT.READS).wr Reg.SBD_LAST.ITEM n).emit (.smbus n (BitVec.ofNat 32 (s.sidebandItem n))))
  else ok s

/-- SMBUS_REFUSED (R590): a transaction that is no Block Read is not acknowledged. -/
def execSmbusRefused (s : State) : Host.Outcome State Fault Refusal :=
  if s.sup.operating then ok (((s.wr Reg.SBD_STATUS.REFUSED 1).bump Reg.SBD_CNT.REFUSED).emit .smbusNack) else ok s

/-- SMBUS_TIMEOUT (R85, R590): the clock-low timeout ends a transaction. -/
def execSmbusTimeout (s : State) : Host.Outcome State Fault Refusal :=
  if s.sup.operating then ok (s.wr Reg.SBD_STATUS.TIMEOUT 1) else ok s

/-- SIDEBAND_REFRESH (R86): firmware refreshes items 0x01 to 0x05, and leaves them alone in P3. The package power of item 0x05 is a free
value: the manual gives no rule for it (DESIGN CHOICE: log entries 76 and 82). -/
def execSidebandRefresh (s : State) : Host.Outcome State Fault Refusal :=
  if s.sup.coreUp && decide (1 ≤ s.boot.step) && s.rd Reg.CSQ_PAIRS.ACTIVE != 0 && s.pstate != 3
      && (s.sideband.items.isEmpty || decide (s.sideband.at_ + 100 ≤ s.frame)) then
    let i1 := s.rd Reg.THM_TEMP.COMPOSITE + s.rd Reg.THM_TEMP.HOTTEST * 2 ^ 16
    let i4 := s.rd Reg.FTL_HEALTH.SPARE_PCT + s.rd Reg.FTL_HEALTH.WEAR_PCT * 2 ^ 8
    let items := [(1, i1), (2, s.regWord 0 0x60014), (3, s.rd Reg.FAN_STATUS.FAULT_MASK), (4, i4), (5, s.freeNat % 65536)]
    ok ({ s with sideband := { items := items.foldl (fun (t : Tbl Nat) e => Tbl.set noItem t e.1 e.2) [], at_ := s.frame } } : State).freeNext
  else ok s

end Sys2Proof.Machine
end

