-- ==== Sys2Proof/Machine/Dispatch.lean ====
section
/-! DEFINITION. One arm per command: a direct call of its meaning. -/

namespace Sys2Proof.Machine

def exec (i : Instr) (s : State) : Host.Outcome State Fault Refusal :=
  match i with
  | .vinRise vin => Sys2Proof.Machine.execVinRise vin s
  | .powerGood => Sys2Proof.Machine.execPowerGood s
  | .powerGoodTimeout => Sys2Proof.Machine.execPowerGoodTimeout s
  | .railSequenceRetry => Sys2Proof.Machine.execRailSequenceRetry s
  | .brownOut vin => Sys2Proof.Machine.execBrownOut vin s
  | .overvoltage vin => Sys2Proof.Machine.execOvervoltage vin s
  | .bankSwitchover => Sys2Proof.Machine.execBankSwitchover s
  | .drainEnd => Sys2Proof.Machine.execDrainEnd s
  | .vbankCutoff vbank => Sys2Proof.Machine.execVbankCutoff vbank s
  | .bleedDischargeEnd vbank => Sys2Proof.Machine.execBleedDischargeEnd vbank s
  | .vbankOvervoltage vbank => Sys2Proof.Machine.execVbankOvervoltage vbank s
  | .vbankOvRecover vbank => Sys2Proof.Machine.execVbankOvRecover vbank s
  | .chargeTargetReached vbank => Sys2Proof.Machine.execChargeTargetReached vbank s
  | .capMeasHourly => Sys2Proof.Machine.execCapMeasHourly s
  | .vbankDropDetected vbank => Sys2Proof.Machine.execVbankDropDetected vbank s
  | .measNow => Sys2Proof.Machine.execMeasNow s
  | .measBleedClose => Sys2Proof.Machine.execMeasBleedClose s
  | .measBleedOpen vbank => Sys2Proof.Machine.execMeasBleedOpen vbank s
  | .measCountStart vbank => Sys2Proof.Machine.execMeasCountStart vbank s
  | .measComplete vbank => Sys2Proof.Machine.execMeasComplete vbank s
  | .perstAssert fn => Sys2Proof.Machine.execPerstAssert fn s
  | .perstDeassert fn => Sys2Proof.Machine.execPerstDeassert fn s
  | .hotReset fn => Sys2Proof.Machine.execHotReset fn s
  | .linkDown fn => Sys2Proof.Machine.execLinkDown fn s
  | .flr fn => Sys2Proof.Machine.execFlr fn s
  | .resetEnd fn => Sys2Proof.Machine.execResetEnd fn s
  | .watchdogRestart => Sys2Proof.Machine.execWatchdogRestart s
  | .coldReq fn key => Sys2Proof.Machine.execColdReq fn key s
  | .lockstepMismatch pair => Sys2Proof.Machine.execLockstepMismatch pair s
  | .lockstepTakeoverDone => Sys2Proof.Machine.execLockstepTakeoverDone s
  | .channelEngineStall ch lun => Sys2Proof.Machine.execChannelEngineStall ch lun s
  | .channelRestart fn ch => Sys2Proof.Machine.execChannelRestart fn ch s
  | .coreDiodeSample diode reading => Sys2Proof.Machine.execCoreDiodeSample diode reading s
  | .boardSensorSample input reading => Sys2Proof.Machine.execBoardSensorSample input reading s
  | .tripCooldown temp => Sys2Proof.Machine.execTripCooldown temp s
  | .orderlyStopComplete => Sys2Proof.Machine.execOrderlyStopComplete s
  | .orderlyStopEnd => Sys2Proof.Machine.execOrderlyStopEnd s
  | .bootCodeLoaded => Sys2Proof.Machine.execBootCodeLoaded s
  | .firmwareSlotCheck ok1 ok2 => Sys2Proof.Machine.execFirmwareSlotCheck ok1 ok2 s
  | .rootKeyDerivation okA okB => Sys2Proof.Machine.execRootKeyDerivation okA okB s
  | .hostInterfaceStart => Sys2Proof.Machine.execHostInterfaceStart s
  | .journalReplay => Sys2Proof.Machine.execJournalReplay s
  | .bloomEntry => Sys2Proof.Machine.execBloomEntry s
  | .pourEntry => Sys2Proof.Machine.execPourEntry s
  | .bloomBoundMissed => Sys2Proof.Machine.execBloomBoundMissed s
  | .configRequest fn bdf write dword enables data => Sys2Proof.Machine.execConfigRequest fn bdf write dword enables data s
  | .pmcsrWrite fn data => Sys2Proof.Machine.execPmcsrWrite fn data s
  | .bar4Write fn rid off bytes => Sys2Proof.Machine.execBar4Write fn rid off bytes s
  | .bar4Read fn rid off len => Sys2Proof.Machine.execBar4Read fn rid off len s
  | .bar0MalformedAccess fn bar2 write off len => Sys2Proof.Machine.execBar0MalformedAccess fn bar2 write off len s
  | .registerWrite fn off data high => Sys2Proof.Machine.execRegisterWrite fn off data high s
  | .lowRegisterRead fn off => Sys2Proof.Machine.execLowRegisterRead fn off s
  | .msixUnmask fn vector => Sys2Proof.Machine.execMsixUnmask fn vector s
  | .coalesceTimer fn ring => Sys2Proof.Machine.execCoalesceTimer fn ring s
  | .sqTailDoorbell fn ring value => Sys2Proof.Machine.execSqTailDoorbell fn ring value s
  | .cqHeadDoorbell fn ring value => Sys2Proof.Machine.execCqHeadDoorbell fn ring value s
  | .completionTlp fn tag cpl => Sys2Proof.Machine.execCompletionTlp fn tag cpl s
  | .completionTimeout fn tag => Sys2Proof.Machine.execCompletionTimeout fn tag s
  | .tagQuarantineEnd fn tag => Sys2Proof.Machine.execTagQuarantineEnd fn tag s
  | .dllAck ctx => Sys2Proof.Machine.execDllAck ctx s
  | .clkreqAssert fn => Sys2Proof.Machine.execClkreqAssert fn s
  | .electricalIdleExit fn => Sys2Proof.Machine.execElectricalIdleExit fn s
  | .aspmL1Entry fn => Sys2Proof.Machine.execAspmL1Entry fn s
  | .pmeTurnOff fn => Sys2Proof.Machine.execPmeTurnOff fn s
  | .windowCommit fn => Sys2Proof.Machine.execWindowCommit fn s
  | .epochRetire => Sys2Proof.Machine.execEpochRetire s
  | .adminEnable fn => Sys2Proof.Machine.execAdminEnable fn s
  | .adminDisable fn => Sys2Proof.Machine.execAdminDisable fn s
  | .fetchIssue tag => Sys2Proof.Machine.execFetchIssue tag s
  | .fetchComplete fn tag packets => Sys2Proof.Machine.execFetchComplete fn tag packets s
  | .hostRead ctx tag => Sys2Proof.Machine.execHostRead ctx tag s
  | .hostWrite ctx tag => Sys2Proof.Machine.execHostWrite ctx tag s
  | .flush ctx => Sys2Proof.Machine.execFlush ctx s
  | .trim ctx => Sys2Proof.Machine.execTrim ctx s
  | .writeZeroes ctx => Sys2Proof.Machine.execWriteZeroes ctx s
  | .verify ctx tag => Sys2Proof.Machine.execVerify ctx tag s
  | .identify ctx => Sys2Proof.Machine.execIdentify ctx s
  | .getLog ctx => Sys2Proof.Machine.execGetLog ctx s
  | .setFeature ctx => Sys2Proof.Machine.execSetFeature ctx s
  | .getFeature ctx => Sys2Proof.Machine.execGetFeature ctx s
  | .ringCreate ctx => Sys2Proof.Machine.execRingCreate ctx s
  | .ringDelete ctx => Sys2Proof.Machine.execRingDelete ctx s
  | .ringReset ctx => Sys2Proof.Machine.execRingReset ctx s
  | .powerState ctx => Sys2Proof.Machine.execPowerState ctx s
  | .fwDownload ctx image => Sys2Proof.Machine.execFwDownload ctx image s
  | .fwActivate ctx signatureOk => Sys2Proof.Machine.execFwActivate ctx signatureOk s
  | .keyLoad ctx rec pointOk unwrapped => Sys2Proof.Machine.execKeyLoad ctx rec pointOk unwrapped s
  | .keyRoll ctx => Sys2Proof.Machine.execKeyRoll ctx s
  | .keyPurge ctx => Sys2Proof.Machine.execKeyPurge ctx s
  | .groupJoin ctx rec unwrapped => Sys2Proof.Machine.execGroupJoin ctx rec unwrapped s
  | .groupLeave ctx => Sys2Proof.Machine.execGroupLeave ctx s
  | .groupStatus ctx => Sys2Proof.Machine.execGroupStatus ctx s
  | .rawRead ctx fail => Sys2Proof.Machine.execRawRead ctx fail s
  | .rawProgram ctx pages pass => Sys2Proof.Machine.execRawProgram ctx pages pass s
  | .rawErase ctx pass => Sys2Proof.Machine.execRawErase ctx pass s
  | .ucodeLoad ctx image signatureOk => Sys2Proof.Machine.execUcodeLoad ctx image signatureOk s
  | .diagEcho ctx => Sys2Proof.Machine.execDiagEcho ctx s
  | .diagDmaLoop ctx data => Sys2Proof.Machine.execDiagDmaLoop ctx data s
  | .mirrorWriteDone ctx blk => Sys2Proof.Machine.execMirrorWriteDone ctx blk s
  | .journalBatchDurable => Sys2Proof.Machine.execJournalBatchDurable s
  | .groupWaitExpiry ctx => Sys2Proof.Machine.execGroupWaitExpiry ctx s
  | .completionWrite ctx => Sys2Proof.Machine.execCompletionWrite ctx s
  | .readSnapshot ctx => Sys2Proof.Machine.execReadSnapshot ctx s
  | .readDataDone ctx => Sys2Proof.Machine.execReadDataDone ctx s
  | .flushComplete ctx => Sys2Proof.Machine.execFlushComplete ctx s
  | .rangeApply entry => Sys2Proof.Machine.execRangeApply entry s
  | .frameBoundary inp => Sys2Proof.Machine.execFrameBoundary inp s
  | .planCutoff inp => Sys2Proof.Machine.execPlanCutoff inp s
  | .carriedLoadSuspend => Sys2Proof.Machine.execCarriedLoadSuspend s
  | .domainClockGate domain => Sys2Proof.Machine.execDomainClockGate domain s
  | .domainPowerGate domain => Sys2Proof.Machine.execDomainPowerGate domain s
  | .channelInitDone ch ids rate temp => Sys2Proof.Machine.execChannelInitDone ch ids rate temp s
  | .zqShortCal ch code => Sys2Proof.Machine.execZqShortCal ch code s
  | .channelRetrainStart ch => Sys2Proof.Machine.execChannelRetrainStart ch s
  | .channelRetrainDone ch => Sys2Proof.Machine.execChannelRetrainDone ch s
  | .busPhaseStop ch lun => Sys2Proof.Machine.execBusPhaseStop ch lun s
  | .lunReady ch lun bytes => Sys2Proof.Machine.execLunReady ch lun bytes s
  | .timedWaitEnd ch lun => Sys2Proof.Machine.execTimedWaitEnd ch lun s
  | .suspendIssue ch lun => Sys2Proof.Machine.execSuspendIssue ch lun s
  | .suspendHoldExpiry ch lun => Sys2Proof.Machine.execSuspendHoldExpiry ch lun s
  | .resumeIssue ch lun => Sys2Proof.Machine.execResumeIssue ch lun s
  | .ucodeStoreSwap => Sys2Proof.Machine.execUcodeStoreSwap s
  | .ucodeTablesActive => Sys2Proof.Machine.execUcodeTablesActive s
  | .hardDecodeDone page cw res => Sys2Proof.Machine.execHardDecodeDone page cw res s
  | .softDecodeDone page cw ok => Sys2Proof.Machine.execSoftDecodeDone page cw ok s
  | .rowRebuildDone page cw ok => Sys2Proof.Machine.execRowRebuildDone page cw ok s
  | .nandTempRead ch lun reading => Sys2Proof.Machine.execNandTempRead ch lun reading s
  | .checkpointAdvance => Sys2Proof.Machine.execCheckpointAdvance s
  | .journalUrgent => Sys2Proof.Machine.execJournalUrgent s
  | .journalFull => Sys2Proof.Machine.execJournalFull s
  | .freeBandStateChange => Sys2Proof.Machine.execFreeBandStateChange s
  | .gcEraseStart block => Sys2Proof.Machine.execGcEraseStart block s
  | .wearLevelStart => Sys2Proof.Machine.execWearLevelStart s
  | .gradeRecompute => Sys2Proof.Machine.execGradeRecompute s
  | .beaconSend => Sys2Proof.Machine.execBeaconSend s
  | .beaconReceived slot beacon => Sys2Proof.Machine.execBeaconReceived slot beacon s
  | .hello peer na incarnation tagOk => Sys2Proof.Machine.execHello peer na incarnation tagOk s
  | .challenge peer nb echo incarnation tagOk => Sys2Proof.Machine.execChallenge peer nb echo incarnation tagOk s
  | .confirm peer echo tagOk => Sys2Proof.Machine.execConfirm peer echo tagOk s
  | .handshakeTimeout peer => Sys2Proof.Machine.execHandshakeTimeout peer s
  | .handshakeRetry peer => Sys2Proof.Machine.execHandshakeRetry peer s
  | .peerAbsent peer => Sys2Proof.Machine.execPeerAbsent peer s
  | .heartbeatSend => Sys2Proof.Machine.execHeartbeatSend s
  | .heartbeat peer hdr steward incarnation state view => Sys2Proof.Machine.execHeartbeat peer hdr steward incarnation state view s
  | .viewPropose peer hdr view => Sys2Proof.Machine.execViewPropose peer hdr view s
  | .viewAck peer hdr view earlier => Sys2Proof.Machine.execViewAck peer hdr view earlier s
  | .viewCommit peer hdr view => Sys2Proof.Machine.execViewCommit peer hdr view s
  | .leaveRequest peer hdr => Sys2Proof.Machine.execLeaveRequest peer hdr s
  | .grantExpiry => Sys2Proof.Machine.execGrantExpiry s
  | .proposalRetry => Sys2Proof.Machine.execProposalRetry s
  | .stewardLeaseExpiry => Sys2Proof.Machine.execStewardLeaseExpiry s
  | .isolationTimeout => Sys2Proof.Machine.execIsolationTimeout s
  | .stripeOpenIssue => Sys2Proof.Machine.execStripeOpenIssue s
  | .stripeOpen peer hdr stripe k p q vacant view => Sys2Proof.Machine.execStripeOpen peer hdr stripe k p q vacant view s
  | .contrib peer hdr stripe slot flags plan entries => Sys2Proof.Machine.execContrib peer hdr stripe slot flags plan entries s
  | .contribAck peer hdr stripe cseq role status => Sys2Proof.Machine.execContribAck peer hdr stripe cseq role status s
  | .rangeNote peer hdr stripe slba nblk zeroes incarnation osn => Sys2Proof.Machine.execRangeNote peer hdr stripe slba nblk zeroes incarnation osn s
  | .segClose peer hdr stripe slot granules => Sys2Proof.Machine.execSegClose peer hdr stripe slot granules s
  | .sealWaitExpiry stripe => Sys2Proof.Machine.execSealWaitExpiry stripe s
  | .stripeState peer hdr stripe state erased => Sys2Proof.Machine.execStripeState peer hdr stripe state erased s
  | .rebuildPlan peer hdr plan view stripe erased first => Sys2Proof.Machine.execRebuildPlan peer hdr plan view stripe erased first s
  | .chunkDone peer hdr plan stripe chunk status unsolved => Sys2Proof.Machine.execChunkDone peer hdr plan stripe chunk status unsolved s
  | .checkpoint peer hdr plan stripe next erased => Sys2Proof.Machine.execCheckpoint peer hdr plan stripe next erased s
  | .checkpointTimer => Sys2Proof.Machine.execCheckpointTimer s
  | .ledgerSync peer hdr stripe slot first states => Sys2Proof.Machine.execLedgerSync peer hdr stripe slot first states s
  | .outerRead peer hdr stripe slot first count => Sys2Proof.Machine.execOuterRead peer hdr stripe slot first count s
  | .patrolRequest peer hdr stripe chunk count => Sys2Proof.Machine.execPatrolRequest peer hdr stripe chunk count s
  | .patrolReply peer hdr stripe chunk count slot status digests => Sys2Proof.Machine.execPatrolReply peer hdr stripe chunk count slot status digests s
  | .patrolReplyTimeout => Sys2Proof.Machine.execPatrolReplyTimeout s
  | .dramTrainingAdopted sc => Sys2Proof.Machine.execDramTrainingAdopted sc s
  | .marginCheckStart => Sys2Proof.Machine.execMarginCheckStart s
  | .dramRefresh sc => Sys2Proof.Machine.execDramRefresh sc s
  | .rowIdleClose sc bank => Sys2Proof.Machine.execRowIdleClose sc bank s
  | .requestAgePromotion sc line cls waited => Sys2Proof.Machine.execRequestAgePromotion sc line cls waited s
  | .dramLineRead sc line errs => Sys2Proof.Machine.execDramLineRead sc line errs s
  | .partialLineWrite sc line mask data errs => Sys2Proof.Machine.execPartialLineWrite sc line mask data errs s
  | .scrubRewrite sc => Sys2Proof.Machine.execScrubRewrite sc s
  | .bufferAllocate owner n => Sys2Proof.Machine.execBufferAllocate owner n s
  | .bufferShare handle n => Sys2Proof.Machine.execBufferShare handle n s
  | .bufferRelease handle => Sys2Proof.Machine.execBufferRelease handle s
  | .thiSearch table key mask start => Sys2Proof.Machine.execThiSearch table key mask start s
  | .searchAdd table key mask start field delta => Sys2Proof.Machine.execSearchAdd table key mask start field delta s
  | .insertAny table key care prio data unique field add => Sys2Proof.Machine.execInsertAny table key care prio data unique field add s
  | .insertOrdered table key care prio data before => Sys2Proof.Machine.execInsertOrdered table key care prio data before s
  | .thiDelete table index => Sys2Proof.Machine.execThiDelete table index s
  | .deleteMatch table key mask => Sys2Proof.Machine.execDeleteMatch table key mask s
  | .writeData table index data mask => Sys2Proof.Machine.execWriteData table index data mask s
  | .thiRead index => Sys2Proof.Machine.execThiRead index s
  | .compactionStep table => Sys2Proof.Machine.execCompactionStep table s
  | .thiRdAddr fn data => Sys2Proof.Machine.execThiRdAddr fn data s
  | .keySweepEnd => Sys2Proof.Machine.execKeySweepEnd s
  | .keyPurgeComplete => Sys2Proof.Machine.execKeyPurgeComplete s
  | .debugChallenge => Sys2Proof.Machine.execDebugChallenge s
  | .debugSubmit signatureOk => Sys2Proof.Machine.execDebugSubmit signatureOk s
  | .bootStoreWriteDone => Sys2Proof.Machine.execBootStoreWriteDone s
  | .activationDrainEnd => Sys2Proof.Machine.execActivationDrainEnd s
  | .firmwareResume => Sys2Proof.Machine.execFirmwareResume s
  | .lockAll => Sys2Proof.Machine.execLockAll s
  | .rawEn fn ch mask => Sys2Proof.Machine.execRawEn fn ch mask s
  | .idleDetected => Sys2Proof.Machine.execIdleDetected s
  | .prepareEnd => Sys2Proof.Machine.execPrepareEnd s
  | .domainAnswer domain => Sys2Proof.Machine.execDomainAnswer domain s
  | .askTimeout => Sys2Proof.Machine.execAskTimeout s
  | .quiesceEnd => Sys2Proof.Machine.execQuiesceEnd s
  | .railAck rail mv => Sys2Proof.Machine.execRailAck rail mv s
  | .railTimeout rail => Sys2Proof.Machine.execRailTimeout rail s
  | .railRaiseRetry rail => Sys2Proof.Machine.execRailRaiseRetry rail s
  | .powerCommit => Sys2Proof.Machine.execPowerCommit s
  | .commitWakeSample => Sys2Proof.Machine.execCommitWakeSample s
  | .exitComplete => Sys2Proof.Machine.execExitComplete s
  | .entryRetry => Sys2Proof.Machine.execEntryRetry s
  | .bemfCrossing fan reverse rpm inTime => Sys2Proof.Machine.execBemfCrossing fan reverse rpm inTime s
  | .missedCrossing fan => Sys2Proof.Machine.execMissedCrossing fan s
  | .probeWindowEnd fan => Sys2Proof.Machine.execProbeWindowEnd fan s
  | .brakeReleaseMeasure fan rpm => Sys2Proof.Machine.execBrakeReleaseMeasure fan rpm s
  | .peakLimitTrip fan close => Sys2Proof.Machine.execPeakLimitTrip fan close s
  | .rampEnd fan => Sys2Proof.Machine.execRampEnd fan s
  | .locateTimeout fan => Sys2Proof.Machine.execLocateTimeout fan s
  | .runSecond fan => Sys2Proof.Machine.execRunSecond fan s
  | .coastTimeout fan => Sys2Proof.Machine.execCoastTimeout fan s
  | .settleTimeout fan => Sys2Proof.Machine.execSettleTimeout fan s
  | .settleBrake fan => Sys2Proof.Machine.execSettleBrake fan s
  | .keMeasurement fan ke => Sys2Proof.Machine.execKeMeasurement fan ke s
  | .fanRetry fn mask => Sys2Proof.Machine.execFanRetry fn mask s
  | .smbusBlockRead item => Sys2Proof.Machine.execSmbusBlockRead item s
  | .smbusRefused => Sys2Proof.Machine.execSmbusRefused s
  | .smbusTimeout => Sys2Proof.Machine.execSmbusTimeout s
  | .sidebandRefresh => Sys2Proof.Machine.execSidebandRefresh s
  | .linkUp fn speed width flit => Sys2Proof.Machine.execLinkUp fn speed width flit s
  | .l0pWidthChange fn width => Sys2Proof.Machine.execL0pWidthChange fn width s
  | .pouloSupplyLost vbank => Sys2Proof.Machine.execPouloSupplyLost vbank s
  | .padMessage peer hdr => Sys2Proof.Machine.execPadMessage peer hdr s

end Sys2Proof.Machine
end

