-- ==== Sys2Proof/Safety.lean ====
section
/-! DEFINITION. The terms of the claims: a step that stops nowhere, the parts of the state a command leaves alone, the canonical form
of the stored tables, and what the log and the memory satisfy after every step. -/

set_option Elab.async false

namespace Sys2Proof.Machine

/-- The machine goes on: the step answers a next state. -/
def State.Live (s : State) : Prop := ∃ t, step s = .next t

/-- The command runs to this next state. -/
def Runs (c : Instr) (s t : State) : Prop := exec c s = .next t

/-- The parts of the state besides the register file, as the claims name them. -/
inductive Part where
  | kept | pairWords | frame | board | supply | boot | pairs | endpoint | vectors | windows | memory | tags | rings | contexts
  | fetch | reconcile | lostStripes | log | health | features | ftl | flash | channels | luns | decodes | patrol | power | sensors
  | thermal | fans | sideband | dram | subchannels | pool | engine | keys | bootStore | microcode | scheduler | group | buses
  | freeValues | queue
  deriving DecidableEq, Repr

/-- The part is the same in both states. -/
def Part.same (p : Part) (s t : State) : Prop :=
  match p with
  | .kept => t.keptRegs = s.keptRegs
  | .pairWords => t.pairLow = s.pairLow ∧ t.pairHigh = s.pairHigh
  | .frame => t.frame = s.frame
  | .board => t.board = s.board
  | .supply => t.sup = s.sup
  | .boot => t.boot = s.boot
  | .pairs => t.pairs = s.pairs
  | .endpoint => t.eps = s.eps
  | .vectors => t.msix = s.msix
  | .windows => t.wins = s.wins
  | .memory => t.mem = s.mem
  | .tags => t.tags = s.tags
  | .rings => t.rings = s.rings
  | .contexts => t.ctxs = s.ctxs
  | .fetch => t.nextOrder = s.nextOrder ∧ t.rrLast = s.rrLast ∧ t.rrLeft = s.rrLeft
  | .reconcile => t.recon = s.recon ∧ t.reconSeq = s.reconSeq
  | .lostStripes => t.lost = s.lost ∧ t.lostSeq = s.lostSeq
  | .log => t.events = s.events ∧ t.eventTotal = s.eventTotal
  | .health => t.health = s.health
  | .features => t.saved = s.saved ∧ t.hostTime = s.hostTime
  | .ftl => t.ftl = s.ftl
  | .flash => t.blks = s.blks ∧ t.pages = s.pages ∧ t.bands = s.bands
  | .channels => t.chns = s.chns
  | .luns => t.luns = s.luns
  | .decodes => t.decs = s.decs
  | .patrol => t.patrol = s.patrol
  | .power => t.pwr = s.pwr
  | .sensors => t.sensors = s.sensors
  | .thermal => t.thermal = s.thermal
  | .fans => t.fans = s.fans
  | .sideband => t.sideband = s.sideband
  | .dram => t.dram = s.dram
  | .subchannels => t.scs = s.scs
  | .pool => t.pool = s.pool
  | .engine => t.thi = s.thi
  | .keys => t.sec = s.sec
  | .bootStore => t.bst = s.bst
  | .microcode => t.ucode = s.ucode
  | .scheduler => t.sched = s.sched
  | .group => t.group = s.group
  | .buses => t.out = s.out
  | .freeValues => t.free = s.free
  | .queue => t.pending = s.pending

/-- Only the parts listed may differ. -/
def Only (ps : List Part) (s t : State) : Prop := ∀ p, p ∉ ps → p.same s t

/-- The homes of the instances of the register fields listed. -/
def IsHome (rs : List Fld) (k : Nat) : Prop := ∃ r ∈ rs, ∃ i < r.count, ∃ f < 2, k = r.key i f

/-- Only the register fields listed may differ: every other home in the register file holds what it held. -/
def RegsOnly (rs : List Fld) (s t : State) : Prop := ∀ k, ¬ IsHome rs k → Tbl.get 0 t.regs k = Tbl.get 0 s.regs k

/-- Nothing but the parts and the register fields listed differs. -/
def Frame (ps : List Part) (rs : List Fld) (s t : State) : Prop := Only ps s t ∧ RegsOnly rs s t

/-- The parts an asynchronous event may reach: the function's endpoint state, its rings, its vectors and the bus (R182, R183). -/
def asyncParts : List Part := [.endpoint, .rings, .vectors, .buses]

/-- Memory is in its canonical form. -/
def State.MemCanonical (s : State) : Prop := s.mem.wf = true

/-- The Event log holds the latest 4,096 entries of the count it keeps (R181). -/
def State.LogWithinBound (s : State) : Prop := s.events.length = min s.eventTotal 4096

/-- The invariant every step keeps: the canonical form of memory, of the register file and of the engine's entries; an Event log of at most the
latest 4,096 entries, newest first, none later than the power-on time (R181); Reconcile and Lost-stripe entries in rising order of a SEQ that
is never reused (R179, R180). -/
structure State.Inv (s : State) : Prop where
  mem : s.MemCanonical
  regs : Tbl.wf 0 s.regs = true
  kept : Tbl.wf 0 s.keptRegs = true
  entries : Tbl.wf {} s.thi = true
  log : s.LogWithinBound
  newest : s.events.Pairwise (fun e f => f.time ≤ e.time)
  now : ∀ e ∈ s.events, e.time ≤ s.frame
  recon : s.recon.Pairwise (fun r q => r.seq < q.seq)
  reconSeq : ∀ r ∈ s.recon, r.seq ≤ s.reconSeq
  lost : s.lost.Pairwise (fun l m => l.seq < m.seq)
  lostSeq : ∀ l ∈ s.lost, l.seq ≤ s.lostSeq

end Sys2Proof.Machine
end

