-- ==== Sys2Proof/Certificates/Slice0/Obligations.lean ====
section
/-! DEFINITION. The statements for the provers, family by family, each in the terms of Safety.lean and the meanings' own names. -/

set_option Elab.async false

open Sys2Proof Sys2Proof.Machine

/-! ### The block as a whole (R5, R16, R17, R47, R179 to R181, R474, R585, R586) -/

/-- A step takes the command at the front of the queue and runs it on the state with the queue's rest; with an empty queue the block idles,
which is the model's choice (log entry 5). -/
def Obligations.StepRunsFront : Prop :=
  ∀ (s : State),
    (∀ (c : Instr) (rest : List Instr), s.pending = c :: rest → step s = exec c { s with pending := rest })
    ∧ (s.pending = [] → step s = .next s)

/-- R17, R585, R586: after reset the queue, memory and the log are empty, every register field reads the value its table gives, and the
invariant holds. The values of the board record are the model's choice (log entry 3). -/
def Obligations.ResetState : Prop :=
  State.reset.Inv ∧ State.reset.pending = [] ∧ State.reset.mem = [] ∧ State.reset.events = [] ∧ State.reset.eventTotal = 0
    ∧ State.reset.frame = 0 ∧ State.reset.sup.coreUp = false
    ∧ (∀ r ∈ regTable, ∀ i f, State.reset.rd r i f = r.reset i % 2 ^ r.w)
    ∧ (∀ (f : Fn) (n : RingNo), State.reset.ring f n = {}) ∧ (∀ (f : Fn) (t : Tag), State.reset.tag f t = .idle)
    ∧ State.reset.rd Reg.HUP_BANK_CFG.COUNT = 0x20 ∧ State.reset.rd Reg.HUP_BANK_CFG.UNIT = 0x03E8
    ∧ State.reset.rd Reg.HUP_CHG_CFG.VCHG = 108 ∧ State.reset.rd Reg.HUP_CHG_CFG.ICHG = 5 ∧ State.reset.rd Reg.HUP_CHG_CFG.CHG_EN = 1
    ∧ State.reset.rd Reg.THI_CFG.HEAD_ROOM = 64

/-- Every step from a state with the invariant ends in a state with it. -/
def Obligations.InvariantKept : Prop :=
  ∀ s t : State, s.Inv → step s = .next t → t.Inv

/-- What no command does, whatever it is (R17, R47, R107, R179 to R181): a step never stops; it takes one command off the queue; the power-on
time moves only at a frame boundary and by one frame; an event is only added, and the latest 4,096 are held across every reset; Reconcile
entries go only when a posted completion releases them, and no sequence number is used again; the straps and the fused security version do
not go back; only a BAR4 write writes the windows' memory, and otherwise it is kept or lost whole. -/
def Obligations.StepRules : Prop :=
  (∀ s : State, s.Live)
  ∧ ∀ s t : State, step s = .next t →
    t.pending = s.pending.tail
    ∧ (t.frame = if s.pending.head?.any (fun c => c matches .frameBoundary ..) then t.frame else s.frame)
    ∧ (t.frame = s.frame ∨ t.frame = s.frame + 1)
    ∧ s.eventTotal ≤ t.eventTotal
    ∧ (s.Inv → t.events = (t.events.take (t.eventTotal - s.eventTotal) ++ s.events).take 4096)
    ∧ s.reconSeq ≤ t.reconSeq ∧ s.lostSeq ≤ t.lostSeq
    ∧ (if s.pending.head?.any (fun c => c matches .dllAck ..) then t.recon.Sublist s.recon else s.recon <+: t.recon)
    ∧ (∀ r ∈ t.recon, r ∈ s.recon ∨ s.reconSeq < r.seq)
    ∧ t.board = s.board ∧ s.bst.fusedSv ≤ t.bst.fusedSv ∧ s.free ≤ t.free ∧ s.out <:+ t.out
    ∧ (t.mem = s.mem ∨ t.mem = [] ∨ s.pending.head?.any (fun c => c matches .bar4Write ..) = true)

/-- Entry `i` of table `tb` matches a search (R474). -/
def Sys2Proof.Machine.State.Matches (s : State) (tb : Fin 8) (key : BitVec 160) (mask : BitVec 80) (start i : Nat) : Prop :=
  (s.thiEnt i).valid = true ∧ (s.thiEnt i).table = tb ∧ start ≤ i
    ∧ ∀ b < (if s.thiWidth tb = 4 then 160 else 80),
      mask.getLsbD (b % 80) = false ∨ (s.thiWidth tb ≠ 1 ∧ (s.thiEnt i).care.testBit b = false) ∨ key.getLsbD b = (s.thiEnt i).value.testBit b

/-- R474: a search answers the match of the highest priority, among those the lowest index, says whether another match shares that priority,
and misses when no entry matches. -/
def Obligations.EngineSearch : Prop :=
  ∀ (s : State) (tb : Fin 8) (key : BitVec 160) (mask : BitVec 80) (start : Fin 32768), s.thiUp = true → Tbl.wf {} s.thi = true →
    ((∀ i, ¬ s.Matches tb key mask start i) →
      ∃ t, exec (.thiSearch tb key mask start) s = .next t ∧ t.out = .lookup .miss :: s.out ∧ Frame [.buses] [Reg.THI_OPS.COUNT] s t)
    ∧ (∀ i, s.Matches tb key mask start i →
      (∀ k, s.Matches tb key mask start k → (s.thiEnt k).prio < (s.thiEnt i).prio ∨ ((s.thiEnt k).prio = (s.thiEnt i).prio ∧ i ≤ k)) →
      ∃ t m, exec (.thiSearch tb key mask start) s = .next t ∧ t.out = .lookup (.hit i m (s.thiEnt i).data) :: s.out
        ∧ (m = true ↔ ∃ k, k ≠ i ∧ s.Matches tb key mask start k ∧ (s.thiEnt k).prio = (s.thiEnt i).prio)
        ∧ Frame [.buses] [Reg.THI_OPS.COUNT, Reg.THI_CNT.MULTI_HITS] s t)
    ∧ ((∃ i, s.Matches tb key mask start i) → ∃ i, s.Matches tb key mask start i ∧
      ∀ k, s.Matches tb key mask start k → (s.thiEnt k).prio < (s.thiEnt i).prio ∨ ((s.thiEnt k).prio = (s.thiEnt i).prio ∧ i ≤ k))

/-! ### Supplies and the bank (R59 to R82) -/

/-- R62: VIN rising through the threshold with no power starts the rail sequence at its first step; each power-good enables the next step, and
the sixth ends the sequence and releases the core die; a power-good that is late disables every rail, and after the third failed attempt the
rails stay off; the retry starts the next attempt.
Where it rests on the model's own choices, they are those of log entry 14. -/
def Obligations.RailSequence : Prop :=
  ∀ s : State,
    (∀ vin, s.sup.vin ≤ s.riseNow → s.riseNow < vin → s.sup.coreUp = false → s.sup.drain = .none → s.thermal.tripped = false →
      s.sup.off = false →
      ∃ t, exec (.vinRise vin) s = .next t ∧ t.sup.operating = true ∧ t.sup.steps = 1 ∧ t.sup.attempts = 1 ∧ t.sup.coreUp = false
        ∧ t.sup.orGate = true ∧ t.sup.vin = vin ∧ t.sup.vinAt = s.frame
        ∧ ∀ p ∈ [Part.frame, .board, .reconcile, .lostStripes, .flash, .buses, .freeValues, .queue], p.same s t)
    ∧ (s.sequencing = true → s.sup.retryWait = false → s.sup.goods < 5 →
      ∃ t, exec .powerGood s = .next t ∧ t.sup.goods = s.sup.goods + 1 ∧ t.sup.steps = min 5 (s.sup.goods + 2)
        ∧ t.sup.coreUp = false ∧ Frame [.supply] [] s t)
    ∧ (s.sequencing = true → s.sup.retryWait = false → 5 ≤ s.sup.goods →
      ∃ t, exec .powerGood s = .next t ∧ t.sup.coreUp = true ∧ t.sup.steps = 5 ∧ Frame [.supply] [] s t)
    ∧ (s.sequencing = true → s.sup.retryWait = false →
      ∃ t, exec .powerGoodTimeout s = .next t ∧ t.sup.steps = 0 ∧ t.sup.goods = 0
        ∧ (s.sup.attempts < 3 → t.sup.retryWait = true ∧ t.sup.railsFailed = s.sup.railsFailed)
        ∧ (3 ≤ s.sup.attempts → t.sup.railsFailed = true ∧ t.sup.retryWait = false) ∧ Frame [.supply] [] s t)
    ∧ (s.sup.operating = true → s.sup.retryWait = true → s.sup.orGate = true →
      ∃ t, exec .railSequenceRetry s = .next t ∧ t.sup.retryWait = false ∧ t.sup.steps = 1 ∧ t.sup.goods = 0
        ∧ t.sup.attempts = s.sup.attempts + 1 ∧ Frame [.supply] [] s t)

/-- R79, R80: recognition with the core die running is the trigger moment of a drain from the bank: HUP_OR_G opens, the charger stops and the
device serves no more; before the core die has left reset it only abandons the rail sequence, without a drain; the switch-over closes
HUP_SW_G and lets drain work start.
Where it rests on the model's own choices, they are those of log entry 16. -/
def Obligations.DrainBegins : Prop :=
  ∀ s : State,
    (∀ vin, s.sup.operating = true → vin < s.fallMv → s.sup.coreUp = true → s.sup.drain = .none →
      ∃ t, exec (.brownOut vin) s = .next t ∧ t.sup.drain = .brownOut ∧ t.sup.orGate = false ∧ t.sup.boPending = true
        ∧ t.sup.drainWork = false ∧ t.rd Reg.HUP_STATUS.CHARGING = 0 ∧ t.rd Reg.HUP_STATUS.VIN_OK = 0 ∧ t.serving = false
        ∧ t.ftl.journal.collecting = [] ∧ t.ftl.journal.flight = none)
    ∧ (∀ vin, s.sup.operating = true → 63000 < vin → s.sup.coreUp = true → s.sup.drain = .none →
      ∃ t, exec (.overvoltage vin) s = .next t ∧ t.sup.drain = .overvoltage ∧ t.sup.orGate = false
        ∧ t.rd Reg.HUP_STATUS.OV_EVENT = 1 ∧ t.rd Reg.HUP_STATUS.VIN_OK = 0 ∧ t.serving = false)
    ∧ (∀ vin, s.sup.operating = true → vin < s.fallMv → s.sup.coreUp = false → s.sup.drain = .none → s.sup.orGate = true →
      ∃ t, exec (.brownOut vin) s = .next t ∧ t.sup.drain = .none ∧ t.sup.steps = 0 ∧ t.sup.orGate = false
        ∧ t.sup.boPending = s.sup.boPending ∧ t.sup.nextCause = 0 ∧ t.recon = s.recon ∧ t.health = s.health)
    ∧ (s.sup.drain ≠ .none → s.sup.orGate = false → s.sup.swGate = false →
      ∃ t, exec .bankSwitchover s = .next t ∧ t.sup.swGate = true ∧ t.sup.drainWork = true ∧ t.sup.drain = s.sup.drain)

/-- R72, R80, R82, R59: the drain's end, or the cut at 22.0 V, disables the rails and holds the core die in cold reset; with VIN not above RISE
the bleed closes until VBANK is below 5.0 V; with VIN above RISE a cold start begins at once; without supplies Poulo stops.
Where it rests on the model's own choices, they are those of log entries 17, 19 and 21. -/
def Obligations.DrainEnds : Prop :=
  ∀ s : State,
    (s.sup.drain ≠ .none → s.sup.drainWork = true → s.drainRails = true → s.sup.vin ≤ s.riseMv →
      ∃ t, exec .drainEnd s = .next t ∧ t.sup.drain = .none ∧ t.sup.coreUp = false ∧ t.sup.swGate = false ∧ t.sup.steps = 0
        ∧ t.sup.discharging = true ∧ t.rd Reg.HUP_STATUS.BLEED_ON = 1 ∧ t.sup.drainOk = true ∧ t.sup.nextCause = s.sup.drain.cause)
    ∧ (s.sup.drain ≠ .none → s.sup.drain ≠ .trip → s.sup.drainWork = true → s.drainRails = true → s.riseMv < s.sup.vin →
      ∃ t, exec .drainEnd s = .next t ∧ t.sup.drain = .none ∧ t.sup.coreUp = false ∧ t.sup.steps = 1 ∧ t.sup.attempts = 1
        ∧ t.sup.operating = true ∧ t.sup.nextCause = s.sup.drain.cause ∧ t.rings = [] ∧ t.ctxs = [])
    ∧ (∀ vbank, s.sup.drain ≠ .none → s.sup.swGate = true → vbank ≤ 22000 → s.sup.vin ≤ s.riseMv →
      ∃ t, exec (.vbankCutoff vbank) s = .next t ∧ t.sup.drain = .none ∧ t.sup.coreUp = false ∧ t.sup.drainOk = false
        ∧ t.sup.discharging = true ∧ t.rd Reg.HUP_STATUS.BLEED_ON = 1)
    ∧ (∀ vbank, s.sup.discharging = true → vbank < 5000 →
      ∃ t, exec (.bleedDischargeEnd vbank) s = .next t ∧ t.sup.discharging = false ∧ t.rd Reg.HUP_STATUS.BLEED_ON = 0
        ∧ t.sup.vbank = vbank ∧ Frame [.supply] [Reg.HUP_STATUS.BLEED_ON] s t)
    ∧ (∀ vbank, s.sup.operating = true → s.sup.vin ≤ s.riseMv → vbank < 4500 → s.sup.coreUp = false →
      ∃ t, exec (.pouloSupplyLost vbank) s = .next t ∧ t.sup.operating = false ∧ t.sup.vbank = vbank ∧ t.sup.discharging = false
        ∧ t.pages = s.pages ∧ t.blks = s.blks ∧ t.regs = [])

/-- The fields the charger and the measurements of the bank write. -/
def Sys2Proof.bankFields : List Fld :=
  [Reg.HUP_STATUS.CHARGING, Reg.HUP_STATUS.WRITE_THR, Reg.HUP_STATUS.MEAS_BUSY, Reg.HUP_STATUS.MEAS_FAIL, Reg.HUP_STATUS.OV_EVENT,
   Reg.HUP_STATUS.BLEED_ON, Reg.HUP_CAP_MEAS.CAP, Reg.HUP_CAP_MEAS.AGE, Reg.HUP_CAP_MEAS.VALID, Reg.HUP_CAP_MEAS.METHOD,
   Reg.HUP_ENERGY.EUSE, Reg.HUP_ENERGY.VBANK, Reg.BRU_STAGE.WRITE_UP, Reg.FRM_CEILING.CEIL_MIB, Reg.FRM_CEILING.SOURCE,
   Reg.FRM_JPB.MODEL]

/-- R66, R69, R71, R78: what reaches 60.0 V stops the charger, sets OV_EVENT and closes the bleed until VBANK falls to VCHG; a measurement by
the bleed method lowers the ceiling, then closes the bleed, then recharges over 4.000 V; one by the charge method counts from 30.000 V; its
end records C_meas in frames of the count and drops MEAS_BUSY. All leave everything alone but Poulo's supply block, its registers, the present
ceiling with its Health copy, and the event of an excess.
Where it rests on the model's own choices, they are those of log entry 18. -/
def Obligations.BankMeasures : Prop :=
  (
    ∀ (s : State) (vbank : Nat),
      (s.sup.operating = true → 60000 ≤ vbank → s.sup.ovBleed = false →
        ∃ t, exec (.vbankOvervoltage vbank) s = .next t ∧ t.rd Reg.HUP_STATUS.OV_EVENT = 1 ∧ t.rd Reg.HUP_STATUS.BLEED_ON = 1
          ∧ t.rd Reg.HUP_STATUS.CHARGING = 0 ∧ t.sup.ovBleed = true ∧ t.sup.meas = .idle)
      ∧ (s.sup.ovBleed = true → vbank ≤ s.vchg →
        ∃ t, exec (.vbankOvRecover vbank) s = .next t ∧ t.sup.ovBleed = false ∧ t.sup.vbank = vbank
          ∧ t.rd Reg.HUP_STATUS.BLEED_ON = bit s.sup.discharging)
      ∧ (s.on Reg.HUP_STATUS.CHARGING = true → s.vchg ≤ vbank →
        ∃ t, exec (.chargeTargetReached vbank) s = .next t ∧ t.rd Reg.HUP_STATUS.CHARGING = 0 ∧ t.sup.vbank = vbank)
      ∧ (s.measFree = true → s.sup.coreUp = true → s.sup.hourFrom + 360000000 ≤ s.frame →
        ∃ t, exec .capMeasHourly s = .next t ∧ t.sup.meas = .lowering ∧ t.rd Reg.HUP_STATUS.MEAS_BUSY = 1 ∧ t.sup.hourFrom = s.frame)
      ∧ (s.measFree = true → s.sup.coreUp = true → s.on Reg.HUP_STATUS.BLEED_ON = false → vbank + 500 < s.sup.vbank →
        ∃ t, exec (.vbankDropDetected vbank) s = .next t ∧ t.sup.meas = .lowering ∧ t.rd Reg.HUP_STATUS.MEAS_BUSY = 1
          ∧ t.sup.vbank = vbank)
      ∧ (s.measFree = true → s.sup.coreUp = true →
        ∃ t, exec .measNow s = .next t ∧ t.sup.meas = .lowering ∧ t.rd Reg.HUP_STATUS.MEAS_BUSY = 1)
      ∧ (s.sup.meas = .lowering → s.dirty ≤ s.ceilingBytes →
        ∃ t, exec .measBleedClose s = .next t ∧ t.sup.meas = .bleeding s.sup.vbank ∧ t.rd Reg.HUP_STATUS.BLEED_ON = 1
          ∧ t.rd Reg.HUP_STATUS.CHARGING = 0)
      ∧ (∀ top, s.sup.meas = .bleeding top → vbank + 4000 ≤ top →
        ∃ t, exec (.measBleedOpen vbank) s = .next t ∧ t.sup.meas = .bleedCount s.frame top ∧ t.rd Reg.HUP_STATUS.BLEED_ON = 0
          ∧ t.rd Reg.HUP_STATUS.CHARGING = 1)
      ∧ (s.sup.meas = .chargeWait → 30000 ≤ vbank →
        ∃ t, exec (.measCountStart vbank) s = .next t ∧ t.sup.meas = .chargeCount s.frame)
      ∧ (∀ start, s.sup.meas = .chargeCount start → 34000 ≤ vbank → start < s.frame →
        ∃ t, exec (.measComplete vbank) s = .next t ∧ t.sup.cmeas = s.frame - start ∧ t.sup.meas = .idle
          ∧ t.rd Reg.HUP_STATUS.MEAS_BUSY = 0 ∧ t.rd Reg.HUP_CAP_MEAS.VALID = 1 ∧ t.rd Reg.HUP_CAP_MEAS.METHOD = 0
          ∧ t.rd Reg.HUP_STATUS.MEAS_FAIL = bit (!t.sup.passed))
      ∧ (∀ start top, s.sup.meas = .bleedCount start top → top ≤ vbank → start < s.frame →
        ∃ t, exec (.measComplete vbank) s = .next t ∧ t.sup.cmeas = s.frame - start ∧ t.sup.meas = .idle
          ∧ t.rd Reg.HUP_STATUS.MEAS_BUSY = 0 ∧ t.rd Reg.HUP_CAP_MEAS.METHOD = 1))
  ∧ (
    ∀ (s t : State) (vbank : Nat),
      (∀ c ∈ [Instr.vbankOvervoltage vbank, .vbankOvRecover vbank, .chargeTargetReached vbank, .capMeasHourly, .vbankDropDetected vbank,
          .measNow, .measBleedClose, .measBleedOpen vbank, .measCountStart vbank, .measComplete vbank],
        exec c s = .next t → Frame [.supply, .health, .ftl, .log] bankFields s t ∧ t.ftl.versions = s.ftl.versions
          ∧ t.ftl.map = s.ftl.map ∧ t.ftl.journal = s.ftl.journal))

/-! ### Bring-up and firmware activation (R90 to R100, R213, R350, R516, R519) -/

/-- R92, R350, R516: step 0 ends with the boot code; step 1 boots the active slot when it passes and FAIL_COUNT is below 3, else the other slot
when that passes, else enters recovery; step 2 ends with the keys, the record and the kept values in place; step 3 ends with admin service; the
journal is replayed once every channel is up, and OSNs go on from the durable mark.
Where it rests on the model's own choices, they are those of log entry 62. -/
def Obligations.GrindSteps : Prop :=
  (
    ∀ s : State, s.serving = true →
      (s.boot.step = 0 →
        ∃ t, exec .bootCodeLoaded s = .next t ∧ t.boot.step = 1 ∧ t.rd Reg.BRU_STAGE.STEP = 1 ∧ t.rd Reg.CSQ_PAIRS.ACTIVE = 0xFF
          ∧ Frame [.boot, .health] [Reg.BRU_STAGE.STEP, Reg.CSQ_PAIRS.ACTIVE] s t)
      ∧ (∀ ok1 ok2, s.boot.step = 1 → s.boot.recovery = false →
        let sig (i : Nat) : Bool := if i = 1 then ok1 else ok2
        let a := s.bst.active
        let first := s.slotPasses a (sig a) && decide (s.bst.failCount + 1 < 3)
        let second := s.slotPasses (3 - a) (sig (3 - a))
        ∃ t, exec (.firmwareSlotCheck ok1 ok2) s = .next t
          ∧ (first = true → t.boot.step = 2 ∧ t.bst.active = a ∧ t.bst.failCount = s.bst.failCount + 1 ∧ t.rd Reg.BRU_STAGE.STEP = 2)
          ∧ (first = false → second = true → t.boot.step = 2 ∧ t.bst.active = 3 - a ∧ t.bst.failCount = 0
              ∧ (t.events.head?.map (fun e => (e.source, e.code)) = some (0x39, 0x0101)))
          ∧ (first = false → second = false → t.boot.step = 1 ∧ t.boot.recovery = true ∧ t.rd Reg.BST_STATUS.RECOVERY = 1
              ∧ (t.events.head?.map (fun e => (e.source, e.code)) = some (0x39, 0x0102))))
      ∧ (∀ okA okB, s.boot.step = 2 →
        ∃ t, exec (.rootKeyDerivation okA okB) s = .next t ∧ t.boot.step = 3 ∧ t.boot.restored = true ∧ t.sec.ready = true
          ∧ t.rd Reg.BRU_STAGE.STEP = 3 ∧ t.ctxs = s.ctxs ∧ t.rings = s.rings)
      ∧ (s.boot.step = 3 →
        ∃ t, exec .hostInterfaceStart s = .next t ∧ t.boot.step = 4 ∧ t.rd Reg.BRU_STAGE.STEP = 4 ∧ t.rd Reg.BRU_STAGE.ADMIN_UP = 1
          ∧ t.ctxs = s.ctxs))
  ∧ (
    ∀ s : State, s.serving = true → s.boot.stage = .grind → 4 ≤ s.boot.step → s.boot.replayed = false → s.channelsUp = true →
      ∃ t, exec .journalReplay s = .next t ∧ t.boot.replayed = true ∧ t.ftl.drained = [] ∧ t.ftl.osn = t.ftl.mark - 1
        ∧ t.rd Reg.BRU_RECOVERY.ERASE_UNFIN
            = min 0xFFFF (s.blks.filter (fun e => decide (2 ≤ e.2.started ∨ e.2.st = .erasing))).length
        ∧ (s.boot.step4 = true → t.boot.step5 = true) ∧ t.ctxs = s.ctxs ∧ t.frame = s.frame)

/-- R90, R91, R94, R98, R100, R112, R516: Bloom and Pour entry change the stage, show it and clear FAIL_COUNT; a missed bound is recorded once
with the step in progress and leaves the stage. -/
def Obligations.StageEntries : Prop :=
  ∀ s : State, s.serving = true →
    (s.boot.stage = .grind → s.boot.step5 = true → s.rd Reg.FTL_GC_CFG.RESERVE_MIN < s.freeBands ∨ s.readOnly = true →
      ∃ t, exec .bloomEntry s = .next t ∧ t.boot.stage = .bloom ∧ t.rd Reg.BRU_STAGE.STAGE = 1 ∧ t.rd Reg.BRU_STAGE.IO_UP = 1
        ∧ t.bst.failCount = 0 ∧ t.bst.fusedSv = max s.bst.fusedSv (s.fwSlot s.bst.active).sv ∧ t.pages = s.pages ∧ t.ctxs = s.ctxs)
    ∧ (s.boot.stage = .bloom → s.dramWhole = true → s.boot.mapLeft = 0 → s.boot.extended = true →
      ∃ t, exec .pourEntry s = .next t ∧ t.boot.stage = .pour ∧ t.rd Reg.BRU_STAGE.STAGE = 2 ∧ t.rd Reg.BRU_STAGE.MAP_RESIDENT = 1
        ∧ t.pages = s.pages ∧ t.ctxs = s.ctxs)
    ∧ (s.boot.stage = .grind → s.boot.boundMissed = false → s.sup.vinAt + 200000 ≤ s.frame →
      ∃ t, exec .bloomBoundMissed s = .next t ∧ t.boot.stage = .grind ∧ t.boot.boundMissed = true
        ∧ (t.events.head?.map (fun e => (e.source, e.code, e.detail)) = some (0x01, 0x0007, s.rd Reg.BRU_STAGE.STEP))
        ∧ Frame [.boot, .log] [] s t)

/-- R213, R519: once the other contexts are released, or 500 frames after the commit, the new firmware is started; it then resumes, and the
activation is counted. -/
def Obligations.FirmwareChange : Prop :=
  ∀ s : State, s.serving = true →
    (s.bst.activator ≠ 0 → s.bst.swapped = false →
      s.bst.commitAt + 500 ≤ s.frame ∨ s.live.all (fun e => e.1 + 1 == s.bst.activator) = true →
      ∃ t, exec .activationDrainEnd s = .next t ∧ t.bst.swapped = true ∧ Frame [.bootStore] [] s t)
    ∧ (s.bst.swapped = true →
      ∃ t, exec .firmwareResume s = .next t ∧ t.bst.swapped = false ∧ t.bst.activator = 0 ∧ t.ftl.osn = s.ftl.osn
        ∧ t.ucode.base = (s.fwSlot s.bst.active).base)

/-! ### Resets, links and D3hot (R44, R87, R101 to R111, R137 to R145, R528, R545) -/

/-- R101, R137, R138: a function, hot or warm reset deletes the rings of its functions, clears their vectors and window entries and starts
their reset; the other function's rings stay; the map, the flash, the fans, the sensors, the supplies, DRAM, the pool, the channels and their
LUNs and the frame counter stay. A warm reset reaches both functions.
Where it rests on the model's own choices, they are those of log entries 32, 33 and 40. -/
def Obligations.FunctionResets : Prop :=
  (
    ∀ (s : State) (fn : Fn),
      (∀ c cause, (c = Instr.flr fn ∧ cause = Cause.function ∧ s.configUp fn = true)
          ∨ ((c = Instr.hotReset fn ∨ c = Instr.linkDown fn) ∧ cause = Cause.hot ∧ s.serving = true ∧ s.hasFn fn = true
              ∧ s.linkUp fn = true) →
        ∃ t, exec c s = .next t ∧ (t.ep fn).resetting = some cause ∧ (∀ n : RingNo, t.ring fn n = {}) ∧ (∀ v : Fin 2048, t.vec fn v = {})
          ∧ (∀ g : Fn, g ≠ fn → ∀ n : RingNo, t.ring g n = s.ring g n) ∧ t.ftl.map = s.ftl.map ∧ t.ftl.root = s.ftl.root)
      ∧ (s.hasFn fn = true → (s.ep fn).perst = false → s.serving = true → s.pstate ≠ 3 →
        ∃ t, exec (.perstAssert fn) s = .next t ∧ (t.ep fn).perst = true
          ∧ (∀ g : Fn, s.hasFn g = true → (t.ep g).resetting = some .warm ∧ ∀ n : RingNo, t.ring g n = {})
          ∧ t.ftl.map = s.ftl.map)
      ∧ (s.serving = true → (s.ep fn).resetting.isSome = true → (s.ep fn).perst = false →
        ∃ t, exec (.resetEnd fn) s = .next t ∧ (t.ep fn).resetting = none ∧ Frame [.endpoint] [] s t))
  ∧ (
    ∀ (s t : State) (fn : Fn),
      (∀ c ∈ [Instr.flr fn, .hotReset fn, .linkDown fn], exec c s = .next t →
        Only [.decodes, .group, .pairWords, .tags, .microcode, .rings, .windows, .reconcile, .endpoint, .buses, .log, .ftl, .engine,
          .vectors, .power, .keys, .contexts, .bootStore] s t)
      ∧ (∀ speed width flit, ∀ c ∈ [Instr.linkUp fn speed width flit, .l0pWidthChange fn width, .aspmL1Entry fn], exec c s = .next t →
        Frame [.endpoint] [Reg.HIF_EP_LINK.SPEED, Reg.HIF_EP_LINK.WIDTH, Reg.HIF_EP_LINK.FLIT, Reg.HIF_EP_LINK.DL_UP,
          Reg.HIF_EP_LINK.L0P_WIDTH] s t)
      ∧ (exec (.pmeTurnOff fn) s = .next t → Frame [.endpoint, .buses] [] s t)
      ∧ (∀ pair, exec (.lockstepMismatch pair) s = .next t →
        Frame ([.pairs, .health] ++ asyncParts) [Reg.CSQ_PAIRS.ACTIVE, Reg.CSQ_PAIRS.FENCED, Reg.CSQ_CNT.TAKEOVERS, Reg.HIF_ASYNC.PEND] s t)
      ∧ (exec .lockstepTakeoverDone s = .next t → Frame [.pairs] [] s t))

/-- R87, R113, R137, R140, R141, R145, R528: the events of a port: PERST# deasserts and releases WAKE#; the link trains and reports speed, width
and Flit mode; the width changes under L0p; PME_Turn_Off is answered; a write of PowerState enters D3hot and leaves it.
Where it rests on the model's own choices, they are those of log entries 35 and 36. -/
def Obligations.PortEvents : Prop :=
  ∀ (s : State) (fn : Fn),
    (s.hasFn fn = true → (s.ep fn).perst = true → s.sup.off = false →
      ∃ t, exec (.perstDeassert fn) s = .next t ∧ (t.ep fn).perst = false ∧ Out.wakePin fn false ∈ t.out)
    ∧ (∀ (speed : Fin 7) (width : Nat) (flit : Bool), s.serving = true → s.hasFn fn = true → s.linkUp fn = false →
      (s.ep fn).perst = false → (s.ep fn).resetting = none → 0 < speed.val → s.widthOk width = true →
      (flit = true ∨ speed.val < 6) →
      ∃ t, exec (.linkUp fn speed width flit) s = .next t ∧ t.linkUp fn = true ∧ t.rd Reg.HIF_EP_LINK.SPEED 0 fn = speed
        ∧ t.rd Reg.HIF_EP_LINK.WIDTH 0 fn = width ∧ t.rd Reg.HIF_EP_LINK.L0P_WIDTH 0 fn = width
        ∧ t.rd Reg.HIF_EP_LINK.FLIT 0 fn = bit flit)
    ∧ (∀ width, s.serving = true → s.hasFn fn = true → s.linkUp fn = true → s.widthOk width = true →
      width ≤ s.rd Reg.HIF_EP_LINK.WIDTH 0 fn →
      ∃ t, exec (.l0pWidthChange fn width) s = .next t ∧ t.rd Reg.HIF_EP_LINK.L0P_WIDTH 0 fn = width)
    ∧ (s.serving = true → s.hasFn fn = true → s.linkUp fn = true →
      ∃ t, exec (.pmeTurnOff fn) s = .next t ∧ (t.ep fn).pmeOff = true ∧ t.out = .pmeToAck fn :: s.out)
    ∧ (∀ data : Word, s.configUp fn = true → data.toNat % 4 = 3 →
      ∃ t, exec (.pmcsrWrite fn data) s = .next t ∧ (t.ep fn).d3 = true)
    ∧ (∀ data : Word, s.configUp fn = true → data.toNat % 4 = 0 →
      ∃ t, exec (.pmcsrWrite fn data) s = .next t ∧ (t.ep fn).d3 = false)

/-- R103, R111, R39: a watchdog expiry and a host cold request with KEY 0xA5 are trigger moments of a drain from VIN, with HUP_SW_G left open;
another KEY only records a register-write event; a lockstep mismatch fences the pair and holds its contexts until the takeover ends.
Where it rests on the model's own choices, they are those of log entries 41 and 42. -/
def Obligations.InternalResets : Prop :=
  ∀ s : State,
    (s.serving = true →
      ∃ t, exec .watchdogRestart s = .next t ∧ t.sup.drain = .watchdog ∧ t.sup.drainWork = true ∧ t.sup.swGate = s.sup.swGate
        ∧ t.sup.orGate = s.sup.orGate ∧ t.rd Reg.HUP_STATUS.CHARGING = 0 ∧ t.serving = false)
    ∧ (∀ fn : Fn, s.reachable fn = true → s.on Reg.BRU_CTRL.LOCK = false →
      ∃ t, exec (.coldReq fn 0xA5) s = .next t ∧ t.sup.drain = .coldReq ∧ t.sup.drainWork = true ∧ t.serving = false)
    ∧ (∀ (fn : Fn) (key : Byte), s.reachable fn = true → key ≠ 0xA5 →
      ∃ t, exec (.coldReq fn key) s = .next t ∧ t.sup = s.sup
        ∧ (t.events.head?.map (fun e => (e.code, e.detail)) = some (0x0002, 0x10008)))
    ∧ (∀ pair : Fin 8, s.serving = true → (s.rd Reg.CSQ_PAIRS.ACTIVE).testBit pair = true →
      ∃ t, exec (.lockstepMismatch pair) s = .next t ∧ (t.rd Reg.CSQ_PAIRS.ACTIVE).testBit pair = false
        ∧ (t.rd Reg.CSQ_PAIRS.FENCED).testBit pair = true ∧ t.pairs.takeover = some pair.val ∧ t.ctxs = s.ctxs)
    ∧ (s.serving = true → s.pairs.takeover.isSome = true →
      ∃ t, exec .lockstepTakeoverDone s = .next t ∧ t.pairs.takeover = none)

/-! ### The host's accesses (R10 to R16, R85, R86, R119, R121, R124, R125, R488, R582, R583, R590) -/

/-- A write at the offset starts nothing and refreshes nothing besides the fields of its word. -/
def Sys2Proof.quietOffset (off : Nat) : Bool :=
  !(decide (0x3C0000 ≤ off ∧ off < 0x3C8000) || decide (0x110000 ≤ off ∧ off < 0x111000)
    || decide (0x200000 ≤ off ∧ off < 0x240000 ∧ off % 4096 = 0) || decide (0x150100 ≤ off ∧ off < 0x150140)
    || decide (0x380040 ≤ off ∧ off < 0x3800A0)
    || [0x8, 0x10008, 0x50000, 0x60004, 0x60008, 0x60020, 0x3001C, 0x30020, 0x100114, 0x112000, 0x140004, 0x140200, 0x150004, 0x260200,
        0x380010].contains off)

/-- The field takes the values written to it now: it is RW, or RWL while its block is not locked (R15, R583). -/
def Sys2Proof.Machine.State.takes (s : State) (off : Nat) (r : Fld) (i : Nat) : Bool :=
  (r.acc == .rw || (r.acc == .rwl && !s.locked off)) && !fixedInstance r i

/-- The word written gives the field a value it accepts (R14). -/
def Sys2Proof.Machine.State.accepts (s : State) (r : Fld) (i : Nat) (data : Word) : Bool :=
  r.inRange (r.carried data.toNat) && s.related r i (r.carried data.toNat) data.toNat

/-- R10, R12 to R15, R582, R583: a 32-bit register write acts on each field of its word by the field's access type; a reserved value leaves
the old value and is recorded once; the low word of a pair waits for the high word; a misaligned write is discarded with an event.
Where it rests on the model's own choices, they are those of log entries 25, 26 and 27. -/
def Obligations.RegisterWriteTypes : Prop :=
  ∀ (s : State) (fn : Fn) (off : Nat) (data : Word), s.reachable fn = true → off < 0x400000 →
    let u := s.wakeTlp fn
    (off % 4 = 0 → quietOffset off = true →
      ∃ t, exec (.registerWrite fn off data none) s = .next t
        ∧ Only [.pairWords, .log] u t
        ∧ (∀ k, (∀ e ∈ fieldsAt off, k ≠ e.1.key e.2.1 (e.1.fn fn) ∧ k ≠ e.1.key e.2.1 0) → Tbl.get 0 t.regs k = Tbl.get 0 u.regs k)
        ∧ (∀ e ∈ fieldsAt off, e.1.w ≤ 32 →
          let v := e.1.carried data.toNat
          let old := u.rd e.1 e.2.1 (e.1.fn fn)
          let new := t.rd e.1 e.2.1 (e.1.fn fn)
          (e.1.acc = .w1c → new = old &&& (2 ^ e.1.w - 1 - v))
          ∧ (e.1.acc = .w1s → t.rd e.1 e.2.1 = u.rd e.1 e.2.1 ||| v)
          ∧ (u.takes off e.1 e.2.1 = true → u.accepts e.1 e.2.1 data = true → new = v)
          ∧ (u.takes off e.1 e.2.1 = true → u.accepts e.1 e.2.1 data = false → new = old)
          ∧ (u.takes off e.1 e.2.1 = false → e.1.acc ≠ .w1c → e.1.acc ≠ .w1s → new = old))
        ∧ (if (fieldsAt off).any (fun e => decide (e.1.w ≤ 32) && u.takes off e.1 e.2.1 && !u.accepts e.1 e.2.1 data) = true
            then t.events.head?.map (fun e => (e.code, e.detail, e.func)) = some (0x0002, off, fn.val) ∧ t.eventTotal = u.eventTotal + 1
            else t.events = u.events ∧ t.eventTotal = u.eventTotal)
        ∧ (∀ e ∈ fieldsAt off, 32 < e.1.w → u.takes off e.1 e.2.1 = true →
          let k := e.1.fn fn * 2 ^ 23 + e.1.off
          (e.2.2 = false → t.rd e.1 e.2.1 (e.1.fn fn) = u.rd e.1 e.2.1 (e.1.fn fn) ∧ Tbl.get none t.pairLow k = some data.toNat)
          ∧ (e.2.2 = true → t.rd e.1 e.2.1 (e.1.fn fn)
              = ((Tbl.get none u.pairLow k).getD (u.rd e.1 e.2.1 (e.1.fn fn) % 2 ^ 32) + data.toNat * 2 ^ 32) % 2 ^ e.1.w)))
    ∧ (off % 4 ≠ 0 → ∃ t, exec (.registerWrite fn off data none) s = .next t
        ∧ Frame [.log] [] u t ∧ t.events.head?.map (fun e => (e.code, e.detail, e.func)) = some (0x0001, off, fn.val))

/-- R10, R11, R13, R121: a read of one register answers its word; a read of the low register of a pair holds the high word for the next read
of the high register; a malformed access is discarded, answered with zeroes or aborted by its kind and length.
Where it rests on the model's own choices, they are those of log entry 28. -/
def Obligations.RegisterReads : Prop :=
  ∀ (s : State) (fn : Fn) (off : Nat), s.reachable fn = true → off < 0x400000 →
    let u := s.wakeTlp fn
    (off % 4 = 0 → pairAt off = false → (4 ≤ off → pairAt (off - 4) = false) →
      ∃ t, exec (.lowRegisterRead fn off) s = .next t ∧ t.out = .readData fn off (u.bar0Word fn off) :: u.out
        ∧ Frame [.buses] [] u t)
    ∧ (off % 4 = 0 → pairAt off = true →
      ∃ t, exec (.lowRegisterRead fn off) s = .next t ∧ t.out = .readData fn off (u.bar0Word fn off) :: u.out
        ∧ Tbl.get none t.pairHigh (pairKey fn off) = some (u.bar0Word fn (off + 4)) ∧ Frame [.buses, .pairWords] [] u t)
    ∧ (∀ w, off % 4 = 0 → pairAt off = false → 4 ≤ off → pairAt (off - 4) = true →
      Tbl.get none u.pairHigh (pairKey fn (off - 4)) = some w →
      ∃ t, exec (.lowRegisterRead fn off) s = .next t ∧ t.out = .readData fn off w :: u.out
        ∧ Tbl.get none t.pairHigh (pairKey fn (off - 4)) = none ∧ Frame [.buses, .pairWords] [] u t)
    ∧ (off % 4 ≠ 0 → ∃ t, exec (.lowRegisterRead fn off) s = .next t ∧ t.out = .readData fn off 0 :: u.out
        ∧ t.eventTotal = u.eventTotal + 1 ∧ Frame [.buses, .log] [] u t)
    ∧ (∀ (bar2 write : Bool) (len : Nat), 0 < len → ¬ (len = 4 ∧ off % 4 = 0) → ¬ (len = 8 ∧ off % 8 = 0) →
      ∃ t, exec (.bar0MalformedAccess fn bar2 write off len) s = .next t
        ∧ Frame [.buses, .log, .pairWords] [] u t
        ∧ (write = true → t.out = u.out ∧ t.eventTotal = u.eventTotal + 1)
        ∧ (write = false → 8 < len → t.out = .completerAbort fn :: u.out ∧ t.eventTotal = u.eventTotal)
        ∧ (write = false → len ≤ 8 → 4 < off % 4 + len → t.out = .readData fn off 0 :: u.out ∧ t.eventTotal = u.eventTotal + 1))

/-- R125, R488, R583, R589: an unmasked vector sends the message it held back; a write of THI_RD_ADDR captures a unit; LOCK_ALL sets every
lock bit and changes nothing else. -/
def Obligations.VectorsAndLocks : Prop :=
  ∀ s : State,
    (∀ (fn : Fn) (v : Fin 2048), s.reachable fn = true →
      let u := s.wakeTlp fn
      ∃ t, exec (.msixUnmask fn v) s = .next t ∧ (t.vec fn v).masked = false ∧ (t.vec fn v).addr = (u.vec fn v).addr
        ∧ (t.vec fn v).data = (u.vec fn v).data ∧ RegsOnly [] u t
        ∧ ((u.vec fn v).pend = true → u.msixOn fn = true → u.fnMask fn = false →
            (t.vec fn v).pend = false ∧ t.out = .msix fn v :: u.out ∧ Only [.vectors, .buses, .rings] u t)
        ∧ ((u.vec fn v).pend = false ∨ u.msixOn fn = false ∨ u.fnMask fn = true →
            (t.vec fn v).pend = (u.vec fn v).pend ∧ Only [.vectors] u t))
    ∧ (∀ (fn : Fn) (data : Word), s.reachable fn = true →
      ∃ t, exec (.thiRdAddr fn data) s = .next t ∧ t = (s.wakeTlp fn).thiCapture (data.toNat % 32768) ∧ t.thi = s.thi
        ∧ t.rd Reg.THI_RD_ADDR.UNIT = data.toNat % 32768)
    ∧ (s.serving = true →
      ∃ t, exec .lockAll s = .next t ∧ t.allLocked = true ∧ t.rd Reg.GLB_LOCK_ALL.LOCK_ALL = 1
        ∧ Frame [] (Reg.GLB_LOCK_ALL.LOCK_ALL :: lockFields) s t)

/-- R86, R87, R119, R120, R590: a configuration request is retried until Grind step 2 ends and answered afterwards, a write tells the function
its requester ID and sets the Command bits; the sideband port serves Block Reads, refuses the rest and shows timeouts; firmware refreshes
items 0x01 to 0x05.
Where it rests on the model's own choices, they are those of log entries 30, 31 and 76. -/
def Obligations.ConfigAndSideband : Prop :=
  ∀ s : State,
    (∀ (fn : Fn) (bdf : BitVec 16) (dw : Fin 1024) (en : BitVec 4) (data : Word), s.configUp fn = true →
      let u := s.wakeTlp fn
      (∃ t, exec (.configRequest fn bdf false dw en data) s = .next t
        ∧ t.out = .cfgData fn (4 * dw) (BitVec.ofNat 32 (u.cfgWord fn (4 * dw))) :: u.out ∧ Frame [.buses] [] u t)
      ∧ (dw = 1 → en = 15 → ∃ t, exec (.configRequest fn bdf true dw en data) s = .next t
        ∧ t.mse fn = data.getLsbD 1 ∧ t.bme fn = data.getLsbD 2 ∧ (t.ep fn).rid = bdf.toNat ∧ Frame [.endpoint] [] u t)
      ∧ (∃ t, exec (.configRequest fn bdf true dw en data) s = .next t))
    ∧ (∀ (fn : Fn) (bdf : BitVec 16) (write : Bool) (dw : Fin 1024) (en : BitVec 4) (data : Word), s.configUp fn = false →
      s.serving = true → s.hasFn fn = true → s.linkUp fn = true → (s.ep fn).resetting = none →
      ∃ t, exec (.configRequest fn bdf write dw en data) s = .next t ∧ t.out = .cfgRetry fn :: s.out ∧ Frame [.buses] [] s t)
    ∧ (∀ item : Byte, s.sup.operating = true →
      ∃ t, exec (.smbusBlockRead item) s = .next t ∧ t.out = .smbus item.toNat (BitVec.ofNat 32 (s.sidebandItem item.toNat)) :: s.out
        ∧ t.rd Reg.SBD_LAST.ITEM = item.toNat ∧ t.rd Reg.SBD_CNT.READS = min (s.rd Reg.SBD_CNT.READS + 1) 0xFFFF
        ∧ (6 ≤ item.toNat → s.sidebandItem item.toNat = 0xFFFFFFFF)
        ∧ Frame [.buses] [Reg.SBD_LAST.ITEM, Reg.SBD_CNT.READS] s t)
    ∧ (s.sup.operating = true →
      ∃ t, exec .smbusRefused s = .next t ∧ t.out = .smbusNack :: s.out ∧ t.rd Reg.SBD_STATUS.REFUSED = 1
        ∧ t.rd Reg.SBD_CNT.REFUSED = min (s.rd Reg.SBD_CNT.REFUSED + 1) 0xFFFF
        ∧ Frame [.buses] [Reg.SBD_STATUS.REFUSED, Reg.SBD_CNT.REFUSED] s t)
    ∧ (s.sup.operating = true →
      ∃ t, exec .smbusTimeout s = .next t ∧ t.rd Reg.SBD_STATUS.TIMEOUT = 1 ∧ Frame [] [Reg.SBD_STATUS.TIMEOUT] s t)
    ∧ (s.sup.coreUp = true → 1 ≤ s.boot.step → s.rd Reg.CSQ_PAIRS.ACTIVE ≠ 0 → s.pstate ≠ 3 → s.sideband.items.isEmpty = true ∨ s.sideband.at_ + 100 ≤ s.frame →
      ∃ t, exec .sidebandRefresh s = .next t ∧ t.sideband.at_ = s.frame
        ∧ t.sidebandItem 1 = s.rd Reg.THM_TEMP.COMPOSITE + s.rd Reg.THM_TEMP.HOTTEST * 2 ^ 16
        ∧ t.sidebandItem 3 = s.rd Reg.FAN_STATUS.FAULT_MASK
        ∧ t.sidebandItem 4 = s.rd Reg.FTL_HEALTH.SPARE_PCT + s.rd Reg.FTL_HEALTH.WEAR_PCT * 2 ^ 8
        ∧ Frame [.sideband, .freeValues] [] s t)

/-! ### The windows (R126 to R132) -/

/-- R129, R131: a commit activates the staged copies of every pending entry the function owns, and raises EPOCH and BUSY; one that breaks R128,
or falls while BUSY is 1, changes no entry and no epoch, and shows the lowest offending entry, or 0xFF. The earlier epoch's requests being
retired clears BUSY (R130). -/
def Obligations.WindowEpochs : Prop :=
  ∀ (s : State),
    (∀ fn : Fn, s.reachable fn = true →
      let u := s.wakeTlp fn
      let p := u.winPending (some fn.val)
      (u.on Reg.WIN_EPOCH.BUSY = false → p.all (fun n => u.winOk n (u.staged n)) = true →
        ∃ t, exec (.windowCommit fn) s = .next t ∧ t.on Reg.WIN_EPOCH.BUSY = true
          ∧ t.rd Reg.WIN_EPOCH.EPOCH = (u.rd Reg.WIN_EPOCH.EPOCH + 1) % 2 ^ Reg.WIN_EPOCH.EPOCH.w
          ∧ (∀ n ∈ p, t.win n = u.staged n) ∧ (∀ n, n ∉ p → t.win n = u.win n) ∧ t.winPending (some fn.val) = []
          ∧ Frame [.windows] [Reg.WIN_ENT_CTRL.PENDING, Reg.WIN_EPOCH.EPOCH, Reg.WIN_EPOCH.BUSY] u t)
      ∧ (∀ i, u.on Reg.WIN_EPOCH.BUSY = false → p.find? (fun n => !u.winOk n (u.staged n)) = some i →
        ∃ t, exec (.windowCommit fn) s = .next t ∧ t.wins = u.wins ∧ t.rd Reg.WIN_STATUS.COMMIT_REFUSED 0 fn = 1
          ∧ t.rd Reg.WIN_STATUS.REFUSED_IDX 0 fn = i
          ∧ Frame [] [Reg.WIN_STATUS.COMMIT_REFUSED, Reg.WIN_STATUS.REFUSED_IDX] u t)
      ∧ (u.on Reg.WIN_EPOCH.BUSY = true →
        ∃ t, exec (.windowCommit fn) s = .next t ∧ t.wins = u.wins ∧ t.rd Reg.WIN_STATUS.COMMIT_REFUSED 0 fn = 1
          ∧ t.rd Reg.WIN_STATUS.REFUSED_IDX 0 fn = 0xFF
          ∧ Frame [] [Reg.WIN_STATUS.COMMIT_REFUSED, Reg.WIN_STATUS.REFUSED_IDX] u t))
    ∧ (s.sup.coreUp = true →
      ∃ t, exec .epochRetire s = .next t ∧ t.on Reg.WIN_EPOCH.BUSY = false ∧ Frame [] [Reg.WIN_EPOCH.BUSY] s t)

/-- The byte address of the access, when its entry allows it. -/
def Sys2Proof.windowAddress (u : State) (f rid off : Nat) (write : Bool) : Option Nat :=
  let size := 2 ^ u.bar4Log2 f / 256
  let w := u.win (off / size % 256)
  if w.target ≠ 0 ∧ w.target ≠ 3 ∧ off % size < w.limit * 4096 ∧ (w.ridChk = true → rid = w.rid)
      ∧ (if write then w.wrEn = true else w.rdEn = true) then
    some (w.base * 4096 + off % size)
  else none

/-- R126, R132: an inbound request that its entry allows stores its bytes at the translated address, or returns the bytes found there; every
byte outside those stored reads as before. A refused request changes no byte, is counted and completes with Unsupported Request.
Where it rests on the model's own choices, they are those of log entries 37 and 38. -/
def Obligations.WindowAccesses : Prop :=
  ∀ (s : State) (fn : Fn) (rid : BitVec 16) (off : Nat), s.reachable fn = true →
    let u := s.wakeTlp fn
    (∀ bytes : List Byte,
      (∀ a, windowAddress u fn rid.toNat off true = some a →
        ∃ t, exec (.bar4Write fn rid off bytes) s = .next t
          ∧ (∀ j (h : j < bytes.length), Memory.byte t.mem (a + j) = bytes[j])
          ∧ (∀ b, b < a ∨ a + bytes.length ≤ b → Memory.byte t.mem b = Memory.byte s.mem b)
          ∧ Frame [.memory] [] u t)
      ∧ (windowAddress u fn rid.toNat off true = none →
        ∃ t, exec (.bar4Write fn rid off bytes) s = .next t ∧ t.out = .unsupported fn :: u.out ∧ t.mem = s.mem
          ∧ t.rd Reg.WIN_DROP_CNT.COUNT = min (u.rd Reg.WIN_DROP_CNT.COUNT + 1) (2 ^ Reg.WIN_DROP_CNT.COUNT.w - 1)
          ∧ t.rd Reg.WIN_DROP_LAST.REQ_ID = rid.toNat
          ∧ Frame [.buses] [Reg.WIN_DROP_CNT.COUNT, Reg.WIN_DROP_LAST.WINDOW, Reg.WIN_DROP_LAST.REASON, Reg.WIN_DROP_LAST.REQ_ID] u t))
    ∧ (∀ len : Nat, len ≤ 4096 →
      (∀ a, windowAddress u fn rid.toNat off false = some a →
        ∃ t, exec (.bar4Read fn rid off len) s = .next t
          ∧ t.out = .mailbox fn ((List.range len).map (fun j => Memory.byte s.mem (a + j))) :: u.out ∧ Frame [.buses] [] u t)
      ∧ (windowAddress u fn rid.toNat off false = none →
        ∃ t, exec (.bar4Read fn rid off len) s = .next t ∧ t.out = .unsupported fn :: u.out ∧ t.mem = s.mem
          ∧ t.rd Reg.WIN_DROP_CNT.COUNT = min (u.rd Reg.WIN_DROP_CNT.COUNT + 1) (2 ^ Reg.WIN_DROP_CNT.COUNT.w - 1)
          ∧ Frame [.buses] [Reg.WIN_DROP_CNT.COUNT, Reg.WIN_DROP_LAST.WINDOW, Reg.WIN_DROP_LAST.REASON, Reg.WIN_DROP_LAST.REQ_ID] u t))

/-! ### Rings, requests and entries (R122, R125, R133 to R136, R152 to R160, R164, R165, R183 to R185, R194, R591) -/

/-- The parts and the register an asynchronous event may reach, and the log. -/
def Sys2Proof.loggedAsync : List Part := .log :: asyncParts

/-- R154, R155, R183, R185: a doorbell on an existing ring moves its index when it lies within what the ring holds; a refused one changes no
index and is recorded, with RING_ERROR when the ring exists; releasing every CQ of a vector clears its pending bit. -/
def Obligations.Doorbells : Prop :=
  ∀ (s : State) (fn : Fn) (n : RingNo) (value : Word), s.reachable fn = true →
    let u := s.wakeTlp fn
    let r := u.ring fn n
    let v := value.toNat
    (r.st = .active ∨ r.st = .error → v < r.sqSize → r.unfetched ≤ ringGap r.sqSize r.sqHead v →
      ∃ t, exec (.sqTailDoorbell fn n value) s = .next t ∧ t.ring fn n = { r with sqTail := v }
        ∧ (t.ring fn n).unfetched = ringGap r.sqSize r.sqHead v ∧ Frame [.rings] [] u t)
    ∧ (r.st ≠ .absent → r.sqSize ≤ v ∨ r.st = .resetting ∨ ringGap r.sqSize r.sqHead v < r.unfetched →
      ∃ t, exec (.sqTailDoorbell fn n value) s = .next t ∧ (t.ring fn n).sqTail = r.sqTail
        ∧ t.events.head?.map (fun e => (e.source, e.code, e.detail, e.func)) = some (0x10, 0x0003, n + v % 65536 * 65536, fn.val)
        ∧ Frame loggedAsync [Reg.HIF_ASYNC.PEND] u t)
    ∧ (r.st ≠ .absent → v < r.cqSize → ringGap r.cqSize r.cqHead v ≤ r.unreleased →
      ∃ t, exec (.cqHeadDoorbell fn n value) s = .next t ∧ t.ring fn n = { r with cqHead := v }
        ∧ (r.cqHead < r.cqSize → r.cqTail < r.cqSize → (t.ring fn n).unreleased = r.unreleased - ringGap r.cqSize r.cqHead v)
        ∧ (t.consumed fn r.vector = true → (t.vec fn r.vector).pend = false) ∧ Frame [.rings, .vectors, .endpoint] [] u t)
    ∧ (r.st ≠ .absent → r.cqSize ≤ v ∨ r.unreleased < ringGap r.cqSize r.cqHead v →
      ∃ t, exec (.cqHeadDoorbell fn n value) s = .next t ∧ (t.ring fn n).cqHead = r.cqHead
        ∧ t.events.head?.map (fun e => (e.source, e.code, e.detail, e.func)) = some (0x10, 0x0003, n + v % 65536 * 65536, fn.val)
        ∧ Frame loggedAsync [Reg.HIF_ASYNC.PEND] u t)
    ∧ (r.st = .absent → ∀ c ∈ [Instr.sqTailDoorbell fn n value, .cqHeadDoorbell fn n value],
      ∃ t, exec c s = .next t ∧ t.rings = u.rings ∧ t.eventTotal = u.eventTotal + 1 ∧ Frame [.log] [] u t)

/-- R156, R157, R158, R160, R184: the ring that wins is read, at most eight entries, up to its room, with the tag; the entries read enter
contexts in order; the coalescing timer signals the ring's vector. -/
def Obligations.Fetching : Prop :=
  ∀ s : State,
    (∀ (tag : Tag) (f n left : Nat), s.fetchWinner = some (f, n, left) → s.tagFree f tag = true →
      ∃ t k, exec (.fetchIssue tag) s = .next t ∧ 1 ≤ k ∧ k ≤ 8 ∧ k ≤ s.fetchRoom f n
        ∧ t.tag f tag = .fetch n (s.ring f n).sqHead k (s.frame + s.timeoutFrames f)
        ∧ t.ring f n = { s.ring f n with asked := k }
        ∧ t.out = .readReq f tag ((s.ring f n).sqBase + 64 * (s.ring f n).sqHead) (64 * k) :: s.out
        ∧ Frame [.rings, .fetch, .tags, .buses] [] s t)
    ∧ (∀ (fn : Fn) (tag : Tag) (ps : List Packet) (n k d : Nat), s.serving = true → s.tag fn tag = .fetch n (s.ring fn n).sqHead k d →
      ps.length = k → (s.ring fn n).st = .active →
      ∃ t, exec (.fetchComplete fn tag ps) s = .next t ∧ t.tag fn tag = .idle ∧ t.nextOrder = s.nextOrder + k
        ∧ (t.ring fn n).inflight = (s.ring fn n).inflight + k ∧ (t.ring fn n).asked = 0 ∧ t.pages = s.pages ∧ t.mem = s.mem)
    ∧ (∀ (fn : Fn) (n : RingNo), s.canSend fn = true → n ≠ 0 → (s.ring fn n).st ≠ .absent → (s.ring fn n).unsig ≠ 0 →
      (s.ring fn n).aggTime ≠ 0 → (s.ring fn n).unsigAt + (s.ring fn n).aggTime ≤ s.frame →
      ∃ t, exec (.coalesceTimer fn n) s = .next t ∧ (t.ring fn n).unsig = 0
        ∧ (s.msixOn fn = true → s.fnMask fn = false → (s.vec fn (s.ring fn n).vector).masked = false →
            t.out = .msix fn (s.ring fn n).vector :: s.out)
        ∧ (s.msixOn fn = false ∨ s.fnMask fn = true ∨ (s.vec fn (s.ring fn n).vector).masked = true →
            t.out = s.out ∧ (t.vec fn (s.ring fn n).vector).pend = true)
        ∧ Frame [.rings, .vectors, .buses] [] s t)

/-- R152: the admin ring is created from its registers when they obey R151, else CFG_ERR is set; disabling is refused while an I/O ring exists,
and removes the ring once no command of it is without its entry. -/
def Obligations.AdminRing : Prop :=
  ∀ (s : State) (fn : Fn), s.reachable fn = true →
    let u := s.wakeTlp fn
    (s.on Reg.HIF_ADM_CTRL.ENABLE 0 fn = false → u.adminOk fn = true →
      ∃ t, exec (.adminEnable fn) s = .next t ∧ t.rd Reg.HIF_ADM_CTRL.ENABLE 0 fn = 1 ∧ t.adminUp fn = u.adminServes
        ∧ (t.ring fn 0).st = .active ∧ (t.ring fn 0).sqBase = u.rd Reg.HIF_ADM_SQ_BASE.ADDR 0 fn
        ∧ (t.ring fn 0).sqSize = u.rd Reg.HIF_ADM_SIZE.SQ_SIZE 0 fn ∧ (t.ring fn 0).cqSize = u.rd Reg.HIF_ADM_SIZE.CQ_SIZE 0 fn
        ∧ (t.ring fn 0).sqHead = 0 ∧ (t.ring fn 0).sqTail = 0
        ∧ Frame asyncParts [Reg.HIF_ADM_CTRL.ENABLE, Reg.HIF_ADM_CTRL.READY, Reg.HIF_ASYNC.PEND] u t)
    ∧ (s.on Reg.HIF_ADM_CTRL.ENABLE 0 fn = false → u.adminOk fn = false →
      ∃ t, exec (.adminEnable fn) s = .next t ∧ t.rd Reg.HIF_ADM_CTRL.CFG_ERR 0 fn = 1 ∧ Frame [] [Reg.HIF_ADM_CTRL.CFG_ERR] u t)
    ∧ (s.on Reg.HIF_ADM_CTRL.ENABLE 0 fn = true → (s.ep fn).disabling = false → u.ioRings fn = true →
      ∃ t, exec (.adminDisable fn) s = .next t
        ∧ t.events.head?.map (fun e => (e.code, e.detail, e.func)) = some (0x0002, 0x100114, fn.val) ∧ Frame [.log] [] u t)
    ∧ (s.on Reg.HIF_ADM_CTRL.ENABLE 0 fn = true → (s.ep fn).disabling = false → u.ioRings fn = false →
      ∃ t, exec (.adminDisable fn) s = .next t ∧ t.pages = s.pages ∧ t.mem = s.mem
        ∧ ((u.ring fn 0).inflight = 0 → t.ring fn 0 = {} ∧ t.rd Reg.HIF_ADM_CTRL.ENABLE 0 fn = 0 ∧ t.rd Reg.HIF_ADM_CTRL.READY 0 fn = 0)
        ∧ ((u.ring fn 0).inflight ≠ 0 → (t.ring fn 0).st = .resetting ∧ (t.ep fn).disabling = true))

/-- R134, R135, R136, R593: a completion for a tag without a request is unexpected; a failed one frees the tag and fails its write; data is
held in the version; a tag whose timer expired is quarantined for 1 s.
Where it rests on the model's own choices, they are those of log entry 30. -/
def Obligations.OutboundReads : Prop :=
  ∀ (s : State) (fn : Fn) (tag : Tag),
    (∀ cpl : Cpl, s.serving = true → s.hasFn fn = true → s.linkUp fn = true → (s.tag fn tag).outstanding = false →
      ∃ t, exec (.completionTlp fn tag cpl) s = .next t ∧ t.rd Reg.HIF_EP_EVENT.LATE_CPL 0 fn = 1
        ∧ t.events.head?.map (fun e => (e.source, e.code, e.detail)) = some (0x10, 0x0005, tag.val) ∧ t.ctxs = s.ctxs
        ∧ Frame [.endpoint, .log] [Reg.HIF_EP_EVENT.LATE_CPL, Reg.HIF_EP_CNT.LATE] s t)
    ∧ (∀ (c b d : Nat) (data : Block), s.serving = true → s.hasFn fn = true → s.linkUp fn = true → s.tag fn tag = .data c b d →
      (s.ctx c).is .write = true → (s.ctx c).phase = .landing → b < (s.ctx c).nblk →
      ∃ t, exec (.completionTlp fn tag (.data data)) s = .next t ∧ t.tag fn tag = .idle
        ∧ t.ctx c = { s.ctx c with received := setBit (s.ctx c).received b }
        ∧ (∀ v ∈ s.ftl.versions, v.osn = (s.ctx c).osn → v.iu = iuOf ((s.ctx c).slba + b) →
            { v with data := v.data ++ [(((s.ctx c).slba + b) % 4,
                .block (s.seal ((s.ctx c).slba + b) ((s.ctx c).ivs.getD b (0, 0, 0)) data))] } ∈ t.ftl.versions)
        ∧ Frame [.tags, .contexts, .ftl] [] s t)
    ∧ (∀ (c b d : Nat), s.serving = true → s.hasFn fn = true → s.linkUp fn = true → s.tag fn tag = .data c b d → c < 65536 →
      (s.ctx c).uncommitted = true → ∀ cpl ∈ [Cpl.unsupported, .abort, .poisoned],
      ∃ t, exec (.completionTlp fn tag cpl) s = .next t ∧ t.tag fn tag = .idle ∧ (t.ctx c).phase = .finished ∧ (t.ctx c).status = 0x0006
        ∧ t.events.head?.map (fun e => (e.source, e.code)) = some (0x10, 0x000A))
    ∧ (∀ d, (s.tag fn tag).deadline = some d → s.serving = true → d ≤ s.frame →
      ∃ t, exec (.completionTimeout fn tag) s = .next t ∧ t.tag fn tag = .quarantined (s.frame + 100000)
        ∧ t.rd Reg.HIF_EP_EVENT.CPL_TIMEOUT 0 fn = 1 ∧ (t.cfgRaw fn 0x104).testBit 14 = true
        ∧ t.events.head?.map (fun e => (e.source, e.code, e.detail)) = some (0x10, 0x0008, tag.val)
        ∧ (∀ n i k, s.tag fn tag = .fetch n i k d → (s.ring fn n).st = .active → (t.ring fn n).st = .error
            ∧ t.rd Reg.HIF_FETCH_ERR.RING 0 fn = n % 2 ^ Reg.HIF_FETCH_ERR.RING.w ∧ t.rd Reg.HIF_FETCH_ERR.REASON 0 fn = 1))
    ∧ (∀ e, s.tag fn tag = .quarantined e → e ≤ s.frame →
      ∃ t, exec (.tagQuarantineEnd fn tag) s = .next t ∧ t.tag fn tag = .idle ∧ Frame [.tags] [] s t)

/-- R164, R165, R194: with a CQ slot free the entry is written at the CQ tail with the ring's phase and the command is Released once it is
acknowledged.
Where it rests on the model's own choices, they are those of log entry 44. -/
def Obligations.CompletionEntries : Prop :=
  ∀ (s : State) (c : CtxNo),
    let x := s.ctx c
    let r := s.ring x.fn x.ring
    (s.attends = true → s.entryDue c = true → s.canSend x.fn = true → r.st = .active → r.cqRoom = true → x.is .setFeature = false →
      ∃ t, exec (.completionWrite c) s = .next t ∧ t.ctx c = { x with phase := .sent }
        ∧ .cqe x.fn x.ring r.cqTail (cqEntry x.result r.sqHead x.ring x.cid x.status (x.cflags + bit r.phase)) ∈ t.out
        ∧ (t.ring x.fn x.ring).cqTail = (if r.cqTail + 1 = r.cqSize then 0 else r.cqTail + 1)
        ∧ (t.ring x.fn x.ring).phase = (if r.cqTail + 1 = r.cqSize then !r.phase else r.phase)
        ∧ (t.ring x.fn x.ring).inflight = r.inflight - 1
        ∧ Frame [.rings, .contexts, .vectors, .buses] [] s t)
    ∧ (s.attends = true → s.entryDue c = true → r.cqRoom = false → exec (.completionWrite c) s = .next s)
    ∧ (s.sup.coreUp = true → x.phase = .sent → s.linkUp x.fn = true →
      ∃ t, exec (.dllAck c) s = .next t ∧ t.ctx c = {} ∧ t.rings = s.rings ∧ t.out = s.out
        ∧ (x.spans = false → x.is .getLog = false → Frame [.contexts, .tags] [] s t))

/-! ### Writes, reads and the FLUSH (R192 to R211, R356) -/

/-- R194, R196, R209, R210: an admitted write allocates a version for each IU it touches and lands, else it waits; its blocks are read from the
host, mirrored, and a GROUP write that waited too long is refused with its staged versions adopted.
Where it rests on the model's own choices, they are those of log entry 46. -/
def Obligations.WritesLand : Prop :=
  ∀ (s : State) (c : CtxNo) (tag : Tag),
    let x := s.ctx c
    let u := (s.takeSpans c).2
    (s.attends = true → x.is .write = true → x.phase = .ordered → s.admits x = true → s.marksHold [(x.slba, x.nblk)] x.ivs = true →
      (s.takeSpans c).1 = true →
      ∃ t, exec (.hostWrite c tag) s = .next t ∧ (t.ctx c).phase = .landing
        ∧ (∃ l, t.ftl.versions = u.ftl.versions ++ l ∧ l.map (fun v => (v.osn, v.iu, v.mask, v.st, v.data))
              = x.masks.map (fun e => (x.osn, e.1, e.2, .landing, [])))
        ∧ Frame [.contexts, .ftl] [] u t)
    ∧ (s.attends = true → x.is .write = true → x.phase = .ordered → s.admits x = false ∨ s.marksHold [(x.slba, x.nblk)] x.ivs = false →
      exec (.hostWrite c tag) s = .next s)
    ∧ (s.attends = true → x.is .write = true → x.phase = .landing → s.canSend x.fn = true → s.tagFree x.fn tag = true →
      x.blk < x.nblk → x.walk.covers (4096 * (x.blk + 1)) = true →
      ∃ t, exec (.hostWrite c tag) s = .next t ∧ t.tag x.fn tag = .data c x.blk (s.frame + s.timeoutFrames x.fn)
        ∧ t.ctx c = { x with blk := x.blk + 1 } ∧ Frame [.contexts, .tags, .buses] [] s t)
    ∧ (∀ (zeroes : Bool),
      let w := wholeIus x.slba x.nblk
      let parts := match pkOp x.pkt with
        | some o => sealedParts x.pkt o
        | none => []
      let cmd := if zeroes then Instr.writeZeroes c else Instr.trim c
      x.is (if zeroes then .writeZeroes else .trim) = true → s.attends = true → x.phase = .ordered → s.admits x = true →
      s.marksHold parts x.ivs = true → w.2 = 0 ∨ (s.rangeSlot.isSome = true ∧ s.thiRangeRoom w.1 w.2 = true) →
      (s.takeSpans c).1 = true →
      ∃ t, exec cmd s = .next t ∧ (t.ctx c).phase = .landing
        ∧ (w.2 ≠ 0 → .range zeroes w.1 w.2 x.osn ∈ t.ftl.journal.collecting) ∧ t.pages = s.pages ∧ t.rings = s.rings)
    ∧ (∀ b : Nat, s.serving = true → x.isWrite = true → x.phase = .landing →
      ∃ t, exec (.mirrorWriteDone c b) s = .next t
        ∧ t.ftl.versions = s.ftl.versions.map (fun v =>
            if v.osn = x.osn ∧ v.iu = iuOf (x.slba + b) ∧ v.data.any (fun e => e.1 == (x.slba + b) % 4) = true then
              { v with mirrored := setBit v.mirrored ((x.slba + b) % 4) } else v)
        ∧ Frame [.ftl] [] s t)
    ∧ (s.attends = true → x.isWrite = true → x.phase = .published → s.groupRing x = true → s.groupAcked x = false →
      x.pubAt + s.rd Reg.WBF_CFG.GROUP_WAIT ≤ s.frame →
      ∃ t, exec (.groupWaitExpiry c) s = .next t ∧ (t.ctx c).phase = .finished ∧ (t.ctx c).status = 0x0030
        ∧ t.rd Reg.WBF_EVT.GROUP_EXPIRED = 1
        ∧ (∀ v ∈ t.ftl.versions, v.osn = x.osn → v.st ≠ .landing ∧ v.st ≠ .staged)
        ∧ t.events.head?.map (fun e => (e.source, e.code, e.detail)) = some (0x13, 0x0101, x.ring + x.fn * 2 ^ 16))

/-- R192, R195, R205, R206, R211: a read whose dependencies are met takes its snapshot, the source of each block; its blocks move in order, a
failure is kept with its block and the lowest failing block ends the command; a FLUSH ends once no earlier write of its ring is without its
entry. -/
def Obligations.ReadsAndFlush : Prop :=
  ∀ (s : State) (c : CtxNo) (tag : Tag),
    let x := s.ctx c
    let u := (s.takeSpans c).2
    (s.attends = true → x.isRead = true → x.phase = .ordered → s.maySnap x = true → (s.takeSpans c).1 = true →
      ∃ t, exec (.readSnapshot c) s = .next t ∧ (t.ctx c).phase = .snapshot
        ∧ (t.ctx c).snap = (List.range x.nblk).map (fun i => u.sourceOf (x.slba + i) x.osn)
        ∧ t.ftl.map = u.ftl.map ∧ t.pages = u.pages ∧ t.rings = u.rings)
    ∧ (s.attends = true → x.isRead = true → x.phase = .ordered → s.maySnap x = false → exec (.readSnapshot c) s = .next s)
    ∧ (∀ read : Bool, x.is (if read then .read else .verify) = true → s.attends = true → x.phase = .snapshot ∨ x.phase = .moving →
      (read = true → s.canSend x.fn = true ∧ x.walk.covers (4096 * (x.blk + 1)) = true) → x.blk < x.nblk →
      let cmd := if read then Instr.hostRead c tag else Instr.verify c tag
      (s.foundAt x x.blk = .waits → ∃ t, exec cmd s = .next t ∧ t.ctx c = { x with phase := .moving } ∧ Frame [.contexts] [] s t)
      ∧ (∀ b, s.foundAt x x.blk = .data b → ∃ t, exec cmd s = .next t ∧ t.ctx c = { x with phase := .moving, blk := x.blk + 1 }
          ∧ (read = false → t.out = s.out) ∧ Frame [.contexts, .buses] [] s t)
      ∧ (∀ st, s.foundAt x x.blk = .bad st → ∃ t, exec cmd s = .next t ∧ (t.ctx c).blk = x.blk + 1
          ∧ (t.ctx c).bad.any (fun e => e.1 == x.blk) = true ∧ t.out = s.out ∧ t.pages = s.pages))
    ∧ (s.attends = true → x.isRead = true → x.phase = .moving → x.nblk ≤ x.blk →
      ∃ t, exec (.readDataDone c) s = .next t ∧ (t.ctx c).phase = .finished
        ∧ (x.bad = [] → (t.ctx c).status = 0 ∧ (t.ctx c).result = 0)
        ∧ (∀ b st, (b, st) ∈ x.bad → (∀ e ∈ x.bad, e.1 ≠ b ∨ e = (b, st)) → (∀ e ∈ x.bad, b ≤ e.1) →
            (t.ctx c).status = st ∧ (t.ctx c).result = b))
    ∧ (∀ cmd ∈ [Instr.flush c, .flushComplete c],
      (s.attends = true → x.is .flush = true → x.phase = .ordered → s.mayFlush x = true →
        ∃ t, exec cmd s = .next t ∧ t.ctx c = { x with phase := .finished, status := 0, result := 0 } ∧ Frame [.contexts] [] s t)
      ∧ (s.mayFlush x = false → exec cmd s = .next s))

/-- R28, R194, R207: a durable batch leaves flight; a commit record that stands alone in it commits its published command and its versions;
records without an effect of their own leave the map, the versions' states and the contexts.
Where it rests on the model's own choices, they are those of log entry 58. -/
def Obligations.BatchDurable : Prop :=
  ∀ (s : State) (n : Nat) (l : List Rec), s.ftl.journal.flight = some (n, l) → s.serving = true →
    ∃ t, exec .journalBatchDurable s = .next t ∧ t.ftl.journal.flight = none ∧ t.frame = s.frame ∧ t.mem = s.mem
      ∧ (∀ (x y z w v osn c : Nat), l = [.commit x y z w v osn] → s.ctxOfOsn osn = some c → (s.ctx c).phase = .published →
          (s.ctx c).osn = osn →
          (t.ctx c).phase = .committed ∧ (t.ctx c).committed = true ∧ (t.ctx c).status = 0
          ∧ (∀ v ∈ t.ftl.versions, v.osn = osn → v.st ≠ .staged) ∧ t.ftl.map = s.ftl.map)
      ∧ (∀ a b m, l = [.eraseEnd a b m] → t.ctxs = s.ctxs ∧ t.ftl.map = s.ftl.map ∧ t.pages = s.pages)

/-! ### The admin commands (R150 to R153, R168 to R177, R270 to R274, R303, R378, R379, R395, R496 to R509, R514 to R519, R529) -/

/-- R168, R171, R172, R173, R176, R271, R395: a command that returns data moves it once its walk names the memory, and ends with SUCCESS and
its RESULT; a failed decode of a raw read ends with MEDIA_ERROR and the page's index.
Where it rests on the model's own choices, they are those of log entries 47 and 52. -/
def Obligations.AdminData : Prop :=
  ∀ (s : State) (c : CtxNo),
    let x := s.ctx c
    let done (t : State) (result : Nat) : Prop := t.ctx c = { x with phase := .finished, status := 0, result := result }
    (s.adminRuns c .identify = true → s.canSend x.fn = true → x.walk.covers 4096 = true →
      ∃ t, exec (.identify c) s = .next t ∧ done t 0 ∧ Frame [.contexts, .buses] [] s t)
    ∧ (s.adminRuns c .groupStatus = true → s.canSend x.fn = true → x.walk.covers 4096 = true →
      ∃ t, exec (.groupStatus c) s = .next t ∧ done t 0 ∧ Frame [.contexts, .buses] [] s t)
    ∧ (s.adminRuns c .getLog = true → s.earlierRuns c [.getLog, .fwDownload] = false → s.canSend x.fn = true →
      x.walk.covers (s.logBytes x).length = true →
      ∃ t, exec (.getLog c) s = .next t ∧ done t x.result ∧ Frame [.contexts, .buses] [] s t)
    ∧ (s.adminRuns c .getFeature = true →
      ∃ t, exec (.getFeature c) s = .next t ∧ done t (s.featureValue (pkBits x.pkt 10 0 8) (pkBits x.pkt 10 8 2))
        ∧ Frame [.contexts] [] s t)
    ∧ (s.adminRuns c .diag = true → pkDw x.pkt 10 = 1 →
      ∃ t, exec (.diagEcho c) s = .next t ∧ done t (0xFFFFFFFF - pkDw x.pkt 11) ∧ Frame [.contexts] [] s t)
    ∧ (∀ l : List Block, s.adminRuns c .diag = true → pkDw x.pkt 10 = 2 → s.canSend x.fn = true → 4096 * l.length = pkDw x.pkt 12 →
      ∃ t, exec (.diagDmaLoop c (.data l)) s = .next t ∧ done t (pkDw x.pkt 12)
        ∧ t.out = (l.zipIdx.map (fun e => Out.hostWrite x.fn (pkDptr2 x.pkt + 4096 * e.2) 4096 e.1)).reverse ++ s.out
        ∧ Frame [.contexts, .buses] [] s t)
    ∧ (s.adminRuns c .rawRead = true → s.rawFirst c = true → s.lunFailed (adChannel (pkMedia x.pkt)) (adLunNo (pkMedia x.pkt)) = false →
      (s.blk (pkMedia x.pkt)).st ≠ .erasing → (s.blk (pkMedia x.pkt)).st ≠ .eraseUnfin → s.rawBusy (pkMedia x.pkt) (pkPages x.pkt) = false →
      (s.canSend x.fn = true → x.walk.covers (s.rawBytes_ x.pkt).length = true →
        ∃ t, exec (.rawRead c none) s = .next t ∧ done t 0 ∧ Frame [.contexts, .buses, .freeValues] [] s t)
      ∧ (∀ k, pkBypass x.pkt = false → k < pkPages x.pkt →
        ∃ t, exec (.rawRead c (some k)) s = .next t ∧ (t.ctx c).status = 0x0020 ∧ (t.ctx c).result = k ∧ Frame [.contexts] [] s t))

/-- R153, R169, R170, R172, R514, R529: an unsaved feature waits for its completion entry; a ring pair becomes Active with the fields of its
packet; one that is reset or deleted stops; a power request is recorded; the units of a download are programmed.
Where it rests on the model's own choices, they are those of log entry 48. -/
def Obligations.AdminChanges : Prop :=
  ∀ (s : State) (c : CtxNo),
    let x := s.ctx c
    let n := pkBits x.pkt 10 0 10
    (s.adminRuns c .setFeature = true → (pkDw x.pkt 10).testBit 8 = false →
      ∃ t, exec (.setFeature c) s = .next t ∧ (t.ctx c).phase = .finished ∧ (t.ctx c).status = 0 ∧ Frame [.contexts] [] s t)
    ∧ (s.adminRuns c .ringCreate = true → (s.ring x.fn n).st = .absent →
      ∃ t, exec (.ringCreate c) s = .next t ∧ (t.ctx c).phase = .finished ∧ (t.ctx c).status = 0
        ∧ (t.ring x.fn n).st = .active ∧ (t.ring x.fn n).sqHead = 0 ∧ (t.ring x.fn n).sqTail = 0 ∧ (t.ring x.fn n).phase = true
        ∧ (t.ring x.fn n).sqSize = pkBits x.pkt 8 0 17 ∧ (t.ring x.fn n).cqSize = pkBits x.pkt 9 0 17
        ∧ (t.ring x.fn n).group = (pkDw x.pkt 10).testBit 10 ∧ (t.ring x.fn n).vector = pkBits x.pkt 10 16 11
        ∧ Frame [.contexts, .rings] [] s t)
    ∧ (∀ cmd ∈ [Instr.ringReset c, .ringDelete c],
      s.adminRuns c .ringReset = true ∧ cmd = .ringReset c ∨ s.adminRuns c .ringDelete = true ∧ cmd = .ringDelete c →
      ((s.ring x.fn n).st = .absent →
        ∃ t, exec cmd s = .next t ∧ (t.ctx c).phase = .finished ∧ (t.ctx c).status = 0x0003 ∧ Frame [.contexts] [] s t)
      ∧ ((s.ring x.fn n).st = .resetting → exec cmd s = .next s)
      ∧ ((s.ring x.fn n).st = .active ∨ (s.ring x.fn n).st = .error → n ≠ 0 → (s.ring x.fn n).inflight ≠ 0 →
        ∃ t, exec cmd s = .next t ∧ (t.ring x.fn n).st = .resetting ∧ (t.ring x.fn n).waiter = c + 1 ∧ t.pages = s.pages)
      ∧ ((s.ring x.fn n).st = .active ∨ (s.ring x.fn n).st = .error → n ≠ 0 → (s.ring x.fn n).inflight = 0 →
        (cmd = .ringDelete c → ∃ t, exec cmd s = .next t ∧ t.ring x.fn n = {} ∧ (t.ctx c).phase = .finished ∧ (t.ctx c).status = 0)
        ∧ (cmd = .ringReset c → ∃ t, exec cmd s = .next t ∧ (t.ring x.fn n).st = .active ∧ (t.ring x.fn n).sqHead = 0
            ∧ (t.ring x.fn n).sqTail = 0 ∧ (t.ctx c).phase = .finished ∧ (t.ctx c).status = 0)))
    ∧ (s.adminRuns c .powerState = true →
      ∃ t, exec (.powerState c) s = .next t ∧ (t.ctx c).phase = .finished ∧ (t.ctx c).status = 0
        ∧ (t.ep x.fn).target = pkBits x.pkt 10 0 2
        ∧ Frame [.contexts, .endpoint, .power, .buses]
            [Reg.PWR_STATUS.PHASE, Reg.PWR_AVS.BUSY, Reg.PWR_AVS.REQ_MV, Reg.PWR_REQ.F1, Reg.PWR_REQ.F0, Reg.PWR_STATUS.TARGET] s t)
    ∧ (∀ l : List Block, s.adminRuns c .fwDownload = true → s.earlierRuns c [.getLog, .fwDownload] = false →
      (s.fwRefused x.pkt = true →
        ∃ t, exec (.fwDownload c (.data l)) s = .next t ∧ (t.ctx c).phase = .finished ∧ (t.ctx c).status = 0x0007 ∧ Frame [.contexts] [] s t)
      ∧ (s.fwRefused x.pkt = false → 4096 * l.length = pkDw x.pkt 12 →
        ∃ t, exec (.fwDownload c (.data l)) s = .next t ∧ (t.ctx c).phase = .finished ∧ (t.ctx c).status = 0
          ∧ t.rd Reg.BST_STATUS.WRITING = 1 ∧ Only [.contexts, .bootStore] s t)
      ∧ (s.fwRefused x.pkt = false →
        ∃ t, exec (.fwDownload c .failed) s = .next t ∧ (t.ctx c).status = 0x0006 ∧ Frame [.contexts] [] s t))

/-- A persistent command was accepted: it is committing, its record is in the batch being collected, and nothing else has changed yet. -/
def Sys2Proof.persisting (s t : State) (c : Nat) (a : AdminRec) : Prop :=
  (t.ctx c).phase = .committing ∧ .admin a (c + 1) ∈ t.ftl.journal.collecting ∧ t.ftl.map = s.ftl.map ∧ t.sec.slots = s.sec.slots
    ∧ Only [.contexts, .ftl, .freeValues, .bootStore] s t

/-- A command ended with a status, and nothing else has changed. -/
def Sys2Proof.refusedWith (s t : State) (c status : Nat) : Prop :=
  (t.ctx c).phase = .finished ∧ (t.ctx c).status = status ∧ Frame [.contexts] [] s t

/-- R25, R28, R172, R303, R378, R379, R496, R498, R518: a command with a persistent effect that passes its checks puts its record into the
batch being collected and changes nothing else until that is durable; one that fails them ends with its status.
Where it rests on the model's own choices, they are those of log entries 48, 51, 53 and 54. -/
def Obligations.PersistentCommands : Prop :=
  ∀ (s : State) (c : CtxNo), s.adminTurn c = true →
    let x := s.ctx c
    let k := pkBits x.pkt 10 0 12
    (s.adminRuns c .setFeature = true → (pkDw x.pkt 10).testBit 8 = true →
      ∃ t, exec (.setFeature c) s = .next t ∧ persisting s t c (.feature (pkBits x.pkt 10 0 8) (pkDw x.pkt 11)))
    ∧ (∀ (r : BitVec 512) (pointOk : Bool) (u : Option (BitVec 256)), s.adminRuns c .keyLoad = true →
      (∀ st, s.keyLoadStatus x.pkt r pointOk u = some st →
        ∃ t, exec (.keyLoad c (.data r) pointOk u) s = .next t ∧ refusedWith s t c st)
      ∧ (s.keyLoadStatus x.pkt r pointOk u = none →
        ∃ t, exec (.keyLoad c (.data r) pointOk u) s = .next t
          ∧ persisting s t c (if krFormat r = 3 then .transportKey else if krFormat r = 4 then .microcodeKey else .keySlot k)))
    ∧ (s.adminRuns c .keyRoll = true →
      ((s.keySlot k).rollable = true → ∃ t, exec (.keyRoll c) s = .next t ∧ persisting s t c (.keySlot k))
      ∧ ((s.keySlot k).rollable = false → ∃ t, exec (.keyRoll c) s = .next t ∧ refusedWith s t c 0x0007))
    ∧ (∀ (r : Block) (u : Option (BitVec 256)), s.adminRuns c .groupJoin = true →
      (∀ st, s.joinStatus x.pkt r u = some st → ∃ t, exec (.groupJoin c (.data r) u) s = .next t ∧ refusedWith s t c st)
      ∧ (s.joinStatus x.pkt r u = none → ∃ t, exec (.groupJoin c (.data r) u) s = .next t ∧ persisting s t c .group
          ∧ t.rd Reg.GLI_STATUS.STATE = s.rd Reg.GLI_STATUS.STATE))
    ∧ (s.adminRuns c .groupLeave = true → s.group.leaver ≠ c + 1 →
      (s.member = false → ∃ t, exec (.groupLeave c) s = .next t ∧ refusedWith s t c 0x0007)
      ∧ (s.member = true → (pkDw x.pkt 10).testBit 0 = true → ∃ t, exec (.groupLeave c) s = .next t ∧ persisting s t c .leave)
      ∧ (s.member = true → (pkDw x.pkt 10).testBit 0 = false → s.gstate = 2 →
        ∃ t, exec (.groupLeave c) s = .next t ∧ t.rd Reg.GLI_STATUS.STATE = 4 ∧ t.ctxs = s.ctxs ∧ t.ftl = s.ftl))
    ∧ (∀ (g : List Word) (sig : Bool), s.adminRuns c .ucodeLoad = true → s.soleLoad c = true → 4 * g.length = pkDw x.pkt 10 →
      (∀ st off, ucodeCheck s g (pkDw x.pkt 10) sig s.lunIds = some (st, off) →
        ∃ t, exec (.ucodeLoad c (.data g) sig) s = .next t ∧ (t.ctx c).phase = .finished ∧ (t.ctx c).status = st
          ∧ Frame [.contexts, .log] [] s t)
      ∧ (ucodeCheck s g (pkDw x.pkt 10) sig s.lunIds = none →
        ∃ t, exec (.ucodeLoad c (.data g) sig) s = .next t ∧ persisting s t c (.ucode (if s.ucode.record = 1 then 2 else 1))))
    ∧ (∀ sig : Bool, s.adminRuns c .fwActivate = true → s.soleLoad c = true →
      (s.activatable (pkDw x.pkt 10) = false → ∃ t, exec (.fwActivate c sig) s = .next t ∧ refusedWith s t c 0x0007)
      ∧ (s.activatable (pkDw x.pkt 10) = true → s.fwPasses (pkDw x.pkt 10) sig = true → (s.fwSlot (pkDw x.pkt 10)).baseOk = true →
        s.rd Reg.UCS_STATUS.SOURCE ≠ 0 →
        ∃ t, exec (.fwActivate c sig) s = .next t ∧ persisting s t c (.activate (pkDw x.pkt 10))))

/-- R496, R504: a purge takes its slot to PURGING at once, and its record is made durable when no command is left in the realm; a sweep that has
rewritten every older block raises the oldest epoch.
Where it rests on the model's own choices, they are those of log entry 49. -/
def Obligations.KeySlots : Prop :=
  ∀ s : State,
    (∀ c : CtxNo,
      let k := pkBits (s.ctx c).pkt 10 0 12
      s.adminRuns c .keyPurge = true → (s.keySlot k).purger ≠ c + 1 →
      ((s.keySlot k).st = 1 → ∃ t, exec (.keyPurge c) s = .next t ∧ t.keySlot k = { s.keySlot k with st := 2, purger := c + 1 }
        ∧ t.ctxs = s.ctxs ∧ Only [.keys] s t)
      ∧ ((s.keySlot k).st ≠ 1 → ∃ t, exec (.keyPurge c) s = .next t ∧ refusedWith s t c 0x0007))
    ∧ (∀ k y, s.serving = true → s.purgeable = some (k, y) →
      ∃ t, exec .keyPurgeComplete s = .next t ∧ persisting s t (y.purger - 1) (.purge k))
    ∧ (∀ k y, s.serving = true → s.sec.slots.find? (fun e => e.2.sweep != 0 && !s.staleEpoch e.1 (e.2.sweep - 1)) = some (k, y) →
      ∃ t, exec .keySweepEnd s = .next t ∧ t.keySlot k = { y with oldest := max y.oldest (y.sweep - 1), sweep := 0 }
        ∧ t.events.head?.map (fun e => (e.source, e.code)) = some (0x38, 0x0104) ∧ Only [.keys, .log] s t)

/-- R270 to R273, R445, R509, R512: raw programs and erases act on a LUN set aside for raw use and move its write pointer; the mask of raw LUNs
waits for the next cold start; a debug signature that verifies empties every slot, one that fails locks the port again; the oldest boot-store
operation completes first.
Where it rests on the model's own choices, they are those of log entries 50 and 51. -/
def Obligations.RawAndDebug : Prop :=
  ∀ (s : State) (c : CtxNo),
    let x := s.ctx c
    let a := pkMedia x.pkt
    (∀ (l : List (List Block)) (pass : Bool), s.adminRuns c .rawProgram = true → s.rawFirst c = true →
      (s.rawUse a = false → ∃ t, exec (.rawProgram c (.data l) pass) s = .next t ∧ refusedWith s t c 0x0007)
      ∧ (s.rawUse a = true → ∃ t, exec (.rawProgram c (.data l) pass) s = .next t ∧ (t.ctx c).phase = .finished
          ∧ (t.blk a).wp = some (max ((s.blk a).wp.getD 0) (adPage a + pkPages x.pkt))
          ∧ ((s.blk a).wp = none → (t.ctx c).status = 0x0040)
          ∧ (∀ w, (s.blk a).wp = some w → (t.ctx c).status = if adPage a < w then 0x0040 else if pass then 0 else 0x0041)
          ∧ Frame [.contexts, .flash, .freeValues] [] s t))
    ∧ (∀ pass : Bool, s.adminRuns c .rawErase = true → s.rawFirst c = true → s.rawUse a = true →
      ∃ t, exec (.rawErase c pass) s = .next t ∧ (t.blk a).wp = some 0 ∧ (t.blk a).slc = pkSlc x.pkt
        ∧ (t.ctx c).status = (if pass then 0 else 0x0042) ∧ Frame [.contexts, .flash] [] s t)
    ∧ (∀ (fn : Fn) (ch : Chan) (mask : Word), s.reachable fn = true →
      let u := s.wakeTlp fn
      (u.on Reg.CHN_ENG_CTRL.LOCK ch = false → ∃ t, exec (.rawEn fn ch mask) s = .next t ∧ t.rd Reg.CHN_RAW_EN.RAW ch = mask.toNat
        ∧ Frame [] [Reg.CHN_RAW_EN.RAW] u t)
      ∧ (u.on Reg.CHN_ENG_CTRL.LOCK ch = true → exec (.rawEn fn ch mask) s = .next u))
    ∧ (s.serving = true → s.rd Reg.SEC_STATUS.DEBUG < 2 →
      ∃ t, exec .debugChallenge s = .next t ∧ t.rd Reg.SEC_STATUS.DEBUG = 1
        ∧ Frame [.freeValues] [Reg.SEC_DBG_CHAL.NONCE, Reg.SEC_STATUS.DEBUG] s t)
    ∧ (s.serving = true → s.rd Reg.SEC_STATUS.DEBUG = 1 →
      (∃ t, exec (.debugSubmit false) s = .next t ∧ t.rd Reg.SEC_STATUS.DEBUG = (if 3 ≤ s.sec.dbgFails + 1 then 3 else 0)
        ∧ Frame [.keys] [Reg.SEC_STATUS.DEBUG] s t)
      ∧ (∃ t, exec (.debugSubmit true) s = .next t ∧ t.rd Reg.SEC_STATUS.DEBUG = 2 ∧ (∀ k, (t.keySlot k).st = 0)
        ∧ t.sec.tk = none ∧ t.sec.groupKey = none ∧ t.pages = s.pages))
    ∧ (∀ o l, s.bst.queue = o :: l →
      ∃ t, exec .bootStoreWriteDone s = .next t ∧ t.bst.queue = l ∧ t.rd Reg.BST_STATUS.WRITING = (if l.isEmpty then 0 else 1)
        ∧ Frame [.bootStore, .dram] [Reg.BST_STATUS.WRITING] s t)

/-! ### Media management and the scheduler (R222, R223, R349, R357 to R359, R361, R368, R373) -/

/-- R357: applying a range sets each IU of its next map page that has no version above the range's OSN, leaves every other map entry, and moves
the range on by what it covered. -/
def Obligations.RangesApplied : Prop :=
  ∀ (s : State) (e : Fin 64) (r : RangeEnt), s.rangeAt e = some r → r.count ≠ 0 → r.st = .committed ∨ r.st = .adopted → s.serving = true →
    let n := min r.count (819 - r.firstIu % 819)
    (∀ iu, r.firstIu ≤ iu → iu < r.firstIu + n → s.readsPast iu r.osn = true) →
    ∃ t, exec (.rangeApply e) s = .next t
      ∧ (∀ iu, r.firstIu ≤ iu → iu < r.firstIu + n → (s.stack iu).any (fun v => decide (r.osn < v.osn)) = false →
          t.entry iu = if r.zeroes then .zeroed else .unmapped)
      ∧ (∀ iu, iu < r.firstIu ∨ r.firstIu + n ≤ iu ∨ (s.stack iu).any (fun v => decide (r.osn < v.osn)) = true → t.entry iu = s.entry iu)
      ∧ t.rangeAt e = some { r with firstIu := r.firstIu + n, count := r.count - n }
      ∧ t.pages = s.pages ∧ t.ctxs = s.ctxs ∧ Frame [.ftl, .flash] [] s t

/-- The granule lies on a block, in one of its planes. -/
def Sys2Proof.onBlock (s : State) (a : Nat) (g : Gran) : Bool :=
  let planes := (List.range (s.planesOf (adChannel a) (adLunNo a))).map (fun p => mkAddr (adChannel a) (adLunNo a) p (adBlock a) 0 0)
  g.addr != 0 && planes.contains (adOfBlock (g.addr - 1))

/-- R349, R358, R359, R361, R368, R373: the rows of media management: the state of the free bands and the grade follow their rules and record
their changes, an erase starts once nothing of its block is referenced, levelling starts past the limit, the checkpoint advances, and the
journal's marks are set.
Where it rests on the model's own choices, they are those of log entries 65 and 66. -/
def Obligations.SpaceManagement : Prop :=
  ∀ s : State, s.serving = true →
    (s.boot.stage ≠ .grind →
      ∃ t, exec .freeBandStateChange s = .next t
        ∧ t.rd Reg.FTL_FREE.STATE = s.refreshFree.freeState (s.refreshFree.rd Reg.FTL_FREE.BANDS)
        ∧ t.pages = s.pages ∧ t.ftl.map = s.ftl.map ∧ t.ctxs = s.ctxs)
    ∧ (s.boot.stage ≠ .grind →
      ∃ t, exec .gradeRecompute s = .next t ∧ t.rd Reg.FTL_HEALTH.GRADE = t.gradeNow
        ∧ t.pages = s.pages ∧ t.ftl.map = s.ftl.map)
    ∧ (∀ a : Nat, s.erasable a = true →
      let n := s.planesOf (adChannel a) (adLunNo a)
      let u := s.withdraw (onBlock s a)
      (u.allWithdrawn (onBlock s a) = true →
        ∃ t, exec (.gcEraseStart a) s = .next t ∧ t.pages = s.pages ∧ t.ftl.map = s.ftl.map
          ∧ .eraseStart (2 ^ n - 1) (s.blk a).slc (mkAddr (adChannel a) (adLunNo a) 0 (adBlock a) 0 0) ∈ t.ftl.journal.collecting
          ∧ (∀ p < n, (t.blk (mkAddr (adChannel a) (adLunNo a) p (adBlock a) 0 0)).started = 1))
      ∧ (u.allWithdrawn (onBlock s a) = false → exec (.gcEraseStart a) s = .next u))
    ∧ (s.rd Reg.FTL_WEAR_CFG.SPREAD_LIMIT < s.refreshWear.rd Reg.FTL_WEAR.MAX_EC - s.refreshWear.rd Reg.FTL_WEAR.MIN_EC →
      ∃ t, exec .wearLevelStart s = .next t ∧ t.ftl.levelling = true ∧ Frame [.ftl] [Reg.FTL_WEAR.MIN_EC, Reg.FTL_WEAR.MAX_EC] s t)
    ∧ (s.ftl.journal.ckpt < s.ftl.journal.positionNow → 2 ^ 30 ≤ s.ftl.journal.bytes →
      ∃ t, exec .checkpointAdvance s = .next t ∧ t.ftl.journal.ckpt = s.ftl.journal.positionNow ∧ t.ftl.root = s.ftl.map
        ∧ t.ftl.map = s.ftl.map ∧ .ckpt s.ftl.journal.positionNow 0 0 ∈ t.ftl.journal.collecting
        ∧ Frame [.ftl] [Reg.FTL_JOURNAL.MIB, Reg.FTL_JOURNAL.URGENT] s t)
    ∧ (3 * 2 ^ 30 < s.ftl.journal.bytes →
      ∃ t, exec .journalUrgent s = .next t ∧ t.ftl.journal.urgent = true ∧ t.rd Reg.FTL_JOURNAL.URGENT = 1
        ∧ Frame [.ftl] [Reg.FTL_JOURNAL.URGENT] s t)
    ∧ (2 ^ 32 ≤ s.ftl.journal.bytes → s.ftl.journal.full = false →
      ∃ t, exec .journalFull s = .next t ∧ t.ftl.journal.full = true
        ∧ t.events.head?.map (fun e => (e.source, e.code)) = some (0x28, 0x0105) ∧ Frame [.ftl, .log] [] s t)

/-- R220, R222, R239, R240: a plan cutoff makes the plan of the next frame once; a LUN is in it at most once, and none whose channel's domain is
held off; in a drain the frame's energy is the drain power's. Carried work past its limit asks engines to suspend.
Where it rests on the model's own choices, they are those of log entries 55 and 56. -/
def Obligations.PlanMade : Prop :=
  ∀ s : State,
    (∀ inp : PlanIn, s.sup.coreUp = true → s.sched.made = false →
      ∃ t, exec (.planCutoff inp) s = .next t ∧ t.sched.made = true ∧ (t.sched.plan.map (·.1)).Nodup
        ∧ (∀ e ∈ t.sched.plan, t.domState (9 + e.1 / 32) ≠ 3) ∧ t.frame = s.frame
        ∧ t.mem = s.mem ∧ t.pages = s.pages ∧ (s.sup.drain ≠ .none → t.sched.energy = 10000 * s.rd Reg.FRM_HOLDUP.DRAIN_W))
    ∧ (∀ inp : PlanIn, s.sched.made = true → exec (.planCutoff inp) s = .next s)
    ∧ (s.serving = true → s.rd Reg.FRM_CFG.OVER_LIMIT ≤ s.sched.overs → s.sched.energy < s.carriedLoad →
      ∃ t, exec .carriedLoadSuspend s = .next t ∧ t.sched.suspending = true
        ∧ t.events.head?.map (fun e => (e.source, e.code)) = some (0x03, 0x0101) ∧ Frame [.luns, .scheduler, .log] [] s t)

/-! ### The channels, the microcode store and the decodes (R252, R253, R257, R264, R265, R270, R284, R294, R297, R305, R316, R321, R325) -/

/-- R252, R253: a channel without a trained rate, or populated unlike the others, fails; else it is ready at its rate. -/
def Obligations.ChannelTraining : Prop :=
  ∀ (s : State) (ch : Chan),
    (∀ (ids : List (Option Nat)) (rate : Fin 6) (temp : Int), s.sup.coreUp = true → 3 ≤ s.boot.step → s.rd Reg.CHN_POP.TARGETS ch ≠ 0 →
      s.rd Reg.CHN_ENG_STATUS.STATE ch < 3 →
      (rate = 0 ∨ s.popDiffers ch = true →
        ∃ t, exec (.channelInitDone ch ids rate temp) s = .next t ∧ t.rd Reg.CHN_ENG_STATUS.STATE ch = 4
          ∧ (t.health_ 0x078).testBit ch = true ∧ t.pages = s.pages)
      ∧ (rate ≠ 0 → s.popDiffers ch = false →
        ∃ t, exec (.channelInitDone ch ids rate temp) s = .next t ∧ t.rd Reg.CHN_ENG_STATUS.STATE ch = 3
          ∧ t.rd Reg.CHN_ENG_STATUS.RATE ch = rate ∧ t.rd Reg.CHN_TRAIN.TEMP ch = signedField 16 temp
          ∧ t.rd Reg.CHN_TRAIN.COUNT ch = min (s.rd Reg.CHN_TRAIN.COUNT ch + 1) (2 ^ Reg.CHN_TRAIN.COUNT.w - 1)
          ∧ (t.chn ch).zqNow = (t.chn ch).zq ∧ t.pages = s.pages))
    ∧ (∀ code : Nat, s.serving = true → s.chanReady ch = true →
      ∃ t, exec (.zqShortCal ch code) s = .next t ∧ (t.chn ch).zqNow = code ∧ (t.chn ch).zq = (s.chn ch).zq ∧ Frame [.channels] [] s t)
    ∧ (s.serving = true → s.chanReady ch = true → (s.chn ch).retrain = 0 → s.retrainCause ch ≠ 0 →
      (s.chns.filter (fun e => e.2.retrain != 0)).length < 4 →
      ∃ t, exec (.channelRetrainStart ch) s = .next t ∧ (t.chn ch).retrain = 1 ∧ (t.chn ch).cause = s.retrainCause ch
        ∧ Frame [.channels] [] s t)
    ∧ (s.serving = true → (s.chn ch).retrain = 25 →
      ∃ t, exec (.channelRetrainDone ch) s = .next t ∧ (t.chn ch).retrain = 0 ∧ (t.chn ch).zq = (s.chn ch).zqNow
        ∧ t.events.head?.map (fun e => (e.source, e.code, e.detail)) = some (0x20, 0x0104, ch + (s.chn ch).cause * 2 ^ 6)
        ∧ Frame [.channels, .log] [Reg.CHN_TRAIN.TEMP, Reg.CHN_TRAIN.COUNT] s t)

/-- R257, R264, R265, R284, R294, R297: before its declared end a ready LUN's continuation is offered, as is that of a TIMED wait that has
passed; a suspend is counted and keeps the operation; a resume, for want of reads or after HOLD_MAX, runs it again; a stalled or restarted
engine leaves its LUNs Idle without an operation. -/
def Obligations.LunPhases : Prop :=
  ∀ (s : State) (ch : Chan) (lun : LunNo),
    let u := s.lun ch lun
    (∀ (o : Op) (bytes rest : List Nat) (q : Seq), s.sup.coreUp = true → u.endAt ≠ 0 → u.offered = false → u.overs = none → u.wait < 2 →
      s.swapFrame s.frame = false → u.op = some o → s.poll ch lun o bytes = some (q, rest) → u.st ≠ .resetting → s.frame < u.endAt →
      ∃ t, exec (.lunReady ch lun bytes) s = .next t ∧ t.lun ch lun = { u with seq := q, progressAt := s.frame, offered := true }
        ∧ Frame [.luns] [] s t)
    ∧ (∀ (o : Op) (bytes rest : List Nat) (q : Seq), s.sup.coreUp = true → u.endAt ≠ 0 → u.offered = false → u.overs = none → u.wait < 2 →
      s.swapFrame s.frame = false → u.op = some o → s.poll ch lun o bytes = some (q, rest) → u.endAt ≤ s.frame →
      ∃ t, exec (.lunReady ch lun bytes) s = .next t ∧ t.frame = s.frame ∧ t.mem = s.mem ∧ t.sup = s.sup)
    ∧ (s.sup.coreUp = true → u.op.isSome = true → u.wait = 3 → u.endAt ≠ 0 → u.endAt ≤ s.frame → u.offered = false →
      ∃ t, exec (.timedWaitEnd ch lun) s = .next t ∧ t.lun ch lun = { u with offered := true, progressAt := s.frame } ∧ Frame [.luns] [] s t)
    ∧ (∀ o, u.op = some o → s.serving = true → s.maySuspend ch lun o = true →
      ∃ t, exec (.suspendIssue ch lun) s = .next t
        ∧ t.rd Reg.CHN_CNT.SUSPENDS ch = min (s.rd Reg.CHN_CNT.SUSPENDS ch + 1) (2 ^ Reg.CHN_CNT.SUSPENDS.w - 1) ∧ t.mem = s.mem)
    ∧ (∀ o q cont, s.serving = true → u.st = .suspended → u.op = none → u.held = some (o, q, cont) →
      s.carryFits (s.heldDraw ch lun) = true →
      (u.readWaits = false → u.carried = false ∨ s.sched.suspending = false →
        ∃ t, exec (.resumeIssue ch lun) s = .next t ∧ (t.lun ch lun).held = none)
      ∧ (u.heldAt + s.rd Reg.CHN_SUSP_CFG.HOLD_MAX ch ≤ s.frame →
        ∃ t, exec (.suspendHoldExpiry ch lun) s = .next t ∧ (t.lun ch lun).held = none))
    ∧ (∀ o a, u.op = some o → u.overs = some a →
      ∃ t, exec (.busPhaseStop ch lun) s = .next t ∧ t.rd Reg.UCS_TRAP.VALID = 1 ∧ (t.lun ch lun).held = none
        ∧ (t.lun ch lun).applied = 0 ∧ s.eventTotal + 2 ≤ t.eventTotal)
    ∧ (s.serving = true → u.op.isSome = true → max u.progressAt u.endAt + 100 ≤ s.frame →
      ∃ t, exec (.channelEngineStall ch lun) s = .next t ∧ (t.lun ch lun).op = none ∧ (t.lun ch lun).st = .idle
        ∧ t.rd Reg.CHN_FAULT.CODE ch = 7 ∧ t.rd Reg.CHN_FAULT.LUN ch = lun ∧ t.rd Reg.CHN_FAULT.VALID ch = 1)
    ∧ (∀ fn : Fn, s.reachable fn = true → (s.wakeTlp fn).chanReady ch = true →
      ∃ t, exec (.channelRestart fn ch) s = .next t ∧ (u.op.isSome = true → (t.lun ch lun).op = none ∧ (t.lun ch lun).st = .idle)
        ∧ t.rd Reg.CHN_FAULT.CODE ch = 7)

/-- R304, R305: at its boundary the new image is active, counted and recorded; one boundary later its tables are in use and the UCODE_LOAD that
waited is committed. -/
def Obligations.MicrocodeSwap : Prop :=
  ∀ s : State, s.on Reg.UCS_STATUS.SWAP_PENDING = true →
    (s.serving = true → s.ucode.swapAt ≤ s.frame → s.ucode.swapped = false →
      ∃ t, exec .ucodeStoreSwap s = .next t ∧ t.ucode.active = s.ucode.next ∧ t.ucode.swapped = true
        ∧ t.rd Reg.UCS_CNT.SWAPS = min (s.rd Reg.UCS_CNT.SWAPS + 1) (2 ^ Reg.UCS_CNT.SWAPS.w - 1)
        ∧ t.events.head?.map (fun e => (e.source, e.code)) = some (0x24, 0x0100) ∧ t.ctxs = s.ctxs
        ∧ Only [.microcode, .luns, .log] s t)
    ∧ (s.sup.coreUp = true → s.serving = false → exec .ucodeStoreSwap s = .next s)
    ∧ (s.sup.coreUp = true → s.ucode.swapped = true → s.ucode.swapAt < s.frame →
      ∃ t, exec .ucodeTablesActive s = .next t ∧ t.ucode.swapped = false ∧ t.ucode.loader = 0 ∧ t.on Reg.UCS_STATUS.SWAP_PENDING = false
        ∧ (s.ucode.loader = 0 → t.ctxs = s.ctxs)
        ∧ (s.ucode.loader ≠ 0 → (t.ctx (s.ucode.loader - 1)).phase = .committed ∧ (t.ctx (s.ucode.loader - 1)).status = 0))

/-- R316, R321, R325: one codeword waits for a decode of a kind. A hard decode that fails takes the ladder's next step and an erased one goes to
the row step; a soft decode that fails goes to the row step; a rebuilt one that its tag confirms is delivered. -/
def Obligations.Decodes : Prop :=
  ∀ (s : State) (cw : Fin 16) (d : Dec), s.sup.coreUp = true → d.cw = cw →
    (s.decsAt d.addr cw .hard = [d] →
      (∀ n, ∃ t, exec (.hardDecodeDone d.addr cw (.fail n)) s = .next t ∧ s.nextStep d n ∈ t.decs
        ∧ (t.chn (adChannel d.addr)).hardFails = (s.chn (adChannel d.addr)).hardFails + 1
        ∧ (t.chn (adChannel d.addr)).reads = (s.chn (adChannel d.addr)).reads + 1
        ∧ Frame [.decodes, .channels, .luns] [] s t)
      ∧ (∃ t, exec (.hardDecodeDone d.addr cw .erased) s = .next t ∧ { d with st := .row } ∈ t.decs
        ∧ Frame [.decodes, .channels, .luns] [] s t)
      ∧ (∀ n, s.tagCheck (s.lbaOf d.addr d.cw) (s.codewordOf d.addr d.cw) = .good → d.ctx ≠ 0 →
        ∃ t, exec (.hardDecodeDone d.addr cw (.pass n)) s = .next t ∧ d ∉ t.decs
          ∧ (t.ctx (d.ctx - 1)).ready = setBit (s.ctx (d.ctx - 1)).ready d.blk ∧ t.pages = s.pages))
    ∧ (s.decsAt d.addr cw .soft = [d] →
      (∃ t, exec (.softDecodeDone d.addr cw false) s = .next t ∧ { d with st := .row } ∈ t.decs ∧ Frame [.decodes, .luns] [] s t)
      ∧ (s.tagCheck (s.lbaOf d.addr d.cw) (s.codewordOf d.addr d.cw) = .good → d.ctx ≠ 0 →
        ∃ t, exec (.softDecodeDone d.addr cw true) s = .next t ∧ d ∉ t.decs
          ∧ (t.ctx (d.ctx - 1)).ready = setBit (s.ctx (d.ctx - 1)).ready d.blk
          ∧ t.health_ 0x048 = satAdd 64 (s.health_ 0x048) 1))
    ∧ (s.decsAt d.addr cw .row = [d] → s.rowClosed d.addr = true →
      s.tagCheck (s.lbaOf d.addr cw) (s.codewordOf d.addr cw) = .good → d.ctx ≠ 0 →
      ∃ t, exec (.rowRebuildDone d.addr cw true) s = .next t ∧ d ∉ t.decs
        ∧ (t.ctx (d.ctx - 1)).ready = setBit (s.ctx (d.ctx - 1)).ready d.blk ∧ (t.ctx (d.ctx - 1)).rebuilt = true
        ∧ t.ftl.versions = s.ftl.versions)

/-! ### DRAM, the buffer pool and the Thitralen engine (R426 to R489) -/

/-- A sub-channel serves requests for a line: it is in service, the line lies within its capacity and it is not in self-refresh. -/
def Sys2Proof.Machine.State.lineServed (s : State) (n : Fin 8) (line : Nat) : Bool :=
  s.scUp n && decide (line < s.scGranules * 16384) && s.rd Reg.DRC_SC.STATE n != 7

/-- The line is served from its place in DRAM: its granule is up, no merge entry holds it and the remap table does not list it. -/
def Sys2Proof.Machine.State.plainLine (s : State) (n : Fin 8) (line : Nat) : Prop :=
  s.lineServed n line = true ∧ (s.sc n).granuleUp (line / 16384) = true ∧ (s.sc n).merge.find? (fun m => m.line == line) = none
    ∧ s.remapOf n line = none

/-- What the line code makes of a line as it is stored, with the errors of this read. -/
def Sys2Proof.Machine.State.decoded (s : State) (n : Fin 8) (line : Nat) (errs : List (Nat × Nat × Nat)) : LineVerdict × BitVec 512 :=
  decodeLine (Tbl.get 0 (s.sc n).lines line) errs

/-- The parts a line found in error reaches. -/
def Sys2Proof.lineParts : List Part := [.subchannels, .dram, .log, .health] ++ asyncParts
/-- The register fields a line found in error reaches. -/
def Sys2Proof.lineRegs : List Fld :=
  [Reg.MEM_SC.CE, Reg.MEM_SC.UE, Reg.MEM_SC.LAST, Reg.MEM_SC.DEVICE, Reg.MEM_SC.UNCORR, Reg.MEM_SC.REMAP_USED, Reg.MEM_REMAP.LINE,
   Reg.MEM_REMAP.VALID, Reg.MEM_REMAP.POISON, Reg.DRC_SC.CE_1S, Reg.DRC_SC.STATE, Reg.DRC_SC.UNINIT_READS, Reg.DRC_STATUS.FAILED,
   Reg.DRC_STATUS.IN_SERVICE, Reg.DRC_STATUS.TRN_BUSY, Reg.HIF_ASYNC.PEND]

/-- R431, R436, R437, R441, R447, R448: trainings are adopted whole, margin checks start one at a time, refreshes and idle times close rows, old
requests are promoted, and the scrubber rewrites the oldest queued line.
Where it rests on the model's own choices, they are those of log entries 67, 68 and 69. -/
def Obligations.DramControl : Prop :=
  ∀ (s : State) (n : Fin 8),
    (s.rd Reg.DRC_SC.STATE n = 1 ∨ s.rd Reg.DRC_SC.STATE n = 5 → 666 ≤ (s.sc n).steps → (s.sc n).trnBad = false → s.serving = true →
      ∃ t, exec (.dramTrainingAdopted n) s = .next t ∧ t.rd Reg.DRC_SC.RATE n = (s.sc n).trying % 2 ^ Reg.DRC_SC.RATE.w
        ∧ t.rd Reg.DRC_SC.TRAININGS n = min (s.rd Reg.DRC_SC.TRAININGS n + 1) (2 ^ Reg.DRC_SC.TRAININGS.w - 1) ∧ (t.sc n).banks = []
        ∧ t.rd Reg.DRC_SC.TAG_TEMP n = signedField 16 (s.sc n).meanTemp
        ∧ t.rd Reg.DRC_SC.TAG_MV n = s.rd Reg.PWR_AVS.ACK_MV 2 % 2 ^ Reg.DRC_SC.TAG_MV.w
        ∧ (s.rd Reg.DRC_SC.STATE n = 5 → t.rd Reg.DRC_SC.STATE n = 3 ∧ t.rd Reg.DRC_STATUS.TRN_BUSY = 0 ∧ t.dram = s.dram)
        ∧ (s.rd Reg.DRC_SC.STATE n = 1 → t.rd Reg.DRC_SC.STATE n = 2 ∧ t.scUp n = true
            ∧ t.dram.pair = (if s.dram.pair.length < 2 then insertNat n s.dram.pair else s.dram.pair))
        ∧ Frame [.subchannels, .dram, .log] [Reg.DRC_SC.STATE, Reg.DRC_SC.RATE, Reg.DRC_SC.TAG_TEMP, Reg.DRC_SC.TAG_MV, Reg.DRC_SC.TRAININGS,
            Reg.DRC_SC.GRANULES, Reg.DRC_STATUS.IN_SERVICE, Reg.DRC_STATUS.BLOOM_A, Reg.DRC_STATUS.BLOOM_B, Reg.DRC_STATUS.TRN_BUSY] s t)
    ∧ (∀ cause l, s.dram.queue = (n.val, cause) :: l → s.serving = true → s.on Reg.DRC_STATUS.TRN_BUSY = false → s.rd Reg.DRC_SC.STATE n = 3 →
      ∃ t, exec .marginCheckStart s = .next t ∧ t.dram.queue = l ∧ t.rd Reg.DRC_STATUS.TRN_BUSY = 1 ∧ t.rd Reg.DRC_STATUS.TRN_SC = n
        ∧ t.rd Reg.DRC_SC.STATE n = 4 ∧ (t.sc n).steps = 0
        ∧ t.events.head?.map (fun e => (e.source, e.code, e.detail)) = some (0x16, 0x0101, n.val + cause * 8)
        ∧ Frame [.subchannels, .dram, .log] [Reg.DRC_SC.STATE, Reg.DRC_STATUS.TRN_BUSY, Reg.DRC_STATUS.TRN_SC] s t)
    ∧ (s.serving = false ∨ s.dram.queue = [] ∨ s.on Reg.DRC_STATUS.TRN_BUSY = true → exec .marginCheckStart s = .next s)
    ∧ (s.scUp n = true → s.rd Reg.DRC_SC.STATE n ≠ 7 →
      ∃ t, exec (.dramRefresh n) s = .next t ∧ (t.sc n).refreshed = ((s.sc n).refreshed + 1) % 4
        ∧ (∀ k, k / 8 % 4 = (s.sc n).refreshed → (Tbl.get {} (t.sc n).banks k).opened = false)
        ∧ (∀ k, k / 8 % 4 ≠ (s.sc n).refreshed → (Tbl.get {} (s.sc n).banks k).opened = true → (Tbl.get {} (t.sc n).banks k).opened = true)
        ∧ (t.sc n).lines = (s.sc n).lines ∧ (∀ m, m ≠ n.val → t.sc m = s.sc m) ∧ Frame [.subchannels] [] s t)
    ∧ (∀ b : Fin 64,
      ∃ t, exec (.rowIdleClose n b) s = .next t ∧ (Tbl.get {} (t.sc n).banks b).opened = false
        ∧ (∀ k, k ≠ b.val → Tbl.get {} (t.sc n).banks k = Tbl.get {} (s.sc n).banks k) ∧ (t.sc n).lines = (s.sc n).lines
        ∧ (∀ m, m ≠ n.val → t.sc m = s.sc m) ∧ Frame [.subchannels] [] s t)
    ∧ (∀ (line : Nat) (cls : Fin 4) (waited : Nat), s.scUp n = true → (s.sc n).promoted.contains line = false →
      (cls = 0 ∨ waited ≤ s.rd Reg.DRC_CFG.AGE_LIMIT → exec (.requestAgePromotion n line cls waited) s = .next s)
      ∧ (cls ≠ 0 → s.rd Reg.DRC_CFG.AGE_LIMIT < waited →
        ∃ t, exec (.requestAgePromotion n line cls waited) s = .next t
          ∧ t.sc n = { s.sc n with promoted := (s.sc n).promoted ++ [line] } ∧ Frame [.subchannels] [] s t))
    ∧ (∀ line l, (s.sc n).scrub = line :: l → s.serving = true → s.scUp n = true → s.rd Reg.DRC_SC.STATE n ≠ 7 →
      ∃ t, exec (.scrubRewrite n) s = .next t ∧ t.sc n = { s.sc n with scrub := l, scrubbed := insertNat line (s.sc n).scrubbed }
        ∧ Frame [.subchannels] [] s t)
    ∧ ((s.sc n).scrub = [] → exec (.scrubRewrite n) s = .next s)

/-- R433, R440, R442, R444, R445: what a read of a line delivers, and what a write of a part or the whole of a line leaves.
Where it rests on the model's own choices, they are those of log entries 68 and 69. -/
def Obligations.DramLines : Prop :=
  ∀ (s : State) (n : Fin 8) (line : Nat) (errs : List (Nat × Nat × Nat)),
    (s.lineServed n line = false → exec (.dramLineRead n line errs) s = .next s
      ∧ ∀ mask data, exec (.partialLineWrite n line mask data errs) s = .next s)
    ∧ (s.lineServed n line = true →
      ∃ t, exec (.dramLineRead n line errs) s = .next t ∧ (∀ m, (t.sc m).lines = (s.sc m).lines)
        ∧ (∀ m, (s.sc n).merge.find? (fun m => m.line == line && !m.blocked) = some m →
            t.out = .dramLine n line (some m.data) :: s.out ∧ Frame [.subchannels, .buses] [] s t)
        ∧ ((s.sc n).merge.find? (fun m => m.line == line && !m.blocked) = none → (s.sc n).granuleUp (line / 16384) = false →
            t.out = .dramLine n line (some 0) :: s.out
            ∧ t.rd Reg.DRC_SC.UNINIT_READS n = min (s.rd Reg.DRC_SC.UNINIT_READS n + 1) (2 ^ Reg.DRC_SC.UNINIT_READS.w - 1)
            ∧ Frame [.subchannels, .log, .buses] [Reg.DRC_SC.UNINIT_READS] s t)
        ∧ ((s.sc n).merge.find? (fun m => m.line == line && !m.blocked) = none → (s.sc n).granuleUp (line / 16384) = true →
            (s.remapOf n line).isSome = true →
            t.out = .dramLine n line (if s.poisoned n line then none else some (Tbl.get 0 (s.sc n).lines line)) :: s.out
            ∧ Frame [.subchannels, .buses] [] s t)
        ∧ (s.plainLine n line →
            ((s.decoded n line errs).1 = .clean → t.out = .dramLine n line (some (s.decoded n line errs).2) :: s.out
              ∧ Frame [.subchannels, .buses] [] s t)
            ∧ (∀ j, (s.decoded n line errs).1 = .correctable j → t.out.head? = some (.dramLine n line (some (s.decoded n line errs).2))
              ∧ t.rd Reg.MEM_SC.CE n = min (s.rd Reg.MEM_SC.CE n + 1) (2 ^ Reg.MEM_SC.CE.w - 1)
              ∧ t.rd Reg.MEM_SC.LAST n = 64 * line % 2 ^ Reg.MEM_SC.LAST.w ∧ t.rd Reg.MEM_SC.DEVICE n = j % 2 ^ Reg.MEM_SC.DEVICE.w
              ∧ t.rd Reg.MEM_SC.UNCORR n = 0)
            ∧ ((s.decoded n line errs).1 = .uncorrectable → t.out.head? = some (.dramLine n line none)
              ∧ t.rd Reg.MEM_SC.UE n = min (s.rd Reg.MEM_SC.UE n + 1) (2 ^ Reg.MEM_SC.UE.w - 1) ∧ t.rd Reg.MEM_SC.UNCORR n = 1
              ∧ t.rd Reg.MEM_SC.DEVICE n = 0xF ∧ ((∃ e < 32, s.on Reg.MEM_REMAP.VALID (32 * n + e) = false) → t.poisoned n line = true)))
        ∧ Frame lineParts lineRegs s t)
    ∧ (∀ (mask : BitVec 64) (data : BitVec 512), s.lineServed n line = true →
      ((s.sc n).granuleUp (line / 16384) = false →
        ∃ t, exec (.partialLineWrite n line mask data errs) s = .next t ∧ line / 16384 ∈ (t.sc n).wanted
          ∧ (∀ m, (t.sc m).lines = (s.sc m).lines) ∧ Frame [.subchannels] [] s t)
      ∧ ((s.sc n).granuleUp (line / 16384) = true → mask = BitVec.allOnes 64 →
        ∃ t, exec (.partialLineWrite n line mask data errs) s = .next t ∧ Tbl.get 0 (t.sc n).lines line = data
          ∧ (∀ k, k ≠ line → Tbl.get 0 (t.sc n).lines k = Tbl.get 0 (s.sc n).lines k) ∧ t.poisoned n line = false
          ∧ (∀ m ∈ (t.sc n).merge, m.line ≠ line) ∧ Frame [.subchannels, .dram] [Reg.MEM_REMAP.POISON] s t)
      ∧ ((s.sc n).granuleUp (line / 16384) = true → mask ≠ BitVec.allOnes 64 →
        (∀ m, (s.sc n).merge.find? (fun m => m.line == line) = some m →
          ∃ t, exec (.partialLineWrite n line mask data errs) s = .next t
            ∧ Tbl.get 0 (t.sc n).lines line = (if m.blocked then Tbl.get 0 (s.sc n).lines line else mergeBytes m.data data mask)
            ∧ (∀ k, k ≠ line → Tbl.get 0 (t.sc n).lines k = Tbl.get 0 (s.sc n).lines k) ∧ Frame [.subchannels] [] s t)
        ∧ ((s.sc n).merge.find? (fun m => m.line == line) = none → 32 ≤ (s.sc n).merge.length →
          exec (.partialLineWrite n line mask data errs) s = .next s)
        ∧ (s.plainLine n line → (s.sc n).merge.length < 32 →
          ∃ t, exec (.partialLineWrite n line mask data errs) s = .next t
            ∧ Tbl.get 0 (t.sc n).lines line = (if (s.decoded n line errs).1 = .uncorrectable then Tbl.get 0 (s.sc n).lines line
                else mergeBytes (s.decoded n line errs).2 data mask)
            ∧ (∀ k, k ≠ line → Tbl.get 0 (t.sc n).lines k = Tbl.get 0 (s.sc n).lines k)
            ∧ (∃ m ∈ (t.sc n).merge, m.line = line ∧ m.mask = mask.toNat ∧ m.blocked = decide ((s.decoded n line errs).1 = .uncorrectable))
            ∧ Frame lineParts lineRegs s t)))

/-- R464, R465, R468, R470, R471: a request for 1 to 16 buffers is granted whole or waits; a buffer is shared and released by its handle; a free
buffer and a stale handle are refused. -/
def Obligations.BufferPool : Prop :=
  ∀ s : State,
    (∀ (o : Fin 8) (n : Nat),
      (s.sup.coreUp = false → exec (.bufferAllocate o n) s = .next s)
      ∧ (s.sup.coreUp = true →
        (n = 0 ∨ 16 < n →
          ∃ t, exec (.bufferAllocate o n) s = .next t
            ∧ (if n = 0 then t.rd Reg.BPM_EVT.ZERO_REQ = 1 else t.rd Reg.BPM_EVT.BAD_REQ = 1)
            ∧ t.events.head?.map (fun e => (e.source, e.code, e.detail)) = some (0x15, 0x0104, n % 32 + o.val * 32)
            ∧ t.out = .internalFault 0x15 :: s.out ∧ Frame [.log, .buses] [Reg.BPM_EVT.ZERO_REQ, Reg.BPM_EVT.BAD_REQ] s t)
        ∧ (1 ≤ n → n ≤ 16 → s.bufWaiting o = false → s.bufGrantable o n = true →
          ∃ t, exec (.bufferAllocate o n) s = .next t
            ∧ t.out = .buffers o ((s.freeBufs n).map (fun b => b + ((s.buf b).gen + 1) % 16 * 2 ^ 14)) :: s.out
            ∧ (∀ b ∈ s.freeBufs n, t.buf b = { owner := o, gen := ((s.buf b).gen + 1) % 16, refs := 1 })
            ∧ (∀ b, b ∉ s.freeBufs n → t.buf b = s.buf b) ∧ t.bufUsed o = (s.bufUsed o + n) % 2 ^ Reg.BPM_OWN.USED.w
            ∧ Frame [.pool, .buses, .log] [Reg.BPM_OWN.USED, Reg.BPM_OWN.PEAK, Reg.BPM_STATUS.FREE, Reg.BPM_STATUS.SHARED_FREE,
                Reg.BPM_STATUS.BACKPRESSURE, Reg.BPM_STATUS.CRITICAL] s t)
        ∧ (1 ≤ n → n ≤ 16 → s.bufWaiting o = true ∨ s.bufGrantable o n = false →
          ∃ t, exec (.bufferAllocate o n) s = .next t ∧ t.pool = { s.pool with queue := s.pool.queue ++ [(o.val, n)] }
            ∧ t.rd Reg.BPM_OWN.WAITING o = 1 ∧ Frame [.pool] [Reg.BPM_OWN.WAITING] s t)))
    ∧ ∀ (handle : BitVec 18) (n : Fin 63),
      let b := bitsOf handle.toNat 0 14
      let g := bitsOf handle.toNat 14 4
      let x := s.buf b
      (x.refs = 0 ∨ x.gen ≠ g → ∀ c ∈ [Instr.bufferShare handle n, .bufferRelease handle],
        ∃ t, exec c s = .next t ∧ t.pool = s.pool
          ∧ (if x.refs = 0 then t.rd Reg.BPM_EVT.DOUBLE_FREE = 1 else t.rd Reg.BPM_EVT.STALE = 1)
          ∧ t.rd Reg.BPM_CNT.FREE_FAULTS = min (s.rd Reg.BPM_CNT.FREE_FAULTS + 1) (2 ^ Reg.BPM_CNT.FREE_FAULTS.w - 1)
          ∧ t.events.head?.map (fun e => (e.source, e.code, e.detail)) = some (0x15, 0x0101, b + g * 2 ^ 14 + x.gen * 2 ^ 18 + x.owner * 2 ^ 22)
          ∧ Frame [.log, .buses] [Reg.BPM_EVT.DOUBLE_FREE, Reg.BPM_EVT.STALE, Reg.BPM_CNT.FREE_FAULTS] s t)
      ∧ (x.refs ≠ 0 → x.gen = g → x.refs + n ≤ 63 →
        ∃ t, exec (.bufferShare handle n) s = .next t ∧ t.buf b = { x with refs := x.refs + n } ∧ (∀ i, i ≠ b → t.buf i = s.buf i)
          ∧ Frame [.pool] [] s t)
      ∧ (x.refs ≠ 0 → x.gen = g → 63 < x.refs + n →
        ∃ t, exec (.bufferShare handle n) s = .next t ∧ t.rd Reg.BPM_EVT.REF_OVERFLOW = 1
          ∧ t.events.head?.map (fun e => (e.source, e.code, e.detail)) = some (0x15, 0x0105, b) ∧ Frame [.log] [Reg.BPM_EVT.REF_OVERFLOW] s t)
      ∧ (1 < x.refs → x.gen = g →
        ∃ t, exec (.bufferRelease handle) s = .next t ∧ t.buf b = { x with refs := x.refs - 1 } ∧ (∀ i, i ≠ b → t.buf i = s.buf i)
          ∧ Frame [.pool] [] s t)
      ∧ (x.refs = 1 → x.gen = g → x.owner < 8 → s.pool.queue = [] →
        ∃ t, exec (.bufferRelease handle) s = .next t ∧ t.buf b = { x with refs := 0 } ∧ (∀ i, i ≠ b → t.buf i = s.buf i)
          ∧ t.bufUsed x.owner = (s.bufUsed x.owner - 1) % 2 ^ Reg.BPM_OWN.USED.w
          ∧ Frame [.pool, .log] [Reg.BPM_OWN.USED, Reg.BPM_OWN.WAITING, Reg.BPM_STATUS.FREE, Reg.BPM_STATUS.SHARED_FREE,
              Reg.BPM_STATUS.BACKPRESSURE, Reg.BPM_STATUS.CRITICAL] s t)
      ∧ (x.refs = 1 → x.gen = g → ∃ t, exec (.bufferRelease handle) s = .next t ∧ Only [.pool, .buses, .log] s t)

/-- The fields that follow the entries of the engine's tables, with its operation count (R486, R487). -/
def Sys2Proof.engineRegs : List Fld :=
  [Reg.THI_OPS.COUNT, Reg.THI_TABLE.COUNT, Reg.THI_TABLE.FIRST, Reg.THI_STATUS.FREE_UNITS, Reg.THI_STATUS.COMPACTING, Reg.THI_CNT.NO_ROOM]

/-- R474, R476, R477, R478: what each operation of the engine returns and leaves in its table.
Where it rests on the model's own choices, they are those of log entry 71. -/
def Obligations.Engine : Prop :=
  ∀ (s : State) (tb : Fin 8), s.thiUp = true →
    (∀ (key : BitVec 160) (mask : BitVec 80) (start : Fin 32768) (f : Fin 4) (d : Int),
      (thiWinner (s.thiMatches tb key.toNat mask.toNat start) = none → ∀ c ∈ [Instr.thiSearch tb key mask start, .searchAdd tb key mask start f d],
        ∃ t, exec c s = .next t ∧ t.out = .lookup .miss :: s.out
          ∧ t.rd Reg.THI_OPS.COUNT = min (s.rd Reg.THI_OPS.COUNT + 1) (2 ^ 64 - 1) ∧ Frame [.buses] [Reg.THI_OPS.COUNT] s t)
      ∧ (∀ i e m, thiWinner (s.thiMatches tb key.toNat mask.toNat start) = some (i, e, m) →
        (∃ t, exec (.thiSearch tb key mask start) s = .next t ∧ t.out = .lookup (.hit i m e.data) :: s.out
          ∧ t.rd Reg.THI_CNT.MULTI_HITS = (if m then min (s.rd Reg.THI_CNT.MULTI_HITS + 1) 0xFFFF else s.rd Reg.THI_CNT.MULTI_HITS)
          ∧ Frame [.buses] [Reg.THI_OPS.COUNT, Reg.THI_CNT.MULTI_HITS] s t)
        ∧ (∃ t, exec (.searchAdd tb key mask start f d) s = .next t ∧ t.out = .lookup (.added i (thiAdd e.data f d).2) :: s.out
          ∧ t.thiEnt i = { e with data := (thiAdd e.data f d).1 } ∧ (∀ k, k ≠ i → t.thiEnt k = s.thiEnt k)
          ∧ Frame [.engine, .buses] [Reg.THI_OPS.COUNT, Reg.THI_CNT.MULTI_HITS] s t)))
    ∧ (∀ (key care : BitVec 160) (prio : Fin 16) (data : BitVec 64) (unique : Bool) (f : Fin 4) (add : Int),
      let same := (s.thiList tb).find? (fun e => e.2.value == key.toNat && (s.thiWidth tb == 1 || e.2.care == care.toNat) && e.2.prio == prio.val)
      let c := Instr.insertAny tb key care prio data unique f add
      (∀ i e, unique = true → same = some (i, e) →
        ∃ t, exec c s = .next t ∧ t.out = .lookup (.present i) :: s.out ∧ t.thiEnt i = { e with data := (thiAdd e.data f add).1 }
          ∧ (∀ k, k ≠ i → t.thiEnt k = s.thiEnt k) ∧ Frame [.engine, .buses] [Reg.THI_OPS.COUNT] s t)
      ∧ (∀ i l, unique = false ∨ same = none → s.thiFree tb = i :: l →
        ∃ t, exec c s = .next t ∧ t.out = .lookup (.inserted i) :: s.out
          ∧ t.thiEnt i = { valid := true, table := tb, prio := prio, value := key.toNat, care := if s.thiWidth tb = 1 then 0 else care.toNat,
                           data := data.toNat }
          ∧ (∀ k, k ≠ i → t.thiEnt k = s.thiEnt k) ∧ Frame [.engine, .buses, .log] engineRegs s t)
      ∧ (unique = false ∨ same = none → s.thiFree tb = [] →
        ∃ t, exec c s = .next t ∧ t.out = .lookup .full :: s.out ∧ t.rd Reg.THI_CNT.NO_ROOM = min (s.rd Reg.THI_CNT.NO_ROOM + 1) 0xFFFF
          ∧ t.events.head?.map (fun e => (e.source, e.code, e.detail)) = some (0x14, 0x0100, tb.val)
          ∧ Frame [.buses, .log] [Reg.THI_OPS.COUNT, Reg.THI_CNT.NO_ROOM] s t))
    ∧ (∀ (key care : BitVec 160) (prio : Fin 16) (data : BitVec 64) (before : Option (Fin 32768)),
      let e : ThiEnt := { valid := true, table := tb, prio := prio, value := key.toNat, care := care.toNat, data := data.toNat }
      let c := Instr.insertOrdered tb key care prio data before
      (∀ b, before = some b → (s.thiList tb).any (fun p => p.1 == b.val) = false →
        ∃ t, exec c s = .next t ∧ t.out = .lookup .badIndex :: s.out ∧ Frame [.buses] [Reg.THI_OPS.COUNT] s t)
      ∧ ∀ x, (before = none ∧ x = ((s.thiList tb).map (·.1)).headD (s.thiEnd tb))
            ∨ (∃ b ∈ before, (s.thiList tb).any (fun p => p.1 == b.val) = true ∧ x = b.val) →
        (∀ i, ((s.thiFree tb).filter (fun i => decide (i < x))).getLast? = some i →
          ∃ t, exec c s = .next t ∧ t.out = .lookup (.inserted i) :: s.out ∧ t.thiEnt i = e ∧ (∀ k, k ≠ i → t.thiEnt k = s.thiEnt k)
            ∧ Frame [.engine, .buses, .log] engineRegs s t)
        ∧ ((s.thiFree tb).filter (fun i => decide (i < x)) = [] →
          (∀ hole l, (s.thiFree tb).filter (fun i => decide (x < i)) = hole :: l →
            (15 < (hole - x) / s.thiWidth tb →
              ∃ t, exec c s = .next t ∧ t.out = .lookup .noRoomNear :: s.out ∧ t.thi = s.thi
                ∧ t.rd Reg.THI_CNT.NO_ROOM = min (s.rd Reg.THI_CNT.NO_ROOM + 1) 0xFFFF ∧ Frame [.buses, .log] engineRegs s t)
            ∧ ((hole - x) / s.thiWidth tb ≤ 15 →
              ∃ t, exec c s = .next t ∧ t.out = .lookup (.inserted x) :: s.out ∧ t.thiEnt x = e
                ∧ (∀ k, k + s.thiWidth tb ≤ x ∨ hole < k → t.thiEnt k = s.thiEnt k)
                ∧ (s.thiWidth tb ∣ hole - x → ∀ m < (hole - x) / s.thiWidth tb,
                    t.thiEnt (x + (m + 1) * s.thiWidth tb) = s.thiEnt (x + m * s.thiWidth tb))
                ∧ Frame [.engine, .buses, .log] engineRegs s t))
          ∧ ((s.thiFree tb).filter (fun i => decide (x < i)) = [] →
            ∃ t, exec c s = .next t ∧ t.out = .lookup .full :: s.out ∧ Frame [.buses, .log] engineRegs s t)))
    ∧ (∀ i : Fin 32768, (s.thiHas tb i = true →
        (∃ t, exec (.thiDelete tb i) s = .next t ∧ t.out = .lookup (.done i) :: s.out ∧ t.thiEnt i = { s.thiEnt i with valid := false }
          ∧ (∀ k, k ≠ i.val → t.thiEnt k = s.thiEnt k) ∧ Frame [.engine, .buses, .log] engineRegs s t)
        ∧ (∀ data mask : BitVec 64, ∃ t, exec (.writeData tb i data mask) s = .next t ∧ t.out = .lookup (.done i) :: s.out
          ∧ (∀ b, (t.thiEnt i).data.testBit b = (if mask.getLsbD b then data.getLsbD b else (s.thiEnt i).data.testBit b))
          ∧ (∀ k, k ≠ i.val → t.thiEnt k = s.thiEnt k) ∧ Frame [.engine, .buses] [Reg.THI_OPS.COUNT] s t))
      ∧ (s.thiHas tb i = false → ∀ (data mask : BitVec 64), ∀ c ∈ [Instr.thiDelete tb i, .writeData tb i data mask],
        ∃ t, exec c s = .next t ∧ t.out = .lookup .badIndex :: s.out ∧ Frame [.buses] [Reg.THI_OPS.COUNT] s t)
      ∧ (∃ t, exec (.thiRead i) s = .next t ∧ Frame [.buses] [Reg.THI_OPS.COUNT] s t
          ∧ t.out = .lookup (if (s.thiEnt i).valid then .entry i (s.rd Reg.THI_TABLE.WIDTH (s.thiEnt i).table) (s.thiEnt i).table (s.thiEnt i).prio
              (s.thiEnt i).value (s.thiEnt i).care (s.thiEnt i).data else .badIndex) :: s.out))
    ∧ (∀ (key : BitVec 160) (mask : BitVec 80),
      ∃ t, exec (.deleteMatch tb key mask) s = .next t ∧ t.out = .lookup (.deleted (s.thiMatches tb key.toNat mask.toNat 0).length) :: s.out
        ∧ (∀ e ∈ s.thiMatches tb key.toNat mask.toNat 0, (t.thiEnt e.1).valid = false)
        ∧ (∀ k, (∀ e ∈ s.thiMatches tb key.toNat mask.toNat 0, e.1 ≠ k) → t.thiEnt k = s.thiEnt k)
        ∧ Frame [.engine, .buses, .log] engineRegs s t)
    ∧ (s.thiCompacts tb = false → exec (.compactionStep tb) s = .next s)
    ∧ (∀ hole i e, s.thiCompacts tb = true → s.thiHole tb = some hole → (s.thiList tb).find? (fun e => decide (hole < e.1)) = some (i, e) →
      ∃ t, exec (.compactionStep tb) s = .next t ∧ t.thiEnt hole = e ∧ t.thiEnt i = {} ∧ (∀ k, k ≠ hole → k ≠ i → t.thiEnt k = s.thiEnt k)
        ∧ Frame [.engine, .log] engineRegs s t)

/-! ### The peer group (R379 to R390, R392, R401 to R421) -/

/-- The peer and the header of a command that carries a session message. -/
def Sys2Proof.carried : Instr → Option (Fin 24 × Hdr)
  | .padMessage j h | .heartbeat j h .. | .viewPropose j h _ | .viewAck j h .. | .viewCommit j h _ | .leaveRequest j h
  | .stripeOpen j h .. | .contrib j h .. | .contribAck j h .. | .rangeNote j h .. | .segClose j h .. | .stripeState j h ..
  | .rebuildPlan j h .. | .chunkDone j h .. | .checkpoint j h .. | .ledgerSync j h .. | .outerRead j h ..
  | .patrolRequest j h .. | .patrolReply j h .. => some (j, h)
  | _ => none

/-- The device accepts a session message of a member and the state is this one once its header is taken. -/
def Sys2Proof.Machine.State.Accepts (s : State) (j : Fin 24) (h : Hdr) (u : State) : Prop := s.take j h = some u ∧ tookOk u j = true

/-- The fields a change of a session reaches. -/
def Sys2Proof.sessionRegs : List Fld := [Reg.GLI_PEER.SESSION, Reg.GLI_LINKED.MASK]

/-- The fields a stripe's change of state reaches. -/
def Sys2Proof.stripeRegs : List Fld :=
  [Reg.GLI_STRIPE_CNT.OPEN, Reg.GLI_STRIPE_CNT.DEGRADED, Reg.GLI_STRIPE_LOST.COUNT, Reg.THI_STATUS.FREE_UNITS, Reg.THI_STATUS.COMPACTING,
   Reg.THI_TABLE.COUNT, Reg.THI_TABLE.FIRST, Reg.THI_OPS.COUNT, Reg.THI_CNT.NO_ROOM]

/-- The parts a stripe's change of state reaches. -/
def Sys2Proof.stripeParts : List Part := [.group, .buses, .log, .ftl, .engine]

/-- The parts and fields that installing a view reaches. -/
def Sys2Proof.viewParts : List Part := stripeParts ++ [.health, .lostStripes] ++ asyncParts
/-- The register fields that installing a view reaches. -/
def Sys2Proof.viewRegs : List Fld :=
  stripeRegs ++ [Reg.GLI_VIEW.VIEW, Reg.GLI_MEMBERS.MASK, Reg.GLI_ROLES.STEWARD, Reg.GLI_ROLES.DEPUTY, Reg.GLI_CNT.VIEWS, Reg.GLI_PEER.IN_VIEW,
    Reg.GLI_STATUS.STATE, Reg.GLI_STATUS.STEWARD, Reg.GLI_STATUS.DEPUTY, Reg.GLI_REBUILD.PLANNING, Reg.GLI_REBUILD.TARGET, Reg.HIF_ASYNC.PEND]

/-- R384: a session message is taken in order: the next SEQ, the session's EPOCH and a tag that verifies; anything else drops the session,
and a device without the session takes no notice.
Where it rests on the model's own choices, they are those of log entries 72 and 73. -/
def Obligations.SessionMessages : Prop :=
  ∀ (s : State) (c : Instr) (j : Fin 24) (h : Hdr), carried c = some (j, h) →
    ((s.groupUp && (s.peer j).listed && s.linked j) = false → exec c s = .next s)
    ∧ (s.groupUp = true → (s.peer j).listed = true → s.linked j = true →
      (h.tagOk = false ∨ h.epoch ≠ s.rd Reg.GLI_PEER.EPOCH j →
        ∃ t, exec c s = .next t ∧ t.session j = 0 ∧ (t.peer j).key = none
          ∧ t.events.head?.map (fun e => (e.source, e.code, e.detail)) = some (0x30, 0x0104, j.val + 64) ∧ Frame [.group, .log] sessionRegs s t)
      ∧ (h.tagOk = true → h.epoch = s.rd Reg.GLI_PEER.EPOCH j → h.seq ≠ (s.peer j).recvSeq →
        ∃ t, exec c s = .next t ∧ t.session j = 0 ∧ (t.peer j).key = none
          ∧ t.events.head?.map (fun e => (e.source, e.code, e.detail)) = some (0x30, 0x0104, j.val + 32) ∧ Frame [.group, .log] sessionRegs s t)
      ∧ (h.tagOk = true → h.epoch = s.rd Reg.GLI_PEER.EPOCH j → h.seq = (s.peer j).recvSeq →
        (∃ t, exec (.padMessage j h) s = .next t ∧ (t.peer j).pos = 0x1000 ∧ (t.peer j).recvSeq = (s.peer j).recvSeq + 1
          ∧ Frame [.group, .buses] [] s t)
        ∧ ∃ u, s.Accepts j h u ∧ (u.peer j).recvSeq = (s.peer j).recvSeq + 1 ∧ Frame [.group, .buses] [] s u))

/-- R381, R383, R392: beacons go to every listed peer without a session and move a peer's address; the handshake runs HELLO, CHALLENGE, CONFIRM,
fails on a bad tag or after 1,000 frames, and is tried again; both sides are then Linked under the next EPOCH. -/
def Obligations.Handshake : Prop :=
  ∀ (s : State) (j : Fin 24), s.groupUp = true →
    (∃ t, exec .beaconSend s = .next t ∧ Frame [.group, .keys, .buses] [] s t
      ∧ ∀ i ∈ s.listed, i ≠ s.own → s.linked i = false →
          ((s.peer i).beaconAt = 0 ∨ (s.peer i).beaconAt + (if s.gstate = 1 then s.rd Reg.GLI_CFG.BEACON_INT else 100000) ≤ s.frame) →
          (t.peer i).beaconAt = s.frame ∧ ∃ ctr, s.sec.groupCtr ≤ ctr ∧ ctr < t.sec.groupCtr
            ∧ .peer i 0x100 [s.rd Reg.GLI_STATUS.GROUP, s.own, bit (s.gstate == 2) + 2 * bit s.leads, s.group.incarnation,
                (s.peer s.own).base, (s.peer s.own).reqId, (s.peer s.own).log2, s.viewNo, ctr] ∈ t.out)
    ∧ (∀ b : Beacon, s.beaconOk j b = true →
      ∃ t, exec (.beaconReceived j b) s = .next t ∧ (t.peer j).seenInc = b.incarnation ∧ (t.peer j).seenCtr = b.ctr + 1
        ∧ (t.peer j).base = b.base ∧ (t.peer j).reqId = b.reqId ∧ (t.peer j).log2 = b.log2
        ∧ t.rd Reg.GLI_PEER.INCARNATION j = b.incarnation % 2 ^ Reg.GLI_PEER.INCARNATION.w
        ∧ ((s.peer j).base ≠ b.base ∨ (s.peer j).reqId ≠ b.reqId ∨ (s.peer j).log2 ≠ b.log2 →
            t.session j ≠ 2 ∧ t.events.head?.map (fun e => (e.source, e.code, e.detail)) = some (0x30, 0x0106, j.val))
        ∧ Frame [.group, .windows, .buses, .log, .freeValues, .keys] (sessionRegs ++ [Reg.GLI_PEER.INCARNATION, Reg.GLI_PEER.REQ_ID,
            Reg.WIN_EPOCH.EPOCH, Reg.WIN_EPOCH.BUSY, Reg.WIN_ENT_BASE.BASE, Reg.WIN_ENT_LIMIT.LIMIT, Reg.WIN_ENT_CTRL.RD_EN, Reg.WIN_ENT_CTRL.WR_EN,
            Reg.WIN_ENT_CTRL.RID, Reg.WIN_ENT_CTRL.RID_CHK, Reg.WIN_ENT_CTRL.TARGET, Reg.WIN_ENT_CTRL.PENDING]) s t)
    ∧ (∀ b : Beacon, s.beaconOk j b = false → exec (.beaconReceived j b) s = .next s)
    ∧ (∀ na inc : Nat, exec (.hello j na inc false) s = .next s
      ∧ ((s.peer j).listed = true → s.initiates j = false → j.val ≠ s.own → s.session j = 0 →
        ∃ t, exec (.hello j na inc true) s = .next t ∧ t.session j = 1 ∧ (t.peer j).theirs = na ∧ (t.peer j).greetAt = s.frame
          ∧ t.rd Reg.GLI_PEER.INCARNATION j = inc % 2 ^ Reg.GLI_PEER.INCARNATION.w
          ∧ t.out = .peer j 0x03 [(t.peer j).mine, na, s.group.incarnation, s.sec.groupCtr] :: s.out
          ∧ t.sec.groupCtr = s.sec.groupCtr + 1
          ∧ Frame [.group, .freeValues, .keys, .buses] (sessionRegs ++ [Reg.GLI_PEER.INCARNATION]) s t))
    ∧ (∀ (nb echo inc : Nat) (c : Instr), s.session j = 1 →
      (s.initiates j = true ∧ c = .challenge j nb echo inc false) ∨ (s.initiates j = false ∧ c = .confirm j echo false)
        ∨ ((s.peer j).greetAt + 1000 ≤ s.frame ∧ c = .handshakeTimeout j) →
      ∃ t, exec c s = .next t ∧ t.session j = 0 ∧ (t.peer j).retryAt = s.frame + 1000
        ∧ t.rd Reg.GLI_CNT.AUTH_FAIL = min (s.rd Reg.GLI_CNT.AUTH_FAIL + 1) (2 ^ Reg.GLI_CNT.AUTH_FAIL.w - 1)
        ∧ t.events.head?.map (fun e => (e.source, e.code, e.detail)) = some (0x30, 0x0102, j.val)
        ∧ Frame [.group, .log] (sessionRegs ++ [Reg.GLI_CNT.AUTH_FAIL]) s t)
    ∧ (∀ (nb echo inc : Nat) (c : Instr), s.session j = 1 →
      (s.initiates j = true ∧ c = .challenge j nb echo inc true) ∨ (s.initiates j = false ∧ c = .confirm j echo true) →
      (echo ≠ (s.peer j).mine → exec c s = .next s)
      ∧ (echo = (s.peer j).mine →
        ∃ t, exec c s = .next t ∧ t.session j = 2 ∧ (t.rd Reg.GLI_LINKED.MASK).testBit j = true
          ∧ t.rd Reg.GLI_PEER.EPOCH j = (s.rd Reg.GLI_PEER.EPOCH j + 1) % 2 ^ Reg.GLI_PEER.EPOCH.w
          ∧ (t.peer j).sendSeq = 1 ∧ (t.peer j).recvSeq = 1 ∧ (t.peer j).pos = 0x1000 ∧ (t.peer j).heardAt = s.frame ∧ (t.peer j).key ≠ none
          ∧ (s.initiates j = true → .peer j 0x04 [nb, s.sec.groupCtr] ∈ t.out)
          ∧ Frame ([.group, .keys, .log] ++ asyncParts) (sessionRegs ++ [Reg.GLI_PEER.EPOCH, Reg.GLI_PEER.INCARNATION, Reg.GLI_PEER.MISSED,
              Reg.GLI_STATUS.STATE, Reg.HIF_ASYNC.PEND]) s t))
    ∧ ((s.peer j).listed = true → s.session j = 0 → s.initiates j = true → (s.peer j).retryAt ≤ s.frame →
      ∃ t, exec (.handshakeRetry j) s = .next t ∧ t.session j = 1 ∧ (t.peer j).greetAt = s.frame
        ∧ t.out = .peer j 0x02 [(t.peer j).mine, s.group.incarnation, s.sec.groupCtr] :: s.out
        ∧ Frame [.group, .freeValues, .keys, .buses] sessionRegs s t)

/-- R379, R380, R383, R385 to R390: heartbeats, absence, proposals and their acknowledgements, installed views, leases and isolation.
Where it rests on the model's own choices, they are those of log entry 73. -/
def Obligations.Views : Prop :=
  ∀ s : State,
    (s.groupUp = true → s.group.lastSent + 100 ≤ s.frame →
      ∃ t, exec .heartbeatSend s = .next t ∧ t.group.lastSent = s.frame
        ∧ (s.viewNo ≠ 0 → s.inView = true → s.steward = s.own → t.group.hb = s.group.hb + 1)
        ∧ (∀ i ∈ s.listed, s.linked i = true →
            t.rd Reg.GLI_PEER.MISSED i = min 255 ((s.frame - (s.peer i).heardAt) / 100)
            ∧ .peer i 0x05 [(s.peer i).sendSeq, s.viewNo, (s.peer i).recvSeq - 1, s.rd Reg.GLI_PEER.EPOCH i,
                if s.viewNo ≠ 0 ∧ s.inView = true ∧ s.steward = s.own then s.group.hb + 1 else s.group.heard,
                s.group.incarnation, s.gstate] ∈ t.out)
        ∧ Frame stripeParts (stripeRegs ++ [Reg.GLI_PEER.MISSED, Reg.GLI_REBUILD.PLANNING, Reg.GLI_REBUILD.TARGET]) s t)
    ∧ (∀ (j : Fin 24) (h : Hdr) (u : State) (sw inc st : Nat) (v : View), s.Accepts j h u →
      (inc ≠ s.rd Reg.GLI_PEER.INCARNATION j →
        ∃ t, exec (.heartbeat j h sw inc st v) s = .next t ∧ t.session j = 0
          ∧ t.events.head?.map (fun e => (e.source, e.code, e.detail)) = some (0x30, 0x0104, j.val + 96))
      ∧ (inc = s.rd Reg.GLI_PEER.INCARNATION j →
        ∃ t, exec (.heartbeat j h sw inc st v) s = .next t ∧ (t.peer j).heardAt = s.frame ∧ t.rd Reg.GLI_PEER.MISSED j = 0
          ∧ (s.viewNo < h.view → v.number = h.view → t.viewNo = h.view % 2 ^ Reg.GLI_VIEW.VIEW.w)
          ∧ (st = 4 → (t.peer j).leaving = true)
          ∧ Frame viewParts (viewRegs ++ [Reg.GLI_PEER.MISSED]) s t))
    ∧ (∀ j : Fin 24, s.groupUp = true → s.linked j = true → (s.peer j).heardAt + 2000 ≤ s.frame →
      ∃ t, exec (.peerAbsent j) s = .next t ∧ t.session j = 3 ∧ (t.peer j).key = none ∧ (t.peer j).goneAt = s.frame
        ∧ t.events.head?.map (fun e => (e.source, e.code, e.detail)) = some (0x30, 0x0101, j.val)
        ∧ Frame [.group, .buses, .log, .ftl] sessionRegs s t)
    ∧ (∀ (j : Fin 24) (h : Hdr) (u : State) (v : View), s.Accepts j h u → v.number = s.viewNo + 1 →
      (∀ a, s.group.acked = some a → a.number = v.number → a.round < v.round) →
      (s.viewNo ≠ 0 → s.frame < s.group.grant → v.steward = s.steward) →
      ∃ t, exec (.viewPropose j h v) s = .next t ∧ t.group.acked = some v ∧ t.group.ackDue.map (·.1) = some j.val
        ∧ .admin .view 0 ∈ t.ftl.journal.collecting ∧ Frame [.group, .buses, .ftl] [] s t)
    ∧ (∀ (j : Fin 24) (h : Hdr) (u : State) (v : View), s.Accepts j h u → v.number ≠ s.viewNo + 1
        ∨ (∃ a, s.group.acked = some a ∧ a.number = v.number ∧ v.round ≤ a.round)
        ∨ (s.viewNo ≠ 0 ∧ s.frame < s.group.grant ∧ v.steward ≠ s.steward) →
      exec (.viewPropose j h v) s = .next u)
    ∧ (∀ (j : Fin 24) (h : Hdr) (u : State) (v p : View) (e : Option View), s.Accepts j h u → s.group.prop = some p → p.number = v.number →
      p.round = v.round →
      ∃ t, exec (.viewAck j h v e) s = .next t ∧ Frame [.group, .buses, .ftl] [] s t
        ∧ (e = none → s.group.earlier = none → t.group.acks = setBit s.group.acks j
            ∧ (majority s.electors (setBit s.group.acks j) = true → t.group.winning = true))
        ∧ (∀ w, e = some w → s.group.earlier = none → s.group.winning = false → sameView w p = false →
            t.group.prop = some { p with round := s.nextRound, members := w.members, steward := w.steward, deputy := w.deputy }))
    ∧ (∀ (j : Fin 24) (h : Hdr) (u : State) (v : View), s.Accepts j h u →
      (v.number ≤ s.viewNo → exec (.viewCommit j h v) s = .next u)
      ∧ (s.viewNo < v.number →
        ∃ t, exec (.viewCommit j h v) s = .next t ∧ t.viewNo = v.number % 2 ^ Reg.GLI_VIEW.VIEW.w
          ∧ t.viewMask = v.members % 2 ^ Reg.GLI_MEMBERS.MASK.w ∧ t.steward = v.steward % 2 ^ Reg.GLI_ROLES.STEWARD.w
          ∧ t.rd Reg.GLI_ROLES.DEPUTY = v.deputy % 2 ^ Reg.GLI_ROLES.DEPUTY.w
          ∧ (∀ i < 24, t.rd Reg.GLI_PEER.IN_VIEW i = bit (v.members.testBit i))
          ∧ t.rd Reg.GLI_CNT.VIEWS = min (s.rd Reg.GLI_CNT.VIEWS + 1) (2 ^ Reg.GLI_CNT.VIEWS.w - 1)
          ∧ t.group.prop = none ∧ s.eventTotal < t.eventTotal ∧ Frame viewParts viewRegs s t))
    ∧ (∀ (j : Fin 24) (h : Hdr) (u : State), s.Accepts j h u →
      ∃ t, exec (.leaveRequest j h) s = .next t ∧ (t.peer j).leaving = true ∧ Frame stripeParts stripeRegs s t)
    ∧ (s.groupUp = true → s.gstate = 2 → s.viewNo ≠ 0 → s.steward ≠ s.own → s.group.grant ≤ s.frame → s.group.prop = none →
      s.proposerRank * 3000 ≤ s.frame - s.group.grant →
      ∃ t, exec .grantExpiry s = .next t
        ∧ t.group.prop.map (fun v => (v.number, v.members, v.steward)) = some (s.viewNo + 1,
            if s.session s.steward = 3 then clearBit s.viewMask s.steward else s.viewMask, s.own)
        ∧ t.group.propAt = s.frame ∧ Frame [.group, .buses, .ftl] [] s t)
    ∧ (∀ v, s.group.prop = some v → s.groupUp = true → s.group.winning = false → s.group.propAt + 1000 ≤ s.frame →
      ∃ t, exec .proposalRetry s = .next t ∧ t.group.prop = some { v with round := s.nextRound } ∧ t.group.fails = s.group.fails + 1
        ∧ t.group.propAt = s.frame ∧ Frame [.group, .buses, .ftl] [] s t)
    ∧ (s.groupUp = true → s.on Reg.GLI_STATUS.STEWARD = true → s.group.lease ≤ s.frame →
      ∃ t, exec .stewardLeaseExpiry s = .next t ∧ t.leads = false ∧ t.rd Reg.GLI_STATUS.STEWARD = 0 ∧ t.rd Reg.GLI_REBUILD.PLANNING = 0
        ∧ t.group = { s.group with prop := none, acks := 0, winning := false }
        ∧ Frame [.group] [Reg.GLI_STATUS.STEWARD, Reg.GLI_REBUILD.PLANNING] s t)
    ∧ (s.groupUp = true → s.gstate = 2 → s.hearsMajority = false →
      ∃ t, exec .isolationTimeout s = .next t ∧ t.gstate = 3
        ∧ t.events.head?.map (fun e => (e.source, e.code, e.detail)) = some (0x30, 0x0105, s.hears.length)
        ∧ Frame [.log] [Reg.GLI_STATUS.STATE] s t)

/-- R397, R401 to R405, R408 to R413: stripes open, take contributions, acknowledge them, close and change their state.
Where it rests on the model's own choices, they are those of log entries 72 and 74. -/
def Obligations.Stripes : Prop :=
  ∀ s : State,
    (∀ n, s.groupUp = true → s.leads = true → s.gstate = 2 → s.nextNumber = some n →
      (maskMembers s.viewMask).any (fun j => decide (s.openSegments j < s.rd Reg.GLI_STRIPE_CFG.AHEAD)) = true →
      ∃ t, exec .stripeOpenIssue s = .next t ∧ t.group.nextStripe = n + 1
        ∧ (∀ i ∈ [s.memberAt n, s.memberAt (n + 1)], i ≠ s.own → s.linked i = true →
            ∃ h k v, .peer i 0x10 (h ++ [n, k, s.memberAt n, s.memberAt (n + 1), v, s.viewNo]) ∈ t.out)
        ∧ Frame stripeParts stripeRegs s t)
    ∧ (∀ (stripe : Nat) (p : PStripe) (m : Nat), s.pstripe stripe = some p → s.slotOfMember p s.own = some m → s.groupUp = true →
      p.st = .opened → p.closed.testBit m = false → p.openedAt + 100 * s.rd Reg.GLI_STRIPE_CFG.SEAL_WAIT ≤ s.frame →
      ∃ t, exec (.sealWaitExpiry stripe) s = .next t
        ∧ t.pstripe stripe = some
            { p with closed := setBit p.closed m, st := if p.slots.all (fun i => (setBit p.closed m).testBit i) = true then .sealed else .opened }
        ∧ Frame stripeParts stripeRegs s t)
    ∧ ∀ (j : Fin 24) (h : Hdr) (u : State) (stripe : Nat), s.Accepts j h u →
      (∀ k p q vacant view i : Nat, s.gstate ≠ 4 → u.pstripe stripe = none →
        let x : PStripe := { num := stripe, k := k, p := p, q := q, vacant := vacant, view := view, openedAt := s.frame }
        ((u.roleBit x u.own).isSome || u.leads) = true → (u.thiInsertAny 3 stripe 0 0 0 false 0 0).1 = .inserted i →
        ∃ t, exec (.stripeOpen j h stripe k p q vacant view) s = .next t ∧ t.pstripe stripe = some x ∧ (t.thiEnt i).value = stripe
          ∧ Frame stripeParts stripeRegs s t)
      ∧ (∀ (p : PStripe) (slot granules : Nat), u.pstripe stripe = some p → u.slotMember p slot = j → p.slots.contains slot = true →
        ∃ t, exec (.segClose j h stripe slot granules) s = .next t
          ∧ t.pstripe stripe = some
            { p with closed := setBit p.closed slot, st := if p.st = .opened ∧ p.slots.all (fun i => (setBit p.closed slot).testBit i) = true then .sealed else p.st }
          ∧ (u.isParity p = true → .ledger 0x43 stripe slot granules ∈ t.ftl.journal.collecting) ∧ Frame stripeParts stripeRegs s t)
      ∧ (∀ (slot plan : Nat) (es : List Entry), u.pstripe stripe = none →
        ∃ t, exec (.contrib j h stripe slot 0 plan es) s = .next t ∧ t.group.stripes = u.group.stripes
          ∧ t.events.head?.map (fun e => (e.source, e.code, e.detail)) = some (0x30, 0x0114, 1 + j.val * 256)
          ∧ Frame [.group, .buses, .log] [] s t)
      ∧ (∀ (p p1 : PStripe) (slot plan : Nat) (es : List Entry), u.pstripe stripe = some p → u.isParity p = true → u.slotMember p slot = j →
        p.slots.contains slot = true → p.st = .opened → p.closed.testBit slot = false → u.applyEntries j slot false false es p = .inl p1 →
        ∃ t, exec (.contrib j h stripe slot 0 plan es) s = .next t ∧ t.pstripe stripe = some p1
          ∧ (j.val, stripe, h.seq, if p.p = s.own then 0 else 1) ∈ t.group.owedNext
          ∧ (∀ e ∈ es, .ledger 0x41 stripe (e.off + slot * 2 ^ 16) e.dg.toNat ∈ t.ftl.journal.collecting)
          ∧ Frame [.group, .buses, .ftl] [Reg.GLI_STRIPE_CNT.OPEN, Reg.GLI_STRIPE_CNT.DEGRADED] s t)
      ∧ (∀ (p : PStripe) (st slot plan : Nat) (es : List Entry), u.pstripe stripe = some p → u.isParity p = true → u.slotMember p slot = j →
        p.slots.contains slot = true → p.st = .opened → p.closed.testBit slot = false → u.applyEntries j slot false false es p = .inr st →
        ∃ t, exec (.contrib j h stripe slot 0 plan es) s = .next t ∧ t.group.stripes = u.group.stripes
          ∧ t.events.head?.map (fun e => (e.source, e.code, e.detail)) = some (0x30, 0x0114, st + j.val * 256)
          ∧ (∃ l, t.out = .peer j 0x12 (l ++ [stripe, h.seq, if p.p = s.own then 0 else 1, st]) :: u.out)
          ∧ Frame [.group, .buses, .log] [] s t)
      ∧ (∀ (cseq role : Nat) (p : PStripe) (m : Sent), u.group.sent.find? (fun m => m.peer == j.val && m.seq == cseq && m.stripe == stripe) = some m →
        m.osn = 0 → u.pstripe stripe = some p → role < 2 → m.withdraw = false →
        ∃ t, exec (.contribAck j h stripe cseq role 0) s = .next t ∧ m ∉ t.group.sent
          ∧ (t.pstripe stripe).map (·.grans) = some (p.grans.map (fun g =>
              if m.offs.contains g.off then (if role = 1 then { g with ackQ := true } else { g with ackP := true }) else g))
          ∧ Frame [.group, .buses, .ftl] [Reg.GLI_STRIPE_CNT.OPEN, Reg.GLI_STRIPE_CNT.DEGRADED] s t)
      ∧ (∀ (cseq role status : Nat), u.group.sent.find? (fun m => m.peer == j.val && m.seq == cseq && m.stripe == stripe) = none →
        exec (.contribAck j h stripe cseq role status) s = .next u)
      ∧ (∀ (p : PStripe) (m slba nblk osn : Nat) (zeroes : Bool), u.pstripe stripe = some p → u.slotOfMember p j = some m → u.isParity p = true →
        ∃ t, exec (.rangeNote j h stripe slba nblk zeroes (s.rd Reg.GLI_PEER.INCARNATION j) osn) s = .next t
          ∧ t.pstripe stripe = some { p with notes := p.notes ++ [(m, slba, nblk, osn)] }
          ∧ .ledger 0x42 stripe (slba + m * 2 ^ 48) (nblk + bit zeroes * 2 ^ 32) ∈ t.ftl.journal.collecting
          ∧ (j.val, stripe, h.seq, if p.p = s.own then 0 else 1) ∈ t.group.owedNext
          ∧ Frame [.group, .buses, .ftl] [Reg.GLI_STRIPE_CNT.OPEN, Reg.GLI_STRIPE_CNT.DEGRADED] s t)
      ∧ (∀ (p : PStripe) (state erased : Nat), u.pstripe stripe = some p → state < 7 → p.st.code ≠ state ∨ p.erased ≠ erased →
        ∃ t, exec (.stripeState j h stripe state erased) s = .next t
          ∧ (t.pstripe stripe).map (fun x => (x.st, x.erased)) = some (stripeStOf state, erased) ∧ Frame stripeParts stripeRegs s t)
      ∧ (∀ (p : PStripe) (state erased : Nat), u.pstripe stripe = some p → 7 ≤ state ∨ (p.st.code = state ∧ p.erased = erased) →
        exec (.stripeState j h stripe state erased) s = .next u)

/-- R332, R333, R411, R412, R415, R416, R419 to R421: plans, chunks and checkpoints of a rebuild, reconciliation, outer reads and outer patrol.
Where it rests on the model's own choices, they are those of log entry 74. -/
def Obligations.Rebuilds : Prop :=
  ∀ s : State,
    (s.groupUp = true → s.leads = true → s.group.ckptAt + 1000 ≤ s.frame →
      ∃ t, exec .checkpointTimer s = .next t ∧ Frame [.group, .buses, .ftl] [] s t
        ∧ ∀ p ∈ s.group.stripes, p.st = .rebuilding → .ledger 0x46 p.num (p.plan + p.next * 2 ^ 32) p.erased ∈ t.ftl.journal.collecting)
    ∧ (s.serving = true →
      ∃ t, exec .patrolReplyTimeout s = .next t ∧ (∀ w, w ∈ t.patrol.waits ↔ w ∈ s.patrol.waits ∧ s.frame < w.deadline)
        ∧ Frame [.patrol] [] s t)
    ∧ ∀ (j : Fin 24) (h : Hdr) (u : State) (stripe : Nat), s.Accepts j h u →
      (∀ (p : PStripe) (plan erased first : Nat), u.pstripe stripe = some p → s.steward = j →
        (plan ≤ p.plan → exec (.rebuildPlan j h plan s.viewNo stripe erased first) s = .next u)
        ∧ (p.plan < plan →
          ∃ t, exec (.rebuildPlan j h plan s.viewNo stripe erased first) s = .next t
            ∧ (t.pstripe stripe).map (fun x => (x.plan, x.erased, x.next, x.st)) = some (plan, erased, first, .rebuilding)
            ∧ Frame stripeParts (stripeRegs ++ [Reg.GLI_REBUILD.TARGET]) s t))
      ∧ (∀ (plan view erased first : Nat), view ≠ s.viewNo ∨ s.steward ≠ j → exec (.rebuildPlan j h plan view stripe erased first) s = .next u)
      ∧ (∀ (p : PStripe) (chunk status unsolved : Nat), u.pstripe stripe = some p → s.leads = true → p.st = .rebuilding → chunk < 1024 →
        ∃ t, exec (.chunkDone j h p.plan stripe chunk status unsolved) s = .next t
          ∧ (unsolved ≠ 0 ∨ status = 1 → (t.pstripe stripe).map (·.st) = some .lost)
          ∧ (unsolved = 0 → status ≠ 1 → (∃ c < 1024, c ≠ chunk ∧ p.done.testBit c = false) →
              (t.pstripe stripe).map (fun x => (x.st, x.done)) = some (.rebuilding, setBit p.done chunk))
          ∧ (unsolved = 0 → status ≠ 1 → (∀ c < 1024, c ≠ chunk → p.done.testBit c = true) →
              (t.pstripe stripe).map (·.erased) = some 0 ∧ ((t.pstripe stripe).map (·.st) = some .sealed
                ∨ (t.pstripe stripe).map (·.st) = some .thinning))
          ∧ Frame stripeParts (stripeRegs ++ [Reg.GLI_REBUILD.PLANNING]) s t)
      ∧ (∀ (plan next erased : Nat),
        (s.steward ≠ j → exec (.checkpoint j h plan stripe next erased) s = .next u)
        ∧ (s.steward = j →
          ∃ t, exec (.checkpoint j h plan stripe next erased) s = .next t
            ∧ .ledger 0x46 stripe (plan + next * 2 ^ 32) erased ∈ t.ftl.journal.collecting
            ∧ (∀ p, u.pstripe stripe = some p → t.pstripe stripe = some { p with plan := max p.plan plan, next := next, erased := erased })
            ∧ Frame [.group, .buses, .ftl] [Reg.GLI_STRIPE_CNT.OPEN, Reg.GLI_STRIPE_CNT.DEGRADED] s t))
      ∧ (∀ (slot first : Nat) (states : List Nat),
        (u.pstripe stripe = none →
          ∃ t l, exec (.ledgerSync j h stripe slot first states) s = .next t ∧ t.out = .peer j 0x19 (l ++ [stripe, slot, first]) :: u.out
            ∧ Frame [.group, .buses] [] s t)
        ∧ (∀ p, u.pstripe stripe = some p → slot < 22 → u.slotOfMember p u.own = some slot →
          ∃ t l, exec (.ledgerSync j h stripe slot first states) s = .next t
            ∧ t.out.head? = some (.peer j 0x19 (l ++ ([stripe, slot, first] ++ (List.range states.length).map (fun i => p.granState (first + i)))))
            ∧ t.group.stripes = u.group.stripes ∧ Frame [.group, .buses] [] s t)
        ∧ (∀ p b, u.pstripe stripe = some p → 22 ≤ slot → u.roleBit p j = some b → p.erased.testBit b = true → p.st = .degraded →
          ∃ t, exec (.ledgerSync j h stripe slot first states) s = .next t
            ∧ (t.pstripe stripe).map (fun x => (x.erased, x.st)) = some (clearBit p.erased b,
                if clearBit p.erased b = 0 then p.before else .degraded)
            ∧ Frame stripeParts stripeRegs s t))
      ∧ (∀ (p : PStripe) (slot first count : Nat), u.pstripe stripe = some p →
        (u.slotMember p slot = j → 1 ≤ count → count ≤ 16 →
          ∃ t l, exec (.outerRead j h stripe slot first count) s = .next t ∧ t.out.head? = some (.peer j 0x11 l)
            ∧ Frame [.group, .buses] [] s t)
        ∧ (u.slotMember p slot ≠ j ∨ count = 0 ∨ 16 < count → exec (.outerRead j h stripe slot first count) s = .next u))
      ∧ (∀ chunk count : Nat,
        ∃ t l slot status d, exec (.patrolRequest j h stripe chunk count) s = .next t
          ∧ t.out = .peer j 0x31 (l ++ ([stripe, chunk, count, s.own, slot, status] ++ d)) :: u.out ∧ d.length = 2 * count
          ∧ (u.pstripe stripe = none → status = 3) ∧ Frame [.group, .buses] [] s t)
      ∧ (∀ (p : PStripe) (w : PatrolWait) (slot status : Nat) (digests : List Nat), u.pstripe stripe = some p →
        s.patrol.waits.find? (fun x => x.stripe == stripe && x.chunk == w.chunk && x.count == w.count) = some w →
        let r : DigestReply := { member := j, slot := slot, status := status, digests := digests }
        let w1 := { w with replies := w.replies.filter (fun x => x.slot != slot) ++ [r] }
        ((u.patrolRoles p).all (fun k => w1.replies.any (fun x => x.slot == k)) = false →
          ∃ t, exec (.patrolReply j h stripe w.chunk w.count slot status digests) s = .next t
            ∧ t.patrol.waits = s.patrol.waits.map (fun x => if x = w then w1 else x) ∧ Frame [.patrol, .group, .buses] [] s t)
        ∧ ((u.patrolRoles p).all (fun k => w1.replies.any (fun x => x.slot == k)) = true →
          ∃ t, exec (.patrolReply j h stripe w.chunk w.count slot status digests) s = .next t
            ∧ (∀ x ∈ t.patrol.waits, x.stripe ≠ w.stripe ∨ x.chunk ≠ w.chunk)
            ∧ ((∃ x ∈ w1.replies, x.status = 3 ∨ x.status = 2) →
                t.rd Reg.MIN_CNT.OUTER_MISMATCH = s.rd Reg.MIN_CNT.OUTER_MISMATCH ∧ t.events = s.events)
            ∧ (w.count = 1 → (∀ x ∈ w1.replies, x.status ≠ 3 ∧ x.status ≠ 2) →
                let m := patrolCompare ((u.chunkDigests p w.chunk).headD 0) w1.replies 0
                (m.1 && m.2) = false →
                t.rd Reg.MIN_CNT.OUTER_MISMATCH = min (s.rd Reg.MIN_CNT.OUTER_MISMATCH + 1) (2 ^ Reg.MIN_CNT.OUTER_MISMATCH.w - 1)
                ∧ t.events.head?.map (fun e => (e.source, e.code, e.detail)) = some (0x26, 0x0104,
                    w.chunk % 1024 + bit (!m.1) * 2 ^ 10 + bit (!m.2) * 2 ^ 11))
            ∧ Frame [.patrol, .group, .buses, .log] [Reg.MIN_CNT.OUTER_MISMATCH] s t))

/-! ### Power states (R141, R143, R240, R448, R527 to R543, R549) -/

/-- R530 to R534: an idle device begins the entry its target calls for; each phase leads to the next when its work is done, and a wake that is
latched, a target that has fallen or a refusal abandons the entry at its point and begins the exit to where the entry began.
Where it rests on the model's own choices, they are those of log entry 75. -/
def Obligations.PowerEntry : Prop :=
  ∀ s : State, s.serving = true →
    (s.pphase = 0 → s.pstate < s.ptarget → s.working = false → s.rd Reg.PWR_CFG.IDLE_WAIT ≤ s.pwr.idle → s.pwr.retryAt = none →
      ∃ t, exec .idleDetected s = .next t ∧ t.pphase = 1 ∧ t.pwr.goal = s.ptarget ∧ t.pwr.origin = s.pstate
        ∧ Frame [.power] [Reg.PWR_STATUS.PHASE] s t)
    ∧ (s.pphase = 1 → s.mustAbandon = false → s.prepared = true →
      ∃ t, exec .prepareEnd s = .next t ∧ t.pphase = 2 ∧ t.pwr.askAt = s.frame ∧ Frame [.power] [Reg.PWR_STATUS.PHASE] s t)
    ∧ (∀ d : Fin 160, s.pphase = 2 → s.domState d ≠ 3 → Tbl.get 0 s.pwr.answers d ≠ 1 →
      (s.domainAnswer d = 2 → ∃ t, exec (.domainAnswer d) s = .next t ∧ t.pphase = 5 ∧ t.rd Reg.PWR_STATUS.REFUSED = 1
        ∧ t.rd Reg.PWR_STATUS.DOMAIN = d % 2 ^ Reg.PWR_STATUS.DOMAIN.w ∧ t.rd Reg.PWR_STATUS.ABORT_AT = 1 ∧ t.pwr.exitTo = s.pwr.origin
        ∧ t.pwr.retryAt = some (s.frame + 10 * s.rd Reg.PWR_CFG.RETRY))
      ∧ (s.domainAnswer d ≠ 2 → (s.setPwr { s.pwr with answers := Tbl.set 0 s.pwr.answers d (s.domainAnswer d) }).allAccepted = false →
        ∃ t, exec (.domainAnswer d) s = .next t ∧ t.pphase = 2 ∧ Tbl.get 0 t.pwr.answers d = s.domainAnswer d ∧ Frame [.power] [] s t)
      ∧ (s.domainAnswer d ≠ 2 → (s.setPwr { s.pwr with answers := Tbl.set 0 s.pwr.answers d (s.domainAnswer d) }).allAccepted = true →
        s.mustAbandon = false → ∃ t, exec (.domainAnswer d) s = .next t ∧ t.pphase = 3 ∧ Frame [.power] [Reg.PWR_STATUS.PHASE] s t))
    ∧ (∀ d, s.pphase = 2 → s.pwr.askAt + 16 ≤ s.frame →
      (List.range 160).find? (fun d => s.domState d != 3 && Tbl.get 0 s.pwr.answers d != 1) = some d →
      ∃ t, exec .askTimeout s = .next t ∧ t.pphase = 5 ∧ t.rd Reg.PWR_STATUS.REFUSED = 1
        ∧ t.rd Reg.PWR_STATUS.DOMAIN = d % 2 ^ Reg.PWR_STATUS.DOMAIN.w)
    ∧ (s.pphase = 3 → s.mustAbandon = false →
      ∃ t, exec .quiesceEnd s = .next t ∧ t.pphase = 4 ∧ t.pwr.raising = false ∧ t.ctxs = s.ctxs ∧ t.pages = s.pages
        ∧ (2 ≤ s.pwr.goal → t.pwr.fullClock = false))
    ∧ (s.mustAbandon = true →
      ∀ e ∈ [(1, Instr.prepareEnd, 0), (3, .quiesceEnd, 2), (4, .powerCommit, 3)], s.pphase = e.1 →
        ∃ t, exec e.2.1 s = .next t ∧ t.pphase = 5 ∧ t.rd Reg.PWR_STATUS.ABORT_AT = e.2.2 ∧ t.pwr.exitTo = s.pwr.origin
          ∧ t.pwr.retryAt = none ∧ t.pstate = s.pstate
          ∧ t.rd Reg.PWR_CNT.ABANDONED = min (s.rd Reg.PWR_CNT.ABANDONED + 1) (2 ^ Reg.PWR_CNT.ABANDONED.w - 1))

/-- R533, R535, R536, R540, R549: a rail acknowledges within 2 %, is written once more after 10 frames and then fails; with the rails in place
the entry is complete and the wakes are sampled once; an exit ends in the serving state with the wakes cleared.
Where it rests on the model's own choices, they are those of log entry 75. -/
def Obligations.PowerRails : Prop :=
  ∀ s : State,
    (∀ (r : Fin 3) (mv : Nat), s.sup.coreUp = true → s.on Reg.PWR_AVS.BUSY r = true → railOk mv (s.rd Reg.PWR_AVS.REQ_MV r) = true →
      ∃ t, exec (.railAck r mv) s = .next t ∧ t.rd Reg.PWR_AVS.ACK_MV r = s.rd Reg.PWR_AVS.REQ_MV r ∧ t.pwr.raiseFailed.testBit r = false
        ∧ t.ctxs = s.ctxs ∧ t.pages = s.pages)
    ∧ (∀ r : Fin 3, s.sup.coreUp = true → s.on Reg.PWR_AVS.BUSY r = true → Tbl.get 0 s.pwr.wroteAt r + 10 ≤ s.frame →
      (Tbl.get 0 s.pwr.writes r < 2 → ∃ t, exec (.railTimeout r) s = .next t
        ∧ t.out = .avsWrite r (s.rd Reg.PWR_AVS.REQ_MV r) :: s.out ∧ Tbl.get 0 t.pwr.writes r = Tbl.get 0 s.pwr.writes r + 1
        ∧ Frame [.power, .buses] [Reg.PWR_AVS.REQ_MV, Reg.PWR_AVS.BUSY] s t)
      ∧ (2 ≤ Tbl.get 0 s.pwr.writes r → s.pwr.raising = true → ∃ t, exec (.railTimeout r) s = .next t
        ∧ t.on Reg.PWR_AVS.FAULT r = true ∧ t.on Reg.PWR_AVS.BUSY r = false ∧ t.pwr.raiseFailed.testBit r = true)
      ∧ (2 ≤ Tbl.get 0 s.pwr.writes r → s.pwr.raising = false → ∃ t, exec (.railTimeout r) s = .next t
        ∧ t.on Reg.PWR_AVS.FAULT r = true ∧ t.pphase = 5 ∧ t.rd Reg.PWR_STATUS.ABORT_AT = 3))
    ∧ (∀ r : Fin 3, s.sup.coreUp = true → s.pwr.raiseFailed.testBit r = true → s.on Reg.PWR_AVS.BUSY r = false →
      Tbl.get 0 s.pwr.wroteAt r + 100 ≤ s.frame →
      ∃ t, exec (.railRaiseRetry r) s = .next t ∧ t.on Reg.PWR_AVS.BUSY r = true
        ∧ t.out = .avsWrite r (s.rd Reg.PWR_AVS.REQ_MV r) :: s.out ∧ Frame [.power, .buses] [Reg.PWR_AVS.REQ_MV, Reg.PWR_AVS.BUSY] s t)
    ∧ (s.serving = true → s.pphase = 4 → s.mustAbandon = false → s.railsDone = true →
      ∃ t, exec .powerCommit s = .next t ∧ t.pphase = 0 ∧ t.pstate = s.pwr.goal % 2 ^ Reg.PWR_STATUS.STATE.w ∧ t.pwr.sample = true
        ∧ t.rd Reg.PWR_CNT.ENTRIES = min (s.rd Reg.PWR_CNT.ENTRIES + 1) (2 ^ Reg.PWR_CNT.ENTRIES.w - 1)
        ∧ t.events.head?.map (fun e => (e.source, e.code)) = some (0x02, 0x0100))
    ∧ (s.serving = true → s.pwr.sample = true → s.pphase = 0 →
      (s.wakeSet = true → ∃ t, exec .commitWakeSample s = .next t ∧ t.pphase = 5 ∧ t.pwr.exitTo = s.servingState ∧ t.pwr.sample = false)
      ∧ (s.wakeSet = false → ∃ t, exec .commitWakeSample s = .next t ∧ t.pphase = 0 ∧ t.pwr.sample = false ∧ Frame [.power] [] s t))
    ∧ (s.sup.coreUp = true → s.pphase = 5 → s.railsDone = true →
      ∃ t, exec .exitComplete s = .next t ∧ t.wakeSet = false ∧ t.pstate = s.pwr.exitTo % 2 ^ Reg.PWR_STATUS.STATE.w
        ∧ t.pwr.fullClock = true ∧ t.ctxs = s.ctxs ∧ t.pages = s.pages)
    ∧ (∀ n, s.pwr.retryAt = some n → s.serving = true → s.pphase = 0 → n ≤ s.frame →
      ∃ t, exec .entryRetry s = .next t ∧ t.pwr.retryAt = none ∧ (s.pstate < s.ptarget → t.pphase = 1 ∧ t.pwr.goal = s.ptarget)
        ∧ (s.ptarget ≤ s.pstate → Frame [.power] [] s t))

/-- The state of every other domain is as it was. -/
def Sys2Proof.otherDomains (s t : State) (d : Nat) : Prop := ∀ e < 160, e ≠ d → t.domState e = s.domState e

/-- R141, R143, R240: a domain without work gates its clock after 2 frames and its power after 16, but for those that keep it; a wake source
is latched while the device rests or moves between states, and is nothing else in P0 and P1.
Where it rests on the model's own choices, they are those of log entries 55 and 75. -/
def Obligations.GatingAndWakes : Prop :=
  ∀ s : State,
    (∀ d : Fin 160, s.serving = true → s.domState d = 0 → Tbl.get 0 s.pwr.work d + 2 ≤ s.frame →
      ∃ t, exec (.domainClockGate d) s = .next t ∧ t.domState d = 1 ∧ otherDomains s t d ∧ Frame [] [Reg.PWR_DOM_STATE.ALL] s t)
    ∧ (∀ d : Fin 160, s.serving = true → s.domState d < 2 → keepsPower d = false → Tbl.get 0 s.pwr.work d + 16 ≤ s.frame →
      ∃ t, exec (.domainPowerGate d) s = .next t ∧ t.domState d = 2 ∧ otherDomains s t d ∧ Frame [] [Reg.PWR_DOM_STATE.ALL] s t)
    ∧ (∀ fn : Fn, s.sup.operating = true → s.hasFn fn = true → ∀ c ∈ [Instr.clkreqAssert fn, .electricalIdleExit fn],
      (s.pphase = 0 → s.pstate < 2 → ∃ t, exec c s = .next t ∧ t.pwr.idle = 0 ∧ t.regs = s.regs ∧ Frame [.power, .endpoint] [] s t)
      ∧ (s.pphase ≠ 0 → ∃ t, exec c s = .next t ∧ t.wakeSet = true ∧ t.pphase = s.pphase
          ∧ Frame [.power, .endpoint] [Reg.PWR_WAKE.CLKREQ, Reg.PWR_WAKE.EI_EXIT] s t)
      ∧ (s.pphase = 0 → 2 ≤ s.pstate → ∃ t, exec c s = .next t ∧ t.wakeSet = true
          ∧ (s.pwr.sample = false → t.pphase = 5 ∧ t.pwr.exitTo = s.servingState)))
    ∧ (∀ fn : Fn, s.serving = true → s.hasFn fn = true → s.linkUp fn = true → s.pstate = 2 → s.pphase = 0 →
      ∃ t, exec (.aspmL1Entry fn) s = .next t ∧ (t.ep fn).l1 = true ∧ Frame [.endpoint] [] s t)

/-! ### Sensors, the orderly stop and the trip (R319, R553 to R560) -/

/-- R557, R558, R560: with no dirty data and nothing to write out the stop reads Stopped; after 1 s below every set point fetching resumes; the
cool-down after a trip lets a cold start begin, which the supply decides. -/
def Obligations.StopsEnd : Prop :=
  ∀ s : State,
    (s.serving = true → s.stopping = true → s.rd Reg.THM_STATUS.STATE = 2 → s.stopDone = true →
      ∃ t, exec .orderlyStopComplete s = .next t ∧ t.rd Reg.THM_STATUS.STATE = 3)
    ∧ (∀ n, s.thermal.coolFrom = some n → s.serving = true → s.stopping = true → n + 100000 ≤ s.frame →
      ∃ t, exec .orderlyStopEnd s = .next t ∧ t.rd Reg.FRM_STATUS.MODE = 0 ∧ t.stopping = false ∧ t.thermal.coolFrom = none)
    ∧ (∀ temp : Int, s.sup.operating = true → s.thermal.tripped = true → s.sup.drain = .none → s.sup.coreUp = false → temp < 700 →
      ∃ t, exec (.tripCooldown temp) s = .next t ∧ t.thermal.tripped = false
        ∧ (s.riseNow < s.sup.vin → t.sup.steps = 1 ∧ t.sup.nextCause = s.sup.nextCause)
        ∧ (s.sup.vin ≤ s.riseNow → t.sup = s.sup))

/-- R553, R554, R557, R559: a sample is kept with its sensor; a conversion that fails, or a reading outside the range of its class, breaks the
sensor; two samples of an unbroken board sensor at its stop threshold begin the orderly stop; two of an unbroken diode at 112.0 °C trip. Outside
a trip, a sample and the end of a stop leave the data, the flash, the supplies, the fans and the channels alone.
Where it rests on the model's own choices, they are those of log entry 77. -/
def Obligations.SensorSamples : Prop :=
  (
    ∀ s : State,
      (∀ d : Fin 40, s.sup.coreUp = true →
        ∃ t, exec (.coreDiodeSample d none) s = .next t ∧ (t.sensor (sensorKey 0 d)).broken = true
          ∧ (t.sensor (sensorKey 0 d)).seen = true ∧ t.rd Reg.THM_DIODE.BROKEN d = 1)
      ∧ (∀ (d : Fin 40) (v : Int), s.sup.coreUp = true → -400 ≤ v → v < 1050 → (s.sensor (sensorKey 0 d)).broken = false →
        (s.sensor (sensorKey 0 d)).deviant < 9 →
        ∃ t, exec (.coreDiodeSample d (some v)) s = .next t ∧ (t.sensor (sensorKey 0 d)).temp = v
          ∧ (t.sensor (sensorKey 0 d)).broken = false ∧ t.rd Reg.THM_DIODE.TEMP d = signedField 16 v)
      ∧ (∀ (d : Fin 40) (v : Int), s.sup.coreUp = true → s.sup.drain = .none → 1120 ≤ v → v ≤ 1500 →
        (s.sensor (sensorKey 0 d)).broken = false → (s.sensor (sensorKey 0 d)).deviant < 9 → (s.sensor (sensorKey 0 d)).atTrip = 1 →
        ∃ t, exec (.coreDiodeSample d (some v)) s = .next t ∧ t.sup.drain = .trip ∧ t.thermal.tripped = true ∧ t.sup.drainWork = true)
      ∧ (∀ (i : Fin 4) (v : Int), s.sup.coreUp = true → s.on Reg.THM_EXT.PRESENT i = true →
        (s.sensor (sensorKey 1 i)).broken = false →
        ∃ t, exec (.boardSensorSample i v) s = .next t ∧ (t.sensor (sensorKey 1 i)).temp = v
          ∧ (t.sensor (sensorKey 1 i)).broken = decide (v < -400 ∨ 1500 < v)
          ∧ (s.serving = true → s.stopping = false → (s.sensor (sensorKey 1 i)).atStop = 1 → s.stopAt 1 ≤ v → -400 ≤ v → v ≤ 1500 →
              t.rd Reg.FRM_STATUS.MODE = 2 ∧ t.thermal.stopAt = s.frame))
      ∧ (∀ (ch : Chan) (lun : LunNo), s.serving = true → s.chanReady ch = true → s.lunPopulated ch lun = true →
        s.lunFailed ch lun = false → s.lunRaw ch lun = false →
        (∀ n : Int, -400 ≤ dieTemp s.ucode.active (s.lun ch lun).die n → dieTemp s.ucode.active (s.lun ch lun).die n ≤ 1250 →
          ∃ t, exec (.nandTempRead ch lun (some n)) s = .next t ∧ (t.lun ch lun).temp = dieTemp s.ucode.active (s.lun ch lun).die n
            ∧ (t.sensor (sensorKey 2 (32 * ch + lun))).implausible = 0)
        ∧ ((s.sensor (sensorKey 2 (32 * ch + lun))).implausible = 1 →
          ∃ t, exec (.nandTempRead ch lun none) s = .next t ∧ (t.sensor (sensorKey 2 (32 * ch + lun))).broken = true)))
  ∧ (
    ∀ (s t : State),
      (∀ (i : Fin 4) (v : Int), exec (.boardSensorSample i v) s = .next t →
        Frame ([.sensors, .health, .log, .thermal, .ftl] ++ asyncParts)
          [Reg.HIF_ASYNC.PEND, Reg.FRM_CEILING.SOURCE, Reg.FRM_CEILING.CEIL_MIB, Reg.FRM_JPB.MODEL, Reg.FRM_STATUS.MODE,
           Reg.THM_STATUS.STATE, Reg.THM_STATUS.BROKEN, Reg.THM_CNT.STOPS, Reg.THM_EXT.TEMP, Reg.THM_EXT.BROKEN] s t
        ∧ t.ftl.versions = s.ftl.versions ∧ t.ftl.map = s.ftl.map)
      ∧ (∀ ch lun v, exec (.nandTempRead ch lun v) s = .next t →
        Only ([.sensors, .health, .log, .thermal, .ftl, .luns] ++ asyncParts) s t ∧ t.ftl.versions = s.ftl.versions)
      ∧ (∀ c ∈ [Instr.orderlyStopComplete, .orderlyStopEnd], exec c s = .next t →
        Frame ([.log, .thermal, .ftl, .health] ++ asyncParts)
          [Reg.HIF_ASYNC.PEND, Reg.FRM_CEILING.SOURCE, Reg.FRM_CEILING.CEIL_MIB, Reg.FRM_JPB.MODEL, Reg.FRM_STATUS.MODE,
           Reg.THM_STATUS.STATE] s t))

/-! ### The frame boundary (R6, R67) -/

/-- R6, R67: a boundary advances the frame counter by one and samples the bank voltage; the core die's contexts and flash pages change only
while it runs; without Poulo nothing happens.
Where it rests on the model's own choices, they are those of log entries 24, 41 and 43. -/
def Obligations.FrameBoundaryTicks : Prop :=
  ∀ (s : State) (inp : FrameIn),
    (s.sup.operating = true →
      ∃ t, exec (.frameBoundary inp) s = .next t ∧ t.frame = s.frame + 1 ∧ t.sup.vbank = inp.vbank ∧ t.pending = s.pending
        ∧ (s.sup.coreUp = false → t.ctxs = s.ctxs ∧ t.pages = s.pages ∧ t.ftl = s.ftl ∧ t.events = s.events ∧ t.luns = s.luns)
        ∧ (s.sup.coreUp = true → t.sched.plan = [] ∧ t.sched.made = false))
    ∧ (s.sup.operating = false → exec (.frameBoundary inp) s = .next s)

/-! ### Fans (R562 to R571, R576) -/

/-- R567: the end of the probe window, a measurement below CATCH_RPM after braking, and the ends of Ramp and Locate. A start is Ramp
for A of 0 and 1 and Locate for A of 2 and more; a start attempt that ends without handover goes to Settle with A + 1.
Where it rests on the model's own choices, they are those of log entries 78 and 80. -/
def Obligations.FanStartAttempts : Prop :=
  ∀ (s : State) (fan : Fin 4),
    (s.fanSt fan = .probe → (s.fan fan).since + 1000 ≤ s.frame →
      ∃ t, exec (.probeWindowEnd fan) s = .next t ∧ t.fanSt fan = (if s.rd Reg.FAN_F.FAILS fan < 2 then .ramp else .locate)
        ∧ t.rd Reg.FAN_F.STARTS fan = min (s.rd Reg.FAN_F.STARTS fan + 1) 65535 ∧ (t.fan fan).since = s.frame
        ∧ (s.rd Reg.FAN_F.FAILS fan < 2 → t.rd Reg.FAN_F.DUTY fan = s.rampDuty fan 0))
    ∧ (∀ rpm, s.fanSt fan = .brake → rpm < s.catchRpm fan →
      ∃ t, exec (.brakeReleaseMeasure fan rpm) s = .next t
        ∧ t.fanSt fan = (if s.rd Reg.FAN_F.FAILS fan < 2 then .ramp else .locate)
        ∧ t.rd Reg.FAN_F.STARTS fan = min (s.rd Reg.FAN_F.STARTS fan + 1) 65535)
    ∧ (s.fanSt fan = .ramp → (s.fan fan).since + 50000 ≤ s.frame →
      ∃ t, exec (.rampEnd fan) s = .next t ∧ t.fanSt fan = .settle ∧ t.rd Reg.FAN_F.DUTY fan = 0
        ∧ t.rd Reg.FAN_F.FAILS fan = min 3 (s.rd Reg.FAN_F.FAILS fan + 1)
        ∧ (t.events.head?.map (fun e => (e.source, e.code)) = some (0x05, 0x0101)))
    ∧ (s.fanSt fan = .locate → (s.fan fan).since + 10000 ≤ s.frame →
      ∃ t, exec (.locateTimeout fan) s = .next t ∧ t.fanSt fan = .settle
        ∧ t.rd Reg.FAN_F.FAILS fan = min 3 (s.rd Reg.FAN_F.FAILS fan + 1)
        ∧ (t.events.head?.map (fun e => (e.source, e.code)) = some (0x05, 0x0101)))
    ∧ (∀ close, s.fanSt fan = .locate → (s.fan fan).pulse < 11 →
      ∃ t, exec (.peakLimitTrip fan close) s = .next t ∧ (t.fan fan).cut = true ∧ (t.fan fan).pulse = (s.fan fan).pulse + 1
        ∧ t.fanSt fan = .locate)
    ∧ (s.fanSt fan = .locate → (s.fan fan).pulse = 11 →
      ∃ t, exec (.peakLimitTrip fan true) s = .next t ∧ t.fanSt fan = .settle)

/-- R567: crossings. Every crossing sets the speed and the direction; three fast forward crossings in Probe or Coast lead to Catch, three
fast reverse ones in Probe to Brake; six valid forward crossings lead Ramp (from 10,000 frames after the start), Locate and Catch to Run;
slow crossings in Coast lead to Settle. -/
def Obligations.FanCrossings : Prop :=
  ∀ (s : State) (fan : Fin 4) (rev inTime : Bool) (rpm : Nat),
    ∃ t, exec (.bemfCrossing fan rev rpm inTime) s = .next t
      ∧ t.rd Reg.FAN_F.RPM fan = min rpm 65535 ∧ t.rd Reg.FAN_F.REVERSE fan = bit rev
      ∧ (s.fanSt fan = .probe → rev = false → 2 ≤ (s.fan fan).fwd → s.catchRpm fan ≤ rpm → t.fanSt fan = .catch_)
      ∧ (s.fanSt fan = .probe → rev = true → 2 ≤ (s.fan fan).rev → s.catchRpm fan ≤ rpm → t.fanSt fan = .brake)
      ∧ (s.fanSt fan = .probe → rpm < s.catchRpm fan → t.fanSt fan = .probe)
      ∧ (s.fanSt fan = .ramp ∨ s.fanSt fan = .locate ∨ s.fanSt fan = .catch_ →
          rev = false → inTime = true → 5 ≤ (s.fan fan).valid →
          (s.fanSt fan = .ramp → (s.fan fan).since + 10000 ≤ s.frame) → t.fanSt fan = .run ∧ t.fanFaulted fan = false)
      ∧ (s.fanSt fan = .coast → rpm < s.catchRpm fan → t.fanSt fan = .settle)
      ∧ (s.fanSt fan = .coast → s.catchRpm fan ≤ rpm → rev = false → 2 ≤ (s.fan fan).fwd → t.fanSt fan = .catch_)

/-- R567, R570, R571: the third consecutive miss takes Run to Coast with the bridge released and event 0x0100; 1 s in Run sets A to 0; no
crossing for 10 ms takes Coast to Probe and Settle to Probe, or to Fault at A = 3 with the fan's bits set; 1 s in Settle with crossings
still seen brakes; RETRY takes an enabled fan from Fault to Probe with A = 0. A back-EMF measurement stores the constant and judges it.
Where it rests on the model's own choices, they are those of log entries 78 and 81. -/
def Obligations.FanLossAndRest : Prop :=
  (
    ∀ (s : State) (fan : Fin 4),
      (s.fanSt fan = .run → 2 ≤ (s.fan fan).misses →
        ∃ t, exec (.missedCrossing fan) s = .next t ∧ t.fanSt fan = .coast ∧ t.rd Reg.FAN_F.DUTY fan = 0
          ∧ t.rd Reg.FAN_F.LOSSES fan = min (s.rd Reg.FAN_F.LOSSES fan + 1) 65535
          ∧ (t.events.head?.map (fun e => (e.source, e.code)) = some (0x05, 0x0100)))
      ∧ (s.fanSt fan = .run → (s.fan fan).runFrom + 100000 ≤ s.frame →
        ∃ t, exec (.runSecond fan) s = .next t ∧ t.rd Reg.FAN_F.FAILS fan = 0 ∧ t.fanSt fan = .run)
      ∧ (s.fanSt fan = .coast → (s.fan fan).lastAt + 1000 ≤ s.frame →
        ∃ t, exec (.coastTimeout fan) s = .next t ∧ t.fanSt fan = .probe)
      ∧ (s.fanSt fan = .settle → (s.fan fan).lastAt + 1000 ≤ s.frame →
        ∃ t, exec (.settleTimeout fan) s = .next t
          ∧ t.fanSt fan = (if s.rd Reg.FAN_F.FAILS fan < 3 then .probe else .fault)
          ∧ (s.rd Reg.FAN_F.FAILS fan = 3 → t.fanFaulted fan = true ∧ (t.health_ 0x082).testBit fan = true))
      ∧ (s.fanSt fan = .settle → (s.fan fan).since + 100000 ≤ s.frame → s.frame < (s.fan fan).lastAt + 1000 →
        ∃ t, exec (.settleBrake fan) s = .next t ∧ (t.fan fan).braked = true ∧ t.fanSt fan = .settle)
      ∧ (∀ (fn : Fn) (mask : BitVec 4), s.reachable fn = true → mask.getLsb fan = true → s.fanSt fan = .fault →
        s.fanEnabled fan = true →
        ∃ t, exec (.fanRetry fn mask) s = .next t ∧ t.fanSt fan = .probe ∧ t.rd Reg.FAN_F.FAILS fan = 0))
  ∧ (
    ∀ (s : State) (fan : Fin 4) (ke : Nat), s.fanSt fan = .run ∨ s.fanSt fan = .catch_ →
      let nom := 100 * s.rd Reg.FAN_F.KE_NOM fan
      let tol := s.rd Reg.FAN_F.KE_NOM fan * s.rd Reg.FAN_F.KE_TOL fan
      ∃ t, exec (.keMeasurement fan ke) s = .next t ∧ t.rd Reg.FAN_F.KE_MEAS fan = min ke 65535
        ∧ (100 * ke + 2 * tol < nom ∨ nom + tol < 100 * ke → t.fanSt fan = .fault ∧ t.rd Reg.FAN_F.KE_WRONG fan = 1
            ∧ t.fanFaulted fan = true)
        ∧ (100 * ke + tol < nom → nom ≤ 100 * ke + 2 * tol → t.fanSt fan = .catch_ ∧ t.rd Reg.FAN_F.KE_LOW fan = 1
            ∧ t.rd Reg.FAN_F.DUTY fan = s.catchDuty fan ke)
        ∧ (nom ≤ 100 * ke + tol → 100 * ke ≤ nom + tol → t.fanSt fan = .catch_
            ∧ t.rd Reg.FAN_F.KE_LOW fan = s.rd Reg.FAN_F.KE_LOW fan ∧ t.rd Reg.FAN_F.KE_WRONG fan = s.rd Reg.FAN_F.KE_WRONG fan))

/-- The fields of a fan's registers that commands write. -/
def Sys2Proof.fanFields : List Fld :=
  [Reg.FAN_F.STATE, Reg.FAN_F.FAILS, Reg.FAN_F.STARTS, Reg.FAN_F.LOSSES, Reg.FAN_F.DUTY, Reg.FAN_F.RPM, Reg.FAN_F.REVERSE,
   Reg.FAN_F.KE_LOW, Reg.FAN_F.KE_WRONG, Reg.FAN_F.KE_MEAS]

/-- What the fan commands leave alone: everything but the fans, their registers, the log, and, when a fan enters or leaves Fault,
FAULT_MASK, the Health page and what the HEALTH event reaches. -/
def Obligations.FanFrame : Prop :=
  ∀ (s t : State) (fan : Fin 4),
    (∀ c ∈ [Instr.probeWindowEnd fan, .rampEnd fan, .locateTimeout fan, .missedCrossing fan, .runSecond fan, .coastTimeout fan,
        .settleBrake fan], exec c s = .next t → Frame [.fans, .log] fanFields s t)
    ∧ (∀ rpm, exec (.brakeReleaseMeasure fan rpm) s = .next t → Frame [.fans] fanFields s t)
    ∧ (∀ close, exec (.peakLimitTrip fan close) s = .next t → Frame [.fans, .log] [Reg.FAN_F.STATE, Reg.FAN_F.FAILS, Reg.FAN_F.DUTY] s t)
    ∧ (∀ rev rpm inTime, exec (.bemfCrossing fan rev rpm inTime) s = .next t →
        Frame [.fans, .log, .health] (Reg.FAN_STATUS.FAULT_MASK :: fanFields) s t)
    ∧ (∀ fn mask, exec (.fanRetry fn mask) s = .next t → Frame [.fans] [Reg.FAN_F.STATE, Reg.FAN_F.FAILS, Reg.FAN_F.DUTY] s t)
    ∧ (exec (.settleTimeout fan) s = .next t ∨ (∃ ke, exec (.keMeasurement fan ke) s = .next t) →
        Frame ([.fans, .log, .health] ++ asyncParts) (Reg.FAN_STATUS.FAULT_MASK :: Reg.HIF_ASYNC.PEND :: fanFields) s t)
    ∧ (∀ g : Fin 4, g ≠ fan → ∀ c ∈ [Instr.probeWindowEnd fan, .rampEnd fan, .locateTimeout fan, .missedCrossing fan,
        .runSecond fan, .coastTimeout fan, .settleBrake fan, .settleTimeout fan], exec c s = .next t → t.fan g = s.fan g)
end

