-- ==== Sys2Proof/Laws/State.lean ====
section
/-! SUPPORT. What each plain update of the state leaves alone, field by field. -/

set_option Elab.async false

namespace Sys2Proof.Machine

/-! wr -/
@[simp] theorem State.wr_keptRegs (s r v i f) : (State.wr s r v i f).keptRegs = s.keptRegs := rfl
@[simp] theorem State.wr_pairLow (s r v i f) : (State.wr s r v i f).pairLow = s.pairLow := rfl
@[simp] theorem State.wr_pairHigh (s r v i f) : (State.wr s r v i f).pairHigh = s.pairHigh := rfl
@[simp] theorem State.wr_frame (s r v i f) : (State.wr s r v i f).frame = s.frame := rfl
@[simp] theorem State.wr_board (s r v i f) : (State.wr s r v i f).board = s.board := rfl
@[simp] theorem State.wr_sup (s r v i f) : (State.wr s r v i f).sup = s.sup := rfl
@[simp] theorem State.wr_boot (s r v i f) : (State.wr s r v i f).boot = s.boot := rfl
@[simp] theorem State.wr_pairs (s r v i f) : (State.wr s r v i f).pairs = s.pairs := rfl
@[simp] theorem State.wr_eps (s r v i f) : (State.wr s r v i f).eps = s.eps := rfl
@[simp] theorem State.wr_msix (s r v i f) : (State.wr s r v i f).msix = s.msix := rfl
@[simp] theorem State.wr_wins (s r v i f) : (State.wr s r v i f).wins = s.wins := rfl
@[simp] theorem State.wr_mem (s r v i f) : (State.wr s r v i f).mem = s.mem := rfl
@[simp] theorem State.wr_tags (s r v i f) : (State.wr s r v i f).tags = s.tags := rfl
@[simp] theorem State.wr_rings (s r v i f) : (State.wr s r v i f).rings = s.rings := rfl
@[simp] theorem State.wr_ctxs (s r v i f) : (State.wr s r v i f).ctxs = s.ctxs := rfl
@[simp] theorem State.wr_nextOrder (s r v i f) : (State.wr s r v i f).nextOrder = s.nextOrder := rfl
@[simp] theorem State.wr_recon (s r v i f) : (State.wr s r v i f).recon = s.recon := rfl
@[simp] theorem State.wr_reconSeq (s r v i f) : (State.wr s r v i f).reconSeq = s.reconSeq := rfl
@[simp] theorem State.wr_lost (s r v i f) : (State.wr s r v i f).lost = s.lost := rfl
@[simp] theorem State.wr_lostSeq (s r v i f) : (State.wr s r v i f).lostSeq = s.lostSeq := rfl
@[simp] theorem State.wr_events (s r v i f) : (State.wr s r v i f).events = s.events := rfl
@[simp] theorem State.wr_eventTotal (s r v i f) : (State.wr s r v i f).eventTotal = s.eventTotal := rfl
@[simp] theorem State.wr_health (s r v i f) : (State.wr s r v i f).health = s.health := rfl
@[simp] theorem State.wr_saved (s r v i f) : (State.wr s r v i f).saved = s.saved := rfl
@[simp] theorem State.wr_hostTime (s r v i f) : (State.wr s r v i f).hostTime = s.hostTime := rfl
@[simp] theorem State.wr_rrLast (s r v i f) : (State.wr s r v i f).rrLast = s.rrLast := rfl
@[simp] theorem State.wr_rrLeft (s r v i f) : (State.wr s r v i f).rrLeft = s.rrLeft := rfl
@[simp] theorem State.wr_ftl (s r v i f) : (State.wr s r v i f).ftl = s.ftl := rfl
@[simp] theorem State.wr_blks (s r v i f) : (State.wr s r v i f).blks = s.blks := rfl
@[simp] theorem State.wr_pages (s r v i f) : (State.wr s r v i f).pages = s.pages := rfl
@[simp] theorem State.wr_bands (s r v i f) : (State.wr s r v i f).bands = s.bands := rfl
@[simp] theorem State.wr_chns (s r v i f) : (State.wr s r v i f).chns = s.chns := rfl
@[simp] theorem State.wr_luns (s r v i f) : (State.wr s r v i f).luns = s.luns := rfl
@[simp] theorem State.wr_pwr (s r v i f) : (State.wr s r v i f).pwr = s.pwr := rfl
@[simp] theorem State.wr_sensors (s r v i f) : (State.wr s r v i f).sensors = s.sensors := rfl
@[simp] theorem State.wr_thermal (s r v i f) : (State.wr s r v i f).thermal = s.thermal := rfl
@[simp] theorem State.wr_fans (s r v i f) : (State.wr s r v i f).fans = s.fans := rfl
@[simp] theorem State.wr_sideband (s r v i f) : (State.wr s r v i f).sideband = s.sideband := rfl
@[simp] theorem State.wr_dram (s r v i f) : (State.wr s r v i f).dram = s.dram := rfl
@[simp] theorem State.wr_scs (s r v i f) : (State.wr s r v i f).scs = s.scs := rfl
@[simp] theorem State.wr_pool (s r v i f) : (State.wr s r v i f).pool = s.pool := rfl
@[simp] theorem State.wr_thi (s r v i f) : (State.wr s r v i f).thi = s.thi := rfl
@[simp] theorem State.wr_sec (s r v i f) : (State.wr s r v i f).sec = s.sec := rfl
@[simp] theorem State.wr_bst (s r v i f) : (State.wr s r v i f).bst = s.bst := rfl
@[simp] theorem State.wr_decs (s r v i f) : (State.wr s r v i f).decs = s.decs := rfl
@[simp] theorem State.wr_patrol (s r v i f) : (State.wr s r v i f).patrol = s.patrol := rfl
@[simp] theorem State.wr_ucode (s r v i f) : (State.wr s r v i f).ucode = s.ucode := rfl
@[simp] theorem State.wr_sched (s r v i f) : (State.wr s r v i f).sched = s.sched := rfl
@[simp] theorem State.wr_group (s r v i f) : (State.wr s r v i f).group = s.group := rfl
@[simp] theorem State.wr_out (s r v i f) : (State.wr s r v i f).out = s.out := rfl
@[simp] theorem State.wr_free (s r v i f) : (State.wr s r v i f).free = s.free := rfl
@[simp] theorem State.wr_pending (s r v i f) : (State.wr s r v i f).pending = s.pending := rfl
@[simp] theorem State.wr_ep_ (s r v i f u1) : (State.wr s r v i f).ep u1 = s.ep u1 := rfl
@[simp] theorem State.wr_ring_ (s r v i f u1 u2) : (State.wr s r v i f).ring u1 u2 = s.ring u1 u2 := rfl
@[simp] theorem State.wr_ctx_ (s r v i f u1) : (State.wr s r v i f).ctx u1 = s.ctx u1 := rfl
@[simp] theorem State.wr_tag_ (s r v i f u1 u2) : (State.wr s r v i f).tag u1 u2 = s.tag u1 u2 := rfl
@[simp] theorem State.wr_vec_ (s r v i f u1 u2) : (State.wr s r v i f).vec u1 u2 = s.vec u1 u2 := rfl
@[simp] theorem State.wr_win_ (s r v i f u1) : (State.wr s r v i f).win u1 = s.win u1 := rfl
@[simp] theorem State.wr_lun_ (s r v i f u1 u2) : (State.wr s r v i f).lun u1 u2 = s.lun u1 u2 := rfl
@[simp] theorem State.wr_chn_ (s r v i f u1) : (State.wr s r v i f).chn u1 = s.chn u1 := rfl
@[simp] theorem State.wr_blk_ (s r v i f u1) : (State.wr s r v i f).blk u1 = s.blk u1 := rfl
@[simp] theorem State.wr_page_ (s r v i f u1) : (State.wr s r v i f).page u1 = s.page u1 := rfl
@[simp] theorem State.wr_fan_ (s r v i f u1) : (State.wr s r v i f).fan u1 = s.fan u1 := rfl
@[simp] theorem State.wr_sc_ (s r v i f u1) : (State.wr s r v i f).sc u1 = s.sc u1 := rfl
@[simp] theorem State.wr_peer_ (s r v i f u1) : (State.wr s r v i f).peer u1 = s.peer u1 := rfl
@[simp] theorem State.wr_health__ (s r v i f u1) : (State.wr s r v i f).health_ u1 = s.health_ u1 := rfl

/-! event -/
@[simp] theorem State.event_regs (s source code detail func) : (State.event s source code detail func).regs = s.regs := rfl
@[simp] theorem State.event_keptRegs (s source code detail func) : (State.event s source code detail func).keptRegs = s.keptRegs := rfl
@[simp] theorem State.event_pairLow (s source code detail func) : (State.event s source code detail func).pairLow = s.pairLow := rfl
@[simp] theorem State.event_pairHigh (s source code detail func) : (State.event s source code detail func).pairHigh = s.pairHigh := rfl
@[simp] theorem State.event_frame (s source code detail func) : (State.event s source code detail func).frame = s.frame := rfl
@[simp] theorem State.event_board (s source code detail func) : (State.event s source code detail func).board = s.board := rfl
@[simp] theorem State.event_sup (s source code detail func) : (State.event s source code detail func).sup = s.sup := rfl
@[simp] theorem State.event_boot (s source code detail func) : (State.event s source code detail func).boot = s.boot := rfl
@[simp] theorem State.event_pairs (s source code detail func) : (State.event s source code detail func).pairs = s.pairs := rfl
@[simp] theorem State.event_eps (s source code detail func) : (State.event s source code detail func).eps = s.eps := rfl
@[simp] theorem State.event_msix (s source code detail func) : (State.event s source code detail func).msix = s.msix := rfl
@[simp] theorem State.event_wins (s source code detail func) : (State.event s source code detail func).wins = s.wins := rfl
@[simp] theorem State.event_mem (s source code detail func) : (State.event s source code detail func).mem = s.mem := rfl
@[simp] theorem State.event_tags (s source code detail func) : (State.event s source code detail func).tags = s.tags := rfl
@[simp] theorem State.event_rings (s source code detail func) : (State.event s source code detail func).rings = s.rings := rfl
@[simp] theorem State.event_ctxs (s source code detail func) : (State.event s source code detail func).ctxs = s.ctxs := rfl
@[simp] theorem State.event_nextOrder (s source code detail func) : (State.event s source code detail func).nextOrder = s.nextOrder := rfl
@[simp] theorem State.event_recon (s source code detail func) : (State.event s source code detail func).recon = s.recon := rfl
@[simp] theorem State.event_reconSeq (s source code detail func) : (State.event s source code detail func).reconSeq = s.reconSeq := rfl
@[simp] theorem State.event_lost (s source code detail func) : (State.event s source code detail func).lost = s.lost := rfl
@[simp] theorem State.event_lostSeq (s source code detail func) : (State.event s source code detail func).lostSeq = s.lostSeq := rfl
@[simp] theorem State.event_health (s source code detail func) : (State.event s source code detail func).health = s.health := rfl
@[simp] theorem State.event_saved (s source code detail func) : (State.event s source code detail func).saved = s.saved := rfl
@[simp] theorem State.event_hostTime (s source code detail func) : (State.event s source code detail func).hostTime = s.hostTime := rfl
@[simp] theorem State.event_rrLast (s source code detail func) : (State.event s source code detail func).rrLast = s.rrLast := rfl
@[simp] theorem State.event_rrLeft (s source code detail func) : (State.event s source code detail func).rrLeft = s.rrLeft := rfl
@[simp] theorem State.event_ftl (s source code detail func) : (State.event s source code detail func).ftl = s.ftl := rfl
@[simp] theorem State.event_blks (s source code detail func) : (State.event s source code detail func).blks = s.blks := rfl
@[simp] theorem State.event_pages (s source code detail func) : (State.event s source code detail func).pages = s.pages := rfl
@[simp] theorem State.event_bands (s source code detail func) : (State.event s source code detail func).bands = s.bands := rfl
@[simp] theorem State.event_chns (s source code detail func) : (State.event s source code detail func).chns = s.chns := rfl
@[simp] theorem State.event_luns (s source code detail func) : (State.event s source code detail func).luns = s.luns := rfl
@[simp] theorem State.event_pwr (s source code detail func) : (State.event s source code detail func).pwr = s.pwr := rfl
@[simp] theorem State.event_sensors (s source code detail func) : (State.event s source code detail func).sensors = s.sensors := rfl
@[simp] theorem State.event_thermal (s source code detail func) : (State.event s source code detail func).thermal = s.thermal := rfl
@[simp] theorem State.event_fans (s source code detail func) : (State.event s source code detail func).fans = s.fans := rfl
@[simp] theorem State.event_sideband (s source code detail func) : (State.event s source code detail func).sideband = s.sideband := rfl
@[simp] theorem State.event_dram (s source code detail func) : (State.event s source code detail func).dram = s.dram := rfl
@[simp] theorem State.event_scs (s source code detail func) : (State.event s source code detail func).scs = s.scs := rfl
@[simp] theorem State.event_pool (s source code detail func) : (State.event s source code detail func).pool = s.pool := rfl
@[simp] theorem State.event_thi (s source code detail func) : (State.event s source code detail func).thi = s.thi := rfl
@[simp] theorem State.event_sec (s source code detail func) : (State.event s source code detail func).sec = s.sec := rfl
@[simp] theorem State.event_bst (s source code detail func) : (State.event s source code detail func).bst = s.bst := rfl
@[simp] theorem State.event_decs (s source code detail func) : (State.event s source code detail func).decs = s.decs := rfl
@[simp] theorem State.event_patrol (s source code detail func) : (State.event s source code detail func).patrol = s.patrol := rfl
@[simp] theorem State.event_ucode (s source code detail func) : (State.event s source code detail func).ucode = s.ucode := rfl
@[simp] theorem State.event_sched (s source code detail func) : (State.event s source code detail func).sched = s.sched := rfl
@[simp] theorem State.event_group (s source code detail func) : (State.event s source code detail func).group = s.group := rfl
@[simp] theorem State.event_out (s source code detail func) : (State.event s source code detail func).out = s.out := rfl
@[simp] theorem State.event_free (s source code detail func) : (State.event s source code detail func).free = s.free := rfl
@[simp] theorem State.event_pending (s source code detail func) : (State.event s source code detail func).pending = s.pending := rfl
@[simp] theorem State.event_rd_ (s source code detail func u1 u2 u3) : (State.event s source code detail func).rd u1 u2 u3 = s.rd u1 u2 u3 := rfl
@[simp] theorem State.event_on_ (s source code detail func u1 u2 u3) : (State.event s source code detail func).on u1 u2 u3 = s.on u1 u2 u3 := rfl
@[simp] theorem State.event_ep_ (s source code detail func u1) : (State.event s source code detail func).ep u1 = s.ep u1 := rfl
@[simp] theorem State.event_ring_ (s source code detail func u1 u2) : (State.event s source code detail func).ring u1 u2 = s.ring u1 u2 := rfl
@[simp] theorem State.event_ctx_ (s source code detail func u1) : (State.event s source code detail func).ctx u1 = s.ctx u1 := rfl
@[simp] theorem State.event_tag_ (s source code detail func u1 u2) : (State.event s source code detail func).tag u1 u2 = s.tag u1 u2 := rfl
@[simp] theorem State.event_vec_ (s source code detail func u1 u2) : (State.event s source code detail func).vec u1 u2 = s.vec u1 u2 := rfl
@[simp] theorem State.event_win_ (s source code detail func u1) : (State.event s source code detail func).win u1 = s.win u1 := rfl
@[simp] theorem State.event_lun_ (s source code detail func u1 u2) : (State.event s source code detail func).lun u1 u2 = s.lun u1 u2 := rfl
@[simp] theorem State.event_chn_ (s source code detail func u1) : (State.event s source code detail func).chn u1 = s.chn u1 := rfl
@[simp] theorem State.event_blk_ (s source code detail func u1) : (State.event s source code detail func).blk u1 = s.blk u1 := rfl
@[simp] theorem State.event_page_ (s source code detail func u1) : (State.event s source code detail func).page u1 = s.page u1 := rfl
@[simp] theorem State.event_fan_ (s source code detail func u1) : (State.event s source code detail func).fan u1 = s.fan u1 := rfl
@[simp] theorem State.event_sc_ (s source code detail func u1) : (State.event s source code detail func).sc u1 = s.sc u1 := rfl
@[simp] theorem State.event_peer_ (s source code detail func u1) : (State.event s source code detail func).peer u1 = s.peer u1 := rfl
@[simp] theorem State.event_health__ (s source code detail func u1) : (State.event s source code detail func).health_ u1 = s.health_ u1 := rfl

/-! setHealth -/
@[simp] theorem State.setHealth_regs (s off v) : (State.setHealth s off v).regs = s.regs := rfl
@[simp] theorem State.setHealth_keptRegs (s off v) : (State.setHealth s off v).keptRegs = s.keptRegs := rfl
@[simp] theorem State.setHealth_pairLow (s off v) : (State.setHealth s off v).pairLow = s.pairLow := rfl
@[simp] theorem State.setHealth_pairHigh (s off v) : (State.setHealth s off v).pairHigh = s.pairHigh := rfl
@[simp] theorem State.setHealth_frame (s off v) : (State.setHealth s off v).frame = s.frame := rfl
@[simp] theorem State.setHealth_board (s off v) : (State.setHealth s off v).board = s.board := rfl
@[simp] theorem State.setHealth_sup (s off v) : (State.setHealth s off v).sup = s.sup := rfl
@[simp] theorem State.setHealth_boot (s off v) : (State.setHealth s off v).boot = s.boot := rfl
@[simp] theorem State.setHealth_pairs (s off v) : (State.setHealth s off v).pairs = s.pairs := rfl
@[simp] theorem State.setHealth_eps (s off v) : (State.setHealth s off v).eps = s.eps := rfl
@[simp] theorem State.setHealth_msix (s off v) : (State.setHealth s off v).msix = s.msix := rfl
@[simp] theorem State.setHealth_wins (s off v) : (State.setHealth s off v).wins = s.wins := rfl
@[simp] theorem State.setHealth_mem (s off v) : (State.setHealth s off v).mem = s.mem := rfl
@[simp] theorem State.setHealth_tags (s off v) : (State.setHealth s off v).tags = s.tags := rfl
@[simp] theorem State.setHealth_rings (s off v) : (State.setHealth s off v).rings = s.rings := rfl
@[simp] theorem State.setHealth_ctxs (s off v) : (State.setHealth s off v).ctxs = s.ctxs := rfl
@[simp] theorem State.setHealth_nextOrder (s off v) : (State.setHealth s off v).nextOrder = s.nextOrder := rfl
@[simp] theorem State.setHealth_recon (s off v) : (State.setHealth s off v).recon = s.recon := rfl
@[simp] theorem State.setHealth_reconSeq (s off v) : (State.setHealth s off v).reconSeq = s.reconSeq := rfl
@[simp] theorem State.setHealth_lost (s off v) : (State.setHealth s off v).lost = s.lost := rfl
@[simp] theorem State.setHealth_lostSeq (s off v) : (State.setHealth s off v).lostSeq = s.lostSeq := rfl
@[simp] theorem State.setHealth_events (s off v) : (State.setHealth s off v).events = s.events := rfl
@[simp] theorem State.setHealth_eventTotal (s off v) : (State.setHealth s off v).eventTotal = s.eventTotal := rfl
@[simp] theorem State.setHealth_saved (s off v) : (State.setHealth s off v).saved = s.saved := rfl
@[simp] theorem State.setHealth_hostTime (s off v) : (State.setHealth s off v).hostTime = s.hostTime := rfl
@[simp] theorem State.setHealth_rrLast (s off v) : (State.setHealth s off v).rrLast = s.rrLast := rfl
@[simp] theorem State.setHealth_rrLeft (s off v) : (State.setHealth s off v).rrLeft = s.rrLeft := rfl
@[simp] theorem State.setHealth_ftl (s off v) : (State.setHealth s off v).ftl = s.ftl := rfl
@[simp] theorem State.setHealth_blks (s off v) : (State.setHealth s off v).blks = s.blks := rfl
@[simp] theorem State.setHealth_pages (s off v) : (State.setHealth s off v).pages = s.pages := rfl
@[simp] theorem State.setHealth_bands (s off v) : (State.setHealth s off v).bands = s.bands := rfl
@[simp] theorem State.setHealth_chns (s off v) : (State.setHealth s off v).chns = s.chns := rfl
@[simp] theorem State.setHealth_luns (s off v) : (State.setHealth s off v).luns = s.luns := rfl
@[simp] theorem State.setHealth_pwr (s off v) : (State.setHealth s off v).pwr = s.pwr := rfl
@[simp] theorem State.setHealth_sensors (s off v) : (State.setHealth s off v).sensors = s.sensors := rfl
@[simp] theorem State.setHealth_thermal (s off v) : (State.setHealth s off v).thermal = s.thermal := rfl
@[simp] theorem State.setHealth_fans (s off v) : (State.setHealth s off v).fans = s.fans := rfl
@[simp] theorem State.setHealth_sideband (s off v) : (State.setHealth s off v).sideband = s.sideband := rfl
@[simp] theorem State.setHealth_dram (s off v) : (State.setHealth s off v).dram = s.dram := rfl
@[simp] theorem State.setHealth_scs (s off v) : (State.setHealth s off v).scs = s.scs := rfl
@[simp] theorem State.setHealth_pool (s off v) : (State.setHealth s off v).pool = s.pool := rfl
@[simp] theorem State.setHealth_thi (s off v) : (State.setHealth s off v).thi = s.thi := rfl
@[simp] theorem State.setHealth_sec (s off v) : (State.setHealth s off v).sec = s.sec := rfl
@[simp] theorem State.setHealth_bst (s off v) : (State.setHealth s off v).bst = s.bst := rfl
@[simp] theorem State.setHealth_decs (s off v) : (State.setHealth s off v).decs = s.decs := rfl
@[simp] theorem State.setHealth_patrol (s off v) : (State.setHealth s off v).patrol = s.patrol := rfl
@[simp] theorem State.setHealth_ucode (s off v) : (State.setHealth s off v).ucode = s.ucode := rfl
@[simp] theorem State.setHealth_sched (s off v) : (State.setHealth s off v).sched = s.sched := rfl
@[simp] theorem State.setHealth_group (s off v) : (State.setHealth s off v).group = s.group := rfl
@[simp] theorem State.setHealth_out (s off v) : (State.setHealth s off v).out = s.out := rfl
@[simp] theorem State.setHealth_free (s off v) : (State.setHealth s off v).free = s.free := rfl
@[simp] theorem State.setHealth_pending (s off v) : (State.setHealth s off v).pending = s.pending := rfl
@[simp] theorem State.setHealth_rd_ (s off v u1 u2 u3) : (State.setHealth s off v).rd u1 u2 u3 = s.rd u1 u2 u3 := rfl
@[simp] theorem State.setHealth_on_ (s off v u1 u2 u3) : (State.setHealth s off v).on u1 u2 u3 = s.on u1 u2 u3 := rfl
@[simp] theorem State.setHealth_ep_ (s off v u1) : (State.setHealth s off v).ep u1 = s.ep u1 := rfl
@[simp] theorem State.setHealth_ring_ (s off v u1 u2) : (State.setHealth s off v).ring u1 u2 = s.ring u1 u2 := rfl
@[simp] theorem State.setHealth_ctx_ (s off v u1) : (State.setHealth s off v).ctx u1 = s.ctx u1 := rfl
@[simp] theorem State.setHealth_tag_ (s off v u1 u2) : (State.setHealth s off v).tag u1 u2 = s.tag u1 u2 := rfl
@[simp] theorem State.setHealth_vec_ (s off v u1 u2) : (State.setHealth s off v).vec u1 u2 = s.vec u1 u2 := rfl
@[simp] theorem State.setHealth_win_ (s off v u1) : (State.setHealth s off v).win u1 = s.win u1 := rfl
@[simp] theorem State.setHealth_lun_ (s off v u1 u2) : (State.setHealth s off v).lun u1 u2 = s.lun u1 u2 := rfl
@[simp] theorem State.setHealth_chn_ (s off v u1) : (State.setHealth s off v).chn u1 = s.chn u1 := rfl
@[simp] theorem State.setHealth_blk_ (s off v u1) : (State.setHealth s off v).blk u1 = s.blk u1 := rfl
@[simp] theorem State.setHealth_page_ (s off v u1) : (State.setHealth s off v).page u1 = s.page u1 := rfl
@[simp] theorem State.setHealth_fan_ (s off v u1) : (State.setHealth s off v).fan u1 = s.fan u1 := rfl
@[simp] theorem State.setHealth_sc_ (s off v u1) : (State.setHealth s off v).sc u1 = s.sc u1 := rfl
@[simp] theorem State.setHealth_peer_ (s off v u1) : (State.setHealth s off v).peer u1 = s.peer u1 := rfl

/-! emit -/
@[simp] theorem State.emit_regs (s o) : (State.emit s o).regs = s.regs := rfl
@[simp] theorem State.emit_keptRegs (s o) : (State.emit s o).keptRegs = s.keptRegs := rfl
@[simp] theorem State.emit_pairLow (s o) : (State.emit s o).pairLow = s.pairLow := rfl
@[simp] theorem State.emit_pairHigh (s o) : (State.emit s o).pairHigh = s.pairHigh := rfl
@[simp] theorem State.emit_frame (s o) : (State.emit s o).frame = s.frame := rfl
@[simp] theorem State.emit_board (s o) : (State.emit s o).board = s.board := rfl
@[simp] theorem State.emit_sup (s o) : (State.emit s o).sup = s.sup := rfl
@[simp] theorem State.emit_boot (s o) : (State.emit s o).boot = s.boot := rfl
@[simp] theorem State.emit_pairs (s o) : (State.emit s o).pairs = s.pairs := rfl
@[simp] theorem State.emit_eps (s o) : (State.emit s o).eps = s.eps := rfl
@[simp] theorem State.emit_msix (s o) : (State.emit s o).msix = s.msix := rfl
@[simp] theorem State.emit_wins (s o) : (State.emit s o).wins = s.wins := rfl
@[simp] theorem State.emit_mem (s o) : (State.emit s o).mem = s.mem := rfl
@[simp] theorem State.emit_tags (s o) : (State.emit s o).tags = s.tags := rfl
@[simp] theorem State.emit_rings (s o) : (State.emit s o).rings = s.rings := rfl
@[simp] theorem State.emit_ctxs (s o) : (State.emit s o).ctxs = s.ctxs := rfl
@[simp] theorem State.emit_nextOrder (s o) : (State.emit s o).nextOrder = s.nextOrder := rfl
@[simp] theorem State.emit_recon (s o) : (State.emit s o).recon = s.recon := rfl
@[simp] theorem State.emit_reconSeq (s o) : (State.emit s o).reconSeq = s.reconSeq := rfl
@[simp] theorem State.emit_lost (s o) : (State.emit s o).lost = s.lost := rfl
@[simp] theorem State.emit_lostSeq (s o) : (State.emit s o).lostSeq = s.lostSeq := rfl
@[simp] theorem State.emit_events (s o) : (State.emit s o).events = s.events := rfl
@[simp] theorem State.emit_eventTotal (s o) : (State.emit s o).eventTotal = s.eventTotal := rfl
@[simp] theorem State.emit_health (s o) : (State.emit s o).health = s.health := rfl
@[simp] theorem State.emit_saved (s o) : (State.emit s o).saved = s.saved := rfl
@[simp] theorem State.emit_hostTime (s o) : (State.emit s o).hostTime = s.hostTime := rfl
@[simp] theorem State.emit_rrLast (s o) : (State.emit s o).rrLast = s.rrLast := rfl
@[simp] theorem State.emit_rrLeft (s o) : (State.emit s o).rrLeft = s.rrLeft := rfl
@[simp] theorem State.emit_ftl (s o) : (State.emit s o).ftl = s.ftl := rfl
@[simp] theorem State.emit_blks (s o) : (State.emit s o).blks = s.blks := rfl
@[simp] theorem State.emit_pages (s o) : (State.emit s o).pages = s.pages := rfl
@[simp] theorem State.emit_bands (s o) : (State.emit s o).bands = s.bands := rfl
@[simp] theorem State.emit_chns (s o) : (State.emit s o).chns = s.chns := rfl
@[simp] theorem State.emit_luns (s o) : (State.emit s o).luns = s.luns := rfl
@[simp] theorem State.emit_pwr (s o) : (State.emit s o).pwr = s.pwr := rfl
@[simp] theorem State.emit_sensors (s o) : (State.emit s o).sensors = s.sensors := rfl
@[simp] theorem State.emit_thermal (s o) : (State.emit s o).thermal = s.thermal := rfl
@[simp] theorem State.emit_fans (s o) : (State.emit s o).fans = s.fans := rfl
@[simp] theorem State.emit_sideband (s o) : (State.emit s o).sideband = s.sideband := rfl
@[simp] theorem State.emit_dram (s o) : (State.emit s o).dram = s.dram := rfl
@[simp] theorem State.emit_scs (s o) : (State.emit s o).scs = s.scs := rfl
@[simp] theorem State.emit_pool (s o) : (State.emit s o).pool = s.pool := rfl
@[simp] theorem State.emit_thi (s o) : (State.emit s o).thi = s.thi := rfl
@[simp] theorem State.emit_sec (s o) : (State.emit s o).sec = s.sec := rfl
@[simp] theorem State.emit_bst (s o) : (State.emit s o).bst = s.bst := rfl
@[simp] theorem State.emit_decs (s o) : (State.emit s o).decs = s.decs := rfl
@[simp] theorem State.emit_patrol (s o) : (State.emit s o).patrol = s.patrol := rfl
@[simp] theorem State.emit_ucode (s o) : (State.emit s o).ucode = s.ucode := rfl
@[simp] theorem State.emit_sched (s o) : (State.emit s o).sched = s.sched := rfl
@[simp] theorem State.emit_group (s o) : (State.emit s o).group = s.group := rfl
@[simp] theorem State.emit_free (s o) : (State.emit s o).free = s.free := rfl
@[simp] theorem State.emit_pending (s o) : (State.emit s o).pending = s.pending := rfl
@[simp] theorem State.emit_rd_ (s o u1 u2 u3) : (State.emit s o).rd u1 u2 u3 = s.rd u1 u2 u3 := rfl
@[simp] theorem State.emit_on_ (s o u1 u2 u3) : (State.emit s o).on u1 u2 u3 = s.on u1 u2 u3 := rfl
@[simp] theorem State.emit_ep_ (s o u1) : (State.emit s o).ep u1 = s.ep u1 := rfl
@[simp] theorem State.emit_ring_ (s o u1 u2) : (State.emit s o).ring u1 u2 = s.ring u1 u2 := rfl
@[simp] theorem State.emit_ctx_ (s o u1) : (State.emit s o).ctx u1 = s.ctx u1 := rfl
@[simp] theorem State.emit_tag_ (s o u1 u2) : (State.emit s o).tag u1 u2 = s.tag u1 u2 := rfl
@[simp] theorem State.emit_vec_ (s o u1 u2) : (State.emit s o).vec u1 u2 = s.vec u1 u2 := rfl
@[simp] theorem State.emit_win_ (s o u1) : (State.emit s o).win u1 = s.win u1 := rfl
@[simp] theorem State.emit_lun_ (s o u1 u2) : (State.emit s o).lun u1 u2 = s.lun u1 u2 := rfl
@[simp] theorem State.emit_chn_ (s o u1) : (State.emit s o).chn u1 = s.chn u1 := rfl
@[simp] theorem State.emit_blk_ (s o u1) : (State.emit s o).blk u1 = s.blk u1 := rfl
@[simp] theorem State.emit_page_ (s o u1) : (State.emit s o).page u1 = s.page u1 := rfl
@[simp] theorem State.emit_fan_ (s o u1) : (State.emit s o).fan u1 = s.fan u1 := rfl
@[simp] theorem State.emit_sc_ (s o u1) : (State.emit s o).sc u1 = s.sc u1 := rfl
@[simp] theorem State.emit_peer_ (s o u1) : (State.emit s o).peer u1 = s.peer u1 := rfl
@[simp] theorem State.emit_health__ (s o u1) : (State.emit s o).health_ u1 = s.health_ u1 := rfl

/-! freeNext -/
@[simp] theorem State.freeNext_regs (s) : (State.freeNext s).regs = s.regs := rfl
@[simp] theorem State.freeNext_keptRegs (s) : (State.freeNext s).keptRegs = s.keptRegs := rfl
@[simp] theorem State.freeNext_pairLow (s) : (State.freeNext s).pairLow = s.pairLow := rfl
@[simp] theorem State.freeNext_pairHigh (s) : (State.freeNext s).pairHigh = s.pairHigh := rfl
@[simp] theorem State.freeNext_frame (s) : (State.freeNext s).frame = s.frame := rfl
@[simp] theorem State.freeNext_board (s) : (State.freeNext s).board = s.board := rfl
@[simp] theorem State.freeNext_sup (s) : (State.freeNext s).sup = s.sup := rfl
@[simp] theorem State.freeNext_boot (s) : (State.freeNext s).boot = s.boot := rfl
@[simp] theorem State.freeNext_pairs (s) : (State.freeNext s).pairs = s.pairs := rfl
@[simp] theorem State.freeNext_eps (s) : (State.freeNext s).eps = s.eps := rfl
@[simp] theorem State.freeNext_msix (s) : (State.freeNext s).msix = s.msix := rfl
@[simp] theorem State.freeNext_wins (s) : (State.freeNext s).wins = s.wins := rfl
@[simp] theorem State.freeNext_mem (s) : (State.freeNext s).mem = s.mem := rfl
@[simp] theorem State.freeNext_tags (s) : (State.freeNext s).tags = s.tags := rfl
@[simp] theorem State.freeNext_rings (s) : (State.freeNext s).rings = s.rings := rfl
@[simp] theorem State.freeNext_ctxs (s) : (State.freeNext s).ctxs = s.ctxs := rfl
@[simp] theorem State.freeNext_nextOrder (s) : (State.freeNext s).nextOrder = s.nextOrder := rfl
@[simp] theorem State.freeNext_recon (s) : (State.freeNext s).recon = s.recon := rfl
@[simp] theorem State.freeNext_reconSeq (s) : (State.freeNext s).reconSeq = s.reconSeq := rfl
@[simp] theorem State.freeNext_lost (s) : (State.freeNext s).lost = s.lost := rfl
@[simp] theorem State.freeNext_lostSeq (s) : (State.freeNext s).lostSeq = s.lostSeq := rfl
@[simp] theorem State.freeNext_events (s) : (State.freeNext s).events = s.events := rfl
@[simp] theorem State.freeNext_eventTotal (s) : (State.freeNext s).eventTotal = s.eventTotal := rfl
@[simp] theorem State.freeNext_health (s) : (State.freeNext s).health = s.health := rfl
@[simp] theorem State.freeNext_saved (s) : (State.freeNext s).saved = s.saved := rfl
@[simp] theorem State.freeNext_hostTime (s) : (State.freeNext s).hostTime = s.hostTime := rfl
@[simp] theorem State.freeNext_rrLast (s) : (State.freeNext s).rrLast = s.rrLast := rfl
@[simp] theorem State.freeNext_rrLeft (s) : (State.freeNext s).rrLeft = s.rrLeft := rfl
@[simp] theorem State.freeNext_ftl (s) : (State.freeNext s).ftl = s.ftl := rfl
@[simp] theorem State.freeNext_blks (s) : (State.freeNext s).blks = s.blks := rfl
@[simp] theorem State.freeNext_pages (s) : (State.freeNext s).pages = s.pages := rfl
@[simp] theorem State.freeNext_bands (s) : (State.freeNext s).bands = s.bands := rfl
@[simp] theorem State.freeNext_chns (s) : (State.freeNext s).chns = s.chns := rfl
@[simp] theorem State.freeNext_luns (s) : (State.freeNext s).luns = s.luns := rfl
@[simp] theorem State.freeNext_pwr (s) : (State.freeNext s).pwr = s.pwr := rfl
@[simp] theorem State.freeNext_sensors (s) : (State.freeNext s).sensors = s.sensors := rfl
@[simp] theorem State.freeNext_thermal (s) : (State.freeNext s).thermal = s.thermal := rfl
@[simp] theorem State.freeNext_fans (s) : (State.freeNext s).fans = s.fans := rfl
@[simp] theorem State.freeNext_sideband (s) : (State.freeNext s).sideband = s.sideband := rfl
@[simp] theorem State.freeNext_dram (s) : (State.freeNext s).dram = s.dram := rfl
@[simp] theorem State.freeNext_scs (s) : (State.freeNext s).scs = s.scs := rfl
@[simp] theorem State.freeNext_pool (s) : (State.freeNext s).pool = s.pool := rfl
@[simp] theorem State.freeNext_thi (s) : (State.freeNext s).thi = s.thi := rfl
@[simp] theorem State.freeNext_sec (s) : (State.freeNext s).sec = s.sec := rfl
@[simp] theorem State.freeNext_bst (s) : (State.freeNext s).bst = s.bst := rfl
@[simp] theorem State.freeNext_decs (s) : (State.freeNext s).decs = s.decs := rfl
@[simp] theorem State.freeNext_patrol (s) : (State.freeNext s).patrol = s.patrol := rfl
@[simp] theorem State.freeNext_ucode (s) : (State.freeNext s).ucode = s.ucode := rfl
@[simp] theorem State.freeNext_sched (s) : (State.freeNext s).sched = s.sched := rfl
@[simp] theorem State.freeNext_group (s) : (State.freeNext s).group = s.group := rfl
@[simp] theorem State.freeNext_out (s) : (State.freeNext s).out = s.out := rfl
@[simp] theorem State.freeNext_pending (s) : (State.freeNext s).pending = s.pending := rfl
@[simp] theorem State.freeNext_rd_ (s u1 u2 u3) : (State.freeNext s).rd u1 u2 u3 = s.rd u1 u2 u3 := rfl
@[simp] theorem State.freeNext_on_ (s u1 u2 u3) : (State.freeNext s).on u1 u2 u3 = s.on u1 u2 u3 := rfl
@[simp] theorem State.freeNext_ep_ (s u1) : (State.freeNext s).ep u1 = s.ep u1 := rfl
@[simp] theorem State.freeNext_ring_ (s u1 u2) : (State.freeNext s).ring u1 u2 = s.ring u1 u2 := rfl
@[simp] theorem State.freeNext_ctx_ (s u1) : (State.freeNext s).ctx u1 = s.ctx u1 := rfl
@[simp] theorem State.freeNext_tag_ (s u1 u2) : (State.freeNext s).tag u1 u2 = s.tag u1 u2 := rfl
@[simp] theorem State.freeNext_vec_ (s u1 u2) : (State.freeNext s).vec u1 u2 = s.vec u1 u2 := rfl
@[simp] theorem State.freeNext_win_ (s u1) : (State.freeNext s).win u1 = s.win u1 := rfl
@[simp] theorem State.freeNext_lun_ (s u1 u2) : (State.freeNext s).lun u1 u2 = s.lun u1 u2 := rfl
@[simp] theorem State.freeNext_chn_ (s u1) : (State.freeNext s).chn u1 = s.chn u1 := rfl
@[simp] theorem State.freeNext_blk_ (s u1) : (State.freeNext s).blk u1 = s.blk u1 := rfl
@[simp] theorem State.freeNext_page_ (s u1) : (State.freeNext s).page u1 = s.page u1 := rfl
@[simp] theorem State.freeNext_fan_ (s u1) : (State.freeNext s).fan u1 = s.fan u1 := rfl
@[simp] theorem State.freeNext_sc_ (s u1) : (State.freeNext s).sc u1 = s.sc u1 := rfl
@[simp] theorem State.freeNext_peer_ (s u1) : (State.freeNext s).peer u1 = s.peer u1 := rfl
@[simp] theorem State.freeNext_health__ (s u1) : (State.freeNext s).health_ u1 = s.health_ u1 := rfl

/-! setEp -/
@[simp] theorem State.setEp_regs (s f e) : (State.setEp s f e).regs = s.regs := rfl
@[simp] theorem State.setEp_keptRegs (s f e) : (State.setEp s f e).keptRegs = s.keptRegs := rfl
@[simp] theorem State.setEp_pairLow (s f e) : (State.setEp s f e).pairLow = s.pairLow := rfl
@[simp] theorem State.setEp_pairHigh (s f e) : (State.setEp s f e).pairHigh = s.pairHigh := rfl
@[simp] theorem State.setEp_frame (s f e) : (State.setEp s f e).frame = s.frame := rfl
@[simp] theorem State.setEp_board (s f e) : (State.setEp s f e).board = s.board := rfl
@[simp] theorem State.setEp_sup (s f e) : (State.setEp s f e).sup = s.sup := rfl
@[simp] theorem State.setEp_boot (s f e) : (State.setEp s f e).boot = s.boot := rfl
@[simp] theorem State.setEp_pairs (s f e) : (State.setEp s f e).pairs = s.pairs := rfl
@[simp] theorem State.setEp_msix (s f e) : (State.setEp s f e).msix = s.msix := rfl
@[simp] theorem State.setEp_wins (s f e) : (State.setEp s f e).wins = s.wins := rfl
@[simp] theorem State.setEp_mem (s f e) : (State.setEp s f e).mem = s.mem := rfl
@[simp] theorem State.setEp_tags (s f e) : (State.setEp s f e).tags = s.tags := rfl
@[simp] theorem State.setEp_rings (s f e) : (State.setEp s f e).rings = s.rings := rfl
@[simp] theorem State.setEp_ctxs (s f e) : (State.setEp s f e).ctxs = s.ctxs := rfl
@[simp] theorem State.setEp_nextOrder (s f e) : (State.setEp s f e).nextOrder = s.nextOrder := rfl
@[simp] theorem State.setEp_recon (s f e) : (State.setEp s f e).recon = s.recon := rfl
@[simp] theorem State.setEp_reconSeq (s f e) : (State.setEp s f e).reconSeq = s.reconSeq := rfl
@[simp] theorem State.setEp_lost (s f e) : (State.setEp s f e).lost = s.lost := rfl
@[simp] theorem State.setEp_lostSeq (s f e) : (State.setEp s f e).lostSeq = s.lostSeq := rfl
@[simp] theorem State.setEp_events (s f e) : (State.setEp s f e).events = s.events := rfl
@[simp] theorem State.setEp_eventTotal (s f e) : (State.setEp s f e).eventTotal = s.eventTotal := rfl
@[simp] theorem State.setEp_health (s f e) : (State.setEp s f e).health = s.health := rfl
@[simp] theorem State.setEp_saved (s f e) : (State.setEp s f e).saved = s.saved := rfl
@[simp] theorem State.setEp_hostTime (s f e) : (State.setEp s f e).hostTime = s.hostTime := rfl
@[simp] theorem State.setEp_rrLast (s f e) : (State.setEp s f e).rrLast = s.rrLast := rfl
@[simp] theorem State.setEp_rrLeft (s f e) : (State.setEp s f e).rrLeft = s.rrLeft := rfl
@[simp] theorem State.setEp_ftl (s f e) : (State.setEp s f e).ftl = s.ftl := rfl
@[simp] theorem State.setEp_blks (s f e) : (State.setEp s f e).blks = s.blks := rfl
@[simp] theorem State.setEp_pages (s f e) : (State.setEp s f e).pages = s.pages := rfl
@[simp] theorem State.setEp_bands (s f e) : (State.setEp s f e).bands = s.bands := rfl
@[simp] theorem State.setEp_chns (s f e) : (State.setEp s f e).chns = s.chns := rfl
@[simp] theorem State.setEp_luns (s f e) : (State.setEp s f e).luns = s.luns := rfl
@[simp] theorem State.setEp_pwr (s f e) : (State.setEp s f e).pwr = s.pwr := rfl
@[simp] theorem State.setEp_sensors (s f e) : (State.setEp s f e).sensors = s.sensors := rfl
@[simp] theorem State.setEp_thermal (s f e) : (State.setEp s f e).thermal = s.thermal := rfl
@[simp] theorem State.setEp_fans (s f e) : (State.setEp s f e).fans = s.fans := rfl
@[simp] theorem State.setEp_sideband (s f e) : (State.setEp s f e).sideband = s.sideband := rfl
@[simp] theorem State.setEp_dram (s f e) : (State.setEp s f e).dram = s.dram := rfl
@[simp] theorem State.setEp_scs (s f e) : (State.setEp s f e).scs = s.scs := rfl
@[simp] theorem State.setEp_pool (s f e) : (State.setEp s f e).pool = s.pool := rfl
@[simp] theorem State.setEp_thi (s f e) : (State.setEp s f e).thi = s.thi := rfl
@[simp] theorem State.setEp_sec (s f e) : (State.setEp s f e).sec = s.sec := rfl
@[simp] theorem State.setEp_bst (s f e) : (State.setEp s f e).bst = s.bst := rfl
@[simp] theorem State.setEp_decs (s f e) : (State.setEp s f e).decs = s.decs := rfl
@[simp] theorem State.setEp_patrol (s f e) : (State.setEp s f e).patrol = s.patrol := rfl
@[simp] theorem State.setEp_ucode (s f e) : (State.setEp s f e).ucode = s.ucode := rfl
@[simp] theorem State.setEp_sched (s f e) : (State.setEp s f e).sched = s.sched := rfl
@[simp] theorem State.setEp_group (s f e) : (State.setEp s f e).group = s.group := rfl
@[simp] theorem State.setEp_out (s f e) : (State.setEp s f e).out = s.out := rfl
@[simp] theorem State.setEp_free (s f e) : (State.setEp s f e).free = s.free := rfl
@[simp] theorem State.setEp_pending (s f e) : (State.setEp s f e).pending = s.pending := rfl
@[simp] theorem State.setEp_rd_ (s f e u1 u2 u3) : (State.setEp s f e).rd u1 u2 u3 = s.rd u1 u2 u3 := rfl
@[simp] theorem State.setEp_on_ (s f e u1 u2 u3) : (State.setEp s f e).on u1 u2 u3 = s.on u1 u2 u3 := rfl
@[simp] theorem State.setEp_ring_ (s f e u1 u2) : (State.setEp s f e).ring u1 u2 = s.ring u1 u2 := rfl
@[simp] theorem State.setEp_ctx_ (s f e u1) : (State.setEp s f e).ctx u1 = s.ctx u1 := rfl
@[simp] theorem State.setEp_tag_ (s f e u1 u2) : (State.setEp s f e).tag u1 u2 = s.tag u1 u2 := rfl
@[simp] theorem State.setEp_vec_ (s f e u1 u2) : (State.setEp s f e).vec u1 u2 = s.vec u1 u2 := rfl
@[simp] theorem State.setEp_win_ (s f e u1) : (State.setEp s f e).win u1 = s.win u1 := rfl
@[simp] theorem State.setEp_lun_ (s f e u1 u2) : (State.setEp s f e).lun u1 u2 = s.lun u1 u2 := rfl
@[simp] theorem State.setEp_chn_ (s f e u1) : (State.setEp s f e).chn u1 = s.chn u1 := rfl
@[simp] theorem State.setEp_blk_ (s f e u1) : (State.setEp s f e).blk u1 = s.blk u1 := rfl
@[simp] theorem State.setEp_page_ (s f e u1) : (State.setEp s f e).page u1 = s.page u1 := rfl
@[simp] theorem State.setEp_fan_ (s f e u1) : (State.setEp s f e).fan u1 = s.fan u1 := rfl
@[simp] theorem State.setEp_sc_ (s f e u1) : (State.setEp s f e).sc u1 = s.sc u1 := rfl
@[simp] theorem State.setEp_peer_ (s f e u1) : (State.setEp s f e).peer u1 = s.peer u1 := rfl
@[simp] theorem State.setEp_health__ (s f e u1) : (State.setEp s f e).health_ u1 = s.health_ u1 := rfl

/-! setRing -/
@[simp] theorem State.setRing_regs (s f n r) : (State.setRing s f n r).regs = s.regs := rfl
@[simp] theorem State.setRing_keptRegs (s f n r) : (State.setRing s f n r).keptRegs = s.keptRegs := rfl
@[simp] theorem State.setRing_pairLow (s f n r) : (State.setRing s f n r).pairLow = s.pairLow := rfl
@[simp] theorem State.setRing_pairHigh (s f n r) : (State.setRing s f n r).pairHigh = s.pairHigh := rfl
@[simp] theorem State.setRing_frame (s f n r) : (State.setRing s f n r).frame = s.frame := rfl
@[simp] theorem State.setRing_board (s f n r) : (State.setRing s f n r).board = s.board := rfl
@[simp] theorem State.setRing_sup (s f n r) : (State.setRing s f n r).sup = s.sup := rfl
@[simp] theorem State.setRing_boot (s f n r) : (State.setRing s f n r).boot = s.boot := rfl
@[simp] theorem State.setRing_pairs (s f n r) : (State.setRing s f n r).pairs = s.pairs := rfl
@[simp] theorem State.setRing_eps (s f n r) : (State.setRing s f n r).eps = s.eps := rfl
@[simp] theorem State.setRing_msix (s f n r) : (State.setRing s f n r).msix = s.msix := rfl
@[simp] theorem State.setRing_wins (s f n r) : (State.setRing s f n r).wins = s.wins := rfl
@[simp] theorem State.setRing_mem (s f n r) : (State.setRing s f n r).mem = s.mem := rfl
@[simp] theorem State.setRing_tags (s f n r) : (State.setRing s f n r).tags = s.tags := rfl
@[simp] theorem State.setRing_ctxs (s f n r) : (State.setRing s f n r).ctxs = s.ctxs := rfl
@[simp] theorem State.setRing_nextOrder (s f n r) : (State.setRing s f n r).nextOrder = s.nextOrder := rfl
@[simp] theorem State.setRing_recon (s f n r) : (State.setRing s f n r).recon = s.recon := rfl
@[simp] theorem State.setRing_reconSeq (s f n r) : (State.setRing s f n r).reconSeq = s.reconSeq := rfl
@[simp] theorem State.setRing_lost (s f n r) : (State.setRing s f n r).lost = s.lost := rfl
@[simp] theorem State.setRing_lostSeq (s f n r) : (State.setRing s f n r).lostSeq = s.lostSeq := rfl
@[simp] theorem State.setRing_events (s f n r) : (State.setRing s f n r).events = s.events := rfl
@[simp] theorem State.setRing_eventTotal (s f n r) : (State.setRing s f n r).eventTotal = s.eventTotal := rfl
@[simp] theorem State.setRing_health (s f n r) : (State.setRing s f n r).health = s.health := rfl
@[simp] theorem State.setRing_saved (s f n r) : (State.setRing s f n r).saved = s.saved := rfl
@[simp] theorem State.setRing_hostTime (s f n r) : (State.setRing s f n r).hostTime = s.hostTime := rfl
@[simp] theorem State.setRing_rrLast (s f n r) : (State.setRing s f n r).rrLast = s.rrLast := rfl
@[simp] theorem State.setRing_rrLeft (s f n r) : (State.setRing s f n r).rrLeft = s.rrLeft := rfl
@[simp] theorem State.setRing_ftl (s f n r) : (State.setRing s f n r).ftl = s.ftl := rfl
@[simp] theorem State.setRing_blks (s f n r) : (State.setRing s f n r).blks = s.blks := rfl
@[simp] theorem State.setRing_pages (s f n r) : (State.setRing s f n r).pages = s.pages := rfl
@[simp] theorem State.setRing_bands (s f n r) : (State.setRing s f n r).bands = s.bands := rfl
@[simp] theorem State.setRing_chns (s f n r) : (State.setRing s f n r).chns = s.chns := rfl
@[simp] theorem State.setRing_luns (s f n r) : (State.setRing s f n r).luns = s.luns := rfl
@[simp] theorem State.setRing_pwr (s f n r) : (State.setRing s f n r).pwr = s.pwr := rfl
@[simp] theorem State.setRing_sensors (s f n r) : (State.setRing s f n r).sensors = s.sensors := rfl
@[simp] theorem State.setRing_thermal (s f n r) : (State.setRing s f n r).thermal = s.thermal := rfl
@[simp] theorem State.setRing_fans (s f n r) : (State.setRing s f n r).fans = s.fans := rfl
@[simp] theorem State.setRing_sideband (s f n r) : (State.setRing s f n r).sideband = s.sideband := rfl
@[simp] theorem State.setRing_dram (s f n r) : (State.setRing s f n r).dram = s.dram := rfl
@[simp] theorem State.setRing_scs (s f n r) : (State.setRing s f n r).scs = s.scs := rfl
@[simp] theorem State.setRing_pool (s f n r) : (State.setRing s f n r).pool = s.pool := rfl
@[simp] theorem State.setRing_thi (s f n r) : (State.setRing s f n r).thi = s.thi := rfl
@[simp] theorem State.setRing_sec (s f n r) : (State.setRing s f n r).sec = s.sec := rfl
@[simp] theorem State.setRing_bst (s f n r) : (State.setRing s f n r).bst = s.bst := rfl
@[simp] theorem State.setRing_decs (s f n r) : (State.setRing s f n r).decs = s.decs := rfl
@[simp] theorem State.setRing_patrol (s f n r) : (State.setRing s f n r).patrol = s.patrol := rfl
@[simp] theorem State.setRing_ucode (s f n r) : (State.setRing s f n r).ucode = s.ucode := rfl
@[simp] theorem State.setRing_sched (s f n r) : (State.setRing s f n r).sched = s.sched := rfl
@[simp] theorem State.setRing_group (s f n r) : (State.setRing s f n r).group = s.group := rfl
@[simp] theorem State.setRing_out (s f n r) : (State.setRing s f n r).out = s.out := rfl
@[simp] theorem State.setRing_free (s f n r) : (State.setRing s f n r).free = s.free := rfl
@[simp] theorem State.setRing_pending (s f n r) : (State.setRing s f n r).pending = s.pending := rfl
@[simp] theorem State.setRing_rd_ (s f n r u1 u2 u3) : (State.setRing s f n r).rd u1 u2 u3 = s.rd u1 u2 u3 := rfl
@[simp] theorem State.setRing_on_ (s f n r u1 u2 u3) : (State.setRing s f n r).on u1 u2 u3 = s.on u1 u2 u3 := rfl
@[simp] theorem State.setRing_ep_ (s f n r u1) : (State.setRing s f n r).ep u1 = s.ep u1 := rfl
@[simp] theorem State.setRing_ctx_ (s f n r u1) : (State.setRing s f n r).ctx u1 = s.ctx u1 := rfl
@[simp] theorem State.setRing_tag_ (s f n r u1 u2) : (State.setRing s f n r).tag u1 u2 = s.tag u1 u2 := rfl
@[simp] theorem State.setRing_vec_ (s f n r u1 u2) : (State.setRing s f n r).vec u1 u2 = s.vec u1 u2 := rfl
@[simp] theorem State.setRing_win_ (s f n r u1) : (State.setRing s f n r).win u1 = s.win u1 := rfl
@[simp] theorem State.setRing_lun_ (s f n r u1 u2) : (State.setRing s f n r).lun u1 u2 = s.lun u1 u2 := rfl
@[simp] theorem State.setRing_chn_ (s f n r u1) : (State.setRing s f n r).chn u1 = s.chn u1 := rfl
@[simp] theorem State.setRing_blk_ (s f n r u1) : (State.setRing s f n r).blk u1 = s.blk u1 := rfl
@[simp] theorem State.setRing_page_ (s f n r u1) : (State.setRing s f n r).page u1 = s.page u1 := rfl
@[simp] theorem State.setRing_fan_ (s f n r u1) : (State.setRing s f n r).fan u1 = s.fan u1 := rfl
@[simp] theorem State.setRing_sc_ (s f n r u1) : (State.setRing s f n r).sc u1 = s.sc u1 := rfl
@[simp] theorem State.setRing_peer_ (s f n r u1) : (State.setRing s f n r).peer u1 = s.peer u1 := rfl
@[simp] theorem State.setRing_health__ (s f n r u1) : (State.setRing s f n r).health_ u1 = s.health_ u1 := rfl

/-! setCtx -/
@[simp] theorem State.setCtx_regs (s c x) : (State.setCtx s c x).regs = s.regs := rfl
@[simp] theorem State.setCtx_keptRegs (s c x) : (State.setCtx s c x).keptRegs = s.keptRegs := rfl
@[simp] theorem State.setCtx_pairLow (s c x) : (State.setCtx s c x).pairLow = s.pairLow := rfl
@[simp] theorem State.setCtx_pairHigh (s c x) : (State.setCtx s c x).pairHigh = s.pairHigh := rfl
@[simp] theorem State.setCtx_frame (s c x) : (State.setCtx s c x).frame = s.frame := rfl
@[simp] theorem State.setCtx_board (s c x) : (State.setCtx s c x).board = s.board := rfl
@[simp] theorem State.setCtx_sup (s c x) : (State.setCtx s c x).sup = s.sup := rfl
@[simp] theorem State.setCtx_boot (s c x) : (State.setCtx s c x).boot = s.boot := rfl
@[simp] theorem State.setCtx_pairs (s c x) : (State.setCtx s c x).pairs = s.pairs := rfl
@[simp] theorem State.setCtx_eps (s c x) : (State.setCtx s c x).eps = s.eps := rfl
@[simp] theorem State.setCtx_msix (s c x) : (State.setCtx s c x).msix = s.msix := rfl
@[simp] theorem State.setCtx_wins (s c x) : (State.setCtx s c x).wins = s.wins := rfl
@[simp] theorem State.setCtx_mem (s c x) : (State.setCtx s c x).mem = s.mem := rfl
@[simp] theorem State.setCtx_tags (s c x) : (State.setCtx s c x).tags = s.tags := rfl
@[simp] theorem State.setCtx_rings (s c x) : (State.setCtx s c x).rings = s.rings := rfl
@[simp] theorem State.setCtx_nextOrder (s c x) : (State.setCtx s c x).nextOrder = s.nextOrder := rfl
@[simp] theorem State.setCtx_recon (s c x) : (State.setCtx s c x).recon = s.recon := rfl
@[simp] theorem State.setCtx_reconSeq (s c x) : (State.setCtx s c x).reconSeq = s.reconSeq := rfl
@[simp] theorem State.setCtx_lost (s c x) : (State.setCtx s c x).lost = s.lost := rfl
@[simp] theorem State.setCtx_lostSeq (s c x) : (State.setCtx s c x).lostSeq = s.lostSeq := rfl
@[simp] theorem State.setCtx_events (s c x) : (State.setCtx s c x).events = s.events := rfl
@[simp] theorem State.setCtx_eventTotal (s c x) : (State.setCtx s c x).eventTotal = s.eventTotal := rfl
@[simp] theorem State.setCtx_health (s c x) : (State.setCtx s c x).health = s.health := rfl
@[simp] theorem State.setCtx_saved (s c x) : (State.setCtx s c x).saved = s.saved := rfl
@[simp] theorem State.setCtx_hostTime (s c x) : (State.setCtx s c x).hostTime = s.hostTime := rfl
@[simp] theorem State.setCtx_rrLast (s c x) : (State.setCtx s c x).rrLast = s.rrLast := rfl
@[simp] theorem State.setCtx_rrLeft (s c x) : (State.setCtx s c x).rrLeft = s.rrLeft := rfl
@[simp] theorem State.setCtx_ftl (s c x) : (State.setCtx s c x).ftl = s.ftl := rfl
@[simp] theorem State.setCtx_blks (s c x) : (State.setCtx s c x).blks = s.blks := rfl
@[simp] theorem State.setCtx_pages (s c x) : (State.setCtx s c x).pages = s.pages := rfl
@[simp] theorem State.setCtx_bands (s c x) : (State.setCtx s c x).bands = s.bands := rfl
@[simp] theorem State.setCtx_chns (s c x) : (State.setCtx s c x).chns = s.chns := rfl
@[simp] theorem State.setCtx_luns (s c x) : (State.setCtx s c x).luns = s.luns := rfl
@[simp] theorem State.setCtx_pwr (s c x) : (State.setCtx s c x).pwr = s.pwr := rfl
@[simp] theorem State.setCtx_sensors (s c x) : (State.setCtx s c x).sensors = s.sensors := rfl
@[simp] theorem State.setCtx_thermal (s c x) : (State.setCtx s c x).thermal = s.thermal := rfl
@[simp] theorem State.setCtx_fans (s c x) : (State.setCtx s c x).fans = s.fans := rfl
@[simp] theorem State.setCtx_sideband (s c x) : (State.setCtx s c x).sideband = s.sideband := rfl
@[simp] theorem State.setCtx_dram (s c x) : (State.setCtx s c x).dram = s.dram := rfl
@[simp] theorem State.setCtx_scs (s c x) : (State.setCtx s c x).scs = s.scs := rfl
@[simp] theorem State.setCtx_pool (s c x) : (State.setCtx s c x).pool = s.pool := rfl
@[simp] theorem State.setCtx_thi (s c x) : (State.setCtx s c x).thi = s.thi := rfl
@[simp] theorem State.setCtx_sec (s c x) : (State.setCtx s c x).sec = s.sec := rfl
@[simp] theorem State.setCtx_bst (s c x) : (State.setCtx s c x).bst = s.bst := rfl
@[simp] theorem State.setCtx_decs (s c x) : (State.setCtx s c x).decs = s.decs := rfl
@[simp] theorem State.setCtx_patrol (s c x) : (State.setCtx s c x).patrol = s.patrol := rfl
@[simp] theorem State.setCtx_ucode (s c x) : (State.setCtx s c x).ucode = s.ucode := rfl
@[simp] theorem State.setCtx_sched (s c x) : (State.setCtx s c x).sched = s.sched := rfl
@[simp] theorem State.setCtx_group (s c x) : (State.setCtx s c x).group = s.group := rfl
@[simp] theorem State.setCtx_out (s c x) : (State.setCtx s c x).out = s.out := rfl
@[simp] theorem State.setCtx_free (s c x) : (State.setCtx s c x).free = s.free := rfl
@[simp] theorem State.setCtx_pending (s c x) : (State.setCtx s c x).pending = s.pending := rfl
@[simp] theorem State.setCtx_rd_ (s c x u1 u2 u3) : (State.setCtx s c x).rd u1 u2 u3 = s.rd u1 u2 u3 := rfl
@[simp] theorem State.setCtx_on_ (s c x u1 u2 u3) : (State.setCtx s c x).on u1 u2 u3 = s.on u1 u2 u3 := rfl
@[simp] theorem State.setCtx_ep_ (s c x u1) : (State.setCtx s c x).ep u1 = s.ep u1 := rfl
@[simp] theorem State.setCtx_ring_ (s c x u1 u2) : (State.setCtx s c x).ring u1 u2 = s.ring u1 u2 := rfl
@[simp] theorem State.setCtx_tag_ (s c x u1 u2) : (State.setCtx s c x).tag u1 u2 = s.tag u1 u2 := rfl
@[simp] theorem State.setCtx_vec_ (s c x u1 u2) : (State.setCtx s c x).vec u1 u2 = s.vec u1 u2 := rfl
@[simp] theorem State.setCtx_win_ (s c x u1) : (State.setCtx s c x).win u1 = s.win u1 := rfl
@[simp] theorem State.setCtx_lun_ (s c x u1 u2) : (State.setCtx s c x).lun u1 u2 = s.lun u1 u2 := rfl
@[simp] theorem State.setCtx_chn_ (s c x u1) : (State.setCtx s c x).chn u1 = s.chn u1 := rfl
@[simp] theorem State.setCtx_blk_ (s c x u1) : (State.setCtx s c x).blk u1 = s.blk u1 := rfl
@[simp] theorem State.setCtx_page_ (s c x u1) : (State.setCtx s c x).page u1 = s.page u1 := rfl
@[simp] theorem State.setCtx_fan_ (s c x u1) : (State.setCtx s c x).fan u1 = s.fan u1 := rfl
@[simp] theorem State.setCtx_sc_ (s c x u1) : (State.setCtx s c x).sc u1 = s.sc u1 := rfl
@[simp] theorem State.setCtx_peer_ (s c x u1) : (State.setCtx s c x).peer u1 = s.peer u1 := rfl
@[simp] theorem State.setCtx_health__ (s c x u1) : (State.setCtx s c x).health_ u1 = s.health_ u1 := rfl

/-! setTag -/
@[simp] theorem State.setTag_regs (s f t u) : (State.setTag s f t u).regs = s.regs := rfl
@[simp] theorem State.setTag_keptRegs (s f t u) : (State.setTag s f t u).keptRegs = s.keptRegs := rfl
@[simp] theorem State.setTag_pairLow (s f t u) : (State.setTag s f t u).pairLow = s.pairLow := rfl
@[simp] theorem State.setTag_pairHigh (s f t u) : (State.setTag s f t u).pairHigh = s.pairHigh := rfl
@[simp] theorem State.setTag_frame (s f t u) : (State.setTag s f t u).frame = s.frame := rfl
@[simp] theorem State.setTag_board (s f t u) : (State.setTag s f t u).board = s.board := rfl
@[simp] theorem State.setTag_sup (s f t u) : (State.setTag s f t u).sup = s.sup := rfl
@[simp] theorem State.setTag_boot (s f t u) : (State.setTag s f t u).boot = s.boot := rfl
@[simp] theorem State.setTag_pairs (s f t u) : (State.setTag s f t u).pairs = s.pairs := rfl
@[simp] theorem State.setTag_eps (s f t u) : (State.setTag s f t u).eps = s.eps := rfl
@[simp] theorem State.setTag_msix (s f t u) : (State.setTag s f t u).msix = s.msix := rfl
@[simp] theorem State.setTag_wins (s f t u) : (State.setTag s f t u).wins = s.wins := rfl
@[simp] theorem State.setTag_mem (s f t u) : (State.setTag s f t u).mem = s.mem := rfl
@[simp] theorem State.setTag_rings (s f t u) : (State.setTag s f t u).rings = s.rings := rfl
@[simp] theorem State.setTag_ctxs (s f t u) : (State.setTag s f t u).ctxs = s.ctxs := rfl
@[simp] theorem State.setTag_nextOrder (s f t u) : (State.setTag s f t u).nextOrder = s.nextOrder := rfl
@[simp] theorem State.setTag_recon (s f t u) : (State.setTag s f t u).recon = s.recon := rfl
@[simp] theorem State.setTag_reconSeq (s f t u) : (State.setTag s f t u).reconSeq = s.reconSeq := rfl
@[simp] theorem State.setTag_lost (s f t u) : (State.setTag s f t u).lost = s.lost := rfl
@[simp] theorem State.setTag_lostSeq (s f t u) : (State.setTag s f t u).lostSeq = s.lostSeq := rfl
@[simp] theorem State.setTag_events (s f t u) : (State.setTag s f t u).events = s.events := rfl
@[simp] theorem State.setTag_eventTotal (s f t u) : (State.setTag s f t u).eventTotal = s.eventTotal := rfl
@[simp] theorem State.setTag_health (s f t u) : (State.setTag s f t u).health = s.health := rfl
@[simp] theorem State.setTag_saved (s f t u) : (State.setTag s f t u).saved = s.saved := rfl
@[simp] theorem State.setTag_hostTime (s f t u) : (State.setTag s f t u).hostTime = s.hostTime := rfl
@[simp] theorem State.setTag_rrLast (s f t u) : (State.setTag s f t u).rrLast = s.rrLast := rfl
@[simp] theorem State.setTag_rrLeft (s f t u) : (State.setTag s f t u).rrLeft = s.rrLeft := rfl
@[simp] theorem State.setTag_ftl (s f t u) : (State.setTag s f t u).ftl = s.ftl := rfl
@[simp] theorem State.setTag_blks (s f t u) : (State.setTag s f t u).blks = s.blks := rfl
@[simp] theorem State.setTag_pages (s f t u) : (State.setTag s f t u).pages = s.pages := rfl
@[simp] theorem State.setTag_bands (s f t u) : (State.setTag s f t u).bands = s.bands := rfl
@[simp] theorem State.setTag_chns (s f t u) : (State.setTag s f t u).chns = s.chns := rfl
@[simp] theorem State.setTag_luns (s f t u) : (State.setTag s f t u).luns = s.luns := rfl
@[simp] theorem State.setTag_pwr (s f t u) : (State.setTag s f t u).pwr = s.pwr := rfl
@[simp] theorem State.setTag_sensors (s f t u) : (State.setTag s f t u).sensors = s.sensors := rfl
@[simp] theorem State.setTag_thermal (s f t u) : (State.setTag s f t u).thermal = s.thermal := rfl
@[simp] theorem State.setTag_fans (s f t u) : (State.setTag s f t u).fans = s.fans := rfl
@[simp] theorem State.setTag_sideband (s f t u) : (State.setTag s f t u).sideband = s.sideband := rfl
@[simp] theorem State.setTag_dram (s f t u) : (State.setTag s f t u).dram = s.dram := rfl
@[simp] theorem State.setTag_scs (s f t u) : (State.setTag s f t u).scs = s.scs := rfl
@[simp] theorem State.setTag_pool (s f t u) : (State.setTag s f t u).pool = s.pool := rfl
@[simp] theorem State.setTag_thi (s f t u) : (State.setTag s f t u).thi = s.thi := rfl
@[simp] theorem State.setTag_sec (s f t u) : (State.setTag s f t u).sec = s.sec := rfl
@[simp] theorem State.setTag_bst (s f t u) : (State.setTag s f t u).bst = s.bst := rfl
@[simp] theorem State.setTag_decs (s f t u) : (State.setTag s f t u).decs = s.decs := rfl
@[simp] theorem State.setTag_patrol (s f t u) : (State.setTag s f t u).patrol = s.patrol := rfl
@[simp] theorem State.setTag_ucode (s f t u) : (State.setTag s f t u).ucode = s.ucode := rfl
@[simp] theorem State.setTag_sched (s f t u) : (State.setTag s f t u).sched = s.sched := rfl
@[simp] theorem State.setTag_group (s f t u) : (State.setTag s f t u).group = s.group := rfl
@[simp] theorem State.setTag_out (s f t u) : (State.setTag s f t u).out = s.out := rfl
@[simp] theorem State.setTag_free (s f t u) : (State.setTag s f t u).free = s.free := rfl
@[simp] theorem State.setTag_pending (s f t u) : (State.setTag s f t u).pending = s.pending := rfl
@[simp] theorem State.setTag_rd_ (s f t u u1 u2 u3) : (State.setTag s f t u).rd u1 u2 u3 = s.rd u1 u2 u3 := rfl
@[simp] theorem State.setTag_on_ (s f t u u1 u2 u3) : (State.setTag s f t u).on u1 u2 u3 = s.on u1 u2 u3 := rfl
@[simp] theorem State.setTag_ep_ (s f t u u1) : (State.setTag s f t u).ep u1 = s.ep u1 := rfl
@[simp] theorem State.setTag_ring_ (s f t u u1 u2) : (State.setTag s f t u).ring u1 u2 = s.ring u1 u2 := rfl
@[simp] theorem State.setTag_ctx_ (s f t u u1) : (State.setTag s f t u).ctx u1 = s.ctx u1 := rfl
@[simp] theorem State.setTag_vec_ (s f t u u1 u2) : (State.setTag s f t u).vec u1 u2 = s.vec u1 u2 := rfl
@[simp] theorem State.setTag_win_ (s f t u u1) : (State.setTag s f t u).win u1 = s.win u1 := rfl
@[simp] theorem State.setTag_lun_ (s f t u u1 u2) : (State.setTag s f t u).lun u1 u2 = s.lun u1 u2 := rfl
@[simp] theorem State.setTag_chn_ (s f t u u1) : (State.setTag s f t u).chn u1 = s.chn u1 := rfl
@[simp] theorem State.setTag_blk_ (s f t u u1) : (State.setTag s f t u).blk u1 = s.blk u1 := rfl
@[simp] theorem State.setTag_page_ (s f t u u1) : (State.setTag s f t u).page u1 = s.page u1 := rfl
@[simp] theorem State.setTag_fan_ (s f t u u1) : (State.setTag s f t u).fan u1 = s.fan u1 := rfl
@[simp] theorem State.setTag_sc_ (s f t u u1) : (State.setTag s f t u).sc u1 = s.sc u1 := rfl
@[simp] theorem State.setTag_peer_ (s f t u u1) : (State.setTag s f t u).peer u1 = s.peer u1 := rfl
@[simp] theorem State.setTag_health__ (s f t u u1) : (State.setTag s f t u).health_ u1 = s.health_ u1 := rfl

/-! setVec -/
@[simp] theorem State.setVec_regs (s f v m) : (State.setVec s f v m).regs = s.regs := rfl
@[simp] theorem State.setVec_keptRegs (s f v m) : (State.setVec s f v m).keptRegs = s.keptRegs := rfl
@[simp] theorem State.setVec_pairLow (s f v m) : (State.setVec s f v m).pairLow = s.pairLow := rfl
@[simp] theorem State.setVec_pairHigh (s f v m) : (State.setVec s f v m).pairHigh = s.pairHigh := rfl
@[simp] theorem State.setVec_frame (s f v m) : (State.setVec s f v m).frame = s.frame := rfl
@[simp] theorem State.setVec_board (s f v m) : (State.setVec s f v m).board = s.board := rfl
@[simp] theorem State.setVec_sup (s f v m) : (State.setVec s f v m).sup = s.sup := rfl
@[simp] theorem State.setVec_boot (s f v m) : (State.setVec s f v m).boot = s.boot := rfl
@[simp] theorem State.setVec_pairs (s f v m) : (State.setVec s f v m).pairs = s.pairs := rfl
@[simp] theorem State.setVec_eps (s f v m) : (State.setVec s f v m).eps = s.eps := rfl
@[simp] theorem State.setVec_wins (s f v m) : (State.setVec s f v m).wins = s.wins := rfl
@[simp] theorem State.setVec_mem (s f v m) : (State.setVec s f v m).mem = s.mem := rfl
@[simp] theorem State.setVec_tags (s f v m) : (State.setVec s f v m).tags = s.tags := rfl
@[simp] theorem State.setVec_rings (s f v m) : (State.setVec s f v m).rings = s.rings := rfl
@[simp] theorem State.setVec_ctxs (s f v m) : (State.setVec s f v m).ctxs = s.ctxs := rfl
@[simp] theorem State.setVec_nextOrder (s f v m) : (State.setVec s f v m).nextOrder = s.nextOrder := rfl
@[simp] theorem State.setVec_recon (s f v m) : (State.setVec s f v m).recon = s.recon := rfl
@[simp] theorem State.setVec_reconSeq (s f v m) : (State.setVec s f v m).reconSeq = s.reconSeq := rfl
@[simp] theorem State.setVec_lost (s f v m) : (State.setVec s f v m).lost = s.lost := rfl
@[simp] theorem State.setVec_lostSeq (s f v m) : (State.setVec s f v m).lostSeq = s.lostSeq := rfl
@[simp] theorem State.setVec_events (s f v m) : (State.setVec s f v m).events = s.events := rfl
@[simp] theorem State.setVec_eventTotal (s f v m) : (State.setVec s f v m).eventTotal = s.eventTotal := rfl
@[simp] theorem State.setVec_health (s f v m) : (State.setVec s f v m).health = s.health := rfl
@[simp] theorem State.setVec_saved (s f v m) : (State.setVec s f v m).saved = s.saved := rfl
@[simp] theorem State.setVec_hostTime (s f v m) : (State.setVec s f v m).hostTime = s.hostTime := rfl
@[simp] theorem State.setVec_rrLast (s f v m) : (State.setVec s f v m).rrLast = s.rrLast := rfl
@[simp] theorem State.setVec_rrLeft (s f v m) : (State.setVec s f v m).rrLeft = s.rrLeft := rfl
@[simp] theorem State.setVec_ftl (s f v m) : (State.setVec s f v m).ftl = s.ftl := rfl
@[simp] theorem State.setVec_blks (s f v m) : (State.setVec s f v m).blks = s.blks := rfl
@[simp] theorem State.setVec_pages (s f v m) : (State.setVec s f v m).pages = s.pages := rfl
@[simp] theorem State.setVec_bands (s f v m) : (State.setVec s f v m).bands = s.bands := rfl
@[simp] theorem State.setVec_chns (s f v m) : (State.setVec s f v m).chns = s.chns := rfl
@[simp] theorem State.setVec_luns (s f v m) : (State.setVec s f v m).luns = s.luns := rfl
@[simp] theorem State.setVec_pwr (s f v m) : (State.setVec s f v m).pwr = s.pwr := rfl
@[simp] theorem State.setVec_sensors (s f v m) : (State.setVec s f v m).sensors = s.sensors := rfl
@[simp] theorem State.setVec_thermal (s f v m) : (State.setVec s f v m).thermal = s.thermal := rfl
@[simp] theorem State.setVec_fans (s f v m) : (State.setVec s f v m).fans = s.fans := rfl
@[simp] theorem State.setVec_sideband (s f v m) : (State.setVec s f v m).sideband = s.sideband := rfl
@[simp] theorem State.setVec_dram (s f v m) : (State.setVec s f v m).dram = s.dram := rfl
@[simp] theorem State.setVec_scs (s f v m) : (State.setVec s f v m).scs = s.scs := rfl
@[simp] theorem State.setVec_pool (s f v m) : (State.setVec s f v m).pool = s.pool := rfl
@[simp] theorem State.setVec_thi (s f v m) : (State.setVec s f v m).thi = s.thi := rfl
@[simp] theorem State.setVec_sec (s f v m) : (State.setVec s f v m).sec = s.sec := rfl
@[simp] theorem State.setVec_bst (s f v m) : (State.setVec s f v m).bst = s.bst := rfl
@[simp] theorem State.setVec_decs (s f v m) : (State.setVec s f v m).decs = s.decs := rfl
@[simp] theorem State.setVec_patrol (s f v m) : (State.setVec s f v m).patrol = s.patrol := rfl
@[simp] theorem State.setVec_ucode (s f v m) : (State.setVec s f v m).ucode = s.ucode := rfl
@[simp] theorem State.setVec_sched (s f v m) : (State.setVec s f v m).sched = s.sched := rfl
@[simp] theorem State.setVec_group (s f v m) : (State.setVec s f v m).group = s.group := rfl
@[simp] theorem State.setVec_out (s f v m) : (State.setVec s f v m).out = s.out := rfl
@[simp] theorem State.setVec_free (s f v m) : (State.setVec s f v m).free = s.free := rfl
@[simp] theorem State.setVec_pending (s f v m) : (State.setVec s f v m).pending = s.pending := rfl
@[simp] theorem State.setVec_rd_ (s f v m u1 u2 u3) : (State.setVec s f v m).rd u1 u2 u3 = s.rd u1 u2 u3 := rfl
@[simp] theorem State.setVec_on_ (s f v m u1 u2 u3) : (State.setVec s f v m).on u1 u2 u3 = s.on u1 u2 u3 := rfl
@[simp] theorem State.setVec_ep_ (s f v m u1) : (State.setVec s f v m).ep u1 = s.ep u1 := rfl
@[simp] theorem State.setVec_ring_ (s f v m u1 u2) : (State.setVec s f v m).ring u1 u2 = s.ring u1 u2 := rfl
@[simp] theorem State.setVec_ctx_ (s f v m u1) : (State.setVec s f v m).ctx u1 = s.ctx u1 := rfl
@[simp] theorem State.setVec_tag_ (s f v m u1 u2) : (State.setVec s f v m).tag u1 u2 = s.tag u1 u2 := rfl
@[simp] theorem State.setVec_win_ (s f v m u1) : (State.setVec s f v m).win u1 = s.win u1 := rfl
@[simp] theorem State.setVec_lun_ (s f v m u1 u2) : (State.setVec s f v m).lun u1 u2 = s.lun u1 u2 := rfl
@[simp] theorem State.setVec_chn_ (s f v m u1) : (State.setVec s f v m).chn u1 = s.chn u1 := rfl
@[simp] theorem State.setVec_blk_ (s f v m u1) : (State.setVec s f v m).blk u1 = s.blk u1 := rfl
@[simp] theorem State.setVec_page_ (s f v m u1) : (State.setVec s f v m).page u1 = s.page u1 := rfl
@[simp] theorem State.setVec_fan_ (s f v m u1) : (State.setVec s f v m).fan u1 = s.fan u1 := rfl
@[simp] theorem State.setVec_sc_ (s f v m u1) : (State.setVec s f v m).sc u1 = s.sc u1 := rfl
@[simp] theorem State.setVec_peer_ (s f v m u1) : (State.setVec s f v m).peer u1 = s.peer u1 := rfl
@[simp] theorem State.setVec_health__ (s f v m u1) : (State.setVec s f v m).health_ u1 = s.health_ u1 := rfl

/-! setWin -/
@[simp] theorem State.setWin_regs (s n w) : (State.setWin s n w).regs = s.regs := rfl
@[simp] theorem State.setWin_keptRegs (s n w) : (State.setWin s n w).keptRegs = s.keptRegs := rfl
@[simp] theorem State.setWin_pairLow (s n w) : (State.setWin s n w).pairLow = s.pairLow := rfl
@[simp] theorem State.setWin_pairHigh (s n w) : (State.setWin s n w).pairHigh = s.pairHigh := rfl
@[simp] theorem State.setWin_frame (s n w) : (State.setWin s n w).frame = s.frame := rfl
@[simp] theorem State.setWin_board (s n w) : (State.setWin s n w).board = s.board := rfl
@[simp] theorem State.setWin_sup (s n w) : (State.setWin s n w).sup = s.sup := rfl
@[simp] theorem State.setWin_boot (s n w) : (State.setWin s n w).boot = s.boot := rfl
@[simp] theorem State.setWin_pairs (s n w) : (State.setWin s n w).pairs = s.pairs := rfl
@[simp] theorem State.setWin_eps (s n w) : (State.setWin s n w).eps = s.eps := rfl
@[simp] theorem State.setWin_msix (s n w) : (State.setWin s n w).msix = s.msix := rfl
@[simp] theorem State.setWin_mem (s n w) : (State.setWin s n w).mem = s.mem := rfl
@[simp] theorem State.setWin_tags (s n w) : (State.setWin s n w).tags = s.tags := rfl
@[simp] theorem State.setWin_rings (s n w) : (State.setWin s n w).rings = s.rings := rfl
@[simp] theorem State.setWin_ctxs (s n w) : (State.setWin s n w).ctxs = s.ctxs := rfl
@[simp] theorem State.setWin_nextOrder (s n w) : (State.setWin s n w).nextOrder = s.nextOrder := rfl
@[simp] theorem State.setWin_recon (s n w) : (State.setWin s n w).recon = s.recon := rfl
@[simp] theorem State.setWin_reconSeq (s n w) : (State.setWin s n w).reconSeq = s.reconSeq := rfl
@[simp] theorem State.setWin_lost (s n w) : (State.setWin s n w).lost = s.lost := rfl
@[simp] theorem State.setWin_lostSeq (s n w) : (State.setWin s n w).lostSeq = s.lostSeq := rfl
@[simp] theorem State.setWin_events (s n w) : (State.setWin s n w).events = s.events := rfl
@[simp] theorem State.setWin_eventTotal (s n w) : (State.setWin s n w).eventTotal = s.eventTotal := rfl
@[simp] theorem State.setWin_health (s n w) : (State.setWin s n w).health = s.health := rfl
@[simp] theorem State.setWin_saved (s n w) : (State.setWin s n w).saved = s.saved := rfl
@[simp] theorem State.setWin_hostTime (s n w) : (State.setWin s n w).hostTime = s.hostTime := rfl
@[simp] theorem State.setWin_rrLast (s n w) : (State.setWin s n w).rrLast = s.rrLast := rfl
@[simp] theorem State.setWin_rrLeft (s n w) : (State.setWin s n w).rrLeft = s.rrLeft := rfl
@[simp] theorem State.setWin_ftl (s n w) : (State.setWin s n w).ftl = s.ftl := rfl
@[simp] theorem State.setWin_blks (s n w) : (State.setWin s n w).blks = s.blks := rfl
@[simp] theorem State.setWin_pages (s n w) : (State.setWin s n w).pages = s.pages := rfl
@[simp] theorem State.setWin_bands (s n w) : (State.setWin s n w).bands = s.bands := rfl
@[simp] theorem State.setWin_chns (s n w) : (State.setWin s n w).chns = s.chns := rfl
@[simp] theorem State.setWin_luns (s n w) : (State.setWin s n w).luns = s.luns := rfl
@[simp] theorem State.setWin_pwr (s n w) : (State.setWin s n w).pwr = s.pwr := rfl
@[simp] theorem State.setWin_sensors (s n w) : (State.setWin s n w).sensors = s.sensors := rfl
@[simp] theorem State.setWin_thermal (s n w) : (State.setWin s n w).thermal = s.thermal := rfl
@[simp] theorem State.setWin_fans (s n w) : (State.setWin s n w).fans = s.fans := rfl
@[simp] theorem State.setWin_sideband (s n w) : (State.setWin s n w).sideband = s.sideband := rfl
@[simp] theorem State.setWin_dram (s n w) : (State.setWin s n w).dram = s.dram := rfl
@[simp] theorem State.setWin_scs (s n w) : (State.setWin s n w).scs = s.scs := rfl
@[simp] theorem State.setWin_pool (s n w) : (State.setWin s n w).pool = s.pool := rfl
@[simp] theorem State.setWin_thi (s n w) : (State.setWin s n w).thi = s.thi := rfl
@[simp] theorem State.setWin_sec (s n w) : (State.setWin s n w).sec = s.sec := rfl
@[simp] theorem State.setWin_bst (s n w) : (State.setWin s n w).bst = s.bst := rfl
@[simp] theorem State.setWin_decs (s n w) : (State.setWin s n w).decs = s.decs := rfl
@[simp] theorem State.setWin_patrol (s n w) : (State.setWin s n w).patrol = s.patrol := rfl
@[simp] theorem State.setWin_ucode (s n w) : (State.setWin s n w).ucode = s.ucode := rfl
@[simp] theorem State.setWin_sched (s n w) : (State.setWin s n w).sched = s.sched := rfl
@[simp] theorem State.setWin_group (s n w) : (State.setWin s n w).group = s.group := rfl
@[simp] theorem State.setWin_out (s n w) : (State.setWin s n w).out = s.out := rfl
@[simp] theorem State.setWin_free (s n w) : (State.setWin s n w).free = s.free := rfl
@[simp] theorem State.setWin_pending (s n w) : (State.setWin s n w).pending = s.pending := rfl
@[simp] theorem State.setWin_rd_ (s n w u1 u2 u3) : (State.setWin s n w).rd u1 u2 u3 = s.rd u1 u2 u3 := rfl
@[simp] theorem State.setWin_on_ (s n w u1 u2 u3) : (State.setWin s n w).on u1 u2 u3 = s.on u1 u2 u3 := rfl
@[simp] theorem State.setWin_ep_ (s n w u1) : (State.setWin s n w).ep u1 = s.ep u1 := rfl
@[simp] theorem State.setWin_ring_ (s n w u1 u2) : (State.setWin s n w).ring u1 u2 = s.ring u1 u2 := rfl
@[simp] theorem State.setWin_ctx_ (s n w u1) : (State.setWin s n w).ctx u1 = s.ctx u1 := rfl
@[simp] theorem State.setWin_tag_ (s n w u1 u2) : (State.setWin s n w).tag u1 u2 = s.tag u1 u2 := rfl
@[simp] theorem State.setWin_vec_ (s n w u1 u2) : (State.setWin s n w).vec u1 u2 = s.vec u1 u2 := rfl
@[simp] theorem State.setWin_lun_ (s n w u1 u2) : (State.setWin s n w).lun u1 u2 = s.lun u1 u2 := rfl
@[simp] theorem State.setWin_chn_ (s n w u1) : (State.setWin s n w).chn u1 = s.chn u1 := rfl
@[simp] theorem State.setWin_blk_ (s n w u1) : (State.setWin s n w).blk u1 = s.blk u1 := rfl
@[simp] theorem State.setWin_page_ (s n w u1) : (State.setWin s n w).page u1 = s.page u1 := rfl
@[simp] theorem State.setWin_fan_ (s n w u1) : (State.setWin s n w).fan u1 = s.fan u1 := rfl
@[simp] theorem State.setWin_sc_ (s n w u1) : (State.setWin s n w).sc u1 = s.sc u1 := rfl
@[simp] theorem State.setWin_peer_ (s n w u1) : (State.setWin s n w).peer u1 = s.peer u1 := rfl
@[simp] theorem State.setWin_health__ (s n w u1) : (State.setWin s n w).health_ u1 = s.health_ u1 := rfl

/-! setLun -/
@[simp] theorem State.setLun_regs (s c l u) : (State.setLun s c l u).regs = s.regs := rfl
@[simp] theorem State.setLun_keptRegs (s c l u) : (State.setLun s c l u).keptRegs = s.keptRegs := rfl
@[simp] theorem State.setLun_pairLow (s c l u) : (State.setLun s c l u).pairLow = s.pairLow := rfl
@[simp] theorem State.setLun_pairHigh (s c l u) : (State.setLun s c l u).pairHigh = s.pairHigh := rfl
@[simp] theorem State.setLun_frame (s c l u) : (State.setLun s c l u).frame = s.frame := rfl
@[simp] theorem State.setLun_board (s c l u) : (State.setLun s c l u).board = s.board := rfl
@[simp] theorem State.setLun_sup (s c l u) : (State.setLun s c l u).sup = s.sup := rfl
@[simp] theorem State.setLun_boot (s c l u) : (State.setLun s c l u).boot = s.boot := rfl
@[simp] theorem State.setLun_pairs (s c l u) : (State.setLun s c l u).pairs = s.pairs := rfl
@[simp] theorem State.setLun_eps (s c l u) : (State.setLun s c l u).eps = s.eps := rfl
@[simp] theorem State.setLun_msix (s c l u) : (State.setLun s c l u).msix = s.msix := rfl
@[simp] theorem State.setLun_wins (s c l u) : (State.setLun s c l u).wins = s.wins := rfl
@[simp] theorem State.setLun_mem (s c l u) : (State.setLun s c l u).mem = s.mem := rfl
@[simp] theorem State.setLun_tags (s c l u) : (State.setLun s c l u).tags = s.tags := rfl
@[simp] theorem State.setLun_rings (s c l u) : (State.setLun s c l u).rings = s.rings := rfl
@[simp] theorem State.setLun_ctxs (s c l u) : (State.setLun s c l u).ctxs = s.ctxs := rfl
@[simp] theorem State.setLun_nextOrder (s c l u) : (State.setLun s c l u).nextOrder = s.nextOrder := rfl
@[simp] theorem State.setLun_recon (s c l u) : (State.setLun s c l u).recon = s.recon := rfl
@[simp] theorem State.setLun_reconSeq (s c l u) : (State.setLun s c l u).reconSeq = s.reconSeq := rfl
@[simp] theorem State.setLun_lost (s c l u) : (State.setLun s c l u).lost = s.lost := rfl
@[simp] theorem State.setLun_lostSeq (s c l u) : (State.setLun s c l u).lostSeq = s.lostSeq := rfl
@[simp] theorem State.setLun_events (s c l u) : (State.setLun s c l u).events = s.events := rfl
@[simp] theorem State.setLun_eventTotal (s c l u) : (State.setLun s c l u).eventTotal = s.eventTotal := rfl
@[simp] theorem State.setLun_health (s c l u) : (State.setLun s c l u).health = s.health := rfl
@[simp] theorem State.setLun_saved (s c l u) : (State.setLun s c l u).saved = s.saved := rfl
@[simp] theorem State.setLun_hostTime (s c l u) : (State.setLun s c l u).hostTime = s.hostTime := rfl
@[simp] theorem State.setLun_rrLast (s c l u) : (State.setLun s c l u).rrLast = s.rrLast := rfl
@[simp] theorem State.setLun_rrLeft (s c l u) : (State.setLun s c l u).rrLeft = s.rrLeft := rfl
@[simp] theorem State.setLun_ftl (s c l u) : (State.setLun s c l u).ftl = s.ftl := rfl
@[simp] theorem State.setLun_blks (s c l u) : (State.setLun s c l u).blks = s.blks := rfl
@[simp] theorem State.setLun_pages (s c l u) : (State.setLun s c l u).pages = s.pages := rfl
@[simp] theorem State.setLun_bands (s c l u) : (State.setLun s c l u).bands = s.bands := rfl
@[simp] theorem State.setLun_chns (s c l u) : (State.setLun s c l u).chns = s.chns := rfl
@[simp] theorem State.setLun_pwr (s c l u) : (State.setLun s c l u).pwr = s.pwr := rfl
@[simp] theorem State.setLun_sensors (s c l u) : (State.setLun s c l u).sensors = s.sensors := rfl
@[simp] theorem State.setLun_thermal (s c l u) : (State.setLun s c l u).thermal = s.thermal := rfl
@[simp] theorem State.setLun_fans (s c l u) : (State.setLun s c l u).fans = s.fans := rfl
@[simp] theorem State.setLun_sideband (s c l u) : (State.setLun s c l u).sideband = s.sideband := rfl
@[simp] theorem State.setLun_dram (s c l u) : (State.setLun s c l u).dram = s.dram := rfl
@[simp] theorem State.setLun_scs (s c l u) : (State.setLun s c l u).scs = s.scs := rfl
@[simp] theorem State.setLun_pool (s c l u) : (State.setLun s c l u).pool = s.pool := rfl
@[simp] theorem State.setLun_thi (s c l u) : (State.setLun s c l u).thi = s.thi := rfl
@[simp] theorem State.setLun_sec (s c l u) : (State.setLun s c l u).sec = s.sec := rfl
@[simp] theorem State.setLun_bst (s c l u) : (State.setLun s c l u).bst = s.bst := rfl
@[simp] theorem State.setLun_decs (s c l u) : (State.setLun s c l u).decs = s.decs := rfl
@[simp] theorem State.setLun_patrol (s c l u) : (State.setLun s c l u).patrol = s.patrol := rfl
@[simp] theorem State.setLun_ucode (s c l u) : (State.setLun s c l u).ucode = s.ucode := rfl
@[simp] theorem State.setLun_sched (s c l u) : (State.setLun s c l u).sched = s.sched := rfl
@[simp] theorem State.setLun_group (s c l u) : (State.setLun s c l u).group = s.group := rfl
@[simp] theorem State.setLun_out (s c l u) : (State.setLun s c l u).out = s.out := rfl
@[simp] theorem State.setLun_free (s c l u) : (State.setLun s c l u).free = s.free := rfl
@[simp] theorem State.setLun_pending (s c l u) : (State.setLun s c l u).pending = s.pending := rfl
@[simp] theorem State.setLun_rd_ (s c l u u1 u2 u3) : (State.setLun s c l u).rd u1 u2 u3 = s.rd u1 u2 u3 := rfl
@[simp] theorem State.setLun_on_ (s c l u u1 u2 u3) : (State.setLun s c l u).on u1 u2 u3 = s.on u1 u2 u3 := rfl
@[simp] theorem State.setLun_ep_ (s c l u u1) : (State.setLun s c l u).ep u1 = s.ep u1 := rfl
@[simp] theorem State.setLun_ring_ (s c l u u1 u2) : (State.setLun s c l u).ring u1 u2 = s.ring u1 u2 := rfl
@[simp] theorem State.setLun_ctx_ (s c l u u1) : (State.setLun s c l u).ctx u1 = s.ctx u1 := rfl
@[simp] theorem State.setLun_tag_ (s c l u u1 u2) : (State.setLun s c l u).tag u1 u2 = s.tag u1 u2 := rfl
@[simp] theorem State.setLun_vec_ (s c l u u1 u2) : (State.setLun s c l u).vec u1 u2 = s.vec u1 u2 := rfl
@[simp] theorem State.setLun_win_ (s c l u u1) : (State.setLun s c l u).win u1 = s.win u1 := rfl
@[simp] theorem State.setLun_chn_ (s c l u u1) : (State.setLun s c l u).chn u1 = s.chn u1 := rfl
@[simp] theorem State.setLun_blk_ (s c l u u1) : (State.setLun s c l u).blk u1 = s.blk u1 := rfl
@[simp] theorem State.setLun_page_ (s c l u u1) : (State.setLun s c l u).page u1 = s.page u1 := rfl
@[simp] theorem State.setLun_fan_ (s c l u u1) : (State.setLun s c l u).fan u1 = s.fan u1 := rfl
@[simp] theorem State.setLun_sc_ (s c l u u1) : (State.setLun s c l u).sc u1 = s.sc u1 := rfl
@[simp] theorem State.setLun_peer_ (s c l u u1) : (State.setLun s c l u).peer u1 = s.peer u1 := rfl
@[simp] theorem State.setLun_health__ (s c l u u1) : (State.setLun s c l u).health_ u1 = s.health_ u1 := rfl

/-! setChn -/
@[simp] theorem State.setChn_regs (s c x) : (State.setChn s c x).regs = s.regs := rfl
@[simp] theorem State.setChn_keptRegs (s c x) : (State.setChn s c x).keptRegs = s.keptRegs := rfl
@[simp] theorem State.setChn_pairLow (s c x) : (State.setChn s c x).pairLow = s.pairLow := rfl
@[simp] theorem State.setChn_pairHigh (s c x) : (State.setChn s c x).pairHigh = s.pairHigh := rfl
@[simp] theorem State.setChn_frame (s c x) : (State.setChn s c x).frame = s.frame := rfl
@[simp] theorem State.setChn_board (s c x) : (State.setChn s c x).board = s.board := rfl
@[simp] theorem State.setChn_sup (s c x) : (State.setChn s c x).sup = s.sup := rfl
@[simp] theorem State.setChn_boot (s c x) : (State.setChn s c x).boot = s.boot := rfl
@[simp] theorem State.setChn_pairs (s c x) : (State.setChn s c x).pairs = s.pairs := rfl
@[simp] theorem State.setChn_eps (s c x) : (State.setChn s c x).eps = s.eps := rfl
@[simp] theorem State.setChn_msix (s c x) : (State.setChn s c x).msix = s.msix := rfl
@[simp] theorem State.setChn_wins (s c x) : (State.setChn s c x).wins = s.wins := rfl
@[simp] theorem State.setChn_mem (s c x) : (State.setChn s c x).mem = s.mem := rfl
@[simp] theorem State.setChn_tags (s c x) : (State.setChn s c x).tags = s.tags := rfl
@[simp] theorem State.setChn_rings (s c x) : (State.setChn s c x).rings = s.rings := rfl
@[simp] theorem State.setChn_ctxs (s c x) : (State.setChn s c x).ctxs = s.ctxs := rfl
@[simp] theorem State.setChn_nextOrder (s c x) : (State.setChn s c x).nextOrder = s.nextOrder := rfl
@[simp] theorem State.setChn_recon (s c x) : (State.setChn s c x).recon = s.recon := rfl
@[simp] theorem State.setChn_reconSeq (s c x) : (State.setChn s c x).reconSeq = s.reconSeq := rfl
@[simp] theorem State.setChn_lost (s c x) : (State.setChn s c x).lost = s.lost := rfl
@[simp] theorem State.setChn_lostSeq (s c x) : (State.setChn s c x).lostSeq = s.lostSeq := rfl
@[simp] theorem State.setChn_events (s c x) : (State.setChn s c x).events = s.events := rfl
@[simp] theorem State.setChn_eventTotal (s c x) : (State.setChn s c x).eventTotal = s.eventTotal := rfl
@[simp] theorem State.setChn_health (s c x) : (State.setChn s c x).health = s.health := rfl
@[simp] theorem State.setChn_saved (s c x) : (State.setChn s c x).saved = s.saved := rfl
@[simp] theorem State.setChn_hostTime (s c x) : (State.setChn s c x).hostTime = s.hostTime := rfl
@[simp] theorem State.setChn_rrLast (s c x) : (State.setChn s c x).rrLast = s.rrLast := rfl
@[simp] theorem State.setChn_rrLeft (s c x) : (State.setChn s c x).rrLeft = s.rrLeft := rfl
@[simp] theorem State.setChn_ftl (s c x) : (State.setChn s c x).ftl = s.ftl := rfl
@[simp] theorem State.setChn_blks (s c x) : (State.setChn s c x).blks = s.blks := rfl
@[simp] theorem State.setChn_pages (s c x) : (State.setChn s c x).pages = s.pages := rfl
@[simp] theorem State.setChn_bands (s c x) : (State.setChn s c x).bands = s.bands := rfl
@[simp] theorem State.setChn_luns (s c x) : (State.setChn s c x).luns = s.luns := rfl
@[simp] theorem State.setChn_pwr (s c x) : (State.setChn s c x).pwr = s.pwr := rfl
@[simp] theorem State.setChn_sensors (s c x) : (State.setChn s c x).sensors = s.sensors := rfl
@[simp] theorem State.setChn_thermal (s c x) : (State.setChn s c x).thermal = s.thermal := rfl
@[simp] theorem State.setChn_fans (s c x) : (State.setChn s c x).fans = s.fans := rfl
@[simp] theorem State.setChn_sideband (s c x) : (State.setChn s c x).sideband = s.sideband := rfl
@[simp] theorem State.setChn_dram (s c x) : (State.setChn s c x).dram = s.dram := rfl
@[simp] theorem State.setChn_scs (s c x) : (State.setChn s c x).scs = s.scs := rfl
@[simp] theorem State.setChn_pool (s c x) : (State.setChn s c x).pool = s.pool := rfl
@[simp] theorem State.setChn_thi (s c x) : (State.setChn s c x).thi = s.thi := rfl
@[simp] theorem State.setChn_sec (s c x) : (State.setChn s c x).sec = s.sec := rfl
@[simp] theorem State.setChn_bst (s c x) : (State.setChn s c x).bst = s.bst := rfl
@[simp] theorem State.setChn_decs (s c x) : (State.setChn s c x).decs = s.decs := rfl
@[simp] theorem State.setChn_patrol (s c x) : (State.setChn s c x).patrol = s.patrol := rfl
@[simp] theorem State.setChn_ucode (s c x) : (State.setChn s c x).ucode = s.ucode := rfl
@[simp] theorem State.setChn_sched (s c x) : (State.setChn s c x).sched = s.sched := rfl
@[simp] theorem State.setChn_group (s c x) : (State.setChn s c x).group = s.group := rfl
@[simp] theorem State.setChn_out (s c x) : (State.setChn s c x).out = s.out := rfl
@[simp] theorem State.setChn_free (s c x) : (State.setChn s c x).free = s.free := rfl
@[simp] theorem State.setChn_pending (s c x) : (State.setChn s c x).pending = s.pending := rfl
@[simp] theorem State.setChn_rd_ (s c x u1 u2 u3) : (State.setChn s c x).rd u1 u2 u3 = s.rd u1 u2 u3 := rfl
@[simp] theorem State.setChn_on_ (s c x u1 u2 u3) : (State.setChn s c x).on u1 u2 u3 = s.on u1 u2 u3 := rfl
@[simp] theorem State.setChn_ep_ (s c x u1) : (State.setChn s c x).ep u1 = s.ep u1 := rfl
@[simp] theorem State.setChn_ring_ (s c x u1 u2) : (State.setChn s c x).ring u1 u2 = s.ring u1 u2 := rfl
@[simp] theorem State.setChn_ctx_ (s c x u1) : (State.setChn s c x).ctx u1 = s.ctx u1 := rfl
@[simp] theorem State.setChn_tag_ (s c x u1 u2) : (State.setChn s c x).tag u1 u2 = s.tag u1 u2 := rfl
@[simp] theorem State.setChn_vec_ (s c x u1 u2) : (State.setChn s c x).vec u1 u2 = s.vec u1 u2 := rfl
@[simp] theorem State.setChn_win_ (s c x u1) : (State.setChn s c x).win u1 = s.win u1 := rfl
@[simp] theorem State.setChn_lun_ (s c x u1 u2) : (State.setChn s c x).lun u1 u2 = s.lun u1 u2 := rfl
@[simp] theorem State.setChn_blk_ (s c x u1) : (State.setChn s c x).blk u1 = s.blk u1 := rfl
@[simp] theorem State.setChn_page_ (s c x u1) : (State.setChn s c x).page u1 = s.page u1 := rfl
@[simp] theorem State.setChn_fan_ (s c x u1) : (State.setChn s c x).fan u1 = s.fan u1 := rfl
@[simp] theorem State.setChn_sc_ (s c x u1) : (State.setChn s c x).sc u1 = s.sc u1 := rfl
@[simp] theorem State.setChn_peer_ (s c x u1) : (State.setChn s c x).peer u1 = s.peer u1 := rfl
@[simp] theorem State.setChn_health__ (s c x u1) : (State.setChn s c x).health_ u1 = s.health_ u1 := rfl

/-! setBlk -/
@[simp] theorem State.setBlk_regs (s a b) : (State.setBlk s a b).regs = s.regs := rfl
@[simp] theorem State.setBlk_keptRegs (s a b) : (State.setBlk s a b).keptRegs = s.keptRegs := rfl
@[simp] theorem State.setBlk_pairLow (s a b) : (State.setBlk s a b).pairLow = s.pairLow := rfl
@[simp] theorem State.setBlk_pairHigh (s a b) : (State.setBlk s a b).pairHigh = s.pairHigh := rfl
@[simp] theorem State.setBlk_frame (s a b) : (State.setBlk s a b).frame = s.frame := rfl
@[simp] theorem State.setBlk_board (s a b) : (State.setBlk s a b).board = s.board := rfl
@[simp] theorem State.setBlk_sup (s a b) : (State.setBlk s a b).sup = s.sup := rfl
@[simp] theorem State.setBlk_boot (s a b) : (State.setBlk s a b).boot = s.boot := rfl
@[simp] theorem State.setBlk_pairs (s a b) : (State.setBlk s a b).pairs = s.pairs := rfl
@[simp] theorem State.setBlk_eps (s a b) : (State.setBlk s a b).eps = s.eps := rfl
@[simp] theorem State.setBlk_msix (s a b) : (State.setBlk s a b).msix = s.msix := rfl
@[simp] theorem State.setBlk_wins (s a b) : (State.setBlk s a b).wins = s.wins := rfl
@[simp] theorem State.setBlk_mem (s a b) : (State.setBlk s a b).mem = s.mem := rfl
@[simp] theorem State.setBlk_tags (s a b) : (State.setBlk s a b).tags = s.tags := rfl
@[simp] theorem State.setBlk_rings (s a b) : (State.setBlk s a b).rings = s.rings := rfl
@[simp] theorem State.setBlk_ctxs (s a b) : (State.setBlk s a b).ctxs = s.ctxs := rfl
@[simp] theorem State.setBlk_nextOrder (s a b) : (State.setBlk s a b).nextOrder = s.nextOrder := rfl
@[simp] theorem State.setBlk_recon (s a b) : (State.setBlk s a b).recon = s.recon := rfl
@[simp] theorem State.setBlk_reconSeq (s a b) : (State.setBlk s a b).reconSeq = s.reconSeq := rfl
@[simp] theorem State.setBlk_lost (s a b) : (State.setBlk s a b).lost = s.lost := rfl
@[simp] theorem State.setBlk_lostSeq (s a b) : (State.setBlk s a b).lostSeq = s.lostSeq := rfl
@[simp] theorem State.setBlk_events (s a b) : (State.setBlk s a b).events = s.events := rfl
@[simp] theorem State.setBlk_eventTotal (s a b) : (State.setBlk s a b).eventTotal = s.eventTotal := rfl
@[simp] theorem State.setBlk_health (s a b) : (State.setBlk s a b).health = s.health := rfl
@[simp] theorem State.setBlk_saved (s a b) : (State.setBlk s a b).saved = s.saved := rfl
@[simp] theorem State.setBlk_hostTime (s a b) : (State.setBlk s a b).hostTime = s.hostTime := rfl
@[simp] theorem State.setBlk_rrLast (s a b) : (State.setBlk s a b).rrLast = s.rrLast := rfl
@[simp] theorem State.setBlk_rrLeft (s a b) : (State.setBlk s a b).rrLeft = s.rrLeft := rfl
@[simp] theorem State.setBlk_ftl (s a b) : (State.setBlk s a b).ftl = s.ftl := rfl
@[simp] theorem State.setBlk_pages (s a b) : (State.setBlk s a b).pages = s.pages := rfl
@[simp] theorem State.setBlk_bands (s a b) : (State.setBlk s a b).bands = s.bands := rfl
@[simp] theorem State.setBlk_chns (s a b) : (State.setBlk s a b).chns = s.chns := rfl
@[simp] theorem State.setBlk_luns (s a b) : (State.setBlk s a b).luns = s.luns := rfl
@[simp] theorem State.setBlk_pwr (s a b) : (State.setBlk s a b).pwr = s.pwr := rfl
@[simp] theorem State.setBlk_sensors (s a b) : (State.setBlk s a b).sensors = s.sensors := rfl
@[simp] theorem State.setBlk_thermal (s a b) : (State.setBlk s a b).thermal = s.thermal := rfl
@[simp] theorem State.setBlk_fans (s a b) : (State.setBlk s a b).fans = s.fans := rfl
@[simp] theorem State.setBlk_sideband (s a b) : (State.setBlk s a b).sideband = s.sideband := rfl
@[simp] theorem State.setBlk_dram (s a b) : (State.setBlk s a b).dram = s.dram := rfl
@[simp] theorem State.setBlk_scs (s a b) : (State.setBlk s a b).scs = s.scs := rfl
@[simp] theorem State.setBlk_pool (s a b) : (State.setBlk s a b).pool = s.pool := rfl
@[simp] theorem State.setBlk_thi (s a b) : (State.setBlk s a b).thi = s.thi := rfl
@[simp] theorem State.setBlk_sec (s a b) : (State.setBlk s a b).sec = s.sec := rfl
@[simp] theorem State.setBlk_bst (s a b) : (State.setBlk s a b).bst = s.bst := rfl
@[simp] theorem State.setBlk_decs (s a b) : (State.setBlk s a b).decs = s.decs := rfl
@[simp] theorem State.setBlk_patrol (s a b) : (State.setBlk s a b).patrol = s.patrol := rfl
@[simp] theorem State.setBlk_ucode (s a b) : (State.setBlk s a b).ucode = s.ucode := rfl
@[simp] theorem State.setBlk_sched (s a b) : (State.setBlk s a b).sched = s.sched := rfl
@[simp] theorem State.setBlk_group (s a b) : (State.setBlk s a b).group = s.group := rfl
@[simp] theorem State.setBlk_out (s a b) : (State.setBlk s a b).out = s.out := rfl
@[simp] theorem State.setBlk_free (s a b) : (State.setBlk s a b).free = s.free := rfl
@[simp] theorem State.setBlk_pending (s a b) : (State.setBlk s a b).pending = s.pending := rfl
@[simp] theorem State.setBlk_rd_ (s a b u1 u2 u3) : (State.setBlk s a b).rd u1 u2 u3 = s.rd u1 u2 u3 := rfl
@[simp] theorem State.setBlk_on_ (s a b u1 u2 u3) : (State.setBlk s a b).on u1 u2 u3 = s.on u1 u2 u3 := rfl
@[simp] theorem State.setBlk_ep_ (s a b u1) : (State.setBlk s a b).ep u1 = s.ep u1 := rfl
@[simp] theorem State.setBlk_ring_ (s a b u1 u2) : (State.setBlk s a b).ring u1 u2 = s.ring u1 u2 := rfl
@[simp] theorem State.setBlk_ctx_ (s a b u1) : (State.setBlk s a b).ctx u1 = s.ctx u1 := rfl
@[simp] theorem State.setBlk_tag_ (s a b u1 u2) : (State.setBlk s a b).tag u1 u2 = s.tag u1 u2 := rfl
@[simp] theorem State.setBlk_vec_ (s a b u1 u2) : (State.setBlk s a b).vec u1 u2 = s.vec u1 u2 := rfl
@[simp] theorem State.setBlk_win_ (s a b u1) : (State.setBlk s a b).win u1 = s.win u1 := rfl
@[simp] theorem State.setBlk_lun_ (s a b u1 u2) : (State.setBlk s a b).lun u1 u2 = s.lun u1 u2 := rfl
@[simp] theorem State.setBlk_chn_ (s a b u1) : (State.setBlk s a b).chn u1 = s.chn u1 := rfl
@[simp] theorem State.setBlk_page_ (s a b u1) : (State.setBlk s a b).page u1 = s.page u1 := rfl
@[simp] theorem State.setBlk_fan_ (s a b u1) : (State.setBlk s a b).fan u1 = s.fan u1 := rfl
@[simp] theorem State.setBlk_sc_ (s a b u1) : (State.setBlk s a b).sc u1 = s.sc u1 := rfl
@[simp] theorem State.setBlk_peer_ (s a b u1) : (State.setBlk s a b).peer u1 = s.peer u1 := rfl
@[simp] theorem State.setBlk_health__ (s a b u1) : (State.setBlk s a b).health_ u1 = s.health_ u1 := rfl

/-! setPage -/
@[simp] theorem State.setPage_regs (s a p) : (State.setPage s a p).regs = s.regs := rfl
@[simp] theorem State.setPage_keptRegs (s a p) : (State.setPage s a p).keptRegs = s.keptRegs := rfl
@[simp] theorem State.setPage_pairLow (s a p) : (State.setPage s a p).pairLow = s.pairLow := rfl
@[simp] theorem State.setPage_pairHigh (s a p) : (State.setPage s a p).pairHigh = s.pairHigh := rfl
@[simp] theorem State.setPage_frame (s a p) : (State.setPage s a p).frame = s.frame := rfl
@[simp] theorem State.setPage_board (s a p) : (State.setPage s a p).board = s.board := rfl
@[simp] theorem State.setPage_sup (s a p) : (State.setPage s a p).sup = s.sup := rfl
@[simp] theorem State.setPage_boot (s a p) : (State.setPage s a p).boot = s.boot := rfl
@[simp] theorem State.setPage_pairs (s a p) : (State.setPage s a p).pairs = s.pairs := rfl
@[simp] theorem State.setPage_eps (s a p) : (State.setPage s a p).eps = s.eps := rfl
@[simp] theorem State.setPage_msix (s a p) : (State.setPage s a p).msix = s.msix := rfl
@[simp] theorem State.setPage_wins (s a p) : (State.setPage s a p).wins = s.wins := rfl
@[simp] theorem State.setPage_mem (s a p) : (State.setPage s a p).mem = s.mem := rfl
@[simp] theorem State.setPage_tags (s a p) : (State.setPage s a p).tags = s.tags := rfl
@[simp] theorem State.setPage_rings (s a p) : (State.setPage s a p).rings = s.rings := rfl
@[simp] theorem State.setPage_ctxs (s a p) : (State.setPage s a p).ctxs = s.ctxs := rfl
@[simp] theorem State.setPage_nextOrder (s a p) : (State.setPage s a p).nextOrder = s.nextOrder := rfl
@[simp] theorem State.setPage_recon (s a p) : (State.setPage s a p).recon = s.recon := rfl
@[simp] theorem State.setPage_reconSeq (s a p) : (State.setPage s a p).reconSeq = s.reconSeq := rfl
@[simp] theorem State.setPage_lost (s a p) : (State.setPage s a p).lost = s.lost := rfl
@[simp] theorem State.setPage_lostSeq (s a p) : (State.setPage s a p).lostSeq = s.lostSeq := rfl
@[simp] theorem State.setPage_events (s a p) : (State.setPage s a p).events = s.events := rfl
@[simp] theorem State.setPage_eventTotal (s a p) : (State.setPage s a p).eventTotal = s.eventTotal := rfl
@[simp] theorem State.setPage_health (s a p) : (State.setPage s a p).health = s.health := rfl
@[simp] theorem State.setPage_saved (s a p) : (State.setPage s a p).saved = s.saved := rfl
@[simp] theorem State.setPage_hostTime (s a p) : (State.setPage s a p).hostTime = s.hostTime := rfl
@[simp] theorem State.setPage_rrLast (s a p) : (State.setPage s a p).rrLast = s.rrLast := rfl
@[simp] theorem State.setPage_rrLeft (s a p) : (State.setPage s a p).rrLeft = s.rrLeft := rfl
@[simp] theorem State.setPage_ftl (s a p) : (State.setPage s a p).ftl = s.ftl := rfl
@[simp] theorem State.setPage_blks (s a p) : (State.setPage s a p).blks = s.blks := rfl
@[simp] theorem State.setPage_bands (s a p) : (State.setPage s a p).bands = s.bands := rfl
@[simp] theorem State.setPage_chns (s a p) : (State.setPage s a p).chns = s.chns := rfl
@[simp] theorem State.setPage_luns (s a p) : (State.setPage s a p).luns = s.luns := rfl
@[simp] theorem State.setPage_pwr (s a p) : (State.setPage s a p).pwr = s.pwr := rfl
@[simp] theorem State.setPage_sensors (s a p) : (State.setPage s a p).sensors = s.sensors := rfl
@[simp] theorem State.setPage_thermal (s a p) : (State.setPage s a p).thermal = s.thermal := rfl
@[simp] theorem State.setPage_fans (s a p) : (State.setPage s a p).fans = s.fans := rfl
@[simp] theorem State.setPage_sideband (s a p) : (State.setPage s a p).sideband = s.sideband := rfl
@[simp] theorem State.setPage_dram (s a p) : (State.setPage s a p).dram = s.dram := rfl
@[simp] theorem State.setPage_scs (s a p) : (State.setPage s a p).scs = s.scs := rfl
@[simp] theorem State.setPage_pool (s a p) : (State.setPage s a p).pool = s.pool := rfl
@[simp] theorem State.setPage_thi (s a p) : (State.setPage s a p).thi = s.thi := rfl
@[simp] theorem State.setPage_sec (s a p) : (State.setPage s a p).sec = s.sec := rfl
@[simp] theorem State.setPage_bst (s a p) : (State.setPage s a p).bst = s.bst := rfl
@[simp] theorem State.setPage_decs (s a p) : (State.setPage s a p).decs = s.decs := rfl
@[simp] theorem State.setPage_patrol (s a p) : (State.setPage s a p).patrol = s.patrol := rfl
@[simp] theorem State.setPage_ucode (s a p) : (State.setPage s a p).ucode = s.ucode := rfl
@[simp] theorem State.setPage_sched (s a p) : (State.setPage s a p).sched = s.sched := rfl
@[simp] theorem State.setPage_group (s a p) : (State.setPage s a p).group = s.group := rfl
@[simp] theorem State.setPage_out (s a p) : (State.setPage s a p).out = s.out := rfl
@[simp] theorem State.setPage_free (s a p) : (State.setPage s a p).free = s.free := rfl
@[simp] theorem State.setPage_pending (s a p) : (State.setPage s a p).pending = s.pending := rfl
@[simp] theorem State.setPage_rd_ (s a p u1 u2 u3) : (State.setPage s a p).rd u1 u2 u3 = s.rd u1 u2 u3 := rfl
@[simp] theorem State.setPage_on_ (s a p u1 u2 u3) : (State.setPage s a p).on u1 u2 u3 = s.on u1 u2 u3 := rfl
@[simp] theorem State.setPage_ep_ (s a p u1) : (State.setPage s a p).ep u1 = s.ep u1 := rfl
@[simp] theorem State.setPage_ring_ (s a p u1 u2) : (State.setPage s a p).ring u1 u2 = s.ring u1 u2 := rfl
@[simp] theorem State.setPage_ctx_ (s a p u1) : (State.setPage s a p).ctx u1 = s.ctx u1 := rfl
@[simp] theorem State.setPage_tag_ (s a p u1 u2) : (State.setPage s a p).tag u1 u2 = s.tag u1 u2 := rfl
@[simp] theorem State.setPage_vec_ (s a p u1 u2) : (State.setPage s a p).vec u1 u2 = s.vec u1 u2 := rfl
@[simp] theorem State.setPage_win_ (s a p u1) : (State.setPage s a p).win u1 = s.win u1 := rfl
@[simp] theorem State.setPage_lun_ (s a p u1 u2) : (State.setPage s a p).lun u1 u2 = s.lun u1 u2 := rfl
@[simp] theorem State.setPage_chn_ (s a p u1) : (State.setPage s a p).chn u1 = s.chn u1 := rfl
@[simp] theorem State.setPage_blk_ (s a p u1) : (State.setPage s a p).blk u1 = s.blk u1 := rfl
@[simp] theorem State.setPage_fan_ (s a p u1) : (State.setPage s a p).fan u1 = s.fan u1 := rfl
@[simp] theorem State.setPage_sc_ (s a p u1) : (State.setPage s a p).sc u1 = s.sc u1 := rfl
@[simp] theorem State.setPage_peer_ (s a p u1) : (State.setPage s a p).peer u1 = s.peer u1 := rfl
@[simp] theorem State.setPage_health__ (s a p u1) : (State.setPage s a p).health_ u1 = s.health_ u1 := rfl

/-! restartCoalesce -/
@[simp] theorem State.restartCoalesce_regs (s f v) : (State.restartCoalesce s f v).regs = s.regs := rfl
@[simp] theorem State.restartCoalesce_keptRegs (s f v) : (State.restartCoalesce s f v).keptRegs = s.keptRegs := rfl
@[simp] theorem State.restartCoalesce_pairLow (s f v) : (State.restartCoalesce s f v).pairLow = s.pairLow := rfl
@[simp] theorem State.restartCoalesce_pairHigh (s f v) : (State.restartCoalesce s f v).pairHigh = s.pairHigh := rfl
@[simp] theorem State.restartCoalesce_frame (s f v) : (State.restartCoalesce s f v).frame = s.frame := rfl
@[simp] theorem State.restartCoalesce_board (s f v) : (State.restartCoalesce s f v).board = s.board := rfl
@[simp] theorem State.restartCoalesce_sup (s f v) : (State.restartCoalesce s f v).sup = s.sup := rfl
@[simp] theorem State.restartCoalesce_boot (s f v) : (State.restartCoalesce s f v).boot = s.boot := rfl
@[simp] theorem State.restartCoalesce_pairs (s f v) : (State.restartCoalesce s f v).pairs = s.pairs := rfl
@[simp] theorem State.restartCoalesce_eps (s f v) : (State.restartCoalesce s f v).eps = s.eps := rfl
@[simp] theorem State.restartCoalesce_msix (s f v) : (State.restartCoalesce s f v).msix = s.msix := rfl
@[simp] theorem State.restartCoalesce_wins (s f v) : (State.restartCoalesce s f v).wins = s.wins := rfl
@[simp] theorem State.restartCoalesce_mem (s f v) : (State.restartCoalesce s f v).mem = s.mem := rfl
@[simp] theorem State.restartCoalesce_tags (s f v) : (State.restartCoalesce s f v).tags = s.tags := rfl
@[simp] theorem State.restartCoalesce_ctxs (s f v) : (State.restartCoalesce s f v).ctxs = s.ctxs := rfl
@[simp] theorem State.restartCoalesce_nextOrder (s f v) : (State.restartCoalesce s f v).nextOrder = s.nextOrder := rfl
@[simp] theorem State.restartCoalesce_recon (s f v) : (State.restartCoalesce s f v).recon = s.recon := rfl
@[simp] theorem State.restartCoalesce_reconSeq (s f v) : (State.restartCoalesce s f v).reconSeq = s.reconSeq := rfl
@[simp] theorem State.restartCoalesce_lost (s f v) : (State.restartCoalesce s f v).lost = s.lost := rfl
@[simp] theorem State.restartCoalesce_lostSeq (s f v) : (State.restartCoalesce s f v).lostSeq = s.lostSeq := rfl
@[simp] theorem State.restartCoalesce_events (s f v) : (State.restartCoalesce s f v).events = s.events := rfl
@[simp] theorem State.restartCoalesce_eventTotal (s f v) : (State.restartCoalesce s f v).eventTotal = s.eventTotal := rfl
@[simp] theorem State.restartCoalesce_health (s f v) : (State.restartCoalesce s f v).health = s.health := rfl
@[simp] theorem State.restartCoalesce_saved (s f v) : (State.restartCoalesce s f v).saved = s.saved := rfl
@[simp] theorem State.restartCoalesce_hostTime (s f v) : (State.restartCoalesce s f v).hostTime = s.hostTime := rfl
@[simp] theorem State.restartCoalesce_rrLast (s f v) : (State.restartCoalesce s f v).rrLast = s.rrLast := rfl
@[simp] theorem State.restartCoalesce_rrLeft (s f v) : (State.restartCoalesce s f v).rrLeft = s.rrLeft := rfl
@[simp] theorem State.restartCoalesce_ftl (s f v) : (State.restartCoalesce s f v).ftl = s.ftl := rfl
@[simp] theorem State.restartCoalesce_blks (s f v) : (State.restartCoalesce s f v).blks = s.blks := rfl
@[simp] theorem State.restartCoalesce_pages (s f v) : (State.restartCoalesce s f v).pages = s.pages := rfl
@[simp] theorem State.restartCoalesce_bands (s f v) : (State.restartCoalesce s f v).bands = s.bands := rfl
@[simp] theorem State.restartCoalesce_chns (s f v) : (State.restartCoalesce s f v).chns = s.chns := rfl
@[simp] theorem State.restartCoalesce_luns (s f v) : (State.restartCoalesce s f v).luns = s.luns := rfl
@[simp] theorem State.restartCoalesce_pwr (s f v) : (State.restartCoalesce s f v).pwr = s.pwr := rfl
@[simp] theorem State.restartCoalesce_sensors (s f v) : (State.restartCoalesce s f v).sensors = s.sensors := rfl
@[simp] theorem State.restartCoalesce_thermal (s f v) : (State.restartCoalesce s f v).thermal = s.thermal := rfl
@[simp] theorem State.restartCoalesce_fans (s f v) : (State.restartCoalesce s f v).fans = s.fans := rfl
@[simp] theorem State.restartCoalesce_sideband (s f v) : (State.restartCoalesce s f v).sideband = s.sideband := rfl
@[simp] theorem State.restartCoalesce_dram (s f v) : (State.restartCoalesce s f v).dram = s.dram := rfl
@[simp] theorem State.restartCoalesce_scs (s f v) : (State.restartCoalesce s f v).scs = s.scs := rfl
@[simp] theorem State.restartCoalesce_pool (s f v) : (State.restartCoalesce s f v).pool = s.pool := rfl
@[simp] theorem State.restartCoalesce_thi (s f v) : (State.restartCoalesce s f v).thi = s.thi := rfl
@[simp] theorem State.restartCoalesce_sec (s f v) : (State.restartCoalesce s f v).sec = s.sec := rfl
@[simp] theorem State.restartCoalesce_bst (s f v) : (State.restartCoalesce s f v).bst = s.bst := rfl
@[simp] theorem State.restartCoalesce_decs (s f v) : (State.restartCoalesce s f v).decs = s.decs := rfl
@[simp] theorem State.restartCoalesce_patrol (s f v) : (State.restartCoalesce s f v).patrol = s.patrol := rfl
@[simp] theorem State.restartCoalesce_ucode (s f v) : (State.restartCoalesce s f v).ucode = s.ucode := rfl
@[simp] theorem State.restartCoalesce_sched (s f v) : (State.restartCoalesce s f v).sched = s.sched := rfl
@[simp] theorem State.restartCoalesce_group (s f v) : (State.restartCoalesce s f v).group = s.group := rfl
@[simp] theorem State.restartCoalesce_out (s f v) : (State.restartCoalesce s f v).out = s.out := rfl
@[simp] theorem State.restartCoalesce_free (s f v) : (State.restartCoalesce s f v).free = s.free := rfl
@[simp] theorem State.restartCoalesce_pending (s f v) : (State.restartCoalesce s f v).pending = s.pending := rfl
@[simp] theorem State.restartCoalesce_rd_ (s f v u1 u2 u3) : (State.restartCoalesce s f v).rd u1 u2 u3 = s.rd u1 u2 u3 := rfl
@[simp] theorem State.restartCoalesce_on_ (s f v u1 u2 u3) : (State.restartCoalesce s f v).on u1 u2 u3 = s.on u1 u2 u3 := rfl
@[simp] theorem State.restartCoalesce_ep_ (s f v u1) : (State.restartCoalesce s f v).ep u1 = s.ep u1 := rfl
@[simp] theorem State.restartCoalesce_ctx_ (s f v u1) : (State.restartCoalesce s f v).ctx u1 = s.ctx u1 := rfl
@[simp] theorem State.restartCoalesce_tag_ (s f v u1 u2) : (State.restartCoalesce s f v).tag u1 u2 = s.tag u1 u2 := rfl
@[simp] theorem State.restartCoalesce_vec_ (s f v u1 u2) : (State.restartCoalesce s f v).vec u1 u2 = s.vec u1 u2 := rfl
@[simp] theorem State.restartCoalesce_win_ (s f v u1) : (State.restartCoalesce s f v).win u1 = s.win u1 := rfl
@[simp] theorem State.restartCoalesce_lun_ (s f v u1 u2) : (State.restartCoalesce s f v).lun u1 u2 = s.lun u1 u2 := rfl
@[simp] theorem State.restartCoalesce_chn_ (s f v u1) : (State.restartCoalesce s f v).chn u1 = s.chn u1 := rfl
@[simp] theorem State.restartCoalesce_blk_ (s f v u1) : (State.restartCoalesce s f v).blk u1 = s.blk u1 := rfl
@[simp] theorem State.restartCoalesce_page_ (s f v u1) : (State.restartCoalesce s f v).page u1 = s.page u1 := rfl
@[simp] theorem State.restartCoalesce_fan_ (s f v u1) : (State.restartCoalesce s f v).fan u1 = s.fan u1 := rfl
@[simp] theorem State.restartCoalesce_sc_ (s f v u1) : (State.restartCoalesce s f v).sc u1 = s.sc u1 := rfl
@[simp] theorem State.restartCoalesce_peer_ (s f v u1) : (State.restartCoalesce s f v).peer u1 = s.peer u1 := rfl
@[simp] theorem State.restartCoalesce_health__ (s f v u1) : (State.restartCoalesce s f v).health_ u1 = s.health_ u1 := rfl

/-! setFan -/
@[simp] theorem State.setFan_regs (s f x) : (State.setFan s f x).regs = s.regs := rfl
@[simp] theorem State.setFan_keptRegs (s f x) : (State.setFan s f x).keptRegs = s.keptRegs := rfl
@[simp] theorem State.setFan_pairLow (s f x) : (State.setFan s f x).pairLow = s.pairLow := rfl
@[simp] theorem State.setFan_pairHigh (s f x) : (State.setFan s f x).pairHigh = s.pairHigh := rfl
@[simp] theorem State.setFan_frame (s f x) : (State.setFan s f x).frame = s.frame := rfl
@[simp] theorem State.setFan_board (s f x) : (State.setFan s f x).board = s.board := rfl
@[simp] theorem State.setFan_sup (s f x) : (State.setFan s f x).sup = s.sup := rfl
@[simp] theorem State.setFan_boot (s f x) : (State.setFan s f x).boot = s.boot := rfl
@[simp] theorem State.setFan_pairs (s f x) : (State.setFan s f x).pairs = s.pairs := rfl
@[simp] theorem State.setFan_eps (s f x) : (State.setFan s f x).eps = s.eps := rfl
@[simp] theorem State.setFan_msix (s f x) : (State.setFan s f x).msix = s.msix := rfl
@[simp] theorem State.setFan_wins (s f x) : (State.setFan s f x).wins = s.wins := rfl
@[simp] theorem State.setFan_mem (s f x) : (State.setFan s f x).mem = s.mem := rfl
@[simp] theorem State.setFan_tags (s f x) : (State.setFan s f x).tags = s.tags := rfl
@[simp] theorem State.setFan_rings (s f x) : (State.setFan s f x).rings = s.rings := rfl
@[simp] theorem State.setFan_ctxs (s f x) : (State.setFan s f x).ctxs = s.ctxs := rfl
@[simp] theorem State.setFan_nextOrder (s f x) : (State.setFan s f x).nextOrder = s.nextOrder := rfl
@[simp] theorem State.setFan_recon (s f x) : (State.setFan s f x).recon = s.recon := rfl
@[simp] theorem State.setFan_reconSeq (s f x) : (State.setFan s f x).reconSeq = s.reconSeq := rfl
@[simp] theorem State.setFan_lost (s f x) : (State.setFan s f x).lost = s.lost := rfl
@[simp] theorem State.setFan_lostSeq (s f x) : (State.setFan s f x).lostSeq = s.lostSeq := rfl
@[simp] theorem State.setFan_events (s f x) : (State.setFan s f x).events = s.events := rfl
@[simp] theorem State.setFan_eventTotal (s f x) : (State.setFan s f x).eventTotal = s.eventTotal := rfl
@[simp] theorem State.setFan_health (s f x) : (State.setFan s f x).health = s.health := rfl
@[simp] theorem State.setFan_saved (s f x) : (State.setFan s f x).saved = s.saved := rfl
@[simp] theorem State.setFan_hostTime (s f x) : (State.setFan s f x).hostTime = s.hostTime := rfl
@[simp] theorem State.setFan_rrLast (s f x) : (State.setFan s f x).rrLast = s.rrLast := rfl
@[simp] theorem State.setFan_rrLeft (s f x) : (State.setFan s f x).rrLeft = s.rrLeft := rfl
@[simp] theorem State.setFan_ftl (s f x) : (State.setFan s f x).ftl = s.ftl := rfl
@[simp] theorem State.setFan_blks (s f x) : (State.setFan s f x).blks = s.blks := rfl
@[simp] theorem State.setFan_pages (s f x) : (State.setFan s f x).pages = s.pages := rfl
@[simp] theorem State.setFan_bands (s f x) : (State.setFan s f x).bands = s.bands := rfl
@[simp] theorem State.setFan_chns (s f x) : (State.setFan s f x).chns = s.chns := rfl
@[simp] theorem State.setFan_luns (s f x) : (State.setFan s f x).luns = s.luns := rfl
@[simp] theorem State.setFan_pwr (s f x) : (State.setFan s f x).pwr = s.pwr := rfl
@[simp] theorem State.setFan_sensors (s f x) : (State.setFan s f x).sensors = s.sensors := rfl
@[simp] theorem State.setFan_thermal (s f x) : (State.setFan s f x).thermal = s.thermal := rfl
@[simp] theorem State.setFan_sideband (s f x) : (State.setFan s f x).sideband = s.sideband := rfl
@[simp] theorem State.setFan_dram (s f x) : (State.setFan s f x).dram = s.dram := rfl
@[simp] theorem State.setFan_scs (s f x) : (State.setFan s f x).scs = s.scs := rfl
@[simp] theorem State.setFan_pool (s f x) : (State.setFan s f x).pool = s.pool := rfl
@[simp] theorem State.setFan_thi (s f x) : (State.setFan s f x).thi = s.thi := rfl
@[simp] theorem State.setFan_sec (s f x) : (State.setFan s f x).sec = s.sec := rfl
@[simp] theorem State.setFan_bst (s f x) : (State.setFan s f x).bst = s.bst := rfl
@[simp] theorem State.setFan_decs (s f x) : (State.setFan s f x).decs = s.decs := rfl
@[simp] theorem State.setFan_patrol (s f x) : (State.setFan s f x).patrol = s.patrol := rfl
@[simp] theorem State.setFan_ucode (s f x) : (State.setFan s f x).ucode = s.ucode := rfl
@[simp] theorem State.setFan_sched (s f x) : (State.setFan s f x).sched = s.sched := rfl
@[simp] theorem State.setFan_group (s f x) : (State.setFan s f x).group = s.group := rfl
@[simp] theorem State.setFan_out (s f x) : (State.setFan s f x).out = s.out := rfl
@[simp] theorem State.setFan_free (s f x) : (State.setFan s f x).free = s.free := rfl
@[simp] theorem State.setFan_pending (s f x) : (State.setFan s f x).pending = s.pending := rfl
@[simp] theorem State.setFan_rd_ (s f x u1 u2 u3) : (State.setFan s f x).rd u1 u2 u3 = s.rd u1 u2 u3 := rfl
@[simp] theorem State.setFan_on_ (s f x u1 u2 u3) : (State.setFan s f x).on u1 u2 u3 = s.on u1 u2 u3 := rfl
@[simp] theorem State.setFan_ep_ (s f x u1) : (State.setFan s f x).ep u1 = s.ep u1 := rfl
@[simp] theorem State.setFan_ring_ (s f x u1 u2) : (State.setFan s f x).ring u1 u2 = s.ring u1 u2 := rfl
@[simp] theorem State.setFan_ctx_ (s f x u1) : (State.setFan s f x).ctx u1 = s.ctx u1 := rfl
@[simp] theorem State.setFan_tag_ (s f x u1 u2) : (State.setFan s f x).tag u1 u2 = s.tag u1 u2 := rfl
@[simp] theorem State.setFan_vec_ (s f x u1 u2) : (State.setFan s f x).vec u1 u2 = s.vec u1 u2 := rfl
@[simp] theorem State.setFan_win_ (s f x u1) : (State.setFan s f x).win u1 = s.win u1 := rfl
@[simp] theorem State.setFan_lun_ (s f x u1 u2) : (State.setFan s f x).lun u1 u2 = s.lun u1 u2 := rfl
@[simp] theorem State.setFan_chn_ (s f x u1) : (State.setFan s f x).chn u1 = s.chn u1 := rfl
@[simp] theorem State.setFan_blk_ (s f x u1) : (State.setFan s f x).blk u1 = s.blk u1 := rfl
@[simp] theorem State.setFan_page_ (s f x u1) : (State.setFan s f x).page u1 = s.page u1 := rfl
@[simp] theorem State.setFan_sc_ (s f x u1) : (State.setFan s f x).sc u1 = s.sc u1 := rfl
@[simp] theorem State.setFan_peer_ (s f x u1) : (State.setFan s f x).peer u1 = s.peer u1 := rfl
@[simp] theorem State.setFan_health__ (s f x u1) : (State.setFan s f x).health_ u1 = s.health_ u1 := rfl

/-! setSc -/
@[simp] theorem State.setSc_regs (s n x) : (State.setSc s n x).regs = s.regs := rfl
@[simp] theorem State.setSc_keptRegs (s n x) : (State.setSc s n x).keptRegs = s.keptRegs := rfl
@[simp] theorem State.setSc_pairLow (s n x) : (State.setSc s n x).pairLow = s.pairLow := rfl
@[simp] theorem State.setSc_pairHigh (s n x) : (State.setSc s n x).pairHigh = s.pairHigh := rfl
@[simp] theorem State.setSc_frame (s n x) : (State.setSc s n x).frame = s.frame := rfl
@[simp] theorem State.setSc_board (s n x) : (State.setSc s n x).board = s.board := rfl
@[simp] theorem State.setSc_sup (s n x) : (State.setSc s n x).sup = s.sup := rfl
@[simp] theorem State.setSc_boot (s n x) : (State.setSc s n x).boot = s.boot := rfl
@[simp] theorem State.setSc_pairs (s n x) : (State.setSc s n x).pairs = s.pairs := rfl
@[simp] theorem State.setSc_eps (s n x) : (State.setSc s n x).eps = s.eps := rfl
@[simp] theorem State.setSc_msix (s n x) : (State.setSc s n x).msix = s.msix := rfl
@[simp] theorem State.setSc_wins (s n x) : (State.setSc s n x).wins = s.wins := rfl
@[simp] theorem State.setSc_mem (s n x) : (State.setSc s n x).mem = s.mem := rfl
@[simp] theorem State.setSc_tags (s n x) : (State.setSc s n x).tags = s.tags := rfl
@[simp] theorem State.setSc_rings (s n x) : (State.setSc s n x).rings = s.rings := rfl
@[simp] theorem State.setSc_ctxs (s n x) : (State.setSc s n x).ctxs = s.ctxs := rfl
@[simp] theorem State.setSc_nextOrder (s n x) : (State.setSc s n x).nextOrder = s.nextOrder := rfl
@[simp] theorem State.setSc_recon (s n x) : (State.setSc s n x).recon = s.recon := rfl
@[simp] theorem State.setSc_reconSeq (s n x) : (State.setSc s n x).reconSeq = s.reconSeq := rfl
@[simp] theorem State.setSc_lost (s n x) : (State.setSc s n x).lost = s.lost := rfl
@[simp] theorem State.setSc_lostSeq (s n x) : (State.setSc s n x).lostSeq = s.lostSeq := rfl
@[simp] theorem State.setSc_events (s n x) : (State.setSc s n x).events = s.events := rfl
@[simp] theorem State.setSc_eventTotal (s n x) : (State.setSc s n x).eventTotal = s.eventTotal := rfl
@[simp] theorem State.setSc_health (s n x) : (State.setSc s n x).health = s.health := rfl
@[simp] theorem State.setSc_saved (s n x) : (State.setSc s n x).saved = s.saved := rfl
@[simp] theorem State.setSc_hostTime (s n x) : (State.setSc s n x).hostTime = s.hostTime := rfl
@[simp] theorem State.setSc_rrLast (s n x) : (State.setSc s n x).rrLast = s.rrLast := rfl
@[simp] theorem State.setSc_rrLeft (s n x) : (State.setSc s n x).rrLeft = s.rrLeft := rfl
@[simp] theorem State.setSc_ftl (s n x) : (State.setSc s n x).ftl = s.ftl := rfl
@[simp] theorem State.setSc_blks (s n x) : (State.setSc s n x).blks = s.blks := rfl
@[simp] theorem State.setSc_pages (s n x) : (State.setSc s n x).pages = s.pages := rfl
@[simp] theorem State.setSc_bands (s n x) : (State.setSc s n x).bands = s.bands := rfl
@[simp] theorem State.setSc_chns (s n x) : (State.setSc s n x).chns = s.chns := rfl
@[simp] theorem State.setSc_luns (s n x) : (State.setSc s n x).luns = s.luns := rfl
@[simp] theorem State.setSc_pwr (s n x) : (State.setSc s n x).pwr = s.pwr := rfl
@[simp] theorem State.setSc_sensors (s n x) : (State.setSc s n x).sensors = s.sensors := rfl
@[simp] theorem State.setSc_thermal (s n x) : (State.setSc s n x).thermal = s.thermal := rfl
@[simp] theorem State.setSc_fans (s n x) : (State.setSc s n x).fans = s.fans := rfl
@[simp] theorem State.setSc_sideband (s n x) : (State.setSc s n x).sideband = s.sideband := rfl
@[simp] theorem State.setSc_dram (s n x) : (State.setSc s n x).dram = s.dram := rfl
@[simp] theorem State.setSc_pool (s n x) : (State.setSc s n x).pool = s.pool := rfl
@[simp] theorem State.setSc_thi (s n x) : (State.setSc s n x).thi = s.thi := rfl
@[simp] theorem State.setSc_sec (s n x) : (State.setSc s n x).sec = s.sec := rfl
@[simp] theorem State.setSc_bst (s n x) : (State.setSc s n x).bst = s.bst := rfl
@[simp] theorem State.setSc_decs (s n x) : (State.setSc s n x).decs = s.decs := rfl
@[simp] theorem State.setSc_patrol (s n x) : (State.setSc s n x).patrol = s.patrol := rfl
@[simp] theorem State.setSc_ucode (s n x) : (State.setSc s n x).ucode = s.ucode := rfl
@[simp] theorem State.setSc_sched (s n x) : (State.setSc s n x).sched = s.sched := rfl
@[simp] theorem State.setSc_group (s n x) : (State.setSc s n x).group = s.group := rfl
@[simp] theorem State.setSc_out (s n x) : (State.setSc s n x).out = s.out := rfl
@[simp] theorem State.setSc_free (s n x) : (State.setSc s n x).free = s.free := rfl
@[simp] theorem State.setSc_pending (s n x) : (State.setSc s n x).pending = s.pending := rfl
@[simp] theorem State.setSc_rd_ (s n x u1 u2 u3) : (State.setSc s n x).rd u1 u2 u3 = s.rd u1 u2 u3 := rfl
@[simp] theorem State.setSc_on_ (s n x u1 u2 u3) : (State.setSc s n x).on u1 u2 u3 = s.on u1 u2 u3 := rfl
@[simp] theorem State.setSc_ep_ (s n x u1) : (State.setSc s n x).ep u1 = s.ep u1 := rfl
@[simp] theorem State.setSc_ring_ (s n x u1 u2) : (State.setSc s n x).ring u1 u2 = s.ring u1 u2 := rfl
@[simp] theorem State.setSc_ctx_ (s n x u1) : (State.setSc s n x).ctx u1 = s.ctx u1 := rfl
@[simp] theorem State.setSc_tag_ (s n x u1 u2) : (State.setSc s n x).tag u1 u2 = s.tag u1 u2 := rfl
@[simp] theorem State.setSc_vec_ (s n x u1 u2) : (State.setSc s n x).vec u1 u2 = s.vec u1 u2 := rfl
@[simp] theorem State.setSc_win_ (s n x u1) : (State.setSc s n x).win u1 = s.win u1 := rfl
@[simp] theorem State.setSc_lun_ (s n x u1 u2) : (State.setSc s n x).lun u1 u2 = s.lun u1 u2 := rfl
@[simp] theorem State.setSc_chn_ (s n x u1) : (State.setSc s n x).chn u1 = s.chn u1 := rfl
@[simp] theorem State.setSc_blk_ (s n x u1) : (State.setSc s n x).blk u1 = s.blk u1 := rfl
@[simp] theorem State.setSc_page_ (s n x u1) : (State.setSc s n x).page u1 = s.page u1 := rfl
@[simp] theorem State.setSc_fan_ (s n x u1) : (State.setSc s n x).fan u1 = s.fan u1 := rfl
@[simp] theorem State.setSc_peer_ (s n x u1) : (State.setSc s n x).peer u1 = s.peer u1 := rfl
@[simp] theorem State.setSc_health__ (s n x u1) : (State.setSc s n x).health_ u1 = s.health_ u1 := rfl

/-! setSensor -/
@[simp] theorem State.setSensor_regs (s k x) : (State.setSensor s k x).regs = s.regs := rfl
@[simp] theorem State.setSensor_keptRegs (s k x) : (State.setSensor s k x).keptRegs = s.keptRegs := rfl
@[simp] theorem State.setSensor_pairLow (s k x) : (State.setSensor s k x).pairLow = s.pairLow := rfl
@[simp] theorem State.setSensor_pairHigh (s k x) : (State.setSensor s k x).pairHigh = s.pairHigh := rfl
@[simp] theorem State.setSensor_frame (s k x) : (State.setSensor s k x).frame = s.frame := rfl
@[simp] theorem State.setSensor_board (s k x) : (State.setSensor s k x).board = s.board := rfl
@[simp] theorem State.setSensor_sup (s k x) : (State.setSensor s k x).sup = s.sup := rfl
@[simp] theorem State.setSensor_boot (s k x) : (State.setSensor s k x).boot = s.boot := rfl
@[simp] theorem State.setSensor_pairs (s k x) : (State.setSensor s k x).pairs = s.pairs := rfl
@[simp] theorem State.setSensor_eps (s k x) : (State.setSensor s k x).eps = s.eps := rfl
@[simp] theorem State.setSensor_msix (s k x) : (State.setSensor s k x).msix = s.msix := rfl
@[simp] theorem State.setSensor_wins (s k x) : (State.setSensor s k x).wins = s.wins := rfl
@[simp] theorem State.setSensor_mem (s k x) : (State.setSensor s k x).mem = s.mem := rfl
@[simp] theorem State.setSensor_tags (s k x) : (State.setSensor s k x).tags = s.tags := rfl
@[simp] theorem State.setSensor_rings (s k x) : (State.setSensor s k x).rings = s.rings := rfl
@[simp] theorem State.setSensor_ctxs (s k x) : (State.setSensor s k x).ctxs = s.ctxs := rfl
@[simp] theorem State.setSensor_nextOrder (s k x) : (State.setSensor s k x).nextOrder = s.nextOrder := rfl
@[simp] theorem State.setSensor_recon (s k x) : (State.setSensor s k x).recon = s.recon := rfl
@[simp] theorem State.setSensor_reconSeq (s k x) : (State.setSensor s k x).reconSeq = s.reconSeq := rfl
@[simp] theorem State.setSensor_lost (s k x) : (State.setSensor s k x).lost = s.lost := rfl
@[simp] theorem State.setSensor_lostSeq (s k x) : (State.setSensor s k x).lostSeq = s.lostSeq := rfl
@[simp] theorem State.setSensor_events (s k x) : (State.setSensor s k x).events = s.events := rfl
@[simp] theorem State.setSensor_eventTotal (s k x) : (State.setSensor s k x).eventTotal = s.eventTotal := rfl
@[simp] theorem State.setSensor_health (s k x) : (State.setSensor s k x).health = s.health := rfl
@[simp] theorem State.setSensor_saved (s k x) : (State.setSensor s k x).saved = s.saved := rfl
@[simp] theorem State.setSensor_hostTime (s k x) : (State.setSensor s k x).hostTime = s.hostTime := rfl
@[simp] theorem State.setSensor_rrLast (s k x) : (State.setSensor s k x).rrLast = s.rrLast := rfl
@[simp] theorem State.setSensor_rrLeft (s k x) : (State.setSensor s k x).rrLeft = s.rrLeft := rfl
@[simp] theorem State.setSensor_ftl (s k x) : (State.setSensor s k x).ftl = s.ftl := rfl
@[simp] theorem State.setSensor_blks (s k x) : (State.setSensor s k x).blks = s.blks := rfl
@[simp] theorem State.setSensor_pages (s k x) : (State.setSensor s k x).pages = s.pages := rfl
@[simp] theorem State.setSensor_bands (s k x) : (State.setSensor s k x).bands = s.bands := rfl
@[simp] theorem State.setSensor_chns (s k x) : (State.setSensor s k x).chns = s.chns := rfl
@[simp] theorem State.setSensor_luns (s k x) : (State.setSensor s k x).luns = s.luns := rfl
@[simp] theorem State.setSensor_pwr (s k x) : (State.setSensor s k x).pwr = s.pwr := rfl
@[simp] theorem State.setSensor_thermal (s k x) : (State.setSensor s k x).thermal = s.thermal := rfl
@[simp] theorem State.setSensor_fans (s k x) : (State.setSensor s k x).fans = s.fans := rfl
@[simp] theorem State.setSensor_sideband (s k x) : (State.setSensor s k x).sideband = s.sideband := rfl
@[simp] theorem State.setSensor_dram (s k x) : (State.setSensor s k x).dram = s.dram := rfl
@[simp] theorem State.setSensor_scs (s k x) : (State.setSensor s k x).scs = s.scs := rfl
@[simp] theorem State.setSensor_pool (s k x) : (State.setSensor s k x).pool = s.pool := rfl
@[simp] theorem State.setSensor_thi (s k x) : (State.setSensor s k x).thi = s.thi := rfl
@[simp] theorem State.setSensor_sec (s k x) : (State.setSensor s k x).sec = s.sec := rfl
@[simp] theorem State.setSensor_bst (s k x) : (State.setSensor s k x).bst = s.bst := rfl
@[simp] theorem State.setSensor_decs (s k x) : (State.setSensor s k x).decs = s.decs := rfl
@[simp] theorem State.setSensor_patrol (s k x) : (State.setSensor s k x).patrol = s.patrol := rfl
@[simp] theorem State.setSensor_ucode (s k x) : (State.setSensor s k x).ucode = s.ucode := rfl
@[simp] theorem State.setSensor_sched (s k x) : (State.setSensor s k x).sched = s.sched := rfl
@[simp] theorem State.setSensor_group (s k x) : (State.setSensor s k x).group = s.group := rfl
@[simp] theorem State.setSensor_out (s k x) : (State.setSensor s k x).out = s.out := rfl
@[simp] theorem State.setSensor_free (s k x) : (State.setSensor s k x).free = s.free := rfl
@[simp] theorem State.setSensor_pending (s k x) : (State.setSensor s k x).pending = s.pending := rfl
@[simp] theorem State.setSensor_rd_ (s k x u1 u2 u3) : (State.setSensor s k x).rd u1 u2 u3 = s.rd u1 u2 u3 := rfl
@[simp] theorem State.setSensor_on_ (s k x u1 u2 u3) : (State.setSensor s k x).on u1 u2 u3 = s.on u1 u2 u3 := rfl
@[simp] theorem State.setSensor_ep_ (s k x u1) : (State.setSensor s k x).ep u1 = s.ep u1 := rfl
@[simp] theorem State.setSensor_ring_ (s k x u1 u2) : (State.setSensor s k x).ring u1 u2 = s.ring u1 u2 := rfl
@[simp] theorem State.setSensor_ctx_ (s k x u1) : (State.setSensor s k x).ctx u1 = s.ctx u1 := rfl
@[simp] theorem State.setSensor_tag_ (s k x u1 u2) : (State.setSensor s k x).tag u1 u2 = s.tag u1 u2 := rfl
@[simp] theorem State.setSensor_vec_ (s k x u1 u2) : (State.setSensor s k x).vec u1 u2 = s.vec u1 u2 := rfl
@[simp] theorem State.setSensor_win_ (s k x u1) : (State.setSensor s k x).win u1 = s.win u1 := rfl
@[simp] theorem State.setSensor_lun_ (s k x u1 u2) : (State.setSensor s k x).lun u1 u2 = s.lun u1 u2 := rfl
@[simp] theorem State.setSensor_chn_ (s k x u1) : (State.setSensor s k x).chn u1 = s.chn u1 := rfl
@[simp] theorem State.setSensor_blk_ (s k x u1) : (State.setSensor s k x).blk u1 = s.blk u1 := rfl
@[simp] theorem State.setSensor_page_ (s k x u1) : (State.setSensor s k x).page u1 = s.page u1 := rfl
@[simp] theorem State.setSensor_fan_ (s k x u1) : (State.setSensor s k x).fan u1 = s.fan u1 := rfl
@[simp] theorem State.setSensor_sc_ (s k x u1) : (State.setSensor s k x).sc u1 = s.sc u1 := rfl
@[simp] theorem State.setSensor_peer_ (s k x u1) : (State.setSensor s k x).peer u1 = s.peer u1 := rfl
@[simp] theorem State.setSensor_health__ (s k x u1) : (State.setSensor s k x).health_ u1 = s.health_ u1 := rfl

/-! setBuf -/
@[simp] theorem State.setBuf_regs (s b x) : (State.setBuf s b x).regs = s.regs := rfl
@[simp] theorem State.setBuf_keptRegs (s b x) : (State.setBuf s b x).keptRegs = s.keptRegs := rfl
@[simp] theorem State.setBuf_pairLow (s b x) : (State.setBuf s b x).pairLow = s.pairLow := rfl
@[simp] theorem State.setBuf_pairHigh (s b x) : (State.setBuf s b x).pairHigh = s.pairHigh := rfl
@[simp] theorem State.setBuf_frame (s b x) : (State.setBuf s b x).frame = s.frame := rfl
@[simp] theorem State.setBuf_board (s b x) : (State.setBuf s b x).board = s.board := rfl
@[simp] theorem State.setBuf_sup (s b x) : (State.setBuf s b x).sup = s.sup := rfl
@[simp] theorem State.setBuf_boot (s b x) : (State.setBuf s b x).boot = s.boot := rfl
@[simp] theorem State.setBuf_pairs (s b x) : (State.setBuf s b x).pairs = s.pairs := rfl
@[simp] theorem State.setBuf_eps (s b x) : (State.setBuf s b x).eps = s.eps := rfl
@[simp] theorem State.setBuf_msix (s b x) : (State.setBuf s b x).msix = s.msix := rfl
@[simp] theorem State.setBuf_wins (s b x) : (State.setBuf s b x).wins = s.wins := rfl
@[simp] theorem State.setBuf_mem (s b x) : (State.setBuf s b x).mem = s.mem := rfl
@[simp] theorem State.setBuf_tags (s b x) : (State.setBuf s b x).tags = s.tags := rfl
@[simp] theorem State.setBuf_rings (s b x) : (State.setBuf s b x).rings = s.rings := rfl
@[simp] theorem State.setBuf_ctxs (s b x) : (State.setBuf s b x).ctxs = s.ctxs := rfl
@[simp] theorem State.setBuf_nextOrder (s b x) : (State.setBuf s b x).nextOrder = s.nextOrder := rfl
@[simp] theorem State.setBuf_recon (s b x) : (State.setBuf s b x).recon = s.recon := rfl
@[simp] theorem State.setBuf_reconSeq (s b x) : (State.setBuf s b x).reconSeq = s.reconSeq := rfl
@[simp] theorem State.setBuf_lost (s b x) : (State.setBuf s b x).lost = s.lost := rfl
@[simp] theorem State.setBuf_lostSeq (s b x) : (State.setBuf s b x).lostSeq = s.lostSeq := rfl
@[simp] theorem State.setBuf_events (s b x) : (State.setBuf s b x).events = s.events := rfl
@[simp] theorem State.setBuf_eventTotal (s b x) : (State.setBuf s b x).eventTotal = s.eventTotal := rfl
@[simp] theorem State.setBuf_health (s b x) : (State.setBuf s b x).health = s.health := rfl
@[simp] theorem State.setBuf_saved (s b x) : (State.setBuf s b x).saved = s.saved := rfl
@[simp] theorem State.setBuf_hostTime (s b x) : (State.setBuf s b x).hostTime = s.hostTime := rfl
@[simp] theorem State.setBuf_rrLast (s b x) : (State.setBuf s b x).rrLast = s.rrLast := rfl
@[simp] theorem State.setBuf_rrLeft (s b x) : (State.setBuf s b x).rrLeft = s.rrLeft := rfl
@[simp] theorem State.setBuf_ftl (s b x) : (State.setBuf s b x).ftl = s.ftl := rfl
@[simp] theorem State.setBuf_blks (s b x) : (State.setBuf s b x).blks = s.blks := rfl
@[simp] theorem State.setBuf_pages (s b x) : (State.setBuf s b x).pages = s.pages := rfl
@[simp] theorem State.setBuf_bands (s b x) : (State.setBuf s b x).bands = s.bands := rfl
@[simp] theorem State.setBuf_chns (s b x) : (State.setBuf s b x).chns = s.chns := rfl
@[simp] theorem State.setBuf_luns (s b x) : (State.setBuf s b x).luns = s.luns := rfl
@[simp] theorem State.setBuf_pwr (s b x) : (State.setBuf s b x).pwr = s.pwr := rfl
@[simp] theorem State.setBuf_sensors (s b x) : (State.setBuf s b x).sensors = s.sensors := rfl
@[simp] theorem State.setBuf_thermal (s b x) : (State.setBuf s b x).thermal = s.thermal := rfl
@[simp] theorem State.setBuf_fans (s b x) : (State.setBuf s b x).fans = s.fans := rfl
@[simp] theorem State.setBuf_sideband (s b x) : (State.setBuf s b x).sideband = s.sideband := rfl
@[simp] theorem State.setBuf_dram (s b x) : (State.setBuf s b x).dram = s.dram := rfl
@[simp] theorem State.setBuf_scs (s b x) : (State.setBuf s b x).scs = s.scs := rfl
@[simp] theorem State.setBuf_thi (s b x) : (State.setBuf s b x).thi = s.thi := rfl
@[simp] theorem State.setBuf_sec (s b x) : (State.setBuf s b x).sec = s.sec := rfl
@[simp] theorem State.setBuf_bst (s b x) : (State.setBuf s b x).bst = s.bst := rfl
@[simp] theorem State.setBuf_decs (s b x) : (State.setBuf s b x).decs = s.decs := rfl
@[simp] theorem State.setBuf_patrol (s b x) : (State.setBuf s b x).patrol = s.patrol := rfl
@[simp] theorem State.setBuf_ucode (s b x) : (State.setBuf s b x).ucode = s.ucode := rfl
@[simp] theorem State.setBuf_sched (s b x) : (State.setBuf s b x).sched = s.sched := rfl
@[simp] theorem State.setBuf_group (s b x) : (State.setBuf s b x).group = s.group := rfl
@[simp] theorem State.setBuf_out (s b x) : (State.setBuf s b x).out = s.out := rfl
@[simp] theorem State.setBuf_free (s b x) : (State.setBuf s b x).free = s.free := rfl
@[simp] theorem State.setBuf_pending (s b x) : (State.setBuf s b x).pending = s.pending := rfl
@[simp] theorem State.setBuf_rd_ (s b x u1 u2 u3) : (State.setBuf s b x).rd u1 u2 u3 = s.rd u1 u2 u3 := rfl
@[simp] theorem State.setBuf_on_ (s b x u1 u2 u3) : (State.setBuf s b x).on u1 u2 u3 = s.on u1 u2 u3 := rfl
@[simp] theorem State.setBuf_ep_ (s b x u1) : (State.setBuf s b x).ep u1 = s.ep u1 := rfl
@[simp] theorem State.setBuf_ring_ (s b x u1 u2) : (State.setBuf s b x).ring u1 u2 = s.ring u1 u2 := rfl
@[simp] theorem State.setBuf_ctx_ (s b x u1) : (State.setBuf s b x).ctx u1 = s.ctx u1 := rfl
@[simp] theorem State.setBuf_tag_ (s b x u1 u2) : (State.setBuf s b x).tag u1 u2 = s.tag u1 u2 := rfl
@[simp] theorem State.setBuf_vec_ (s b x u1 u2) : (State.setBuf s b x).vec u1 u2 = s.vec u1 u2 := rfl
@[simp] theorem State.setBuf_win_ (s b x u1) : (State.setBuf s b x).win u1 = s.win u1 := rfl
@[simp] theorem State.setBuf_lun_ (s b x u1 u2) : (State.setBuf s b x).lun u1 u2 = s.lun u1 u2 := rfl
@[simp] theorem State.setBuf_chn_ (s b x u1) : (State.setBuf s b x).chn u1 = s.chn u1 := rfl
@[simp] theorem State.setBuf_blk_ (s b x u1) : (State.setBuf s b x).blk u1 = s.blk u1 := rfl
@[simp] theorem State.setBuf_page_ (s b x u1) : (State.setBuf s b x).page u1 = s.page u1 := rfl
@[simp] theorem State.setBuf_fan_ (s b x u1) : (State.setBuf s b x).fan u1 = s.fan u1 := rfl
@[simp] theorem State.setBuf_sc_ (s b x u1) : (State.setBuf s b x).sc u1 = s.sc u1 := rfl
@[simp] theorem State.setBuf_peer_ (s b x u1) : (State.setBuf s b x).peer u1 = s.peer u1 := rfl
@[simp] theorem State.setBuf_health__ (s b x u1) : (State.setBuf s b x).health_ u1 = s.health_ u1 := rfl

/-! setThi -/
@[simp] theorem State.setThi_regs (s i e) : (State.setThi s i e).regs = s.regs := rfl
@[simp] theorem State.setThi_keptRegs (s i e) : (State.setThi s i e).keptRegs = s.keptRegs := rfl
@[simp] theorem State.setThi_pairLow (s i e) : (State.setThi s i e).pairLow = s.pairLow := rfl
@[simp] theorem State.setThi_pairHigh (s i e) : (State.setThi s i e).pairHigh = s.pairHigh := rfl
@[simp] theorem State.setThi_frame (s i e) : (State.setThi s i e).frame = s.frame := rfl
@[simp] theorem State.setThi_board (s i e) : (State.setThi s i e).board = s.board := rfl
@[simp] theorem State.setThi_sup (s i e) : (State.setThi s i e).sup = s.sup := rfl
@[simp] theorem State.setThi_boot (s i e) : (State.setThi s i e).boot = s.boot := rfl
@[simp] theorem State.setThi_pairs (s i e) : (State.setThi s i e).pairs = s.pairs := rfl
@[simp] theorem State.setThi_eps (s i e) : (State.setThi s i e).eps = s.eps := rfl
@[simp] theorem State.setThi_msix (s i e) : (State.setThi s i e).msix = s.msix := rfl
@[simp] theorem State.setThi_wins (s i e) : (State.setThi s i e).wins = s.wins := rfl
@[simp] theorem State.setThi_mem (s i e) : (State.setThi s i e).mem = s.mem := rfl
@[simp] theorem State.setThi_tags (s i e) : (State.setThi s i e).tags = s.tags := rfl
@[simp] theorem State.setThi_rings (s i e) : (State.setThi s i e).rings = s.rings := rfl
@[simp] theorem State.setThi_ctxs (s i e) : (State.setThi s i e).ctxs = s.ctxs := rfl
@[simp] theorem State.setThi_nextOrder (s i e) : (State.setThi s i e).nextOrder = s.nextOrder := rfl
@[simp] theorem State.setThi_recon (s i e) : (State.setThi s i e).recon = s.recon := rfl
@[simp] theorem State.setThi_reconSeq (s i e) : (State.setThi s i e).reconSeq = s.reconSeq := rfl
@[simp] theorem State.setThi_lost (s i e) : (State.setThi s i e).lost = s.lost := rfl
@[simp] theorem State.setThi_lostSeq (s i e) : (State.setThi s i e).lostSeq = s.lostSeq := rfl
@[simp] theorem State.setThi_events (s i e) : (State.setThi s i e).events = s.events := rfl
@[simp] theorem State.setThi_eventTotal (s i e) : (State.setThi s i e).eventTotal = s.eventTotal := rfl
@[simp] theorem State.setThi_health (s i e) : (State.setThi s i e).health = s.health := rfl
@[simp] theorem State.setThi_saved (s i e) : (State.setThi s i e).saved = s.saved := rfl
@[simp] theorem State.setThi_hostTime (s i e) : (State.setThi s i e).hostTime = s.hostTime := rfl
@[simp] theorem State.setThi_rrLast (s i e) : (State.setThi s i e).rrLast = s.rrLast := rfl
@[simp] theorem State.setThi_rrLeft (s i e) : (State.setThi s i e).rrLeft = s.rrLeft := rfl
@[simp] theorem State.setThi_ftl (s i e) : (State.setThi s i e).ftl = s.ftl := rfl
@[simp] theorem State.setThi_blks (s i e) : (State.setThi s i e).blks = s.blks := rfl
@[simp] theorem State.setThi_pages (s i e) : (State.setThi s i e).pages = s.pages := rfl
@[simp] theorem State.setThi_bands (s i e) : (State.setThi s i e).bands = s.bands := rfl
@[simp] theorem State.setThi_chns (s i e) : (State.setThi s i e).chns = s.chns := rfl
@[simp] theorem State.setThi_luns (s i e) : (State.setThi s i e).luns = s.luns := rfl
@[simp] theorem State.setThi_pwr (s i e) : (State.setThi s i e).pwr = s.pwr := rfl
@[simp] theorem State.setThi_sensors (s i e) : (State.setThi s i e).sensors = s.sensors := rfl
@[simp] theorem State.setThi_thermal (s i e) : (State.setThi s i e).thermal = s.thermal := rfl
@[simp] theorem State.setThi_fans (s i e) : (State.setThi s i e).fans = s.fans := rfl
@[simp] theorem State.setThi_sideband (s i e) : (State.setThi s i e).sideband = s.sideband := rfl
@[simp] theorem State.setThi_dram (s i e) : (State.setThi s i e).dram = s.dram := rfl
@[simp] theorem State.setThi_scs (s i e) : (State.setThi s i e).scs = s.scs := rfl
@[simp] theorem State.setThi_pool (s i e) : (State.setThi s i e).pool = s.pool := rfl
@[simp] theorem State.setThi_sec (s i e) : (State.setThi s i e).sec = s.sec := rfl
@[simp] theorem State.setThi_bst (s i e) : (State.setThi s i e).bst = s.bst := rfl
@[simp] theorem State.setThi_decs (s i e) : (State.setThi s i e).decs = s.decs := rfl
@[simp] theorem State.setThi_patrol (s i e) : (State.setThi s i e).patrol = s.patrol := rfl
@[simp] theorem State.setThi_ucode (s i e) : (State.setThi s i e).ucode = s.ucode := rfl
@[simp] theorem State.setThi_sched (s i e) : (State.setThi s i e).sched = s.sched := rfl
@[simp] theorem State.setThi_group (s i e) : (State.setThi s i e).group = s.group := rfl
@[simp] theorem State.setThi_out (s i e) : (State.setThi s i e).out = s.out := rfl
@[simp] theorem State.setThi_free (s i e) : (State.setThi s i e).free = s.free := rfl
@[simp] theorem State.setThi_pending (s i e) : (State.setThi s i e).pending = s.pending := rfl
@[simp] theorem State.setThi_rd_ (s i e u1 u2 u3) : (State.setThi s i e).rd u1 u2 u3 = s.rd u1 u2 u3 := rfl
@[simp] theorem State.setThi_on_ (s i e u1 u2 u3) : (State.setThi s i e).on u1 u2 u3 = s.on u1 u2 u3 := rfl
@[simp] theorem State.setThi_ep_ (s i e u1) : (State.setThi s i e).ep u1 = s.ep u1 := rfl
@[simp] theorem State.setThi_ring_ (s i e u1 u2) : (State.setThi s i e).ring u1 u2 = s.ring u1 u2 := rfl
@[simp] theorem State.setThi_ctx_ (s i e u1) : (State.setThi s i e).ctx u1 = s.ctx u1 := rfl
@[simp] theorem State.setThi_tag_ (s i e u1 u2) : (State.setThi s i e).tag u1 u2 = s.tag u1 u2 := rfl
@[simp] theorem State.setThi_vec_ (s i e u1 u2) : (State.setThi s i e).vec u1 u2 = s.vec u1 u2 := rfl
@[simp] theorem State.setThi_win_ (s i e u1) : (State.setThi s i e).win u1 = s.win u1 := rfl
@[simp] theorem State.setThi_lun_ (s i e u1 u2) : (State.setThi s i e).lun u1 u2 = s.lun u1 u2 := rfl
@[simp] theorem State.setThi_chn_ (s i e u1) : (State.setThi s i e).chn u1 = s.chn u1 := rfl
@[simp] theorem State.setThi_blk_ (s i e u1) : (State.setThi s i e).blk u1 = s.blk u1 := rfl
@[simp] theorem State.setThi_page_ (s i e u1) : (State.setThi s i e).page u1 = s.page u1 := rfl
@[simp] theorem State.setThi_fan_ (s i e u1) : (State.setThi s i e).fan u1 = s.fan u1 := rfl
@[simp] theorem State.setThi_sc_ (s i e u1) : (State.setThi s i e).sc u1 = s.sc u1 := rfl
@[simp] theorem State.setThi_peer_ (s i e u1) : (State.setThi s i e).peer u1 = s.peer u1 := rfl
@[simp] theorem State.setThi_health__ (s i e u1) : (State.setThi s i e).health_ u1 = s.health_ u1 := rfl

/-! setPeer -/
@[simp] theorem State.setPeer_regs (s j p) : (State.setPeer s j p).regs = s.regs := rfl
@[simp] theorem State.setPeer_keptRegs (s j p) : (State.setPeer s j p).keptRegs = s.keptRegs := rfl
@[simp] theorem State.setPeer_pairLow (s j p) : (State.setPeer s j p).pairLow = s.pairLow := rfl
@[simp] theorem State.setPeer_pairHigh (s j p) : (State.setPeer s j p).pairHigh = s.pairHigh := rfl
@[simp] theorem State.setPeer_frame (s j p) : (State.setPeer s j p).frame = s.frame := rfl
@[simp] theorem State.setPeer_board (s j p) : (State.setPeer s j p).board = s.board := rfl
@[simp] theorem State.setPeer_sup (s j p) : (State.setPeer s j p).sup = s.sup := rfl
@[simp] theorem State.setPeer_boot (s j p) : (State.setPeer s j p).boot = s.boot := rfl
@[simp] theorem State.setPeer_pairs (s j p) : (State.setPeer s j p).pairs = s.pairs := rfl
@[simp] theorem State.setPeer_eps (s j p) : (State.setPeer s j p).eps = s.eps := rfl
@[simp] theorem State.setPeer_msix (s j p) : (State.setPeer s j p).msix = s.msix := rfl
@[simp] theorem State.setPeer_wins (s j p) : (State.setPeer s j p).wins = s.wins := rfl
@[simp] theorem State.setPeer_mem (s j p) : (State.setPeer s j p).mem = s.mem := rfl
@[simp] theorem State.setPeer_tags (s j p) : (State.setPeer s j p).tags = s.tags := rfl
@[simp] theorem State.setPeer_rings (s j p) : (State.setPeer s j p).rings = s.rings := rfl
@[simp] theorem State.setPeer_ctxs (s j p) : (State.setPeer s j p).ctxs = s.ctxs := rfl
@[simp] theorem State.setPeer_nextOrder (s j p) : (State.setPeer s j p).nextOrder = s.nextOrder := rfl
@[simp] theorem State.setPeer_recon (s j p) : (State.setPeer s j p).recon = s.recon := rfl
@[simp] theorem State.setPeer_reconSeq (s j p) : (State.setPeer s j p).reconSeq = s.reconSeq := rfl
@[simp] theorem State.setPeer_lost (s j p) : (State.setPeer s j p).lost = s.lost := rfl
@[simp] theorem State.setPeer_lostSeq (s j p) : (State.setPeer s j p).lostSeq = s.lostSeq := rfl
@[simp] theorem State.setPeer_events (s j p) : (State.setPeer s j p).events = s.events := rfl
@[simp] theorem State.setPeer_eventTotal (s j p) : (State.setPeer s j p).eventTotal = s.eventTotal := rfl
@[simp] theorem State.setPeer_health (s j p) : (State.setPeer s j p).health = s.health := rfl
@[simp] theorem State.setPeer_saved (s j p) : (State.setPeer s j p).saved = s.saved := rfl
@[simp] theorem State.setPeer_hostTime (s j p) : (State.setPeer s j p).hostTime = s.hostTime := rfl
@[simp] theorem State.setPeer_rrLast (s j p) : (State.setPeer s j p).rrLast = s.rrLast := rfl
@[simp] theorem State.setPeer_rrLeft (s j p) : (State.setPeer s j p).rrLeft = s.rrLeft := rfl
@[simp] theorem State.setPeer_ftl (s j p) : (State.setPeer s j p).ftl = s.ftl := rfl
@[simp] theorem State.setPeer_blks (s j p) : (State.setPeer s j p).blks = s.blks := rfl
@[simp] theorem State.setPeer_pages (s j p) : (State.setPeer s j p).pages = s.pages := rfl
@[simp] theorem State.setPeer_bands (s j p) : (State.setPeer s j p).bands = s.bands := rfl
@[simp] theorem State.setPeer_chns (s j p) : (State.setPeer s j p).chns = s.chns := rfl
@[simp] theorem State.setPeer_luns (s j p) : (State.setPeer s j p).luns = s.luns := rfl
@[simp] theorem State.setPeer_pwr (s j p) : (State.setPeer s j p).pwr = s.pwr := rfl
@[simp] theorem State.setPeer_sensors (s j p) : (State.setPeer s j p).sensors = s.sensors := rfl
@[simp] theorem State.setPeer_thermal (s j p) : (State.setPeer s j p).thermal = s.thermal := rfl
@[simp] theorem State.setPeer_fans (s j p) : (State.setPeer s j p).fans = s.fans := rfl
@[simp] theorem State.setPeer_sideband (s j p) : (State.setPeer s j p).sideband = s.sideband := rfl
@[simp] theorem State.setPeer_dram (s j p) : (State.setPeer s j p).dram = s.dram := rfl
@[simp] theorem State.setPeer_scs (s j p) : (State.setPeer s j p).scs = s.scs := rfl
@[simp] theorem State.setPeer_pool (s j p) : (State.setPeer s j p).pool = s.pool := rfl
@[simp] theorem State.setPeer_thi (s j p) : (State.setPeer s j p).thi = s.thi := rfl
@[simp] theorem State.setPeer_sec (s j p) : (State.setPeer s j p).sec = s.sec := rfl
@[simp] theorem State.setPeer_bst (s j p) : (State.setPeer s j p).bst = s.bst := rfl
@[simp] theorem State.setPeer_decs (s j p) : (State.setPeer s j p).decs = s.decs := rfl
@[simp] theorem State.setPeer_patrol (s j p) : (State.setPeer s j p).patrol = s.patrol := rfl
@[simp] theorem State.setPeer_ucode (s j p) : (State.setPeer s j p).ucode = s.ucode := rfl
@[simp] theorem State.setPeer_sched (s j p) : (State.setPeer s j p).sched = s.sched := rfl
@[simp] theorem State.setPeer_out (s j p) : (State.setPeer s j p).out = s.out := rfl
@[simp] theorem State.setPeer_free (s j p) : (State.setPeer s j p).free = s.free := rfl
@[simp] theorem State.setPeer_pending (s j p) : (State.setPeer s j p).pending = s.pending := rfl
@[simp] theorem State.setPeer_rd_ (s j p u1 u2 u3) : (State.setPeer s j p).rd u1 u2 u3 = s.rd u1 u2 u3 := rfl
@[simp] theorem State.setPeer_on_ (s j p u1 u2 u3) : (State.setPeer s j p).on u1 u2 u3 = s.on u1 u2 u3 := rfl
@[simp] theorem State.setPeer_ep_ (s j p u1) : (State.setPeer s j p).ep u1 = s.ep u1 := rfl
@[simp] theorem State.setPeer_ring_ (s j p u1 u2) : (State.setPeer s j p).ring u1 u2 = s.ring u1 u2 := rfl
@[simp] theorem State.setPeer_ctx_ (s j p u1) : (State.setPeer s j p).ctx u1 = s.ctx u1 := rfl
@[simp] theorem State.setPeer_tag_ (s j p u1 u2) : (State.setPeer s j p).tag u1 u2 = s.tag u1 u2 := rfl
@[simp] theorem State.setPeer_vec_ (s j p u1 u2) : (State.setPeer s j p).vec u1 u2 = s.vec u1 u2 := rfl
@[simp] theorem State.setPeer_win_ (s j p u1) : (State.setPeer s j p).win u1 = s.win u1 := rfl
@[simp] theorem State.setPeer_lun_ (s j p u1 u2) : (State.setPeer s j p).lun u1 u2 = s.lun u1 u2 := rfl
@[simp] theorem State.setPeer_chn_ (s j p u1) : (State.setPeer s j p).chn u1 = s.chn u1 := rfl
@[simp] theorem State.setPeer_blk_ (s j p u1) : (State.setPeer s j p).blk u1 = s.blk u1 := rfl
@[simp] theorem State.setPeer_page_ (s j p u1) : (State.setPeer s j p).page u1 = s.page u1 := rfl
@[simp] theorem State.setPeer_fan_ (s j p u1) : (State.setPeer s j p).fan u1 = s.fan u1 := rfl
@[simp] theorem State.setPeer_sc_ (s j p u1) : (State.setPeer s j p).sc u1 = s.sc u1 := rfl
@[simp] theorem State.setPeer_health__ (s j p u1) : (State.setPeer s j p).health_ u1 = s.health_ u1 := rfl

/-! setGroup -/
@[simp] theorem State.setGroup_regs (s g) : (State.setGroup s g).regs = s.regs := rfl
@[simp] theorem State.setGroup_keptRegs (s g) : (State.setGroup s g).keptRegs = s.keptRegs := rfl
@[simp] theorem State.setGroup_pairLow (s g) : (State.setGroup s g).pairLow = s.pairLow := rfl
@[simp] theorem State.setGroup_pairHigh (s g) : (State.setGroup s g).pairHigh = s.pairHigh := rfl
@[simp] theorem State.setGroup_frame (s g) : (State.setGroup s g).frame = s.frame := rfl
@[simp] theorem State.setGroup_board (s g) : (State.setGroup s g).board = s.board := rfl
@[simp] theorem State.setGroup_sup (s g) : (State.setGroup s g).sup = s.sup := rfl
@[simp] theorem State.setGroup_boot (s g) : (State.setGroup s g).boot = s.boot := rfl
@[simp] theorem State.setGroup_pairs (s g) : (State.setGroup s g).pairs = s.pairs := rfl
@[simp] theorem State.setGroup_eps (s g) : (State.setGroup s g).eps = s.eps := rfl
@[simp] theorem State.setGroup_msix (s g) : (State.setGroup s g).msix = s.msix := rfl
@[simp] theorem State.setGroup_wins (s g) : (State.setGroup s g).wins = s.wins := rfl
@[simp] theorem State.setGroup_mem (s g) : (State.setGroup s g).mem = s.mem := rfl
@[simp] theorem State.setGroup_tags (s g) : (State.setGroup s g).tags = s.tags := rfl
@[simp] theorem State.setGroup_rings (s g) : (State.setGroup s g).rings = s.rings := rfl
@[simp] theorem State.setGroup_ctxs (s g) : (State.setGroup s g).ctxs = s.ctxs := rfl
@[simp] theorem State.setGroup_nextOrder (s g) : (State.setGroup s g).nextOrder = s.nextOrder := rfl
@[simp] theorem State.setGroup_recon (s g) : (State.setGroup s g).recon = s.recon := rfl
@[simp] theorem State.setGroup_reconSeq (s g) : (State.setGroup s g).reconSeq = s.reconSeq := rfl
@[simp] theorem State.setGroup_lost (s g) : (State.setGroup s g).lost = s.lost := rfl
@[simp] theorem State.setGroup_lostSeq (s g) : (State.setGroup s g).lostSeq = s.lostSeq := rfl
@[simp] theorem State.setGroup_events (s g) : (State.setGroup s g).events = s.events := rfl
@[simp] theorem State.setGroup_eventTotal (s g) : (State.setGroup s g).eventTotal = s.eventTotal := rfl
@[simp] theorem State.setGroup_health (s g) : (State.setGroup s g).health = s.health := rfl
@[simp] theorem State.setGroup_saved (s g) : (State.setGroup s g).saved = s.saved := rfl
@[simp] theorem State.setGroup_hostTime (s g) : (State.setGroup s g).hostTime = s.hostTime := rfl
@[simp] theorem State.setGroup_rrLast (s g) : (State.setGroup s g).rrLast = s.rrLast := rfl
@[simp] theorem State.setGroup_rrLeft (s g) : (State.setGroup s g).rrLeft = s.rrLeft := rfl
@[simp] theorem State.setGroup_ftl (s g) : (State.setGroup s g).ftl = s.ftl := rfl
@[simp] theorem State.setGroup_blks (s g) : (State.setGroup s g).blks = s.blks := rfl
@[simp] theorem State.setGroup_pages (s g) : (State.setGroup s g).pages = s.pages := rfl
@[simp] theorem State.setGroup_bands (s g) : (State.setGroup s g).bands = s.bands := rfl
@[simp] theorem State.setGroup_chns (s g) : (State.setGroup s g).chns = s.chns := rfl
@[simp] theorem State.setGroup_luns (s g) : (State.setGroup s g).luns = s.luns := rfl
@[simp] theorem State.setGroup_pwr (s g) : (State.setGroup s g).pwr = s.pwr := rfl
@[simp] theorem State.setGroup_sensors (s g) : (State.setGroup s g).sensors = s.sensors := rfl
@[simp] theorem State.setGroup_thermal (s g) : (State.setGroup s g).thermal = s.thermal := rfl
@[simp] theorem State.setGroup_fans (s g) : (State.setGroup s g).fans = s.fans := rfl
@[simp] theorem State.setGroup_sideband (s g) : (State.setGroup s g).sideband = s.sideband := rfl
@[simp] theorem State.setGroup_dram (s g) : (State.setGroup s g).dram = s.dram := rfl
@[simp] theorem State.setGroup_scs (s g) : (State.setGroup s g).scs = s.scs := rfl
@[simp] theorem State.setGroup_pool (s g) : (State.setGroup s g).pool = s.pool := rfl
@[simp] theorem State.setGroup_thi (s g) : (State.setGroup s g).thi = s.thi := rfl
@[simp] theorem State.setGroup_sec (s g) : (State.setGroup s g).sec = s.sec := rfl
@[simp] theorem State.setGroup_bst (s g) : (State.setGroup s g).bst = s.bst := rfl
@[simp] theorem State.setGroup_decs (s g) : (State.setGroup s g).decs = s.decs := rfl
@[simp] theorem State.setGroup_patrol (s g) : (State.setGroup s g).patrol = s.patrol := rfl
@[simp] theorem State.setGroup_ucode (s g) : (State.setGroup s g).ucode = s.ucode := rfl
@[simp] theorem State.setGroup_sched (s g) : (State.setGroup s g).sched = s.sched := rfl
@[simp] theorem State.setGroup_out (s g) : (State.setGroup s g).out = s.out := rfl
@[simp] theorem State.setGroup_free (s g) : (State.setGroup s g).free = s.free := rfl
@[simp] theorem State.setGroup_pending (s g) : (State.setGroup s g).pending = s.pending := rfl
@[simp] theorem State.setGroup_rd_ (s g u1 u2 u3) : (State.setGroup s g).rd u1 u2 u3 = s.rd u1 u2 u3 := rfl
@[simp] theorem State.setGroup_on_ (s g u1 u2 u3) : (State.setGroup s g).on u1 u2 u3 = s.on u1 u2 u3 := rfl
@[simp] theorem State.setGroup_ep_ (s g u1) : (State.setGroup s g).ep u1 = s.ep u1 := rfl
@[simp] theorem State.setGroup_ring_ (s g u1 u2) : (State.setGroup s g).ring u1 u2 = s.ring u1 u2 := rfl
@[simp] theorem State.setGroup_ctx_ (s g u1) : (State.setGroup s g).ctx u1 = s.ctx u1 := rfl
@[simp] theorem State.setGroup_tag_ (s g u1 u2) : (State.setGroup s g).tag u1 u2 = s.tag u1 u2 := rfl
@[simp] theorem State.setGroup_vec_ (s g u1 u2) : (State.setGroup s g).vec u1 u2 = s.vec u1 u2 := rfl
@[simp] theorem State.setGroup_win_ (s g u1) : (State.setGroup s g).win u1 = s.win u1 := rfl
@[simp] theorem State.setGroup_lun_ (s g u1 u2) : (State.setGroup s g).lun u1 u2 = s.lun u1 u2 := rfl
@[simp] theorem State.setGroup_chn_ (s g u1) : (State.setGroup s g).chn u1 = s.chn u1 := rfl
@[simp] theorem State.setGroup_blk_ (s g u1) : (State.setGroup s g).blk u1 = s.blk u1 := rfl
@[simp] theorem State.setGroup_page_ (s g u1) : (State.setGroup s g).page u1 = s.page u1 := rfl
@[simp] theorem State.setGroup_fan_ (s g u1) : (State.setGroup s g).fan u1 = s.fan u1 := rfl
@[simp] theorem State.setGroup_sc_ (s g u1) : (State.setGroup s g).sc u1 = s.sc u1 := rfl
@[simp] theorem State.setGroup_health__ (s g u1) : (State.setGroup s g).health_ u1 = s.health_ u1 := rfl

/-! setPwr -/
@[simp] theorem State.setPwr_regs (s p) : (State.setPwr s p).regs = s.regs := rfl
@[simp] theorem State.setPwr_keptRegs (s p) : (State.setPwr s p).keptRegs = s.keptRegs := rfl
@[simp] theorem State.setPwr_pairLow (s p) : (State.setPwr s p).pairLow = s.pairLow := rfl
@[simp] theorem State.setPwr_pairHigh (s p) : (State.setPwr s p).pairHigh = s.pairHigh := rfl
@[simp] theorem State.setPwr_frame (s p) : (State.setPwr s p).frame = s.frame := rfl
@[simp] theorem State.setPwr_board (s p) : (State.setPwr s p).board = s.board := rfl
@[simp] theorem State.setPwr_sup (s p) : (State.setPwr s p).sup = s.sup := rfl
@[simp] theorem State.setPwr_boot (s p) : (State.setPwr s p).boot = s.boot := rfl
@[simp] theorem State.setPwr_pairs (s p) : (State.setPwr s p).pairs = s.pairs := rfl
@[simp] theorem State.setPwr_eps (s p) : (State.setPwr s p).eps = s.eps := rfl
@[simp] theorem State.setPwr_msix (s p) : (State.setPwr s p).msix = s.msix := rfl
@[simp] theorem State.setPwr_wins (s p) : (State.setPwr s p).wins = s.wins := rfl
@[simp] theorem State.setPwr_mem (s p) : (State.setPwr s p).mem = s.mem := rfl
@[simp] theorem State.setPwr_tags (s p) : (State.setPwr s p).tags = s.tags := rfl
@[simp] theorem State.setPwr_rings (s p) : (State.setPwr s p).rings = s.rings := rfl
@[simp] theorem State.setPwr_ctxs (s p) : (State.setPwr s p).ctxs = s.ctxs := rfl
@[simp] theorem State.setPwr_nextOrder (s p) : (State.setPwr s p).nextOrder = s.nextOrder := rfl
@[simp] theorem State.setPwr_recon (s p) : (State.setPwr s p).recon = s.recon := rfl
@[simp] theorem State.setPwr_reconSeq (s p) : (State.setPwr s p).reconSeq = s.reconSeq := rfl
@[simp] theorem State.setPwr_lost (s p) : (State.setPwr s p).lost = s.lost := rfl
@[simp] theorem State.setPwr_lostSeq (s p) : (State.setPwr s p).lostSeq = s.lostSeq := rfl
@[simp] theorem State.setPwr_events (s p) : (State.setPwr s p).events = s.events := rfl
@[simp] theorem State.setPwr_eventTotal (s p) : (State.setPwr s p).eventTotal = s.eventTotal := rfl
@[simp] theorem State.setPwr_health (s p) : (State.setPwr s p).health = s.health := rfl
@[simp] theorem State.setPwr_saved (s p) : (State.setPwr s p).saved = s.saved := rfl
@[simp] theorem State.setPwr_hostTime (s p) : (State.setPwr s p).hostTime = s.hostTime := rfl
@[simp] theorem State.setPwr_rrLast (s p) : (State.setPwr s p).rrLast = s.rrLast := rfl
@[simp] theorem State.setPwr_rrLeft (s p) : (State.setPwr s p).rrLeft = s.rrLeft := rfl
@[simp] theorem State.setPwr_ftl (s p) : (State.setPwr s p).ftl = s.ftl := rfl
@[simp] theorem State.setPwr_blks (s p) : (State.setPwr s p).blks = s.blks := rfl
@[simp] theorem State.setPwr_pages (s p) : (State.setPwr s p).pages = s.pages := rfl
@[simp] theorem State.setPwr_bands (s p) : (State.setPwr s p).bands = s.bands := rfl
@[simp] theorem State.setPwr_chns (s p) : (State.setPwr s p).chns = s.chns := rfl
@[simp] theorem State.setPwr_luns (s p) : (State.setPwr s p).luns = s.luns := rfl
@[simp] theorem State.setPwr_sensors (s p) : (State.setPwr s p).sensors = s.sensors := rfl
@[simp] theorem State.setPwr_thermal (s p) : (State.setPwr s p).thermal = s.thermal := rfl
@[simp] theorem State.setPwr_fans (s p) : (State.setPwr s p).fans = s.fans := rfl
@[simp] theorem State.setPwr_sideband (s p) : (State.setPwr s p).sideband = s.sideband := rfl
@[simp] theorem State.setPwr_dram (s p) : (State.setPwr s p).dram = s.dram := rfl
@[simp] theorem State.setPwr_scs (s p) : (State.setPwr s p).scs = s.scs := rfl
@[simp] theorem State.setPwr_pool (s p) : (State.setPwr s p).pool = s.pool := rfl
@[simp] theorem State.setPwr_thi (s p) : (State.setPwr s p).thi = s.thi := rfl
@[simp] theorem State.setPwr_sec (s p) : (State.setPwr s p).sec = s.sec := rfl
@[simp] theorem State.setPwr_bst (s p) : (State.setPwr s p).bst = s.bst := rfl
@[simp] theorem State.setPwr_decs (s p) : (State.setPwr s p).decs = s.decs := rfl
@[simp] theorem State.setPwr_patrol (s p) : (State.setPwr s p).patrol = s.patrol := rfl
@[simp] theorem State.setPwr_ucode (s p) : (State.setPwr s p).ucode = s.ucode := rfl
@[simp] theorem State.setPwr_sched (s p) : (State.setPwr s p).sched = s.sched := rfl
@[simp] theorem State.setPwr_group (s p) : (State.setPwr s p).group = s.group := rfl
@[simp] theorem State.setPwr_out (s p) : (State.setPwr s p).out = s.out := rfl
@[simp] theorem State.setPwr_free (s p) : (State.setPwr s p).free = s.free := rfl
@[simp] theorem State.setPwr_pending (s p) : (State.setPwr s p).pending = s.pending := rfl
@[simp] theorem State.setPwr_rd_ (s p u1 u2 u3) : (State.setPwr s p).rd u1 u2 u3 = s.rd u1 u2 u3 := rfl
@[simp] theorem State.setPwr_on_ (s p u1 u2 u3) : (State.setPwr s p).on u1 u2 u3 = s.on u1 u2 u3 := rfl
@[simp] theorem State.setPwr_ep_ (s p u1) : (State.setPwr s p).ep u1 = s.ep u1 := rfl
@[simp] theorem State.setPwr_ring_ (s p u1 u2) : (State.setPwr s p).ring u1 u2 = s.ring u1 u2 := rfl
@[simp] theorem State.setPwr_ctx_ (s p u1) : (State.setPwr s p).ctx u1 = s.ctx u1 := rfl
@[simp] theorem State.setPwr_tag_ (s p u1 u2) : (State.setPwr s p).tag u1 u2 = s.tag u1 u2 := rfl
@[simp] theorem State.setPwr_vec_ (s p u1 u2) : (State.setPwr s p).vec u1 u2 = s.vec u1 u2 := rfl
@[simp] theorem State.setPwr_win_ (s p u1) : (State.setPwr s p).win u1 = s.win u1 := rfl
@[simp] theorem State.setPwr_lun_ (s p u1 u2) : (State.setPwr s p).lun u1 u2 = s.lun u1 u2 := rfl
@[simp] theorem State.setPwr_chn_ (s p u1) : (State.setPwr s p).chn u1 = s.chn u1 := rfl
@[simp] theorem State.setPwr_blk_ (s p u1) : (State.setPwr s p).blk u1 = s.blk u1 := rfl
@[simp] theorem State.setPwr_page_ (s p u1) : (State.setPwr s p).page u1 = s.page u1 := rfl
@[simp] theorem State.setPwr_fan_ (s p u1) : (State.setPwr s p).fan u1 = s.fan u1 := rfl
@[simp] theorem State.setPwr_sc_ (s p u1) : (State.setPwr s p).sc u1 = s.sc u1 := rfl
@[simp] theorem State.setPwr_peer_ (s p u1) : (State.setPwr s p).peer u1 = s.peer u1 := rfl
@[simp] theorem State.setPwr_health__ (s p u1) : (State.setPwr s p).health_ u1 = s.health_ u1 := rfl

/-! setSup -/
@[simp] theorem State.setSup_regs (s p) : (State.setSup s p).regs = s.regs := rfl
@[simp] theorem State.setSup_keptRegs (s p) : (State.setSup s p).keptRegs = s.keptRegs := rfl
@[simp] theorem State.setSup_pairLow (s p) : (State.setSup s p).pairLow = s.pairLow := rfl
@[simp] theorem State.setSup_pairHigh (s p) : (State.setSup s p).pairHigh = s.pairHigh := rfl
@[simp] theorem State.setSup_frame (s p) : (State.setSup s p).frame = s.frame := rfl
@[simp] theorem State.setSup_board (s p) : (State.setSup s p).board = s.board := rfl
@[simp] theorem State.setSup_boot (s p) : (State.setSup s p).boot = s.boot := rfl
@[simp] theorem State.setSup_pairs (s p) : (State.setSup s p).pairs = s.pairs := rfl
@[simp] theorem State.setSup_eps (s p) : (State.setSup s p).eps = s.eps := rfl
@[simp] theorem State.setSup_msix (s p) : (State.setSup s p).msix = s.msix := rfl
@[simp] theorem State.setSup_wins (s p) : (State.setSup s p).wins = s.wins := rfl
@[simp] theorem State.setSup_mem (s p) : (State.setSup s p).mem = s.mem := rfl
@[simp] theorem State.setSup_tags (s p) : (State.setSup s p).tags = s.tags := rfl
@[simp] theorem State.setSup_rings (s p) : (State.setSup s p).rings = s.rings := rfl
@[simp] theorem State.setSup_ctxs (s p) : (State.setSup s p).ctxs = s.ctxs := rfl
@[simp] theorem State.setSup_nextOrder (s p) : (State.setSup s p).nextOrder = s.nextOrder := rfl
@[simp] theorem State.setSup_recon (s p) : (State.setSup s p).recon = s.recon := rfl
@[simp] theorem State.setSup_reconSeq (s p) : (State.setSup s p).reconSeq = s.reconSeq := rfl
@[simp] theorem State.setSup_lost (s p) : (State.setSup s p).lost = s.lost := rfl
@[simp] theorem State.setSup_lostSeq (s p) : (State.setSup s p).lostSeq = s.lostSeq := rfl
@[simp] theorem State.setSup_events (s p) : (State.setSup s p).events = s.events := rfl
@[simp] theorem State.setSup_eventTotal (s p) : (State.setSup s p).eventTotal = s.eventTotal := rfl
@[simp] theorem State.setSup_health (s p) : (State.setSup s p).health = s.health := rfl
@[simp] theorem State.setSup_saved (s p) : (State.setSup s p).saved = s.saved := rfl
@[simp] theorem State.setSup_hostTime (s p) : (State.setSup s p).hostTime = s.hostTime := rfl
@[simp] theorem State.setSup_rrLast (s p) : (State.setSup s p).rrLast = s.rrLast := rfl
@[simp] theorem State.setSup_rrLeft (s p) : (State.setSup s p).rrLeft = s.rrLeft := rfl
@[simp] theorem State.setSup_ftl (s p) : (State.setSup s p).ftl = s.ftl := rfl
@[simp] theorem State.setSup_blks (s p) : (State.setSup s p).blks = s.blks := rfl
@[simp] theorem State.setSup_pages (s p) : (State.setSup s p).pages = s.pages := rfl
@[simp] theorem State.setSup_bands (s p) : (State.setSup s p).bands = s.bands := rfl
@[simp] theorem State.setSup_chns (s p) : (State.setSup s p).chns = s.chns := rfl
@[simp] theorem State.setSup_luns (s p) : (State.setSup s p).luns = s.luns := rfl
@[simp] theorem State.setSup_pwr (s p) : (State.setSup s p).pwr = s.pwr := rfl
@[simp] theorem State.setSup_sensors (s p) : (State.setSup s p).sensors = s.sensors := rfl
@[simp] theorem State.setSup_thermal (s p) : (State.setSup s p).thermal = s.thermal := rfl
@[simp] theorem State.setSup_fans (s p) : (State.setSup s p).fans = s.fans := rfl
@[simp] theorem State.setSup_sideband (s p) : (State.setSup s p).sideband = s.sideband := rfl
@[simp] theorem State.setSup_dram (s p) : (State.setSup s p).dram = s.dram := rfl
@[simp] theorem State.setSup_scs (s p) : (State.setSup s p).scs = s.scs := rfl
@[simp] theorem State.setSup_pool (s p) : (State.setSup s p).pool = s.pool := rfl
@[simp] theorem State.setSup_thi (s p) : (State.setSup s p).thi = s.thi := rfl
@[simp] theorem State.setSup_sec (s p) : (State.setSup s p).sec = s.sec := rfl
@[simp] theorem State.setSup_bst (s p) : (State.setSup s p).bst = s.bst := rfl
@[simp] theorem State.setSup_decs (s p) : (State.setSup s p).decs = s.decs := rfl
@[simp] theorem State.setSup_patrol (s p) : (State.setSup s p).patrol = s.patrol := rfl
@[simp] theorem State.setSup_ucode (s p) : (State.setSup s p).ucode = s.ucode := rfl
@[simp] theorem State.setSup_sched (s p) : (State.setSup s p).sched = s.sched := rfl
@[simp] theorem State.setSup_group (s p) : (State.setSup s p).group = s.group := rfl
@[simp] theorem State.setSup_out (s p) : (State.setSup s p).out = s.out := rfl
@[simp] theorem State.setSup_free (s p) : (State.setSup s p).free = s.free := rfl
@[simp] theorem State.setSup_pending (s p) : (State.setSup s p).pending = s.pending := rfl
@[simp] theorem State.setSup_rd_ (s p u1 u2 u3) : (State.setSup s p).rd u1 u2 u3 = s.rd u1 u2 u3 := rfl
@[simp] theorem State.setSup_on_ (s p u1 u2 u3) : (State.setSup s p).on u1 u2 u3 = s.on u1 u2 u3 := rfl
@[simp] theorem State.setSup_ep_ (s p u1) : (State.setSup s p).ep u1 = s.ep u1 := rfl
@[simp] theorem State.setSup_ring_ (s p u1 u2) : (State.setSup s p).ring u1 u2 = s.ring u1 u2 := rfl
@[simp] theorem State.setSup_ctx_ (s p u1) : (State.setSup s p).ctx u1 = s.ctx u1 := rfl
@[simp] theorem State.setSup_tag_ (s p u1 u2) : (State.setSup s p).tag u1 u2 = s.tag u1 u2 := rfl
@[simp] theorem State.setSup_vec_ (s p u1 u2) : (State.setSup s p).vec u1 u2 = s.vec u1 u2 := rfl
@[simp] theorem State.setSup_win_ (s p u1) : (State.setSup s p).win u1 = s.win u1 := rfl
@[simp] theorem State.setSup_lun_ (s p u1 u2) : (State.setSup s p).lun u1 u2 = s.lun u1 u2 := rfl
@[simp] theorem State.setSup_chn_ (s p u1) : (State.setSup s p).chn u1 = s.chn u1 := rfl
@[simp] theorem State.setSup_blk_ (s p u1) : (State.setSup s p).blk u1 = s.blk u1 := rfl
@[simp] theorem State.setSup_page_ (s p u1) : (State.setSup s p).page u1 = s.page u1 := rfl
@[simp] theorem State.setSup_fan_ (s p u1) : (State.setSup s p).fan u1 = s.fan u1 := rfl
@[simp] theorem State.setSup_sc_ (s p u1) : (State.setSup s p).sc u1 = s.sc u1 := rfl
@[simp] theorem State.setSup_peer_ (s p u1) : (State.setSup s p).peer u1 = s.peer u1 := rfl
@[simp] theorem State.setSup_health__ (s p u1) : (State.setSup s p).health_ u1 = s.health_ u1 := rfl

/-! setBand -/
@[simp] theorem State.setBand_regs (s b) : (State.setBand s b).regs = s.regs := rfl
@[simp] theorem State.setBand_keptRegs (s b) : (State.setBand s b).keptRegs = s.keptRegs := rfl
@[simp] theorem State.setBand_pairLow (s b) : (State.setBand s b).pairLow = s.pairLow := rfl
@[simp] theorem State.setBand_pairHigh (s b) : (State.setBand s b).pairHigh = s.pairHigh := rfl
@[simp] theorem State.setBand_frame (s b) : (State.setBand s b).frame = s.frame := rfl
@[simp] theorem State.setBand_board (s b) : (State.setBand s b).board = s.board := rfl
@[simp] theorem State.setBand_sup (s b) : (State.setBand s b).sup = s.sup := rfl
@[simp] theorem State.setBand_boot (s b) : (State.setBand s b).boot = s.boot := rfl
@[simp] theorem State.setBand_pairs (s b) : (State.setBand s b).pairs = s.pairs := rfl
@[simp] theorem State.setBand_eps (s b) : (State.setBand s b).eps = s.eps := rfl
@[simp] theorem State.setBand_msix (s b) : (State.setBand s b).msix = s.msix := rfl
@[simp] theorem State.setBand_wins (s b) : (State.setBand s b).wins = s.wins := rfl
@[simp] theorem State.setBand_mem (s b) : (State.setBand s b).mem = s.mem := rfl
@[simp] theorem State.setBand_tags (s b) : (State.setBand s b).tags = s.tags := rfl
@[simp] theorem State.setBand_rings (s b) : (State.setBand s b).rings = s.rings := rfl
@[simp] theorem State.setBand_ctxs (s b) : (State.setBand s b).ctxs = s.ctxs := rfl
@[simp] theorem State.setBand_nextOrder (s b) : (State.setBand s b).nextOrder = s.nextOrder := rfl
@[simp] theorem State.setBand_recon (s b) : (State.setBand s b).recon = s.recon := rfl
@[simp] theorem State.setBand_reconSeq (s b) : (State.setBand s b).reconSeq = s.reconSeq := rfl
@[simp] theorem State.setBand_lost (s b) : (State.setBand s b).lost = s.lost := rfl
@[simp] theorem State.setBand_lostSeq (s b) : (State.setBand s b).lostSeq = s.lostSeq := rfl
@[simp] theorem State.setBand_events (s b) : (State.setBand s b).events = s.events := rfl
@[simp] theorem State.setBand_eventTotal (s b) : (State.setBand s b).eventTotal = s.eventTotal := rfl
@[simp] theorem State.setBand_health (s b) : (State.setBand s b).health = s.health := rfl
@[simp] theorem State.setBand_saved (s b) : (State.setBand s b).saved = s.saved := rfl
@[simp] theorem State.setBand_hostTime (s b) : (State.setBand s b).hostTime = s.hostTime := rfl
@[simp] theorem State.setBand_rrLast (s b) : (State.setBand s b).rrLast = s.rrLast := rfl
@[simp] theorem State.setBand_rrLeft (s b) : (State.setBand s b).rrLeft = s.rrLeft := rfl
@[simp] theorem State.setBand_ftl (s b) : (State.setBand s b).ftl = s.ftl := rfl
@[simp] theorem State.setBand_blks (s b) : (State.setBand s b).blks = s.blks := rfl
@[simp] theorem State.setBand_pages (s b) : (State.setBand s b).pages = s.pages := rfl
@[simp] theorem State.setBand_chns (s b) : (State.setBand s b).chns = s.chns := rfl
@[simp] theorem State.setBand_luns (s b) : (State.setBand s b).luns = s.luns := rfl
@[simp] theorem State.setBand_pwr (s b) : (State.setBand s b).pwr = s.pwr := rfl
@[simp] theorem State.setBand_sensors (s b) : (State.setBand s b).sensors = s.sensors := rfl
@[simp] theorem State.setBand_thermal (s b) : (State.setBand s b).thermal = s.thermal := rfl
@[simp] theorem State.setBand_fans (s b) : (State.setBand s b).fans = s.fans := rfl
@[simp] theorem State.setBand_sideband (s b) : (State.setBand s b).sideband = s.sideband := rfl
@[simp] theorem State.setBand_dram (s b) : (State.setBand s b).dram = s.dram := rfl
@[simp] theorem State.setBand_scs (s b) : (State.setBand s b).scs = s.scs := rfl
@[simp] theorem State.setBand_pool (s b) : (State.setBand s b).pool = s.pool := rfl
@[simp] theorem State.setBand_thi (s b) : (State.setBand s b).thi = s.thi := rfl
@[simp] theorem State.setBand_sec (s b) : (State.setBand s b).sec = s.sec := rfl
@[simp] theorem State.setBand_bst (s b) : (State.setBand s b).bst = s.bst := rfl
@[simp] theorem State.setBand_decs (s b) : (State.setBand s b).decs = s.decs := rfl
@[simp] theorem State.setBand_patrol (s b) : (State.setBand s b).patrol = s.patrol := rfl
@[simp] theorem State.setBand_ucode (s b) : (State.setBand s b).ucode = s.ucode := rfl
@[simp] theorem State.setBand_sched (s b) : (State.setBand s b).sched = s.sched := rfl
@[simp] theorem State.setBand_group (s b) : (State.setBand s b).group = s.group := rfl
@[simp] theorem State.setBand_out (s b) : (State.setBand s b).out = s.out := rfl
@[simp] theorem State.setBand_free (s b) : (State.setBand s b).free = s.free := rfl
@[simp] theorem State.setBand_pending (s b) : (State.setBand s b).pending = s.pending := rfl
@[simp] theorem State.setBand_rd_ (s b u1 u2 u3) : (State.setBand s b).rd u1 u2 u3 = s.rd u1 u2 u3 := rfl
@[simp] theorem State.setBand_on_ (s b u1 u2 u3) : (State.setBand s b).on u1 u2 u3 = s.on u1 u2 u3 := rfl
@[simp] theorem State.setBand_ep_ (s b u1) : (State.setBand s b).ep u1 = s.ep u1 := rfl
@[simp] theorem State.setBand_ring_ (s b u1 u2) : (State.setBand s b).ring u1 u2 = s.ring u1 u2 := rfl
@[simp] theorem State.setBand_ctx_ (s b u1) : (State.setBand s b).ctx u1 = s.ctx u1 := rfl
@[simp] theorem State.setBand_tag_ (s b u1 u2) : (State.setBand s b).tag u1 u2 = s.tag u1 u2 := rfl
@[simp] theorem State.setBand_vec_ (s b u1 u2) : (State.setBand s b).vec u1 u2 = s.vec u1 u2 := rfl
@[simp] theorem State.setBand_win_ (s b u1) : (State.setBand s b).win u1 = s.win u1 := rfl
@[simp] theorem State.setBand_lun_ (s b u1 u2) : (State.setBand s b).lun u1 u2 = s.lun u1 u2 := rfl
@[simp] theorem State.setBand_chn_ (s b u1) : (State.setBand s b).chn u1 = s.chn u1 := rfl
@[simp] theorem State.setBand_blk_ (s b u1) : (State.setBand s b).blk u1 = s.blk u1 := rfl
@[simp] theorem State.setBand_page_ (s b u1) : (State.setBand s b).page u1 = s.page u1 := rfl
@[simp] theorem State.setBand_fan_ (s b u1) : (State.setBand s b).fan u1 = s.fan u1 := rfl
@[simp] theorem State.setBand_sc_ (s b u1) : (State.setBand s b).sc u1 = s.sc u1 := rfl
@[simp] theorem State.setBand_peer_ (s b u1) : (State.setBand s b).peer u1 = s.peer u1 := rfl
@[simp] theorem State.setBand_health__ (s b u1) : (State.setBand s b).health_ u1 = s.health_ u1 := rfl

/-! record -/
@[simp] theorem State.record_regs (s r) : (State.record s r).regs = s.regs := rfl
@[simp] theorem State.record_keptRegs (s r) : (State.record s r).keptRegs = s.keptRegs := rfl
@[simp] theorem State.record_pairLow (s r) : (State.record s r).pairLow = s.pairLow := rfl
@[simp] theorem State.record_pairHigh (s r) : (State.record s r).pairHigh = s.pairHigh := rfl
@[simp] theorem State.record_frame (s r) : (State.record s r).frame = s.frame := rfl
@[simp] theorem State.record_board (s r) : (State.record s r).board = s.board := rfl
@[simp] theorem State.record_sup (s r) : (State.record s r).sup = s.sup := rfl
@[simp] theorem State.record_boot (s r) : (State.record s r).boot = s.boot := rfl
@[simp] theorem State.record_pairs (s r) : (State.record s r).pairs = s.pairs := rfl
@[simp] theorem State.record_eps (s r) : (State.record s r).eps = s.eps := rfl
@[simp] theorem State.record_msix (s r) : (State.record s r).msix = s.msix := rfl
@[simp] theorem State.record_wins (s r) : (State.record s r).wins = s.wins := rfl
@[simp] theorem State.record_mem (s r) : (State.record s r).mem = s.mem := rfl
@[simp] theorem State.record_tags (s r) : (State.record s r).tags = s.tags := rfl
@[simp] theorem State.record_rings (s r) : (State.record s r).rings = s.rings := rfl
@[simp] theorem State.record_ctxs (s r) : (State.record s r).ctxs = s.ctxs := rfl
@[simp] theorem State.record_nextOrder (s r) : (State.record s r).nextOrder = s.nextOrder := rfl
@[simp] theorem State.record_recon (s r) : (State.record s r).recon = s.recon := rfl
@[simp] theorem State.record_reconSeq (s r) : (State.record s r).reconSeq = s.reconSeq := rfl
@[simp] theorem State.record_lost (s r) : (State.record s r).lost = s.lost := rfl
@[simp] theorem State.record_lostSeq (s r) : (State.record s r).lostSeq = s.lostSeq := rfl
@[simp] theorem State.record_events (s r) : (State.record s r).events = s.events := rfl
@[simp] theorem State.record_eventTotal (s r) : (State.record s r).eventTotal = s.eventTotal := rfl
@[simp] theorem State.record_health (s r) : (State.record s r).health = s.health := rfl
@[simp] theorem State.record_saved (s r) : (State.record s r).saved = s.saved := rfl
@[simp] theorem State.record_hostTime (s r) : (State.record s r).hostTime = s.hostTime := rfl
@[simp] theorem State.record_rrLast (s r) : (State.record s r).rrLast = s.rrLast := rfl
@[simp] theorem State.record_rrLeft (s r) : (State.record s r).rrLeft = s.rrLeft := rfl
@[simp] theorem State.record_blks (s r) : (State.record s r).blks = s.blks := rfl
@[simp] theorem State.record_pages (s r) : (State.record s r).pages = s.pages := rfl
@[simp] theorem State.record_bands (s r) : (State.record s r).bands = s.bands := rfl
@[simp] theorem State.record_chns (s r) : (State.record s r).chns = s.chns := rfl
@[simp] theorem State.record_luns (s r) : (State.record s r).luns = s.luns := rfl
@[simp] theorem State.record_pwr (s r) : (State.record s r).pwr = s.pwr := rfl
@[simp] theorem State.record_sensors (s r) : (State.record s r).sensors = s.sensors := rfl
@[simp] theorem State.record_thermal (s r) : (State.record s r).thermal = s.thermal := rfl
@[simp] theorem State.record_fans (s r) : (State.record s r).fans = s.fans := rfl
@[simp] theorem State.record_sideband (s r) : (State.record s r).sideband = s.sideband := rfl
@[simp] theorem State.record_dram (s r) : (State.record s r).dram = s.dram := rfl
@[simp] theorem State.record_scs (s r) : (State.record s r).scs = s.scs := rfl
@[simp] theorem State.record_pool (s r) : (State.record s r).pool = s.pool := rfl
@[simp] theorem State.record_thi (s r) : (State.record s r).thi = s.thi := rfl
@[simp] theorem State.record_sec (s r) : (State.record s r).sec = s.sec := rfl
@[simp] theorem State.record_bst (s r) : (State.record s r).bst = s.bst := rfl
@[simp] theorem State.record_decs (s r) : (State.record s r).decs = s.decs := rfl
@[simp] theorem State.record_patrol (s r) : (State.record s r).patrol = s.patrol := rfl
@[simp] theorem State.record_ucode (s r) : (State.record s r).ucode = s.ucode := rfl
@[simp] theorem State.record_sched (s r) : (State.record s r).sched = s.sched := rfl
@[simp] theorem State.record_group (s r) : (State.record s r).group = s.group := rfl
@[simp] theorem State.record_out (s r) : (State.record s r).out = s.out := rfl
@[simp] theorem State.record_free (s r) : (State.record s r).free = s.free := rfl
@[simp] theorem State.record_pending (s r) : (State.record s r).pending = s.pending := rfl
@[simp] theorem State.record_rd_ (s r u1 u2 u3) : (State.record s r).rd u1 u2 u3 = s.rd u1 u2 u3 := rfl
@[simp] theorem State.record_on_ (s r u1 u2 u3) : (State.record s r).on u1 u2 u3 = s.on u1 u2 u3 := rfl
@[simp] theorem State.record_ep_ (s r u1) : (State.record s r).ep u1 = s.ep u1 := rfl
@[simp] theorem State.record_ring_ (s r u1 u2) : (State.record s r).ring u1 u2 = s.ring u1 u2 := rfl
@[simp] theorem State.record_ctx_ (s r u1) : (State.record s r).ctx u1 = s.ctx u1 := rfl
@[simp] theorem State.record_tag_ (s r u1 u2) : (State.record s r).tag u1 u2 = s.tag u1 u2 := rfl
@[simp] theorem State.record_vec_ (s r u1 u2) : (State.record s r).vec u1 u2 = s.vec u1 u2 := rfl
@[simp] theorem State.record_win_ (s r u1) : (State.record s r).win u1 = s.win u1 := rfl
@[simp] theorem State.record_lun_ (s r u1 u2) : (State.record s r).lun u1 u2 = s.lun u1 u2 := rfl
@[simp] theorem State.record_chn_ (s r u1) : (State.record s r).chn u1 = s.chn u1 := rfl
@[simp] theorem State.record_blk_ (s r u1) : (State.record s r).blk u1 = s.blk u1 := rfl
@[simp] theorem State.record_page_ (s r u1) : (State.record s r).page u1 = s.page u1 := rfl
@[simp] theorem State.record_fan_ (s r u1) : (State.record s r).fan u1 = s.fan u1 := rfl
@[simp] theorem State.record_sc_ (s r u1) : (State.record s r).sc u1 = s.sc u1 := rfl
@[simp] theorem State.record_peer_ (s r u1) : (State.record s r).peer u1 = s.peer u1 := rfl
@[simp] theorem State.record_health__ (s r u1) : (State.record s r).health_ u1 = s.health_ u1 := rfl

/-! mapVersions -/
@[simp] theorem State.mapVersions_regs (s f) : (State.mapVersions s f).regs = s.regs := rfl
@[simp] theorem State.mapVersions_keptRegs (s f) : (State.mapVersions s f).keptRegs = s.keptRegs := rfl
@[simp] theorem State.mapVersions_pairLow (s f) : (State.mapVersions s f).pairLow = s.pairLow := rfl
@[simp] theorem State.mapVersions_pairHigh (s f) : (State.mapVersions s f).pairHigh = s.pairHigh := rfl
@[simp] theorem State.mapVersions_frame (s f) : (State.mapVersions s f).frame = s.frame := rfl
@[simp] theorem State.mapVersions_board (s f) : (State.mapVersions s f).board = s.board := rfl
@[simp] theorem State.mapVersions_sup (s f) : (State.mapVersions s f).sup = s.sup := rfl
@[simp] theorem State.mapVersions_boot (s f) : (State.mapVersions s f).boot = s.boot := rfl
@[simp] theorem State.mapVersions_pairs (s f) : (State.mapVersions s f).pairs = s.pairs := rfl
@[simp] theorem State.mapVersions_eps (s f) : (State.mapVersions s f).eps = s.eps := rfl
@[simp] theorem State.mapVersions_msix (s f) : (State.mapVersions s f).msix = s.msix := rfl
@[simp] theorem State.mapVersions_wins (s f) : (State.mapVersions s f).wins = s.wins := rfl
@[simp] theorem State.mapVersions_mem (s f) : (State.mapVersions s f).mem = s.mem := rfl
@[simp] theorem State.mapVersions_tags (s f) : (State.mapVersions s f).tags = s.tags := rfl
@[simp] theorem State.mapVersions_rings (s f) : (State.mapVersions s f).rings = s.rings := rfl
@[simp] theorem State.mapVersions_ctxs (s f) : (State.mapVersions s f).ctxs = s.ctxs := rfl
@[simp] theorem State.mapVersions_nextOrder (s f) : (State.mapVersions s f).nextOrder = s.nextOrder := rfl
@[simp] theorem State.mapVersions_recon (s f) : (State.mapVersions s f).recon = s.recon := rfl
@[simp] theorem State.mapVersions_reconSeq (s f) : (State.mapVersions s f).reconSeq = s.reconSeq := rfl
@[simp] theorem State.mapVersions_lost (s f) : (State.mapVersions s f).lost = s.lost := rfl
@[simp] theorem State.mapVersions_lostSeq (s f) : (State.mapVersions s f).lostSeq = s.lostSeq := rfl
@[simp] theorem State.mapVersions_events (s f) : (State.mapVersions s f).events = s.events := rfl
@[simp] theorem State.mapVersions_eventTotal (s f) : (State.mapVersions s f).eventTotal = s.eventTotal := rfl
@[simp] theorem State.mapVersions_health (s f) : (State.mapVersions s f).health = s.health := rfl
@[simp] theorem State.mapVersions_saved (s f) : (State.mapVersions s f).saved = s.saved := rfl
@[simp] theorem State.mapVersions_hostTime (s f) : (State.mapVersions s f).hostTime = s.hostTime := rfl
@[simp] theorem State.mapVersions_rrLast (s f) : (State.mapVersions s f).rrLast = s.rrLast := rfl
@[simp] theorem State.mapVersions_rrLeft (s f) : (State.mapVersions s f).rrLeft = s.rrLeft := rfl
@[simp] theorem State.mapVersions_blks (s f) : (State.mapVersions s f).blks = s.blks := rfl
@[simp] theorem State.mapVersions_pages (s f) : (State.mapVersions s f).pages = s.pages := rfl
@[simp] theorem State.mapVersions_bands (s f) : (State.mapVersions s f).bands = s.bands := rfl
@[simp] theorem State.mapVersions_chns (s f) : (State.mapVersions s f).chns = s.chns := rfl
@[simp] theorem State.mapVersions_luns (s f) : (State.mapVersions s f).luns = s.luns := rfl
@[simp] theorem State.mapVersions_pwr (s f) : (State.mapVersions s f).pwr = s.pwr := rfl
@[simp] theorem State.mapVersions_sensors (s f) : (State.mapVersions s f).sensors = s.sensors := rfl
@[simp] theorem State.mapVersions_thermal (s f) : (State.mapVersions s f).thermal = s.thermal := rfl
@[simp] theorem State.mapVersions_fans (s f) : (State.mapVersions s f).fans = s.fans := rfl
@[simp] theorem State.mapVersions_sideband (s f) : (State.mapVersions s f).sideband = s.sideband := rfl
@[simp] theorem State.mapVersions_dram (s f) : (State.mapVersions s f).dram = s.dram := rfl
@[simp] theorem State.mapVersions_scs (s f) : (State.mapVersions s f).scs = s.scs := rfl
@[simp] theorem State.mapVersions_pool (s f) : (State.mapVersions s f).pool = s.pool := rfl
@[simp] theorem State.mapVersions_thi (s f) : (State.mapVersions s f).thi = s.thi := rfl
@[simp] theorem State.mapVersions_sec (s f) : (State.mapVersions s f).sec = s.sec := rfl
@[simp] theorem State.mapVersions_bst (s f) : (State.mapVersions s f).bst = s.bst := rfl
@[simp] theorem State.mapVersions_decs (s f) : (State.mapVersions s f).decs = s.decs := rfl
@[simp] theorem State.mapVersions_patrol (s f) : (State.mapVersions s f).patrol = s.patrol := rfl
@[simp] theorem State.mapVersions_ucode (s f) : (State.mapVersions s f).ucode = s.ucode := rfl
@[simp] theorem State.mapVersions_sched (s f) : (State.mapVersions s f).sched = s.sched := rfl
@[simp] theorem State.mapVersions_group (s f) : (State.mapVersions s f).group = s.group := rfl
@[simp] theorem State.mapVersions_out (s f) : (State.mapVersions s f).out = s.out := rfl
@[simp] theorem State.mapVersions_free (s f) : (State.mapVersions s f).free = s.free := rfl
@[simp] theorem State.mapVersions_pending (s f) : (State.mapVersions s f).pending = s.pending := rfl
@[simp] theorem State.mapVersions_rd_ (s f u1 u2 u3) : (State.mapVersions s f).rd u1 u2 u3 = s.rd u1 u2 u3 := rfl
@[simp] theorem State.mapVersions_on_ (s f u1 u2 u3) : (State.mapVersions s f).on u1 u2 u3 = s.on u1 u2 u3 := rfl
@[simp] theorem State.mapVersions_ep_ (s f u1) : (State.mapVersions s f).ep u1 = s.ep u1 := rfl
@[simp] theorem State.mapVersions_ring_ (s f u1 u2) : (State.mapVersions s f).ring u1 u2 = s.ring u1 u2 := rfl
@[simp] theorem State.mapVersions_ctx_ (s f u1) : (State.mapVersions s f).ctx u1 = s.ctx u1 := rfl
@[simp] theorem State.mapVersions_tag_ (s f u1 u2) : (State.mapVersions s f).tag u1 u2 = s.tag u1 u2 := rfl
@[simp] theorem State.mapVersions_vec_ (s f u1 u2) : (State.mapVersions s f).vec u1 u2 = s.vec u1 u2 := rfl
@[simp] theorem State.mapVersions_win_ (s f u1) : (State.mapVersions s f).win u1 = s.win u1 := rfl
@[simp] theorem State.mapVersions_lun_ (s f u1 u2) : (State.mapVersions s f).lun u1 u2 = s.lun u1 u2 := rfl
@[simp] theorem State.mapVersions_chn_ (s f u1) : (State.mapVersions s f).chn u1 = s.chn u1 := rfl
@[simp] theorem State.mapVersions_blk_ (s f u1) : (State.mapVersions s f).blk u1 = s.blk u1 := rfl
@[simp] theorem State.mapVersions_page_ (s f u1) : (State.mapVersions s f).page u1 = s.page u1 := rfl
@[simp] theorem State.mapVersions_fan_ (s f u1) : (State.mapVersions s f).fan u1 = s.fan u1 := rfl
@[simp] theorem State.mapVersions_sc_ (s f u1) : (State.mapVersions s f).sc u1 = s.sc u1 := rfl
@[simp] theorem State.mapVersions_peer_ (s f u1) : (State.mapVersions s f).peer u1 = s.peer u1 := rfl
@[simp] theorem State.mapVersions_health__ (s f u1) : (State.mapVersions s f).health_ u1 = s.health_ u1 := rfl

/-! mapDecs -/
@[simp] theorem State.mapDecs_regs (s p f) : (State.mapDecs s p f).regs = s.regs := rfl
@[simp] theorem State.mapDecs_keptRegs (s p f) : (State.mapDecs s p f).keptRegs = s.keptRegs := rfl
@[simp] theorem State.mapDecs_pairLow (s p f) : (State.mapDecs s p f).pairLow = s.pairLow := rfl
@[simp] theorem State.mapDecs_pairHigh (s p f) : (State.mapDecs s p f).pairHigh = s.pairHigh := rfl
@[simp] theorem State.mapDecs_frame (s p f) : (State.mapDecs s p f).frame = s.frame := rfl
@[simp] theorem State.mapDecs_board (s p f) : (State.mapDecs s p f).board = s.board := rfl
@[simp] theorem State.mapDecs_sup (s p f) : (State.mapDecs s p f).sup = s.sup := rfl
@[simp] theorem State.mapDecs_boot (s p f) : (State.mapDecs s p f).boot = s.boot := rfl
@[simp] theorem State.mapDecs_pairs (s p f) : (State.mapDecs s p f).pairs = s.pairs := rfl
@[simp] theorem State.mapDecs_eps (s p f) : (State.mapDecs s p f).eps = s.eps := rfl
@[simp] theorem State.mapDecs_msix (s p f) : (State.mapDecs s p f).msix = s.msix := rfl
@[simp] theorem State.mapDecs_wins (s p f) : (State.mapDecs s p f).wins = s.wins := rfl
@[simp] theorem State.mapDecs_mem (s p f) : (State.mapDecs s p f).mem = s.mem := rfl
@[simp] theorem State.mapDecs_tags (s p f) : (State.mapDecs s p f).tags = s.tags := rfl
@[simp] theorem State.mapDecs_rings (s p f) : (State.mapDecs s p f).rings = s.rings := rfl
@[simp] theorem State.mapDecs_ctxs (s p f) : (State.mapDecs s p f).ctxs = s.ctxs := rfl
@[simp] theorem State.mapDecs_nextOrder (s p f) : (State.mapDecs s p f).nextOrder = s.nextOrder := rfl
@[simp] theorem State.mapDecs_recon (s p f) : (State.mapDecs s p f).recon = s.recon := rfl
@[simp] theorem State.mapDecs_reconSeq (s p f) : (State.mapDecs s p f).reconSeq = s.reconSeq := rfl
@[simp] theorem State.mapDecs_lost (s p f) : (State.mapDecs s p f).lost = s.lost := rfl
@[simp] theorem State.mapDecs_lostSeq (s p f) : (State.mapDecs s p f).lostSeq = s.lostSeq := rfl
@[simp] theorem State.mapDecs_events (s p f) : (State.mapDecs s p f).events = s.events := rfl
@[simp] theorem State.mapDecs_eventTotal (s p f) : (State.mapDecs s p f).eventTotal = s.eventTotal := rfl
@[simp] theorem State.mapDecs_health (s p f) : (State.mapDecs s p f).health = s.health := rfl
@[simp] theorem State.mapDecs_saved (s p f) : (State.mapDecs s p f).saved = s.saved := rfl
@[simp] theorem State.mapDecs_hostTime (s p f) : (State.mapDecs s p f).hostTime = s.hostTime := rfl
@[simp] theorem State.mapDecs_rrLast (s p f) : (State.mapDecs s p f).rrLast = s.rrLast := rfl
@[simp] theorem State.mapDecs_rrLeft (s p f) : (State.mapDecs s p f).rrLeft = s.rrLeft := rfl
@[simp] theorem State.mapDecs_ftl (s p f) : (State.mapDecs s p f).ftl = s.ftl := rfl
@[simp] theorem State.mapDecs_blks (s p f) : (State.mapDecs s p f).blks = s.blks := rfl
@[simp] theorem State.mapDecs_pages (s p f) : (State.mapDecs s p f).pages = s.pages := rfl
@[simp] theorem State.mapDecs_bands (s p f) : (State.mapDecs s p f).bands = s.bands := rfl
@[simp] theorem State.mapDecs_chns (s p f) : (State.mapDecs s p f).chns = s.chns := rfl
@[simp] theorem State.mapDecs_luns (s p f) : (State.mapDecs s p f).luns = s.luns := rfl
@[simp] theorem State.mapDecs_pwr (s p f) : (State.mapDecs s p f).pwr = s.pwr := rfl
@[simp] theorem State.mapDecs_sensors (s p f) : (State.mapDecs s p f).sensors = s.sensors := rfl
@[simp] theorem State.mapDecs_thermal (s p f) : (State.mapDecs s p f).thermal = s.thermal := rfl
@[simp] theorem State.mapDecs_fans (s p f) : (State.mapDecs s p f).fans = s.fans := rfl
@[simp] theorem State.mapDecs_sideband (s p f) : (State.mapDecs s p f).sideband = s.sideband := rfl
@[simp] theorem State.mapDecs_dram (s p f) : (State.mapDecs s p f).dram = s.dram := rfl
@[simp] theorem State.mapDecs_scs (s p f) : (State.mapDecs s p f).scs = s.scs := rfl
@[simp] theorem State.mapDecs_pool (s p f) : (State.mapDecs s p f).pool = s.pool := rfl
@[simp] theorem State.mapDecs_thi (s p f) : (State.mapDecs s p f).thi = s.thi := rfl
@[simp] theorem State.mapDecs_sec (s p f) : (State.mapDecs s p f).sec = s.sec := rfl
@[simp] theorem State.mapDecs_bst (s p f) : (State.mapDecs s p f).bst = s.bst := rfl
@[simp] theorem State.mapDecs_patrol (s p f) : (State.mapDecs s p f).patrol = s.patrol := rfl
@[simp] theorem State.mapDecs_ucode (s p f) : (State.mapDecs s p f).ucode = s.ucode := rfl
@[simp] theorem State.mapDecs_sched (s p f) : (State.mapDecs s p f).sched = s.sched := rfl
@[simp] theorem State.mapDecs_group (s p f) : (State.mapDecs s p f).group = s.group := rfl
@[simp] theorem State.mapDecs_out (s p f) : (State.mapDecs s p f).out = s.out := rfl
@[simp] theorem State.mapDecs_free (s p f) : (State.mapDecs s p f).free = s.free := rfl
@[simp] theorem State.mapDecs_pending (s p f) : (State.mapDecs s p f).pending = s.pending := rfl
@[simp] theorem State.mapDecs_rd_ (s p f u1 u2 u3) : (State.mapDecs s p f).rd u1 u2 u3 = s.rd u1 u2 u3 := rfl
@[simp] theorem State.mapDecs_on_ (s p f u1 u2 u3) : (State.mapDecs s p f).on u1 u2 u3 = s.on u1 u2 u3 := rfl
@[simp] theorem State.mapDecs_ep_ (s p f u1) : (State.mapDecs s p f).ep u1 = s.ep u1 := rfl
@[simp] theorem State.mapDecs_ring_ (s p f u1 u2) : (State.mapDecs s p f).ring u1 u2 = s.ring u1 u2 := rfl
@[simp] theorem State.mapDecs_ctx_ (s p f u1) : (State.mapDecs s p f).ctx u1 = s.ctx u1 := rfl
@[simp] theorem State.mapDecs_tag_ (s p f u1 u2) : (State.mapDecs s p f).tag u1 u2 = s.tag u1 u2 := rfl
@[simp] theorem State.mapDecs_vec_ (s p f u1 u2) : (State.mapDecs s p f).vec u1 u2 = s.vec u1 u2 := rfl
@[simp] theorem State.mapDecs_win_ (s p f u1) : (State.mapDecs s p f).win u1 = s.win u1 := rfl
@[simp] theorem State.mapDecs_lun_ (s p f u1 u2) : (State.mapDecs s p f).lun u1 u2 = s.lun u1 u2 := rfl
@[simp] theorem State.mapDecs_chn_ (s p f u1) : (State.mapDecs s p f).chn u1 = s.chn u1 := rfl
@[simp] theorem State.mapDecs_blk_ (s p f u1) : (State.mapDecs s p f).blk u1 = s.blk u1 := rfl
@[simp] theorem State.mapDecs_page_ (s p f u1) : (State.mapDecs s p f).page u1 = s.page u1 := rfl
@[simp] theorem State.mapDecs_fan_ (s p f u1) : (State.mapDecs s p f).fan u1 = s.fan u1 := rfl
@[simp] theorem State.mapDecs_sc_ (s p f u1) : (State.mapDecs s p f).sc u1 = s.sc u1 := rfl
@[simp] theorem State.mapDecs_peer_ (s p f u1) : (State.mapDecs s p f).peer u1 = s.peer u1 := rfl
@[simp] theorem State.mapDecs_health__ (s p f u1) : (State.mapDecs s p f).health_ u1 = s.health_ u1 := rfl

/-! dropDec -/
@[simp] theorem State.dropDec_regs (s d) : (State.dropDec s d).regs = s.regs := rfl
@[simp] theorem State.dropDec_keptRegs (s d) : (State.dropDec s d).keptRegs = s.keptRegs := rfl
@[simp] theorem State.dropDec_pairLow (s d) : (State.dropDec s d).pairLow = s.pairLow := rfl
@[simp] theorem State.dropDec_pairHigh (s d) : (State.dropDec s d).pairHigh = s.pairHigh := rfl
@[simp] theorem State.dropDec_frame (s d) : (State.dropDec s d).frame = s.frame := rfl
@[simp] theorem State.dropDec_board (s d) : (State.dropDec s d).board = s.board := rfl
@[simp] theorem State.dropDec_sup (s d) : (State.dropDec s d).sup = s.sup := rfl
@[simp] theorem State.dropDec_boot (s d) : (State.dropDec s d).boot = s.boot := rfl
@[simp] theorem State.dropDec_pairs (s d) : (State.dropDec s d).pairs = s.pairs := rfl
@[simp] theorem State.dropDec_eps (s d) : (State.dropDec s d).eps = s.eps := rfl
@[simp] theorem State.dropDec_msix (s d) : (State.dropDec s d).msix = s.msix := rfl
@[simp] theorem State.dropDec_wins (s d) : (State.dropDec s d).wins = s.wins := rfl
@[simp] theorem State.dropDec_mem (s d) : (State.dropDec s d).mem = s.mem := rfl
@[simp] theorem State.dropDec_tags (s d) : (State.dropDec s d).tags = s.tags := rfl
@[simp] theorem State.dropDec_rings (s d) : (State.dropDec s d).rings = s.rings := rfl
@[simp] theorem State.dropDec_ctxs (s d) : (State.dropDec s d).ctxs = s.ctxs := rfl
@[simp] theorem State.dropDec_nextOrder (s d) : (State.dropDec s d).nextOrder = s.nextOrder := rfl
@[simp] theorem State.dropDec_recon (s d) : (State.dropDec s d).recon = s.recon := rfl
@[simp] theorem State.dropDec_reconSeq (s d) : (State.dropDec s d).reconSeq = s.reconSeq := rfl
@[simp] theorem State.dropDec_lost (s d) : (State.dropDec s d).lost = s.lost := rfl
@[simp] theorem State.dropDec_lostSeq (s d) : (State.dropDec s d).lostSeq = s.lostSeq := rfl
@[simp] theorem State.dropDec_events (s d) : (State.dropDec s d).events = s.events := rfl
@[simp] theorem State.dropDec_eventTotal (s d) : (State.dropDec s d).eventTotal = s.eventTotal := rfl
@[simp] theorem State.dropDec_health (s d) : (State.dropDec s d).health = s.health := rfl
@[simp] theorem State.dropDec_saved (s d) : (State.dropDec s d).saved = s.saved := rfl
@[simp] theorem State.dropDec_hostTime (s d) : (State.dropDec s d).hostTime = s.hostTime := rfl
@[simp] theorem State.dropDec_rrLast (s d) : (State.dropDec s d).rrLast = s.rrLast := rfl
@[simp] theorem State.dropDec_rrLeft (s d) : (State.dropDec s d).rrLeft = s.rrLeft := rfl
@[simp] theorem State.dropDec_ftl (s d) : (State.dropDec s d).ftl = s.ftl := rfl
@[simp] theorem State.dropDec_blks (s d) : (State.dropDec s d).blks = s.blks := rfl
@[simp] theorem State.dropDec_pages (s d) : (State.dropDec s d).pages = s.pages := rfl
@[simp] theorem State.dropDec_bands (s d) : (State.dropDec s d).bands = s.bands := rfl
@[simp] theorem State.dropDec_chns (s d) : (State.dropDec s d).chns = s.chns := rfl
@[simp] theorem State.dropDec_luns (s d) : (State.dropDec s d).luns = s.luns := rfl
@[simp] theorem State.dropDec_pwr (s d) : (State.dropDec s d).pwr = s.pwr := rfl
@[simp] theorem State.dropDec_sensors (s d) : (State.dropDec s d).sensors = s.sensors := rfl
@[simp] theorem State.dropDec_thermal (s d) : (State.dropDec s d).thermal = s.thermal := rfl
@[simp] theorem State.dropDec_fans (s d) : (State.dropDec s d).fans = s.fans := rfl
@[simp] theorem State.dropDec_sideband (s d) : (State.dropDec s d).sideband = s.sideband := rfl
@[simp] theorem State.dropDec_dram (s d) : (State.dropDec s d).dram = s.dram := rfl
@[simp] theorem State.dropDec_scs (s d) : (State.dropDec s d).scs = s.scs := rfl
@[simp] theorem State.dropDec_pool (s d) : (State.dropDec s d).pool = s.pool := rfl
@[simp] theorem State.dropDec_thi (s d) : (State.dropDec s d).thi = s.thi := rfl
@[simp] theorem State.dropDec_sec (s d) : (State.dropDec s d).sec = s.sec := rfl
@[simp] theorem State.dropDec_bst (s d) : (State.dropDec s d).bst = s.bst := rfl
@[simp] theorem State.dropDec_patrol (s d) : (State.dropDec s d).patrol = s.patrol := rfl
@[simp] theorem State.dropDec_ucode (s d) : (State.dropDec s d).ucode = s.ucode := rfl
@[simp] theorem State.dropDec_sched (s d) : (State.dropDec s d).sched = s.sched := rfl
@[simp] theorem State.dropDec_group (s d) : (State.dropDec s d).group = s.group := rfl
@[simp] theorem State.dropDec_out (s d) : (State.dropDec s d).out = s.out := rfl
@[simp] theorem State.dropDec_free (s d) : (State.dropDec s d).free = s.free := rfl
@[simp] theorem State.dropDec_pending (s d) : (State.dropDec s d).pending = s.pending := rfl
@[simp] theorem State.dropDec_rd_ (s d u1 u2 u3) : (State.dropDec s d).rd u1 u2 u3 = s.rd u1 u2 u3 := rfl
@[simp] theorem State.dropDec_on_ (s d u1 u2 u3) : (State.dropDec s d).on u1 u2 u3 = s.on u1 u2 u3 := rfl
@[simp] theorem State.dropDec_ep_ (s d u1) : (State.dropDec s d).ep u1 = s.ep u1 := rfl
@[simp] theorem State.dropDec_ring_ (s d u1 u2) : (State.dropDec s d).ring u1 u2 = s.ring u1 u2 := rfl
@[simp] theorem State.dropDec_ctx_ (s d u1) : (State.dropDec s d).ctx u1 = s.ctx u1 := rfl
@[simp] theorem State.dropDec_tag_ (s d u1 u2) : (State.dropDec s d).tag u1 u2 = s.tag u1 u2 := rfl
@[simp] theorem State.dropDec_vec_ (s d u1 u2) : (State.dropDec s d).vec u1 u2 = s.vec u1 u2 := rfl
@[simp] theorem State.dropDec_win_ (s d u1) : (State.dropDec s d).win u1 = s.win u1 := rfl
@[simp] theorem State.dropDec_lun_ (s d u1 u2) : (State.dropDec s d).lun u1 u2 = s.lun u1 u2 := rfl
@[simp] theorem State.dropDec_chn_ (s d u1) : (State.dropDec s d).chn u1 = s.chn u1 := rfl
@[simp] theorem State.dropDec_blk_ (s d u1) : (State.dropDec s d).blk u1 = s.blk u1 := rfl
@[simp] theorem State.dropDec_page_ (s d u1) : (State.dropDec s d).page u1 = s.page u1 := rfl
@[simp] theorem State.dropDec_fan_ (s d u1) : (State.dropDec s d).fan u1 = s.fan u1 := rfl
@[simp] theorem State.dropDec_sc_ (s d u1) : (State.dropDec s d).sc u1 = s.sc u1 := rfl
@[simp] theorem State.dropDec_peer_ (s d u1) : (State.dropDec s d).peer u1 = s.peer u1 := rfl
@[simp] theorem State.dropDec_health__ (s d u1) : (State.dropDec s d).health_ u1 = s.health_ u1 := rfl

end Sys2Proof.Machine
end

