-- ==== Sys2Proof/Laws/Tbl.lean ====
section
/-! SUPPORT. Sparse tables: a read after a write, the canonical form, and the memory operations that keep it. -/

set_option Elab.async false

namespace Sys2Proof.Machine

variable {α : Type}

@[simp] theorem Tbl.get_nil (d : α) (k : Nat) : Tbl.get d [] k = d := rfl

theorem Tbl.get_put (d : α) (t : Tbl α) (k j : Nat) (a : α) :
    Tbl.get d (Tbl.put t k a) j = if j = k then a else Tbl.get d t j := by
  induction t with
  | nil => simp only [Tbl.put, Tbl.get]
  | cons e t ih =>
    obtain ⟨m, b⟩ := e
    by_cases h1 : k < m
    · simp [Tbl.put, h1, Tbl.get]
    · by_cases h2 : k = m
      · subst h2; by_cases h3 : j = k <;> simp [Tbl.put, Tbl.get, h3]
      · simp only [Tbl.put, h1, h2, if_false, Tbl.get, ih]
        by_cases h3 : j = m
        · subst h3; simp; exact fun h => absurd h.symm h2
        · simp [h3]

theorem Tbl.get_drop (d : α) (t : Tbl α) (k j : Nat) (h : j ≠ k) :
    Tbl.get d (Tbl.drop t k) j = Tbl.get d t j := by
  induction t with
  | nil => rfl
  | cons e t ih =>
    obtain ⟨m, b⟩ := e
    have ih' : Tbl.get d (List.filter (fun p => !decide (p.1 = k)) t) j = Tbl.get d t j := ih
    by_cases h1 : m = k
    · subst h1; simp [Tbl.drop, Tbl.get, h, ih']
    · by_cases h2 : j = m <;> simp [Tbl.drop, Tbl.get, h1, h2, ih']

theorem Tbl.get_drop_self (d : α) (t : Tbl α) (k : Nat) : Tbl.get d (Tbl.drop t k) k = d := by
  induction t with
  | nil => rfl
  | cons e t ih =>
    obtain ⟨m, b⟩ := e
    have ih' : Tbl.get d (List.filter (fun p => !decide (p.1 = k)) t) k = d := ih
    by_cases h1 : m = k
    · subst h1; simp [Tbl.drop, ih']
    · simp [Tbl.drop, Tbl.get, h1, ih']; exact fun h => absurd h.symm h1

variable [DecidableEq α]

/-- A read after a write. -/
theorem Tbl.get_set (d : α) (t : Tbl α) (k j : Nat) (a : α) :
    Tbl.get d (Tbl.set d t k a) j = if j = k then a else Tbl.get d t j := by
  unfold Tbl.set
  by_cases ha : a = d
  · subst ha; simp only [if_true]
    by_cases h : j = k
    · subst h; simp [Tbl.get_drop_self]
    · simp [h, Tbl.get_drop]
  · simp only [ha, if_false, Tbl.get_put]

@[simp] theorem Tbl.get_set_self (d : α) (t : Tbl α) (k : Nat) (a : α) : Tbl.get d (Tbl.set d t k a) k = a := by
  simp [Tbl.get_set]

theorem Tbl.get_set_ne (d : α) (t : Tbl α) {k j : Nat} (a : α) (h : j ≠ k) :
    Tbl.get d (Tbl.set d t k a) j = Tbl.get d t j := by
  simp [Tbl.get_set, h]

omit [DecidableEq α] in
theorem Tbl.above_mono {k j : Nat} (h : j ≤ k) {t : Tbl α} (ht : Tbl.above k t = true) : Tbl.above j t = true := by
  simp only [Tbl.above, List.all_eq_true, decide_eq_true_eq] at *
  exact fun p hp => Nat.lt_of_le_of_lt h (ht p hp)

omit [DecidableEq α] in
theorem Tbl.above_filter {k : Nat} {t : Tbl α} (p : Nat × α → Bool) (ht : Tbl.above k t = true) :
    Tbl.above k (t.filter p) = true := by
  simp only [Tbl.above, List.all_eq_true, decide_eq_true_eq] at *
  exact fun q hq => ht q (List.mem_filter.1 hq).1

theorem Tbl.wf_filter (d : α) (p : Nat × α → Bool) {t : Tbl α} (ht : Tbl.wf d t = true) : Tbl.wf d (t.filter p) = true := by
  induction t with
  | nil => rfl
  | cons e t ih =>
    obtain ⟨m, b⟩ := e
    simp only [Tbl.wf, Bool.and_eq_true] at ht
    obtain ⟨⟨h1, h2⟩, h3⟩ := ht
    by_cases hp : p (m, b)
    · simp [hp, Tbl.wf, Tbl.above_filter p h1, ih h3]
      simpa using h2
    · simp [hp, ih h3]

omit [DecidableEq α] in
theorem Tbl.above_put {j k : Nat} (a : α) {t : Tbl α} (h : j < k) (ht : Tbl.above j t = true) :
    Tbl.above j (Tbl.put t k a) = true := by
  induction t with
  | nil => simp [Tbl.put, Tbl.above, h]
  | cons e t ih =>
    obtain ⟨m, b⟩ := e
    have h0 : j < m ∧ Tbl.above j t = true := by simpa [Tbl.above] using ht
    by_cases h1 : k < m
    · simpa [Tbl.put, h1, Tbl.above, h] using ht
    · by_cases h2 : k = m
      · simpa [Tbl.put, h2, Tbl.above] using ht
      · have := ih h0.2
        simp only [Tbl.put, h1, h2, if_false]
        simpa [Tbl.above, h0.1] using this

theorem Tbl.wf_put (d : α) (k : Nat) {a : α} (ha : a ≠ d) {t : Tbl α} (ht : Tbl.wf d t = true) :
    Tbl.wf d (Tbl.put t k a) = true := by
  induction t with
  | nil => simp [Tbl.put, Tbl.wf, Tbl.above, ha]
  | cons e t ih =>
    obtain ⟨m, b⟩ := e
    have ht' := ht
    simp only [Tbl.wf, Bool.and_eq_true] at ht
    obtain ⟨⟨h1, h2⟩, h3⟩ := ht
    by_cases c1 : k < m
    · simp only [Tbl.put, c1, if_true, Tbl.wf, Bool.and_eq_true]
      refine ⟨⟨?_, by simpa using ha⟩, ⟨h1, h2⟩, h3⟩
      have := Tbl.above_mono (Nat.le_of_lt c1) h1
      simpa [Tbl.above, c1] using this
    · by_cases c2 : k = m
      · subst c2; simp [Tbl.put, Tbl.wf, h1, h3, ha]
      · simp only [Tbl.put, c1, c2, if_false, Tbl.wf, Bool.and_eq_true]
        exact ⟨⟨Tbl.above_put a (by omega) h1, h2⟩, ih h3⟩

/-- A write keeps the canonical form. -/
theorem Tbl.wf_set (d : α) (k : Nat) (a : α) {t : Tbl α} (ht : Tbl.wf d t = true) : Tbl.wf d (Tbl.set d t k a) = true := by
  unfold Tbl.set
  split
  · exact Tbl.wf_filter d _ ht
  · exact Tbl.wf_put d k (by assumption) ht

omit [DecidableEq α] in
theorem Tbl.above_map {k : Nat} (f : Nat → α → α) {t : Tbl α} (ht : Tbl.above k t = true) :
    Tbl.above k (t.map (fun e => (e.1, f e.1 e.2))) = true := by
  simp only [Tbl.above, List.all_eq_true, decide_eq_true_eq, List.mem_map] at *
  rintro p ⟨q, hq, rfl⟩; exact ht q hq

/-- A change of every entry keeps the canonical form. -/
theorem Tbl.wf_mapAll (d : α) (f : Nat → α → α) {t : Tbl α} (ht : Tbl.wf d t = true) : Tbl.wf d (Tbl.mapAll d f t) = true := by
  induction t with
  | nil => rfl
  | cons e t ih =>
    obtain ⟨m, b⟩ := e
    simp only [Tbl.wf, Bool.and_eq_true] at ht
    obtain ⟨⟨h1, _⟩, h3⟩ := ht
    have ih := ih h3
    simp only [Tbl.mapAll] at ih
    by_cases c : f m b = d
    · simpa [Tbl.mapAll, c] using ih
    · simp only [Tbl.mapAll, List.map_cons, List.filter_cons, c, decide_false, Bool.not_false, if_true, Tbl.wf, Bool.and_eq_true]
      exact ⟨⟨Tbl.above_filter _ (Tbl.above_map f h1), by simp⟩, ih⟩

/-! ### Memory -/

/-- A byte read after a byte write. -/
theorem Memory.byte_setByte (m : Memory) (a j : Nat) (b : Byte) :
    (m.setByte a b).byte j = if j = a then b else m.byte j := Tbl.get_set 0 m a j b

/-- Writing bytes leaves every other byte alone. -/
theorem Memory.byte_write_outside (bs : List Byte) (m : Memory) (a j : Nat) (h : j < a ∨ a + bs.length ≤ j) :
    (m.write a bs).byte j = m.byte j := by
  induction bs generalizing m a with
  | nil => rfl
  | cons b bs ih =>
    simp only [List.length_cons] at h
    rw [Memory.write, ih _ _ (by omega), Memory.byte_setByte]
    simp [show j ≠ a by omega]

/-- Bytes read back as written. -/
theorem Memory.byte_write_inside (bs : List Byte) (m : Memory) (a i : Nat) (h : i < bs.length) :
    (m.write a bs).byte (a + i) = bs[i] := by
  induction bs generalizing m a i with
  | nil => simp at h
  | cons b bs ih =>
    rw [Memory.write]
    cases i with
    | zero => rw [Memory.byte_write_outside _ _ _ _ (by omega), Memory.byte_setByte]; simp
    | succ i =>
      have := ih (m.setByte a b) (a + 1) i (by simpa using h)
      rw [show a + (i + 1) = a + 1 + i by omega, this]; rfl

/-- A byte write keeps the canonical form of memory. -/
theorem Memory.wf_setByte (m : Memory) (a : Nat) (b : Byte) (h : m.wf = true) : (m.setByte a b).wf = true := Tbl.wf_set 0 a b h

/-- A write of bytes keeps the canonical form of memory. -/
theorem Memory.wf_write (bs : List Byte) (m : Memory) (a : Nat) (h : m.wf = true) : (m.write a bs).wf = true := by
  induction bs generalizing m a with
  | nil => exact h
  | cons b bs ih => exact ih _ _ (Memory.wf_setByte m a b h)

end Sys2Proof.Machine
end

