-- ==== Sys2Proof/Laws/Regs.lean ====
section
/-! SUPPORT. Register reads after writes, accessor reads after writes, and how frames compose. -/

set_option Elab.async false

namespace Sys2Proof.Machine

/-! ### The register file -/

/-- A register field reads as written, cut to its width. -/
@[simp] theorem State.rd_wr_same (s : State) (r : Fld) (v i f : Nat) : (s.wr r v i f).rd r i f = v % 2 ^ r.w := by
  simp [State.rd, State.wr, Nat.xor_assoc]

/-- A write leaves every field with another home alone. -/
theorem State.rd_wr_other (s : State) (r q : Fld) (v i f j g : Nat) (h : q.key j g ≠ r.key i f) :
    (s.wr r v i f).rd q j g = s.rd q j g := by
  simp [State.rd, State.wr, Tbl.get_set_ne _ _ _ h]

/-- Two fields whose instances never share a home: their lowest bits differ, or their offsets do modulo every stride. -/
def Fld.apart (q r : Fld) : Bool :=
  q.lo % 64 != r.lo % 64
    || (q.lo / 64 == r.lo / 64 && q.off % Nat.gcd (Nat.gcd q.stride r.stride) (2 ^ 23) !=
        r.off % Nat.gcd (Nat.gcd q.stride r.stride) (2 ^ 23))

theorem Fld.key_apart {q r : Fld} (h : q.apart r = true) (j g i f : Nat) : q.key j g ≠ r.key i f := by
  intro e
  simp only [Fld.apart, Bool.or_eq_true, Bool.and_eq_true, bne_iff_ne, beq_iff_eq, ne_eq] at h
  unfold Fld.key at e
  rcases h with h | ⟨hl, h⟩
  · omega
  · apply h
    generalize hd : Nat.gcd (Nat.gcd q.stride r.stride) (2 ^ 23) = d
    generalize hA : (q.scope.code * 2 + if q.perFn = true then g % 2 else 0) = A at e
    generalize hB : (r.scope.code * 2 + if r.perFn = true then f % 2 else 0) = B at e
    have e2 : A * 2 ^ 23 + (q.off + q.stride * j) = B * 2 ^ 23 + (r.off + r.stride * i) := by omega
    have d1 : d ∣ q.stride := hd ▸ Nat.dvd_trans (Nat.gcd_dvd_left _ _) (Nat.gcd_dvd_left _ _)
    have d2 : d ∣ r.stride := hd ▸ Nat.dvd_trans (Nat.gcd_dvd_left _ _) (Nat.gcd_dvd_right _ _)
    have d3 : d ∣ 2 ^ 23 := hd ▸ Nat.gcd_dvd_right _ _
    have m1 : (A * 2 ^ 23 + (q.off + q.stride * j)) % d = q.off % d := by
      have : A * 2 ^ 23 + (q.off + q.stride * j) = q.off + (A * 2 ^ 23 + q.stride * j) := Nat.add_left_comm _ _ _
      rw [this, Nat.add_mod, Nat.mod_eq_zero_of_dvd (Nat.dvd_add (Nat.dvd_mul_left_of_dvd d3 A) (Nat.dvd_mul_right_of_dvd d1 j))]; simp
    have m2 : (B * 2 ^ 23 + (r.off + r.stride * i)) % d = r.off % d := by
      have : B * 2 ^ 23 + (r.off + r.stride * i) = r.off + (B * 2 ^ 23 + r.stride * i) := Nat.add_left_comm _ _ _
      rw [this, Nat.add_mod, Nat.mod_eq_zero_of_dvd (Nat.dvd_add (Nat.dvd_mul_left_of_dvd d3 B) (Nat.dvd_mul_right_of_dvd d2 i))]; simp
    rw [← m1, ← m2, e2]

/-- A write leaves every field apart from it alone. -/
theorem State.rd_wr_apart (s : State) (r q : Fld) (v i f j g : Nat) (h : q.apart r = true) :
    (s.wr r v i f).rd q j g = s.rd q j g := State.rd_wr_other s r q v i f j g (Fld.key_apart h j g i f)

/-- A saturating counter after an addition. -/
theorem State.rd_bump_same (s : State) (r : Fld) (n i f : Nat) :
    (s.bump r n i f).rd r i f = min (s.rd r i f + n) (2 ^ r.w - 1) := by
  unfold State.bump
  rw [State.rd_wr_same]
  exact Nat.mod_eq_of_lt (by have := Nat.two_pow_pos r.w; omega)

/-- Two instances of an array field have two homes. -/
theorem Fld.key_instance {r : Fld} (h : r.stride ≠ 0) {i j : Nat} (hij : j ≠ i) (f : Nat) : r.key j f ≠ r.key i f := by
  unfold Fld.key
  intro e
  exact hij (Nat.eq_of_mul_eq_mul_left (Nat.pos_of_ne_zero h) (by omega))

theorem State.rd_bump_apart (s : State) (r q : Fld) (n i f j g : Nat) (h : q.apart r = true) :
    (s.bump r n i f).rd q j g = s.rd q j g := State.rd_wr_apart s r q _ i f j g h

theorem State.rd_bump_other (s : State) (r q : Fld) (n i f j g : Nat) (h : q.key j g ≠ r.key i f) :
    (s.bump r n i f).rd q j g = s.rd q j g := State.rd_wr_other s r q _ i f j g h

/-- A field's value fits its width. -/
theorem State.rd_lt (s : State) (r : Fld) (i f : Nat) : s.rd r i f < 2 ^ r.w := Nat.mod_lt _ (Nat.two_pow_pos _)

/-! ### The log and the Health page -/

/-- The newest event of the log. -/
@[simp] theorem State.event_head (s : State) (a b c d : Nat) :
    (s.event a b c d).events.head? = some { time := s.frame, code := b, source := a, func := d, detail := c } := by
  simp [State.event]

@[simp] theorem State.event_eventTotal (s : State) (a b c d : Nat) : (s.event a b c d).eventTotal = s.eventTotal + 1 := rfl

/-- The log keeps the newest 4,096 entries. -/
theorem State.event_events (s : State) (a b c d : Nat) :
    (s.event a b c d).events = ({ time := s.frame, code := b, source := a, func := d, detail := c } :: s.events).take 4096 := rfl

/-! ### Accessors -/

@[simp] theorem State.fan_setFan (s : State) (f g : Nat) (x : Fan) : (s.setFan f x).fan g = if g = f then x else s.fan g := by apply Tbl.get_set

@[simp] theorem State.health_setHealth (s : State) (o p v : Nat) :
    (s.setHealth o v).health_ p = if p = o then v else s.health_ p := by apply Tbl.get_set

@[simp] theorem State.ep_setEp (s : State) (f g : Nat) (e : Ep) : (s.setEp f e).ep g = if g = f then e else s.ep g := by apply Tbl.get_set

@[simp] theorem State.ctx_setCtx (s : State) (c d : Nat) (x : Ctx) : (s.setCtx c x).ctx d = if d = c then x else s.ctx d := by apply Tbl.get_set

@[simp] theorem State.ring_setRing_self (s : State) (f n : Nat) (r : Ring) : (s.setRing f n r).ring f n = r := by apply Tbl.get_set_self

@[simp] theorem State.tag_setTag_self (s : State) (f t : Nat) (u : TagUse) : (s.setTag f t u).tag f t = u := by apply Tbl.get_set_self

@[simp] theorem State.vec_setVec_self (s : State) (f v : Nat) (m : Msix) : (s.setVec f v m).vec f v = m := by apply Tbl.get_set_self

@[simp] theorem State.win_setWin (s : State) (n m : Nat) (w : Win) : (s.setWin n w).win m = if m = n then w else s.win m := by apply Tbl.get_set

@[simp] theorem State.lun_setLun_self (s : State) (c l : Nat) (u : Lun) : (s.setLun c l u).lun c l = u := by apply Tbl.get_set_self

@[simp] theorem State.chn_setChn (s : State) (c d : Nat) (x : Chn) : (s.setChn c x).chn d = if d = c then x else s.chn d := by apply Tbl.get_set

@[simp] theorem State.sc_setSc (s : State) (n m : Nat) (x : Sc) : (s.setSc n x).sc m = if m = n then x else s.sc m := by apply Tbl.get_set

@[simp] theorem State.peer_setPeer (s : State) (j k : Nat) (p : Peer) :
    (s.setPeer j p).peer k = if k = j then p else s.peer k := by apply Tbl.get_set

/-! ### Frames -/

theorem Part.same_refl (p : Part) (s : State) : p.same s s := by cases p <;> simp [Part.same]

theorem Part.same_trans {p : Part} {s t u : State} (h : p.same s t) (k : p.same t u) : p.same s u := by
  cases p <;> simp_all [Part.same]

theorem Only.refl (ps : List Part) (s : State) : Only ps s s := fun p _ => Part.same_refl p s

theorem Only.trans {ps : List Part} {s t u : State} (h : Only ps s t) (k : Only ps t u) : Only ps s u :=
  fun p hp => Part.same_trans (h p hp) (k p hp)

theorem Only.mono {ps qs : List Part} {s t : State} (hs : ps ⊆ qs) (h : Only ps s t) : Only qs s t :=
  fun p hp => h p (fun hm => hp (hs hm))

theorem RegsOnly.refl (rs : List Fld) (s : State) : RegsOnly rs s s := fun _ _ => rfl

theorem RegsOnly.trans {rs : List Fld} {s t u : State} (h : RegsOnly rs s t) (k : RegsOnly rs t u) : RegsOnly rs s u :=
  fun n hn => (k n hn).trans (h n hn)

theorem RegsOnly.mono {rs qs : List Fld} {s t : State} (hs : rs ⊆ qs) (h : RegsOnly rs s t) : RegsOnly qs s t :=
  fun n hn => h n (fun ⟨r, hr, rest⟩ => hn ⟨r, hs hr, rest⟩)

/-- Equal register files. -/
theorem RegsOnly.of_eq {s t : State} (h : t.regs = s.regs) (rs : List Fld) : RegsOnly rs s t := fun _ _ => by rw [h]

/-- A write of a field listed. -/
theorem RegsOnly.wr {rs : List Fld} {r : Fld} (hr : r ∈ rs) (s : State) (v : Nat) {i f : Nat} (hi : i < r.count) (hf : f < 2) :
    RegsOnly rs s (s.wr r v i f) := fun k hk => by
  have : k ≠ r.key i f := fun e => hk ⟨r, hr, i, hi, f, hf, e⟩
  simp [State.wr, Tbl.get_set_ne _ _ _ this]

theorem Frame.refl (ps : List Part) (rs : List Fld) (s : State) : Frame ps rs s s := ⟨Only.refl ps s, RegsOnly.refl rs s⟩

theorem Frame.trans {ps : List Part} {rs : List Fld} {s t u : State} (h : Frame ps rs s t) (k : Frame ps rs t u) : Frame ps rs s u :=
  ⟨h.1.trans k.1, h.2.trans k.2⟩

theorem Frame.mono {ps qs : List Part} {rs us : List Fld} {s t : State} (hp : ps ⊆ qs) (hr : rs ⊆ us) (h : Frame ps rs s t) :
    Frame qs us s t := ⟨h.1.mono hp, h.2.mono hr⟩

/-- A register write frames every part. -/
theorem Frame.wr (ps : List Part) {rs : List Fld} {r : Fld} (hr : r ∈ rs) (s : State) (v : Nat) {i f : Nat} (hi : i < r.count)
    (hf : f < 2) : Frame ps rs s (s.wr r v i f) :=
  ⟨fun p _ => by cases p <;> simp [Part.same], RegsOnly.wr hr s v hi hf⟩

/-- Recording an event changes the log alone. -/
theorem Frame.event {ps : List Part} (h : Part.log ∈ ps) (rs : List Fld) (s : State) (a b c d : Nat) :
    Frame ps rs s (s.event a b c d) :=
  ⟨fun p hp => by cases p <;> first | exact absurd h hp | simp [Part.same], fun _ _ => rfl⟩

/-- Putting something on a bus changes the buses alone. -/
theorem Frame.emit {ps : List Part} (h : Part.buses ∈ ps) (rs : List Fld) (s : State) (o : Out) : Frame ps rs s (s.emit o) :=
  ⟨fun p hp => by cases p <;> first | exact absurd h hp | simp [Part.same], fun _ _ => rfl⟩

end Sys2Proof.Machine
end

