-- ==== Sys2Proof/Laws/Frames.lean ====
section
/-! SUPPORT. The frames of the shared operations: each names the part it reaches, and what was framed up to here stays framed. -/

set_option Elab.async false

namespace Sys2Proof.Machine

variable {ps : List Part} {rs : List Fld} {s t : State}

/-- One part changes and the register file does not. -/
theorem Frame.part {u : State} (k : Frame ps rs s t) (p : Part) (hp : p ∈ ps) (h : ∀ q, q ≠ p → q.same t u) (hr : u.regs = t.regs) :
    Frame ps rs s u :=
  k.trans ⟨fun q hq => h q (fun e => hq (e ▸ hp)), RegsOnly.of_eq hr rs⟩

theorem Frame.then_wr (k : Frame ps rs s t) {r : Fld} (hr : r ∈ rs) (v : Nat) {i f : Nat} (hi : i < r.count) (hf : f < 2) :
    Frame ps rs s (t.wr r v i f) := k.trans (Frame.wr ps hr t v hi hf)

theorem Frame.then_bump (k : Frame ps rs s t) {r : Fld} (hr : r ∈ rs) (n : Nat) {i f : Nat} (hi : i < r.count) (hf : f < 2) :
    Frame ps rs s (t.bump r n i f) := k.then_wr hr _ hi hf

theorem Frame.then_event (k : Frame ps rs s t) (h : Part.log ∈ ps) (a b c d : Nat) : Frame ps rs s (t.event a b c d) :=
  k.trans (Frame.event h rs t a b c d)

theorem Frame.then_emit (k : Frame ps rs s t) (h : Part.buses ∈ ps) (o : Out) : Frame ps rs s (t.emit o) := k.trans (Frame.emit h rs t o)

theorem Frame.setHealth (k : Frame ps rs s t) (h : Part.health ∈ ps) (o v : Nat) : Frame ps rs s (t.setHealth o v) :=
  k.part .health h (fun q hq => by cases q <;> first | exact absurd rfl hq | simp [Part.same]) rfl

theorem Frame.setEp (k : Frame ps rs s t) (h : Part.endpoint ∈ ps) (f : Nat) (e : Ep) : Frame ps rs s (t.setEp f e) :=
  k.part .endpoint h (fun q hq => by cases q <;> first | exact absurd rfl hq | simp [Part.same]) rfl

theorem Frame.setRing (k : Frame ps rs s t) (h : Part.rings ∈ ps) (f n : Nat) (r : Ring) : Frame ps rs s (t.setRing f n r) :=
  k.part .rings h (fun q hq => by cases q <;> first | exact absurd rfl hq | simp [Part.same]) rfl

theorem Frame.setCtx (k : Frame ps rs s t) (h : Part.contexts ∈ ps) (c : Nat) (x : Ctx) : Frame ps rs s (t.setCtx c x) :=
  k.part .contexts h (fun q hq => by cases q <;> first | exact absurd rfl hq | simp [Part.same]) rfl

theorem Frame.setTag (k : Frame ps rs s t) (h : Part.tags ∈ ps) (f n : Nat) (u : TagUse) : Frame ps rs s (t.setTag f n u) :=
  k.part .tags h (fun q hq => by cases q <;> first | exact absurd rfl hq | simp [Part.same]) rfl

theorem Frame.setVec (k : Frame ps rs s t) (h : Part.vectors ∈ ps) (f v : Nat) (m : Msix) : Frame ps rs s (t.setVec f v m) :=
  k.part .vectors h (fun q hq => by cases q <;> first | exact absurd rfl hq | simp [Part.same]) rfl

theorem Frame.setWin (k : Frame ps rs s t) (h : Part.windows ∈ ps) (n : Nat) (w : Win) : Frame ps rs s (t.setWin n w) :=
  k.part .windows h (fun q hq => by cases q <;> first | exact absurd rfl hq | simp [Part.same]) rfl

theorem Frame.setLun (k : Frame ps rs s t) (h : Part.luns ∈ ps) (c l : Nat) (u : Lun) : Frame ps rs s (t.setLun c l u) :=
  k.part .luns h (fun q hq => by cases q <;> first | exact absurd rfl hq | simp [Part.same]) rfl

theorem Frame.setChn (k : Frame ps rs s t) (h : Part.channels ∈ ps) (c : Nat) (x : Chn) : Frame ps rs s (t.setChn c x) :=
  k.part .channels h (fun q hq => by cases q <;> first | exact absurd rfl hq | simp [Part.same]) rfl

theorem Frame.setBlk (k : Frame ps rs s t) (h : Part.flash ∈ ps) (a : Nat) (b : Blk) : Frame ps rs s (t.setBlk a b) :=
  k.part .flash h (fun q hq => by cases q <;> first | exact absurd rfl hq | simp [Part.same]) rfl

theorem Frame.setPage (k : Frame ps rs s t) (h : Part.flash ∈ ps) (a : Nat) (p : PageImg) : Frame ps rs s (t.setPage a p) :=
  k.part .flash h (fun q hq => by cases q <;> first | exact absurd rfl hq | simp [Part.same]) rfl

theorem Frame.restartCoalesce (k : Frame ps rs s t) (h : Part.rings ∈ ps) (f v : Nat) : Frame ps rs s (t.restartCoalesce f v) :=
  k.part .rings h (fun q hq => by cases q <;> first | exact absurd rfl hq | simp [Part.same]) rfl

theorem Frame.setFan (k : Frame ps rs s t) (h : Part.fans ∈ ps) (f : Nat) (x : Fan) : Frame ps rs s (t.setFan f x) :=
  k.part .fans h (fun q hq => by cases q <;> first | exact absurd rfl hq | simp [Part.same]) rfl

theorem Frame.setSc (k : Frame ps rs s t) (h : Part.subchannels ∈ ps) (n : Nat) (x : Sc) : Frame ps rs s (t.setSc n x) :=
  k.part .subchannels h (fun q hq => by cases q <;> first | exact absurd rfl hq | simp [Part.same]) rfl

theorem Frame.setBuf (k : Frame ps rs s t) (h : Part.pool ∈ ps) (b : Nat) (x : Buf) : Frame ps rs s (t.setBuf b x) :=
  k.part .pool h (fun q hq => by cases q <;> first | exact absurd rfl hq | simp [Part.same]) rfl

theorem Frame.setPeer (k : Frame ps rs s t) (h : Part.group ∈ ps) (j : Nat) (p : Peer) : Frame ps rs s (t.setPeer j p) :=
  k.part .group h (fun q hq => by cases q <;> first | exact absurd rfl hq | simp [Part.same]) rfl

theorem Frame.setGroup (k : Frame ps rs s t) (h : Part.group ∈ ps) (g : Group) : Frame ps rs s (t.setGroup g) :=
  k.part .group h (fun q hq => by cases q <;> first | exact absurd rfl hq | simp [Part.same]) rfl

theorem Frame.setPwr (k : Frame ps rs s t) (h : Part.power ∈ ps) (p : Pwr) : Frame ps rs s (t.setPwr p) :=
  k.part .power h (fun q hq => by cases q <;> first | exact absurd rfl hq | simp [Part.same]) rfl

theorem Frame.setSup (k : Frame ps rs s t) (h : Part.supply ∈ ps) (p : Supply) : Frame ps rs s (t.setSup p) :=
  k.part .supply h (fun q hq => by cases q <;> first | exact absurd rfl hq | simp [Part.same]) rfl

theorem Frame.setBand (k : Frame ps rs s t) (h : Part.flash ∈ ps) (b : Band) : Frame ps rs s (t.setBand b) :=
  k.part .flash h (fun q hq => by cases q <;> first | exact absurd rfl hq | simp [Part.same]) rfl

theorem Frame.setThi (k : Frame ps rs s t) (h : Part.engine ∈ ps) (i : Nat) (e : ThiEnt) : Frame ps rs s (t.setThi i e) :=
  k.part .engine h (fun q hq => by cases q <;> first | exact absurd rfl hq | simp [Part.same]) rfl

theorem Frame.record (k : Frame ps rs s t) (h : Part.ftl ∈ ps) (r : Rec) : Frame ps rs s (t.record r) :=
  k.part .ftl h (fun q hq => by cases q <;> first | exact absurd rfl hq | simp [Part.same]) rfl

theorem Frame.freeNext (k : Frame ps rs s t) (h : Part.freeValues ∈ ps) : Frame ps rs s (t.freeNext) :=
  k.part .freeValues h (fun q hq => by cases q <;> first | exact absurd rfl hq | simp [Part.same]) rfl

theorem Frame.ite {c : Prop} [Decidable c] {u : State} (h : Frame ps rs s t) (k : Frame ps rs s u) : Frame ps rs s (if c then t else u) := by
  split <;> assumption

theorem Frame.foldl {β : Type} {g : State → β → State} {l : List β} (hg : ∀ s, ∀ b ∈ l, Frame ps rs s (g s b)) (k : Frame ps rs s t) :
    Frame ps rs s (l.foldl g t) := by
  induction l generalizing t with
  | nil => exact k
  | cons b l ih => exact ih (fun s b hb => hg s b (List.mem_cons_of_mem _ hb)) (k.trans (hg t b List.mem_cons_self))

/-! ### Interrupts, completion entries and asynchronous events -/

theorem Frame.signal (k : Frame ps rs s t) (h : asyncParts ⊆ ps) (f v : Nat) : Frame ps rs s (t.signal f v) := by
  unfold State.signal
  exact .ite ((((k.setVec (h (by decide)) _ _ _).then_emit (h (by decide)) _)).restartCoalesce (h (by decide)) _ _)
    ((k.setVec (h (by decide)) _ _ _).restartCoalesce (h (by decide)) _ _)

theorem Frame.putCqe (k : Frame ps rs s t) (h : asyncParts ⊆ ps) (f n a b c d : Nat) : Frame ps rs s (t.putCqe f n a b c d) :=
  (k.setRing (h (by decide)) _ _ _).then_emit (h (by decide)) _

theorem Frame.postAsync (k : Frame ps rs s t) (h : asyncParts ⊆ ps) (hr : Reg.HIF_ASYNC.PEND ∈ rs) {f : Nat} (hf : f < 2) (y info : Nat) :
    Frame ps rs s (t.postAsync f y info) := by
  unfold State.postAsync
  exact .ite ((((k.then_wr hr _ (by decide) hf).setEp (h (by decide)) _ _).putCqe h _ _ _ _ _ _).signal h _ _)
    (.ite (k.setEp (h (by decide)) _ _) k)

theorem Frame.pmeWake (k : Frame ps rs s t) (h : asyncParts ⊆ ps) (f y : Nat) : Frame ps rs s (t.pmeWake f y) := by
  unfold State.pmeWake
  split
  · exact .ite (.ite ((k.setEp (h (by decide)) _ _).then_emit (h (by decide)) _) ((k.setEp (h (by decide)) _ _).then_emit (h (by decide)) _)) k
  · exact k

theorem Frame.async (k : Frame ps rs s t) (h : asyncParts ⊆ ps) (hr : Reg.HIF_ASYNC.PEND ∈ rs) {f : Nat} (hf : f < 2) (y info : Nat) :
    Frame ps rs s (t.async f y info) := by
  unfold State.async
  exact .ite ((k.setEp (h (by decide)) _ _).pmeWake h _ _) (k.postAsync h hr hf _ _)

theorem State.fns_lt {f : Nat} (h : f ∈ s.fns) : f < 2 := by
  unfold State.fns at h
  split at h <;> simp at h <;> omega

theorem Frame.asyncAll (k : Frame ps rs s t) (h : asyncParts ⊆ ps) (hr : Reg.HIF_ASYNC.PEND ∈ rs) (y info : Nat) :
    Frame ps rs s (t.asyncAll y info) :=
  Frame.foldl (fun s _ hf => (Frame.refl ps rs s).async h hr (State.fns_lt hf) y info) k

end Sys2Proof.Machine
end

