-- ==== Sys2Proof/Laws/Ops.lean ====
section
/-! SUPPORT. What the shared operations can do to the fields that every step's rules speak of, each said once: the relation
Steady, its closure, and the operation's own lemma; and the frames of interrupts and asynchronous events. -/

set_option Elab.async false

namespace Sys2Proof.Machine

/-! ### Steady: one part of a command's effect -/

/-- The log only gains events of the present frame, of which it keeps the latest (R181). -/
def LogGrows (s t : State) : Prop :=
  ∃ l : List Event, t.events.take 4096 = (l ++ s.events).take 4096 ∧ (s.events.length ≤ 4096 → t.events.length ≤ 4096)
    ∧ t.eventTotal = s.eventTotal + l.length ∧ ∀ e ∈ l, e.time = s.frame

/-- Reconcile entries are only appended, each under a sequence number not used before (R179). -/
def ReconGrows (s t : State) : Prop :=
  ∃ l : List Recon, t.recon = s.recon ++ l ∧ l.Pairwise (fun r q => r.seq < q.seq) ∧ (∀ r ∈ l, s.reconSeq < r.seq ∧ r.seq ≤ t.reconSeq)
    ∧ s.reconSeq ≤ t.reconSeq

/-- From `s` to `t` nothing has happened that only a command of its own may do: the queue, the power-on time, the straps and the windows'
memory are the same, the log and the Reconcile entries have only grown, and the tables are as canonical as they were. -/
structure Steady (s t : State) : Prop where
  pending : t.pending = s.pending
  frame : t.frame = s.frame
  board : t.board = s.board
  fused : s.bst.fusedSv ≤ t.bst.fusedSv
  free : s.free ≤ t.free
  out : s.out <:+ t.out
  mem : t.mem = s.mem
  log : LogGrows s t
  recon : ReconGrows s t
  lostSeq : s.lostSeq ≤ t.lostSeq
  lost : s.lost.Pairwise (fun l m => l.seq < m.seq) ∧ (∀ l ∈ s.lost, l.seq ≤ s.lostSeq) →
    t.lost.Pairwise (fun l m => l.seq < m.seq) ∧ ∀ l ∈ t.lost, l.seq ≤ t.lostSeq
  regs : Tbl.wf 0 s.regs = true → Tbl.wf 0 t.regs = true
  kept : Tbl.wf 0 s.keptRegs = true → Tbl.wf 0 t.keptRegs = true
  entries : Tbl.wf {} s.thi = true → Tbl.wf {} t.thi = true

theorem LogGrows.of_eq {s t : State} (he : t.events = s.events) (hn : t.eventTotal = s.eventTotal) : LogGrows s t :=
  ⟨[], by simp [he], by simp [he], by simp [hn], by simp⟩

/-- What is kept of a longer log depends only on what was kept before. -/
theorem List.take_append_take {α : Type} (n : Nat) (l m : List α) : (l ++ m.take n).take n = (l ++ m).take n := by
  rw [List.take_append, List.take_append, List.take_take, Nat.min_eq_left (Nat.sub_le _ _)]

theorem LogGrows.trans {s t u : State} (hf : t.frame = s.frame) (h : LogGrows s t) (k : LogGrows t u) : LogGrows s u := by
  obtain ⟨l, h1, hb, h2, h3⟩ := h
  obtain ⟨m, k1, kb, k2, k3⟩ := k
  refine ⟨m ++ l, ?_, fun i => kb (hb i), by simp [k2, h2]; omega, ?_⟩
  · rw [k1, ← List.take_append_take, h1, List.take_append_take, List.append_assoc]
  · intro e he
    rcases List.mem_append.mp he with he | he
    · rw [k3 e he, hf]
    · exact h3 e he

theorem ReconGrows.of_eq {s t : State} (h : t.recon = s.recon) (hn : t.reconSeq = s.reconSeq) : ReconGrows s t :=
  ⟨[], by simp [h], by simp, by simp, by omega⟩

theorem ReconGrows.trans {s t u : State} (h : ReconGrows s t) (k : ReconGrows t u) : ReconGrows s u := by
  obtain ⟨l, h1, h2, h3, h4⟩ := h
  obtain ⟨m, k1, k2, k3, k4⟩ := k
  refine ⟨l ++ m, by rw [k1, h1, List.append_assoc], ?_, ?_, by omega⟩
  · rw [List.pairwise_append]
    exact ⟨h2, k2, fun a ha b hb => by have := h3 a ha; have := k3 b hb; omega⟩
  · intro r hr
    rcases List.mem_append.mp hr with hr | hr
    · have := h3 r hr; omega
    · have := k3 r hr; omega

theorem Steady.trans {s t u : State} (h : Steady s t) (k : Steady t u) : Steady s u where
  pending := k.pending.trans h.pending
  frame := k.frame.trans h.frame
  board := k.board.trans h.board
  fused := Nat.le_trans h.fused k.fused
  free := Nat.le_trans h.free k.free
  out := h.out.trans k.out
  mem := k.mem.trans h.mem
  log := h.log.trans h.frame k.log
  recon := h.recon.trans k.recon
  lostSeq := Nat.le_trans h.lostSeq k.lostSeq
  lost := fun i => k.lost (h.lost i)
  regs := fun i => k.regs (h.regs i)
  kept := fun i => k.kept (h.kept i)
  entries := fun i => k.entries (h.entries i)

/-- An update of none of the fields that Steady speaks of. -/
theorem Steady.update {s t u : State} (h : Steady s t) (e1 : u.pending = t.pending := by rfl) (e2 : u.frame = t.frame := by rfl)
    (e3 : u.board = t.board := by rfl) (e4 : u.bst.fusedSv = t.bst.fusedSv := by rfl) (e5 : u.free = t.free := by rfl)
    (e6 : u.out = t.out := by rfl) (e7 : u.mem = t.mem := by rfl) (e8 : u.events = t.events := by rfl)
    (e9 : u.eventTotal = t.eventTotal := by rfl) (e10 : u.recon = t.recon := by rfl) (e11 : u.reconSeq = t.reconSeq := by rfl)
    (e12 : u.lost = t.lost := by rfl) (e13 : u.lostSeq = t.lostSeq := by rfl) (e14 : u.regs = t.regs := by rfl)
    (e15 : u.keptRegs = t.keptRegs := by rfl) (e16 : u.thi = t.thi := by rfl) : Steady s u :=
  h.trans
    { pending := e1, frame := e2, board := e3, fused := Nat.le_of_eq e4.symm, free := Nat.le_of_eq e5.symm, out := e6.symm ▸ List.suffix_refl _,
      mem := e7, log := .of_eq e8 e9, recon := .of_eq e10 e11, lostSeq := Nat.le_of_eq e13.symm, lost := by rw [e12, e13]; exact id,
      regs := by rw [e14]; exact id, kept := by rw [e15]; exact id, entries := by rw [e16]; exact id }

theorem Steady.refl (s : State) : Steady s s where
  pending := rfl
  frame := rfl
  board := rfl
  fused := Nat.le_refl _
  free := Nat.le_refl _
  out := List.suffix_refl _
  mem := rfl
  log := .of_eq rfl rfl
  recon := .of_eq rfl rfl
  lostSeq := Nat.le_refl _
  lost := id
  regs := id
  kept := id
  entries := id

/-- A register write is steady: the register file keeps its canonical form. -/
theorem Steady.wr_step (s : State) (r : Fld) (v i f : Nat) : Steady s (s.wr r v i f) where
  pending := rfl
  frame := rfl
  board := rfl
  fused := Nat.le_refl _
  free := Nat.le_refl _
  out := List.suffix_refl _
  mem := rfl
  log := .of_eq rfl rfl
  recon := .of_eq rfl rfl
  lostSeq := Nat.le_refl _
  lost := id
  regs := Tbl.wf_set 0 _ _
  kept := id
  entries := id

/-- Recording an event is steady. -/
theorem Steady.event_step (s : State) (a b c d : Nat) : Steady s (s.event a b c d) where
  pending := rfl
  frame := rfl
  board := rfl
  fused := Nat.le_refl _
  free := Nat.le_refl _
  out := List.suffix_refl _
  mem := rfl
  log := ⟨[{ time := s.frame, code := b, source := a, func := d, detail := c }],
    by rw [State.event_events, List.take_take, Nat.min_self]; rfl,
    fun _ => by rw [State.event_events, List.length_take]; omega, rfl, by simp⟩
  recon := .of_eq rfl rfl
  lostSeq := Nat.le_refl _
  lost := id
  regs := id
  kept := id
  entries := id

/-- Putting something on a bus is steady. -/
theorem Steady.emit_step (s : State) (o : Out) : Steady s (s.emit o) where
  pending := rfl
  frame := rfl
  board := rfl
  fused := Nat.le_refl _
  free := Nat.le_refl _
  out := List.suffix_cons _ _
  mem := rfl
  log := .of_eq rfl rfl
  recon := .of_eq rfl rfl
  lostSeq := Nat.le_refl _
  lost := id
  regs := id
  kept := id
  entries := id

/-- Using a free value is steady. -/
theorem Steady.freeNext_step (s : State) : Steady s s.freeNext where
  pending := rfl
  frame := rfl
  board := rfl
  fused := Nat.le_refl _
  free := Nat.le_succ _
  out := List.suffix_refl _
  mem := rfl
  log := .of_eq rfl rfl
  recon := .of_eq rfl rfl
  lostSeq := Nat.le_refl _
  lost := id
  regs := id
  kept := id
  entries := id

/-- A change of an engine entry is steady. -/
theorem Steady.setThi_step (s : State) (i : Nat) (e : ThiEnt) : Steady s (s.setThi i e) where
  pending := rfl
  frame := rfl
  board := rfl
  fused := Nat.le_refl _
  free := Nat.le_refl _
  out := List.suffix_refl _
  mem := rfl
  log := .of_eq rfl rfl
  recon := .of_eq rfl rfl
  lostSeq := Nat.le_refl _
  lost := id
  regs := id
  kept := id
  entries := fun h => Tbl.wf_set (α := ThiEnt) {} i e h

/-- Steady through a fold: each round is steady. -/
theorem Steady.foldl {β : Type} {g : State → β → State} (hg : ∀ s b, Steady s (g s b)) (l : List β) (s : State) : Steady s (l.foldl g s) := by
  induction l generalizing s with
  | nil => exact .refl s
  | cons b l ih => exact (hg s b).trans (ih _)

/-- Steady through a choice. -/
theorem Steady.ite {c : Prop} [Decidable c] {s t u : State} (h : Steady s t) (k : Steady s u) : Steady s (if c then t else u) := by
  split <;> assumption

/-! ### The invariant -/

/-- Whatever is steady keeps the invariant. -/
theorem Steady.inv {s t : State} (h : Steady s t) (i : s.Inv) : t.Inv := by
  obtain ⟨l, h1, hb, h2, h3⟩ := h.log
  obtain ⟨r, r1, r2, r3, r4⟩ := h.recon
  have hlog : s.events.length = min s.eventTotal 4096 := i.log
  have hlen : t.events.length ≤ 4096 := hb (by omega)
  have hev : t.events = (l ++ s.events).take 4096 := by rw [← h1, List.take_of_length_le hlen]
  have hl := h.lost ⟨i.lost, i.lostSeq⟩
  have hall : (l ++ s.events).Pairwise (fun e f => f.time ≤ e.time) := by
    rw [List.pairwise_append]
    refine ⟨?_, i.newest, fun a ha b hb => by have := i.now b hb; rw [h3 a ha]; exact this⟩
    exact List.pairwise_iff_forall_sublist.mpr (fun hab => by
      have := hab.subset; simp only [List.cons_subset, List.nil_subset, and_true] at this
      exact Nat.le_of_eq (by rw [h3 _ this.1, h3 _ this.2]))
  refine { mem := ?_, regs := h.regs i.regs, kept := h.kept i.kept, entries := h.entries i.entries, log := ?_, newest := ?_, now := ?_,
           recon := ?_, reconSeq := ?_, lost := hl.1, lostSeq := hl.2 }
  · have := i.mem; unfold State.MemCanonical at this ⊢; rw [h.mem]; exact this
  · unfold State.LogWithinBound; rw [hev, List.length_take, List.length_append, hlog, h2]; omega
  · rw [hev]; exact hall.sublist (List.take_sublist _ _)
  · intro e he
    rw [hev] at he
    rcases List.mem_append.mp (List.mem_of_mem_take he) with he | he
    · exact Nat.le_of_eq (by rw [h3 e he, h.frame])
    · rw [h.frame]; exact i.now e he
  · rw [r1, List.pairwise_append]
    exact ⟨i.recon, r2, fun a ha b hb => by have := i.reconSeq a ha; have := r3 b hb; omega⟩
  · intro q hq
    rw [r1] at hq
    rcases List.mem_append.mp hq with hq | hq
    · have := i.reconSeq q hq; omega
    · exact (r3 q hq).2

/-! ### The operations

Each says: what was steady up to here is steady after this operation. -/

variable {s t : State}

theorem Steady.wr (h : Steady s t) (r : Fld) (v i f : Nat) : Steady s (t.wr r v i f) := h.trans (.wr_step t r v i f)
theorem Steady.bump (h : Steady s t) (r : Fld) (n i f : Nat) : Steady s (t.bump r n i f) := h.wr r _ i f
theorem Steady.event (h : Steady s t) (a b c d : Nat) : Steady s (t.event a b c d) := h.trans (.event_step t a b c d)
theorem Steady.regEvent (h : Steady s t) (o f : Nat) : Steady s (t.regEvent o f) := h.event _ _ _ _
theorem Steady.emit (h : Steady s t) (o : Out) : Steady s (t.emit o) := h.trans (.emit_step t o)
theorem Steady.freeNext (h : Steady s t) : Steady s t.freeNext := h.trans (.freeNext_step t)
theorem Steady.setThi (h : Steady s t) (i : Nat) (e : ThiEnt) : Steady s (t.setThi i e) := h.trans (.setThi_step t i e)
theorem Steady.setHealth (h : Steady s t) (o v : Nat) : Steady s (t.setHealth o v) := h.update
theorem Steady.setEp (h : Steady s t) (f : Nat) (e : Ep) : Steady s (t.setEp f e) := h.update
theorem Steady.setRing (h : Steady s t) (f n : Nat) (r : Ring) : Steady s (t.setRing f n r) := h.update
theorem Steady.setCtx (h : Steady s t) (c : Nat) (x : Ctx) : Steady s (t.setCtx c x) := h.update
theorem Steady.setTag (h : Steady s t) (f n : Nat) (u : TagUse) : Steady s (t.setTag f n u) := h.update
theorem Steady.setVec (h : Steady s t) (f v : Nat) (m : Msix) : Steady s (t.setVec f v m) := h.update
theorem Steady.setWin (h : Steady s t) (n : Nat) (w : Win) : Steady s (t.setWin n w) := h.update
theorem Steady.setLun (h : Steady s t) (c l : Nat) (u : Lun) : Steady s (t.setLun c l u) := h.update
theorem Steady.setChn (h : Steady s t) (c : Nat) (x : Chn) : Steady s (t.setChn c x) := h.update
theorem Steady.setBlk (h : Steady s t) (a : Nat) (b : Blk) : Steady s (t.setBlk a b) := h.update
theorem Steady.setPage (h : Steady s t) (a : Nat) (p : PageImg) : Steady s (t.setPage a p) := h.update
theorem Steady.restartCoalesce (h : Steady s t) (f v : Nat) : Steady s (t.restartCoalesce f v) := h.update
theorem Steady.setFan (h : Steady s t) (f : Nat) (x : Fan) : Steady s (t.setFan f x) := h.update
theorem Steady.setSc (h : Steady s t) (n : Nat) (x : Sc) : Steady s (t.setSc n x) := h.update
theorem Steady.setBuf (h : Steady s t) (b : Nat) (x : Buf) : Steady s (t.setBuf b x) := h.update
theorem Steady.setPeer (h : Steady s t) (j : Nat) (p : Peer) : Steady s (t.setPeer j p) := h.update
theorem Steady.setGroup (h : Steady s t) (g : Group) : Steady s (t.setGroup g) := h.update
theorem Steady.setPwr (h : Steady s t) (p : Pwr) : Steady s (t.setPwr p) := h.update
theorem Steady.setSup (h : Steady s t) (p : Supply) : Steady s (t.setSup p) := h.update
theorem Steady.setBand (h : Steady s t) (b : Band) : Steady s (t.setBand b) := h.update
theorem Steady.freeCtx (h : Steady s t) (c : Nat) : Steady s (t.freeCtx c) := h.setCtx _ _
theorem Steady.count (h : Steady s t) (o b n : Nat) : Steady s (t.count o b n) := h.setHealth _ _

/-! A change of one field that Steady does not speak of. -/

theorem Steady.with_pairLow (h : Steady s t) (x : Tbl (Option Nat)) : Steady s { t with pairLow := x } := h.update
theorem Steady.with_pairHigh (h : Steady s t) (x : Tbl (Option Nat)) : Steady s { t with pairHigh := x } := h.update
theorem Steady.with_sup (h : Steady s t) (x : Supply) : Steady s { t with sup := x } := h.update
theorem Steady.with_boot (h : Steady s t) (x : Boot) : Steady s { t with boot := x } := h.update
theorem Steady.with_pairs (h : Steady s t) (x : Pairs) : Steady s { t with pairs := x } := h.update
theorem Steady.with_eps (h : Steady s t) (x : Tbl Ep) : Steady s { t with eps := x } := h.update
theorem Steady.with_msix (h : Steady s t) (x : Tbl Msix) : Steady s { t with msix := x } := h.update
theorem Steady.with_wins (h : Steady s t) (x : Tbl Win) : Steady s { t with wins := x } := h.update
theorem Steady.with_tags (h : Steady s t) (x : Tbl TagUse) : Steady s { t with tags := x } := h.update
theorem Steady.with_rings (h : Steady s t) (x : Tbl Ring) : Steady s { t with rings := x } := h.update
theorem Steady.with_ctxs (h : Steady s t) (x : Tbl Ctx) : Steady s { t with ctxs := x } := h.update
theorem Steady.with_health (h : Steady s t) (x : Tbl Nat) : Steady s { t with health := x } := h.update
theorem Steady.with_ftl (h : Steady s t) (x : Ftl) : Steady s { t with ftl := x } := h.update
theorem Steady.with_blks (h : Steady s t) (x : Tbl Blk) : Steady s { t with blks := x } := h.update
theorem Steady.with_pages (h : Steady s t) (x : Tbl PageImg) : Steady s { t with pages := x } := h.update
theorem Steady.with_bands (h : Steady s t) (x : List Band) : Steady s { t with bands := x } := h.update
theorem Steady.with_chns (h : Steady s t) (x : Tbl Chn) : Steady s { t with chns := x } := h.update
theorem Steady.with_luns (h : Steady s t) (x : Tbl Lun) : Steady s { t with luns := x } := h.update
theorem Steady.with_pwr (h : Steady s t) (x : Pwr) : Steady s { t with pwr := x } := h.update
theorem Steady.with_sensors (h : Steady s t) (x : Tbl Sensor) : Steady s { t with sensors := x } := h.update
theorem Steady.with_thermal (h : Steady s t) (x : Thermal) : Steady s { t with thermal := x } := h.update
theorem Steady.with_fans (h : Steady s t) (x : Tbl Fan) : Steady s { t with fans := x } := h.update
theorem Steady.with_sideband (h : Steady s t) (x : Sideband) : Steady s { t with sideband := x } := h.update
theorem Steady.with_dram (h : Steady s t) (x : Dram) : Steady s { t with dram := x } := h.update
theorem Steady.with_scs (h : Steady s t) (x : Tbl Sc) : Steady s { t with scs := x } := h.update
theorem Steady.with_pool (h : Steady s t) (x : Pool) : Steady s { t with pool := x } := h.update
theorem Steady.with_sec (h : Steady s t) (x : Sec) : Steady s { t with sec := x } := h.update
theorem Steady.with_decs (h : Steady s t) (x : List Dec) : Steady s { t with decs := x } := h.update
theorem Steady.with_patrol (h : Steady s t) (x : Patrol) : Steady s { t with patrol := x } := h.update
theorem Steady.with_ucode (h : Steady s t) (x : Ucode) : Steady s { t with ucode := x } := h.update
theorem Steady.with_sched (h : Steady s t) (x : Sched) : Steady s { t with sched := x } := h.update
theorem Steady.with_group (h : Steady s t) (x : Group) : Steady s { t with group := x } := h.update

/-! ### Interrupts, completion entries and asynchronous events -/

theorem Steady.signal (h : Steady s t) (f v : Nat) : Steady s (t.signal f v) := by
  unfold State.signal
  exact .ite (((h.setVec _ _ _).emit _).restartCoalesce _ _) ((h.setVec _ _ _).restartCoalesce _ _)

theorem Steady.putCqe (h : Steady s t) (f n a b c d : Nat) : Steady s (t.putCqe f n a b c d) := (h.setRing _ _ _).emit _

theorem Steady.postAsync (h : Steady s t) (f k info : Nat) : Steady s (t.postAsync f k info) := by
  unfold State.postAsync
  exact .ite ((((h.wr _ _ _ _).setEp _ _).putCqe _ _ _ _ _ _).signal _ _) (.ite (h.setEp _ _) h)

theorem Steady.pmeWake (h : Steady s t) (f k : Nat) : Steady s (t.pmeWake f k) := by
  unfold State.pmeWake
  split
  · exact .ite (.ite ((h.setEp _ _).emit _) ((h.setEp _ _).emit _)) h
  · exact h

theorem Steady.async (h : Steady s t) (f k info : Nat) : Steady s (t.async f k info) := by
  unfold State.async
  exact .ite ((h.setEp _ _).pmeWake _ _) (h.postAsync _ _ _)

theorem Steady.fold {β : Type} {g : State → β → State} (h : Steady s t) (hg : ∀ s b, Steady s (g s b)) (l : List β) :
    Steady s (l.foldl g t) := h.trans (Steady.foldl hg l t)

theorem Steady.asyncAll (h : Steady s t) (k info : Nat) : Steady s (t.asyncAll k info) :=
  h.fold (fun s f => (Steady.refl s).async f k info) _

theorem Steady.partFail (h : Steady s t) : Steady s t.partFail := h.asyncAll _ _

end Sys2Proof.Machine
end

