-- ==== Sys2Proof/Laws/Shared.lean ====
section
/-! SUPPORT. The operations that several families share, each shown steady once: wakes, the engine, the pool, the DRAM controller, sessions,
the journal and the ceiling. A proof about a command cites these and unfolds none of them. -/

set_option Elab.async false

namespace Sys2Proof.Machine

variable {s t : State}

/-! ### Thitralen -/

theorem Steady.thiOps (h : Steady s t) (n : Nat) : Steady s (t.thiOps n) := h.bump _ _ _ _

theorem Steady.thiRefuse (h : Steady s t) (k : Nat) (near : Bool) : Steady s (t.thiRefuse k near) := (h.bump _ _ _ _).event _ _ _ _

theorem Steady.thiRefresh (h : Steady s t) (k : Nat) : Steady s (t.thiRefresh k) := by
  unfold State.thiRefresh
  exact .ite (((((h.wr _ _ _ _).wr _ _ _ _).wr _ _ _ _).wr _ _ _ _).event _ _ _ _) ((((h.wr _ _ _ _).wr _ _ _ _).wr _ _ _ _).wr _ _ _ _)

theorem Steady.thiSearch (h : Steady s t) (k key mask start : Nat) : Steady s (t.thiSearch k key mask start).2 := by
  unfold State.thiSearch
  cases thiWinner (t.thiMatches k key mask start) with
  | none => exact h.thiOps _
  | some w => exact .ite ((h.thiOps _).bump _ _ _ _) (h.thiOps _)

theorem Steady.thiSearchAdd (h : Steady s t) (k key mask start f : Nat) (d : Int) : Steady s (t.thiSearchAdd k key mask start f d).2 := by
  unfold State.thiSearchAdd
  cases thiWinner (t.thiMatches k key mask start) with
  | none => exact h.thiOps _
  | some w => exact .ite (((h.thiOps _).setThi _ _).bump _ _ _ _) ((h.thiOps _).setThi _ _)

theorem Steady.thiInsertAny (h : Steady s t) (k key care prio data : Nat) (u : Bool) (f : Nat) (a : Int) :
    Steady s (t.thiInsertAny k key care prio data u f a).2 := by
  unfold State.thiInsertAny
  dsimp only
  split
  · exact (h.thiOps _).setThi _ _
  · split
    · exact (h.thiOps _).thiRefuse _ _
    · exact ((h.thiOps _).setThi _ _).thiRefresh _

theorem Steady.thiShift (h : Steady s t) (w x n hole : Nat) : Steady s (State.thiShift t w x n hole) := by
  induction n generalizing t hole with
  | zero => exact h
  | succ n ih =>
    unfold State.thiShift
    split
    · exact h
    · exact ih ((h.setThi _ _).setThi _ _) _

theorem Steady.thiDelete (h : Steady s t) (k i : Nat) : Steady s (t.thiDelete k i).2 := by
  unfold State.thiDelete
  split
  · exact ((h.thiOps _).setThi _ _).thiRefresh _
  · exact h.thiOps _

theorem Steady.thiDeleteMatch (h : Steady s t) (k key mask : Nat) : Steady s (t.thiDeleteMatch k key mask).2 :=
  ((h.thiOps _).fold (g := fun s (e : Nat × ThiEnt) => s.setThi e.1 { e.2 with valid := false }) (fun _ _ => (Steady.refl _).setThi _ _) _).thiRefresh _

theorem Steady.thiWriteData (h : Steady s t) (k i d m : Nat) : Steady s (t.thiWriteData k i d m).2 := by
  unfold State.thiWriteData
  split
  · exact (h.thiOps _).setThi _ _
  · exact h.thiOps _

theorem Steady.thiCompact (h : Steady s t) (k : Nat) : Steady s (t.thiCompact k) := by
  unfold State.thiCompact
  split
  · split
    · split
      · exact (((h.thiOps _).setThi _ _).setThi _ _).thiRefresh _
      · exact h
    · exact h
  · exact h

/-! ### Wakes (R534, R535) -/

theorem Steady.railWrite (h : Steady s t) (r v : Nat) : Steady s (t.railWrite r v) :=
  (((h.setPwr _).wr _ _ _ _).wr _ _ _ _).emit _

theorem Steady.railsTo (h : Steady s t) (n : Nat) (b : Bool) : Steady s (t.railsTo n b) := by
  unfold State.railsTo State.railsGo
  exact ((h.setPwr _).setPwr _).fold (fun _ _ => (Steady.refl _).railWrite _ _) _

theorem Steady.startExit (h : Steady s t) (d : Nat) : Steady s (t.startExit d) := ((h.wr _ _ _ _).setPwr _).railsTo _ _

theorem Steady.latchWake (h : Steady s t) (r : Fld) : Steady s (t.latchWake r) := by
  unfold State.latchWake
  exact .ite (h.setPwr _) (.ite (.ite ((h.setPwr _).wr _ _ _ _) (((h.setPwr _).wr _ _ _ _).startExit _)) ((h.setPwr _).wr _ _ _ _))

theorem Steady.wakeTlp (h : Steady s t) (f : Nat) : Steady s (t.wakeTlp f) := h.latchWake _

/-! ### The buffer pool (R469) -/

theorem Steady.backpressure (h : Steady s t) : Steady s t.backpressure := by
  unfold State.backpressure
  refine .ite (.event ?_ _ _ _ _) ?_ <;> exact ((((h.wr _ _ _ _).wr _ _ _ _).wr _ _ _ _).wr _ _ _ _).with_pool _

/-! ### The DRAM controller (R444, R445, R452) -/

theorem Steady.setPoison (h : Steady s t) (n line : Nat) (p : Bool) : Steady s (t.setPoison n line p) := by
  unfold State.setPoison
  split
  · exact (h.wr _ _ _ _).update
  · exact h

theorem Steady.scFail (h : Steady s t) (n c : Nat) : Steady s (t.scFail n c) := by
  unfold State.scFail
  split
  · exact h
  · refine Steady.partFail (Steady.event (Steady.with_dram (.ite (.wr ?_ _ _ _ _) ?_) _) _ _ _ _)
    all_goals exact (((h.wr _ _ _ _).wr _ _ _ _).wr _ _ _ _).setHealth _ _

theorem Steady.remap (h : Steady s t) (n line : Nat) (p : Bool) : Steady s (t.remap n line p) := by
  unfold State.remap
  split
  · exact h.setPoison _ _ _
  · split
    · exact (h.event _ _ _ _).scFail _ _
    · exact (((((h.wr _ _ _ _).wr _ _ _ _).wr _ _ _ _).bump _ _ _ _).event _ _ _ _).update

/-! ### Sessions (R383, R384) -/

theorem Steady.setSession (h : Steady s t) (j v : Nat) : Steady s (t.setSession j v) := (h.wr _ _ _ _).wr _ _ _ _

theorem Steady.dropSession (h : Steady s t) (j c : Nat) : Steady s (t.dropSession j c) := ((h.setSession _ _).setPeer _ _).event _ _ _ _

theorem Steady.sendMsg (h : Steady s t) (j k : Nat) (l : List Nat) : Steady s (t.sendMsg j k l) := by
  unfold State.sendMsg
  exact .ite ((h.setPeer _ _).emit _) h

theorem Steady.take (h : Steady s t) {j : Nat} {x : Hdr} {u : State} (e : t.take j x = some u) : Steady s u := by
  unfold State.take at e
  split at e
  · cases e
  split at e
  · cases e; exact h.dropSession _ _
  split at e
  · cases e; exact h.dropSession _ _
  dsimp only at e
  split at e
  · cases e; exact (h.setPeer _ _).sendMsg _ _ _
  · cases e; exact h.setPeer _ _

/-! ### The journal, the ceiling and the contexts -/

theorem Steady.record (h : Steady s t) (r : Rec) : Steady s (t.record r) := h.update

theorem Steady.ledger (h : Steady s t) (p : PStripe) (a b c : Nat) : Steady s (t.ledger p a b c) := by
  unfold State.ledger
  exact .ite (h.record _) h

theorem Steady.mapVersions (h : Steady s t) (g : Version → Version) : Steady s (t.mapVersions g) := h.update

theorem Steady.refreshCeiling (h : Steady s t) : Steady s t.refreshCeiling := by
  unfold State.refreshCeiling
  refine .ite (.event ?_ _ _ _ _) ?_ <;> exact ((((h.wr _ _ _ _).wr _ _ _ _).wr _ _ _ _).setHealth _ _).with_ftl _

theorem Steady.endCtx (h : Steady s t) (c st : Nat) : Steady s (t.endCtx c st) := h.setCtx _ _

theorem Steady.commitAdmin (h : Steady s t) (c r : Nat) : Steady s (t.commitAdmin c r) := h.setCtx _ _

end Sys2Proof.Machine
end

