-- ==== Sys2Proof/WellFormed.lean ====
section
/-! DEFINITION. Which commands the wires can carry: every operand fits the field its rule gives it. The meanings are total and
answer for any operand; no command of a well-formed stream lies outside these bounds. -/

set_option Elab.async false

namespace Sys2Proof

/-- The bytes of BAR0 (R119). -/
def bar0Size : Nat := 0x400000

/-- A session header's fields and whole slots, at most 4,096 bytes (R384). -/
def Hdr.wf (h : Hdr) : Bool :=
  decide (h.seq < 2 ^ 32 ∧ h.view < 2 ^ 32 ∧ h.ack < 2 ^ 32 ∧ h.epoch < 2 ^ 32 ∧ h.size % 64 = 0 ∧ 64 ≤ h.size ∧ h.size ≤ 4096)

/-- A view's fields: a 24-bit member mask (R387). -/
def View.wf (v : View) : Bool :=
  decide (v.number < 2 ^ 32 ∧ v.round < 2 ^ 32 ∧ v.members < 2 ^ 24 ∧ v.steward < 256 ∧ v.deputy < 256)

/-- A beacon's fields (R381). -/
def Beacon.wf (b : Beacon) : Bool :=
  decide (b.group < 2 ^ 16 ∧ b.member < 256 ∧ b.incarnation < 2 ^ 32 ∧ b.ctr < 2 ^ 64 ∧ b.base < 2 ^ 64 ∧ b.reqId < 2 ^ 16
    ∧ b.log2 < 256 ∧ b.view < 2 ^ 32)

/-- A granule header's fields (R398). -/
def GHead.wf (h : GHead) : Bool :=
  decide (h.lba < 2 ^ 48 ∧ h.inc < 2 ^ 32 ∧ h.ivFixed < 2 ^ 32 ∧ h.osn < 2 ^ 64 ∧ h.ivCtr < 2 ^ 64)

/-- A CONTRIB entry's fields (R414). -/
def Entry.wf (e : Entry) : Bool := decide (e.off < 2 ^ 16 ∧ e.stage < 2 ^ 32) && e.head.wf

/-- A descriptor's or page address's fields (R162, R163). -/
def Piece.wf (p : Piece) : Bool := decide (p.addr < 2 ^ 64 ∧ p.len < 2 ^ 32 ∧ p.kind < 256 ∧ p.rsvd < 2 ^ 24)

/-- A list completion carries at most 4,096 bytes: 512 page addresses or 256 descriptors (R162, R163). -/
def Cpl.wf : Cpl → Bool
  | .data _ | .unsupported | .abort | .poisoned => true
  | .list l => decide (l.length ≤ 512) && l.all Piece.wf

/-- What arrived passes the test. -/
def Moved.wf {α : Type} (p : α → Bool) : Moved α → Bool
  | .data a => p a
  | .failed | .badList => true

/-- A TLP to BAR4 carries 1 to 4,096 bytes and crosses no 4 KiB boundary (R126). -/
def tlpWf (off n : Nat) : Bool := decide (1 ≤ n ∧ off % 4096 + n ≤ 4096)

/-- A word, or a pair of words, of BAR0 naturally aligned (R10). -/
def wordWf (off : Nat) (high : Option Word) : Bool := decide (off % (if high.isSome then 8 else 4) = 0 ∧ off < bar0Size)

/-- An access that is not a naturally aligned word or pair (R10). -/
def malformedWf (off n : Nat) : Bool := decide (1 ≤ n ∧ off < bar0Size ∧ ¬ (n = 4 ∧ off % 4 = 0) ∧ ¬ (n = 8 ∧ off % 8 = 0))

/-- An error of a line read: a codeword of the line's eight, one of its ten components, and what it exclusive-ors in (R438, R440). -/
def errWf (e : Nat × Nat × Nat) : Bool := decide (e.1 < 8 ∧ e.2.1 < 10 ∧ e.2.2 < 256)

/-- A lane count up to x16 (R113). -/
def widthWf (n : Nat) : Bool := n == 1 || n == 2 || n == 4 || n == 8 || n == 16

/-- What a frame brings: channel numbers, sub-channels and page addresses within their ranges (R248, R254, R427). -/
def FrameIn.wf (i : FrameIn) : Bool :=
  i.dramBad.all (fun n => decide (n < 8)) && i.sweeps.all (fun n => decide (n < 8)) && i.trained.all (fun n => decide (n < 64))
    && i.caps.all (fun e => decide (e.1 < 2048) && e.2.all (fun b => decide (b < 256)))
    && i.mismatch.all (fun e => decide (e.1 < 2 ^ 40)) && decide (i.missRate ≤ 1000)

/-- The IUs of a plan input lie below 2^46: an LBA has 48 bits and an IU four blocks (R340). -/
def PlanIn.wf (i : PlanIn) : Bool := i.lost.all (fun n => decide (n < 2 ^ 46))

/-- The command's operands fit their fields (DESIGN CHOICE: log entry 7). -/
def Instr.wf : Instr → Bool
  | .vinRise _ => true
  | .powerGood => true
  | .powerGoodTimeout => true
  | .railSequenceRetry => true
  | .brownOut _ => true
  | .overvoltage _ => true
  | .bankSwitchover => true
  | .drainEnd => true
  | .vbankCutoff _ => true
  | .bleedDischargeEnd _ => true
  | .vbankOvervoltage _ => true
  | .vbankOvRecover _ => true
  | .chargeTargetReached _ => true
  | .capMeasHourly => true
  | .vbankDropDetected _ => true
  | .measNow => true
  | .measBleedClose => true
  | .measBleedOpen _ => true
  | .measCountStart _ => true
  | .measComplete _ => true
  | .perstAssert _ => true
  | .perstDeassert _ => true
  | .hotReset _ => true
  | .linkDown _ => true
  | .flr _ => true
  | .resetEnd _ => true
  | .watchdogRestart => true
  | .coldReq _ _ => true
  | .lockstepMismatch _ => true
  | .lockstepTakeoverDone => true
  | .channelEngineStall _ _ => true
  | .channelRestart _ _ => true
  | .coreDiodeSample _ _ => true
  | .boardSensorSample _ _ => true
  | .tripCooldown _ => true
  | .orderlyStopComplete => true
  | .orderlyStopEnd => true
  | .bootCodeLoaded => true
  | .firmwareSlotCheck _ _ => true
  | .rootKeyDerivation _ _ => true
  | .hostInterfaceStart => true
  | .journalReplay => true
  | .bloomEntry => true
  | .pourEntry => true
  | .bloomBoundMissed => true
  | .configRequest _ _ _ _ _ _ => true
  | .pmcsrWrite _ _ => true
  | .bar4Write _ _ off bytes => tlpWf off bytes.length
  | .bar4Read _ _ off len => tlpWf off len
  | .bar0MalformedAccess _ _ _ off len => malformedWf off len
  | .registerWrite _ off _ high => wordWf off high
  | .lowRegisterRead _ off => decide (off % 4 = 0 ∧ off < bar0Size)
  | .msixUnmask _ _ => true
  | .coalesceTimer _ _ => true
  | .sqTailDoorbell _ _ _ => true
  | .cqHeadDoorbell _ _ _ => true
  | .completionTlp _ _ cpl => cpl.wf
  | .completionTimeout _ _ => true
  | .tagQuarantineEnd _ _ => true
  | .dllAck _ => true
  | .clkreqAssert _ => true
  | .electricalIdleExit _ => true
  | .aspmL1Entry _ => true
  | .pmeTurnOff _ => true
  | .windowCommit _ => true
  | .epochRetire => true
  | .adminEnable _ => true
  | .adminDisable _ => true
  | .fetchIssue _ => true
  | .fetchComplete _ _ packets => decide (packets.length ≤ 8)
  | .hostRead _ _ => true
  | .hostWrite _ _ => true
  | .flush _ => true
  | .trim _ => true
  | .writeZeroes _ => true
  | .verify _ _ => true
  | .identify _ => true
  | .getLog _ => true
  | .setFeature _ => true
  | .getFeature _ => true
  | .ringCreate _ => true
  | .ringDelete _ => true
  | .ringReset _ => true
  | .powerState _ => true
  | .fwDownload _ image => image.wf (fun l => decide (l.length ≤ 256))
  | .fwActivate _ _ => true
  | .keyLoad _ _ _ _ => true
  | .keyRoll _ => true
  | .keyPurge _ => true
  | .groupJoin _ _ _ => true
  | .groupLeave _ => true
  | .groupStatus _ => true
  | .rawRead _ _ => true
  | .rawProgram _ pages _ => pages.wf (fun l => l.all (fun p => decide (p.length ≤ 4)))
  | .rawErase _ _ => true
  | .ucodeLoad _ _ _ => true
  | .diagEcho _ => true
  | .diagDmaLoop _ data => data.wf (fun l => decide (l.length ≤ 256))
  | .mirrorWriteDone _ _ => true
  | .journalBatchDurable => true
  | .groupWaitExpiry _ => true
  | .completionWrite _ => true
  | .readSnapshot _ => true
  | .readDataDone _ => true
  | .flushComplete _ => true
  | .rangeApply _ => true
  | .frameBoundary inp => inp.wf
  | .planCutoff inp => inp.wf
  | .carriedLoadSuspend => true
  | .domainClockGate _ => true
  | .domainPowerGate _ => true
  | .channelInitDone _ ids _ _ => ids.all (fun i => match i with | some n => decide (n < 2 ^ 48) | none => true)
  | .zqShortCal _ _ => true
  | .channelRetrainStart _ => true
  | .channelRetrainDone _ => true
  | .busPhaseStop _ _ => true
  | .lunReady _ _ bytes => bytes.all (fun b => decide (b < 256))
  | .timedWaitEnd _ _ => true
  | .suspendIssue _ _ => true
  | .suspendHoldExpiry _ _ => true
  | .resumeIssue _ _ => true
  | .ucodeStoreSwap => true
  | .ucodeTablesActive => true
  | .hardDecodeDone page _ _ => decide (page < 2 ^ 40)
  | .softDecodeDone page _ _ => decide (page < 2 ^ 40)
  | .rowRebuildDone page _ _ => decide (page < 2 ^ 40)
  | .nandTempRead _ _ _ => true
  | .checkpointAdvance => true
  | .journalUrgent => true
  | .journalFull => true
  | .freeBandStateChange => true
  | .gcEraseStart block => decide (block < 2 ^ 40)
  | .wearLevelStart => true
  | .gradeRecompute => true
  | .beaconSend => true
  | .beaconReceived _ beacon => beacon.wf
  | .hello _ na incarnation _ => decide (na < 2 ^ 128 ∧ incarnation < 2 ^ 32)
  | .challenge _ nb echo incarnation _ => decide (nb < 2 ^ 128 ∧ echo < 2 ^ 128 ∧ incarnation < 2 ^ 32)
  | .confirm _ echo _ => decide (echo < 2 ^ 128)
  | .handshakeTimeout _ => true
  | .handshakeRetry _ => true
  | .peerAbsent _ => true
  | .heartbeatSend => true
  | .heartbeat _ hdr steward incarnation state view => hdr.wf && decide (steward < 2 ^ 32 ∧ incarnation < 2 ^ 32 ∧ state < 256) && view.wf
  | .viewPropose _ hdr view => hdr.wf && view.wf
  | .viewAck _ hdr view earlier => hdr.wf && view.wf && (match earlier with | some v => v.wf | none => true)
  | .viewCommit _ hdr view => hdr.wf && view.wf
  | .leaveRequest _ hdr => hdr.wf
  | .grantExpiry => true
  | .proposalRetry => true
  | .stewardLeaseExpiry => true
  | .isolationTimeout => true
  | .stripeOpenIssue => true
  | .stripeOpen _ hdr stripe k p q vacant view => hdr.wf && decide (stripe < 2 ^ 64 ∧ k < 256 ∧ p < 256 ∧ q < 256 ∧ vacant < 2 ^ 32 ∧ view < 2 ^ 32)
  | .contrib _ hdr stripe slot flags plan entries => hdr.wf && decide (stripe < 2 ^ 64 ∧ slot < 256 ∧ flags < 256 ∧ plan < 2 ^ 32 ∧ 1 ≤ entries.length ∧ entries.length ≤ 60) && entries.all Entry.wf
  | .contribAck _ hdr stripe cseq role status => hdr.wf && decide (stripe < 2 ^ 64 ∧ cseq < 2 ^ 32 ∧ role < 256 ∧ status < 256)
  | .rangeNote _ hdr stripe slba nblk _ incarnation osn => hdr.wf && decide (stripe < 2 ^ 64 ∧ slba < 2 ^ 64 ∧ nblk < 2 ^ 32 ∧ incarnation < 2 ^ 32 ∧ osn < 2 ^ 64)
  | .segClose _ hdr stripe slot granules => hdr.wf && decide (stripe < 2 ^ 64 ∧ slot < 256 ∧ granules < 2 ^ 16)
  | .sealWaitExpiry stripe => decide (stripe < 2 ^ 64)
  | .stripeState _ hdr stripe state erased => hdr.wf && decide (stripe < 2 ^ 64 ∧ state < 256 ∧ erased < 2 ^ 32)
  | .rebuildPlan _ hdr plan view stripe erased first => hdr.wf && decide (plan < 2 ^ 32 ∧ view < 2 ^ 32 ∧ stripe < 2 ^ 64 ∧ erased < 2 ^ 32 ∧ first < 2 ^ 16)
  | .chunkDone _ hdr plan stripe chunk status unsolved => hdr.wf && decide (plan < 2 ^ 32 ∧ stripe < 2 ^ 64 ∧ chunk < 2 ^ 16 ∧ status < 256 ∧ unsolved < 256)
  | .checkpoint _ hdr plan stripe next erased => hdr.wf && decide (plan < 2 ^ 32 ∧ stripe < 2 ^ 64 ∧ next < 2 ^ 16 ∧ erased < 2 ^ 32)
  | .checkpointTimer => true
  | .ledgerSync _ hdr stripe slot first states => hdr.wf && decide (stripe < 2 ^ 64 ∧ slot < 256 ∧ first < 2 ^ 16 ∧ states.length < 2 ^ 16) && states.all (fun n => decide (n < 256))
  | .outerRead _ hdr stripe slot first count => hdr.wf && decide (stripe < 2 ^ 64 ∧ slot < 256 ∧ first < 2 ^ 16 ∧ count < 2 ^ 16)
  | .patrolRequest _ hdr stripe chunk count => hdr.wf && decide (stripe < 2 ^ 64 ∧ chunk < 2 ^ 16 ∧ count < 256)
  | .patrolReply _ hdr stripe chunk count slot status digests => hdr.wf && decide (stripe < 2 ^ 64 ∧ chunk < 2 ^ 16 ∧ count < 256 ∧ slot < 256 ∧ status < 256) && digests.all (fun n => decide (n < 2 ^ 128))
  | .patrolReplyTimeout => true
  | .dramTrainingAdopted _ => true
  | .marginCheckStart => true
  | .dramRefresh _ => true
  | .rowIdleClose _ _ => true
  | .requestAgePromotion _ _ _ _ => true
  | .dramLineRead _ _ errs => errs.all errWf
  | .partialLineWrite _ _ _ _ errs => errs.all errWf
  | .scrubRewrite _ => true
  | .bufferAllocate _ _ => true
  | .bufferShare _ _ => true
  | .bufferRelease _ => true
  | .thiSearch _ _ _ _ => true
  | .searchAdd _ _ _ _ _ _ => true
  | .insertAny _ _ _ _ _ _ _ _ => true
  | .insertOrdered _ _ _ _ _ _ => true
  | .thiDelete _ _ => true
  | .deleteMatch _ _ _ => true
  | .writeData _ _ _ _ => true
  | .thiRead _ => true
  | .compactionStep _ => true
  | .thiRdAddr _ _ => true
  | .keySweepEnd => true
  | .keyPurgeComplete => true
  | .debugChallenge => true
  | .debugSubmit _ => true
  | .bootStoreWriteDone => true
  | .activationDrainEnd => true
  | .firmwareResume => true
  | .lockAll => true
  | .rawEn _ _ _ => true
  | .idleDetected => true
  | .prepareEnd => true
  | .domainAnswer _ => true
  | .askTimeout => true
  | .quiesceEnd => true
  | .railAck _ _ => true
  | .railTimeout _ => true
  | .railRaiseRetry _ => true
  | .powerCommit => true
  | .commitWakeSample => true
  | .exitComplete => true
  | .entryRetry => true
  | .bemfCrossing _ _ _ _ => true
  | .missedCrossing _ => true
  | .probeWindowEnd _ => true
  | .brakeReleaseMeasure _ _ => true
  | .peakLimitTrip _ _ => true
  | .rampEnd _ => true
  | .locateTimeout _ => true
  | .runSecond _ => true
  | .coastTimeout _ => true
  | .settleTimeout _ => true
  | .settleBrake _ => true
  | .keMeasurement _ _ => true
  | .fanRetry _ _ => true
  | .smbusBlockRead _ => true
  | .smbusRefused => true
  | .smbusTimeout => true
  | .sidebandRefresh => true
  | .linkUp _ _ width _ => widthWf width
  | .l0pWidthChange _ width => widthWf width
  | .pouloSupplyLost _ => true
  | .padMessage _ hdr => hdr.wf

end Sys2Proof
end

