-- ==== Sys2Proof/Tests/Slice0.lean ====
section
/-! SUPPORT. Tests: each check of WellFormed refuses an ill-formed term; results of the manual's worked examples; and, for every statement with
hypotheses, a state and operands that meet them, clause by clause (test_<statement>_premises). -/

set_option Elab.async false

open Sys2Proof Sys2Proof.Machine

namespace Sys2Proof.Tests

/-! ### Well-formedness: each check refuses an ill-formed term and accepts the one it is made from -/

/-- A header in bounds. -/
def hdr0 : Hdr := { seq := 5, view := 3, ack := 4, epoch := 6, size := 128, tagOk := true }
/-- A view in bounds. -/
def view0 : View := { number := 4, round := 2, members := 15, steward := 2, deputy := 3 }
/-- A beacon in bounds. -/
def beacon0 : Beacon :=
  { group := 7, member := 1, incarnation := 4, ctr := 11, base := 2 ^ 41, reqId := 0x201, log2 := 30, view := 3, tagOk := true }

theorem test_wf_hdr : hdr0.wf = true ∧ { hdr0 with size := 100 }.wf = false ∧ { hdr0 with size := 0 }.wf = false
    ∧ { hdr0 with size := 4160 }.wf = false ∧ { hdr0 with seq := 2 ^ 32 }.wf = false ∧ { hdr0 with view := 2 ^ 32 }.wf = false
    ∧ { hdr0 with ack := 2 ^ 32 }.wf = false ∧ { hdr0 with epoch := 2 ^ 32 }.wf = false := by decide +kernel

theorem test_wf_view : view0.wf = true ∧ { view0 with members := 2 ^ 24 }.wf = false ∧ { view0 with number := 2 ^ 32 }.wf = false
    ∧ { view0 with round := 2 ^ 32 }.wf = false ∧ { view0 with steward := 256 }.wf = false ∧ { view0 with deputy := 256 }.wf = false := by decide +kernel

theorem test_wf_beacon : beacon0.wf = true ∧ { beacon0 with group := 2 ^ 16 }.wf = false ∧ { beacon0 with member := 256 }.wf = false
    ∧ { beacon0 with incarnation := 2 ^ 32 }.wf = false ∧ { beacon0 with ctr := 2 ^ 64 }.wf = false ∧ { beacon0 with base := 2 ^ 64 }.wf = false
    ∧ { beacon0 with reqId := 2 ^ 16 }.wf = false ∧ { beacon0 with log2 := 256 }.wf = false ∧ { beacon0 with view := 2 ^ 32 }.wf = false := by decide +kernel

theorem test_wf_granule : ({} : GHead).wf = true ∧ ({ lba := 2 ^ 48 } : GHead).wf = false ∧ ({ inc := 2 ^ 32 } : GHead).wf = false
    ∧ ({ ivFixed := 2 ^ 32 } : GHead).wf = false ∧ ({ osn := 2 ^ 64 } : GHead).wf = false ∧ ({ ivCtr := 2 ^ 64 } : GHead).wf = false
    ∧ ({ off := 1 } : Entry).wf = true ∧ ({ off := 2 ^ 16 } : Entry).wf = false ∧ ({ off := 1, stage := 2 ^ 32 } : Entry).wf = false
    ∧ ({ off := 1, head := { lba := 2 ^ 48 } } : Entry).wf = false := by decide +kernel

theorem test_wf_piece : ({ addr := 4096 } : Piece).wf = true ∧ ({ addr := 2 ^ 64 } : Piece).wf = false ∧ ({ addr := 0, len := 2 ^ 32 } : Piece).wf = false
    ∧ ({ addr := 0, kind := 256 } : Piece).wf = false ∧ ({ addr := 0, rsvd := 2 ^ 24 } : Piece).wf = false
    ∧ (Cpl.list [{ addr := 4096 }]).wf = true ∧ (Cpl.list [{ addr := 2 ^ 64 }]).wf = false
    ∧ (Cpl.list (List.replicate 513 { addr := 0 })).wf = false := by decide +kernel

theorem test_wf_accesses : (Instr.bar4Write 0 0 4090 [1, 2, 3, 4, 5, 6]).wf = true ∧ (Instr.bar4Write 0 0 4090 [1, 2, 3, 4, 5, 6, 7]).wf = false
    ∧ (Instr.bar4Write 0 0 0 []).wf = false ∧ (Instr.bar4Read 0 0 1 4096).wf = false ∧ (Instr.bar4Read 0 0 0 4096).wf = true
    ∧ (Instr.registerWrite 0 2 0 none).wf = false ∧ (Instr.registerWrite 0 4 0 (some 0)).wf = false ∧ (Instr.registerWrite 0 8 0 (some 0)).wf = true
    ∧ (Instr.registerWrite 0 0x400000 0 none).wf = false ∧ (Instr.lowRegisterRead 0 6).wf = false ∧ (Instr.lowRegisterRead 0 0x400000).wf = false
    ∧ (Instr.bar0MalformedAccess 0 false true 4 4).wf = false ∧ (Instr.bar0MalformedAccess 0 false true 8 8).wf = false
    ∧ (Instr.bar0MalformedAccess 0 false true 4 0).wf = false ∧ (Instr.bar0MalformedAccess 0 false true 4 8).wf = true
    ∧ (Instr.bar0MalformedAccess 0 false true 0x400000 1).wf = false := by decide +kernel

theorem test_wf_inputs : (Instr.frameBoundary { vbank := 54000, sweeps := [7] }).wf = true ∧ (Instr.frameBoundary { vbank := 0, sweeps := [8] }).wf = false
    ∧ (Instr.frameBoundary { vbank := 0, dramBad := [8] }).wf = false ∧ (Instr.frameBoundary { vbank := 0, trained := [64] }).wf = false
    ∧ (Instr.frameBoundary { vbank := 0, caps := [(2048, [])] }).wf = false ∧ (Instr.frameBoundary { vbank := 0, caps := [(0, [256])] }).wf = false
    ∧ (Instr.frameBoundary { vbank := 0, mismatch := [(2 ^ 40, true)] }).wf = false ∧ (Instr.frameBoundary { vbank := 0, missRate := 1001 }).wf = false
    ∧ (Instr.planCutoff { lost := [2 ^ 46] }).wf = false ∧ (Instr.planCutoff {}).wf = true := by decide +kernel

theorem test_wf_media : (Instr.hardDecodeDone (2 ^ 40) 0 .erased).wf = false ∧ (Instr.softDecodeDone (2 ^ 40) 0 true).wf = false
    ∧ (Instr.rowRebuildDone (2 ^ 40) 0 true).wf = false ∧ (Instr.hardDecodeDone 0 0 .erased).wf = true ∧ (Instr.gcEraseStart (2 ^ 40)).wf = false
    ∧ (Instr.lunReady 0 0 [256]).wf = false ∧ (Instr.channelInitDone 0 [some (2 ^ 48)] 0 0).wf = false
    ∧ (Instr.dramLineRead 0 0 [(7, 9, 255)]).wf = true ∧ (Instr.dramLineRead 0 0 [(8, 0, 1)]).wf = false ∧ (Instr.dramLineRead 0 0 [(0, 10, 1)]).wf = false
    ∧ (Instr.partialLineWrite 0 0 0 0 [(0, 0, 256)]).wf = false := by decide +kernel

theorem test_wf_commands : (Instr.fetchComplete 0 0 (List.replicate 9 0)).wf = false ∧ (Instr.fetchComplete 0 0 (List.replicate 8 0)).wf = true
    ∧ (Instr.linkUp 0 0 3 false).wf = false ∧ (Instr.linkUp 0 0 16 false).wf = true ∧ (Instr.l0pWidthChange 0 0).wf = false
    ∧ (Instr.completionTlp 0 0 (.list [{ addr := 2 ^ 64 }])).wf = false
    ∧ (Instr.rawProgram 0 (.data [List.replicate 5 0]) true).wf = false ∧ (Instr.rawProgram 0 .failed true).wf = true
    ∧ (Instr.fwDownload 0 (.data (List.replicate 257 0))).wf = false ∧ (Instr.diagDmaLoop 0 (.data (List.replicate 257 0))).wf = false := by decide +kernel

theorem test_wf_sessions : (Instr.hello 0 (2 ^ 128) 0 true).wf = false ∧ (Instr.hello 0 0 (2 ^ 32) true).wf = false
    ∧ (Instr.challenge 0 (2 ^ 128) 0 0 true).wf = false ∧ (Instr.challenge 0 0 (2 ^ 128) 0 true).wf = false ∧ (Instr.confirm 0 (2 ^ 128) true).wf = false
    ∧ (Instr.heartbeat 0 hdr0 0 0 256 view0).wf = false ∧ (Instr.heartbeat 0 hdr0 0 0 2 view0).wf = true
    ∧ (Instr.viewPropose 0 hdr0 { view0 with members := 2 ^ 24 }).wf = false ∧ (Instr.viewAck 0 hdr0 view0 (some { view0 with steward := 256 })).wf = false
    ∧ (Instr.viewCommit 0 { hdr0 with size := 0 } view0).wf = false ∧ (Instr.leaveRequest 0 { hdr0 with size := 0 }).wf = false
    ∧ (Instr.beaconReceived 0 { beacon0 with log2 := 256 }).wf = false ∧ (Instr.padMessage 0 { hdr0 with size := 1 }).wf = false := by decide +kernel

theorem test_wf_stripes : (Instr.stripeOpen 0 hdr0 (2 ^ 64) 3 0 1 0 3).wf = false ∧ (Instr.stripeOpen 0 hdr0 2 256 0 1 0 3).wf = false
    ∧ (Instr.contrib 0 hdr0 2 0 0 0 []).wf = false ∧ (Instr.contrib 0 hdr0 2 0 0 0 (List.replicate 61 { off := 1 })).wf = false
    ∧ (Instr.contrib 0 hdr0 2 0 0 0 [{ off := 1 }]).wf = true ∧ (Instr.contribAck 0 hdr0 2 (2 ^ 32) 0 0).wf = false
    ∧ (Instr.rangeNote 0 hdr0 2 0 (2 ^ 32) true 0 0).wf = false ∧ (Instr.segClose 0 hdr0 2 0 (2 ^ 16)).wf = false ∧ (Instr.sealWaitExpiry (2 ^ 64)).wf = false
    ∧ (Instr.stripeState 0 hdr0 2 256 0).wf = false ∧ (Instr.rebuildPlan 0 hdr0 (2 ^ 32) 3 2 0 0).wf = false ∧ (Instr.chunkDone 0 hdr0 1 2 0 0 256).wf = false
    ∧ (Instr.checkpoint 0 hdr0 1 2 (2 ^ 16) 0).wf = false ∧ (Instr.ledgerSync 0 hdr0 2 0 0 [256]).wf = false ∧ (Instr.outerRead 0 hdr0 2 256 0 0).wf = false
    ∧ (Instr.patrolRequest 0 hdr0 2 0 256).wf = false ∧ (Instr.patrolReply 0 hdr0 2 0 1 0 0 [2 ^ 128]).wf = false
    ∧ (Instr.patrolReply 0 hdr0 2 0 1 0 0 [0]).wf = true := by decide +kernel

/-! ### The block as a whole -/

/-- A step takes the front command; the rest stays. -/
theorem test_stepRunsFront_premises : { State.reset with pending := [Instr.powerGood, .measNow] }.pending = Instr.powerGood :: [.measNow]
    ∧ State.reset.pending = [] := by decide +kernel

/-- The state after reset has the invariant, and a step from it is not stuck. -/
theorem test_invariantKept_premises : State.reset.Inv ∧ step State.reset = .next State.reset := by
  refine ⟨⟨?_, ?_, ?_, ?_, ?_, ?_, ?_, ?_, ?_, ?_, ?_⟩, rfl⟩ <;> first | decide +kernel | rfl

/-- VIN_RISE at the front of the queue starts the rail sequence; the queue is empty after it. -/
theorem test_stepRules_premises : (match step { State.reset with pending := [.vinRise 48000] } with
    | .next t => t.sup.operating && t.sup.steps == 1 && t.pending.isEmpty && !t.sup.coreUp
    | _ => false) = true := by decide +kernel

/-- Rows have no bits, so no word spells a command (log entry 4). -/
theorem test_decodeTableWord : decodeTableWord 0 0 = none ∧ State.reset.withFetchWord 32 5 = State.reset := by decide +kernel

/-! ### Searches of the engine (R474) -/

/-- The engine is ready and holds no entry. -/
def noEntry : State := { (State.reset.wr Reg.THI_STATUS.READY 1) with sup := { State.reset.sup with coreUp := true } }
/-- The engine holds one entry, at 24,576 in table 1. -/
def oneEntry : State := { noEntry with thi := [(24576, { valid := true, table := 1, value := 5, data := 7, prio := 1 })] }

theorem test_engineSearch_miss : noEntry.thiUp = true ∧ Tbl.wf {} noEntry.thi = true ∧ ∀ i, ¬ noEntry.Matches 1 5 0 0 i :=
  ⟨by decide +kernel, by decide +kernel, fun _ h => Bool.noConfusion (h.1 : (Tbl.get ({} : ThiEnt) [] _).valid = true)⟩

theorem oneEntry_only {i : Nat} (h : oneEntry.Matches 1 5 0 0 i) : i = 24576 := by
  have h1 := h.1
  simp only [State.thiEnt, oneEntry, Tbl.get] at h1
  split at h1
  · assumption
  · exact Bool.noConfusion h1

theorem test_engineSearch_hit : oneEntry.thiUp = true ∧ Tbl.wf {} oneEntry.thi = true ∧ oneEntry.Matches 1 5 0 0 24576
    ∧ (∀ k, oneEntry.Matches 1 5 0 0 k → (oneEntry.thiEnt k).prio < (oneEntry.thiEnt 24576).prio
        ∨ ((oneEntry.thiEnt k).prio = (oneEntry.thiEnt 24576).prio ∧ 24576 ≤ k)) :=
  ⟨by decide +kernel, by decide +kernel, ⟨by decide +kernel, by decide +kernel, by decide, fun b _ => .inl (by simp)⟩,
    fun k h => by rw [oneEntry_only h]; exact .inr ⟨rfl, Nat.le_refl _⟩⟩

/-! ### Results the manual's worked examples give -/

/-- R440: T0 = 0x0F and T1 = 0xE7 locate component 6. -/
theorem test_lineVerdict : wordVerdict 0x0F 0xE7 = .located 6 0x0F := by decide +kernel

/-- The worked example of 13: g^5 = 0x20, g^13 = 0x87, Q = 0xEB, and solving for D_0 gives 0x3C. -/
theorem test_outerCode : gfAlpha 5 = 0x20 ∧ gfAlpha 13 = 0x87 ∧ 0x3C ^^^ gfMul 0x20 0xA7 ^^^ gfMul 0x87 0x58 = 0xEB
    ∧ 0x3C ^^^ 0xA7 ^^^ 0x58 = 0xC3 ∧ gfMul 0xE3 (gfInv 0x86) = 0x3C := by decide +kernel

/-- The worked example of 02: 25,300 frames at 500 mA give CAP 3,162, and E_use at 54.0 V gives EUSE 3,485. -/
theorem test_measurement :
    (let s : State := { State.reset with
      frame := 140300, sup := { operating := true, coreUp := true, vin := 48000, vbank := 50000, meas := .bleedCount 115000 54000, orGate := true } }
    match exec (.measComplete 54000) s with
    | .next t => t.rd Reg.HUP_CAP_MEAS.CAP == 3162 && t.rd Reg.HUP_ENERGY.EUSE == 3485 && t.rd Reg.HUP_CAP_MEAS.VALID == 1 && t.sup.passed
    | _ => false) = true := by decide +kernel

/-- A device whose function 0 reaches its registers. -/
def served : State :=
  { State.reset with
    sup := { operating := true, coreUp := true, vin := 48000, vbank := 54000, steps := 5, goods := 6, attempts := 1, orGate := true }
    boot := { stage := .pour, step := 4, step4 := true, step5 := true, restored := true, manufactured := true, extended := true }
    eps := [(0, { perst := false, rid := 0x100, cfg := [(0x04, 6), (0x90, 2 ^ 31)] })] }

/-- The worked example of 19 (R583): GROUP_WAIT takes 20,000 and then the lock is set; a later write has no effect. -/
theorem test_lockedWrite :
    (let s := (served.wr Reg.HIF_EP_LINK.DL_UP 1)
    match exec (.registerWrite 0 Reg.WBF_CFG.GROUP_WAIT.off 0x80004E20 none) s with
    | .next t =>
      t.rd Reg.WBF_CFG.GROUP_WAIT == 20000 && t.rd Reg.WBF_CFG.LOCK == 1
        && (match exec (.registerWrite 0 Reg.WBF_CFG.GROUP_WAIT.off 0x2710 none) t with
          | .next u => u.rd Reg.WBF_CFG.GROUP_WAIT == 20000 && u.rd Reg.WBF_CFG.LOCK == 1
          | _ => false)
    | _ => false) = true := by decide +kernel

/-- The worked example of 18: at 85.3 °C with SP 95 °C a fan targets 8,180 rpm, and four fans at 8,180 rpm take 12.0 W. -/
theorem test_fanTarget :
    (let s := [(Reg.THM_TEMP.COMPOSITE, 0, 853), (Reg.THM_CFG.SP, 0, 95), (Reg.FAN_CTRL.POLICY, 0, 0), (Reg.FRM_STATUS.TF, 0, 256), (Reg.FAN_CTRL.ENABLE, 0, 15)].foldl
      (fun (s : State) e => s.wr e.1 e.2.2 e.2.1) State.reset
    let t := [0, 1, 2, 3].foldl (fun (s : State) f =>
      [(Reg.FAN_F.RATED_RPM, 1400), (Reg.FAN_F.MIN_RPM, 200), (Reg.FAN_F.P_RATED, 15), (Reg.FAN_F.RPM, 8180), (Reg.FAN_F.STATE, 6)].foldl
        (fun (s : State) e => s.wr e.1 e.2 f) s) s
    t.fanTarget 2 == 8180 && t.fansPower == 120) = true := by decide +kernel

/-- The worked example of 07: E_frame is 1,255.0 µJ at a cap of 180 W with 42.0 W of base and 12.0 W of fans, holding the bank. -/
theorem test_frameEnergy :
    (let s := [(Reg.FRM_BUDGET.RATED, 250), (Reg.FRM_BUDGET.CAP, 180), (Reg.FRM_STATUS.TF, 256), (Reg.FRM_BASE.BASE, 420), (Reg.FAN_STATUS.P_FAN, 120),
        (Reg.HUP_CHG_CFG.CHG_EN, 1)].foldl (fun (s : State) e => s.wr e.1 e.2) served
    s.frameEnergy 5) = 1255000 := by decide +kernel

/-- The worked example of 15: head insertions at 28,670, 28,668 and 28,666 with no moves; a search from S = 0 for IU 0x400 after a fourth at
28,664 answers 28,664 with MULTI 1, and from S = 28,665 answers 28,668 with MULTI 0. -/
theorem test_rangeTable :
    (let s := [(Reg.THI_STATUS.READY, 0, 1), (Reg.THI_TABLE.BASE, 1, 24576), (Reg.THI_TABLE.LAST, 1, 28671), (Reg.THI_TABLE.WIDTH, 1, 1),
        (Reg.THI_TABLE.ORDERED, 1, 1)].foldl (fun (s : State) e => s.wr e.1 e.2.2 e.2.1) served
    let full := 2 ^ 80 - 1
    let put (r : List ThiOut × State) (iu n entry : Nat) : List ThiOut × State :=
      let a := r.2.thiInsertOrdered 1 { valid := true, table := 1, value := iu + entry * 2 ^ 46, care := full - (n - 1), prio := 0, data := entry } none
      (r.1 ++ [a.1], a.2)
    let r := put (put (put (put ([], s) 0x3F8 8 5) 0x400 8 5) 0x408 4 5) 0x400 4 6
    let key := 0x400
    let mask := 2 ^ 46 - 1
    (r.2.thiList 1).map (·.1) == [28664, 28666, 28668, 28670]
      && (r.2.thiSearch 1 key mask 0).1 == .hit 28664 true 6 && (r.2.thiSearch 1 key mask 28665).1 == .hit 28668 false 5) = true := by decide +kernel

end Sys2Proof.Tests

namespace Sys2Proof.Tests

def up : State :=
  ((({ State.reset with
    sup := { operating := true, coreUp := true, vin := 48000, vbank := 54000, steps := 5, goods := 6, attempts := 1, orGate := true }
    boot := { stage := .pour, step := 4, step4 := true, step5 := true, restored := true, manufactured := true, extended := true }
    eps := [(0, { perst := false, rid := 0x100, cfg := [(0x04, 6), (0x90, 2 ^ 31)] })]
    frame := 100000 } : State).wr Reg.CSQ_PAIRS.ACTIVE 0xFF).wr Reg.BRU_STAGE.STAGE 2).wr Reg.HIF_EP_LINK.DL_UP 1 |>.wr Reg.HUP_BO_CFG.FALL 200 |>.wr Reg.HUP_BO_CFG.RISE 210
def with_ (s : State) (l : List (Fld × Nat × Nat)) : State := l.foldl (fun s e => s.wr e.1 e.2.2 e.2.1) s
def thi0 : State := with_ { up with thi := [(24576, { valid := true, table := 1, value := 0, care := 0, data := 7, prio := 1 }),
   (24580, { valid := true, table := 1, value := 1, care := 1, data := 65536 * 65535, prio := 1 }), (24582, {valid := true, table := 1, value := 5, care := 1, data := 9}),
   (28672, { valid := true, table := 2, value := 1, data := 3, prio := 2}), (28674, {valid := true, table := 2, value := 1, data := 4, prio := 2})] }
  [(Reg.THI_STATUS.READY, 0, 1), (Reg.THI_TABLE.BASE, 1, 24576), (Reg.THI_TABLE.LAST, 1, 24591), (Reg.THI_TABLE.WIDTH, 1, 1), (Reg.THI_TABLE.ORDERED, 1, 1),
   (Reg.THI_TABLE.BASE, 2, 28672), (Reg.THI_TABLE.LAST, 2, 28674)]
def ring0 : Ring := { st := .active, sqBase := 4096, cqBase := 8192, sqSize := 16, cqSize := 16, sqTail := 3, vector := 0 }
def rung : State := with_ { up with rings := [(0, ring0), (1, ring0)], msix := [(0, {addr := 7, masked := false})] } [(Reg.HIF_ADM_CTRL.READY, 0, 1), (Reg.HIF_ADM_CTRL.ENABLE, 0, 1)]
def busy : State := { rung with tags := [(4, .fetch 0 0 3 100500), (5, .data 1 0 1)], ctxs := [(0, { phase := .committed, order := 1, ring := 1 }), (1, { phase := .landing, order := 2, ring := 1 })] }
def pk (opc cid slba nblk : Nat) : Packet := BitVec.ofNat 512 (opc + cid * 2 ^ 16 + 0x10000 * 2 ^ 128 + slba * 2 ^ 256 + nblk * 2 ^ 320)
def ver (osn iu mask : Nat) (st : VerSt) : Version :=
  { osn := osn, iu := iu, mask := mask, st := st, data := [], mirrored := 0, clean := false, scA := 0, scB := 1, folded := none, ackP := 0, ackQ := 0, placed := false, used := 0 }
def dev : State := with_ { rung with ftl := { rung.ftl with osn := 10, capacity := 2 ^ 30 }, sup := { rung.sup with cmeas := 8000000, passed := true, measAt := 5 }, ucode := { rung.ucode with active := baseImage } }
  [(Reg.THI_STATUS.READY, 0, 1), (Reg.THI_TABLE.LAST, 0, 24575), (Reg.THI_TABLE.BASE, 1, 24576), (Reg.THI_TABLE.LAST, 1, 28671), (Reg.THI_TABLE.WIDTH, 1, 1), (Reg.THI_TABLE.ORDERED, 1, 1),
   (Reg.FRM_CEILING.CEIL_MIB, 0, 100), (Reg.HUP_CAP_MEAS.VALID, 0, 1), (Reg.BRU_STAGE.WRITE_UP, 0, 1), (Reg.HUP_ENERGY.EUSE, 0, 4000)]
def withCtx (s : State) (x : Ctx) : State := { s with ctxs := [(2, x)] }
def wr0 (opc : Nat) (ph : Phase) : Ctx := { phase := ph, ring := 1, pkt := pk opc 7 6 3, order := 3, osn := 9, ivs := [(0,0,0),(0,0,1),(0,0,2)], walk := { segs := [(0x10000, 12288)] }, fetchedAt := 50 }
def apk (opc d10 : Nat) (d11 : Nat := 0) (d12 : Nat := 0) (d8 : Nat := 0) (d9 : Nat := 0) : Packet :=
  BitVec.ofNat 512 (opc + 7 * 2 ^ 16 + 0x10000 * 2 ^ 128 + 0x20000 * 2 ^ 192 + d8 * 2 ^ 256 + d9 * 2 ^ 288 + d10 * 2 ^ 320 + d11 * 2 ^ 352 + d12 * 2 ^ 384)
def adm (p : Packet) (ph : Phase := .executing) : Ctx := { phase := ph, pkt := p, order := 3, walk := { segs := [(0x10000, 8192)] } }

namespace Supply

def sp (f : Supply → Supply) : State := { up with sup := f up.sup }
def z0 : State := State.reset
def z1 : State := sp (fun p => {p with coreUp := false, goods := 4, steps := 5})
def z2 : State := sp (fun p => {p with coreUp := false, goods := 5, steps := 5, attempts := 3})
def z3 : State := sp (fun p => {p with coreUp := false, retryWait := true, goods := 0, steps := 0})
def z4 : State := up
def z5 : State := sp (fun p => {p with drain := .brownOut, orGate := false})
def z6 : State := sp (fun p => {p with drain := .overvoltage, orGate := false, drainWork := true, swGate := true, vin := 0})
def z7 : State := sp (fun p => {p with drain := .brownOut, orGate := false, drainWork := true, swGate := true, vin := 48000})
def z8 : State := sp (fun p => {p with discharging := true, coreUp := false, vin := 0, steps := 0, goods := 0, vbank := 4000})
def z9 : State := sp (fun p => {p with coreUp := false, vin := 0, ovBleed := true})
def z10 : State := { sp (fun p => {p with hourFrom := 0 }) with frame := 360000000 }
def z11 : State := sp (fun p => {p with meas := .lowering})
def z12 : State := sp (fun p => {p with meas := .bleeding 60000})
def z13 : State := sp (fun p => {p with meas := .chargeWait})
def z14 : State := sp (fun p => {p with meas := .chargeCount 3})
def z15 : State := sp (fun p => {p with meas := .bleedCount 3 60000})
def z16 : State := with_ up [(Reg.HUP_STATUS.CHARGING, 0, 1)]

theorem test_railSequence_premises : (
    (let s : State := z0; let vin : Nat := 60000; decide ((s.sup.vin ≤ s.riseNow) ∧ (s.riseNow < vin) ∧ (s.sup.coreUp = false) ∧ (s.sup.drain = DrainKind.none) ∧ (s.thermal.tripped = false) ∧ (s.sup.off = false)))
    && (let s : State := z1; decide ((s.sequencing = true) ∧ (s.sup.retryWait = false) ∧ (s.sup.goods < 5)))
    && (let s : State := z2; decide ((s.sequencing = true) ∧ (s.sup.retryWait = false) ∧ (5 ≤ s.sup.goods)))
    && (let s : State := z1; decide ((s.sequencing = true) ∧ (s.sup.retryWait = false)))
    && (let s : State := z3; decide ((s.sup.operating = true) ∧ (s.sup.retryWait = true) ∧ (s.sup.orGate = true)))) = true := by decide +kernel

theorem test_drainBegins_premises : (
    (let s : State := z4; let vin : Nat := 3; decide ((s.sup.operating = true) ∧ (vin < s.fallMv) ∧ (s.sup.coreUp = true) ∧ (s.sup.drain = DrainKind.none)))
    && (let s : State := z4; let vin : Nat := 64000; decide ((s.sup.operating = true) ∧ (63000 < vin) ∧ (s.sup.coreUp = true) ∧ (s.sup.drain = DrainKind.none)))
    && (let s : State := z1; let vin : Nat := 3; decide ((s.sup.operating = true) ∧ (vin < s.fallMv) ∧ (s.sup.coreUp = false) ∧ (s.sup.drain = DrainKind.none) ∧ (s.sup.orGate = true)))
    && (let s : State := z5; decide ((s.sup.drain ≠ DrainKind.none) ∧ (s.sup.orGate = false) ∧ (s.sup.swGate = false)))) = true := by decide +kernel

theorem test_drainEnds_premises : (
    (let s : State := z6; decide ((s.sup.drain ≠ DrainKind.none) ∧ (s.sup.drainWork = true) ∧ (s.drainRails = true) ∧ (s.sup.vin ≤ s.riseMv)))
    && (let s : State := z7; decide ((s.sup.drain ≠ DrainKind.none) ∧ (s.sup.drain ≠ DrainKind.trip) ∧ (s.sup.drainWork = true) ∧ (s.drainRails = true) ∧ (s.riseMv < s.sup.vin)))
    && (let s : State := z6; let vbank : Nat := 3; decide ((s.sup.drain ≠ DrainKind.none) ∧ (s.sup.swGate = true) ∧ (vbank ≤ 22000) ∧ (s.sup.vin ≤ s.riseMv)))
    && (let s : State := z8; let vbank : Nat := 3; decide ((s.sup.discharging = true) ∧ (vbank < 5000)))
    && (let s : State := z8; let vbank : Nat := 3; decide ((s.sup.operating = true) ∧ (s.sup.vin ≤ s.riseMv) ∧ (vbank < 4500) ∧ (s.sup.coreUp = false)))) = true := by decide +kernel

theorem test_bankMeasures_premises : (
    (let s : State := z4; let vbank : Nat := 60000; decide ((s.sup.operating = true) ∧ (60000 ≤ vbank) ∧ (s.sup.ovBleed = false)))
    && (let s : State := z9; let vbank : Nat := 3; decide ((s.sup.ovBleed = true) ∧ (vbank ≤ s.vchg)))
    && (let s : State := z16; let vbank : Nat := 60000; decide ((s.on Reg.HUP_STATUS.CHARGING = true) ∧ (s.vchg ≤ vbank)))
    && (let s : State := z10; decide ((s.measFree = true) ∧ (s.sup.coreUp = true) ∧ (s.sup.hourFrom + 360000000 ≤ s.frame)))
    && (let s : State := z4; let vbank : Nat := 3; decide ((s.measFree = true) ∧ (s.sup.coreUp = true) ∧ (s.on Reg.HUP_STATUS.BLEED_ON = false) ∧ (vbank + 500 < s.sup.vbank)))
    && (let s : State := z4; decide ((s.measFree = true) ∧ (s.sup.coreUp = true)))
    && (let s : State := z11; decide ((s.sup.meas = Meas.lowering) ∧ (s.dirty ≤ s.ceilingBytes)))
    && (let s : State := z12; let vbank : Nat := 3; let top : Nat := 60000; decide ((s.sup.meas = Meas.bleeding top) ∧ (vbank + 4000 ≤ top)))
    && (let s : State := z13; let vbank : Nat := 34000; decide ((s.sup.meas = Meas.chargeWait) ∧ (30000 ≤ vbank)))
    && (let s : State := z14; let vbank : Nat := 34000; let start : Nat := 3; decide ((s.sup.meas = Meas.chargeCount start) ∧ (34000 ≤ vbank) ∧ (start < s.frame)))
    && (let s : State := z15; let vbank : Nat := 60000; let start : Nat := 3; let top : Nat := 60000; decide ((s.sup.meas = Meas.bleedCount start top) ∧ (top ≤ vbank) ∧ (start < s.frame)))
    && (let vbank : Nat := 3; let c : Instr := Instr.vbankOvervoltage 3; decide (c ∈ [Instr.vbankOvervoltage vbank, Instr.vbankOvRecover vbank, Instr.chargeTargetReached vbank, Instr.capMeasHourly, Instr.vbankDropDetected vbank, Instr.measNow, Instr.measBleedClose, Instr.measBleedOpen vbank, Instr.measCountStart vbank, Instr.measComplete vbank]))) = true := by decide +kernel


end Supply

namespace Bringup

def bt (f : Boot → Boot) : State := { up with boot := f { up.boot with stage := .grind } }
def g (k : Nat) : State := bt (fun b => { b with step := k, step4 := false, step5 := false, extended := false, restored := decide (3 ≤ k) })
def z0 : State := g 0
def z1 : State := g 1
def z2 : State := g 2
def z3 : State := g 3
def z4 : State := g 4
def z5 : State := { bt id with sup := { up.sup with vinAt := 0 }, frame := 200000 }
def z6 : State := with_ { up with boot := { up.boot with stage := .bloom } } [(Reg.DRC_STATUS.FAILED, 0, 255)]
def z7 : State := { bt id with ftl := { up.ftl with spent := true } }
def z8 : State := { up with bst := { up.bst with activator := 3, commitAt := 0 } }
def z9 : State := { up with bst := { up.bst with swapped := true, activator := 3 } }

theorem test_grindSteps_premises : (
    (let s : State := z0; decide ((s.serving = true) ∧ (s.boot.step = 0)))
    && (let s : State := z1; decide ((s.serving = true) ∧ (s.boot.step = 1) ∧ (s.boot.recovery = false)))
    && (let s : State := z2; decide ((s.serving = true) ∧ (s.boot.step = 2)))
    && (let s : State := z3; decide ((s.serving = true) ∧ (s.boot.step = 3)))
    && (let s : State := z4; decide ((s.serving = true) ∧ (s.boot.stage = Stage.grind) ∧ (4 ≤ s.boot.step) ∧ (s.boot.replayed = false) ∧ (s.channelsUp = true)))) = true := by decide +kernel

theorem test_stageEntries_premises : (
    (let s : State := z7; decide ((s.serving = true) ∧ (s.boot.stage = Stage.grind) ∧ (s.boot.step5 = true) ∧ (s.rd Reg.FTL_GC_CFG.RESERVE_MIN < s.freeBands ∨ s.readOnly = true)))
    && (let s : State := z6; decide ((s.serving = true) ∧ (s.boot.stage = Stage.bloom) ∧ (s.dramWhole = true) ∧ (s.boot.mapLeft = 0) ∧ (s.boot.extended = true)))
    && (let s : State := z5; decide ((s.serving = true) ∧ (s.boot.stage = Stage.grind) ∧ (s.boot.boundMissed = false) ∧ (s.sup.vinAt + 200000 ≤ s.frame)))) = true := by decide +kernel

theorem test_firmwareChange_premises : (
    (let s : State := z8; decide ((s.serving = true) ∧ (s.bst.activator ≠ 0) ∧ (s.bst.swapped = false) ∧ (s.bst.commitAt + 500 ≤ s.frame ∨ (s.live.all fun e => e.fst + 1 == s.bst.activator) = true)))
    && (let s : State := z9; decide ((s.serving = true) ∧ (s.bst.swapped = true)))) = true := by decide +kernel


end Bringup

namespace Resets

def epx (s : State) (f : Ep → Ep) : State := s.setEp 0 (f (s.ep 0))
def z0 : State := up
def z1 : State := epx up (fun e => { e with resetting := some .hot })
def z2 : State := with_ up [(Reg.HIF_EP_LINK.PORT_MODE, 0, 1)]
def z3 : State := epx (with_ up [(Reg.HIF_EP_LINK.DL_UP, 0, 0)]) id
def z4 : State := with_ busy [(Reg.HIF_EP_LINK.WIDTH, 0, 16)]
def z5 : State := { up with pairs := { takeover := some 3 } }

theorem test_functionResets_premises : (
    (let s : State := z0; let fn : Fn := 0; let c : Instr := Instr.flr 0; let cause : Cause := Cause.function; decide (c = Instr.flr fn ∧ cause = Cause.function ∧ s.configUp ↑fn = true ∨ (c = Instr.hotReset fn ∨ c = Instr.linkDown fn) ∧ cause = Cause.hot ∧ s.serving = true ∧ s.hasFn ↑fn = true ∧ s.linkUp ↑fn = true))
    && (let s : State := z0; let fn : Fn := 0; decide ((s.hasFn ↑fn = true) ∧ ((s.ep ↑fn).perst = false) ∧ (s.serving = true) ∧ (s.pstate ≠ 3)))
    && (let s : State := z1; let fn : Fn := 0; decide ((s.serving = true) ∧ ((s.ep ↑fn).resetting.isSome = true) ∧ ((s.ep ↑fn).perst = false)))
    && (let fn : Fn := 0; let c : Instr := Instr.flr 0; decide (c ∈ [Instr.flr fn, Instr.hotReset fn, Instr.linkDown fn]))
    && (let fn : Fn := 0; let speed : Fin 7 := 0; let width : Nat := 0; let flit : Bool := false; let c : Instr := Instr.linkUp 0 0 0 false; decide (c ∈ [Instr.linkUp fn speed width flit, Instr.l0pWidthChange fn width, Instr.aspmL1Entry fn]))) = true := by decide +kernel

theorem test_portEvents_premises : (
    (let s : State := z2; let fn : Fn := 1; decide ((s.hasFn ↑fn = true) ∧ ((s.ep ↑fn).perst = true) ∧ (s.sup.off = false)))
    && (let s : State := z3; let fn : Fn := 0; let speed : Fin 7 := 1; let width : Nat := 1; let flit : Bool := false; decide ((s.serving = true) ∧ (s.hasFn ↑fn = true) ∧ (s.linkUp ↑fn = false) ∧ ((s.ep ↑fn).perst = false) ∧ ((s.ep ↑fn).resetting = none) ∧ (0 < ↑speed) ∧ (s.widthOk width = true) ∧ (flit = true ∨ ↑speed < 6)))
    && (let s : State := z4; let fn : Fn := 0; let width : Nat := 1; decide ((s.serving = true) ∧ (s.hasFn ↑fn = true) ∧ (s.linkUp ↑fn = true) ∧ (s.widthOk width = true) ∧ (width ≤ s.rd Reg.HIF_EP_LINK.WIDTH 0 ↑fn)))
    && (let s : State := z0; let fn : Fn := 0; decide ((s.serving = true) ∧ (s.hasFn ↑fn = true) ∧ (s.linkUp ↑fn = true)))
    && (let s : State := z0; let fn : Fn := 0; let data : Word := 3; decide ((s.configUp ↑fn = true) ∧ (BitVec.toNat data % 4 = 3)))
    && (let s : State := z0; let fn : Fn := 0; let data : Word := 0; decide ((s.configUp ↑fn = true) ∧ (BitVec.toNat data % 4 = 0)))) = true := by decide +kernel

theorem test_internalResets_premises : (
    (let s : State := z0; decide (s.serving = true))
    && (let s : State := z0; let fn : Fn := 0; decide ((s.reachable ↑fn = true) ∧ (s.on Reg.BRU_CTRL.LOCK = false)))
    && (let s : State := z0; let fn : Fn := 0; let key : Byte := 0; decide ((s.reachable ↑fn = true) ∧ (key ≠ 165)))
    && (let s : State := z0; let pair : Fin 8 := 0; decide ((s.serving = true) ∧ ((s.rd Reg.CSQ_PAIRS.ACTIVE).testBit ↑pair = true)))
    && (let s : State := z5; decide ((s.serving = true) ∧ (s.pairs.takeover.isSome = true)))) = true := by decide +kernel


end Resets

namespace Reads


def z0 : State := up
def z1 : State := { busy with pairHigh := [(pairKey 0 0x3A0010, some 3)] }

theorem test_registerReads_premises : (
    (let s : State := z0; let fn : Fn := 0; let off : Nat := 0; decide ((s.reachable ↑fn = true) ∧ (off < 4194304) ∧ (off % 4 = 0) ∧ (pairAt off = false) ∧ (4 ≤ off → pairAt (off - 4) = false)))
    && (let s : State := z0; let fn : Fn := 0; let off : Nat := 3801104; decide ((s.reachable ↑fn = true) ∧ (off < 4194304) ∧ (off % 4 = 0) ∧ (pairAt off = true)))
    && (let s : State := z1; let fn : Fn := 0; let off : Nat := 3801108; let w : Nat := 3; decide ((s.reachable ↑fn = true) ∧ (off < 4194304) ∧ (off % 4 = 0) ∧ (pairAt off = false) ∧ (4 ≤ off) ∧ (pairAt (off - 4) = true) ∧ (Tbl.get none (s.wakeTlp ↑fn).pairHigh (pairKey (↑fn) (off - 4)) = some w)))
    && (let s : State := z0; let fn : Fn := 0; let off : Nat := 1; decide ((s.reachable ↑fn = true) ∧ (off < 4194304) ∧ (off % 4 ≠ 0)))
    && (let s : State := z0; let fn : Fn := 0; let off : Nat := 0; let len : Nat := 3801104; decide ((s.reachable ↑fn = true) ∧ (off < 4194304) ∧ (0 < len) ∧ (¬(len = 4 ∧ off % 4 = 0)) ∧ (¬(len = 8 ∧ off % 8 = 0))))) = true := by decide +kernel


end Reads

namespace Endpoint

def winst : State := with_ { up with wins := [(0, { target := 2, wrEn := true, rdEn := true, base := 0, limit := 4}), (1, {target := 2, ridChk := true, rid := 1, wrEn := true, rdEn := true, base := 1, limit := 2}), (2, {target := 2, base := 1, limit := 1})], mem := [(3, 9), (4096, 7)] }
  [(Reg.WIN_ENT_CTRL.TARGET, 3, 2), (Reg.WIN_ENT_CTRL.PENDING, 3, 1), (Reg.WIN_ENT_LIMIT.LIMIT, 3, 5), (Reg.WIN_ENT_CTRL.PENDING, 5, 1)]
def z0 : State := up
def z1 : State := with_ { up with frame := 5000000, boot := { up.boot with step := 1}} []
def z2 : State := with_ winst [(Reg.WIN_EPOCH.BUSY, 0, 1)]
def z3 : State := with_ winst [(Reg.WIN_ENT_LIMIT.LIMIT, 3, 0)]
def z4 : State := winst

theorem test_vectorsAndLocks_premises : (
    (let s : State := z0; let fn : Fn := 0; decide (s.reachable ↑fn = true))
    && (let s : State := z0; decide (s.serving = true))) = true := by decide +kernel

theorem test_configAndSideband_premises : (
    (let s : State := z0; let fn : Fn := 0; decide (s.configUp ↑fn = true))
    && (let s : State := z0; let fn : Fn := 0; let dw : Fin 1024 := 1; let en : BitVec 4 := 15; decide ((s.configUp ↑fn = true) ∧ (dw = 1) ∧ (en = 15)))
    && (let s : State := z1; let fn : Fn := 0; decide ((s.configUp ↑fn = false) ∧ (s.serving = true) ∧ (s.hasFn ↑fn = true) ∧ (s.linkUp ↑fn = true) ∧ ((s.ep ↑fn).resetting = none)))
    && (let s : State := z0; decide (s.sup.operating = true))
    && (let s : State := z0; decide ((s.sup.coreUp = true) ∧ (1 ≤ s.boot.step) ∧ (s.rd Reg.CSQ_PAIRS.ACTIVE ≠ 0) ∧ (s.pstate ≠ 3) ∧ (List.isEmpty s.sideband.items = true ∨ s.sideband.at_ + 100 ≤ s.frame)))) = true := by decide +kernel

theorem test_windowEpochs_premises : (
    (let s : State := z0; let fn : Fn := 0; decide ((s.reachable ↑fn = true) ∧ ((s.wakeTlp ↑fn).on Reg.WIN_EPOCH.BUSY = false) ∧ ((((s.wakeTlp ↑fn).winPending (some ↑fn)).all fun n => (s.wakeTlp ↑fn).winOk n ((s.wakeTlp ↑fn).staged n)) = true)))
    && (let s : State := z3; let fn : Fn := 0; let i : Nat := 3; decide ((s.reachable ↑fn = true) ∧ ((s.wakeTlp ↑fn).on Reg.WIN_EPOCH.BUSY = false) ∧ (List.find? (fun n => !(s.wakeTlp ↑fn).winOk n ((s.wakeTlp ↑fn).staged n)) ((s.wakeTlp ↑fn).winPending (some ↑fn)) = some i)))
    && (let s : State := z2; let fn : Fn := 0; decide ((s.reachable ↑fn = true) ∧ ((s.wakeTlp ↑fn).on Reg.WIN_EPOCH.BUSY = true)))
    && (let s : State := z0; decide (s.sup.coreUp = true))) = true := by decide +kernel

theorem test_windowAccesses_premises : (
    (let s : State := z4; let fn : Fn := 0; let rid : BitVec 16 := 1; let off : Nat := 0; let a : Nat := 0; decide ((s.reachable ↑fn = true) ∧ (windowAddress (s.wakeTlp ↑fn) (↑fn) rid.toNat off true = some a)))
    && (let s : State := z0; let fn : Fn := 0; let rid : BitVec 16 := 1; let off : Nat := 0; decide ((s.reachable ↑fn = true) ∧ (windowAddress (s.wakeTlp ↑fn) (↑fn) rid.toNat off true = none)))
    && (let s : State := z4; let fn : Fn := 0; let rid : BitVec 16 := 1; let off : Nat := 0; let len : Nat := 0; let a : Nat := 0; decide ((s.reachable ↑fn = true) ∧ (len ≤ 4096) ∧ (windowAddress (s.wakeTlp ↑fn) (↑fn) rid.toNat off false = some a)))
    && (let s : State := z0; let fn : Fn := 0; let rid : BitVec 16 := 1; let off : Nat := 0; let len : Nat := 0; decide ((s.reachable ↑fn = true) ∧ (len ≤ 4096) ∧ (windowAddress (s.wakeTlp ↑fn) (↑fn) rid.toNat off false = none)))) = true := by decide +kernel


end Endpoint

namespace Thermal

def sx (k : Nat) (x : Sensor) (s : State) : State := s.setSensor k x
def full (s : State) : State := with_ { s with ucode := { s.ucode with active := baseImage } } [(Reg.CHN_POP.TARGETS,0,8), (Reg.CHN_POP.LUNS,0,4), (Reg.CHN_POP.PLANES,0,4), (Reg.CHN_ENG_STATUS.STATE, 0, 3), (Reg.CHN_POP.TARGETS,1,8), (Reg.CHN_POP.LUNS,1,4), (Reg.CHN_POP.PLANES,1,4), (Reg.CHN_ENG_STATUS.STATE, 1, 3), (Reg.THM_EXT.PRESENT, 0, 1)]
def z0 : State := with_ up [(Reg.FRM_STATUS.MODE, 0, 2), (Reg.THM_STATUS.STATE, 0, 2)]
def z1 : State := with_ {busy with thermal := { up.thermal with coolFrom := some 0 } } [(Reg.FRM_STATUS.MODE, 0, 2), (Reg.THM_STATUS.STATE, 0, 3)]
def z2 : State := { up with thermal := { up.thermal with tripped := true }, sup := { up.sup with coreUp := false } }
def z3 : State := up
def z4 : State := full up
def z5 : State := sx (sensorKey 0 2) { atTrip := 1, seen := true, temp := 500 } busy
def z6 : State := sx (sensorKey 2 0) { implausible := 1, seen := true } (full busy)
def z7 : State := State.reset

theorem test_stopsEnd_premises : (
    (let s : State := z0; decide ((s.serving = true) ∧ (s.stopping = true) ∧ (s.rd Reg.THM_STATUS.STATE = 2) ∧ (s.stopDone = true)))
    && (let s : State := z1; let n : Nat := 0; decide ((s.thermal.coolFrom = some n) ∧ (s.serving = true) ∧ (s.stopping = true) ∧ (n + 100000 ≤ s.frame)))
    && (let s : State := z2; let temp : Int := -500; decide ((s.sup.operating = true) ∧ (s.thermal.tripped = true) ∧ (s.sup.drain = DrainKind.none) ∧ (s.sup.coreUp = false) ∧ (temp < 700)))) = true := by decide +kernel

theorem test_sensorSamples_premises : (
    (let s : State := z3; decide (s.sup.coreUp = true))
    && (let s : State := z3; let d : Fin 40 := 0; let v : Int := 699; decide ((s.sup.coreUp = true) ∧ (-400 ≤ v) ∧ (v < 1050) ∧ ((s.sensor (sensorKey 0 ↑d)).broken = false) ∧ ((s.sensor (sensorKey 0 ↑d)).deviant < 9)))
    && (let s : State := z5; let d : Fin 40 := 2; let v : Int := 1120; decide ((s.sup.coreUp = true) ∧ (s.sup.drain = DrainKind.none) ∧ (1120 ≤ v) ∧ (v ≤ 1500) ∧ ((s.sensor (sensorKey 0 ↑d)).broken = false) ∧ ((s.sensor (sensorKey 0 ↑d)).deviant < 9) ∧ ((s.sensor (sensorKey 0 ↑d)).atTrip = 1)))
    && (let s : State := z4; let i : Fin 4 := 0; decide ((s.sup.coreUp = true) ∧ (s.on Reg.THM_EXT.PRESENT ↑i = true) ∧ ((s.sensor (sensorKey 1 ↑i)).broken = false)))
    && (let s : State := z4; let ch : Chan := 0; let lun : LunNo := 0; let n : Int := 0; decide ((s.serving = true) ∧ (s.chanReady ↑ch = true) ∧ (s.lunPopulated ↑ch ↑lun = true) ∧ (s.lunFailed ↑ch ↑lun = false) ∧ (s.lunRaw ↑ch ↑lun = false) ∧ (-400 ≤ dieTemp s.ucode.active (s.lun ↑ch ↑lun).die n) ∧ (dieTemp s.ucode.active (s.lun ↑ch ↑lun).die n ≤ 1250)))
    && (let s : State := z6; let ch : Chan := 0; let lun : LunNo := 0; decide ((s.serving = true) ∧ (s.chanReady ↑ch = true) ∧ (s.lunPopulated ↑ch ↑lun = true) ∧ (s.lunFailed ↑ch ↑lun = false) ∧ (s.lunRaw ↑ch ↑lun = false) ∧ ((s.sensor (sensorKey 2 (32 * ↑ch + ↑lun))).implausible = 1)))
    && (let c : Instr := Instr.orderlyStopComplete; decide (c ∈ [Instr.orderlyStopComplete, Instr.orderlyStopEnd]))) = true := by decide +kernel

theorem test_frameBoundaryTicks_premises : (
    (let s : State := z3; decide (s.sup.operating = true))
    && (let s : State := z7; decide (s.sup.operating = false))) = true := by decide +kernel


end Thermal

namespace Fans

def fx (f : FanSt) (x : Fan) (fails : Nat) : State := with_ { rung with fans := [(0, x)] } [(Reg.FAN_F.STATE, 0, f.code), (Reg.FAN_F.FAILS, 0, fails), (Reg.FAN_F.KE_NOM, 0, 900), (Reg.FAN_F.KE_TOL, 0, 10), (Reg.FAN_F.CATCH_RPM, 0, 30), (Reg.FAN_CTRL.ENABLE, 0, 15), (Reg.FAN_F.KE_MEAS, 0, 3)]
def z0 : State := fx .probe {} 0
def z1 : State := fx .brake {} 0
def z2 : State := fx .ramp {} 1
def z3 : State := fx .locate {} 2
def z4 : State := fx .locate { pulse := 11 } 2
def z5 : State := fx .catch_ {valid := 5} 0
def z6 : State := fx .run { misses := 2 } 0
def z7 : State := fx .coast {} 0
def z8 : State := fx .settle {} 0
def z9 : State := fx .settle { lastAt := 99500 } 1
def z10 : State := fx .fault {} 3

theorem test_fanStartAttempts_premises : (
    (let s : State := z0; let fan : Fin 4 := 0; decide ((s.fanSt ↑fan = FanSt.probe) ∧ ((s.fan ↑fan).since + 1000 ≤ s.frame)))
    && (let s : State := z1; let fan : Fin 4 := 0; let rpm : Nat := 3; decide ((s.fanSt ↑fan = FanSt.brake) ∧ (rpm < s.catchRpm ↑fan)))
    && (let s : State := z2; let fan : Fin 4 := 0; decide ((s.fanSt ↑fan = FanSt.ramp) ∧ ((s.fan ↑fan).since + 50000 ≤ s.frame)))
    && (let s : State := z3; let fan : Fin 4 := 0; decide ((s.fanSt ↑fan = FanSt.locate) ∧ ((s.fan ↑fan).since + 10000 ≤ s.frame)))
    && (let s : State := z3; let fan : Fin 4 := 0; decide ((s.fanSt ↑fan = FanSt.locate) ∧ ((s.fan ↑fan).pulse < 11)))
    && (let s : State := z4; let fan : Fin 4 := 0; decide ((s.fanSt ↑fan = FanSt.locate) ∧ ((s.fan ↑fan).pulse = 11)))) = true := by decide +kernel

theorem test_fanLossAndRest_premises : (
    (let s : State := z6; let fan : Fin 4 := 0; decide ((s.fanSt ↑fan = FanSt.run) ∧ (2 ≤ (s.fan ↑fan).misses)))
    && (let s : State := z6; let fan : Fin 4 := 0; decide ((s.fanSt ↑fan = FanSt.run) ∧ ((s.fan ↑fan).runFrom + 100000 ≤ s.frame)))
    && (let s : State := z7; let fan : Fin 4 := 0; decide ((s.fanSt ↑fan = FanSt.coast) ∧ ((s.fan ↑fan).lastAt + 1000 ≤ s.frame)))
    && (let s : State := z8; let fan : Fin 4 := 0; decide ((s.fanSt ↑fan = FanSt.settle) ∧ ((s.fan ↑fan).lastAt + 1000 ≤ s.frame)))
    && (let s : State := z9; let fan : Fin 4 := 0; decide ((s.fanSt ↑fan = FanSt.settle) ∧ ((s.fan ↑fan).since + 100000 ≤ s.frame) ∧ (s.frame < (s.fan ↑fan).lastAt + 1000)))
    && (let s : State := z10; let fan : Fin 4 := 0; let fn : Fn := 0; let mask : BitVec 4 := 1; decide ((s.reachable ↑fn = true) ∧ (mask.getLsb fan = true) ∧ (s.fanSt ↑fan = FanSt.fault) ∧ (s.fanEnabled ↑fan = true)))
    && (let s : State := z5; let fan : Fin 4 := 0; decide (s.fanSt ↑fan = FanSt.run ∨ s.fanSt ↑fan = FanSt.catch_))) = true := by decide +kernel

theorem test_fanFrame_premises : (
    (let fan : Fin 4 := 0; let c : Instr := Instr.probeWindowEnd 0; decide (c ∈ [Instr.probeWindowEnd fan, Instr.rampEnd fan, Instr.locateTimeout fan, Instr.missedCrossing fan, Instr.runSecond fan, Instr.coastTimeout fan, Instr.settleBrake fan]))
    && (let fan : Fin 4 := 0; let g : Fin 4 := 1; let c : Instr := Instr.probeWindowEnd 0; decide ((g ≠ fan) ∧ (c ∈ [Instr.probeWindowEnd fan, Instr.rampEnd fan, Instr.locateTimeout fan, Instr.missedCrossing fan, Instr.runSecond fan, Instr.coastTimeout fan, Instr.settleBrake fan, Instr.settleTimeout fan])))) = true := by decide +kernel


end Fans

namespace Power

def pw (p s t : Nat) (f : Pwr → Pwr) : State := with_ { busy with pwr := f { up.pwr with idle := 100000 }, ctxs := [] , tags := []} [(Reg.PWR_STATUS.PHASE, 0, p), (Reg.PWR_STATUS.STATE, 0, s), (Reg.PWR_STATUS.TARGET, 0, t)]
def late (p : Pwr) : Pwr := { p with askAt := 0 }
def all1 : Tbl Nat := (List.range 160).map (fun d => (d, 1))
def z0 : State := pw 0 0 3 id
def z1 : State := pw 1 0 3 id
def z2 : State := pw 1 0 1 (fun p => {p with goal := 2})
def z3 : State := pw 2 0 2 id
def z4 : State := pw 2 0 2 (fun p => { p with answers := all1.filter (fun e => e.1 != 1) , askAt := 100000 })
def z5 : State := { pw 2 0 2 late with ctxs := busy.ctxs }
def z6 : State := pw 3 0 2 (fun p => {p with goal := 2})
def z7 : State := pw 4 0 2 (fun p => {p with goal := 2})
def z8 : State := with_ (pw 4 0 2 (fun p => {p with goal := 2, writes := [(0,1)]})) [(Reg.PWR_AVS.BUSY, 0, 1), (Reg.PWR_AVS.REQ_MV, 0, 800)]
def z9 : State := with_ (pw 4 0 2 (fun p => {p with goal := 2, writes := [(0,2)], raising := true})) [(Reg.PWR_AVS.BUSY, 0, 1), (Reg.PWR_AVS.REQ_MV, 0, 800)]
def z10 : State := with_ (pw 4 0 2 (fun p => {p with goal := 2, writes := [(0,2)], raising := false})) [(Reg.PWR_AVS.BUSY, 0, 1), (Reg.PWR_AVS.REQ_MV, 0, 800)]
def z11 : State := pw 5 3 0 (fun p => {p with raiseFailed := 1})
def z12 : State := pw 5 3 0 id
def z13 : State := pw 0 3 3 (fun p => {p with sample := true})
def z14 : State := with_ (pw 0 3 3 (fun p => {p with sample := true})) [(Reg.PWR_WAKE.PERST,0,1)]
def z15 : State := pw 0 0 2 (fun p => {p with retryAt := some 5})
def z16 : State := up
def z17 : State := pw 0 2 2 id

theorem test_powerEntry_premises : (
    (let s : State := z0; decide ((s.serving = true) ∧ (s.pphase = 0) ∧ (s.pstate < s.ptarget) ∧ (s.working = false) ∧ (s.rd Reg.PWR_CFG.IDLE_WAIT ≤ s.pwr.idle) ∧ (s.pwr.retryAt = none)))
    && (let s : State := z1; decide ((s.serving = true) ∧ (s.pphase = 1) ∧ (s.mustAbandon = false) ∧ (s.prepared = true)))
    && (let s : State := z5; let d : Fin 160 := 6; decide ((s.serving = true) ∧ (s.pphase = 2) ∧ (s.domState ↑d ≠ 3) ∧ (Tbl.get 0 s.pwr.answers ↑d ≠ 1) ∧ (s.domainAnswer ↑d = 2)))
    && (let s : State := z3; let d : Fin 160 := 0; decide ((s.serving = true) ∧ (s.pphase = 2) ∧ (s.domState ↑d ≠ 3) ∧ (Tbl.get 0 s.pwr.answers ↑d ≠ 1) ∧ (s.domainAnswer ↑d ≠ 2) ∧ ((s.setPwr (have __src := s.pwr; { goal := __src.goal, origin := __src.origin, startAt := __src.startAt, answers := Tbl.set 0 s.pwr.answers (↑d) (s.domainAnswer ↑d), askAt := __src.askAt, waiting := __src.waiting, wroteAt := __src.wroteAt, writes := __src.writes, before := __src.before, raiseFailed := __src.raiseFailed, raising := __src.raising, wakeAt := __src.wakeAt, exitTo := __src.exitTo, retryAt := __src.retryAt, idle := __src.idle, sample := __src.sample, fullClock := __src.fullClock, work := __src.work })).allAccepted = false)))
    && (let s : State := z4; let d : Fin 160 := 1; decide ((s.serving = true) ∧ (s.pphase = 2) ∧ (s.domState ↑d ≠ 3) ∧ (Tbl.get 0 s.pwr.answers ↑d ≠ 1) ∧ (s.domainAnswer ↑d ≠ 2) ∧ ((s.setPwr (have __src := s.pwr; { goal := __src.goal, origin := __src.origin, startAt := __src.startAt, answers := Tbl.set 0 s.pwr.answers (↑d) (s.domainAnswer ↑d), askAt := __src.askAt, waiting := __src.waiting, wroteAt := __src.wroteAt, writes := __src.writes, before := __src.before, raiseFailed := __src.raiseFailed, raising := __src.raising, wakeAt := __src.wakeAt, exitTo := __src.exitTo, retryAt := __src.retryAt, idle := __src.idle, sample := __src.sample, fullClock := __src.fullClock, work := __src.work })).allAccepted = true) ∧ (s.mustAbandon = false)))
    && (let s : State := z3; let d : Nat := 0; decide ((s.serving = true) ∧ (s.pphase = 2) ∧ (s.pwr.askAt + 16 ≤ s.frame) ∧ (List.find? (fun d => s.domState d != 3 && Tbl.get 0 s.pwr.answers d != 1) (List.range 160) = some d)))
    && (let s : State := z6; decide ((s.serving = true) ∧ (s.pphase = 3) ∧ (s.mustAbandon = false)))
    && (let s : State := z2; let e : Nat × Instr × Nat := (1, Instr.prepareEnd, 0); decide ((s.serving = true) ∧ (s.mustAbandon = true) ∧ (e ∈ [(1, Instr.prepareEnd, 0), (3, Instr.quiesceEnd, 2), (4, Instr.powerCommit, 3)]) ∧ (s.pphase = e.fst)))) = true := by decide +kernel

theorem test_powerRails_premises : (
    (let s : State := z8; let r : Fin 3 := 0; let mv : Nat := 784; decide ((s.sup.coreUp = true) ∧ (s.on Reg.PWR_AVS.BUSY ↑r = true) ∧ (railOk mv (s.rd Reg.PWR_AVS.REQ_MV ↑r) = true)))
    && (let s : State := z8; let r : Fin 3 := 0; decide ((s.sup.coreUp = true) ∧ (s.on Reg.PWR_AVS.BUSY ↑r = true) ∧ (Tbl.get 0 s.pwr.wroteAt ↑r + 10 ≤ s.frame) ∧ (Tbl.get 0 s.pwr.writes ↑r < 2)))
    && (let s : State := z9; let r : Fin 3 := 0; decide ((s.sup.coreUp = true) ∧ (s.on Reg.PWR_AVS.BUSY ↑r = true) ∧ (Tbl.get 0 s.pwr.wroteAt ↑r + 10 ≤ s.frame) ∧ (2 ≤ Tbl.get 0 s.pwr.writes ↑r) ∧ (s.pwr.raising = true)))
    && (let s : State := z10; let r : Fin 3 := 0; decide ((s.sup.coreUp = true) ∧ (s.on Reg.PWR_AVS.BUSY ↑r = true) ∧ (Tbl.get 0 s.pwr.wroteAt ↑r + 10 ≤ s.frame) ∧ (2 ≤ Tbl.get 0 s.pwr.writes ↑r) ∧ (s.pwr.raising = false)))
    && (let s : State := z11; let r : Fin 3 := 0; decide ((s.sup.coreUp = true) ∧ (s.pwr.raiseFailed.testBit ↑r = true) ∧ (s.on Reg.PWR_AVS.BUSY ↑r = false) ∧ (Tbl.get 0 s.pwr.wroteAt ↑r + 100 ≤ s.frame)))
    && (let s : State := z7; decide ((s.serving = true) ∧ (s.pphase = 4) ∧ (s.mustAbandon = false) ∧ (s.railsDone = true)))
    && (let s : State := z14; decide ((s.serving = true) ∧ (s.pwr.sample = true) ∧ (s.pphase = 0) ∧ (s.wakeSet = true)))
    && (let s : State := z13; decide ((s.serving = true) ∧ (s.pwr.sample = true) ∧ (s.pphase = 0) ∧ (s.wakeSet = false)))
    && (let s : State := z12; decide ((s.sup.coreUp = true) ∧ (s.pphase = 5) ∧ (s.railsDone = true)))
    && (let s : State := z15; let n : Nat := 5; decide ((s.pwr.retryAt = some n) ∧ (s.serving = true) ∧ (s.pphase = 0) ∧ (n ≤ s.frame)))) = true := by decide +kernel

theorem test_gatingAndWakes_premises : (
    (let s : State := z16; let d : Fin 160 := 0; decide ((s.serving = true) ∧ (s.domState ↑d = 0) ∧ (Tbl.get 0 s.pwr.work ↑d + 2 ≤ s.frame)))
    && (let s : State := z16; let d : Fin 160 := 6; decide ((s.serving = true) ∧ (s.domState ↑d < 2) ∧ (keepsPower ↑d = false) ∧ (Tbl.get 0 s.pwr.work ↑d + 16 ≤ s.frame)))
    && (let s : State := z16; let fn : Fn := 0; let c : Instr := Instr.clkreqAssert 0; decide ((s.sup.operating = true) ∧ (s.hasFn ↑fn = true) ∧ (c ∈ [Instr.clkreqAssert fn, Instr.electricalIdleExit fn]) ∧ (s.pphase = 0) ∧ (s.pstate < 2)))
    && (let s : State := z1; let fn : Fn := 0; let c : Instr := Instr.clkreqAssert 0; decide ((s.sup.operating = true) ∧ (s.hasFn ↑fn = true) ∧ (c ∈ [Instr.clkreqAssert fn, Instr.electricalIdleExit fn]) ∧ (s.pphase ≠ 0)))
    && (let s : State := z13; let fn : Fn := 0; let c : Instr := Instr.clkreqAssert 0; decide ((s.sup.operating = true) ∧ (s.hasFn ↑fn = true) ∧ (c ∈ [Instr.clkreqAssert fn, Instr.electricalIdleExit fn]) ∧ (s.pphase = 0) ∧ (2 ≤ s.pstate)))
    && (let s : State := z17; let fn : Fn := 0; decide ((s.serving = true) ∧ (s.hasFn ↑fn = true) ∧ (s.linkUp ↑fn = true) ∧ (s.pstate = 2) ∧ (s.pphase = 0)))) = true := by decide +kernel


end Power

namespace Admin

def big : State := { dev with bst := { dev.bst with fw := [(1, Tbl.get {} dev.bst.fw 1), (2, Tbl.get {} dev.bst.fw 1)] } }
def a (p : Packet) : State := withCtx big (adm p)
def rawp (opc d10 d11 : Nat) : Packet := BitVec.ofNat 512 (opc + 7 * 2 ^ 16 + (mkAddr 0 0 0 5 3 0) * 2 ^ 256 + d10 * 2 ^ 320 + d11 * 2 ^ 352)
def full (s : State) : State := with_ s [(Reg.CHN_POP.TARGETS,0,8), (Reg.CHN_POP.LUNS,0,4), (Reg.CHN_POP.PLANES,0,4), (Reg.CHN_ENG_STATUS.STATE, 0, 3), (Reg.CHN_RAW_ACT.RAW, 0, 1)]
def rb (s : State) (b : Blk) : State := { full s with blks := [(mkAddr 0 0 0 5 0 0 / 2 ^ 14, b)] }
def ra : State := rb (a (rawp 0x38 2 0)) { st := .raw, wp := some 4 }
def keyp (k : Nat) (first last : Nat) (opc : Nat := 0x20) : Packet := BitVec.ofNat 512 (opc + 7 * 2 ^ 16 + first * 2 ^ 256 + last * 2 ^ 352 + k * 2 ^ 320)
def jent (j rid base : Nat) : Nat := (1 + rid * 2 ^ 16 + base * 2 ^ 64 + 36 * 2 ^ 128) * 2 ^ (8 * (0x80 + 32 * j))
def jrec : Block := BitVec.ofNat 32768 (9 + 2 * 2 ^ 16 + 6 * 2 ^ 24 + 257 * 2 ^ 128 + jent 0 0x200 0 + jent 1 0x300 0 + jent 2 0x100 0 + jent 3 1 0 + jent 4 2 0 + jent 5 3 0)
def jn (s : State) : State := { s with sec := { s.sec with tk := some 4 } }
def raw3 : State := rb (withCtx big { adm (rawp 0x38 1 0) with walk := { segs := [(0x10000, 2^20)] } }) { st := .raw, wp := some 4 }
def z0 : State := a (apk 0x10 0)
def z1 : State := a (apk 0x32 0)
def z2 : State := withCtx big { adm (apk 0x11 2) with img := [1,2], result := 8 }
def z3 : State := a (apk 0x13 0x101)
def z4 : State := a (apk 0x3E 1 77)
def z5 : State := a (apk 0x3E 2 0 8192)
def z6 : State := ra
def z7 : State := raw3
def z8 : State := a (apk 0x12 5 1)
def z9 : State := a (apk 0x14 (2 + 2 ^ 10 + 3 * 2 ^ 16) 0 0 64 128)
def z10 : State := a (apk 0x16 1)
def z11 : State := a (apk 0x15 1)
def z12 : State := a (apk 0x15 9)
def z13 : State := { a (apk 0x15 1) with rings := [(0, ring0), (1, {ring0 with inflight := 3})] }
def z14 : State := { a (apk 0x16 1) with rings := [(0, ring0), (1, {ring0 with st := .resetting})] }
def z15 : State := a (apk 0x18 2)
def z16 : State := a (apk 0x1A 2 0 8192)
def z17 : State := a (apk 0x1A 1 0 8192)
def z18 : State := a (apk 0x12 0x105 1)
def z19 : State := a (keyp 0 0 0)
def z20 : State := a (keyp 1 0 0 0x21)
def z21 : State := { a (keyp 1 0 0 0x21) with sec := { big.sec with slots := [(1, {st := 1})] } }
def z22 : State := a (apk 0x30 (9 + 2 * 2 ^ 16))
def z23 : State := jn (a (apk 0x30 (9 + 2 * 2 ^ 16)))
def z24 : State := a (apk 0x31 0)
def z25 : State := with_ (a (apk 0x31 1)) [(Reg.GLI_STATUS.GROUP,0,4)]
def z26 : State := with_ (a (apk 0x31 0)) [(Reg.GLI_STATUS.GROUP,0,4), (Reg.GLI_STATUS.STATE,0,2)]
def z27 : State := a (apk 0x3C (4 * baseImage.length))
def z28 : State := with_ (a (apk 0x3C (4 * baseImage.length))) [(Reg.UCS_CTRL.LOCK,0,1)]
def z29 : State := with_ (a (apk 0x1B 2)) [(Reg.UCS_STATUS.SOURCE,0,1)]
def z30 : State := with_ (a (apk 0x1B 2)) [(Reg.BST_CTRL.LOCK,0,1)]

theorem test_adminData_premises : (
    (let s : State := z0; let c : CtxNo := 2; decide ((s.adminRuns (↑c) Opc.identify = true) ∧ (s.canSend (s.ctx ↑c).fn = true) ∧ ((s.ctx ↑c).walk.covers 4096 = true)))
    && (let s : State := z1; let c : CtxNo := 2; decide ((s.adminRuns (↑c) Opc.groupStatus = true) ∧ (s.canSend (s.ctx ↑c).fn = true) ∧ ((s.ctx ↑c).walk.covers 4096 = true)))
    && (let s : State := z2; let c : CtxNo := 2; decide ((s.adminRuns (↑c) Opc.getLog = true) ∧ (s.earlierRuns ↑c [Opc.getLog, Opc.fwDownload] = false) ∧ (s.canSend (s.ctx ↑c).fn = true) ∧ ((s.ctx ↑c).walk.covers (s.logBytes (s.ctx ↑c)).length = true)))
    && (let s : State := z3; let c : CtxNo := 2; decide (s.adminRuns (↑c) Opc.getFeature = true))
    && (let s : State := z4; let c : CtxNo := 2; decide ((s.adminRuns (↑c) Opc.diag = true) ∧ (pkDw (s.ctx ↑c).pkt 10 = 1)))
    && (let s : State := z5; let c : CtxNo := 2; let l : List Block := [5, 6]; decide ((s.adminRuns (↑c) Opc.diag = true) ∧ (pkDw (s.ctx ↑c).pkt 10 = 2) ∧ (s.canSend (s.ctx ↑c).fn = true) ∧ (4096 * l.length = pkDw (s.ctx ↑c).pkt 12)))
    && (let s : State := z7; let c : CtxNo := 2; decide ((s.adminRuns (↑c) Opc.rawRead = true) ∧ (s.rawFirst ↑c = true) ∧ (s.lunFailed (adChannel (pkMedia (s.ctx ↑c).pkt)) (adLunNo (pkMedia (s.ctx ↑c).pkt)) = false) ∧ ((s.blk (pkMedia (s.ctx ↑c).pkt)).st ≠ BlkSt.erasing) ∧ ((s.blk (pkMedia (s.ctx ↑c).pkt)).st ≠ BlkSt.eraseUnfin) ∧ (s.rawBusy (pkMedia (s.ctx ↑c).pkt) (pkPages (s.ctx ↑c).pkt) = false) ∧ (s.canSend (s.ctx ↑c).fn = true) ∧ ((s.ctx ↑c).walk.covers (s.rawBytes_ (s.ctx ↑c).pkt).length = true)))
    && (let s : State := z6; let c : CtxNo := 2; let k : Nat := 0; decide ((s.adminRuns (↑c) Opc.rawRead = true) ∧ (s.rawFirst ↑c = true) ∧ (s.lunFailed (adChannel (pkMedia (s.ctx ↑c).pkt)) (adLunNo (pkMedia (s.ctx ↑c).pkt)) = false) ∧ ((s.blk (pkMedia (s.ctx ↑c).pkt)).st ≠ BlkSt.erasing) ∧ ((s.blk (pkMedia (s.ctx ↑c).pkt)).st ≠ BlkSt.eraseUnfin) ∧ (s.rawBusy (pkMedia (s.ctx ↑c).pkt) (pkPages (s.ctx ↑c).pkt) = false) ∧ (pkBypass (s.ctx ↑c).pkt = false) ∧ (k < pkPages (s.ctx ↑c).pkt)))) = true := by decide +kernel

theorem test_adminChanges_premises : (
    (let s : State := z8; let c : CtxNo := 2; decide ((s.adminRuns (↑c) Opc.setFeature = true) ∧ ((pkDw (s.ctx ↑c).pkt 10).testBit 8 = false)))
    && (let s : State := z9; let c : CtxNo := 2; decide ((s.adminRuns (↑c) Opc.ringCreate = true) ∧ ((s.ring (s.ctx ↑c).fn (pkBits (s.ctx ↑c).pkt 10 0 10)).st = RingSt.absent)))
    && (let s : State := z12; let c : CtxNo := 2; let cmd : Instr := Instr.ringDelete 2; decide ((cmd ∈ [Instr.ringReset c, Instr.ringDelete c]) ∧ (s.adminRuns (↑c) Opc.ringReset = true ∧ cmd = Instr.ringReset c ∨ s.adminRuns (↑c) Opc.ringDelete = true ∧ cmd = Instr.ringDelete c) ∧ ((s.ring (s.ctx ↑c).fn (pkBits (s.ctx ↑c).pkt 10 0 10)).st = RingSt.absent)))
    && (let s : State := z14; let c : CtxNo := 2; let cmd : Instr := Instr.ringReset 2; decide ((cmd ∈ [Instr.ringReset c, Instr.ringDelete c]) ∧ (s.adminRuns (↑c) Opc.ringReset = true ∧ cmd = Instr.ringReset c ∨ s.adminRuns (↑c) Opc.ringDelete = true ∧ cmd = Instr.ringDelete c) ∧ ((s.ring (s.ctx ↑c).fn (pkBits (s.ctx ↑c).pkt 10 0 10)).st = RingSt.resetting)))
    && (let s : State := z13; let c : CtxNo := 2; let cmd : Instr := Instr.ringDelete 2; decide ((cmd ∈ [Instr.ringReset c, Instr.ringDelete c]) ∧ (s.adminRuns (↑c) Opc.ringReset = true ∧ cmd = Instr.ringReset c ∨ s.adminRuns (↑c) Opc.ringDelete = true ∧ cmd = Instr.ringDelete c) ∧ ((s.ring (s.ctx ↑c).fn (pkBits (s.ctx ↑c).pkt 10 0 10)).st = RingSt.active ∨ (s.ring (s.ctx ↑c).fn (pkBits (s.ctx ↑c).pkt 10 0 10)).st = RingSt.error) ∧ (pkBits (s.ctx ↑c).pkt 10 0 10 ≠ 0) ∧ ((s.ring (s.ctx ↑c).fn (pkBits (s.ctx ↑c).pkt 10 0 10)).inflight ≠ 0)))
    && (let s : State := z11; let c : CtxNo := 2; let cmd : Instr := Instr.ringDelete 2; decide ((cmd ∈ [Instr.ringReset c, Instr.ringDelete c]) ∧ (s.adminRuns (↑c) Opc.ringReset = true ∧ cmd = Instr.ringReset c ∨ s.adminRuns (↑c) Opc.ringDelete = true ∧ cmd = Instr.ringDelete c) ∧ ((s.ring (s.ctx ↑c).fn (pkBits (s.ctx ↑c).pkt 10 0 10)).st = RingSt.active ∨ (s.ring (s.ctx ↑c).fn (pkBits (s.ctx ↑c).pkt 10 0 10)).st = RingSt.error) ∧ (pkBits (s.ctx ↑c).pkt 10 0 10 ≠ 0) ∧ ((s.ring (s.ctx ↑c).fn (pkBits (s.ctx ↑c).pkt 10 0 10)).inflight = 0) ∧ (cmd = Instr.ringDelete c)))
    && (let s : State := z10; let c : CtxNo := 2; let cmd : Instr := Instr.ringReset 2; decide ((cmd ∈ [Instr.ringReset c, Instr.ringDelete c]) ∧ (s.adminRuns (↑c) Opc.ringReset = true ∧ cmd = Instr.ringReset c ∨ s.adminRuns (↑c) Opc.ringDelete = true ∧ cmd = Instr.ringDelete c) ∧ ((s.ring (s.ctx ↑c).fn (pkBits (s.ctx ↑c).pkt 10 0 10)).st = RingSt.active ∨ (s.ring (s.ctx ↑c).fn (pkBits (s.ctx ↑c).pkt 10 0 10)).st = RingSt.error) ∧ (pkBits (s.ctx ↑c).pkt 10 0 10 ≠ 0) ∧ ((s.ring (s.ctx ↑c).fn (pkBits (s.ctx ↑c).pkt 10 0 10)).inflight = 0) ∧ (cmd = Instr.ringReset c)))
    && (let s : State := z15; let c : CtxNo := 2; decide (s.adminRuns (↑c) Opc.powerState = true))
    && (let s : State := z17; let c : CtxNo := 2; decide ((s.adminRuns (↑c) Opc.fwDownload = true) ∧ (s.earlierRuns ↑c [Opc.getLog, Opc.fwDownload] = false) ∧ (s.fwRefused (s.ctx ↑c).pkt = true)))
    && (let s : State := z16; let c : CtxNo := 2; let l : List Block := [5, 6]; decide ((s.adminRuns (↑c) Opc.fwDownload = true) ∧ (s.earlierRuns ↑c [Opc.getLog, Opc.fwDownload] = false) ∧ (s.fwRefused (s.ctx ↑c).pkt = false) ∧ (4096 * l.length = pkDw (s.ctx ↑c).pkt 12)))
    && (let s : State := z16; let c : CtxNo := 2; decide ((s.adminRuns (↑c) Opc.fwDownload = true) ∧ (s.earlierRuns ↑c [Opc.getLog, Opc.fwDownload] = false) ∧ (s.fwRefused (s.ctx ↑c).pkt = false)))) = true := by decide +kernel

theorem test_persistentCommands_premises : (
    (let s : State := z18; let c : CtxNo := 2; decide ((s.adminTurn ↑c = true) ∧ (s.adminRuns (↑c) Opc.setFeature = true) ∧ ((pkDw (s.ctx ↑c).pkt 10).testBit 8 = true)))
    && (let s : State := z19; let c : CtxNo := 2; let r : BitVec 512 := 0; let pointOk : Bool := false; let u : Option (BitVec 256) := none; let st : Nat := 2; decide ((s.adminTurn ↑c = true) ∧ (s.adminRuns (↑c) Opc.keyLoad = true) ∧ (s.keyLoadStatus (s.ctx ↑c).pkt r pointOk u = some st)))
    && (let s : State := z19; let c : CtxNo := 2; let r : BitVec 512 := 2; let pointOk : Bool := false; let u : Option (BitVec 256) := none; decide ((s.adminTurn ↑c = true) ∧ (s.adminRuns (↑c) Opc.keyLoad = true) ∧ (s.keyLoadStatus (s.ctx ↑c).pkt r pointOk u = none)))
    && (let s : State := z21; let c : CtxNo := 2; decide ((s.adminTurn ↑c = true) ∧ (s.adminRuns (↑c) Opc.keyRoll = true) ∧ ((s.keySlot (pkBits (s.ctx ↑c).pkt 10 0 12)).rollable = true)))
    && (let s : State := z20; let c : CtxNo := 2; decide ((s.adminTurn ↑c = true) ∧ (s.adminRuns (↑c) Opc.keyRoll = true) ∧ ((s.keySlot (pkBits (s.ctx ↑c).pkt 10 0 12)).rollable = false)))
    && (let s : State := z22; let c : CtxNo := 2; let r : Block := 0; let u : Option (BitVec 256) := none; let st : Nat := 2; decide ((s.adminTurn ↑c = true) ∧ (s.adminRuns (↑c) Opc.groupJoin = true) ∧ (s.joinStatus (s.ctx ↑c).pkt r u = some st)))
    && (let s : State := z23; let c : CtxNo := 2; let r : Block := jrec; let u : Option (BitVec 256) := some 0; decide ((s.adminTurn ↑c = true) ∧ (s.adminRuns (↑c) Opc.groupJoin = true) ∧ (s.joinStatus (s.ctx ↑c).pkt r u = none)))
    && (let s : State := z24; let c : CtxNo := 2; decide ((s.adminTurn ↑c = true) ∧ (s.adminRuns (↑c) Opc.groupLeave = true) ∧ (s.group.leaver ≠ ↑c + 1) ∧ (s.member = false)))
    && (let s : State := z25; let c : CtxNo := 2; decide ((s.adminTurn ↑c = true) ∧ (s.adminRuns (↑c) Opc.groupLeave = true) ∧ (s.group.leaver ≠ ↑c + 1) ∧ (s.member = true) ∧ ((pkDw (s.ctx ↑c).pkt 10).testBit 0 = true)))
    && (let s : State := z26; let c : CtxNo := 2; decide ((s.adminTurn ↑c = true) ∧ (s.adminRuns (↑c) Opc.groupLeave = true) ∧ (s.group.leaver ≠ ↑c + 1) ∧ (s.member = true) ∧ ((pkDw (s.ctx ↑c).pkt 10).testBit 0 = false) ∧ (s.gstate = 2)))
    && (let s : State := z28; let c : CtxNo := 2; let g : List Word := baseImage; let sig : Bool := false; let st : Nat := 7; let off : Nat := 0; decide ((s.adminTurn ↑c = true) ∧ (s.adminRuns (↑c) Opc.ucodeLoad = true) ∧ (s.soleLoad ↑c = true) ∧ (4 * g.length = pkDw (s.ctx ↑c).pkt 10) ∧ (ucodeCheck s g (pkDw (s.ctx ↑c).pkt 10) sig s.lunIds = some (st, off))))
    && (let s : State := z30; let c : CtxNo := 2; decide ((s.adminTurn ↑c = true) ∧ (s.adminRuns (↑c) Opc.fwActivate = true) ∧ (s.soleLoad ↑c = true) ∧ (s.activatable (pkDw (s.ctx ↑c).pkt 10) = false)))) = true := by decide +kernel


/-- The base image passes the word checks of R303. -/
theorem test_baseImage_words : wordsBad baseImage = none := by decide +kernel

/-- UCODE_LOAD of the base image is accepted. -/
theorem test_ucodeLoad_accepts : (z27.adminTurn 2 && z27.adminRuns 2 Opc.ucodeLoad && z27.soleLoad 2
    && decide (4 * baseImage.length = pkDw (z27.ctx 2).pkt 10)) = true
    ∧ ucodeCheck z27 baseImage (pkDw (z27.ctx 2).pkt 10) true z27.lunIds = none := by
  refine ⟨by decide +kernel, ?_⟩
  have h1 : z27.on Reg.UCS_CTRL.LOCK = false := by decide +kernel
  have h2 : headerBad baseImage (pkDw (z27.ctx 2).pkt 10) = none := by decide +kernel
  have h3 : ¬ imgVersion baseImage < imgVersion z27.ucode.active := by decide +kernel
  have h4 : z27.imgFits baseImage z27.lunIds = true := by decide +kernel
  simp [ucodeCheck, h1, h2, h3, h4, test_baseImage_words]

/-- FW_ACTIVATE of a slot that passes, with a base image that passes, while another image runs. -/
theorem test_fwActivate_passes : (z29.adminTurn 2 && z29.adminRuns 2 Opc.fwActivate && z29.soleLoad 2 && z29.activatable 2
    && z29.fwPasses 2 true && z29.rd Reg.UCS_STATUS.SOURCE != 0) = true ∧ (z29.fwSlot 2).baseOk = true := by
  refine ⟨by decide +kernel, ?_⟩
  have h1 : (z29.fwSlot 2).base = baseImage := by decide +kernel
  have h2 : headerBad baseImage (4 * baseImage.length) = none := by decide +kernel
  simp [FwSlot.baseOk, h1, h2, test_baseImage_words]


end Admin

namespace Keys

def big : State := { dev with bst := { dev.bst with fw := [(1, Tbl.get {} dev.bst.fw 1), (2, Tbl.get {} dev.bst.fw 1)] } }
def a (p : Packet) : State := withCtx big (adm p)
def rawp (opc d10 d11 : Nat) : Packet := BitVec.ofNat 512 (opc + 7 * 2 ^ 16 + (mkAddr 0 0 0 5 3 0) * 2 ^ 256 + d10 * 2 ^ 320 + d11 * 2 ^ 352)
def full (s : State) : State := with_ s [(Reg.CHN_POP.TARGETS,0,8), (Reg.CHN_POP.LUNS,0,4), (Reg.CHN_POP.PLANES,0,4), (Reg.CHN_ENG_STATUS.STATE, 0, 3), (Reg.CHN_RAW_ACT.RAW, 0, 1)]
def rb (s : State) (b : Blk) : State := { full s with blks := [(mkAddr 0 0 0 5 0 0 / 2 ^ 14, b)] }
def keyp (k : Nat) (first last : Nat) (opc : Nat := 0x20) : Packet := BitVec.ofNat 512 (opc + 7 * 2 ^ 16 + first * 2 ^ 256 + last * 2 ^ 352 + k * 2 ^ 320)
def z0 : State := { a (keyp 1 0 0 0x22) with sec := { big.sec with slots := [(1, {st := 1})] } }
def z1 : State := a (keyp 1 0 0 0x22)
def z2 : State := { a (keyp 1 0 0 0x22) with sec := { big.sec with slots := [(1, {st := 2, purger := 3})] } }
def z3 : State := { big with sec := { big.sec with slots := [(1, {st := 1, sweep := 3, epoch := 4})] } }
def z4 : State := a (apk 0x10 0)
def z5 : State := rb (a (rawp 0x39 2 0)) { st := .raw, wp := some 3 }
def z6 : State := a (rawp 0x39 2 0)
def z7 : State := rb (a (rawp 0x3A 2 2)) { st := .raw, wp := some 9, slc := false }
def z8 : State := with_ big [(Reg.SEC_STATUS.DEBUG,0,1)]
def z9 : State := with_ big [(Reg.CHN_ENG_CTRL.LOCK,1,1)]
def z10 : State := { big with bst := { big.bst with queue := [.image, .remap] } }

theorem test_keySlots_premises : (
    (let s : State := z0; let c : CtxNo := 2; decide ((s.adminRuns (↑c) Opc.keyPurge = true) ∧ ((s.keySlot (pkBits (s.ctx ↑c).pkt 10 0 12)).purger ≠ ↑c + 1) ∧ ((s.keySlot (pkBits (s.ctx ↑c).pkt 10 0 12)).st = 1)))
    && (let s : State := z1; let c : CtxNo := 2; decide ((s.adminRuns (↑c) Opc.keyPurge = true) ∧ ((s.keySlot (pkBits (s.ctx ↑c).pkt 10 0 12)).purger ≠ ↑c + 1) ∧ ((s.keySlot (pkBits (s.ctx ↑c).pkt 10 0 12)).st ≠ 1)))
    && (let s : State := z2; let k : Nat := 1; let y : KeySlot := { st := 2, base := 0, autoRoll := false, generated := false, first := 0, last := 0, epoch := 0, oldest := 0, usage := 0, warned := false, ctr := [], floor := 0, marks := [], purger := 3, sweep := 0 }; decide ((s.serving = true) ∧ (s.purgeable = some (k, y))))
    && (let s : State := z3; let k : Nat := 1; let y : KeySlot := { st := 1, base := 0, autoRoll := false, generated := false, first := 0, last := 0, epoch := 4, oldest := 0, usage := 0, warned := false, ctr := [], floor := 0, marks := [], purger := 0, sweep := 3 }; decide ((s.serving = true) ∧ (List.find? (fun e => e.snd.sweep != 0 && !s.staleEpoch e.fst (e.snd.sweep - 1)) s.sec.slots = some (k, y))))) = true := by decide +kernel

theorem test_rawAndDebug_premises : (
    (let s : State := z6; let c : CtxNo := 2; decide ((s.adminRuns (↑c) Opc.rawProgram = true) ∧ (s.rawFirst ↑c = true) ∧ (s.rawUse (pkMedia (s.ctx ↑c).pkt) = false)))
    && (let s : State := z5; let c : CtxNo := 2; decide ((s.adminRuns (↑c) Opc.rawProgram = true) ∧ (s.rawFirst ↑c = true) ∧ (s.rawUse (pkMedia (s.ctx ↑c).pkt) = true)))
    && (let s : State := z7; let c : CtxNo := 2; decide ((s.adminRuns (↑c) Opc.rawErase = true) ∧ (s.rawFirst ↑c = true) ∧ (s.rawUse (pkMedia (s.ctx ↑c).pkt) = true)))
    && (let s : State := z4; let fn : Fn := 0; let ch : Chan := 0; decide ((s.reachable ↑fn = true) ∧ ((s.wakeTlp ↑fn).on Reg.CHN_ENG_CTRL.LOCK ↑ch = false)))
    && (let s : State := z9; let fn : Fn := 0; let ch : Chan := 1; decide ((s.reachable ↑fn = true) ∧ ((s.wakeTlp ↑fn).on Reg.CHN_ENG_CTRL.LOCK ↑ch = true)))
    && (let s : State := z4; decide ((s.serving = true) ∧ (s.rd Reg.SEC_STATUS.DEBUG < 2)))
    && (let s : State := z8; decide ((s.serving = true) ∧ (s.rd Reg.SEC_STATUS.DEBUG = 1)))
    && (let s : State := z10; let o : StoreOp := StoreOp.image; let l : List StoreOp := [StoreOp.remap]; decide (s.bst.queue = o :: l))) = true := by decide +kernel


end Keys

namespace Ftl

def rg (l : List RangeEnt) (s : State) : State := { s with ftl := { s.ftl with ranges := l } }
def jn (f : Journal → Journal) (s : State) : State := { s with ftl := { s.ftl with journal := f s.ftl.journal } }
def mx (s : State) (m : Tbl MapEnt) (v : List Version) : State := { s with ftl := { s.ftl with map := m, versions := v } }
def blkA : Nat := mkAddr 0 0 0 5 0 0
def pops (s : State) : State := with_ s [(Reg.CHN_POP.TARGETS,0,8), (Reg.CHN_POP.LUNS,0,4), (Reg.CHN_POP.PLANES,0,4), (Reg.CHN_ENG_STATUS.STATE, 0, 3)]
def band0 (opened : Bool) : Band := { number := 3, dieSet := 0, kind := .host, slc := false, channels := 1, blocks := [(0, 5)], empty := 0, openedAt := 0, isOpen := opened, closedAt := 0, next := 9, stripes := [] }
def er (s : State) : State := { pops s with bands := [band0 false], blks := (List.range 4).map (fun p => (mkAddr 0 0 p 5 0 0 / 2 ^ 14, ({ st := .closed, band := 4, wp := some 9, erases := 3000 } : Blk))) }
def ewd : State := { er dev with group := { dev.group with stripes := [{ num := 2, k := 3, p := 3, q := 4, vacant := 0, view := 3, st := .sealed, grans := [{ off := 0, head := {}, data := .zero, addr := 81921, withdrawn := true }] }] } }
def z0 : State := rg [{ osn := 20, zeroes := false, firstIu := 817, count := 5, st := .committed }] (mx dev [(3, .zeroed), (817, .media 64), (818, .media 68), (819, .zeroed)] [{ver 30 818 1 .staged with data := [(0, .zero)]}])
def z1 : State := er dev
def z2 : State := jn (fun j => { j with bytes := 2 ^ 30, batch := 5, ckpt := 2 }) (mx dev [(3, .zeroed)] [])
def z3 : State := jn (fun j => { j with bytes := 2 ^ 32 }) dev
def z4 : State := ewd
def z5 : State := { er dev with sched := { dev.sched with made := true } }
def z6 : State := { (pops dev) with sched := { dev.sched with overs := 10, energy := 5 }, luns := [(0, { st := .busy, op := some { kind := .erase, addr := blkA, planes := 1, slc := false, cls := .gc, entry := 16 }, endAt := 100500, pcls := 1 , wait := 1})] }

theorem test_rangesApplied_premises : (
    (let s : State := z0; let e : Fin 64 := 0; let r : RangeEnt := { osn := 20, zeroes := false, firstIu := 817, count := 5, st := RangeSt.committed }; decide ((s.rangeAt ↑e = some r) ∧ (r.count ≠ 0) ∧ (r.st = RangeSt.committed ∨ r.st = RangeSt.adopted) ∧ (s.serving = true) ∧ (∀ k < min r.count (819 - r.firstIu % 819), s.readsPast (r.firstIu + k) r.osn = true)))) = true := by decide +kernel

theorem test_spaceManagement_premises : (
    (let s : State := z0; decide ((s.serving = true) ∧ (s.boot.stage ≠ Stage.grind)))
    && (let s : State := z1; let a : Nat := 81920; decide ((s.serving = true) ∧ (s.erasable a = true) ∧ ((s.withdraw (onBlock s a)).allWithdrawn (onBlock s a) = true)))
    && (let s : State := z4; let a : Nat := 81920; decide ((s.serving = true) ∧ (s.erasable a = true) ∧ ((s.withdraw (onBlock s a)).allWithdrawn (onBlock s a) = false)))
    && (let s : State := z1; decide ((s.serving = true) ∧ (s.rd Reg.FTL_WEAR_CFG.SPREAD_LIMIT < s.refreshWear.rd Reg.FTL_WEAR.MAX_EC - s.refreshWear.rd Reg.FTL_WEAR.MIN_EC)))
    && (let s : State := z2; decide ((s.serving = true) ∧ (s.ftl.journal.ckpt < s.ftl.journal.positionNow) ∧ (2 ^ 30 ≤ s.ftl.journal.bytes)))
    && (let s : State := z3; decide ((s.serving = true) ∧ (3 * 2 ^ 30 < s.ftl.journal.bytes)))
    && (let s : State := z3; decide ((s.serving = true) ∧ (2 ^ 32 ≤ s.ftl.journal.bytes) ∧ (s.ftl.journal.full = false)))) = true := by decide +kernel

theorem test_planMade_premises : (
    (let s : State := z0; decide ((s.sup.coreUp = true) ∧ (s.sched.made = false)))
    && (let s : State := z5; decide (s.sched.made = true))
    && (let s : State := z6; decide ((s.serving = true) ∧ (s.rd Reg.FRM_CFG.OVER_LIMIT ≤ s.sched.overs) ∧ (s.sched.energy < s.carriedLoad)))) = true := by decide +kernel


end Ftl

namespace Channels

def pops (s : State) : State := with_ s [(Reg.CHN_POP.TARGETS,0,8), (Reg.CHN_POP.LUNS,0,4), (Reg.CHN_POP.PLANES,0,4), (Reg.CHN_POP.TARGETS,1,4), (Reg.CHN_POP.LUNS,1,4), (Reg.CHN_POP.PLANES,1,4), (Reg.CHN_ENG_STATUS.STATE, 0, 3), (Reg.CHN_SUSP_CFG.E_EN, 0, 1), (Reg.CHN_SUSP_CFG.P_EN, 0, 1)]
def pd : State := pops dev
def o1 : Op := { kind := .erase, addr := mkAddr 0 0 0 5 0 0, planes := 1, slc := false, cls := .gc, entry := 16, len := 3000 }
def o2 : Op := { o1 with kind := .read, cls := .rd }
def lu (u : Lun) (s : State := pd) : State := { s with luns := [(0, u)] }
def ch (x : Chn) : State := { pd with chns := [(0, x)] }
def uc (f : Ucode → Ucode) (p : Nat) (s : State := pd) : State := with_ { s with ucode := f s.ucode } [(Reg.UCS_STATUS.SWAP_PENDING, 0, p)]
def d0 (st : DecSt) : Dec := { addr := mkAddr 0 0 0 5 3 0, cw := 1, ctx := 3, blk := 1, cls := .rd, st := st }
def rowBand : Band := { number := 3, dieSet := 0, kind := .host, slc := false, channels := 1, blocks := [(0, 5)], empty := 0, openedAt := 0, isOpen := false, closedAt := 0, next := 9, stripes := [] }
def dec (st : DecSt) : State := { withCtx pd (wr0 1 .moving) with decs := [d0 st, { d0 st with cw := 2 }], pages := [((d0 st).addr, { iu := 5, blocks := [.zero, .zero, .zero] })], bands := [rowBand], blks := [(mkAddr 0 0 0 5 0 0 / 2 ^ 14, ({ st := .closed, band := 4 } : Blk))] }
def z0 : State := with_ pd [(Reg.CHN_ENG_STATUS.STATE, 0, 0)]
def z1 : State := with_ pd [(Reg.CHN_ENG_STATUS.STATE, 1, 0)]
def z2 : State := ch { zqNow := 7, reads := 4 }
def z3 : State := ch { retrain := 25, cause := 3, zqNow := 5 }
def z4 : State := lu { st := .busy, op := some o1, endAt := 100500, wait := 1, pcls := 2, queue := [o2] }
def z5 : State := lu { st := .busy, op := some o1, endAt := 99000, wait := 1, pcls := 2, progressAt := 5 }
def z6 : State := lu { st := .busy, op := some o1, endAt := 99950, wait := 3, pcls := 2 }
def z7 : State := { lu { st := .suspended, held := some (o1, {}, 3), heldAt := 0, pcls := 2 } with sched := { pd.sched with energy := 10^6 } }
def z8 : State := lu { st := .busy, op := some o1, overs := some 7, endAt := 0, applied := 3 }
def z9 : State := uc (fun u => { u with next := baseImage, swapAt := 5 }) 1
def z10 : State := uc (fun u => { u with next := baseImage, swapAt := 5, swapped := true, loader := 3 }) 1 (withCtx pd (adm (apk 0x3C 9) .committing))
def z11 : State := uc (fun u => { u with next := baseImage, swapAt := 5 }) 1 { pd with sup := { pd.sup with drain := .watchdog } }
def z12 : State := dec .hard
def z13 : State := dec .soft
def z14 : State := dec .row

theorem test_channelTraining_premises : (
    (let s : State := z0; let ch : Chan := 0; let rate : Fin 6 := 0; decide ((s.sup.coreUp = true) ∧ (3 ≤ s.boot.step) ∧ (s.rd Reg.CHN_POP.TARGETS ↑ch ≠ 0) ∧ (s.rd Reg.CHN_ENG_STATUS.STATE ↑ch < 3) ∧ (rate = 0 ∨ s.popDiffers ↑ch = true)))
    && (let s : State := z0; let ch : Chan := 0; let rate : Fin 6 := 1; decide ((s.sup.coreUp = true) ∧ (3 ≤ s.boot.step) ∧ (s.rd Reg.CHN_POP.TARGETS ↑ch ≠ 0) ∧ (s.rd Reg.CHN_ENG_STATUS.STATE ↑ch < 3) ∧ (rate ≠ 0) ∧ (s.popDiffers ↑ch = false)))
    && (let s : State := z1; let ch : Chan := 0; decide ((s.serving = true) ∧ (s.chanReady ↑ch = true)))
    && (let s : State := z2; let ch : Chan := 0; decide ((s.serving = true) ∧ (s.chanReady ↑ch = true) ∧ ((s.chn ↑ch).retrain = 0) ∧ (s.retrainCause ↑ch ≠ 0) ∧ ((List.filter (fun e => e.snd.retrain != 0) s.chns).length < 4)))
    && (let s : State := z3; let ch : Chan := 0; decide ((s.serving = true) ∧ ((s.chn ↑ch).retrain = 25)))) = true := by decide +kernel

theorem test_lunPhases_premises : (
    (let s : State := z4; let ch : Chan := 0; let lun : LunNo := 0; let o : Op := { kind := OpKind.erase, addr := 81920, planes := 1, slc := false, cls := Cls.gc, entry := 16, images := [], owner := OpFor.none, level := 0, faddr := 0, fval := 0, cws := 0, step := 0, len := 3000, left := 0, suspends := 0, resumed := false }; let bytes : List Nat := [96]; let rest : List Nat := []; let q : Machine.Seq := { c0 := 0, c1 := 0, c2 := 0, c3 := 0, pgo := 0, cwp := 0, plane := 0, latch := 96, hit := true }; decide ((s.sup.coreUp = true) ∧ ((s.lun ↑ch ↑lun).endAt ≠ 0) ∧ ((s.lun ↑ch ↑lun).offered = false) ∧ ((s.lun ↑ch ↑lun).overs = none) ∧ ((s.lun ↑ch ↑lun).wait < 2) ∧ (s.swapFrame s.frame = false) ∧ ((s.lun ↑ch ↑lun).op = some o) ∧ (s.poll (↑ch) (↑lun) o bytes = some (q, rest)) ∧ ((s.lun ↑ch ↑lun).st ≠ LunSt.resetting) ∧ (s.frame < (s.lun ↑ch ↑lun).endAt)))
    && (let s : State := z5; let ch : Chan := 0; let lun : LunNo := 0; let o : Op := { kind := OpKind.erase, addr := 81920, planes := 1, slc := false, cls := Cls.gc, entry := 16, images := [], owner := OpFor.none, level := 0, faddr := 0, fval := 0, cws := 0, step := 0, len := 3000, left := 0, suspends := 0, resumed := false }; let bytes : List Nat := [96]; let rest : List Nat := []; let q : Machine.Seq := { c0 := 0, c1 := 0, c2 := 0, c3 := 0, pgo := 0, cwp := 0, plane := 0, latch := 96, hit := true }; decide ((s.sup.coreUp = true) ∧ ((s.lun ↑ch ↑lun).endAt ≠ 0) ∧ ((s.lun ↑ch ↑lun).offered = false) ∧ ((s.lun ↑ch ↑lun).overs = none) ∧ ((s.lun ↑ch ↑lun).wait < 2) ∧ (s.swapFrame s.frame = false) ∧ ((s.lun ↑ch ↑lun).op = some o) ∧ (s.poll (↑ch) (↑lun) o bytes = some (q, rest)) ∧ ((s.lun ↑ch ↑lun).endAt ≤ s.frame)))
    && (let s : State := z6; let ch : Chan := 0; let lun : LunNo := 0; decide ((s.sup.coreUp = true) ∧ ((s.lun ↑ch ↑lun).op.isSome = true) ∧ ((s.lun ↑ch ↑lun).wait = 3) ∧ ((s.lun ↑ch ↑lun).endAt ≠ 0) ∧ ((s.lun ↑ch ↑lun).endAt ≤ s.frame) ∧ ((s.lun ↑ch ↑lun).offered = false)))
    && (let s : State := z4; let ch : Chan := 0; let lun : LunNo := 0; let o : Op := { kind := OpKind.erase, addr := 81920, planes := 1, slc := false, cls := Cls.gc, entry := 16, images := [], owner := OpFor.none, level := 0, faddr := 0, fval := 0, cws := 0, step := 0, len := 3000, left := 0, suspends := 0, resumed := false }; decide (((s.lun ↑ch ↑lun).op = some o) ∧ (s.serving = true) ∧ (s.maySuspend (↑ch) (↑lun) o = true)))
    && (let s : State := z7; let ch : Chan := 0; let lun : LunNo := 0; let o : Op := { kind := OpKind.erase, addr := 81920, planes := 1, slc := false, cls := Cls.gc, entry := 16, images := [], owner := OpFor.none, level := 0, faddr := 0, fval := 0, cws := 0, step := 0, len := 3000, left := 0, suspends := 0, resumed := false }; let q : Machine.Seq := { c0 := 0, c1 := 0, c2 := 0, c3 := 0, pgo := 0, cwp := 0, plane := 0, latch := 0, hit := false }; let cont : Nat := 3; decide ((s.serving = true) ∧ ((s.lun ↑ch ↑lun).st = LunSt.suspended) ∧ ((s.lun ↑ch ↑lun).op = none) ∧ ((s.lun ↑ch ↑lun).held = some (o, q, cont)) ∧ (s.carryFits (s.heldDraw ↑ch ↑lun) = true) ∧ ((s.lun ↑ch ↑lun).readWaits = false) ∧ ((s.lun ↑ch ↑lun).carried = false ∨ s.sched.suspending = false)))
    && (let s : State := z7; let ch : Chan := 0; let lun : LunNo := 0; let o : Op := { kind := OpKind.erase, addr := 81920, planes := 1, slc := false, cls := Cls.gc, entry := 16, images := [], owner := OpFor.none, level := 0, faddr := 0, fval := 0, cws := 0, step := 0, len := 3000, left := 0, suspends := 0, resumed := false }; let q : Machine.Seq := { c0 := 0, c1 := 0, c2 := 0, c3 := 0, pgo := 0, cwp := 0, plane := 0, latch := 0, hit := false }; let cont : Nat := 3; decide ((s.serving = true) ∧ ((s.lun ↑ch ↑lun).st = LunSt.suspended) ∧ ((s.lun ↑ch ↑lun).op = none) ∧ ((s.lun ↑ch ↑lun).held = some (o, q, cont)) ∧ (s.carryFits (s.heldDraw ↑ch ↑lun) = true) ∧ ((s.lun ↑ch ↑lun).heldAt + s.rd Reg.CHN_SUSP_CFG.HOLD_MAX ↑ch ≤ s.frame)))
    && (let s : State := z8; let ch : Chan := 0; let lun : LunNo := 0; let o : Op := { kind := OpKind.erase, addr := 81920, planes := 1, slc := false, cls := Cls.gc, entry := 16, images := [], owner := OpFor.none, level := 0, faddr := 0, fval := 0, cws := 0, step := 0, len := 3000, left := 0, suspends := 0, resumed := false }; let a : Nat := 7; decide (((s.lun ↑ch ↑lun).op = some o) ∧ ((s.lun ↑ch ↑lun).overs = some a)))
    && (let s : State := z5; let ch : Chan := 0; let lun : LunNo := 0; decide ((s.serving = true) ∧ ((s.lun ↑ch ↑lun).op.isSome = true) ∧ (max (s.lun ↑ch ↑lun).progressAt (s.lun ↑ch ↑lun).endAt + 100 ≤ s.frame)))
    && (let s : State := z1; let ch : Chan := 0; let fn : Fn := 0; decide ((s.reachable ↑fn = true) ∧ ((s.wakeTlp ↑fn).chanReady ↑ch = true)))) = true := by decide +kernel

theorem test_microcodeSwap_premises : (
    (let s : State := z9; decide ((s.on Reg.UCS_STATUS.SWAP_PENDING = true) ∧ (s.serving = true) ∧ (s.ucode.swapAt ≤ s.frame) ∧ (s.ucode.swapped = false)))
    && (let s : State := z11; decide ((s.on Reg.UCS_STATUS.SWAP_PENDING = true) ∧ (s.sup.coreUp = true) ∧ (s.serving = false)))
    && (let s : State := z10; decide ((s.on Reg.UCS_STATUS.SWAP_PENDING = true) ∧ (s.sup.coreUp = true) ∧ (s.ucode.swapped = true) ∧ (s.ucode.swapAt < s.frame)))) = true := by decide +kernel

theorem test_decodes_premises : (
    (let s : State := z12; let cw : Fin 16 := 1; let d : Dec := { addr := 81932, cw := 1, ctx := 3, blk := 1, cls := Cls.rd, st := DecSt.hard, senses := 0, level := 0, tried := [], best := none, softLeft := 0, badTag := false }; decide ((s.sup.coreUp = true) ∧ (d.cw = ↑cw) ∧ (s.decsAt d.addr (↑cw) DecSt.hard = [d])))
    && (let s : State := z12; let cw : Fin 16 := 1; let d : Dec := { addr := 81932, cw := 1, ctx := 3, blk := 1, cls := Cls.rd, st := DecSt.hard, senses := 0, level := 0, tried := [], best := none, softLeft := 0, badTag := false }; decide ((s.sup.coreUp = true) ∧ (d.cw = ↑cw) ∧ (s.decsAt d.addr (↑cw) DecSt.hard = [d]) ∧ (s.tagCheck (s.lbaOf d.addr d.cw) (s.codewordOf d.addr d.cw) = TagCheck.good) ∧ (d.ctx ≠ 0)))
    && (let s : State := z13; let cw : Fin 16 := 1; let d : Dec := { addr := 81932, cw := 1, ctx := 3, blk := 1, cls := Cls.rd, st := DecSt.soft, senses := 0, level := 0, tried := [], best := none, softLeft := 0, badTag := false }; decide ((s.sup.coreUp = true) ∧ (d.cw = ↑cw) ∧ (s.decsAt d.addr (↑cw) DecSt.soft = [d])))
    && (let s : State := z13; let cw : Fin 16 := 1; let d : Dec := { addr := 81932, cw := 1, ctx := 3, blk := 1, cls := Cls.rd, st := DecSt.soft, senses := 0, level := 0, tried := [], best := none, softLeft := 0, badTag := false }; decide ((s.sup.coreUp = true) ∧ (d.cw = ↑cw) ∧ (s.decsAt d.addr (↑cw) DecSt.soft = [d]) ∧ (s.tagCheck (s.lbaOf d.addr d.cw) (s.codewordOf d.addr d.cw) = TagCheck.good) ∧ (d.ctx ≠ 0)))
    && (let s : State := z14; let cw : Fin 16 := 1; let d : Dec := { addr := 81932, cw := 1, ctx := 3, blk := 1, cls := Cls.rd, st := DecSt.row, senses := 0, level := 0, tried := [], best := none, softLeft := 0, badTag := false }; decide ((s.sup.coreUp = true) ∧ (d.cw = ↑cw) ∧ (s.decsAt d.addr (↑cw) DecSt.row = [d]) ∧ (s.rowClosed d.addr = true) ∧ (s.tagCheck (s.lbaOf d.addr ↑cw) (s.codewordOf d.addr ↑cw) = TagCheck.good) ∧ (d.ctx ≠ 0)))) = true := by decide +kernel


end Channels

namespace Dram

def sc0 (x : Sc) (s : State := dev) (st : Nat := 3) : State := with_ { s with scs := [(0, x)] } [(Reg.DRC_SC.STATE, 0, st), (Reg.DRC_STATUS.IN_SERVICE, 0, 3)]
def A : BitVec 512 := 0x123456789ABCDEF0123456789ABCDEF
def xs : Sc := { swept := 3, lines := [(5, A), (7, 3)], banks := [(0, { opened := true, last := some 0 }), (9, { opened := true})], scrub := [5, 7], temps := [300] }
def mg (n : Nat) : Sc := { xs with merge := (List.range n).map (fun i => { line := i, mask := 3, data := A, blocked := i % 2 == 1 }) }
def z0 : State := sc0 xs
def z1 : State := sc0 { xs with steps := 700, trying := 3, temps := [-30, -31] } dev 1
def z2 : State := with_ (sc0 xs { dev with dram := { dev.dram with queue := [(0, 3), (1, 2)] } }) [(Reg.DRC_CFG.AGE_LIMIT, 0, 2)]
def z3 : State := sc0 (mg 3)
def z4 : State := sc0 (mg 32)

theorem test_dramControl_premises : (
    (let s : State := z1; let n : Fin 8 := 0; decide ((s.rd Reg.DRC_SC.STATE ↑n = 1 ∨ s.rd Reg.DRC_SC.STATE ↑n = 5) ∧ (666 ≤ (s.sc ↑n).steps) ∧ ((s.sc ↑n).trnBad = false) ∧ (s.serving = true)))
    && (let s : State := z2; let n : Fin 8 := 0; let cause : Nat := 3; let l : List (Nat × Nat) := [(1, 2)]; decide ((s.dram.queue = (↑n, cause) :: l) ∧ (s.serving = true) ∧ (s.on Reg.DRC_STATUS.TRN_BUSY = false) ∧ (s.rd Reg.DRC_SC.STATE ↑n = 3)))
    && (let s : State := z0; decide (s.serving = false ∨ s.dram.queue = [] ∨ s.on Reg.DRC_STATUS.TRN_BUSY = true))
    && (let s : State := z0; let n : Fin 8 := 0; decide ((s.scUp ↑n = true) ∧ (s.rd Reg.DRC_SC.STATE ↑n ≠ 7)))
    && (let s : State := z0; let n : Fin 8 := 0; let line : Nat := 0; let cls : Fin 4 := 0; let waited : Nat := 0; decide ((s.scUp ↑n = true) ∧ ((s.sc ↑n).promoted.contains line = false) ∧ (cls = 0 ∨ waited ≤ s.rd Reg.DRC_CFG.AGE_LIMIT)))
    && (let s : State := z0; let n : Fin 8 := 0; let line : Nat := 0; let cls : Fin 4 := 1; let waited : Nat := 40000; decide ((s.scUp ↑n = true) ∧ ((s.sc ↑n).promoted.contains line = false) ∧ (cls ≠ 0) ∧ (s.rd Reg.DRC_CFG.AGE_LIMIT < waited)))
    && (let s : State := z0; let n : Fin 8 := 0; let line : Nat := 5; let l : List Nat := [7]; decide (((s.sc ↑n).scrub = line :: l) ∧ (s.serving = true) ∧ (s.scUp ↑n = true) ∧ (s.rd Reg.DRC_SC.STATE ↑n ≠ 7)))
    && (let s : State := z0; let n : Fin 8 := 1; decide ((s.sc ↑n).scrub = []))) = true := by decide +kernel

theorem test_dramLines_premises : (
    (let s : State := z0; let n : Fin 8 := 0; let line : Nat := 1000000000; decide (s.lineServed n line = false))
    && (let s : State := z0; let n : Fin 8 := 0; let line : Nat := 0; decide (s.lineServed n line = true))
    && (let s : State := z0; let n : Fin 8 := 1; let line : Nat := 0; decide ((s.lineServed n line = true) ∧ ((s.sc ↑n).granuleUp (line / 16384) = false)))
    && (let s : State := z0; let n : Fin 8 := 0; let line : Nat := 0; let mask : BitVec 64 := 18446744073709551615; decide ((s.lineServed n line = true) ∧ ((s.sc ↑n).granuleUp (line / 16384) = true) ∧ (mask = BitVec.allOnes 64)))
    && (let s : State := z3; let n : Fin 8 := 0; let line : Nat := 0; let mask : BitVec 64 := 0; let m : Merge := { line := 0, mask := 3, data := 0x123456789abcdef0123456789abcdef, blocked := false }; decide ((s.lineServed n line = true) ∧ ((s.sc ↑n).granuleUp (line / 16384) = true) ∧ (mask ≠ BitVec.allOnes 64) ∧ (List.find? (fun m => m.line == line) (s.sc ↑n).merge = some m)))
    && (let s : State := z4; let n : Fin 8 := 0; let line : Nat := 40000; let mask : BitVec 64 := 0; decide ((s.lineServed n line = true) ∧ ((s.sc ↑n).granuleUp (line / 16384) = true) ∧ (mask ≠ BitVec.allOnes 64) ∧ (List.find? (fun m => m.line == line) (s.sc ↑n).merge = none) ∧ (32 ≤ (s.sc ↑n).merge.length)))
    && (let s : State := z0; let n : Fin 8 := 0; let line : Nat := 0; let mask : BitVec 64 := 0; decide ((s.lineServed n line = true) ∧ ((s.sc ↑n).granuleUp (line / 16384) = true) ∧ (mask ≠ BitVec.allOnes 64) ∧ (s.remapOf n line = none) ∧ ((s.sc ↑n).merge.length < 32)))) = true := by decide +kernel


end Dram

namespace Pool

def b0 (b : Buf) (q : List (Nat × Nat)) (s : State := dev) (o := 0) : State := with_ { s with pool := { s.pool with bufs := [(0, b), (1, { owner := 1, gen := 3, refs := 1})], queue := q } } [(Reg.BPM_OWN.USED, o, 2), (Reg.BPM_OWN.WAITING, 0, bit (q.any (·.1 == 0))), (Reg.BPM_OWN.USED, 1, 1)]
def z0 : State := up
def z1 : State := State.reset
def z2 : State := b0 { owner := 0, gen := 0, refs := 3 } []
def z3 : State := b0 { owner := 0, gen := 0, refs := 1 } [(0, 5), (1, 3)]

theorem test_bufferPool_premises : (
    (let s : State := z1; decide (s.sup.coreUp = false))
    && (let s : State := z0; let n : Nat := 0; decide ((s.sup.coreUp = true) ∧ (n = 0 ∨ 16 < n)))
    && (let s : State := z0; let o : Fin 8 := 0; let n : Nat := 1; decide ((s.sup.coreUp = true) ∧ (1 ≤ n) ∧ (n ≤ 16) ∧ (s.bufWaiting ↑o = false) ∧ (s.bufGrantable (↑o) n = true)))
    && (let s : State := z3; let o : Fin 8 := 0; let n : Nat := 1; decide ((s.sup.coreUp = true) ∧ (1 ≤ n) ∧ (n ≤ 16) ∧ (s.bufWaiting ↑o = true ∨ s.bufGrantable (↑o) n = false)))
    && (let s : State := z0; let handle : BitVec 18 := 0; let n : Fin 63 := 0; let c : Instr := Instr.bufferShare 0 0; decide (((s.buf (bitsOf handle.toNat 0 14)).refs = 0 ∨ (s.buf (bitsOf handle.toNat 0 14)).gen ≠ bitsOf handle.toNat 14 4) ∧ (c ∈ [Instr.bufferShare handle n, Instr.bufferRelease handle])))
    && (let s : State := z2; let handle : BitVec 18 := 0; let n : Fin 63 := 0; decide (((s.buf (bitsOf handle.toNat 0 14)).refs ≠ 0) ∧ ((s.buf (bitsOf handle.toNat 0 14)).gen = bitsOf handle.toNat 14 4) ∧ ((s.buf (bitsOf handle.toNat 0 14)).refs + ↑n ≤ 63)))
    && (let s : State := z2; let handle : BitVec 18 := 0; let n : Fin 63 := 62; decide (((s.buf (bitsOf handle.toNat 0 14)).refs ≠ 0) ∧ ((s.buf (bitsOf handle.toNat 0 14)).gen = bitsOf handle.toNat 14 4) ∧ (63 < (s.buf (bitsOf handle.toNat 0 14)).refs + ↑n)))
    && (let s : State := z2; let handle : BitVec 18 := 0; decide ((1 < (s.buf (bitsOf handle.toNat 0 14)).refs) ∧ ((s.buf (bitsOf handle.toNat 0 14)).gen = bitsOf handle.toNat 14 4)))
    && (let s : State := z2; let handle : BitVec 18 := 49153; decide (((s.buf (bitsOf handle.toNat 0 14)).refs = 1) ∧ ((s.buf (bitsOf handle.toNat 0 14)).gen = bitsOf handle.toNat 14 4) ∧ ((s.buf (bitsOf handle.toNat 0 14)).owner < 8) ∧ (s.pool.queue = [])))
    && (let s : State := z2; let handle : BitVec 18 := 49153; decide (((s.buf (bitsOf handle.toNat 0 14)).refs = 1) ∧ ((s.buf (bitsOf handle.toNat 0 14)).gen = bitsOf handle.toNat 14 4)))) = true := by decide +kernel


end Pool

namespace Engine

def e (t v d : Nat) : ThiEnt := { valid := true, table := t, value := v, care := 1, data := d }
def t1 (l : Tbl ThiEnt) (hr : Nat := 64) : State := with_ { thi0 with thi := l ++ thi0.thi.filter (fun e => e.1 ≥ 28672) } [(Reg.THI_CFG.HEAD_ROOM, 0, hr)]
def z0 : State := thi0
def z1 : State := with_ (t1 ((List.range 30).map (fun i => (24576 + 2 * i, e 1 i i)))) [(Reg.THI_TABLE.LAST, 1, 24679)]

theorem test_engine_premises : (
    (let s : State := z0; let tb : Fin 8 := 1; let key : BitVec 160 := 0; let mask : BitVec 80 := 0; let start : Fin 32768 := 24634; let f : Fin 4 := 0; let d : Int := 5; let c : Instr := Instr.thiSearch 1 0 0 24634; decide ((s.thiUp = true) ∧ (thiWinner (s.thiMatches (↑tb) key.toNat mask.toNat ↑start) = none) ∧ (c ∈ [Instr.thiSearch tb key mask start, Instr.searchAdd tb key mask start f d])))
    && (let s : State := z0; let tb : Fin 8 := 1; let key : BitVec 160 := 0; let mask : BitVec 80 := 0; let start : Fin 32768 := 0; let i : Nat := 24576; let e : ThiEnt := { valid := true, table := 1, prio := 1, value := 0, care := 0, data := 7 }; let m : Bool := true; decide ((s.thiUp = true) ∧ (thiWinner (s.thiMatches (↑tb) key.toNat mask.toNat ↑start) = some (i, e, m))))
    && (let s : State := z0; let tb : Fin 8 := 1; let key : BitVec 160 := 0; let care : BitVec 160 := 0; let prio : Fin 16 := 1; let unique : Bool := true; let i : Nat := 24576; let e : ThiEnt := { valid := true, table := 1, prio := 1, value := 0, care := 0, data := 7 }; decide ((s.thiUp = true) ∧ (unique = true) ∧ (List.find? (fun e => e.snd.value == key.toNat && (s.thiWidth ↑tb == 1 || e.snd.care == care.toNat) && e.snd.prio == ↑prio) (s.thiList ↑tb) = some (i, e))))
    && (let s : State := z0; let tb : Fin 8 := 1; let key : BitVec 160 := 0; let care : BitVec 160 := 0; let prio : Fin 16 := 1; let unique : Bool := false; let i : Nat := 24578; let l : List Nat := [24584, 24586, 24588, 24590]; decide ((s.thiUp = true) ∧ (unique = false ∨ List.find? (fun e => e.snd.value == key.toNat && (s.thiWidth ↑tb == 1 || e.snd.care == care.toNat) && e.snd.prio == ↑prio) (s.thiList ↑tb) = none) ∧ (s.thiFree ↑tb = i :: l)))
    && (let s : State := z0; let tb : Fin 8 := 3; let key : BitVec 160 := 0; let care : BitVec 160 := 0; let prio : Fin 16 := 1; let unique : Bool := false; decide ((s.thiUp = true) ∧ (unique = false ∨ List.find? (fun e => e.snd.value == key.toNat && (s.thiWidth ↑tb == 1 || e.snd.care == care.toNat) && e.snd.prio == ↑prio) (s.thiList ↑tb) = none) ∧ (s.thiFree ↑tb = [])))
    && (let s : State := z0; let tb : Fin 8 := 1; let before : Option (Fin 32768) := some 24578; let b : Fin 32768 := 24578; decide ((s.thiUp = true) ∧ (before = some b) ∧ (((s.thiList ↑tb).any fun p => p.fst == ↑b) = false)))
    && (let s : State := z0; let tb : Fin 8 := 1; let before : Option (Fin 32768) := some 24580; let x : Nat := 24580; let i : Nat := 24578; decide ((s.thiUp = true) ∧ (before = none ∧ x = (List.map (fun x => x.fst) (s.thiList ↑tb)).headD (s.thiEnd ↑tb) ∨ before.any (fun b => (s.thiList ↑tb).any (fun p => p.fst == b.val) && x == b.val) = true) ∧ ((List.filter (fun i => decide (i < x)) (s.thiFree ↑tb)).getLast? = some i)))
    && (let s : State := z1; let tb : Fin 8 := 1; let before : Option (Fin 32768) := none; let x : Nat := 24576; let hole : Nat := 24636; let l : List Nat := [24638, 24640, 24642, 24644, 24646, 24648, 24650, 24652, 24654, 24656, 24658, 24660, 24662, 24664, 24666, 24668, 24670, 24672, 24674, 24676, 24678]; decide ((s.thiUp = true) ∧ (before = none ∧ x = (List.map (fun x => x.fst) (s.thiList ↑tb)).headD (s.thiEnd ↑tb) ∨ before.any (fun b => (s.thiList ↑tb).any (fun p => p.fst == b.val) && x == b.val) = true) ∧ (List.filter (fun i => decide (i < x)) (s.thiFree ↑tb) = []) ∧ (List.filter (fun i => decide (x < i)) (s.thiFree ↑tb) = hole :: l) ∧ (15 < (hole - x) / s.thiWidth ↑tb)))
    && (let s : State := z0; let tb : Fin 8 := 1; let before : Option (Fin 32768) := none; let x : Nat := 24576; let hole : Nat := 24578; let l : List Nat := [24584, 24586, 24588, 24590]; decide ((s.thiUp = true) ∧ (before = none ∧ x = (List.map (fun x => x.fst) (s.thiList ↑tb)).headD (s.thiEnd ↑tb) ∨ before.any (fun b => (s.thiList ↑tb).any (fun p => p.fst == b.val) && x == b.val) = true) ∧ (List.filter (fun i => decide (i < x)) (s.thiFree ↑tb) = []) ∧ (List.filter (fun i => decide (x < i)) (s.thiFree ↑tb) = hole :: l) ∧ ((hole - x) / s.thiWidth ↑tb ≤ 15)))
    && (let s : State := z0; let tb : Fin 8 := 3; let before : Option (Fin 32768) := none; let x : Nat := 0; decide ((s.thiUp = true) ∧ (before = none ∧ x = (List.map (fun x => x.fst) (s.thiList ↑tb)).headD (s.thiEnd ↑tb) ∨ before.any (fun b => (s.thiList ↑tb).any (fun p => p.fst == b.val) && x == b.val) = true) ∧ (List.filter (fun i => decide (i < x)) (s.thiFree ↑tb) = []) ∧ (List.filter (fun i => decide (x < i)) (s.thiFree ↑tb) = [])))
    && (let s : State := z0; let tb : Fin 8 := 1; let i : Fin 32768 := 24576; decide ((s.thiUp = true) ∧ (s.thiHas ↑tb ↑i = true)))
    && (let s : State := z0; let tb : Fin 8 := 1; let i : Fin 32768 := 0; let data : BitVec 64 := 5; let mask : BitVec 64 := 5; let c : Instr := Instr.thiDelete 1 0; decide ((s.thiUp = true) ∧ (s.thiHas ↑tb ↑i = false) ∧ (c ∈ [Instr.thiDelete tb i, Instr.writeData tb i data mask])))
    && (let s : State := z0; decide (s.thiUp = true))
    && (let s : State := z0; let tb : Fin 8 := 2; decide ((s.thiUp = true) ∧ (s.thiCompacts ↑tb = false)))
    && (let s : State := z0; let tb : Fin 8 := 1; let hole : Nat := 24578; let i : Nat := 24580; let e : ThiEnt := { valid := true, table := 1, prio := 1, value := 1, care := 1, data := 4294901760 }; decide ((s.thiUp = true) ∧ (s.thiCompacts ↑tb = true) ∧ (s.thiHole ↑tb = some hole) ∧ (List.find? (fun e => decide (hole < e.fst)) (s.thiList ↑tb) = some (i, e))))) = true := by decide +kernel


end Engine

namespace Shake

def pr (j : Nat) : Peer := { listed := true, base := 2^40 * (j+1), log2 := 30, reqId := 0x200 + j, recvSeq := 5, sendSeq := 9, heardAt := 99990, key := some 5, seenInc := 4, seenCtr := 10 }
def grp (n : Nat := 5) : State :=
  let d := with_ dev [(Reg.GLI_STATUS.GROUP, 0, 7), (Reg.GLI_STATUS.STATE, 0, 2), (Reg.GLI_STATUS.MEMBER, 0, 0), (Reg.GLI_VIEW.VIEW, 0, 3), (Reg.GLI_MEMBERS.MASK, 0, 2 ^ n - 1), (Reg.GLI_ROLES.STEWARD, 0, 1), (Reg.GLI_ROLES.DEPUTY, 0, 2), (Reg.GLI_LINKED.MASK, 0, 2 ^ n - 2),
    (Reg.THI_TABLE.BASE, 3, 28672), (Reg.THI_TABLE.LAST, 3, 28690), (Reg.GLI_STRIPE_CFG.AHEAD, 0, 2), (Reg.GLI_STRIPE_CFG.SEAL_WAIT, 0, 10), (Reg.GLI_CFG.BEACON_INT, 0, 10)]
  let d := (List.range n).foldl (fun s j => s.wr Reg.GLI_PEER.IN_VIEW 1 j) d
  let d := (List.range (n - 1)).foldl (fun s j => (s.wr Reg.GLI_PEER.SESSION 2 (j+1)).wr Reg.GLI_PEER.EPOCH 6 (j+1)) d
  { d with group := { d.group with peers := ((List.range n).map (fun j => (j, pr j))), incarnation := 4, grant := 99000, lease := 200000, heard := 8 } }
def gg (s : State) (f : Group → Group) : State := { s with group := f s.group }
def ses (n : Nat) (s : State := grp) (f : Peer → Peer := id) : State := gg (with_ s [(Reg.GLI_PEER.SESSION, 1, n), (Reg.GLI_LINKED.MASK, 0, if n = 2 then 30 else 28)]) (fun g => { g with peers := g.peers.map (fun p => if p.1 = 1 then (1, f p.2) else p) })
def z0 : State := grp
def z1 : State := ses 0
def z2 : State := ses 1 grp (fun p => { p with mine := 5, greetAt := 98000 })
def z3 : State := with_ (ses 1 grp (fun p => { p with mine := 5, greetAt := 98000 })) [(Reg.GLI_STATUS.MEMBER, 0, 4)]

theorem test_handshake_premises : (
    (let s : State := z0; decide (s.groupUp = true))
    && (let s : State := z0; let j : Fin 24 := 1; let b : Beacon := { group := 7, member := 1, incarnation := 4, ctr := 11, base := 2199023255552, reqId := 513, log2 := 30, view := 3, tagOk := true }; decide ((s.groupUp = true) ∧ (s.beaconOk (↑j) b = true)))
    && (let s : State := z0; let j : Fin 24 := 0; let b : Beacon := { group := 7, member := 1, incarnation := 4, ctr := 11, base := 2199023255552, reqId := 513, log2 := 30, view := 3, tagOk := true }; decide ((s.groupUp = true) ∧ (s.beaconOk (↑j) b = false)))
    && (let s : State := z3; let j : Fin 24 := 0; decide ((s.groupUp = true) ∧ ((s.peer ↑j).listed = true) ∧ (s.initiates ↑j = false) ∧ (↑j ≠ s.own) ∧ (s.session ↑j = 0)))
    && (let s : State := z2; let j : Fin 24 := 1; let nb : Nat := 0; let echo : Nat := 0; let inc : Nat := 0; let c : Instr := Instr.handshakeTimeout 1; decide ((s.groupUp = true) ∧ (s.session ↑j = 1) ∧ (s.initiates ↑j = true ∧ c = Instr.challenge j nb echo inc false ∨ s.initiates ↑j = false ∧ c = Instr.confirm j echo false ∨ (s.peer ↑j).greetAt + 1000 ≤ s.frame ∧ c = Instr.handshakeTimeout j)))
    && (let s : State := z2; let j : Fin 24 := 1; let nb : Nat := 0; let echo : Nat := 0; let inc : Nat := 0; let c : Instr := Instr.challenge 1 0 0 0 true; decide ((s.groupUp = true) ∧ (s.session ↑j = 1) ∧ (s.initiates ↑j = true ∧ c = Instr.challenge j nb echo inc true ∨ s.initiates ↑j = false ∧ c = Instr.confirm j echo true) ∧ (echo ≠ (s.peer ↑j).mine)))
    && (let s : State := z2; let j : Fin 24 := 1; let nb : Nat := 0; let echo : Nat := 5; let inc : Nat := 0; let c : Instr := Instr.challenge 1 0 5 0 true; decide ((s.groupUp = true) ∧ (s.session ↑j = 1) ∧ (s.initiates ↑j = true ∧ c = Instr.challenge j nb echo inc true ∨ s.initiates ↑j = false ∧ c = Instr.confirm j echo true) ∧ (echo = (s.peer ↑j).mine)))
    && (let s : State := z1; let j : Fin 24 := 1; decide ((s.groupUp = true) ∧ ((s.peer ↑j).listed = true) ∧ (s.session ↑j = 0) ∧ (s.initiates ↑j = true) ∧ ((s.peer ↑j).retryAt ≤ s.frame)))) = true := by decide +kernel


end Shake

namespace Views

def pr (j : Nat) : Peer := { listed := true, base := 2^40 * (j+1), log2 := 30, reqId := 0x200 + j, recvSeq := 5, sendSeq := 9, heardAt := 99990, key := some 5, seenInc := 4, seenCtr := 10 }
def grp (n : Nat := 5) : State :=
  let d := with_ dev [(Reg.GLI_STATUS.GROUP, 0, 7), (Reg.GLI_STATUS.STATE, 0, 2), (Reg.GLI_STATUS.MEMBER, 0, 0), (Reg.GLI_VIEW.VIEW, 0, 3), (Reg.GLI_MEMBERS.MASK, 0, 2 ^ n - 1), (Reg.GLI_ROLES.STEWARD, 0, 1), (Reg.GLI_ROLES.DEPUTY, 0, 2), (Reg.GLI_LINKED.MASK, 0, 2 ^ n - 2),
    (Reg.THI_TABLE.BASE, 3, 28672), (Reg.THI_TABLE.LAST, 3, 28690), (Reg.GLI_STRIPE_CFG.AHEAD, 0, 2), (Reg.GLI_STRIPE_CFG.SEAL_WAIT, 0, 10), (Reg.GLI_CFG.BEACON_INT, 0, 10)]
  let d := (List.range n).foldl (fun s j => s.wr Reg.GLI_PEER.IN_VIEW 1 j) d
  let d := (List.range (n - 1)).foldl (fun s j => (s.wr Reg.GLI_PEER.SESSION 2 (j+1)).wr Reg.GLI_PEER.EPOCH 6 (j+1)) d
  { d with group := { d.group with peers := ((List.range n).map (fun j => (j, pr j))), incarnation := 4, grant := 99000, lease := 200000, heard := 8 } }
def vw : View := { number := 4, round := 2, members := 15, steward := 2, deputy := 3 }
def gg (s : State) (f : Group → Group) : State := { s with group := f s.group }
def z0 : State := grp
def z1 : State := gg (with_ grp [(Reg.GLI_ROLES.STEWARD, 0, 0), (Reg.GLI_STATUS.STEWARD, 0, 1), (Reg.GLI_REBUILD.PLANNING, 0, 1)]) (fun g => {g with lease := 5})
def z2 : State := gg grp (fun g => {g with peers := g.peers.map (fun p => (p.1, { p.2 with heardAt := 90000 }))})
def z3 : State := gg grp (fun g => { g with prop := some vw, propAt := 98000})

theorem test_views_premises : (
    (let s : State := z0; decide ((s.groupUp = true) ∧ (s.group.lastSent + 100 ≤ s.frame)))
    && (let s : State := z0; let j : Fin 24 := 1; let h : Hdr := { seq := 5, view := 3, ack := 4, epoch := 6, size := 128, tagOk := true }; let inc : Nat := 1; let u : State := (s.take j h).getD s; decide (((s.take j h).isSome = true ∧ tookOk u j = true) ∧ (inc ≠ s.rd Reg.GLI_PEER.INCARNATION ↑j)))
    && (let s : State := z0; let j : Fin 24 := 1; let h : Hdr := { seq := 5, view := 3, ack := 4, epoch := 6, size := 128, tagOk := true }; let inc : Nat := 0; let u : State := (s.take j h).getD s; decide (((s.take j h).isSome = true ∧ tookOk u j = true) ∧ (inc = s.rd Reg.GLI_PEER.INCARNATION ↑j)))
    && (let s : State := z2; let j : Fin 24 := 1; decide ((s.groupUp = true) ∧ (s.linked ↑j = true) ∧ ((s.peer ↑j).heardAt + 2000 ≤ s.frame)))
    && (let s : State := z0; let j : Fin 24 := 1; let h : Hdr := { seq := 5, view := 3, ack := 4, epoch := 6, size := 128, tagOk := true }; let v : View := { number := 4, round := 2, members := 15, steward := 2, deputy := 3 }; let u : State := (s.take j h).getD s; decide (((s.take j h).isSome = true ∧ tookOk u j = true) ∧ (v.number = s.viewNo + 1) ∧ (∀ (a : View), s.group.acked = some a → a.number = v.number → a.round < v.round) ∧ (s.viewNo ≠ 0 → s.frame < s.group.grant → v.steward = s.steward)))
    && (let s : State := z0; let j : Fin 24 := 1; let h : Hdr := { seq := 5, view := 3, ack := 4, epoch := 6, size := 128, tagOk := true }; let v : View := { number := 5, round := 2, members := 15, steward := 2, deputy := 3 }; let u : State := (s.take j h).getD s; decide (((s.take j h).isSome = true ∧ tookOk u j = true) ∧ (v.number ≠ s.viewNo + 1 ∨ (∃ a, s.group.acked = some a ∧ a.number = v.number ∧ v.round ≤ a.round) ∨ s.viewNo ≠ 0 ∧ s.frame < s.group.grant ∧ v.steward ≠ s.steward)))
    && (let s : State := z3; let j : Fin 24 := 1; let h : Hdr := { seq := 5, view := 3, ack := 4, epoch := 6, size := 128, tagOk := true }; let v : View := { number := 4, round := 2, members := 15, steward := 2, deputy := 3 }; let p : View := { number := 4, round := 2, members := 15, steward := 2, deputy := 3 }; let u : State := (s.take j h).getD s; decide (((s.take j h).isSome = true ∧ tookOk u j = true) ∧ (s.group.prop = some p) ∧ (p.number = v.number) ∧ (p.round = v.round)))
    && (let s : State := z0; let j : Fin 24 := 1; let h : Hdr := { seq := 5, view := 3, ack := 4, epoch := 6, size := 128, tagOk := true }; let v : View := { number := 3, round := 2, members := 15, steward := 2, deputy := 3 }; let u : State := (s.take j h).getD s; decide (((s.take j h).isSome = true ∧ tookOk u j = true) ∧ (v.number ≤ s.viewNo)))
    && (let s : State := z0; let j : Fin 24 := 1; let h : Hdr := { seq := 5, view := 3, ack := 4, epoch := 6, size := 128, tagOk := true }; let v : View := { number := 4, round := 2, members := 15, steward := 2, deputy := 3 }; let u : State := (s.take j h).getD s; decide (((s.take j h).isSome = true ∧ tookOk u j = true) ∧ (s.viewNo < v.number)))
    && (let s : State := z0; decide ((s.groupUp = true) ∧ (s.gstate = 2) ∧ (s.viewNo ≠ 0) ∧ (s.steward ≠ s.own) ∧ (s.group.grant ≤ s.frame) ∧ (s.group.prop = none) ∧ (s.proposerRank * 3000 ≤ s.frame - s.group.grant)))
    && (let s : State := z3; let v : View := { number := 4, round := 2, members := 15, steward := 2, deputy := 3 }; decide ((s.group.prop = some v) ∧ (s.groupUp = true) ∧ (s.group.winning = false) ∧ (s.group.propAt + 1000 ≤ s.frame)))
    && (let s : State := z1; decide ((s.groupUp = true) ∧ (s.on Reg.GLI_STATUS.STEWARD = true) ∧ (s.group.lease ≤ s.frame)))
    && (let s : State := z2; decide ((s.groupUp = true) ∧ (s.gstate = 2) ∧ (s.hearsMajority = false)))) = true := by decide +kernel


end Views

namespace Stripes

def pr (j : Nat) : Peer := { listed := true, base := 2^40 * (j+1), log2 := 30, reqId := 0x200 + j, recvSeq := 5, sendSeq := 9, heardAt := 99990, key := some 5, seenInc := 4, seenCtr := 10 }
def grp (n : Nat := 5) : State :=
  let d := with_ dev [(Reg.GLI_STATUS.GROUP, 0, 7), (Reg.GLI_STATUS.STATE, 0, 2), (Reg.GLI_STATUS.MEMBER, 0, 0), (Reg.GLI_VIEW.VIEW, 0, 3), (Reg.GLI_MEMBERS.MASK, 0, 2 ^ n - 1), (Reg.GLI_ROLES.STEWARD, 0, 1), (Reg.GLI_ROLES.DEPUTY, 0, 2), (Reg.GLI_LINKED.MASK, 0, 2 ^ n - 2),
    (Reg.THI_TABLE.BASE, 3, 28672), (Reg.THI_TABLE.LAST, 3, 28690), (Reg.GLI_STRIPE_CFG.AHEAD, 0, 2), (Reg.GLI_STRIPE_CFG.SEAL_WAIT, 0, 10), (Reg.GLI_CFG.BEACON_INT, 0, 10)]
  let d := (List.range n).foldl (fun s j => s.wr Reg.GLI_PEER.IN_VIEW 1 j) d
  let d := (List.range (n - 1)).foldl (fun s j => (s.wr Reg.GLI_PEER.SESSION 2 (j+1)).wr Reg.GLI_PEER.EPOCH 6 (j+1)) d
  { d with group := { d.group with peers := ((List.range n).map (fun j => (j, pr j))), incarnation := 4, grant := 99000, lease := 200000, heard := 8 } }
def gh : Hdr := { seq := 5, view := 3, ack := 4, epoch := 6, size := 128, tagOk := true }
def gg (s : State) (f : Group → Group) : State := { s with group := f s.group }
def ps (f : PStripe → PStripe := id) : PStripe := f { num := 2, k := 3, p := 0, q := 1, vacant := 0, view := 3 }
def psd (f : PStripe → PStripe := id) : PStripe := f { num := 2, k := 3, p := 3, q := 4, vacant := 0, view := 3 }
def lead (s : State) : State := with_ s [(Reg.GLI_ROLES.STEWARD, 0, 0), (Reg.GLI_STATUS.STEWARD, 0, 1)]
def st1 (p : PStripe) (s : State := grp) : State := { s with group := { s.group with stripes := [p], nextStripe := 3 } }
def snt : Sent := { peer := 1, seq := 7, stripe := 2, slot := 1, withdraw := false, stages := [0], offs := [0] }
def z0 : State := grp
def z1 : State := lead grp
def z2 : State := st1 (ps)
def z3 : State := gg (st1 (psd (fun p => { p with closed := 6, grans := [{ off := 0, head := {}, data := .zero}, { off := 1, head := {}, data := .zero}] }))) (fun g => { g with sent := [snt] })

theorem test_stripes_premises : (
    (let s : State := z1; let n : Nat := 1; decide ((s.groupUp = true) ∧ (s.leads = true) ∧ (s.gstate = 2) ∧ (s.nextNumber = some n) ∧ (((maskMembers s.viewMask).any fun j => decide (s.openSegments j < s.rd Reg.GLI_STRIPE_CFG.AHEAD)) = true)))
    && (let s : State := z2; let stripe : Nat := 2; let p : PStripe := { num := 2, k := 3, p := 0, q := 1, vacant := 0, view := 3, st := StripeSt.opened }; let m : Nat := 1; decide ((s.pstripe stripe = some p) ∧ (s.slotOfMember p s.own = some m) ∧ (s.groupUp = true) ∧ (p.st = StripeSt.opened) ∧ (p.closed.testBit m = false) ∧ (p.openedAt + 100 * s.rd Reg.GLI_STRIPE_CFG.SEAL_WAIT ≤ s.frame)))
    && (let s : State := z0; let j : Fin 24 := 1; let h : Hdr := { seq := 5, view := 3, ack := 4, epoch := 6, size := 128, tagOk := true }; let stripe : Nat := 2; let u : State := (s.take j h).getD s; let k : Nat := 2; let p : Nat := 2; let q : Nat := 2; let vacant : Nat := 0; let view : Nat := 2; let i : Nat := 28672; decide (((s.take j h).isSome = true ∧ tookOk u j = true) ∧ (s.gstate ≠ 4) ∧ (u.pstripe stripe = none) ∧ (((u.roleBit { num := stripe, k := k, p := p, q := q, vacant := vacant, view := view, openedAt := s.frame } u.own).isSome || u.leads) = true) ∧ ((u.thiInsertAny 3 stripe 0 0 0 false 0 0).fst = ThiOut.inserted i)))
    && (let s : State := z2; let j : Fin 24 := 1; let h : Hdr := { seq := 5, view := 3, ack := 4, epoch := 6, size := 128, tagOk := true }; let stripe : Nat := 2; let u : State := (s.take j h).getD s; let p : PStripe := { num := 2, k := 3, p := 0, q := 1, vacant := 0, view := 3, st := StripeSt.opened }; let slot : Nat := 2; decide (((s.take j h).isSome = true ∧ tookOk u j = true) ∧ (u.pstripe stripe = some p) ∧ (u.slotMember p slot = ↑j) ∧ (p.slots.contains slot = true)))
    && (let s : State := z0; let j : Fin 24 := 1; let h : Hdr := { seq := 5, view := 3, ack := 4, epoch := 6, size := 128, tagOk := true }; let stripe : Nat := 2; let u : State := (s.take j h).getD s; decide (((s.take j h).isSome = true ∧ tookOk u j = true) ∧ (u.pstripe stripe = none)))
    && (let s : State := z3; let j : Fin 24 := 1; let h : Hdr := { seq := 5, view := 3, ack := 4, epoch := 6, size := 128, tagOk := true }; let stripe : Nat := 2; let u : State := (s.take j h).getD s; let cseq : Nat := 7; let role : Nat := 0; let p : PStripe := { num := 2, k := 3, p := 3, q := 4, vacant := 0, view := 3, st := StripeSt.opened, closed := 6, grans := [{ off := 0, head := { lba := 0, inc := 0, ivFixed := 0, osn := 0, ivCtr := 0, tag := 0 }, data := Stored.zero, ackP := false, ackQ := false, addr := 0, withdrawn := false, wdP := false, wdQ := false }, { off := 1, head := { lba := 0, inc := 0, ivFixed := 0, osn := 0, ivCtr := 0, tag := 0 }, data := Stored.zero, ackP := false, ackQ := false, addr := 0, withdrawn := false, wdP := false, wdQ := false }] }; let m : Sent := { peer := 1, seq := 7, stripe := 2, slot := 1, withdraw := false, offs := [0], stages := [0], osn := 0 }; decide (((s.take j h).isSome = true ∧ tookOk u j = true) ∧ (List.find? (fun m => m.peer == ↑j && m.seq == cseq && m.stripe == stripe) u.group.sent = some m) ∧ (m.osn = 0) ∧ (u.pstripe stripe = some p) ∧ (role < 2) ∧ (m.withdraw = false)))
    && (let s : State := z0; let j : Fin 24 := 1; let h : Hdr := { seq := 5, view := 3, ack := 4, epoch := 6, size := 128, tagOk := true }; let stripe : Nat := 2; let u : State := (s.take j h).getD s; let cseq : Nat := 2; decide (((s.take j h).isSome = true ∧ tookOk u j = true) ∧ (List.find? (fun m => m.peer == ↑j && m.seq == cseq && m.stripe == stripe) u.group.sent = none)))
    && (let s : State := z2; let j : Fin 24 := 1; let h : Hdr := { seq := 5, view := 3, ack := 4, epoch := 6, size := 128, tagOk := true }; let stripe : Nat := 2; let u : State := (s.take j h).getD s; let p : PStripe := { num := 2, k := 3, p := 0, q := 1, vacant := 0, view := 3, st := StripeSt.opened }; let m : Nat := 2; decide (((s.take j h).isSome = true ∧ tookOk u j = true) ∧ (u.pstripe stripe = some p) ∧ (u.slotOfMember p ↑j = some m) ∧ (u.isParity p = true)))
    && (let s : State := z2; let j : Fin 24 := 1; let h : Hdr := { seq := 5, view := 3, ack := 4, epoch := 6, size := 128, tagOk := true }; let stripe : Nat := 2; let u : State := (s.take j h).getD s; let p : PStripe := { num := 2, k := 3, p := 0, q := 1, vacant := 0, view := 3, st := StripeSt.opened }; let state : Nat := 2; let erased : Nat := 2; decide (((s.take j h).isSome = true ∧ tookOk u j = true) ∧ (u.pstripe stripe = some p) ∧ (state < 7) ∧ (p.st.code ≠ state ∨ p.erased ≠ erased)))
    && (let s : State := z2; let j : Fin 24 := 1; let h : Hdr := { seq := 5, view := 3, ack := 4, epoch := 6, size := 128, tagOk := true }; let stripe : Nat := 2; let u : State := (s.take j h).getD s; let p : PStripe := { num := 2, k := 3, p := 0, q := 1, vacant := 0, view := 3, st := StripeSt.opened }; let state : Nat := 0; let erased : Nat := 0; decide (((s.take j h).isSome = true ∧ tookOk u j = true) ∧ (u.pstripe stripe = some p) ∧ (7 ≤ state ∨ p.st.code = state ∧ p.erased = erased)))
    && (let s : State := z2; let j : Fin 24 := 1; let h : Hdr := gh; let u : State := (s.take j h).getD s; let p : PStripe := { num := 2, k := 3, p := 0, q := 1, vacant := 0, view := 3 }; decide (((s.take j h).isSome = true ∧ tookOk u j = true) ∧ (u.pstripe 2 = some p) ∧ (u.isParity p = true) ∧ (u.slotMember p 2 = j) ∧ (p.slots.contains 2 = true) ∧ (p.closed.testBit 2 = false) ∧ (u.applyEntries j 2 false false [] p = .inl p)))) = true := by decide +kernel


/-- A contribution whose digest does not match its staged granule is refused with status 3. -/
theorem test_stripes_wrongDigest : z2.applyEntries 1 2 false false [{ off := 0, dg := dg (z2.stageBlock 1 0) + 1 }]
    { num := 2, k := 3, p := 0, q := 1, vacant := 0, view := 3 } = .inr 3 := by
  simp [State.applyEntries, State.entryStatus]


end Stripes

namespace Rebuilds

def pr (j : Nat) : Peer := { listed := true, base := 2^40 * (j+1), log2 := 30, reqId := 0x200 + j, recvSeq := 5, sendSeq := 9, heardAt := 99990, key := some 5, seenInc := 4, seenCtr := 10 }
def grp (n : Nat := 5) : State :=
  let d := with_ dev [(Reg.GLI_STATUS.GROUP, 0, 7), (Reg.GLI_STATUS.STATE, 0, 2), (Reg.GLI_STATUS.MEMBER, 0, 0), (Reg.GLI_VIEW.VIEW, 0, 3), (Reg.GLI_MEMBERS.MASK, 0, 2 ^ n - 1), (Reg.GLI_ROLES.STEWARD, 0, 1), (Reg.GLI_ROLES.DEPUTY, 0, 2), (Reg.GLI_LINKED.MASK, 0, 2 ^ n - 2),
    (Reg.THI_TABLE.BASE, 3, 28672), (Reg.THI_TABLE.LAST, 3, 28690), (Reg.GLI_STRIPE_CFG.AHEAD, 0, 2), (Reg.GLI_STRIPE_CFG.SEAL_WAIT, 0, 10), (Reg.GLI_CFG.BEACON_INT, 0, 10)]
  let d := (List.range n).foldl (fun s j => s.wr Reg.GLI_PEER.IN_VIEW 1 j) d
  let d := (List.range (n - 1)).foldl (fun s j => (s.wr Reg.GLI_PEER.SESSION 2 (j+1)).wr Reg.GLI_PEER.EPOCH 6 (j+1)) d
  { d with group := { d.group with peers := ((List.range n).map (fun j => (j, pr j))), incarnation := 4, grant := 99000, lease := 200000, heard := 8 } }
def ps (f : PStripe → PStripe := id) : PStripe := f { num := 2, k := 3, p := 0, q := 1, vacant := 0, view := 3 }
def lead (s : State) : State := with_ s [(Reg.GLI_ROLES.STEWARD, 0, 0), (Reg.GLI_STATUS.STEWARD, 0, 1)]
def st1 (p : PStripe) (s : State := grp) : State := { s with group := { s.group with stripes := [p], nextStripe := 3 } }
def reb (f : PStripe → PStripe := id) : PStripe := f (ps (fun p => { p with st := .rebuilding, erased := 1, plan := 5, next := 2, before := .sealed }))
def w0 (l : List (Nat × Nat)) (c := 1) : PatrolWait := { stripe := 2, chunk := 1, count := c, deadline := 100100, replies := l.map (fun e => { member := 1, slot := e.1, status := e.2, digests := [5, 6] }) }
def pw (w : PatrolWait) (p : PStripe := ps (fun p => { p with closed := 7, st := .sealed })) : State := { st1 p with patrol := { (st1 p).patrol with waits := [{ w with chunk := 0, deadline := 3 }, w] } }
def z0 : State := grp
def z1 : State := lead (st1 reb)
def z2 : State := st1 reb
def z3 : State := st1 (ps (fun p => { p with st := .degraded, erased := 2 ^ 31, before := .sealed }))
def z4 : State := pw (w0 [(0, 1), (1, 1)])
def z5 : State := pw (w0 [(0, 1), (2, 1), (255, 0)]) (ps (fun p => {p with p := 0, q := 1, st := .sealed}))

theorem test_rebuilds_premises : (
    (let s : State := z1; decide ((s.groupUp = true) ∧ (s.leads = true) ∧ (s.group.ckptAt + 1000 ≤ s.frame)))
    && (let s : State := z0; decide (s.serving = true))
    && (let s : State := z2; let j : Fin 24 := 1; let h : Hdr := { seq := 5, view := 3, ack := 4, epoch := 6, size := 128, tagOk := true }; let stripe : Nat := 2; let u : State := (s.take j h).getD s; let p : PStripe := { num := 2, k := 3, p := 0, q := 1, vacant := 0, view := 3, st := StripeSt.rebuilding, before := StripeSt.sealed, erased := 1, plan := 5, next := 2 }; let plan : Nat := 1; decide (((s.take j h).isSome = true ∧ tookOk u j = true) ∧ (u.pstripe stripe = some p) ∧ (s.steward = ↑j) ∧ (plan ≤ p.plan)))
    && (let s : State := z2; let j : Fin 24 := 1; let h : Hdr := { seq := 5, view := 3, ack := 4, epoch := 6, size := 128, tagOk := true }; let stripe : Nat := 2; let u : State := (s.take j h).getD s; let p : PStripe := { num := 2, k := 3, p := 0, q := 1, vacant := 0, view := 3, st := StripeSt.rebuilding, before := StripeSt.sealed, erased := 1, plan := 5, next := 2 }; let plan : Nat := 6; decide (((s.take j h).isSome = true ∧ tookOk u j = true) ∧ (u.pstripe stripe = some p) ∧ (s.steward = ↑j) ∧ (p.plan < plan)))
    && (let s : State := z0; let j : Fin 24 := 1; let h : Hdr := { seq := 5, view := 3, ack := 4, epoch := 6, size := 128, tagOk := true }; let u : State := (s.take j h).getD s; let view : Nat := 1; decide (((s.take j h).isSome = true ∧ tookOk u j = true) ∧ (view ≠ s.viewNo ∨ s.steward ≠ ↑j)))
    && (let s : State := z1; let j : Fin 24 := 1; let h : Hdr := { seq := 5, view := 3, ack := 4, epoch := 6, size := 128, tagOk := true }; let stripe : Nat := 2; let u : State := (s.take j h).getD s; let p : PStripe := { num := 2, k := 3, p := 0, q := 1, vacant := 0, view := 3, st := StripeSt.rebuilding, before := StripeSt.sealed, erased := 1, plan := 5, next := 2 }; let chunk : Nat := 1; decide (((s.take j h).isSome = true ∧ tookOk u j = true) ∧ (u.pstripe stripe = some p) ∧ (s.leads = true) ∧ (p.st = StripeSt.rebuilding) ∧ (chunk < 1024)))
    && (let s : State := z0; let j : Fin 24 := 2; let h : Hdr := { seq := 5, view := 3, ack := 4, epoch := 6, size := 128, tagOk := true }; let u : State := (s.take j h).getD s; decide (((s.take j h).isSome = true ∧ tookOk u j = true) ∧ (s.steward ≠ ↑j)))
    && (let s : State := z0; let j : Fin 24 := 1; let h : Hdr := { seq := 5, view := 3, ack := 4, epoch := 6, size := 128, tagOk := true }; let u : State := (s.take j h).getD s; decide (((s.take j h).isSome = true ∧ tookOk u j = true) ∧ (s.steward = ↑j)))
    && (let s : State := z0; let j : Fin 24 := 1; let h : Hdr := { seq := 5, view := 3, ack := 4, epoch := 6, size := 128, tagOk := true }; let stripe : Nat := 1; let u : State := (s.take j h).getD s; decide (((s.take j h).isSome = true ∧ tookOk u j = true) ∧ (u.pstripe stripe = none)))
    && (let s : State := z1; let j : Fin 24 := 1; let h : Hdr := { seq := 5, view := 3, ack := 4, epoch := 6, size := 128, tagOk := true }; let stripe : Nat := 2; let u : State := (s.take j h).getD s; let slot : Nat := 1; let p : PStripe := { num := 2, k := 3, p := 0, q := 1, vacant := 0, view := 3, st := StripeSt.rebuilding, before := StripeSt.sealed, erased := 1, plan := 5, next := 2 }; decide (((s.take j h).isSome = true ∧ tookOk u j = true) ∧ (u.pstripe stripe = some p) ∧ (slot < 22) ∧ (u.slotOfMember p u.own = some slot)))
    && (let s : State := z3; let j : Fin 24 := 1; let h : Hdr := { seq := 5, view := 3, ack := 4, epoch := 6, size := 128, tagOk := true }; let stripe : Nat := 2; let u : State := (s.take j h).getD s; let slot : Nat := 31; let p : PStripe := { num := 2, k := 3, p := 0, q := 1, vacant := 0, view := 3, st := StripeSt.degraded, before := StripeSt.sealed, erased := 2147483648 }; let b : Nat := 31; decide (((s.take j h).isSome = true ∧ tookOk u j = true) ∧ (u.pstripe stripe = some p) ∧ (22 ≤ slot) ∧ (u.roleBit p ↑j = some b) ∧ (p.erased.testBit b = true) ∧ (p.st = StripeSt.degraded)))
    && (let s : State := z1; let j : Fin 24 := 1; let h : Hdr := { seq := 5, view := 3, ack := 4, epoch := 6, size := 128, tagOk := true }; let stripe : Nat := 2; let u : State := (s.take j h).getD s; let p : PStripe := { num := 2, k := 3, p := 0, q := 1, vacant := 0, view := 3, st := StripeSt.rebuilding, before := StripeSt.sealed, erased := 1, plan := 5, next := 2 }; let slot : Nat := 2; let count : Nat := 1; decide (((s.take j h).isSome = true ∧ tookOk u j = true) ∧ (u.pstripe stripe = some p) ∧ (u.slotMember p slot = ↑j) ∧ (1 ≤ count) ∧ (count ≤ 16)))
    && (let s : State := z1; let j : Fin 24 := 1; let h : Hdr := { seq := 5, view := 3, ack := 4, epoch := 6, size := 128, tagOk := true }; let stripe : Nat := 2; let u : State := (s.take j h).getD s; let p : PStripe := { num := 2, k := 3, p := 0, q := 1, vacant := 0, view := 3, st := StripeSt.rebuilding, before := StripeSt.sealed, erased := 1, plan := 5, next := 2 }; let slot : Nat := 1; let count : Nat := 1; decide (((s.take j h).isSome = true ∧ tookOk u j = true) ∧ (u.pstripe stripe = some p) ∧ (u.slotMember p slot ≠ ↑j ∨ count = 0 ∨ 16 < count)))
    && (let s : State := z4; let j : Fin 24 := 1; let h : Hdr := { seq := 5, view := 3, ack := 4, epoch := 6, size := 128, tagOk := true }; let stripe : Nat := 2; let u : State := (s.take j h).getD s; let p : PStripe := { num := 2, k := 3, p := 0, q := 1, vacant := 0, view := 3, st := StripeSt.sealed, closed := 7 }; let w : PatrolWait := { stripe := 2, chunk := 0, count := 1, deadline := 3, replies := [{ member := 1, slot := 0, status := 1, digests := [5, 6] }, { member := 1, slot := 1, status := 1, digests := [5, 6] }] }; let slot : Nat := 1; let status : Nat := 1; let digests : List Nat := [5, 6]; decide (((s.take j h).isSome = true ∧ tookOk u j = true) ∧ (u.pstripe stripe = some p) ∧ (List.find? (fun x => x.stripe == stripe && x.chunk == w.chunk && x.count == w.count) s.patrol.waits = some w) ∧ (((u.patrolRoles p).all fun k => ({ stripe := w.stripe, chunk := w.chunk, count := w.count, deadline := w.deadline, replies := List.filter (fun x => x.slot != slot) w.replies ++ [{ member := ↑j, slot := slot, status := status, digests := digests }] } : PatrolWait).replies.any fun x => x.slot == k) = false)))
    && (let s : State := z5; let j : Fin 24 := 1; let h : Hdr := { seq := 5, view := 3, ack := 4, epoch := 6, size := 128, tagOk := true }; let stripe : Nat := 2; let u : State := (s.take j h).getD s; let p : PStripe := { num := 2, k := 3, p := 0, q := 1, vacant := 0, view := 3, st := StripeSt.sealed }; let w : PatrolWait := { stripe := 2, chunk := 0, count := 1, deadline := 3, replies := [{ member := 1, slot := 0, status := 1, digests := [5, 6] }, { member := 1, slot := 2, status := 1, digests := [5, 6] }, { member := 1, slot := 255, status := 0, digests := [5, 6] }] }; let slot : Nat := 1; let status : Nat := 1; let digests : List Nat := [5, 6]; decide (((s.take j h).isSome = true ∧ tookOk u j = true) ∧ (u.pstripe stripe = some p) ∧ (List.find? (fun x => x.stripe == stripe && x.chunk == w.chunk && x.count == w.count) s.patrol.waits = some w) ∧ (((u.patrolRoles p).all fun k => ({ stripe := w.stripe, chunk := w.chunk, count := w.count, deadline := w.deadline, replies := List.filter (fun x => x.slot != slot) w.replies ++ [{ member := ↑j, slot := slot, status := status, digests := digests }] } : PatrolWait).replies.any fun x => x.slot == k) = true)))) = true := by decide +kernel


end Rebuilds

namespace Writes


def z0 : State := up

theorem test_registerWriteTypes_premises : (
    (let s : State := z0; let fn : Fn := 0; let off : Nat := 458776; decide ((s.reachable ↑fn = true) ∧ (off < 4194304) ∧ (off % 4 = 0) ∧ (quietOffset off = true)))
    && (let s : State := z0; let fn : Fn := 0; let off : Nat := 1; decide ((s.reachable ↑fn = true) ∧ (off < 4194304) ∧ (off % 4 ≠ 0)))) = true := by decide +kernel


end Writes

namespace Io

def dgr (s : State) : State := s.setRing 0 1 { s.ring 0 1 with group := true }
def v1 : Version := { ver 9 1 0xC .landing with data := [(2, .zero)] }
def z0 : State := dev
def z1 : State := with_ { dev with rings := [(0, { ring0 with sqTail := 0}), (1, ring0)] } []
def z2 : State := { dev with rings := [(1, { ring0 with sqTail := 20, sqSize := 64, prio := 3})] }
def z3 : State := with_ up [(Reg.HIF_ADM_SIZE.SQ_SIZE,0,4), (Reg.HIF_ADM_SIZE.CQ_SIZE,0,20)]
def z4 : State := with_ up [(Reg.HIF_ADM_SIZE.SQ_SIZE,0,4), (Reg.HIF_ADM_SIZE.CQ_SIZE,0,19)]
def z5 : State := { rung with rings := [(0, ring0)] }
def z6 : State := withCtx dev { wr0 2 .committed with committed := true }
def z7 : State := withCtx { dev with rings := [(0, ring0), (1, { ring0 with cqTail := 15, cqHead := 0})] } { wr0 2 .finished with status := 6 }
def z8 : State := withCtx dev { wr0 2 .sent with spans := true }
def z9 : State := { withCtx dev (wr0 1 .ordered) with ftl := { dev.ftl with versions := [{v1 with osn := 5, st := .committed}, ver 9 2 1 .staged], map := [(1, .media 64), (2, .zeroed)] } }
def z10 : State := { dev with ctxs := [(1, { wr0 2 .published with osn := 4, order := 1 }), (2, wr0 1 .ordered)] }
def z11 : State := withCtx dev { wr0 1 .snapshot with snap := [.zero true, .media 64, .version 5] }
def z12 : State := withCtx dev { wr0 1 .moving with blk := 1, snap := [.zero true, .media 64, .version 5] }
def z13 : State := withCtx dev { wr0 1 .moving with blk := 1, snap := [.zero true, .media 64, .version 5], bad := [(1, 8)] }
def z14 : State := withCtx dev { wr0 8 .moving with blk := 3, bad := [(2, 3), (1, 8)] }
def z15 : State := withCtx dev { wr0 3 .ordered with pkt := pk 3 1 0 0 }
def z16 : State := { withCtx dev (wr0 2 .landing) with tags := [(4, .data 2 1 7), (5, .list 2 100000)], ftl := { dev.ftl with versions := [v1, ver 9 2 1 .landing] } }
def z17 : State := withCtx dev (wr0 2 .ordered)
def z18 : State := withCtx dev { wr0 2 .ordered with ivs := [(0,0,10^6)] }
def z19 : State := withCtx dev (wr0 2 .landing)
def z20 : State := withCtx dev (wr0 4 .ordered)
def z21 : State := { withCtx (dgr dev) (wr0 2 .published) with ftl := { dev.ftl with versions := [{v1 with st := .staged}, ver 9 2 1 .staged, ver 8 3 1 .landing] } }
def z22 : State := { busy with tags := [(4, .fetch 1 0 2 100)] }
def z23 : State := { dev with tags := [(4, .quarantined 5), (5, .quarantined 100001)] }

theorem test_doorbells_premises : (
    (let s : State := z1; let fn : Fn := 0; let n : RingNo := 0; let value : Word := 0; decide ((s.reachable ↑fn = true) ∧ (((s.wakeTlp ↑fn).ring ↑fn ↑n).st = RingSt.active ∨ ((s.wakeTlp ↑fn).ring ↑fn ↑n).st = RingSt.error) ∧ (BitVec.toNat value < ((s.wakeTlp ↑fn).ring ↑fn ↑n).sqSize) ∧ (((s.wakeTlp ↑fn).ring ↑fn ↑n).unfetched ≤ ringGap ((s.wakeTlp ↑fn).ring ↑fn ↑n).sqSize ((s.wakeTlp ↑fn).ring ↑fn ↑n).sqHead (BitVec.toNat value))))
    && (let s : State := z0; let fn : Fn := 0; let n : RingNo := 0; let value : Word := 0; decide ((s.reachable ↑fn = true) ∧ (((s.wakeTlp ↑fn).ring ↑fn ↑n).st ≠ RingSt.absent) ∧ (((s.wakeTlp ↑fn).ring ↑fn ↑n).sqSize ≤ BitVec.toNat value ∨ ((s.wakeTlp ↑fn).ring ↑fn ↑n).st = RingSt.resetting ∨ ringGap ((s.wakeTlp ↑fn).ring ↑fn ↑n).sqSize ((s.wakeTlp ↑fn).ring ↑fn ↑n).sqHead (BitVec.toNat value) < ((s.wakeTlp ↑fn).ring ↑fn ↑n).unfetched)))
    && (let s : State := z0; let fn : Fn := 0; let n : RingNo := 0; let value : Word := 0; decide ((s.reachable ↑fn = true) ∧ (((s.wakeTlp ↑fn).ring ↑fn ↑n).st ≠ RingSt.absent) ∧ (BitVec.toNat value < ((s.wakeTlp ↑fn).ring ↑fn ↑n).cqSize) ∧ (ringGap ((s.wakeTlp ↑fn).ring ↑fn ↑n).cqSize ((s.wakeTlp ↑fn).ring ↑fn ↑n).cqHead (BitVec.toNat value) ≤ ((s.wakeTlp ↑fn).ring ↑fn ↑n).unreleased)))
    && (let s : State := z0; let fn : Fn := 0; let n : RingNo := 0; let value : Word := 1; decide ((s.reachable ↑fn = true) ∧ (((s.wakeTlp ↑fn).ring ↑fn ↑n).st ≠ RingSt.absent) ∧ (((s.wakeTlp ↑fn).ring ↑fn ↑n).cqSize ≤ BitVec.toNat value ∨ ((s.wakeTlp ↑fn).ring ↑fn ↑n).unreleased < ringGap ((s.wakeTlp ↑fn).ring ↑fn ↑n).cqSize ((s.wakeTlp ↑fn).ring ↑fn ↑n).cqHead (BitVec.toNat value))))
    && (let s : State := z2; let fn : Fn := 0; let n : RingNo := 0; let value : Word := 0; let c : Instr := Instr.sqTailDoorbell 0 0 0; decide ((s.reachable ↑fn = true) ∧ (((s.wakeTlp ↑fn).ring ↑fn ↑n).st = RingSt.absent) ∧ (c ∈ [Instr.sqTailDoorbell fn n value, Instr.cqHeadDoorbell fn n value])))) = true := by decide +kernel

theorem test_adminRing_premises : (
    (let s : State := z3; let fn : Fn := 0; decide ((s.reachable ↑fn = true) ∧ (s.on Reg.HIF_ADM_CTRL.ENABLE 0 ↑fn = false) ∧ ((s.wakeTlp ↑fn).adminOk ↑fn = true)))
    && (let s : State := z4; let fn : Fn := 0; decide ((s.reachable ↑fn = true) ∧ (s.on Reg.HIF_ADM_CTRL.ENABLE 0 ↑fn = false) ∧ ((s.wakeTlp ↑fn).adminOk ↑fn = false)))
    && (let s : State := z0; let fn : Fn := 0; decide ((s.reachable ↑fn = true) ∧ (s.on Reg.HIF_ADM_CTRL.ENABLE 0 ↑fn = true) ∧ ((s.ep ↑fn).disabling = false) ∧ ((s.wakeTlp ↑fn).ioRings ↑fn = true)))
    && (let s : State := z5; let fn : Fn := 0; decide ((s.reachable ↑fn = true) ∧ (s.on Reg.HIF_ADM_CTRL.ENABLE 0 ↑fn = true) ∧ ((s.ep ↑fn).disabling = false) ∧ ((s.wakeTlp ↑fn).ioRings ↑fn = false)))) = true := by decide +kernel

theorem test_completionEntries_premises : (
    (let s : State := z6; let c : CtxNo := 2; decide ((s.attends = true) ∧ (s.entryDue ↑c = true) ∧ (s.canSend (s.ctx ↑c).fn = true) ∧ ((s.ring (s.ctx ↑c).fn (s.ctx ↑c).ring).st = RingSt.active) ∧ ((s.ring (s.ctx ↑c).fn (s.ctx ↑c).ring).cqRoom = true) ∧ ((s.ctx ↑c).is Opc.setFeature = false)))
    && (let s : State := z7; let c : CtxNo := 2; decide ((s.attends = true) ∧ (s.entryDue ↑c = true) ∧ ((s.ring (s.ctx ↑c).fn (s.ctx ↑c).ring).cqRoom = false)))
    && (let s : State := z8; let c : CtxNo := 2; decide ((s.sup.coreUp = true) ∧ ((s.ctx ↑c).phase = Phase.sent) ∧ (s.linkUp (s.ctx ↑c).fn = true)))) = true := by decide +kernel

theorem test_readsAndFlush_premises : (
    (let s : State := z9; let c : CtxNo := 2; decide ((s.attends = true) ∧ ((s.ctx ↑c).isRead = true) ∧ ((s.ctx ↑c).phase = Phase.ordered) ∧ (s.maySnap (s.ctx ↑c) = true) ∧ ((s.takeSpans ↑c).fst = true)))
    && (let s : State := z10; let c : CtxNo := 2; decide ((s.attends = true) ∧ ((s.ctx ↑c).isRead = true) ∧ ((s.ctx ↑c).phase = Phase.ordered) ∧ (s.maySnap (s.ctx ↑c) = false)))
    && (let s : State := z12; let c : CtxNo := 2; let read : Bool := true; decide (((s.ctx ↑c).is (if read = true then Opc.read else Opc.verify) = true) ∧ (s.attends = true) ∧ ((s.ctx ↑c).phase = Phase.snapshot ∨ (s.ctx ↑c).phase = Phase.moving) ∧ (read = true → s.canSend (s.ctx ↑c).fn = true ∧ (s.ctx ↑c).walk.covers (4096 * ((s.ctx ↑c).blk + 1)) = true) ∧ ((s.ctx ↑c).blk < (s.ctx ↑c).nblk) ∧ (s.foundAt (s.ctx ↑c) (s.ctx ↑c).blk = Found.waits)))
    && (let s : State := z11; let c : CtxNo := 2; let read : Bool := true; let b : Block := 0; decide (((s.ctx ↑c).is (if read = true then Opc.read else Opc.verify) = true) ∧ (s.attends = true) ∧ ((s.ctx ↑c).phase = Phase.snapshot ∨ (s.ctx ↑c).phase = Phase.moving) ∧ (read = true → s.canSend (s.ctx ↑c).fn = true ∧ (s.ctx ↑c).walk.covers (4096 * ((s.ctx ↑c).blk + 1)) = true) ∧ ((s.ctx ↑c).blk < (s.ctx ↑c).nblk) ∧ (s.foundAt (s.ctx ↑c) (s.ctx ↑c).blk = Found.data b)))
    && (let s : State := z13; let c : CtxNo := 2; let read : Bool := true; let st : Nat := 8; decide (((s.ctx ↑c).is (if read = true then Opc.read else Opc.verify) = true) ∧ (s.attends = true) ∧ ((s.ctx ↑c).phase = Phase.snapshot ∨ (s.ctx ↑c).phase = Phase.moving) ∧ (read = true → s.canSend (s.ctx ↑c).fn = true ∧ (s.ctx ↑c).walk.covers (4096 * ((s.ctx ↑c).blk + 1)) = true) ∧ ((s.ctx ↑c).blk < (s.ctx ↑c).nblk) ∧ (s.foundAt (s.ctx ↑c) (s.ctx ↑c).blk = Found.bad st)))
    && (let s : State := z14; let c : CtxNo := 2; decide ((s.attends = true) ∧ ((s.ctx ↑c).isRead = true) ∧ ((s.ctx ↑c).phase = Phase.moving) ∧ ((s.ctx ↑c).nblk ≤ (s.ctx ↑c).blk)))
    && (let s : State := z15; let c : CtxNo := 2; let cmd : Instr := Instr.flush 2; decide ((cmd ∈ [Instr.flush c, Instr.flushComplete c]) ∧ (s.attends = true) ∧ ((s.ctx ↑c).is Opc.flush = true) ∧ ((s.ctx ↑c).phase = Phase.ordered) ∧ (s.mayFlush (s.ctx ↑c) = true)))
    && (let s : State := z10; let c : CtxNo := 2; let cmd : Instr := Instr.flush 2; decide ((cmd ∈ [Instr.flush c, Instr.flushComplete c]) ∧ (s.mayFlush (s.ctx ↑c) = false)))) = true := by decide +kernel

theorem test_writesLand_premises : (
    (let s : State := z17; let c : CtxNo := 2; decide ((s.attends = true) ∧ ((s.ctx ↑c).is Opc.write = true) ∧ ((s.ctx ↑c).phase = Phase.ordered) ∧ (s.admits (s.ctx ↑c) = true) ∧ (s.marksHold [((s.ctx ↑c).slba, (s.ctx ↑c).nblk)] (s.ctx ↑c).ivs = true) ∧ ((s.takeSpans ↑c).fst = true)))
    && (let s : State := z18; let c : CtxNo := 2; decide ((s.attends = true) ∧ ((s.ctx ↑c).is Opc.write = true) ∧ ((s.ctx ↑c).phase = Phase.ordered) ∧ (s.admits (s.ctx ↑c) = false ∨ s.marksHold [((s.ctx ↑c).slba, (s.ctx ↑c).nblk)] (s.ctx ↑c).ivs = false)))
    && (let s : State := z19; let c : CtxNo := 2; let tag : Tag := 4; decide ((s.attends = true) ∧ ((s.ctx ↑c).is Opc.write = true) ∧ ((s.ctx ↑c).phase = Phase.landing) ∧ (s.canSend (s.ctx ↑c).fn = true) ∧ (s.tagFree (s.ctx ↑c).fn ↑tag = true) ∧ ((s.ctx ↑c).blk < (s.ctx ↑c).nblk) ∧ ((s.ctx ↑c).walk.covers (4096 * ((s.ctx ↑c).blk + 1)) = true)))
    && (let s : State := z20; let c : CtxNo := 2; let zeroes : Bool := false; decide (((s.ctx ↑c).is (if zeroes = true then Opc.writeZeroes else Opc.trim) = true) ∧ (s.attends = true) ∧ ((s.ctx ↑c).phase = Phase.ordered) ∧ (s.admits (s.ctx ↑c) = true) ∧ (s.marksHold (match pkOp (s.ctx ↑c).pkt with | some o => sealedParts (s.ctx ↑c).pkt o | none => []) (s.ctx ↑c).ivs = true) ∧ ((wholeIus (s.ctx ↑c).slba (s.ctx ↑c).nblk).snd = 0 ∨ s.rangeSlot.isSome = true ∧ s.thiRangeRoom (wholeIus (s.ctx ↑c).slba (s.ctx ↑c).nblk).fst (wholeIus (s.ctx ↑c).slba (s.ctx ↑c).nblk).snd = true) ∧ ((s.takeSpans ↑c).fst = true)))
    && (let s : State := z16; let c : CtxNo := 2; decide ((s.serving = true) ∧ ((s.ctx ↑c).isWrite = true) ∧ ((s.ctx ↑c).phase = Phase.landing)))
    && (let s : State := z21; let c : CtxNo := 2; decide ((s.attends = true) ∧ ((s.ctx ↑c).isWrite = true) ∧ ((s.ctx ↑c).phase = Phase.published) ∧ (s.groupRing (s.ctx ↑c) = true) ∧ (s.groupAcked (s.ctx ↑c) = false) ∧ ((s.ctx ↑c).pubAt + s.rd Reg.WBF_CFG.GROUP_WAIT ≤ s.frame)))) = true := by decide +kernel

theorem test_outboundReads_premises : (
    (let s : State := z0; let fn : Fn := 0; let tag : Tag := 4; decide ((s.serving = true) ∧ (s.hasFn ↑fn = true) ∧ (s.linkUp ↑fn = true) ∧ ((s.tag ↑fn ↑tag).outstanding = false)))
    && (let s : State := z16; let fn : Fn := 0; let tag : Tag := 4; let c : Nat := 2; let b : Nat := 1; let d : Nat := 7; decide ((s.serving = true) ∧ (s.hasFn ↑fn = true) ∧ (s.linkUp ↑fn = true) ∧ (s.tag ↑fn ↑tag = TagUse.data c b d) ∧ ((s.ctx c).is Opc.write = true) ∧ ((s.ctx c).phase = Phase.landing) ∧ (b < (s.ctx c).nblk)))
    && (let s : State := z16; let fn : Fn := 0; let tag : Tag := 4; let c : Nat := 2; let b : Nat := 1; let d : Nat := 7; let cpl : Cpl := Cpl.unsupported; decide ((s.serving = true) ∧ (s.hasFn ↑fn = true) ∧ (s.linkUp ↑fn = true) ∧ (s.tag ↑fn ↑tag = TagUse.data c b d) ∧ (c < 65536) ∧ ((s.ctx c).uncommitted = true) ∧ (cpl ∈ [Cpl.unsupported, Cpl.abort, Cpl.poisoned])))
    && (let s : State := z22; let fn : Fn := 0; let tag : Tag := 4; let d : Nat := 100; decide (((s.tag ↑fn ↑tag).deadline = some d) ∧ (s.serving = true) ∧ (d ≤ s.frame)))
    && (let s : State := z23; let fn : Fn := 0; let tag : Tag := 4; let e : Nat := 5; decide ((s.tag ↑fn ↑tag = TagUse.quarantined e) ∧ (e ≤ s.frame)))) = true := by decide +kernel


end Io

namespace Batch

def v1 : Version := { ver 9 1 0xC .landing with data := [(2, .zero)] }
def fl (l : List Rec) (s : State) : State := { s with ftl := { s.ftl with journal := { s.ftl.journal with flight := some (3, l) } } }
def z0 : State := fl [.commit 1 0 7 2 0 9] { withCtx dev (wr0 2 .published) with ftl := { dev.ftl with versions := [{v1 with st := .staged}, ver 9 2 1 .staged, ver 8 3 1 .staged], map := [(3, .zeroed)] } }

theorem test_batchDurable_premises : (
    (let s : State := z0; let n : Nat := 3; let l : List Rec := [Rec.commit 1 0 7 2 0 9]; decide ((s.ftl.journal.flight = some (n, l)) ∧ (s.serving = true)))) = true := by decide +kernel


end Batch

namespace Sessions

def pr (j : Nat) : Peer := { listed := true, base := 2^40 * (j+1), log2 := 30, reqId := 0x200 + j, recvSeq := 5, sendSeq := 9, heardAt := 99990, key := some 5, seenInc := 4, seenCtr := 10 }
def grp (n : Nat := 5) : State :=
  let d := with_ dev [(Reg.GLI_STATUS.GROUP, 0, 7), (Reg.GLI_STATUS.STATE, 0, 2), (Reg.GLI_STATUS.MEMBER, 0, 0), (Reg.GLI_VIEW.VIEW, 0, 3), (Reg.GLI_MEMBERS.MASK, 0, 2 ^ n - 1), (Reg.GLI_ROLES.STEWARD, 0, 1), (Reg.GLI_ROLES.DEPUTY, 0, 2), (Reg.GLI_LINKED.MASK, 0, 2 ^ n - 2),
    (Reg.THI_TABLE.BASE, 3, 28672), (Reg.THI_TABLE.LAST, 3, 28690), (Reg.GLI_STRIPE_CFG.AHEAD, 0, 2), (Reg.GLI_STRIPE_CFG.SEAL_WAIT, 0, 10), (Reg.GLI_CFG.BEACON_INT, 0, 10)]
  let d := (List.range n).foldl (fun s j => s.wr Reg.GLI_PEER.IN_VIEW 1 j) d
  let d := (List.range (n - 1)).foldl (fun s j => (s.wr Reg.GLI_PEER.SESSION 2 (j+1)).wr Reg.GLI_PEER.EPOCH 6 (j+1)) d
  { d with group := { d.group with peers := ((List.range n).map (fun j => (j, pr j))), incarnation := 4, grant := 99000, lease := 200000, heard := 8 } }
def z0 : State := dev
def z1 : State := grp

theorem test_sessionMessages_premises : (
    (let s : State := z0; let c : Instr := Instr.padMessage 0 { seq := 5, view := 3, ack := 4, epoch := 6, size := 128, tagOk := true }; let j : Fin 24 := 0; let h : Hdr := { seq := 5, view := 3, ack := 4, epoch := 6, size := 128, tagOk := true }; decide ((carried c = some (j, h)) ∧ ((s.groupUp && (s.peer ↑j).listed && s.linked ↑j) = false)))
    && (let s : State := z1; let c : Instr := Instr.padMessage 1 { seq := 5, view := 3, ack := 4, epoch := 6, size := 128, tagOk := false }; let j : Fin 24 := 1; let h : Hdr := { seq := 5, view := 3, ack := 4, epoch := 6, size := 128, tagOk := false }; decide ((carried c = some (j, h)) ∧ (s.groupUp = true) ∧ ((s.peer ↑j).listed = true) ∧ (s.linked ↑j = true) ∧ (h.tagOk = false ∨ h.epoch ≠ s.rd Reg.GLI_PEER.EPOCH ↑j)))
    && (let s : State := z1; let c : Instr := Instr.padMessage 1 { seq := 4, view := 3, ack := 4, epoch := 6, size := 128, tagOk := true }; let j : Fin 24 := 1; let h : Hdr := { seq := 4, view := 3, ack := 4, epoch := 6, size := 128, tagOk := true }; decide ((carried c = some (j, h)) ∧ (s.groupUp = true) ∧ ((s.peer ↑j).listed = true) ∧ (s.linked ↑j = true) ∧ (h.tagOk = true) ∧ (h.epoch = s.rd Reg.GLI_PEER.EPOCH ↑j) ∧ (h.seq ≠ (s.peer ↑j).recvSeq)))
    && (let s : State := z1; let c : Instr := Instr.padMessage 1 { seq := 5, view := 3, ack := 4, epoch := 6, size := 128, tagOk := true }; let j : Fin 24 := 1; let h : Hdr := { seq := 5, view := 3, ack := 4, epoch := 6, size := 128, tagOk := true }; decide ((carried c = some (j, h)) ∧ (s.groupUp = true) ∧ ((s.peer ↑j).listed = true) ∧ (s.linked ↑j = true) ∧ (h.tagOk = true) ∧ (h.epoch = s.rd Reg.GLI_PEER.EPOCH ↑j) ∧ (h.seq = (s.peer ↑j).recvSeq)))) = true := by decide +kernel


end Sessions

namespace Fetch


def z0 : State := dev
def z1 : State := { busy with tags := [(4, .fetch 0 0 3 100500)] }
def z2 : State := { rung with rings := [(0, ring0), (1, { ring0 with cqTail := 5, cqHead := 1, unsig := 3, aggTime := 10, aggCount := 20, st := .active })] }

theorem test_fetching_premises : (
    (let s : State := z0; let tag : Tag := 4; let f : Nat := 0; let n : Nat := 0; let left : Nat := 8; decide ((s.fetchWinner = some (f, n, left)) ∧ (s.tagFree f ↑tag = true)))
    && (let s : State := z1; let fn : Fn := 0; let tag : Tag := 4; let ps : List Packet := [0x1000000000000000000000000000000000003, 0x400000000000000040000000000000000000000000001000000000000000000000000000000010002, 0]; let n : Nat := 0; let k : Nat := 3; let d : Nat := 100500; decide ((s.serving = true) ∧ (s.tag ↑fn ↑tag = TagUse.fetch n (s.ring (↑fn) n).sqHead k d) ∧ (ps.length = k) ∧ ((s.ring (↑fn) n).st = RingSt.active)))
    && (let s : State := z2; let fn : Fn := 0; let n : RingNo := 1; decide ((s.canSend ↑fn = true) ∧ (n ≠ 0) ∧ ((s.ring ↑fn ↑n).st ≠ RingSt.absent) ∧ ((s.ring ↑fn ↑n).unsig ≠ 0) ∧ ((s.ring ↑fn ↑n).aggTime ≠ 0) ∧ ((s.ring ↑fn ↑n).unsigAt + (s.ring ↑fn ↑n).aggTime ≤ s.frame)))) = true := by decide +kernel


end Fetch

end Sys2Proof.Tests
end

section
/-! PROOFS. Searches of the associative engine (R474): the matches of a search are the entries that match, in rising order of index, and
the winner outranks each of them. -/

namespace Sys2Proof.Machine

/-! ### Canonical tables -/

/-- In a canonical table every key is above those before it. -/
theorem Tbl.pairwise_lt {α : Type} [DecidableEq α] {d : α} {t : Tbl α} (ht : Tbl.wf d t = true) :
    t.Pairwise (fun p q => p.1 < q.1) := by
  induction t with
  | nil => exact .nil
  | cons p t ih =>
    obtain ⟨k, a⟩ := p
    simp only [Tbl.wf, Tbl.above, Bool.and_eq_true, List.all_eq_true, decide_eq_true_eq] at ht
    obtain ⟨⟨habove, _⟩, htail⟩ := ht
    exact .cons habove (ih htail)

/-- A canonical table lists exactly the entries that differ from what an unlisted key reads as. -/
theorem Tbl.mem_iff_get {α : Type} [DecidableEq α] {d : α} {t : Tbl α} (ht : Tbl.wf d t = true) {k : Nat} {a : α} (ha : a ≠ d) :
    (k, a) ∈ t ↔ Tbl.get d t k = a := by
  induction t with
  | nil => simpa using ha.symm
  | cons p t ih =>
    obtain ⟨j, b⟩ := p
    simp only [Tbl.wf, Tbl.above, Bool.and_eq_true, List.all_eq_true, decide_eq_true_eq] at ht
    obtain ⟨⟨habove, _⟩, htail⟩ := ht
    have ih := ih htail
    by_cases hk : k = j
    · have : (k, a) ∉ t := fun h => absurd (habove _ h) (by simp [hk])
      simp [Tbl.get, hk, hk ▸ this, eq_comm]
    · simp [Tbl.get, hk, ih]

/-! ### Matches -/

/-- The global mask of a search over 160 bits applies to each half of the key (R474). -/
theorem testBit_maskOfHalves (mask : BitVec 80) (b : Nat) :
    (mask.toNat + mask.toNat * 2 ^ 80).testBit b = (decide (b < 160) && mask.getLsbD (b % 80)) := by
  rw [show mask.toNat + mask.toNat * 2 ^ 80 = 2 ^ 80 * mask.toNat + mask.toNat by omega, Nat.testBit_two_pow_mul_add _ mask.isLt]
  split
  · next h => simp [BitVec.getLsbD, Nat.mod_eq_of_lt h]; omega
  · next h =>
    by_cases hb : b < 160
    · simp [BitVec.getLsbD, hb, show b % 80 = b - 80 by omega]
    · simp only [hb, decide_false, Bool.false_and]
      exact mask.getLsbD_of_ge _ (by omega)

/-- The key bits that the global mask keeps: those of the table's key under the mask (R474). -/
theorem testBit_globalMask (mask : BitVec 80) (w b : Nat) :
    (if w = 4 then mask.toNat + mask.toNat * 2 ^ 80 else mask.toNat).testBit b =
      (decide (b < if w = 4 then 160 else 80) && mask.getLsbD (b % 80)) := by
  by_cases hw : w = 4
  · simp only [hw, if_true, testBit_maskOfHalves]
  · simp only [hw, if_false]
    by_cases hb : b < 80
    · simp [BitVec.getLsbD, hb, Nat.mod_eq_of_lt hb]
    · simp only [hb, decide_false, Bool.false_and]
      exact mask.getLsbD_of_ge b (by omega)

/-- An entry of width 1 compares every bit, a wider one those of its care mask (R473). -/
theorem testBit_careMask (care w : Nat) {b : Nat} (hb : b < 160) :
    (if w = 1 then 2 ^ 160 - 1 else care).testBit b = (decide (w = 1) || care.testBit b) := by
  split
  · next h => rw [Nat.testBit_two_pow_sub_one]; simp [hb, h]
  · next h => simp [h]

/-- An entry matches when every key bit is masked, not cared for, or equal to the value's (R474). -/
theorem ThiEnt.hit_iff (e : ThiEnt) (w : Nat) (key : BitVec 160) (mask : BitVec 80) :
    e.hit w key.toNat mask.toNat = true ↔ ∀ b < (if w = 4 then 160 else 80),
      mask.getLsbD (b % 80) = false ∨ (w ≠ 1 ∧ e.care.testBit b = false) ∨ key.getLsbD b = e.value.testBit b := by
  have hwide {b : Nat} (hb : b < if w = 4 then 160 else 80) : b < 160 := by split at hb <;> omega
  unfold ThiEnt.hit
  rw [beq_iff_eq]
  constructor
  · intro h b hb
    have hbit := congrArg (·.testBit b) h
    simp only [Nat.testBit_and, Nat.testBit_xor, testBit_globalMask, testBit_careMask _ _ (hwide hb), hb, Nat.zero_testBit] at hbit
    have hkey : key.toNat.testBit b = key.getLsbD b := rfl
    grind
  · intro h
    refine Nat.eq_of_testBit_eq fun b => ?_
    rw [Nat.testBit_and, Nat.testBit_and, testBit_globalMask, Nat.zero_testBit]
    by_cases hb : b < if w = 4 then 160 else 80
    · rw [testBit_careMask _ _ (hwide hb), Nat.testBit_xor]
      have hkey : key.toNat.testBit b = key.getLsbD b := rfl
      have := h b hb
      grind
    · simp [hb]

/-- The matches of a search are listed with their entries. -/
theorem State.mem_thiMatches {s : State} (ht : Tbl.wf {} s.thi = true) (tb : Fin 8) (key : BitVec 160) (mask : BitVec 80) (start i : Nat)
    (e : ThiEnt) :
    (i, e) ∈ s.thiMatches tb key.toNat mask.toNat start ↔ s.thiEnt i = e ∧ s.Matches tb key mask start i := by
  have hmem (hv : e.valid = true) : (i, e) ∈ s.thi ↔ s.thiEnt i = e :=
    Tbl.mem_iff_get ht (by rintro rfl; cases hv)
  simp only [State.thiMatches, State.thiList, List.mem_filter, Bool.and_eq_true, decide_eq_true_eq, beq_iff_eq, ThiEnt.hit_iff]
  constructor
  · rintro ⟨⟨hin, hv, htab⟩, hstart, hhit⟩
    obtain rfl := (hmem hv).mp hin
    exact ⟨rfl, hv, htab, hstart, hhit⟩
  · rintro ⟨rfl, hv, htab, hstart, hhit⟩
    exact ⟨⟨(hmem hv).mpr rfl, hv, htab⟩, hstart, hhit⟩

/-- The matches are listed in rising order of index. -/
theorem State.thiMatches_pairwise_lt {s : State} (ht : Tbl.wf {} s.thi = true) (t key mask start : Nat) :
    (s.thiMatches t key mask start).Pairwise (fun p q => p.1 < q.1) :=
  ((Tbl.pairwise_lt ht).filter _).filter _

/-! ### The winner -/

/-- The highest priority listed. -/
def topPrio (l : List (Nat × ThiEnt)) : Nat := l.foldl (fun p e => max p e.2.prio) 0

theorem topPrio_eq_max (l : List (Nat × ThiEnt)) : (0 :: l.map (·.2.prio)).max? = some (topPrio l) := by
  rw [List.max?_cons', List.foldl_map]; rfl

theorem le_topPrio {l : List (Nat × ThiEnt)} {q : Nat × ThiEnt} (hq : q ∈ l) : q.2.prio ≤ topPrio l :=
  (List.max?_eq_some_iff.mp (topPrio_eq_max l)).2 _ (List.mem_cons_of_mem _ (List.mem_map_of_mem hq))

theorem exists_prio_eq_topPrio {l : List (Nat × ThiEnt)} (hl : l ≠ []) : ∃ q ∈ l, q.2.prio = topPrio l := by
  obtain ⟨hmem, _⟩ := List.max?_eq_some_iff.mp (topPrio_eq_max l)
  rcases List.mem_cons.mp hmem with h0 | h
  · obtain ⟨q, hq⟩ := List.exists_mem_of_ne_nil l hl
    exact ⟨q, hq, by have := le_topPrio hq; omega⟩
  · exact List.mem_map.mp h

/-- The entries listed that have the highest priority. -/
def topEntries (l : List (Nat × ThiEnt)) : List (Nat × ThiEnt) := l.filter (fun q => q.2.prio == topPrio l)

theorem mem_topEntries {l : List (Nat × ThiEnt)} {q : Nat × ThiEnt} : q ∈ topEntries l ↔ q ∈ l ∧ q.2.prio = topPrio l := by
  simp [topEntries]

theorem topEntries_eq_nil {l : List (Nat × ThiEnt)} : topEntries l = [] ↔ l = [] := by
  constructor
  · intro h
    by_contra hl
    obtain ⟨q, hq⟩ := exists_prio_eq_topPrio hl
    exact List.not_mem_nil (h ▸ mem_topEntries.mpr hq)
  · rintro rfl; rfl

/-- The winner is the first entry of the highest priority; MULTI says whether another follows it. -/
theorem thiWinner_eq (l : List (Nat × ThiEnt)) :
    thiWinner l = (topEntries l).head?.map (fun q => (q.1, q.2, !(topEntries l).tail.isEmpty)) := by
  unfold thiWinner
  change (match topEntries l with | [] => none | (i, e) :: t => some (i, e, !t.isEmpty)) = _
  cases topEntries l <;> rfl

theorem thiWinner_eq_none {l : List (Nat × ThiEnt)} : thiWinner l = none ↔ l = [] := by
  rw [thiWinner_eq, Option.map_eq_none_iff, List.head?_eq_none_iff, topEntries_eq_nil]

theorem thiWinner_eq_some {l : List (Nat × ThiEnt)} {i : Nat} {e : ThiEnt} {m : Bool} :
    thiWinner l = some (i, e, m) ↔ ∃ t, topEntries l = (i, e) :: t ∧ (!t.isEmpty) = m := by
  rw [thiWinner_eq]
  cases topEntries l with
  | nil => simp
  | cons q t => simp [Prod.ext_iff, and_assoc]

section
variable {l : List (Nat × ThiEnt)} {i : Nat} {e : ThiEnt} {m : Bool} (h : thiWinner l = some (i, e, m))
include h

theorem thiWinner_mem : (i, e) ∈ l ∧ e.prio = topPrio l := by
  obtain ⟨t, ht, _⟩ := thiWinner_eq_some.mp h
  exact mem_topEntries.mp (ht ▸ List.mem_cons_self)

variable (hl : l.Pairwise (fun p q => p.1 < q.1))
include hl

/-- In a list of rising index, no entry of the winner's priority lies below it. -/
theorem thiWinner_outranks {q : Nat × ThiEnt} (hq : q ∈ l) : q.2.prio < e.prio ∨ (q.2.prio = e.prio ∧ i ≤ q.1) := by
  obtain ⟨t, ht, _⟩ := thiWinner_eq_some.mp h
  obtain ⟨_, htop⟩ := thiWinner_mem h
  rw [htop]
  rcases Nat.lt_or_eq_of_le (le_topPrio hq) with hlt | heq
  · exact .inl hlt
  · have hsorted : ((i, e) :: t).Pairwise (fun p q => p.1 < q.1) := ht ▸ hl.filter _
    rcases List.mem_cons.mp (ht ▸ mem_topEntries.mpr ⟨hq, heq⟩) with rfl | hlater
    · exact .inr ⟨heq, Nat.le_refl _⟩
    · exact .inr ⟨heq, Nat.le_of_lt (List.rel_of_pairwise_cons hsorted hlater)⟩

/-- MULTI says whether another entry shares the winner's priority. -/
theorem thiWinner_multi : m = true ↔ ∃ q ∈ l, q.1 ≠ i ∧ q.2.prio = e.prio := by
  obtain ⟨t, ht, rfl⟩ := thiWinner_eq_some.mp h
  obtain ⟨_, htop⟩ := thiWinner_mem h
  have hsorted : ((i, e) :: t).Pairwise (fun p q => p.1 < q.1) := ht ▸ hl.filter _
  have hmem (q : Nat × ThiEnt) : q ∈ (i, e) :: t ↔ q ∈ l ∧ q.2.prio = e.prio := by rw [← ht, htop, mem_topEntries]
  constructor
  · intro hne
    obtain ⟨q, hq⟩ := List.exists_mem_of_ne_nil t (by simpa using hne)
    obtain ⟨hql, hqp⟩ := (hmem q).mp (List.mem_cons_of_mem _ hq)
    exact ⟨q, hql, Nat.ne_of_gt (List.rel_of_pairwise_cons hsorted hq), hqp⟩
  · rintro ⟨q, hql, hqi, hqp⟩
    rcases List.mem_cons.mp ((hmem q).mpr ⟨hql, hqp⟩) with rfl | hq
    · exact absurd rfl hqi
    · simpa using List.ne_nil_of_mem hq

end

/-! ### The command -/

section
variable {s : State} {tb : Fin 8} {key : BitVec 160} {mask : BitVec 80} {start : Fin 32768} (hup : s.thiUp = true)
include hup

theorem exec_thiSearch_of_up : exec (.thiSearch tb key mask start) s =
    .next ((s.thiSearch tb key.toNat mask.toNat start).2.emit (.lookup (s.thiSearch tb key.toNat mask.toNat start).1)) := by
  change thiAnswer _ _ = _
  simp only [thiAnswer, hup, if_true]

theorem exec_thiSearch_of_miss (h : thiWinner (s.thiMatches tb key.toNat mask.toNat start) = none) :
    exec (.thiSearch tb key mask start) s = .next ((s.thiOps 1).emit (.lookup .miss)) := by
  simp only [exec_thiSearch_of_up hup, State.thiSearch, h]

theorem exec_thiSearch_of_hit {i : Nat} {e : ThiEnt} {m : Bool}
    (h : thiWinner (s.thiMatches tb key.toNat mask.toNat start) = some (i, e, m)) :
    exec (.thiSearch tb key mask start) s =
      .next ((if m then (s.thiOps 1).bump Reg.THI_CNT.MULTI_HITS else s.thiOps 1).emit (.lookup (.hit i m e.data))) := by
  simp only [exec_thiSearch_of_up hup, State.thiSearch, h]

end

/-- Counting operations changes the operation count alone. -/
theorem Frame.thiOps {ps : List Part} {rs : List Fld} {s t : State} (k : Frame ps rs s t) (hr : Reg.THI_OPS.COUNT ∈ rs) (n : Nat) :
    Frame ps rs s (t.thiOps n) := k.then_bump hr n (by decide) (by decide)

/-! ### The search as the statement speaks of it -/

/-- Entry `i` wins over entry `k`: its priority is higher, or it is as high and its index no higher (R474). -/
def State.Outranks (s : State) (i k : Nat) : Prop :=
  (s.thiEnt k).prio < (s.thiEnt i).prio ∨ ((s.thiEnt k).prio = (s.thiEnt i).prio ∧ i ≤ k)

theorem State.Outranks.antisymm {s : State} {i k : Nat} (h : s.Outranks i k) (h' : s.Outranks k i) : i = k := by
  unfold State.Outranks at h h'; omega

section
variable {s : State} (hwf : Tbl.wf {} s.thi = true) {tb : Fin 8} {key : BitVec 160} {mask : BitVec 80} {start : Nat}
include hwf

theorem State.winner_eq_none_iff :
    thiWinner (s.thiMatches tb key.toNat mask.toNat start) = none ↔ ∀ i, ¬ s.Matches tb key mask start i := by
  have hmem := State.mem_thiMatches hwf tb key mask start
  rw [thiWinner_eq_none, List.eq_nil_iff_forall_not_mem]
  exact ⟨fun h i hi => h (i, s.thiEnt i) ((hmem _ _).mpr ⟨rfl, hi⟩), fun h q hq => h q.1 ((hmem _ _).mp hq).2⟩

variable {i : Nat} {e : ThiEnt} {m : Bool} (h : thiWinner (s.thiMatches tb key.toNat mask.toNat start) = some (i, e, m))
include h

theorem State.winner_matches : s.thiEnt i = e ∧ s.Matches tb key mask start i :=
  (State.mem_thiMatches hwf ..).mp (thiWinner_mem h).1

theorem State.winner_outranks {k : Nat} (hk : s.Matches tb key mask start k) : s.Outranks i k := by
  obtain ⟨rfl, _⟩ := State.winner_matches hwf h
  exact thiWinner_outranks h (State.thiMatches_pairwise_lt hwf ..) ((State.mem_thiMatches hwf ..).mpr ⟨rfl, hk⟩)

theorem State.winner_multi_iff : m = true ↔ ∃ k, k ≠ i ∧ s.Matches tb key mask start k ∧ (s.thiEnt k).prio = (s.thiEnt i).prio := by
  obtain ⟨rfl, _⟩ := State.winner_matches hwf h
  have hmem := State.mem_thiMatches hwf tb key mask start
  rw [thiWinner_multi h (State.thiMatches_pairwise_lt hwf ..)]
  constructor
  · rintro ⟨⟨k, x⟩, hin, hne, hp⟩
    obtain ⟨rfl, hk⟩ := (hmem k x).mp hin
    exact ⟨k, hne, hk, hp⟩
  · rintro ⟨k, hne, hk, hp⟩
    exact ⟨(k, s.thiEnt k), (hmem k _).mpr ⟨rfl, hk⟩, hne, hp⟩

end

/-- Settles O5: the matches are listed in rising order of index, so the first of the highest priority outranks every match, and MULTI
says that another of that priority follows it. -/
theorem engineSearch : Obligations.EngineSearch := by
  intro s tb key mask start hup hwf
  refine ⟨fun hmiss => ?_, fun i hi hbest => ?_, fun ⟨i, hi⟩ => ?_⟩
  · exact ⟨_, exec_thiSearch_of_miss hup ((State.winner_eq_none_iff hwf).mpr hmiss), rfl,
      ((Frame.refl _ _ s).thiOps (by decide) 1).then_emit (by decide) _⟩
  · rcases hw : thiWinner (s.thiMatches tb key.toNat mask.toNat start) with _ | ⟨j, e, m⟩
    · exact absurd hi ((State.winner_eq_none_iff hwf).mp hw i)
    · obtain ⟨rfl, hj⟩ := State.winner_matches hwf hw
      obtain rfl : i = j := State.Outranks.antisymm (hbest j hj) (State.winner_outranks hwf hw hi)
      have hops := (Frame.refl [.buses] [Reg.THI_OPS.COUNT, Reg.THI_CNT.MULTI_HITS] s).thiOps (by decide) 1
      exact ⟨_, m, exec_thiSearch_of_hit hup hw, by cases m <;> rfl, State.winner_multi_iff hwf hw,
        (Frame.ite (hops.then_bump (by decide) _ (by decide) (by decide)) hops).then_emit (by decide) _⟩
  · rcases hw : thiWinner (s.thiMatches tb key.toNat mask.toNat start) with _ | ⟨j, e, m⟩
    · exact absurd hi ((State.winner_eq_none_iff hwf).mp hw i)
    · exact ⟨j, (State.winner_matches hwf hw).2, fun k hk => State.winner_outranks hwf hw hk⟩

end Sys2Proof.Machine
end

section
/-! PROOFS. The buffer pool (R464 to R471): what back-pressure, a grant, a refused handle and the served queue change and keep. -/

namespace Sys2Proof.Machine

/-! ### Buffers and the other operations -/

@[simp] theorem State.buf_setBuf (s : State) (b c : Nat) (x : Buf) : (s.setBuf b x).buf c = if c = b then x else s.buf c := by apply Tbl.get_set

@[simp] theorem State.buf_wr (s : State) (r : Fld) (v i f b : Nat) : (s.wr r v i f).buf b = s.buf b := rfl

theorem Frame.with_pool {ps : List Part} {rs : List Fld} {s t : State} (k : Frame ps rs s t) (h : Part.pool ∈ ps) (x : Pool) :
    Frame ps rs s { t with pool := x } :=
  k.part .pool h (fun q hq => by cases q <;> first | exact absurd rfl hq | simp [Part.same]) rfl

/-- A register write changes no part. -/
theorem Only.then_wr {ps : List Part} {s t : State} (k : Only ps s t) (r : Fld) (v i f : Nat) : Only ps s (t.wr r v i f) :=
  k.trans fun p _ => by cases p <;> simp [Part.same]

/-- Whatever each round of a fold keeps, the fold keeps. -/
theorem State.foldl_keeps {β γ : Type} {g : State → β → State} (p : State → γ) (h : ∀ s b, p (g s b) = p s) (l : List β) (s : State) :
    p (l.foldl g s) = p s := by
  induction l generalizing s with
  | nil => rfl
  | cons b l ih => exact (ih _).trans (h s b)

/-! ### Back-pressure (R469) -/

/-- The fields that show the pool's free buffers and its state. -/
def poolStatusRegs : List Fld := [Reg.BPM_STATUS.FREE, Reg.BPM_STATUS.SHARED_FREE, Reg.BPM_STATUS.BACKPRESSURE, Reg.BPM_STATUS.CRITICAL]

/-- The pool in back-pressure state `p`, with its free buffers shown. -/
def State.showPress (s : State) (p : Nat) : State :=
  let t := ((s.wr Reg.BPM_STATUS.FREE s.poolFree).wr Reg.BPM_STATUS.SHARED_FREE s.sharedFree).wr Reg.BPM_STATUS.BACKPRESSURE (bit (p != 0))
    |>.wr Reg.BPM_STATUS.CRITICAL (bit (p == 2))
  { t with pool := { t.pool with press := p } }

/-- Back-pressure shows some state of the pool, with an event where it is a worse one. -/
theorem State.backpressure_cases (s : State) :
    ∃ p, s.backpressure = s.showPress p ∨ ∃ d, s.backpressure = (s.showPress p).event 0x15 0x0100 d :=
  ⟨_, (ite_eq_or_eq _ _ _).symm.imp id fun h => ⟨_, h⟩⟩

theorem State.rd_showPress (s : State) (p : Nat) {q : Fld} (h : ∀ r ∈ poolStatusRegs, q.apart r = true) (j g : Nat) :
    (s.showPress p).rd q j g = s.rd q j g := by
  have hwr (t : State) {r : Fld} (hr : r ∈ poolStatusRegs) (v : Nat) : (t.wr r v).rd q j g = t.rd q j g :=
    State.rd_wr_apart t r q v 0 0 j g (h r hr)
  exact (hwr _ (by decide) _).trans ((hwr _ (by decide) _).trans ((hwr _ (by decide) _).trans (hwr _ (by decide) _)))

theorem Frame.showPress {ps : List Part} {rs : List Fld} {s t : State} (k : Frame ps rs s t) (hpool : Part.pool ∈ ps)
    (hr : poolStatusRegs ⊆ rs) (p : Nat) : Frame ps rs s (t.showPress p) :=
  ((((k.then_wr (hr (by decide)) _ (by decide) (by decide)).then_wr (hr (by decide)) _ (by decide) (by decide)).then_wr
    (hr (by decide)) _ (by decide) (by decide)).then_wr (hr (by decide)) _ (by decide) (by decide)).with_pool hpool _

theorem State.backpressure_pool (s : State) : ∃ p, s.backpressure.pool = { s.pool with press := p } := by
  obtain ⟨p, h | ⟨d, h⟩⟩ := s.backpressure_cases <;> exact ⟨p, by rw [h]; rfl⟩

theorem State.backpressure_out (s : State) : s.backpressure.out = s.out := by
  obtain ⟨p, h | ⟨d, h⟩⟩ := s.backpressure_cases <;> rw [h] <;> rfl

@[simp] theorem State.buf_backpressure (s : State) (b : Nat) : s.backpressure.buf b = s.buf b := by
  obtain ⟨p, hp⟩ := s.backpressure_pool
  simp only [State.buf, hp]

theorem State.rd_backpressure (s : State) {q : Fld} (h : ∀ r ∈ poolStatusRegs, q.apart r = true) (j g : Nat) :
    s.backpressure.rd q j g = s.rd q j g := by
  obtain ⟨p, hp | ⟨d, hp⟩⟩ := s.backpressure_cases
  · rw [hp, s.rd_showPress p h]
  · rw [hp, State.event_rd_, s.rd_showPress p h]

theorem Frame.backpressure {ps : List Part} {rs : List Fld} {s t : State} (k : Frame ps rs s t) (hpool : Part.pool ∈ ps) (hlog : Part.log ∈ ps)
    (hr : poolStatusRegs ⊆ rs) : Frame ps rs s t.backpressure := by
  obtain ⟨p, h | ⟨d, h⟩⟩ := t.backpressure_cases
  · exact h ▸ k.showPress hpool hr p
  · exact h ▸ (k.showPress hpool hr p).then_event hlog _ _ _ _

/-! ### Grants (R461, R465, R470) -/

/-- A buffer as it is granted: owner `o`, generation + 1, count 1, nothing valid (R461, R470). -/
def Buf.granted (x : Buf) (o : Nat) : Buf := { owner := o, gen := (x.gen + 1) % 16, refs := 1 }

/-- The buffers listed, granted to owner `o`. -/
def State.allot (s : State) (o : Nat) (l : List Nat) : State := l.foldl (fun s b => s.setBuf b ((s.buf b).granted o)) s

theorem State.buf_allot (s : State) (o : Nat) {l : List Nat} (hl : l.Nodup) (b : Nat) :
    (s.allot o l).buf b = if b ∈ l then (s.buf b).granted o else s.buf b := by
  induction l generalizing s with
  | nil => rfl
  | cons c l ih =>
    obtain ⟨hc, hl⟩ := List.nodup_cons.mp hl
    change ((s.setBuf c _).allot o l).buf b = _
    rw [ih _ hl, State.buf_setBuf]
    by_cases hb : b = c
    · simp [hb, hc]
    · simp [hb]

theorem State.allot_out (s : State) (o : Nat) (l : List Nat) : (s.allot o l).out = s.out := State.foldl_keeps (·.out) (by intros; rfl) l s

theorem State.allot_rd (s : State) (o : Nat) (l : List Nat) (r : Fld) (i f : Nat) : (s.allot o l).rd r i f = s.rd r i f :=
  State.foldl_keeps (·.rd r i f) (by intros; rfl) l s

theorem Frame.allot {ps : List Part} {rs : List Fld} {s t : State} (k : Frame ps rs s t) (h : Part.pool ∈ ps) (o : Nat) (l : List Nat) :
    Frame ps rs s (t.allot o l) :=
  Frame.foldl (fun s _ _ => (Frame.refl ps rs s).setBuf h _ _) k

theorem State.freeBufs_nodup (s : State) (n : Nat) : (s.freeBufs n).Nodup :=
  (List.nodup_range.filter _).sublist (List.take_sublist _ _)

/-- USED and PEAK of an owner after a grant of `n` buffers. -/
def State.charge (s : State) (o n : Nat) : State :=
  let t := s.wr Reg.BPM_OWN.USED (s.bufUsed o + n) o
  t.wr Reg.BPM_OWN.PEAK (max (t.rd Reg.BPM_OWN.PEAK o) (t.bufUsed o)) o

theorem State.bufUsed_charge (s : State) (o n : Nat) : (s.charge o n).bufUsed o = (s.bufUsed o + n) % 2 ^ Reg.BPM_OWN.USED.w :=
  (State.rd_wr_apart _ _ _ _ _ _ _ _ (by decide)).trans (State.rd_wr_same _ _ _ _ _)

theorem State.grant_eq (s : State) (o n : Nat) : s.grant o n =
    ((((s.allot o (s.freeBufs n)).charge o n).emit
      (.buffers o ((s.freeBufs n).map fun b => b + ((s.allot o (s.freeBufs n)).buf b).gen * 2 ^ 14))).backpressure) := rfl

theorem State.buf_grant (s : State) (o n b : Nat) :
    (s.grant o n).buf b = if b ∈ s.freeBufs n then (s.buf b).granted o else s.buf b := by
  rw [State.grant_eq, State.buf_backpressure]
  exact s.buf_allot o (s.freeBufs_nodup n) b

/-- A grant answers the handles: each buffer with its new generation (R470). -/
theorem State.grant_out (s : State) (o n : Nat) :
    (s.grant o n).out = .buffers o ((s.freeBufs n).map fun b => b + ((s.buf b).gen + 1) % 16 * 2 ^ 14) :: s.out := by
  have hgen : ∀ b ∈ s.freeBufs n, ((s.allot o (s.freeBufs n)).buf b).gen = ((s.buf b).gen + 1) % 16 := fun b hb => by
    rw [s.buf_allot o (s.freeBufs_nodup n), if_pos hb]; rfl
  rw [State.grant_eq, State.backpressure_out, List.map_congr_left fun b hb => by rw [hgen b hb]]
  exact congrArg (_ :: ·) (s.allot_out o _)

theorem State.bufUsed_grant (s : State) (o n : Nat) : (s.grant o n).bufUsed o = (s.bufUsed o + n) % 2 ^ Reg.BPM_OWN.USED.w := by
  have hused : (s.allot o (s.freeBufs n)).bufUsed o = s.bufUsed o := s.allot_rd o _ _ _ _
  rw [State.grant_eq, State.bufUsed, State.rd_backpressure _ (by decide), State.emit_rd_]
  exact (State.bufUsed_charge _ o n).trans (by rw [hused])

theorem Only.grant {ps : List Part} {s t : State} (k : Only ps s t) (hpool : Part.pool ∈ ps) (hbus : Part.buses ∈ ps) (hlog : Part.log ∈ ps)
    (o n : Nat) : Only ps s (t.grant o n) := by
  have hall : Only ps t (t.allot o (t.freeBufs n)) := ((Frame.refl ps [] t).allot hpool o _).1
  have hpaid : Only ps t ((t.allot o (t.freeBufs n)).charge o n) := (hall.then_wr _ _ _ _).then_wr _ _ _ _
  rw [State.grant_eq]
  exact k.trans (hpaid.trans (((Frame.refl ps poolStatusRegs _).then_emit hbus _).backpressure hpool hlog (List.Subset.refl _)).1)

/-- The fields a grant may change. -/
def grantRegs : List Fld := Reg.BPM_OWN.USED :: Reg.BPM_OWN.PEAK :: poolStatusRegs

theorem Frame.grant (s : State) (o : Fin 8) (n : Nat) : Frame [.pool, .buses, .log] grantRegs s (s.grant o n) := by
  rw [State.grant_eq]
  refine Frame.backpressure (.then_emit ?_ (by decide) _) (by decide) (by decide) (by decide)
  exact (((Frame.refl _ _ s).allot (by decide) o _).then_wr (by decide) _ o.isLt (by decide)).then_wr (by decide) _ o.isLt (by decide)

/-! ### The queue (R468) -/

/-- One queued request in turn: granted, or kept in the queue. -/
def serveOne (acc : State × List (Nat × Nat)) (q : Nat × Nat) : State × List (Nat × Nat) :=
  if !acc.2.any (fun p => p.1 == q.1) && acc.1.bufGrantable q.1 q.2 then (acc.1.grant q.1 q.2, acc.2) else (acc.1, acc.2 ++ [q])

/-- WAITING of every owner, from the queue. -/
def State.showWaiting (s : State) : State := (List.range 8).foldl (fun s o => s.wr Reg.BPM_OWN.WAITING (bit (s.bufWaiting o)) o) s

theorem State.serveQueue_eq (s : State) : s.serveQueue =
    let r := s.pool.queue.foldl serveOne (s, [])
    State.showWaiting { r.1 with pool := { r.1.pool with queue := r.2 } } := rfl

/-- With nothing queued, serving the queue only writes WAITING. -/
theorem State.serveQueue_of_nil {s : State} (h : s.pool.queue = []) : s.serveQueue = s.showWaiting := by
  rw [State.serveQueue_eq, h]
  change State.showWaiting { s with pool := { s.pool with queue := [] } } = _
  rw [← h]

@[simp] theorem State.buf_showWaiting (s : State) (b : Nat) : s.showWaiting.buf b = s.buf b :=
  State.foldl_keeps (·.buf b) (by intros; rfl) _ s

theorem State.bufUsed_showWaiting (s : State) (o : Nat) : s.showWaiting.bufUsed o = s.bufUsed o :=
  State.foldl_keeps (·.bufUsed o) (fun _ _ => State.rd_wr_apart _ _ _ _ _ _ _ _ (by decide)) _ s

theorem Frame.showWaiting {ps : List Part} {rs : List Fld} {s t : State} (k : Frame ps rs s t) (hr : Reg.BPM_OWN.WAITING ∈ rs) :
    Frame ps rs s t.showWaiting :=
  Frame.foldl (fun s _ ho => Frame.wr ps hr s _ (List.mem_range.mp ho) (by decide)) k

section
variable {ps : List Part} {s : State} (hpool : Part.pool ∈ ps) (hbus : Part.buses ∈ ps) (hlog : Part.log ∈ ps)
include hpool hbus hlog

theorem Only.foldl_serveOne (l : List (Nat × Nat)) (acc : State × List (Nat × Nat)) (k : Only ps s acc.1) :
    Only ps s (l.foldl serveOne acc).1 := by
  induction l generalizing acc with
  | nil => exact k
  | cons q l ih =>
    refine ih _ ?_
    unfold serveOne
    split
    · exact k.grant hpool hbus hlog _ _
    · exact k

theorem Only.serveQueue {t : State} (k : Only ps s t) : Only ps s t.serveQueue := by
  rw [State.serveQueue_eq]
  have hserved := Only.foldl_serveOne hpool hbus hlog t.pool.queue (t, []) k
  exact hserved.trans (((Frame.refl ps [Reg.BPM_OWN.WAITING] _).with_pool hpool _).showWaiting (by decide)).1

end

/-! ### Requests (R464, R468) -/

section
variable {s : State} (o : Fin 8) {n : Nat}

theorem exec_bufferAllocate_of_down (h : s.sup.coreUp = false) : exec (.bufferAllocate o n) s = .next s := by
  change execBufferAllocate o n s = _
  simp only [execBufferAllocate, h, Bool.not_false, if_true]

variable (hup : s.sup.coreUp = true)
include hup

theorem exec_bufferAllocate_zero : exec (.bufferAllocate o 0) s =
    .next (((s.wr Reg.BPM_EVT.ZERO_REQ 1).event 0x15 0x0104 (o * 32)).emit (.internalFault 0x15)) := by
  change execBufferAllocate o 0 s = _
  simp only [execBufferAllocate, hup, Bool.not_true, Bool.false_eq_true, if_false, if_true]

theorem exec_bufferAllocate_over (h : 16 < n) : exec (.bufferAllocate o n) s =
    .next (((s.wr Reg.BPM_EVT.BAD_REQ 1).event 0x15 0x0104 (n % 32 + o * 32)).emit (.internalFault 0x15)) := by
  change execBufferAllocate o n s = _
  simp only [execBufferAllocate, hup, Bool.not_true, Bool.false_eq_true, if_false, if_true, h, show n ≠ 0 by omega]

theorem exec_bufferAllocate_of_grantable (h1 : 1 ≤ n) (h16 : n ≤ 16) (hw : s.bufWaiting o = false) (hg : s.bufGrantable o n = true) :
    exec (.bufferAllocate o n) s = .next (s.grant o n) := by
  change execBufferAllocate o n s = _
  simp only [execBufferAllocate, hup, hw, hg, Bool.not_true, Bool.not_false, Bool.and_self, Bool.false_eq_true, if_false, if_true,
    show n ≠ 0 by omega, show ¬ 16 < n by omega]

theorem exec_bufferAllocate_of_wait (h1 : 1 ≤ n) (h16 : n ≤ 16) (h : s.bufWaiting o = true ∨ s.bufGrantable o n = false) :
    exec (.bufferAllocate o n) s =
      .next ({ s with pool := { s.pool with queue := s.pool.queue ++ [(o.val, n)] } }.wr Reg.BPM_OWN.WAITING 1 o) := by
  have hwait : (!s.bufWaiting o && s.bufGrantable o n) = false := by rcases h with h | h <;> simp [h]
  change execBufferAllocate o n s = _
  simp only [execBufferAllocate, hup, hwait, Bool.not_true, Bool.false_eq_true, if_false, show n ≠ 0 by omega, show ¬ 16 < n by omega]

end

/-! ### The last release (R469, R470) -/

/-- A buffer made free: count 0, its owner's USED one lower, and back-pressure evaluated. -/
def State.freed (s : State) (b : Nat) : State :=
  ((s.setBuf b { s.buf b with refs := 0 }).wr Reg.BPM_OWN.USED (s.bufUsed (s.buf b).owner - 1) (s.buf b).owner).backpressure

section
variable (s : State) (b : Nat)

theorem State.buf_freed (i : Nat) : (s.freed b).buf i = if i = b then { s.buf b with refs := 0 } else s.buf i := by
  rw [State.freed, State.buf_backpressure, State.buf_wr, State.buf_setBuf]

theorem State.bufUsed_freed : (s.freed b).bufUsed (s.buf b).owner = (s.bufUsed (s.buf b).owner - 1) % 2 ^ Reg.BPM_OWN.USED.w := by
  rw [State.freed, State.bufUsed, State.rd_backpressure _ (by decide), State.rd_wr_same]

theorem State.freed_queue (h : s.pool.queue = []) : (s.freed b).pool.queue = [] := by
  obtain ⟨p, hp⟩ := State.backpressure_pool
    ((s.setBuf b { s.buf b with refs := 0 }).wr Reg.BPM_OWN.USED (s.bufUsed (s.buf b).owner - 1) (s.buf b).owner)
  rw [State.freed, hp]
  exact h

theorem Only.freed : Only [.pool, .buses, .log] s (s.freed b) :=
  ((((Frame.refl _ [] s).setBuf (by decide) _ _).1.then_wr _ _ _ _)).trans
    ((Frame.refl _ poolStatusRegs _).backpressure (by decide) (by decide) (List.Subset.refl _)).1

end

theorem Frame.freed (s : State) {b : Nat} (h : (s.buf b).owner < 8) :
    Frame [.pool, .log] (Reg.BPM_OWN.USED :: Reg.BPM_OWN.WAITING :: poolStatusRegs) s (s.freed b) :=
  (((Frame.refl _ _ s).setBuf (by decide) _ _).then_wr (by decide) _ h (by decide)).backpressure (by decide) (by decide) (by decide)

/-! ### Handles (R470, R471) -/

/-- The buffer a handle names. -/
abbrev handleBuf (handle : BitVec 18) : Nat := bitsOf handle.toNat 0 14
/-- The generation a handle carries. -/
abbrev handleGen (handle : BitVec 18) : Nat := bitsOf handle.toNat 14 4

section
variable {s : State} {handle : BitVec 18}

/-- A handle of a free buffer or of another generation is refused by SHARE and RELEASE alike. -/
theorem exec_of_freeFault (n : Fin 63) (h : (s.buf (handleBuf handle)).refs = 0 ∨ (s.buf (handleBuf handle)).gen ≠ handleGen handle)
    {c : Instr} (hc : c ∈ [Instr.bufferShare handle n, .bufferRelease handle]) :
    exec c s = .next (s.freeFault (handleBuf handle) (handleGen handle) (decide ((s.buf (handleBuf handle)).refs = 0))) := by
  have hshare : exec (.bufferShare handle n) s = execBufferShare handle n s := rfl
  have hrelease : exec (.bufferRelease handle) s = execBufferRelease handle s := rfl
  simp only [List.mem_cons, List.not_mem_nil, or_false] at hc
  by_cases h0 : (s.buf (handleBuf handle)).refs = 0
  · rcases hc with rfl | rfl
    · simp [hshare, execBufferShare, h0]
    · simp [hrelease, execBufferRelease, h0]
  · have hgen := h.resolve_left h0
    rcases hc with rfl | rfl
    · simp [hshare, execBufferShare, h0, hgen]
    · simp [hrelease, execBufferRelease, h0, hgen]

end

section
variable (s : State) (b g : Nat) (double : Bool)

theorem State.freeFault_pool : (s.freeFault b g double).pool = s.pool := by cases double <;> rfl

theorem State.freeFault_head : (s.freeFault b g double).events.head?.map (fun e => (e.source, e.code, e.detail)) =
    some (0x15, 0x0101, b + g * 2 ^ 14 + (s.buf b).gen * 2 ^ 18 + (s.buf b).owner * 2 ^ 22) := by cases double <;> rfl

theorem State.freeFault_evt : (s.freeFault b g double).rd (if double then Reg.BPM_EVT.DOUBLE_FREE else Reg.BPM_EVT.STALE) = 1 := by
  cases double
  · exact (State.rd_bump_apart _ _ _ _ _ _ _ _ (by decide)).trans (State.rd_wr_same _ _ _ _ _)
  · exact (State.rd_bump_apart _ _ _ _ _ _ _ _ (by decide)).trans (State.rd_wr_same _ _ _ _ _)

theorem State.freeFault_count : (s.freeFault b g double).rd Reg.BPM_CNT.FREE_FAULTS =
    min (s.rd Reg.BPM_CNT.FREE_FAULTS + 1) (2 ^ Reg.BPM_CNT.FREE_FAULTS.w - 1) := by
  have hwr {r : Fld} (hr : Reg.BPM_CNT.FREE_FAULTS.apart r = true) : ((s.wr r 1).bump Reg.BPM_CNT.FREE_FAULTS).rd Reg.BPM_CNT.FREE_FAULTS =
      min (s.rd Reg.BPM_CNT.FREE_FAULTS + 1) (2 ^ Reg.BPM_CNT.FREE_FAULTS.w - 1) := by
    rw [State.rd_bump_same, State.rd_wr_apart _ _ _ _ _ _ _ _ hr]
  cases double
  · exact hwr (by decide)
  · exact hwr (by decide)

theorem Frame.freeFault :
    Frame [.log, .buses] [Reg.BPM_EVT.DOUBLE_FREE, Reg.BPM_EVT.STALE, Reg.BPM_CNT.FREE_FAULTS] s (s.freeFault b g double) := by
  unfold State.freeFault
  refine .then_emit (.then_event (.then_bump ?_ (by decide) _ (by decide) (by decide)) (by decide) _ _ _ _) (by decide) _
  exact .ite (Frame.wr _ (by decide) s _ (by decide) (by decide)) (Frame.wr _ (by decide) s _ (by decide) (by decide))

end

section
variable {s : State} {handle : BitVec 18} (hrefs : (s.buf (handleBuf handle)).refs ≠ 0)
  (hgen : (s.buf (handleBuf handle)).gen = handleGen handle)
include hrefs hgen

theorem exec_bufferShare_of_fits {n : Fin 63} (h : (s.buf (handleBuf handle)).refs + n ≤ 63) : exec (.bufferShare handle n) s =
    .next (s.setBuf (handleBuf handle) { s.buf (handleBuf handle) with refs := (s.buf (handleBuf handle)).refs + n }) := by
  change execBufferShare handle n s = _
  unfold execBufferShare
  dsimp only
  rw [if_neg hrefs, if_neg (not_not.mpr hgen), if_neg (Nat.not_lt.mpr h)]

theorem exec_bufferShare_of_over {n : Fin 63} (h : 63 < (s.buf (handleBuf handle)).refs + n) : exec (.bufferShare handle n) s =
    .next ((s.wr Reg.BPM_EVT.REF_OVERFLOW 1).event 0x15 0x0105 (handleBuf handle)) := by
  change execBufferShare handle n s = _
  unfold execBufferShare
  dsimp only
  rw [if_neg hrefs, if_neg (not_not.mpr hgen), if_pos h]

theorem exec_bufferRelease_of_many (h : (s.buf (handleBuf handle)).refs ≠ 1) : exec (.bufferRelease handle) s =
    .next (s.setBuf (handleBuf handle) { s.buf (handleBuf handle) with refs := (s.buf (handleBuf handle)).refs - 1 }) := by
  change execBufferRelease handle s = _
  unfold execBufferRelease
  dsimp only
  rw [if_neg hrefs, if_neg (not_not.mpr hgen), if_neg h]

omit hrefs in
theorem exec_bufferRelease_of_last (h : (s.buf (handleBuf handle)).refs = 1) :
    exec (.bufferRelease handle) s = .next (s.freed (handleBuf handle)).serveQueue := by
  change execBufferRelease handle s = _
  unfold execBufferRelease
  dsimp only
  rw [if_neg (h ▸ Nat.one_ne_zero), if_neg (not_not.mpr hgen), if_pos h]
  simp only [State.freed, h]
  rfl

end

/-! ### The statement -/

/-- Settles O44: each clause is the command's answer in that case (a refusal, a grant, a place in the queue, a refused handle, a share, or a
release, the last of which serves the queue) with the rules of the operation it comes to. -/
theorem bufferPool : Obligations.BufferPool := by
  intro s
  refine ⟨fun o n => ⟨exec_bufferAllocate_of_down o, fun hup => ⟨fun hn => ?_, fun h1 h16 hw hg => ?_, fun h1 h16 hwait => ?_⟩⟩,
    fun handle n => ⟨fun hbad c hc => ?_, fun hrefs hgen hfit => ?_, fun hrefs hgen hover => ?_, fun hmany hgen => ?_,
      fun hlast hgen howner hq => ?_, fun hlast hgen => ?_⟩⟩
  · have hframe {r : Fld} (hr : r ∈ [Reg.BPM_EVT.ZERO_REQ, Reg.BPM_EVT.BAD_REQ]) (hc : 0 < r.count) (d : Nat) :=
      ((Frame.wr [.log, .buses] hr s 1 hc Nat.zero_lt_two).then_event (by decide) 0x15 0x0104 d 0xFF).then_emit (by decide) (.internalFault 0x15)
    rcases hn with rfl | hover
    · exact ⟨_, exec_bufferAllocate_zero o hup, (if_pos rfl).mpr (State.rd_wr_same s Reg.BPM_EVT.ZERO_REQ 1 0 0), by simp, rfl,
        hframe (by decide) (by decide) _⟩
    · exact ⟨_, exec_bufferAllocate_over o hup hover, (if_neg (by omega)).mpr (State.rd_wr_same s Reg.BPM_EVT.BAD_REQ 1 0 0), rfl, rfl,
        hframe (by decide) (by decide) _⟩
  · exact ⟨_, exec_bufferAllocate_of_grantable o hup h1 h16 hw hg, s.grant_out o n, fun b hb => (s.buf_grant o n b).trans (if_pos hb),
      fun b hb => (s.buf_grant o n b).trans (if_neg hb), s.bufUsed_grant o n, Frame.grant s o n⟩
  · exact ⟨_, exec_bufferAllocate_of_wait o hup h1 h16 hwait, rfl, State.rd_wr_same _ _ 1 o 0,
      ((Frame.refl _ _ s).with_pool (by decide) _).then_wr (by decide) 1 o.isLt (by decide)⟩
  · refine ⟨_, exec_of_freeFault n hbad hc, s.freeFault_pool .., ?_, s.freeFault_count .., s.freeFault_head .., Frame.freeFault s ..⟩
    have hevt := s.freeFault_evt (handleBuf handle) (handleGen handle) (decide ((s.buf (handleBuf handle)).refs = 0))
    split
    · next h => simpa [h] using hevt
    · next h => simpa [h] using hevt
  · exact ⟨_, exec_bufferShare_of_fits hrefs hgen hfit, (State.buf_setBuf ..).trans (if_pos rfl),
      fun i hi => (State.buf_setBuf ..).trans (if_neg hi), (Frame.refl _ _ s).setBuf (by decide) _ _⟩
  · exact ⟨_, exec_bufferShare_of_over hrefs hgen hover, State.rd_wr_same s Reg.BPM_EVT.REF_OVERFLOW 1 0 0, rfl,
      (Frame.wr _ (by decide) s 1 (by decide) (by decide)).then_event (by decide) _ _ _ _⟩
  · exact ⟨_, exec_bufferRelease_of_many (Nat.ne_zero_of_lt hmany) hgen (Nat.ne_of_gt hmany), (State.buf_setBuf ..).trans (if_pos rfl),
      fun i hi => (State.buf_setBuf ..).trans (if_neg hi), (Frame.refl _ _ s).setBuf (by decide) _ _⟩
  · have hrun := exec_bufferRelease_of_last hgen hlast
    rw [State.serveQueue_of_nil (s.freed_queue _ hq)] at hrun
    refine ⟨_, hrun, ?_, fun i hi => ?_, (State.bufUsed_showWaiting ..).trans (s.bufUsed_freed _), (Frame.freed s howner).showWaiting (by decide)⟩
    · rw [State.buf_showWaiting, State.buf_freed, if_pos rfl]
    · rw [State.buf_showWaiting, State.buf_freed, if_neg hi]
  · exact ⟨_, exec_bufferRelease_of_last hgen hlast, (Only.freed s _).serveQueue (by decide) (by decide) (by decide)⟩

end Sys2Proof.Machine
end

section
/-! PROOFS. Terms shared by the proofs: what an outcome yields, what a frame says of the reads, and Keeps, the relation in which each operation
of the model is stated once: the parts it may change, the fields it may write, and that it is steady. -/

set_option Elab.async false

namespace Sys2Proof.Machine

/-! ### Outcomes -/

/-- The outcome is a next state that satisfies `P`. -/
def Yields (P : State → Prop) (o : Host.Outcome State Fault Refusal) : Prop := ∃ t, o = .next t ∧ P t

theorem Yields.next {P : State → Prop} {t : State} (h : P t) : Yields P (.next t) := ⟨t, rfl, h⟩

theorem Yields.ite {P : State → Prop} {c : Prop} [Decidable c] {a b : Host.Outcome State Fault Refusal} (h : c → Yields P a)
    (k : ¬ c → Yields P b) : Yields P (if c then a else b) := by
  split
  · exact h ‹_›
  · exact k ‹_›

theorem Yields.dite {P : State → Prop} {c : Prop} [Decidable c] {a : c → Host.Outcome State Fault Refusal}
    {b : ¬ c → Host.Outcome State Fault Refusal} (h : ∀ hc, Yields P (a hc)) (k : ∀ hc, Yields P (b hc)) : Yields P (dite c a b) := by
  split
  · exact h _
  · exact k _

theorem Yields.of_next {P : State → Prop} {o : Host.Outcome State Fault Refusal} {t : State} (h : Yields P o) (e : o = .next t) : P t := by
  obtain ⟨u, hu, hp⟩ := h
  cases hu.symm.trans e
  exact hp

theorem Yields.imp {P Q : State → Prop} {o : Host.Outcome State Fault Refusal} (h : Yields P o) (hPQ : ∀ t, P t → Q t) : Yields Q o := by
  obtain ⟨t, ht, hp⟩ := h
  exact ⟨t, ht, hPQ t hp⟩

/-! ### What a frame says of the reads -/

/-- A field apart from all that may change reads as it did. -/
theorem RegsOnly.rd_eq {rs : List Fld} {s t : State} (h : RegsOnly rs s t) {q : Fld} (hq : ∀ r ∈ rs, q.apart r = true) (j g : Nat) :
    t.rd q j g = s.rd q j g := by
  have hkey : ¬ IsHome rs (q.key j g) := by
    rintro ⟨r, hr, i, _, f, _, he⟩
    exact Fld.key_apart (hq r hr) j g i f he
  unfold State.rd
  rw [h _ hkey]

theorem Frame.rd_eq {ps : List Part} {rs : List Fld} {s t : State} (h : Frame ps rs s t) {q : Fld} (hq : ∀ r ∈ rs, q.apart r = true)
    (j g : Nat) : t.rd q j g = s.rd q j g := h.2.rd_eq hq j g

theorem Frame.same {ps : List Part} {rs : List Fld} {s t : State} (h : Frame ps rs s t) (p : Part) (hp : p ∉ ps := by decide) : p.same s t :=
  h.1 p hp

/-! ### Keeps -/

/-- Homes of any element of the fields listed. -/
def IsAnyHome (rs : List Fld) (k : Nat) : Prop := ∃ r ∈ rs, ∃ i f, k = r.key i f

/-- From `s` to `t` only the parts and the fields listed change, and the change is steady. -/
structure Keeps (ps : List Part) (rs : List Fld) (s t : State) : Prop where
  only : Only ps s t
  regs : ∀ k, ¬ IsAnyHome rs k → Tbl.get 0 t.regs k = Tbl.get 0 s.regs k
  steady : Steady s t

section
variable {ps qs : List Part} {rs us : List Fld} {s t u : State}

theorem Keeps.refl (ps : List Part) (rs : List Fld) (s : State) : Keeps ps rs s s := ⟨.refl _ _, fun _ _ => rfl, .refl _⟩

theorem Keeps.trans (h : Keeps ps rs s t) (k : Keeps ps rs t u) : Keeps ps rs s u :=
  ⟨h.only.trans k.only, fun n hn => (k.regs n hn).trans (h.regs n hn), h.steady.trans k.steady⟩

theorem Keeps.mono (h : Keeps qs us s t) (hp : qs ⊆ ps := by decide) (hr : us ⊆ rs := by decide) : Keeps ps rs s t :=
  ⟨h.only.mono hp, fun n hn => h.regs n fun ⟨r, hm, rest⟩ => hn ⟨r, hr hm, rest⟩, h.steady⟩

theorem Keeps.andThen (k : Keeps ps rs s t) (h : Keeps qs us t u) (hp : qs ⊆ ps := by decide) (hr : us ⊆ rs := by decide) :
    Keeps ps rs s u := k.trans (h.mono hp hr)

/-- Two changes in a row, with what either of them may change. -/
theorem Keeps.then (k : Keeps ps rs s t) (h : Keeps qs us t u) : Keeps (ps ++ qs) (rs ++ us) s u :=
  (k.mono (List.subset_append_left ..) (List.subset_append_left ..)).trans
    (h.mono (List.subset_append_right ..) (List.subset_append_right ..))

theorem Keeps.same (k : Keeps ps rs s t) (p : Part) (hp : p ∉ ps := by decide) : p.same s t := k.only p hp

/-- A field that is no array and has one element for both functions lies before every home of another. -/
def Fld.before (q r : Fld) : Bool :=
  q.stride == 0 && !q.perFn && decide (q.scope.code * 2 ^ 24 + q.off < r.scope.code * 2 ^ 24 + r.off) && q.lo == r.lo

theorem Fld.key_before {q r : Fld} (h : q.before r = true) (j g i f : Nat) : q.key j g ≠ r.key i f := by
  simp only [Fld.before, Bool.and_eq_true, beq_iff_eq, Bool.not_eq_true', decide_eq_true_eq] at h
  obtain ⟨⟨⟨hs, hp⟩, hlt⟩, hlo⟩ := h
  simp only [Fld.key, hs, hp, hlo]
  generalize r.stride * i = n
  generalize (if r.perFn then f % 2 else 0) = m
  simp only [Bool.false_eq_true, if_false]
  omega

/-- No home of the one field is a home of the other. -/
def Fld.clear (q r : Fld) : Bool := q.apart r || q.before r || r.before q

theorem Fld.key_clear {q r : Fld} (h : q.clear r = true) (j g i f : Nat) : q.key j g ≠ r.key i f := by
  simp only [Fld.clear, Bool.or_eq_true] at h
  obtain (h | h) | h := h
  · exact Fld.key_apart h j g i f
  · exact Fld.key_before h j g i f
  · exact (Fld.key_before h i f j g).symm

theorem Keeps.rd_eq (k : Keeps ps rs s t) {q : Fld} (hq : ∀ r ∈ rs, q.clear r = true) (j g : Nat) : t.rd q j g = s.rd q j g := by
  have hkey : ¬ IsAnyHome rs (q.key j g) := by
    rintro ⟨r, hr, i, f, he⟩
    exact Fld.key_clear (hq r hr) j g i f he
  unfold State.rd
  rw [k.regs _ hkey]

/-- Fields that are no arrays: every home of them is the home of their one element. -/
theorem Keeps.frame (k : Keeps ps rs s t) (h : ∀ r ∈ rs, r.stride = 0 ∧ 0 < r.count) : Frame ps rs s t := by
  refine ⟨k.only, fun n hn => k.regs n ?_⟩
  rintro ⟨r, hr, i, f, rfl⟩
  obtain ⟨hs, hc⟩ := h r hr
  exact hn ⟨r, hr, 0, hc, f % 2, Nat.mod_lt _ (by decide), by simp [Fld.key, hs]⟩

theorem Keeps.ite {c : Prop} [Decidable c] (h : Keeps ps rs s t) (k : Keeps ps rs s u) : Keeps ps rs s (if c then t else u) := by
  split <;> assumption

/-- A choice after a common beginning. -/
theorem Keeps.ite_on {c : Prop} [Decidable c] {v : State} (h : Keeps ps rs t u) (k : Keeps ps rs t v) (b : Keeps ps rs s t) :
    Keeps ps rs s (if c then u else v) := b.trans (h.ite k)

theorem Keeps.foldl {β : Type} {g : State → β → State} {l : List β} (k : Keeps ps rs s t) (hg : ∀ u b, Keeps ps rs u (g u b)) :
    Keeps ps rs s (l.foldl g t) := by
  induction l generalizing t with
  | nil => exact k
  | cons b l ih => exact ih (k.trans (hg t b))

/-- A fold that carries a value beside the state. -/
theorem Keeps.foldl_fst {α β : Type} {g : State × α → β → State × α} {a : State × α} {l : List β} (k : Keeps ps rs s a.1)
    (hg : ∀ a b, Keeps ps rs a.1 (g a b).1) : Keeps ps rs s (l.foldl g a).1 := by
  induction l generalizing a with
  | nil => exact k
  | cons b l ih => exact ih (k.trans (hg a b))

/-- A fold over any accumulator that holds a state. -/
theorem Keeps.foldl_on {α β : Type} (p : α → State) {g : α → β → α} {a : α} {l : List β} (k : Keeps ps rs s (p a))
    (hg : ∀ a b, Keeps ps rs (p a) (p (g a b))) : Keeps ps rs s (p (l.foldl g a)) := by
  induction l generalizing a with
  | nil => exact k
  | cons b l ih => exact ih (k.trans (hg a b))

/-- The state that an operation answers beside a value. -/
theorem Keeps.out_snd {α : Type} {p : α × State} {a : α} (e : p = (a, t)) (k : Keeps ps rs s p.2) : Keeps ps rs s t := by subst e; exact k

theorem Keeps.out_fst {α : Type} {p : State × α} {a : α} (e : p = (t, a)) (k : Keeps ps rs s p.1) : Keeps ps rs s t := by subst e; exact k

theorem Keeps.getD {o : Option State} (k : Keeps ps rs s t) (h : ∀ u, o = some u → Keeps ps rs s u) : Keeps ps rs s (o.getD t) := by
  cases o with
  | none => exact k
  | some u => exact h u rfl

theorem Keeps.wr (k : Keeps ps rs s t) {r : Fld} {v i f : Nat} (hr : r ∈ rs := by decide) : Keeps ps rs s (t.wr r v i f) where
  only := k.only.trans fun p _ => by cases p <;> simp [Part.same]
  regs := fun n hn => by
    have : n ≠ r.key i f := fun e => hn ⟨r, hr, i, f, e⟩
    simpa [State.wr, Tbl.get_set_ne _ _ _ this] using k.regs n hn
  steady := k.steady.wr _ _ _ _

theorem Keeps.bump (k : Keeps ps rs s t) {r : Fld} {n i f : Nat} (hr : r ∈ rs := by decide) : Keeps ps rs s (t.bump r n i f) := k.wr hr

/-- One part changes, steadily, and the register file does not. -/
theorem Keeps.step (k : Keeps ps rs s t) (h : Only ps t u) (hr : u.regs = t.regs) (hs : Steady t u) : Keeps ps rs s u :=
  k.trans ⟨h, fun _ _ => by rw [hr], hs⟩

theorem Keeps.event (k : Keeps ps rs s t) {a b c d : Nat} (h : Part.log ∈ ps := by decide) : Keeps ps rs s (t.event a b c d) :=
  k.step (Frame.event h [] t a b c d).1 rfl ((Steady.refl t).event a b c d)

theorem Keeps.regEvent (k : Keeps ps rs s t) {o f : Nat} (h : Part.log ∈ ps := by decide) : Keeps ps rs s (t.regEvent o f) := k.event h

theorem Keeps.emit (k : Keeps ps rs s t) {o : Out} (h : Part.buses ∈ ps := by decide) : Keeps ps rs s (t.emit o) :=
  k.step (Frame.emit h [] t o).1 rfl ((Steady.refl t).emit o)

theorem Keeps.setHealth (k : Keeps ps rs s t) {o v : Nat} (h : Part.health ∈ ps := by decide) : Keeps ps rs s (t.setHealth o v) :=
  k.step ((Frame.refl ps [] t).setHealth h _ _).1 rfl ((Steady.refl t).setHealth _ _)

theorem Keeps.setEp (k : Keeps ps rs s t) {f : Nat} {e : Ep} (h : Part.endpoint ∈ ps := by decide) : Keeps ps rs s (t.setEp f e) :=
  k.step ((Frame.refl ps [] t).setEp h _ _).1 rfl ((Steady.refl t).setEp _ _)

theorem Keeps.setRing (k : Keeps ps rs s t) {f n : Nat} {r : Ring} (h : Part.rings ∈ ps := by decide) : Keeps ps rs s (t.setRing f n r) :=
  k.step ((Frame.refl ps [] t).setRing h _ _ _).1 rfl ((Steady.refl t).setRing _ _ _)

theorem Keeps.setCtx (k : Keeps ps rs s t) {c : Nat} {x : Ctx} (h : Part.contexts ∈ ps := by decide) : Keeps ps rs s (t.setCtx c x) :=
  k.step ((Frame.refl ps [] t).setCtx h _ _).1 rfl ((Steady.refl t).setCtx _ _)

theorem Keeps.setTag (k : Keeps ps rs s t) {f n : Nat} {x : TagUse} (h : Part.tags ∈ ps := by decide) : Keeps ps rs s (t.setTag f n x) :=
  k.step ((Frame.refl ps [] t).setTag h _ _ _).1 rfl ((Steady.refl t).setTag _ _ _)

theorem Keeps.setVec (k : Keeps ps rs s t) {f v : Nat} {m : Msix} (h : Part.vectors ∈ ps := by decide) : Keeps ps rs s (t.setVec f v m) :=
  k.step ((Frame.refl ps [] t).setVec h _ _ _).1 rfl ((Steady.refl t).setVec _ _ _)

theorem Keeps.setWin (k : Keeps ps rs s t) {n : Nat} {w : Win} (h : Part.windows ∈ ps := by decide) : Keeps ps rs s (t.setWin n w) :=
  k.step ((Frame.refl ps [] t).setWin h _ _).1 rfl ((Steady.refl t).setWin _ _)

theorem Keeps.setLun (k : Keeps ps rs s t) {c l : Nat} {x : Lun} (h : Part.luns ∈ ps := by decide) : Keeps ps rs s (t.setLun c l x) :=
  k.step ((Frame.refl ps [] t).setLun h _ _ _).1 rfl ((Steady.refl t).setLun _ _ _)

theorem Keeps.setChn (k : Keeps ps rs s t) {c : Nat} {x : Chn} (h : Part.channels ∈ ps := by decide) : Keeps ps rs s (t.setChn c x) :=
  k.step ((Frame.refl ps [] t).setChn h _ _).1 rfl ((Steady.refl t).setChn _ _)

theorem Keeps.setBlk (k : Keeps ps rs s t) {a : Nat} {b : Blk} (h : Part.flash ∈ ps := by decide) : Keeps ps rs s (t.setBlk a b) :=
  k.step ((Frame.refl ps [] t).setBlk h _ _).1 rfl ((Steady.refl t).setBlk _ _)

theorem Keeps.setPage (k : Keeps ps rs s t) {a : Nat} {p : PageImg} (h : Part.flash ∈ ps := by decide) : Keeps ps rs s (t.setPage a p) :=
  k.step ((Frame.refl ps [] t).setPage h _ _).1 rfl ((Steady.refl t).setPage _ _)

theorem Keeps.restartCoalesce (k : Keeps ps rs s t) {f v : Nat} (h : Part.rings ∈ ps := by decide) : Keeps ps rs s (t.restartCoalesce f v) :=
  k.step ((Frame.refl ps [] t).restartCoalesce h _ _).1 rfl ((Steady.refl t).restartCoalesce _ _)

theorem Keeps.setFan (k : Keeps ps rs s t) {f : Nat} {x : Fan} (h : Part.fans ∈ ps := by decide) : Keeps ps rs s (t.setFan f x) :=
  k.step ((Frame.refl ps [] t).setFan h _ _).1 rfl ((Steady.refl t).setFan _ _)

theorem Keeps.setSc (k : Keeps ps rs s t) {n : Nat} {x : Sc} (h : Part.subchannels ∈ ps := by decide) : Keeps ps rs s (t.setSc n x) :=
  k.step ((Frame.refl ps [] t).setSc h _ _).1 rfl ((Steady.refl t).setSc _ _)

theorem Keeps.setBuf (k : Keeps ps rs s t) {b : Nat} {x : Buf} (h : Part.pool ∈ ps := by decide) : Keeps ps rs s (t.setBuf b x) :=
  k.step ((Frame.refl ps [] t).setBuf h _ _).1 rfl ((Steady.refl t).setBuf _ _)

theorem Keeps.setPeer (k : Keeps ps rs s t) {j : Nat} {p : Peer} (h : Part.group ∈ ps := by decide) : Keeps ps rs s (t.setPeer j p) :=
  k.step ((Frame.refl ps [] t).setPeer h _ _).1 rfl ((Steady.refl t).setPeer _ _)

theorem Keeps.setGroup (k : Keeps ps rs s t) {g : Group} (h : Part.group ∈ ps := by decide) : Keeps ps rs s (t.setGroup g) :=
  k.step ((Frame.refl ps [] t).setGroup h _).1 rfl ((Steady.refl t).setGroup _)

theorem Keeps.setPwr (k : Keeps ps rs s t) {p : Pwr} (h : Part.power ∈ ps := by decide) : Keeps ps rs s (t.setPwr p) :=
  k.step ((Frame.refl ps [] t).setPwr h _).1 rfl ((Steady.refl t).setPwr _)

theorem Keeps.setSup (k : Keeps ps rs s t) {p : Supply} (h : Part.supply ∈ ps := by decide) : Keeps ps rs s (t.setSup p) :=
  k.step ((Frame.refl ps [] t).setSup h _).1 rfl ((Steady.refl t).setSup _)

theorem Keeps.setBand (k : Keeps ps rs s t) {b : Band} (h : Part.flash ∈ ps := by decide) : Keeps ps rs s (t.setBand b) :=
  k.step ((Frame.refl ps [] t).setBand h _).1 rfl ((Steady.refl t).setBand _)

theorem Keeps.setThi (k : Keeps ps rs s t) {i : Nat} {e : ThiEnt} (h : Part.engine ∈ ps := by decide) : Keeps ps rs s (t.setThi i e) :=
  k.step ((Frame.refl ps [] t).setThi h _ _).1 rfl ((Steady.refl t).setThi _ _)

theorem Keeps.record (k : Keeps ps rs s t) {r : Rec} (h : Part.ftl ∈ ps := by decide) : Keeps ps rs s (t.record r) :=
  k.step ((Frame.refl ps [] t).record h _).1 rfl ((Steady.refl t).record _)

theorem Keeps.freeNext (k : Keeps ps rs s t) (h : Part.freeValues ∈ ps := by decide) : Keeps ps rs s (t.freeNext) :=
  k.step ((Frame.refl ps [] t).freeNext h).1 rfl (Steady.refl t).freeNext

theorem Keeps.count (k : Keeps ps rs s t) {o b n : Nat} (h : Part.health ∈ ps := by decide) : Keeps ps rs s (t.count o b n) := k.setHealth h

theorem Keeps.freeCtx (k : Keeps ps rs s t) {c : Nat} (h : Part.contexts ∈ ps := by decide) : Keeps ps rs s (t.freeCtx c) := k.setCtx h

/-- An update of fields of one part. -/
theorem Keeps.part (k : Keeps ps rs s t) (p : Part) (hp : p ∈ ps) (h : ∀ q, q ≠ p → q.same t u) (hr : u.regs = t.regs) (hs : Steady t u) :
    Keeps ps rs s u := k.step (fun q hq => h q fun e => hq (e ▸ hp)) hr hs

theorem Keeps.with_pairHigh (k : Keeps ps rs s t) {x : Tbl (Option Nat)} (h : Part.pairWords ∈ ps := by decide) :
    Keeps ps rs s { t with pairHigh := x } :=
  k.part .pairWords h (fun q hq => by cases q <;> first | exact absurd rfl hq | simp [Part.same]) rfl (Steady.refl t).update

theorem Keeps.with_sup (k : Keeps ps rs s t) {x : Supply} (h : Part.supply ∈ ps := by decide) : Keeps ps rs s { t with sup := x } :=
  k.part .supply h (fun q hq => by cases q <;> first | exact absurd rfl hq | simp [Part.same]) rfl (Steady.refl t).update

theorem Keeps.with_boot (k : Keeps ps rs s t) {x : Boot} (h : Part.boot ∈ ps := by decide) : Keeps ps rs s { t with boot := x } :=
  k.part .boot h (fun q hq => by cases q <;> first | exact absurd rfl hq | simp [Part.same]) rfl (Steady.refl t).update

theorem Keeps.with_tags (k : Keeps ps rs s t) {x : Tbl TagUse} (h : Part.tags ∈ ps := by decide) : Keeps ps rs s { t with tags := x } :=
  k.part .tags h (fun q hq => by cases q <;> first | exact absurd rfl hq | simp [Part.same]) rfl (Steady.refl t).update

theorem Keeps.with_saved (k : Keeps ps rs s t) {x : Tbl Nat} (h : Part.features ∈ ps := by decide) : Keeps ps rs s { t with saved := x } :=
  k.part .features h (fun q hq => by cases q <;> first | exact absurd rfl hq | simp [Part.same]) rfl (Steady.refl t).update

theorem Keeps.with_hostTime (k : Keeps ps rs s t) {x : Nat} (h : Part.features ∈ ps := by decide) : Keeps ps rs s { t with hostTime := x } :=
  k.part .features h (fun q hq => by cases q <;> first | exact absurd rfl hq | simp [Part.same]) rfl (Steady.refl t).update

theorem Keeps.with_ftl (k : Keeps ps rs s t) {x : Ftl} (h : Part.ftl ∈ ps := by decide) : Keeps ps rs s { t with ftl := x } :=
  k.part .ftl h (fun q hq => by cases q <;> first | exact absurd rfl hq | simp [Part.same]) rfl (Steady.refl t).update

theorem Keeps.with_blks (k : Keeps ps rs s t) {x : Tbl Blk} (h : Part.flash ∈ ps := by decide) : Keeps ps rs s { t with blks := x } :=
  k.part .flash h (fun q hq => by cases q <;> first | exact absurd rfl hq | simp [Part.same]) rfl (Steady.refl t).update

theorem Keeps.with_pages (k : Keeps ps rs s t) {x : Tbl PageImg} (h : Part.flash ∈ ps := by decide) : Keeps ps rs s { t with pages := x } :=
  k.part .flash h (fun q hq => by cases q <;> first | exact absurd rfl hq | simp [Part.same]) rfl (Steady.refl t).update

theorem Keeps.with_bands (k : Keeps ps rs s t) {x : List Band} (h : Part.flash ∈ ps := by decide) : Keeps ps rs s { t with bands := x } :=
  k.part .flash h (fun q hq => by cases q <;> first | exact absurd rfl hq | simp [Part.same]) rfl (Steady.refl t).update

theorem Keeps.with_luns (k : Keeps ps rs s t) {x : Tbl Lun} (h : Part.luns ∈ ps := by decide) : Keeps ps rs s { t with luns := x } :=
  k.part .luns h (fun q hq => by cases q <;> first | exact absurd rfl hq | simp [Part.same]) rfl (Steady.refl t).update

theorem Keeps.with_decs (k : Keeps ps rs s t) {x : List Dec} (h : Part.decodes ∈ ps := by decide) : Keeps ps rs s { t with decs := x } :=
  k.part .decodes h (fun q hq => by cases q <;> first | exact absurd rfl hq | simp [Part.same]) rfl (Steady.refl t).update

theorem Keeps.with_patrol (k : Keeps ps rs s t) {x : Patrol} (h : Part.patrol ∈ ps := by decide) : Keeps ps rs s { t with patrol := x } :=
  k.part .patrol h (fun q hq => by cases q <;> first | exact absurd rfl hq | simp [Part.same]) rfl (Steady.refl t).update

theorem Keeps.with_sensors (k : Keeps ps rs s t) {x : Tbl Sensor} (h : Part.sensors ∈ ps := by decide) : Keeps ps rs s { t with sensors := x } :=
  k.part .sensors h (fun q hq => by cases q <;> first | exact absurd rfl hq | simp [Part.same]) rfl (Steady.refl t).update

theorem Keeps.with_thermal (k : Keeps ps rs s t) {x : Thermal} (h : Part.thermal ∈ ps := by decide) : Keeps ps rs s { t with thermal := x } :=
  k.part .thermal h (fun q hq => by cases q <;> first | exact absurd rfl hq | simp [Part.same]) rfl (Steady.refl t).update

theorem Keeps.with_dram (k : Keeps ps rs s t) {x : Dram} (h : Part.dram ∈ ps := by decide) : Keeps ps rs s { t with dram := x } :=
  k.part .dram h (fun q hq => by cases q <;> first | exact absurd rfl hq | simp [Part.same]) rfl (Steady.refl t).update

theorem Keeps.with_pool (k : Keeps ps rs s t) {x : Pool} (h : Part.pool ∈ ps := by decide) : Keeps ps rs s { t with pool := x } :=
  k.part .pool h (fun q hq => by cases q <;> first | exact absurd rfl hq | simp [Part.same]) rfl (Steady.refl t).update

theorem Keeps.with_sec (k : Keeps ps rs s t) {x : Sec} (h : Part.keys ∈ ps := by decide) : Keeps ps rs s { t with sec := x } :=
  k.part .keys h (fun q hq => by cases q <;> first | exact absurd rfl hq | simp [Part.same]) rfl (Steady.refl t).update

theorem Keeps.with_ucode (k : Keeps ps rs s t) {x : Ucode} (h : Part.microcode ∈ ps := by decide) : Keeps ps rs s { t with ucode := x } :=
  k.part .microcode h (fun q hq => by cases q <;> first | exact absurd rfl hq | simp [Part.same]) rfl (Steady.refl t).update

theorem Keeps.with_sched (k : Keeps ps rs s t) {x : Sched} (h : Part.scheduler ∈ ps := by decide) : Keeps ps rs s { t with sched := x } :=
  k.part .scheduler h (fun q hq => by cases q <;> first | exact absurd rfl hq | simp [Part.same]) rfl (Steady.refl t).update

theorem Keeps.with_group (k : Keeps ps rs s t) {x : Group} (h : Part.group ∈ ps := by decide) : Keeps ps rs s { t with group := x } :=
  k.part .group h (fun q hq => by cases q <;> first | exact absurd rfl hq | simp [Part.same]) rfl (Steady.refl t).update

theorem Keeps.with_ftl_bands (k : Keeps ps rs s t) {x0 : Ftl} {x1 : List Band} (h0 : Part.ftl ∈ ps := by decide) (h1 : Part.flash ∈ ps := by decide) :
    Keeps ps rs s { t with ftl := x0, bands := x1 } :=
  Keeps.with_bands (t := { t with ftl := x0 }) (Keeps.with_ftl (t := t) (k) h0) h1

theorem Keeps.with_sup_sec_group (k : Keeps ps rs s t) {x0 : Supply} {x1 : Sec} {x2 : Group}
    (h0 : Part.supply ∈ ps := by decide) (h1 : Part.keys ∈ ps := by decide) (h2 : Part.group ∈ ps := by decide) :
    Keeps ps rs s { t with sup := x0, sec := x1, group := x2 } :=
  Keeps.with_group (t := { t with sup := x0, sec := x1 }) (Keeps.with_sec (t := { t with sup := x0 }) (Keeps.with_sup (t := t) (k) h0) h1) h2

theorem Keeps.with_blks_bands_luns (k : Keeps ps rs s t) {x0 : Tbl Blk} {x1 : List Band} {x2 : Tbl Lun}
    (h0 : Part.flash ∈ ps := by decide) (h1 : Part.luns ∈ ps := by decide) :
    Keeps ps rs s { t with blks := x0, bands := x1, luns := x2 } :=
  Keeps.with_luns (t := { t with blks := x0, bands := x1 }) (Keeps.with_bands (t := { t with blks := x0 }) (Keeps.with_blks (t := t) (k) h0) h0) h1

theorem Keeps.with_blks_bands (k : Keeps ps rs s t) {x0 : Tbl Blk} {x1 : List Band} (h0 : Part.flash ∈ ps := by decide) :
    Keeps ps rs s { t with blks := x0, bands := x1 } :=
  Keeps.with_bands (t := { t with blks := x0 }) (Keeps.with_blks (t := t) (k) h0) h0

theorem Keeps.with_pages_ftl (k : Keeps ps rs s t) {x0 : Tbl PageImg} {x1 : Ftl} (h0 : Part.flash ∈ ps := by decide)
    (h1 : Part.ftl ∈ ps := by decide) : Keeps ps rs s { t with pages := x0, ftl := x1 } :=
  Keeps.with_ftl (t := { t with pages := x0 }) (Keeps.with_pages (t := t) (k) h0) h1

theorem Keeps.with_sec_group (k : Keeps ps rs s t) {x0 : Sec} {x1 : Group} (h0 : Part.keys ∈ ps := by decide) (h1 : Part.group ∈ ps := by decide) :
    Keeps ps rs s { t with sec := x0, group := x1 } :=
  Keeps.with_group (t := { t with sec := x0 }) (Keeps.with_sec (t := t) (k) h0) h1

theorem Keeps.with_boot_dram (k : Keeps ps rs s t) {x0 : Boot} {x1 : Dram} (h0 : Part.boot ∈ ps := by decide) (h1 : Part.dram ∈ ps := by decide) :
    Keeps ps rs s { t with boot := x0, dram := x1 } :=
  Keeps.with_dram (t := { t with boot := x0 }) (Keeps.with_boot (t := t) (k) h0) h1

theorem Keeps.with_bst (k : Keeps ps rs s t) {x : Bst} (h : Part.bootStore ∈ ps := by decide)
    (hsv : t.bst.fusedSv ≤ x.fusedSv := by exact Nat.le_refl _) : Keeps ps rs s { t with bst := x } :=
  k.part .bootStore h (fun q hq => by cases q <;> first | exact absurd rfl hq | simp [Part.same]) rfl
    { Steady.refl t with fused := hsv }

/-- Reconcile entries are appended under the next sequence numbers. -/
theorem Keeps.appendRecon (k : Keeps ps rs s t) {q : Recon} (hq : q.seq = t.reconSeq + 1) (h : Part.reconcile ∈ ps := by decide) :
    Keeps ps rs s { t with recon := t.recon ++ [q], reconSeq := t.reconSeq + 1 } :=
  k.part .reconcile h (fun q hq => by cases q <;> first | exact absurd rfl hq | simp [Part.same]) rfl
    { Steady.refl t with recon := ⟨[q], rfl, by simp, by simp [hq], Nat.le_succ _⟩ }

end

/-! ### Steadiness -/

section
variable {s t u : State}

theorem Steady.ite_on {c : Prop} [Decidable c] {v : State} (h : Steady t u) (k : Steady t v) (b : Steady s t) : Steady s (if c then u else v) :=
  b.trans (h.ite k)

/-- The state that an operation answers beside a value. -/
theorem Steady.out_snd {α : Type} {p : α × State} {a : α} (e : p = (a, t)) (k : Steady s p.2) : Steady s t := by subst e; exact k

theorem Steady.out_fst {α : Type} {p : State × α} {a : α} (e : p = (t, a)) (k : Steady s p.1) : Steady s t := by subst e; exact k

/-- A fold that carries a value beside the state. -/
theorem Steady.foldl_fst {α β : Type} {g : State × α → β → State × α} {a : State × α} {l : List β} (k : Steady s a.1)
    (hg : ∀ a b, Steady a.1 (g a b).1) : Steady s (l.foldl g a).1 := by
  induction l generalizing a with
  | nil => exact k
  | cons b l ih => exact ih (k.trans (hg a b))

theorem Steady.foldl_snd {α β : Type} {g : α × State → β → α × State} {a : α × State} {l : List β} (k : Steady s a.2)
    (hg : ∀ a b, Steady a.2 (g a b).2) : Steady s (l.foldl g a).2 := by
  induction l generalizing a with
  | nil => exact k
  | cons b l ih => exact ih (k.trans (hg a b))

theorem Yields.after {o : Host.Outcome State Fault Refusal} (k : Steady s t) (h : Yields (Steady t) o) : Yields (Steady s) o :=
  h.imp fun _ => k.trans

theorem thiAnswer_steady {r : ThiOut × State} (k : Steady s r.2) : Yields (Steady s) (thiAnswer s r) :=
  .ite (fun _ => .next (k.emit _)) fun _ => .next (.refl s)

end

/-! ### Interrupts and asynchronous events -/

section
variable (s : State)

theorem State.signal_keeps (f v : Nat) : Keeps [.rings, .vectors, .buses] [] s (s.signal f v) :=
  .ite (.restartCoalesce (.emit (.setVec (.refl _ _ _)))) (.restartCoalesce (.setVec (.refl _ _ _)))

theorem State.putCqe_keeps (f n a b c d : Nat) : Keeps [.rings, .buses] [] s (s.putCqe f n a b c d) := .emit (.setRing (.refl _ _ _))

theorem State.postAsync_keeps (f k info : Nat) : Keeps asyncParts [Reg.HIF_ASYNC.PEND] s (s.postAsync f k info) := by
  unfold State.postAsync
  exact .ite ((((((Keeps.refl _ _ s).wr).setEp).andThen (State.putCqe_keeps ..))).andThen (State.signal_keeps ..))
    (.ite (.setEp (.refl _ _ _)) (.refl _ _ _))

theorem State.pmeWake_keeps (f k : Nat) : Keeps [.endpoint, .buses] [] s (s.pmeWake f k) := by
  unfold State.pmeWake
  split
  · exact .ite (.ite (.emit (.setEp (.refl _ _ _))) (.emit (.setEp (.refl _ _ _)))) (.refl _ _ _)
  · exact .refl _ _ _

theorem State.async_keeps (f k info : Nat) : Keeps asyncParts [Reg.HIF_ASYNC.PEND] s (s.async f k info) := by
  unfold State.async
  exact .ite (((Keeps.refl _ _ s).setEp).andThen (State.pmeWake_keeps ..)) (State.postAsync_keeps ..)

theorem State.asyncAll_keeps (k info : Nat) : Keeps asyncParts [Reg.HIF_ASYNC.PEND] s (s.asyncAll k info) :=
  .foldl (.refl _ _ _) fun _ _ => State.async_keeps ..

end

end Sys2Proof.Machine
end

section
/-! PROOFS. What the operations that are no chain of plain updates may change. -/

set_option Elab.async false

namespace Sys2Proof.Machine

section
variable (s : State)

/-- The journal without the batches that are not durable. -/
def State.cutFtl : Ftl := { s.ftl with journal := { s.ftl.journal with collecting := [], flight := none } }

theorem State.cutJournal_flash : Keeps [.flash] [] { s with ftl := s.cutFtl } s.cutJournal := by
  unfold State.cutJournal
  dsimp only
  refine .foldl (.refl ..) fun u r => ?_
  split
  · exact .foldl (.refl ..) fun _ _ => .ite (.setBlk (.refl ..)) (.refl ..)
  · exact .foldl (.refl ..) fun _ _ => .setBlk (.refl ..)
  · exact .with_blks_bands (.refl ..)
  · exact .refl ..

theorem State.cutJournal_keeps : Keeps [.ftl, .flash] [] s s.cutJournal := .andThen (.with_ftl (.refl ..)) s.cutJournal_flash

theorem State.post_keeps {c l : Nat} {o : Op} {u : State} (e : s.post c l o = some u) : Keeps [.luns] [] s u := by
  unfold State.post at e
  dsimp only at e
  split at e
  · cases e
  · cases e; exact .setLun (.refl ..)

theorem State.feedReads_keeps : Keeps [.luns] [] s s.feedReads := by
  unfold State.feedReads
  refine .foldl (.refl ..) fun u d => ?_
  dsimp only
  exact .ite (.ite (.refl ..) (.getD (.refl ..) fun v e => u.post_keeps e)) (.refl ..)

theorem State.thiShift_keeps (w x n hole : Nat) : Keeps [.engine] [] s (State.thiShift s w x n hole) := by
  induction n generalizing s hole with
  | zero => exact .refl ..
  | succ n ih =>
    unfold State.thiShift
    exact .ite (.refl ..) (.trans (.setThi (.setThi (.refl ..))) (ih ..))

theorem State.trigger_recon_keeps (cause : Cause) (l : List (Nat × Ctx)) : Keeps [.reconcile] [] s (l.foldl (fun s e =>
    let x := e.2
    { s with recon := s.recon ++ [{ fn := x.fn, posted := decide (x.phase = .sent), ring := x.ring, cid := x.cid, opc := pkOpc x.pkt,
                                    cause := cause, status := x.status, result := x.result, seq := s.reconSeq + 1 }],
             reconSeq := s.reconSeq + 1 }) s) :=
  .foldl (.refl ..) fun _ _ => .appendRecon (.refl ..) rfl

end

end Sys2Proof.Machine
end

section
/-! PROOFS. What the operations on flash, the engine's tables, sessions and the pool may change. -/

set_option Elab.async false

namespace Sys2Proof.Machine

/-! ### The DRAM controller -/

theorem State.partFail_keeps (s : State) : Keeps [.endpoint, .rings, .vectors, .buses] [Reg.HIF_ASYNC.PEND] s (s.partFail) :=
  .mono (State.asyncAll_keeps ..)

/-! ### The buffer pool -/

theorem State.backpressure_keeps (s : State) : Keeps [.log, .pool] [Reg.BPM_STATUS.FREE, Reg.BPM_STATUS.SHARED_FREE,
    Reg.BPM_STATUS.BACKPRESSURE, Reg.BPM_STATUS.CRITICAL] s (s.backpressure) :=
  .ite_on (.event (.refl ..)) (.refl ..) (.with_pool (.wr (.wr (.wr (.wr (.refl ..))))))

theorem State.grant_keeps (s : State) (o n : Nat) : Keeps [.pool, .buses, .log] [Reg.BPM_OWN.USED, Reg.BPM_OWN.PEAK, Reg.BPM_STATUS.FREE,
    Reg.BPM_STATUS.SHARED_FREE, Reg.BPM_STATUS.BACKPRESSURE, Reg.BPM_STATUS.CRITICAL] s (s.grant o n) :=
  .andThen (.emit (.wr (.wr (.foldl (.refl ..) fun _ _ => .setBuf (.refl ..))))) (State.backpressure_keeps ..)

/-! ### The Thitralen associative engine -/

theorem State.thiOps_keeps (s : State) (n : Nat) : Keeps [] [Reg.THI_OPS.COUNT] s (s.thiOps n) :=
  .bump (.refl ..)

theorem State.thiRefresh_keeps (s : State) (t : Nat) : Keeps [.log] [Reg.THI_TABLE.COUNT, Reg.THI_TABLE.FIRST, Reg.THI_STATUS.FREE_UNITS,
    Reg.THI_STATUS.COMPACTING] s (s.thiRefresh t) :=
  .ite_on (.event (.refl ..)) (.refl ..) (.wr (.wr (.wr (.wr (.refl ..)))))

theorem State.thiSearchAdd_keeps (s : State) (t key mask start field : Nat) (delta : Int) : Keeps [.engine] [Reg.THI_OPS.COUNT,
    Reg.THI_CNT.MULTI_HITS] s (s.thiSearchAdd t key mask start field delta).2 := by
  unfold State.thiSearchAdd
  dsimp only
  split
  · exact .mono (State.thiOps_keeps ..)
  · exact .ite_on (.bump (.refl ..)) (.refl ..) (.setThi (.mono (State.thiOps_keeps ..)))

theorem State.thiRefuse_keeps (s : State) (t : Nat) (near : Bool) : Keeps [.log] [Reg.THI_CNT.NO_ROOM] s (s.thiRefuse t near) :=
  .event (.bump (.refl ..))

theorem State.thiInsertAny_keeps (s : State) (t key care prio data : Nat) (unique : Bool) (field : Nat) (add : Int) : Keeps [.engine, .log]
    [Reg.THI_OPS.COUNT, Reg.THI_CNT.NO_ROOM, Reg.THI_TABLE.COUNT, Reg.THI_TABLE.FIRST, Reg.THI_STATUS.FREE_UNITS,
    Reg.THI_STATUS.COMPACTING] s (s.thiInsertAny t key care prio data unique field add).2 := by
  unfold State.thiInsertAny
  dsimp only
  split
  · exact .setThi (.mono (State.thiOps_keeps ..))
  · split
    · exact .andThen (.mono (State.thiOps_keeps ..)) (State.thiRefuse_keeps ..)
    · exact .andThen (.setThi (.mono (State.thiOps_keeps ..))) (State.thiRefresh_keeps ..)

theorem State.thiDeleteMatch_keeps (s : State) (t key mask : Nat) : Keeps [.engine, .log] [Reg.THI_OPS.COUNT, Reg.THI_TABLE.COUNT,
    Reg.THI_TABLE.FIRST, Reg.THI_STATUS.FREE_UNITS, Reg.THI_STATUS.COMPACTING] s (s.thiDeleteMatch t key mask).2 :=
  .andThen (.foldl (.mono (State.thiOps_keeps ..)) fun _ _ => .setThi (.refl ..)) (State.thiRefresh_keeps ..)

/-! ### The span table and the range table (R479, R480) -/

theorem State.thiGiveSpans_keeps (s : State) (l : List Nat) : Keeps [.engine] [Reg.THI_OPS.COUNT, Reg.THI_CNT.MULTI_HITS] s (s.thiGiveSpans
    l) :=
  .foldl (.refl ..) fun _ _ => .mono (State.thiSearchAdd_keeps ..)

theorem State.thiSpanSweep_keeps (s : State) : Keeps [.engine, .log] [Reg.THI_OPS.COUNT, Reg.THI_TABLE.COUNT, Reg.THI_TABLE.FIRST,
    Reg.THI_STATUS.FREE_UNITS, Reg.THI_STATUS.COMPACTING] s (s.thiSpanSweep) :=
  .ite (.refl ..) (.andThen (.foldl (.mono (State.thiOps_keeps ..)) fun _ _ => .setThi (.refl ..)) (State.thiRefresh_keeps ..))

theorem State.thiRangeDrop_keeps (s : State) (entry : Nat) : Keeps [.engine, .log] [Reg.THI_OPS.COUNT, Reg.THI_TABLE.COUNT,
    Reg.THI_TABLE.FIRST, Reg.THI_STATUS.FREE_UNITS, Reg.THI_STATUS.COMPACTING] s (s.thiRangeDrop entry) :=
  .mono (State.thiDeleteMatch_keeps ..)

theorem State.thiPartGone_keeps (s : State) (addr mask : Nat) : Keeps [.engine, .log] [Reg.THI_OPS.COUNT, Reg.THI_TABLE.COUNT,
    Reg.THI_TABLE.FIRST, Reg.THI_STATUS.FREE_UNITS, Reg.THI_STATUS.COMPACTING] s (s.thiPartGone addr mask) := by
  unfold State.thiPartGone
  exact .foldl (.refl ..) fun _ _ => (by
      split
      · next e => exact .trans (.out_snd e (.mono (State.thiDeleteMatch_keeps ..))) (.ite (.refl ..) (.event (.refl ..)))
      · next e => exact .out_snd e (.mono (State.thiDeleteMatch_keeps ..)))

/-! ### Slots and realms (R494 to R496) -/

theorem State.secRefresh_keeps (s : State) : Keeps [] [Reg.SEC_STATUS.LOADED, Reg.SEC_STATUS.TK_SET, Reg.SEC_STATUS.GROUP_KEY,
    Reg.SEC_STATUS.SWEEPING, Reg.SEC_STATUS.MC_BANKS] s (s.secRefresh) :=
  .wr (.wr (.wr (.wr (.wr (.refl ..)))))

theorem State.setKeySlot_keeps (s : State) (k : Nat) (x : KeySlot) : Keeps [.keys] [Reg.SEC_STATUS.LOADED, Reg.SEC_STATUS.TK_SET,
    Reg.SEC_STATUS.GROUP_KEY, Reg.SEC_STATUS.SWEEPING, Reg.SEC_STATUS.MC_BANKS] s (s.setKeySlot k x) :=
  .andThen (.with_sec (.refl ..)) (State.secRefresh_keeps ..)

/-! ### Rails (R539, R540) -/

theorem State.railWrite_keeps (s : State) (r mv : Nat) : Keeps [.power, .buses] [Reg.PWR_AVS.REQ_MV, Reg.PWR_AVS.BUSY] s (s.railWrite r mv)
    :=
  .emit (.wr (.wr (.setPwr (.refl ..))))

theorem State.railsGo_keeps (s : State) : Keeps [.power, .buses] [Reg.PWR_AVS.REQ_MV, Reg.PWR_AVS.BUSY] s (s.railsGo) :=
  .foldl (.setPwr (.refl ..)) fun _ _ => .mono (State.railWrite_keeps ..)

theorem State.railsTo_keeps (s : State) (st : Nat) (raising : Bool) : Keeps [.power, .buses] [Reg.PWR_AVS.REQ_MV, Reg.PWR_AVS.BUSY] s
    (s.railsTo st raising) :=
  .andThen (.setPwr (.refl ..)) (State.railsGo_keeps ..)

/-! ### Wakes, exits and abandonment (R534 to R538, R549) -/

theorem State.startExit_keeps (s : State) (dst : Nat) : Keeps [.power, .buses] [Reg.PWR_STATUS.PHASE, Reg.PWR_AVS.REQ_MV, Reg.PWR_AVS.BUSY]
    s (s.startExit dst) :=
  .andThen (.setPwr (.wr (.refl ..))) (State.railsTo_keeps ..)

/-! ### Context ends -/

theorem State.endCtx_keeps (s : State) (c status : Nat) : Keeps [.contexts] [] s (s.endCtx c status) :=
  .setCtx (.refl ..)

/-! ### Versions (R196, R197, R199) -/

theorem State.mapVersions_keeps (s : State) (f : Version → Version) : Keeps [.ftl] [] s (s.mapVersions f) :=
  .with_ftl (.refl ..)

theorem State.keepVersions_keeps (s : State) (p : Version → Bool) : Keeps [.ftl] [] s (s.keepVersions p) :=
  .with_ftl (.refl ..)

/-! ### Refusal and adoption (R210) -/

theorem State.adopt_keeps (s : State) (osn : Nat) : Keeps [.ftl, .engine, .log] [Reg.THI_OPS.COUNT, Reg.THI_TABLE.COUNT,
    Reg.THI_TABLE.FIRST, Reg.THI_STATUS.FREE_UNITS, Reg.THI_STATUS.COMPACTING] s (s.adopt osn) :=
  .with_ftl (.foldl (.andThen (.mono (State.keepVersions_keeps ..)) (State.mapVersions_keeps ..)) fun _ _ => .mono
      (State.thiRangeDrop_keeps ..))

theorem State.refuse_keeps (s : State) (c status : Nat) : Keeps [.ftl, .engine, .log, .contexts] [Reg.THI_OPS.COUNT, Reg.THI_TABLE.COUNT,
    Reg.THI_TABLE.FIRST, Reg.THI_STATUS.FREE_UNITS, Reg.THI_STATUS.COMPACTING] s (s.refuse c status) :=
  .andThen (.mono (State.adopt_keeps ..)) (State.endCtx_keeps ..)

/-! ### The BAR4 translation windows -/

theorem State.stage_keeps (s : State) (n : Nat) (w : Win) : Keeps [] [Reg.WIN_ENT_CTRL.TARGET, Reg.WIN_ENT_CTRL.WR_EN,
    Reg.WIN_ENT_CTRL.RD_EN, Reg.WIN_ENT_CTRL.RID_CHK, Reg.WIN_ENT_CTRL.RID, Reg.WIN_ENT_BASE.BASE, Reg.WIN_ENT_LIMIT.LIMIT,
    Reg.WIN_ENT_CTRL.PENDING] s (s.stage n w) :=
  .wr (.wr (.wr (.wr (.wr (.wr (.wr (.wr (.refl ..))))))))

theorem State.winDrop_keeps (s : State) (n reason rid : Nat) : Keeps [] [Reg.WIN_DROP_CNT.COUNT, Reg.WIN_DROP_LAST.WINDOW,
    Reg.WIN_DROP_LAST.REASON, Reg.WIN_DROP_LAST.REQ_ID] s (s.winDrop n reason rid) :=
  .wr (.wr (.wr (.bump (.refl ..))))

/-! ### Sessions (R383) -/

theorem State.setSession_keeps (s : State) (j v : Nat) : Keeps [] [Reg.GLI_PEER.SESSION, Reg.GLI_LINKED.MASK] s (s.setSession j v) :=
  .wr (.wr (.refl ..))

theorem State.sendMsg_keeps (s : State) (j kind : Nat) (payload : List Nat) : Keeps [.group, .buses] [] s (s.sendMsg j kind payload) :=
  .ite (.emit (.setPeer (.refl ..))) (.refl ..)

theorem State.dropSession_keeps (s : State) (j cause : Nat) : Keeps [.group, .log] [Reg.GLI_PEER.SESSION, Reg.GLI_LINKED.MASK] s
    (s.dropSession j cause) :=
  .event (.setPeer (.mono (State.setSession_keeps ..)))

/-! ### Engine faults (R262, R279) -/

theorem State.chFault_keeps (s : State) (a code : Nat) : Keeps [] [Reg.CHN_CNT.CHECK_FAULTS, Reg.CHN_FAULT.CODE, Reg.CHN_FAULT.LUN,
    Reg.CHN_FAULT.VALID, Reg.CHN_FAULT_ADDR.ADDR] s (s.chFault a code) :=
  .ite_on (.bump (.refl ..)) (.refl ..) (.wr (.wr (.wr (.wr (.refl ..)))))

/-! ### Retirement (R259, R362, R363) -/

theorem State.dieRetire_keeps (s : State) (c l : Nat) : Keeps [.ftl, .log, .health, .luns, .flash, .engine, .endpoint, .rings, .vectors,
    .buses] [Reg.CHN_LUN_FAIL.FAILED, Reg.THI_OPS.COUNT, Reg.THI_TABLE.COUNT, Reg.THI_TABLE.FIRST, Reg.THI_STATUS.FREE_UNITS,
    Reg.THI_STATUS.COMPACTING, Reg.HIF_ASYNC.PEND] s (s.dieRetire c l) :=
  .ite (.refl ..) (.andThen (.andThen (.with_blks_bands (.setLun (.count (.event (.record (.wr (.refl ..))))))) (State.thiPartGone_keeps
      ..)) (State.partFail_keeps ..))

theorem State.blkRetire_keeps (s : State) (a cause : Nat) : Keeps [.ftl, .log, .health, .luns, .flash, .engine, .endpoint, .rings,
    .vectors, .buses] [Reg.CHN_LUN_FAIL.FAILED, Reg.THI_OPS.COUNT, Reg.THI_TABLE.COUNT, Reg.THI_TABLE.FIRST, Reg.THI_STATUS.FREE_UNITS,
    Reg.THI_STATUS.COMPACTING, Reg.HIF_ASYNC.PEND] s (s.blkRetire a cause) :=
  .ite_on (.mono (State.dieRetire_keeps ..)) (.refl ..) (.count (.event (.record (.setBlk (.refl ..)))))

/-! ### Reading codewords (R255, R261, R320, R321, R360) -/

theorem State.mapDecs_keeps (s : State) (p : Dec → Bool) (f : Dec → Dec) : Keeps [.decodes] [] s (s.mapDecs p f) :=
  .with_decs (.refl ..)

theorem State.toRow_keeps (s : State) (d : Dec) : Keeps [.decodes] [] s (s.toRow d) :=
  .mono (State.mapDecs_keeps ..)

theorem State.senseDone_keeps (s : State) (o : Op) : Keeps [.decodes, .luns] [] s (s.senseDone o) :=
  .andThen (.andThen (.mono (State.mapDecs_keeps ..)) (State.mapDecs_keeps ..)) (State.feedReads_keeps ..)

theorem State.senseLost_keeps (s : State) (o : Op) : Keeps [.decodes] [] s (s.senseLost o) :=
  .foldl (.refl ..) fun _ _ => .mono (State.toRow_keeps ..)

/-! ### Pushing (R397, R403, R406, R407) -/

theorem State.nextStage_keeps (s : State) (j : Nat) : Keeps [.group] [] s (s.nextStage j).2 :=
  .setGroup (.refl ..)

/-! ### Forming a band (R351, R352) -/

theorem State.claimBlock_keeps (s : State) (band c d blk kind : Nat) (slc : Bool) : Keeps [.ftl, .flash] [] s (s.claimBlock band c d blk
    kind slc) :=
  .ite_on (.refl ..) (.record (.refl ..)) (.foldl (.refl ..) fun _ _ => .setBlk (.refl ..))

theorem State.form_keeps (s : State) (k : BandKind) : Keeps [.ftl, .flash] [] s (s.form k) := by
  unfold State.form
  dsimp only
  split
  · exact .refl ..
  · exact .ite (.refl ..) (.record (.foldl (.with_ftl_bands (.refl ..)) fun _ _ => .mono (State.claimBlock_keeps ..)))

/-! ### Mapping a word line (R355) -/

theorem State.freeClean_keeps (s : State) (x : Ctx) : Keeps [.ftl] [] s (s.freeClean x) := by
  unfold State.freeClean
  dsimp only
  exact .ite (.refl ..) ((by
      split
      · exact .refl ..
      · exact .mono (State.keepVersions_keeps ..)))

/-! ### The ends of programs and erases (R259, R269, R353, R362, R363) -/

theorem State.mapStripe_keeps (s : State) (band wl : Nat) (f : Stripe → Stripe) : Keeps [.flash] [] s (s.mapStripe band wl f) := by
  unfold State.mapStripe
  split
  · exact .setBand (.refl ..)
  · exact .refl ..

theorem State.programIssued_keeps (s : State) (o : Op) : Keeps [.flash, .health] [] s (s.programIssued o) :=
  .count (.foldl (.foldl (.refl ..) fun _ _ => .setBlk (.refl ..)) fun _ _ => .setPage (.refl ..))

theorem State.programDone_keeps (s : State) (o : Op) (pass : Bool) : Keeps [.flash, .health, .ftl, .log, .luns, .engine, .endpoint, .rings,
    .vectors, .buses] [Reg.CHN_LUN_FAIL.FAILED, Reg.THI_OPS.COUNT, Reg.THI_TABLE.COUNT, Reg.THI_TABLE.FIRST, Reg.THI_STATUS.FREE_UNITS,
    Reg.THI_STATUS.COMPACTING, Reg.HIF_ASYNC.PEND] s (s.programDone o pass) := by
  unfold State.programDone
  dsimp only
  exact .ite ((by
      split
      · exact .andThen (.foldl (.refl ..) fun _ _ => .setBlk (.refl ..)) (State.mapStripe_keeps ..)
      · exact .foldl (.refl ..) fun _ _ => .setBlk (.refl ..))) ((by
      split
      · exact .foldl (.andThen ((by
          split
          · exact .setBand (.foldl (.foldl (.count (.foldl (.refl ..) fun _ _ => .setBlk (.refl ..))) fun _ _ => .setPage (.refl ..)) fun _
              _ => .setBlk (.refl ..))
          · exact .foldl (.foldl (.count (.foldl (.refl ..) fun _ _ => .setBlk (.refl ..))) fun _ _ => .setPage (.refl ..)) fun _ _ =>
              .setBlk (.refl ..))) (State.mapVersions_keeps ..)) fun _ _ => .mono (State.blkRetire_keeps ..)
      · exact .foldl (.foldl (.foldl (.count (.foldl (.refl ..) fun _ _ => .setBlk (.refl ..))) fun _ _ => .setPage (.refl ..)) fun _ _ =>
          .setBlk (.refl ..)) fun _ _ => .mono (State.blkRetire_keeps ..)))

theorem State.leaveBand_keeps (s : State) (a : Nat) : Keeps [.flash] [] s (s.leaveBand a) := by
  unfold State.leaveBand
  dsimp only
  split
  · exact .ite (.refl ..) (.ite (.with_bands (.refl ..)) (.setBand (.refl ..)))
  · exact .refl ..

theorem State.eraseDone_keeps (s : State) (o : Op) (pass : Bool) : Keeps [.flash, .ftl, .health, .log, .luns, .engine, .endpoint, .rings,
    .vectors, .buses] [Reg.CHN_LUN_FAIL.FAILED, Reg.THI_OPS.COUNT, Reg.THI_TABLE.COUNT, Reg.THI_TABLE.FIRST, Reg.THI_STATUS.FREE_UNITS,
    Reg.THI_STATUS.COMPACTING, Reg.HIF_ASYNC.PEND] s (s.eraseDone o pass) := by
  unfold State.eraseDone
  dsimp only
  exact .ite (.record (.foldl (.mono (State.leaveBand_keeps ..)) fun _ _ => .setBlk (.with_pages (.refl ..)))) (.foldl ((by
      split
      · exact .setBand (.count (.refl ..))
      · exact .count (.refl ..))) fun _ _ => .mono (State.blkRetire_keeps ..))

/-! ### Ends of an operation (R257, R295) -/

theorem State.freeLun_keeps (s : State) (c l : Nat) : Keeps [.luns] [] s (s.freeLun c l) :=
  .setLun (.refl ..)

theorem State.opRefused_keeps (s : State) (o : Op) : Keeps [.decodes, .flash, .ftl, .health, .log, .luns, .engine, .endpoint, .rings,
    .vectors, .buses] [Reg.CHN_LUN_FAIL.FAILED, Reg.THI_OPS.COUNT, Reg.THI_TABLE.COUNT, Reg.THI_TABLE.FIRST, Reg.THI_STATUS.FREE_UNITS,
    Reg.THI_STATUS.COMPACTING, Reg.HIF_ASYNC.PEND] s (s.opRefused o) := by
  unfold State.opRefused
  dsimp only
  split
  · exact .mono (State.senseLost_keeps ..)
  · split
    · exact .andThen ((by
        split
        · exact .setBand (.foldl (.refl ..) fun _ _ => .setBlk (.refl ..))
        · exact .foldl (.refl ..) fun _ _ => .setBlk (.refl ..))) (State.mapVersions_keeps ..)
    · exact .foldl (.refl ..) fun _ _ => .setBlk (.refl ..)
  · exact .mono (State.eraseDone_keeps ..)
  · exact .refl ..

theorem State.opEnd_keeps (s : State) (c l : Nat) (o : Op) (pass : Bool) : Keeps [.decodes, .luns, .flash, .health, .ftl, .log, .engine,
    .endpoint, .rings, .vectors, .buses] [Reg.CHN_LUN_FAIL.FAILED, Reg.THI_OPS.COUNT, Reg.THI_TABLE.COUNT, Reg.THI_TABLE.FIRST,
    Reg.THI_STATUS.FREE_UNITS, Reg.THI_STATUS.COMPACTING, Reg.HIF_ASYNC.PEND] s (s.opEnd c l o pass) := by
  unfold State.opEnd
  dsimp only
  split
  · exact .ite_on (.mono (State.senseDone_keeps ..)) (.mono (State.senseLost_keeps ..)) (.mono (State.freeLun_keeps ..))
  · exact .andThen (.mono (State.freeLun_keeps ..)) (State.programDone_keeps ..)
  · exact .andThen (.mono (State.freeLun_keeps ..)) (State.eraseDone_keeps ..)
  · exact .mono (State.freeLun_keeps ..)

theorem State.opTrap_keeps (s : State) (c l : Nat) (o : Op) (code addr : Nat) : Keeps [.log, .luns, .decodes, .flash, .ftl, .health,
    .engine, .endpoint, .rings, .vectors, .buses] [Reg.UCS_TRAP.CODE, Reg.UCS_TRAP.CHANNEL, Reg.UCS_TRAP.LUN, Reg.UCS_TRAP.ADDR,
    Reg.UCS_TRAP.VALID, Reg.CHN_LUN_FAIL.FAILED, Reg.THI_OPS.COUNT, Reg.THI_TABLE.COUNT, Reg.THI_TABLE.FIRST, Reg.THI_STATUS.FREE_UNITS,
    Reg.THI_STATUS.COMPACTING, Reg.HIF_ASYNC.PEND] s (s.opTrap c l o code addr) :=
  .andThen (.andThen (.event (.wr (.wr (.wr (.wr (.wr (.refl ..))))))) (State.freeLun_keeps ..)) (State.opRefused_keeps ..)

/-! ### Running a bus phase (R282 to R295) -/

theorem State.arrayPhase_keeps (s : State) (c l : Nat) (o : Op) (cls len wait cont : Nat) : Keeps [.luns] [] s (s.arrayPhase c l o cls len
    wait cont) :=
  .setLun (.refl ..)

theorem State.yielded_keeps (s : State) (c l : Nat) (o : Op) (cls len wait cont : Nat) : Keeps [.luns, .log, .decodes, .flash, .ftl,
    .health, .engine, .endpoint, .rings, .vectors, .buses] [Reg.CHN_CNT.CHECK_FAULTS, Reg.CHN_FAULT.CODE, Reg.CHN_FAULT.LUN,
    Reg.CHN_FAULT.VALID, Reg.CHN_FAULT_ADDR.ADDR, Reg.CHN_LUN_FAIL.FAILED, Reg.THI_OPS.COUNT, Reg.THI_TABLE.COUNT, Reg.THI_TABLE.FIRST,
    Reg.THI_STATUS.FREE_UNITS, Reg.THI_STATUS.COMPACTING, Reg.HIF_ASYNC.PEND] s (s.yielded c l o cls len wait cont) :=
  .ite (.setLun (.refl ..)) (.ite (.ite (.andThen (.andThen (.event (.mono (State.chFault_keeps ..))) (State.freeLun_keeps ..))
      (State.opRefused_keeps ..)) (.andThen (.setLun (.mono (State.programIssued_keeps ..))) (State.arrayPhase_keeps ..))) (.ite (.andThen
      (.setLun (.foldl (.refl ..) fun _ _ => .setBlk (.refl ..))) (State.arrayPhase_keeps ..)) (.mono (State.arrayPhase_keeps ..))))

theorem State.runLun_keeps (s : State) (c l : Nat) (o : Op) (entry adm : Nat) (caps : List Nat) : Keeps [.luns, .decodes, .flash, .ftl,
    .health, .log, .engine, .endpoint, .rings, .vectors, .buses, .channels] [Reg.CHN_CNT.CHECK_FAULTS, Reg.CHN_FAULT.CODE,
    Reg.CHN_FAULT.LUN, Reg.CHN_FAULT.VALID, Reg.CHN_FAULT_ADDR.ADDR, Reg.CHN_LUN_FAIL.FAILED, Reg.THI_OPS.COUNT, Reg.THI_TABLE.COUNT,
    Reg.THI_TABLE.FIRST, Reg.THI_STATUS.FREE_UNITS, Reg.THI_STATUS.COMPACTING, Reg.HIF_ASYNC.PEND, Reg.UCS_CNT.OVERRUNS, Reg.UCS_TRAP.CODE,
    Reg.UCS_TRAP.CHANNEL, Reg.UCS_TRAP.LUN, Reg.UCS_TRAP.ADDR, Reg.UCS_TRAP.VALID] s (s.runLun c l o entry adm caps) := by
  unfold State.runLun
  dsimp only
  split
  · exact .andThen (.andThen (.mono (State.chFault_keeps ..)) (State.freeLun_keeps ..)) (State.opRefused_keeps ..)
  · split
    · exact .andThen (.ite_on (.event (.bump (.refl ..))) (.refl ..) (.setChn (.setLun (.refl ..)))) (State.yielded_keeps ..)
    · exact .ite (.ite (.setLun (.ite_on (.event (.bump (.refl ..))) (.refl ..) (.setChn (.setLun (.refl ..))))) ((by
        split
        · exact .setLun (.ite_on (.event (.bump (.refl ..))) (.refl ..) (.setChn (.setLun (.refl ..))))
        · exact .andThen (.ite_on (.event (.bump (.refl ..))) (.refl ..) (.setChn (.setLun (.refl ..)))) (State.freeLun_keeps ..))))
            (.ite_on (.mono (State.freeLun_keeps ..)) (.mono (State.opEnd_keeps ..)) (.ite_on (.event (.bump (.refl ..))) (.refl ..)
            (.setChn (.setLun (.refl ..)))))
    · exact .andThen (.ite_on (.event (.bump (.refl ..))) (.refl ..) (.setChn (.setLun (.refl ..)))) (State.opTrap_keeps ..)
    · exact .setLun (.ite_on (.event (.bump (.refl ..))) (.refl ..) (.setChn (.setLun (.refl ..))))

/-! ### LUN rows -/

theorem State.resetLun_keeps (s : State) (c l : Nat) (o : Op) : Keeps [.luns, .decodes, .flash, .ftl, .health, .log, .engine, .endpoint,
    .rings, .vectors, .buses, .channels] [Reg.CHN_CNT.CHECK_FAULTS, Reg.CHN_FAULT.CODE, Reg.CHN_FAULT.LUN, Reg.CHN_FAULT.VALID,
    Reg.CHN_FAULT_ADDR.ADDR, Reg.CHN_LUN_FAIL.FAILED, Reg.THI_OPS.COUNT, Reg.THI_TABLE.COUNT, Reg.THI_TABLE.FIRST,
    Reg.THI_STATUS.FREE_UNITS, Reg.THI_STATUS.COMPACTING, Reg.HIF_ASYNC.PEND, Reg.UCS_CNT.OVERRUNS, Reg.UCS_TRAP.CODE,
    Reg.UCS_TRAP.CHANNEL, Reg.UCS_TRAP.LUN, Reg.UCS_TRAP.ADDR, Reg.UCS_TRAP.VALID] s (s.resetLun c l o) :=
  .ite_on (.refl ..) (.setLun (.refl ..)) (.andThen (.setLun (.refl ..)) (State.runLun_keeps ..))

/-! ### Brown-out (R267) -/

theorem State.brownLun_keeps (s : State) (c l : Nat) : Keeps [.luns, .flash, .decodes, .ftl, .health, .log, .engine, .endpoint, .rings,
    .vectors, .buses, .channels] [Reg.CHN_CNT.CHECK_FAULTS, Reg.CHN_FAULT.CODE, Reg.CHN_FAULT.LUN, Reg.CHN_FAULT.VALID,
    Reg.CHN_FAULT_ADDR.ADDR, Reg.CHN_LUN_FAIL.FAILED, Reg.THI_OPS.COUNT, Reg.THI_TABLE.COUNT, Reg.THI_TABLE.FIRST,
    Reg.THI_STATUS.FREE_UNITS, Reg.THI_STATUS.COMPACTING, Reg.HIF_ASYNC.PEND, Reg.UCS_CNT.OVERRUNS, Reg.UCS_TRAP.CODE,
    Reg.UCS_TRAP.CHANNEL, Reg.UCS_TRAP.LUN, Reg.UCS_TRAP.ADDR, Reg.UCS_TRAP.VALID] s (s.brownLun c l).1 := by
  unfold State.brownLun
  dsimp only
  split
  · split
    · exact .setLun (.refl ..)
    · exact .andThen (.ite_on (.foldl (.refl ..) fun _ _ => .setPage (.refl ..)) (.ite (.foldl (.refl ..) fun _ _ => .setBlk (.refl ..))
        (.refl ..)) (.setLun (.refl ..))) (State.resetLun_keeps ..)
  · split
    · split
      · exact .setLun (.ite_on (.foldl (.refl ..) fun _ _ => .setPage (.refl ..)) (.foldl (.refl ..) fun _ _ => .setBlk (.refl ..))
          (.setLun (.refl ..)))
      · exact .andThen (.ite_on (.foldl (.refl ..) fun _ _ => .setPage (.refl ..)) (.foldl (.refl ..) fun _ _ => .setBlk (.refl ..))
          (.setLun (.refl ..))) (State.resetLun_keeps ..)
    · exact .setLun (.refl ..)

/-! ### Tags (R113, R133, R135) -/

theorem State.aer_keeps (s : State) (f b : Nat) : Keeps [.endpoint] [] s (s.aer f b) :=
  .setEp (.refl ..)

/-! ### The walk of the data pointers (R162, R163, R593) -/

theorem State.dropTags_keeps (s : State) (c : Nat) : Keeps [.tags] [] s (s.dropTags c) :=
  .with_tags (.refl ..)

/-! ### Aborted and dropped commands (R170, R210, R212) -/

theorem State.undoAdmin_keeps (s : State) (c : Nat) : Keeps [.group, .ftl, .keys] [Reg.GLI_STATUS.STATE, Reg.SEC_STATUS.LOADED,
    Reg.SEC_STATUS.TK_SET, Reg.SEC_STATUS.GROUP_KEY, Reg.SEC_STATUS.SWEEPING, Reg.SEC_STATUS.MC_BANKS] s (s.undoAdmin c) := by
  unfold State.undoAdmin
  dsimp only
  exact .ite_on (.ite_on (.wr (.refl ..)) (.refl ..) (.setGroup (.refl ..))) (.refl ..) ((by
      split
      · exact .andThen (.with_ftl (.refl ..)) (State.setKeySlot_keeps ..)
      · exact .with_ftl (.refl ..)))

theorem State.dropDecs_keeps (s : State) (c : Nat) : Keeps [.decodes] [] s (s.dropDecs c) :=
  .with_decs (.refl ..)

theorem State.abortCtx_keeps (s : State) (c status : Nat) : Keeps [.tags, .ftl, .engine, .log, .contexts, .decodes, .group, .keys]
    [Reg.THI_OPS.COUNT, Reg.THI_TABLE.COUNT, Reg.THI_TABLE.FIRST, Reg.THI_STATUS.FREE_UNITS, Reg.THI_STATUS.COMPACTING,
    Reg.GLI_STATUS.STATE, Reg.SEC_STATUS.LOADED, Reg.SEC_STATUS.TK_SET, Reg.SEC_STATUS.GROUP_KEY, Reg.SEC_STATUS.SWEEPING,
    Reg.SEC_STATUS.MC_BANKS] s (s.abortCtx c status) := by
  unfold State.abortCtx
  dsimp only
  exact .ite (.andThen (.mono (State.dropTags_keeps ..)) (State.refuse_keeps ..)) ((by
      split
      · exact .andThen (.andThen (.andThen (.mono (State.dropTags_keeps ..)) (State.dropDecs_keeps ..)) (State.undoAdmin_keeps ..))
          (State.endCtx_keeps ..)
      · exact .andThen (.andThen (.andThen (.mono (State.dropTags_keeps ..)) (State.dropDecs_keeps ..)) (State.undoAdmin_keeps ..))
          (State.endCtx_keeps ..)
      · exact .andThen (.andThen (.andThen (.mono (State.dropTags_keeps ..)) (State.dropDecs_keeps ..)) (State.undoAdmin_keeps ..))
          (State.endCtx_keeps ..)
      · exact .andThen (.andThen (.andThen (.mono (State.dropTags_keeps ..)) (State.dropDecs_keeps ..)) (State.undoAdmin_keeps ..))
          (State.endCtx_keeps ..)
      · exact .andThen (.andThen (.andThen (.mono (State.dropTags_keeps ..)) (State.dropDecs_keeps ..)) (State.undoAdmin_keeps ..))
          (State.endCtx_keeps ..)
      · exact .refl ..))

theorem State.dropCtx_keeps (s : State) (c : Nat) : Keeps [.microcode, .bootStore, .engine, .group, .ftl, .keys, .log, .tags, .decodes,
    .contexts] [Reg.THI_OPS.COUNT, Reg.THI_CNT.MULTI_HITS, Reg.GLI_STATUS.STATE, Reg.SEC_STATUS.LOADED, Reg.SEC_STATUS.TK_SET,
    Reg.SEC_STATUS.GROUP_KEY, Reg.SEC_STATUS.SWEEPING, Reg.SEC_STATUS.MC_BANKS, Reg.THI_TABLE.COUNT, Reg.THI_TABLE.FIRST,
    Reg.THI_STATUS.FREE_UNITS, Reg.THI_STATUS.COMPACTING] s (s.dropCtx c) :=
  .freeCtx (.andThen (.andThen (.ite_on (.with_ucode (.refl ..)) (.refl ..) (.ite_on (.with_bst (.refl ..)) (.refl ..) (.ite_on (.mono
      (State.thiGiveSpans_keeps ..)) (.refl ..) (.ite_on (.refl ..) (.mono (State.undoAdmin_keeps ..)) (.ite (.mono (State.adopt_keeps ..))
      (.refl ..)))))) (State.dropTags_keeps ..)) (State.dropDecs_keeps ..))

/-! ### Failed requests (R134, R136, R160) -/

theorem State.fetchFailed_keeps (s : State) (f n reason : Nat) : Keeps [.rings, .log, .endpoint, .vectors, .buses] [Reg.HIF_FETCH_ERR.RING,
    Reg.HIF_FETCH_ERR.REASON, Reg.HIF_FETCH_ERR.VALID, Reg.HIF_ASYNC.PEND] s (s.fetchFailed f n reason) :=
  .andThen (.event (.wr (.wr (.wr (.setRing (.refl ..)))))) (State.async_keeps ..)

theorem State.requestFailed_keeps (s : State) (f t reason : Nat) : Keeps [.rings, .log, .endpoint, .vectors, .buses, .tags, .ftl, .engine,
    .contexts, .decodes, .group, .keys] [Reg.HIF_FETCH_ERR.RING, Reg.HIF_FETCH_ERR.REASON, Reg.HIF_FETCH_ERR.VALID, Reg.HIF_ASYNC.PEND,
    Reg.THI_OPS.COUNT, Reg.THI_TABLE.COUNT, Reg.THI_TABLE.FIRST, Reg.THI_STATUS.FREE_UNITS, Reg.THI_STATUS.COMPACTING,
    Reg.GLI_STATUS.STATE, Reg.SEC_STATUS.LOADED, Reg.SEC_STATUS.TK_SET, Reg.SEC_STATUS.GROUP_KEY, Reg.SEC_STATUS.SWEEPING,
    Reg.SEC_STATUS.MC_BANKS] s (s.requestFailed f t reason) := by
  unfold State.requestFailed
  split
  · exact .mono (State.fetchFailed_keeps ..)
  · exact .ite (.mono (State.abortCtx_keeps ..)) (.refl ..)
  · exact .ite (.mono (State.abortCtx_keeps ..)) (.refl ..)
  · exact .refl ..
  · exact .refl ..

end Sys2Proof.Machine
end

section
/-! PROOFS. What the operations that carry a value through a fold, or answer one beside the state, may change. -/

set_option Elab.async false

namespace Sys2Proof.Machine

section
variable (s : State)

/-! ### Sessions and pushes -/

theorem State.take_keeps {j : Nat} {h : Hdr} {u : State} (e : s.take j h = some u) :
    Keeps [.group, .log, .buses] [Reg.GLI_PEER.SESSION, Reg.GLI_LINKED.MASK] s u := by
  unfold State.take at e
  split at e
  · cases e
  split at e
  · cases e; exact .mono (s.dropSession_keeps ..)
  split at e
  · cases e; exact .mono (s.dropSession_keeps ..)
  dsimp only at e
  split at e
  · cases e; exact .andThen (.setPeer (.refl ..)) (State.sendMsg_keeps ..)
  · cases e; exact .setPeer (.refl ..)

theorem State.push_keeps (j num slot flags plan : Nat) (l : List (Nat × Option Block × GHead)) :
    Keeps [.group, .buses] [] s (s.push j num slot flags plan l) := by
  unfold State.push
  dsimp only
  split
  · refine Keeps.setGroup (.andThen ?_ (State.sendMsg_keeps ..) (List.Subset.refl _) (List.Subset.refl _)) (by simp)
    refine Keeps.foldl_on (fun a : List Nat × List Nat × State => a.2.2) (.refl ..) fun a g => ?_
    split
    · exact .refl ..
    · exact .emit (.mono (a.2.2.nextStage_keeps j))
  · exact .refl ..

/-! ### Reference copies, spans and buffers -/

theorem State.refBlock_keeps (a : Nat) : Keeps [.engine, .log] [Reg.THI_OPS.COUNT, Reg.THI_CNT.NO_ROOM, Reg.THI_TABLE.COUNT,
    Reg.THI_TABLE.FIRST, Reg.THI_STATUS.FREE_UNITS, Reg.THI_STATUS.COMPACTING] s (s.refBlock a).2 := by
  unfold State.refBlock
  split
  · exact .refl ..
  split
  · exact .refl ..
  · exact .mono (s.thiInsertAny_keeps ..)

theorem State.refCopies_keeps (l : List (Nat × Nat)) : Keeps [.engine, .log] [Reg.THI_OPS.COUNT, Reg.THI_CNT.NO_ROOM, Reg.THI_TABLE.COUNT,
    Reg.THI_TABLE.FIRST, Reg.THI_STATUS.FREE_UNITS, Reg.THI_STATUS.COMPACTING] s (s.refCopies l).2 :=
  .foldl_on Prod.snd (.refl ..) fun a e => a.2.refBlock_keeps (adOfBlock e.2)

theorem State.thiTakeSpans_keeps (l : List Nat) : Keeps [.engine, .log] [Reg.THI_OPS.COUNT, Reg.THI_CNT.NO_ROOM, Reg.THI_TABLE.COUNT,
    Reg.THI_TABLE.FIRST, Reg.THI_STATUS.FREE_UNITS, Reg.THI_STATUS.COMPACTING] s (s.thiTakeSpans l) :=
  .foldl (.refl ..) fun u _ => u.thiInsertAny_keeps ..

theorem State.takeSpans_keeps (c : Nat) : Keeps [.ftl, .engine, .log, .contexts] [Reg.THI_OPS.COUNT, Reg.THI_CNT.NO_ROOM, Reg.THI_TABLE.COUNT,
    Reg.THI_TABLE.FIRST, Reg.THI_STATUS.FREE_UNITS, Reg.THI_STATUS.COMPACTING, Reg.WBF_EVT.SPAN_FULL] s (s.takeSpans c).2 := by
  unfold State.takeSpans
  dsimp only
  have k : Keeps [.ftl, .engine, .log, .contexts] [Reg.THI_OPS.COUNT, Reg.THI_CNT.NO_ROOM, Reg.THI_TABLE.COUNT, Reg.THI_TABLE.FIRST,
      Reg.THI_STATUS.FREE_UNITS, Reg.THI_STATUS.COMPACTING, Reg.WBF_EVT.SPAN_FULL] s
      (if (s.freeClean (s.ctx c)).thiSpanRoom (s.ctx c).spansOf then s.freeClean (s.ctx c) else (s.freeClean (s.ctx c)).thiSpanSweep) :=
    .ite_on (.refl ..) (.mono (State.thiSpanSweep_keeps ..)) (.mono (s.freeClean_keeps _))
  generalize (if (s.freeClean (s.ctx c)).thiSpanRoom (s.ctx c).spansOf then s.freeClean (s.ctx c) else
    (s.freeClean (s.ctx c)).thiSpanSweep) = u at k ⊢
  split
  · exact .refl ..
  split
  · exact .setCtx (.andThen k (State.thiTakeSpans_keeps ..))
  split
  · exact k
  · exact .event (.wr (.setCtx k))

theorem State.serveQueue_keeps : Keeps [.pool, .buses, .log] [Reg.BPM_OWN.USED, Reg.BPM_OWN.PEAK, Reg.BPM_STATUS.FREE,
    Reg.BPM_STATUS.SHARED_FREE, Reg.BPM_STATUS.BACKPRESSURE, Reg.BPM_STATUS.CRITICAL, Reg.BPM_OWN.WAITING] s s.serveQueue := by
  unfold State.serveQueue
  dsimp only
  refine .foldl (.trans (.foldl_fst (.refl ..) fun a q => ?_) (.with_pool (.refl ..))) fun _ _ => .wr (.refl ..)
  split
  · exact .mono (State.grant_keeps ..)
  · exact .refl ..

theorem State.startStripe_keeps (b : Band) (cls : Cls) (l : List (Nat × List Stored × Nat × Option Nat)) :
    Keeps [.flash, .luns, .ftl] [] s (s.startStripe b cls l) := by
  unfold State.startStripe
  dsimp only
  refine .ite_on (.record (.refl ..)) (.refl ..) (Keeps.foldl (.setBand (.refl ..) (by decide)) fun u c => ?_)
  exact .getD (.refl ..) fun v e => .mono (u.post_keeps e)

/-! ### Losses (R413) -/

/-- A lost entry is appended under the next sequence number. -/
theorem Keeps.appendLost {ps : List Part} {rs : List Fld} {s t : State} (k : Keeps ps rs s t) {q : LostEntry} (hq : q.seq = t.lostSeq + 1)
    (h : Part.lostStripes ∈ ps := by decide) : Keeps ps rs s { t with lost := t.lost ++ [q], lostSeq := t.lostSeq + 1 } :=
  k.part .lostStripes h (fun q hq => by cases q <;> first | exact absurd rfl hq | simp [Part.same]) rfl
    { Steady.refl t with
      lostSeq := Nat.le_succ _
      lost := fun ⟨hp, hl⟩ => by
        refine ⟨List.pairwise_append.2 ⟨hp, List.pairwise_singleton _ _, fun l hm m he => ?_⟩, fun l hm => ?_⟩
        · rw [List.mem_singleton.1 he, hq]
          exact Nat.lt_succ_of_le (hl l hm)
        · rcases List.mem_append.1 hm with hm | hm
          · exact Nat.le_succ_of_le (hl l hm)
          · exact Nat.le_of_eq ((congrArg LostEntry.seq (List.mem_singleton.1 hm)).trans hq) }

/-- The list of lost stripes is put back as it was. -/
theorem Keeps.restoreLost {ps : List Part} {rs : List Fld} {s t : State} (k : Keeps ps rs s t) (h : Part.lostStripes ∈ ps := by decide) :
    Keeps ps rs s { t with lost := s.lost, lostSeq := s.lostSeq } where
  only := fun p hp => by
    have := k.only p hp
    cases p <;> first | exact absurd h hp | exact this
  regs := k.regs
  steady := { k.steady with lostSeq := Nat.le_refl _, lost := id }

theorem State.lostEntry_keeps (p : PStripe) (cause : Nat) (ranges : List (Nat × Nat)) :
    Keeps [.lostStripes, .health, .endpoint, .rings, .vectors, .buses] [Reg.HIF_ASYNC.PEND] s (s.lostEntry p cause ranges) :=
  .andThen (.setHealth (.appendLost (.refl ..) rfl)) (State.asyncAll_keeps ..)

/-! ### Triggers (R107) -/

theorem State.trigger_keeps (fs : List Nat) (cause : Cause) : Keeps [.reconcile, .endpoint, .microcode, .bootStore, .engine, .group, .ftl,
    .keys, .log, .tags, .decodes, .contexts] [Reg.THI_OPS.COUNT, Reg.THI_CNT.MULTI_HITS, Reg.GLI_STATUS.STATE, Reg.SEC_STATUS.LOADED,
    Reg.SEC_STATUS.TK_SET, Reg.SEC_STATUS.GROUP_KEY, Reg.SEC_STATUS.SWEEPING, Reg.SEC_STATUS.MC_BANKS, Reg.THI_TABLE.COUNT,
    Reg.THI_TABLE.FIRST, Reg.THI_STATUS.FREE_UNITS, Reg.THI_STATUS.COMPACTING] s (s.trigger fs cause) :=
  .foldl (.foldl (.mono (s.trigger_recon_keeps cause _)) fun _ _ => .setEp (.refl ..)) fun _ _ => .mono (State.dropCtx_keeps ..)

/-! ### The channels at a drain (R240) -/

theorem State.brownChannels_keeps : Keeps [.luns, .flash, .decodes, .ftl, .health, .log, .engine, .endpoint, .rings, .vectors, .buses,
    .channels] [Reg.CHN_CNT.CHECK_FAULTS, Reg.CHN_FAULT.CODE, Reg.CHN_FAULT.LUN, Reg.CHN_FAULT.VALID, Reg.CHN_FAULT_ADDR.ADDR,
    Reg.CHN_LUN_FAIL.FAILED, Reg.THI_OPS.COUNT, Reg.THI_TABLE.COUNT, Reg.THI_TABLE.FIRST, Reg.THI_STATUS.FREE_UNITS,
    Reg.THI_STATUS.COMPACTING, Reg.HIF_ASYNC.PEND, Reg.UCS_CNT.OVERRUNS, Reg.UCS_TRAP.CODE, Reg.UCS_TRAP.CHANNEL, Reg.UCS_TRAP.LUN,
    Reg.UCS_TRAP.ADDR, Reg.UCS_TRAP.VALID] s s.brownChannels := by
  refine .foldl (.refl ..) fun u c => .ite (.refl ..) ?_
  refine .ite_on (.refl ..) (.event (.refl ..)) (Keeps.foldl_fst (.refl ..) fun a l => ?_)
  exact .mono (a.1.brownLun_keeps c l)

/-! ### Wakes (R534, R535) -/

theorem State.latchWake_keeps (r : Fld) : Keeps [.power, .buses] [r, Reg.PWR_STATUS.PHASE, Reg.PWR_AVS.REQ_MV, Reg.PWR_AVS.BUSY] s
    (s.latchWake r) := by
  unfold State.latchWake
  dsimp only
  have k : Keeps [.power, .buses] [r, Reg.PWR_STATUS.PHASE, Reg.PWR_AVS.REQ_MV, Reg.PWR_AVS.BUSY] s
      ((s.setPwr { s.pwr with idle := 0 }).wr r 1) := .wr (.setPwr (.refl ..)) (by simp)
  exact .ite (.setPwr (.refl ..)) (.ite (.ite k (.andThen k (State.startExit_keeps ..) (by decide) (by simp))) k)

theorem State.wakeTlp_keeps (f : Nat) : Keeps [.power, .buses] [Reg.PWR_WAKE.TLP_F0, Reg.PWR_WAKE.TLP_F1, Reg.PWR_STATUS.PHASE,
    Reg.PWR_AVS.REQ_MV, Reg.PWR_AVS.BUSY] s (s.wakeTlp f) := by
  unfold State.wakeTlp
  split <;> exact .mono (State.latchWake_keeps ..)

/-! ### Bands at a drain -/

theorem State.layDown_keeps (k : BandKind) (n : Nat) (l : List (Nat × List Stored)) :
    Keeps [.flash, .ftl] [] s (State.layDown k n l s).2 := by
  induction n generalizing l s with
  | zero => exact .refl ..
  | succ n ih =>
    cases l with
    | nil => exact .refl ..
    | cons p l =>
      unfold State.layDown
      dsimp only
      split
      · exact .refl ..
      · refine .trans ?_ (ih ..)
        exact .setBand (.foldl (.foldl (.with_pages_ftl (.mono (s.form_keeps k))) fun _ _ => .setBlk (.refl ..))
          fun _ _ => .setPage (.refl ..))

end

end Sys2Proof.Machine
end

section
/-! PROOFS. What the operations on stripes, windows, lines, keys and the supply may change. -/

set_option Elab.async false

namespace Sys2Proof.Machine

/-! ### The dirty-data ceiling (R236) -/

theorem State.refreshCeiling_keeps (s : State) : Keeps [.log, .health, .ftl] [Reg.FRM_CEILING.CEIL_MIB, Reg.FRM_CEILING.SOURCE,
    Reg.FRM_JPB.MODEL] s (s.refreshCeiling) :=
  .ite_on (.event (.refl ..)) (.refl ..) (.with_ftl (.setHealth (.wr (.wr (.wr (.refl ..))))))

/-! ### Page counters (R437) -/

theorem State.touch_keeps (s : State) (n off : Nat) : Keeps [.subchannels] [] s (s.touch n off) :=
  .setSc (.refl ..)

/-! ### Loss of a sub-channel (R451, R452) -/

theorem State.scFail_keeps (s : State) (n cause : Nat) : Keeps [.health, .dram, .log, .endpoint, .rings, .vectors, .buses]
    [Reg.DRC_STATUS.TRN_BUSY, Reg.DRC_SC.STATE, Reg.DRC_STATUS.FAILED, Reg.DRC_STATUS.IN_SERVICE, Reg.HIF_ASYNC.PEND] s (s.scFail n cause)
    :=
  .ite (.refl ..) (.andThen (.event (.with_dram (.ite_on (.wr (.refl ..)) (.refl ..) (.setHealth (.wr (.wr (.wr (.refl ..))))))))
      (State.partFail_keeps ..))

/-! ### Remapping (R441, R444, R445) -/

theorem State.setPoison_keeps (s : State) (n line : Nat) (p : Bool) : Keeps [.dram] [Reg.MEM_REMAP.POISON] s (s.setPoison n line p) := by
  unfold State.setPoison
  dsimp only
  split
  · exact .with_dram (.wr (.refl ..))
  · exact .refl ..

theorem State.remap_keeps (s : State) (n line : Nat) (poison : Bool) : Keeps [.dram, .log, .health, .endpoint, .rings, .vectors, .buses]
    [Reg.MEM_REMAP.POISON, Reg.DRC_STATUS.TRN_BUSY, Reg.DRC_SC.STATE, Reg.DRC_STATUS.FAILED, Reg.DRC_STATUS.IN_SERVICE, Reg.HIF_ASYNC.PEND,
    Reg.MEM_REMAP.LINE, Reg.MEM_REMAP.VALID, Reg.MEM_SC.REMAP_USED] s (s.remap n line poison) := by
  unfold State.remap
  dsimp only
  exact .ite (.mono (State.setPoison_keeps ..)) ((by
      split
      · exact .andThen (.event (.refl ..)) (State.scFail_keeps ..)
      · exact .with_dram (.event (.bump (.wr (.wr (.wr (.refl ..))))))))

theorem State.marginTrigger_keeps (s : State) (n cause : Nat) : Keeps [.dram] [] s (s.marginTrigger n cause) :=
  .ite (.with_dram (.refl ..)) (.refl ..)

theorem State.lastLine_keeps (s : State) (n line device : Nat) (uncorr : Bool) : Keeps [] [Reg.MEM_SC.LAST, Reg.MEM_SC.DEVICE,
    Reg.MEM_SC.UNCORR] s (s.lastLine n line device uncorr) :=
  .wr (.wr (.wr (.refl ..)))

theorem State.lineBad_keeps (s : State) (n line : Nat) : Keeps [.health, .dram, .log, .endpoint, .rings, .vectors, .buses, .subchannels]
    [Reg.DRC_STATUS.TRN_BUSY, Reg.DRC_SC.STATE, Reg.DRC_STATUS.FAILED, Reg.DRC_STATUS.IN_SERVICE, Reg.HIF_ASYNC.PEND, Reg.MEM_SC.UE,
    Reg.MEM_SC.LAST, Reg.MEM_SC.DEVICE, Reg.MEM_SC.UNCORR, Reg.MEM_REMAP.POISON, Reg.MEM_REMAP.LINE, Reg.MEM_REMAP.VALID,
    Reg.MEM_SC.REMAP_USED] s (s.lineBad n line) :=
  .ite_on (.mono (State.scFail_keeps ..)) (.refl ..) (.setSc (.andThen (.andThen (.event (.bump (.refl ..))) (State.lastLine_keeps ..))
      (State.remap_keeps ..)))

theorem State.lineCorrected_keeps (s : State) (n line device : Nat) : Keeps [.log, .dram, .health, .endpoint, .rings, .vectors, .buses,
    .subchannels] [Reg.MEM_REMAP.POISON, Reg.DRC_STATUS.TRN_BUSY, Reg.DRC_SC.STATE, Reg.DRC_STATUS.FAILED, Reg.DRC_STATUS.IN_SERVICE,
    Reg.HIF_ASYNC.PEND, Reg.MEM_REMAP.LINE, Reg.MEM_REMAP.VALID, Reg.MEM_SC.REMAP_USED, Reg.DRC_SC.CE_1S, Reg.MEM_SC.CE, Reg.MEM_SC.LAST,
    Reg.MEM_SC.DEVICE, Reg.MEM_SC.UNCORR] s (s.lineCorrected n line device) :=
  .ite_on (.refl ..) (.ite (.andThen (.event (.refl ..)) (State.remap_keeps ..)) (.ite_on (.andThen (.event (.refl ..)) (State.scFail_keeps
      ..)) (.refl ..) (.ite_on (.mono (State.marginTrigger_keeps ..)) (.refl ..) (.wr (.setSc (.refl ..)))))) (.andThen (.count (.bump
      (.refl ..))) (State.lastLine_keeps ..))

theorem State.readLine_keeps (s : State) (n line : Nat) (errs : List (Nat × Nat × Nat)) : Keeps [.subchannels, .log, .dram, .health,
    .endpoint, .rings, .vectors, .buses] [Reg.DRC_SC.UNINIT_READS, Reg.MEM_REMAP.POISON, Reg.DRC_STATUS.TRN_BUSY, Reg.DRC_SC.STATE,
    Reg.DRC_STATUS.FAILED, Reg.DRC_STATUS.IN_SERVICE, Reg.HIF_ASYNC.PEND, Reg.MEM_REMAP.LINE, Reg.MEM_REMAP.VALID, Reg.MEM_SC.REMAP_USED,
    Reg.DRC_SC.CE_1S, Reg.MEM_SC.CE, Reg.MEM_SC.LAST, Reg.MEM_SC.DEVICE, Reg.MEM_SC.UNCORR, Reg.MEM_SC.UE] s (s.readLine n line errs).2 :=
    by
  unfold State.readLine
  dsimp only
  split
  · exact .refl ..
  · split
    · split
      · exact .event (.setSc (.bump (.refl ..)))
      · exact .bump (.refl ..)
    · split
      · exact .refl ..
      · split
        · exact .mono (State.touch_keeps ..)
        · split
          · exact .mono (State.touch_keeps ..)
          · exact .andThen (.mono (State.touch_keeps ..)) (State.lineCorrected_keeps ..)
          · exact .andThen (.mono (State.touch_keeps ..)) (State.lineBad_keeps ..)

/-! ### Training (R446 to R449) -/

theorem State.dramAbandon_keeps (s : State) : Keeps [.subchannels, .dram] [Reg.DRC_SC.STATE, Reg.DRC_STATUS.TRN_BUSY] s (s.dramAbandon) :=
  .with_dram (.wr (.foldl (.refl ..) fun _ _ => .ite (.setSc (.wr (.refl ..))) (.refl ..)))

/-! ### The Thitralen associative engine -/

theorem State.thiDelete_keeps (s : State) (t i : Nat) : Keeps [.engine, .log] [Reg.THI_OPS.COUNT, Reg.THI_TABLE.COUNT, Reg.THI_TABLE.FIRST,
    Reg.THI_STATUS.FREE_UNITS, Reg.THI_STATUS.COMPACTING] s (s.thiDelete t i).2 := by
  unfold State.thiDelete
  dsimp only
  split
  · exact .andThen (.setThi (.mono (State.thiOps_keeps ..))) (State.thiRefresh_keeps ..)
  · exact .mono (State.thiOps_keeps ..)

/-! ### Slots and realms (R494 to R496) -/

theorem State.sweepCheck_keeps (s : State) (k : Nat) : Keeps [.keys] [Reg.SEC_STATUS.LOADED, Reg.SEC_STATUS.TK_SET,
    Reg.SEC_STATUS.GROUP_KEY, Reg.SEC_STATUS.SWEEPING, Reg.SEC_STATUS.MC_BANKS] s (s.sweepCheck k) :=
  .ite (.mono (State.setKeySlot_keeps ..)) (.refl ..)

theorem State.rollSlot_keeps (s : State) (k : Nat) : Keeps [.keys, .log] [Reg.SEC_STATUS.LOADED, Reg.SEC_STATUS.TK_SET,
    Reg.SEC_STATUS.GROUP_KEY, Reg.SEC_STATUS.SWEEPING, Reg.SEC_STATUS.MC_BANKS, Reg.SEC_CNT.ROLLS] s (s.rollSlot k) :=
  .andThen (.event (.bump (.mono (State.setKeySlot_keeps ..)))) (State.sweepCheck_keeps ..)

/-! ### Invocation counters (R502, R503) -/

theorem State.keyWarn_keeps (s : State) (k r : Nat) : Keeps [.keys, .log, .endpoint, .rings, .vectors, .buses] [Reg.SEC_STATUS.LOADED,
    Reg.SEC_STATUS.TK_SET, Reg.SEC_STATUS.GROUP_KEY, Reg.SEC_STATUS.SWEEPING, Reg.SEC_STATUS.MC_BANKS, Reg.HIF_ASYNC.PEND] s (s.keyWarn k
    r) :=
  .ite (.andThen (.event (.mono (State.setKeySlot_keeps ..))) (State.asyncAll_keeps ..)) (.refl ..)

theorem State.reserve1_keeps (s : State) (lba : Nat) : Keeps [.keys, .log, .endpoint, .rings, .vectors, .buses] [Reg.SEC_STATUS.LOADED,
    Reg.SEC_STATUS.TK_SET, Reg.SEC_STATUS.GROUP_KEY, Reg.SEC_STATUS.SWEEPING, Reg.SEC_STATUS.MC_BANKS, Reg.HIF_ASYNC.PEND] s (s.reserve1
    lba).2 :=
  .andThen (.mono (State.setKeySlot_keeps ..)) (State.keyWarn_keeps ..)

/-! ### The boot store (R513 to R516) -/

theorem State.bstRefresh_keeps (s : State) : Keeps [] [Reg.BST_STATUS.ACTIVE, Reg.BST_STATUS.FUSED_SV, Reg.BST_STATUS.FAIL_COUNT,
    Reg.BST_STATUS.WRITING, Reg.BST_STATUS.ACTIVATING, Reg.BST_SLOT.STATE, Reg.BST_SLOT.CHECK, Reg.BST_SLOT.SV, Reg.BST_SLOT.WRITTEN,
    Reg.BST_SLOT.VERSION] s (s.bstRefresh) :=
  .foldl (.wr (.wr (.wr (.wr (.wr (.refl ..)))))) fun _ _ => .wr (.wr (.wr (.wr (.wr (.refl ..)))))

/-! ### Wakes, exits and abandonment (R534 to R538, R549) -/

theorem State.startEntry_keeps (s : State) : Keeps [.power] [Reg.PWR_STATUS.PHASE] s (s.startEntry) :=
  .setPwr (.wr (.refl ..))

theorem State.refreshTarget_keeps (s : State) : Keeps [.power, .buses] [Reg.PWR_STATUS.PHASE, Reg.PWR_AVS.REQ_MV, Reg.PWR_AVS.BUSY,
    Reg.PWR_REQ.F0, Reg.PWR_REQ.F1, Reg.PWR_STATUS.TARGET] s (s.refreshTarget) :=
  .ite_on (.ite (.mono (State.startExit_keeps ..)) (.ite (.mono (State.startEntry_keeps ..)) (.refl ..))) (.refl ..) (.wr (.wr (.wr (.refl
      ..))))

theorem State.powerDrain_keeps (s : State) : Keeps [.power, .buses, .subchannels, .dram] [Reg.PWR_STATUS.PHASE, Reg.PWR_AVS.REQ_MV,
    Reg.PWR_AVS.BUSY, Reg.DRC_SC.STATE, Reg.DRC_STATUS.TRN_BUSY] s (s.powerDrain) :=
  .andThen (.ite (.refl ..) (.mono (State.startExit_keeps ..))) (State.dramAbandon_keeps ..)

/-! ### OSNs (R190) -/

theorem State.assignOsn_keeps (s : State) : Keeps [.ftl] [] s (s.assignOsn).2 :=
  .ite_on (.record (.with_ftl (.refl ..))) (.refl ..) (.with_ftl (.refl ..))

/-! ### The BAR4 translation windows -/

theorem State.winCommit_keeps (s : State) (owner : Option Nat) : Keeps [.windows] [Reg.WIN_ENT_CTRL.PENDING, Reg.WIN_EPOCH.EPOCH,
    Reg.WIN_EPOCH.BUSY] s (s.winCommit owner).1 := by
  unfold State.winCommit
  dsimp only
  split
  · exact .refl ..
  · split
    · exact .refl ..
    · exact .wr (.wr (.foldl (.refl ..) fun _ _ => .wr (.setWin (.refl ..))))

theorem State.winDevice_keeps (s : State) : Keeps [.windows, .log] [Reg.WIN_ENT_CTRL.PENDING, Reg.WIN_EPOCH.EPOCH, Reg.WIN_EPOCH.BUSY] s
    (s.winDevice) := by
  unfold State.winDevice
  split
  · next e => exact .out_fst e (.mono (State.winCommit_keeps ..))
  · next e => exact .trans (.out_fst e (.mono (State.winCommit_keeps ..))) (.event (.refl ..))

/-! ### Stripes and roles (R401, R412) -/

theorem State.stripeCounts_keeps (s : State) : Keeps [] [Reg.GLI_STRIPE_CNT.OPEN, Reg.GLI_STRIPE_CNT.DEGRADED] s (s.stripeCounts) :=
  .wr (.wr (.refl ..))

theorem State.setStripe_keeps (s : State) (p : PStripe) : Keeps [.group] [Reg.GLI_STRIPE_CNT.OPEN, Reg.GLI_STRIPE_CNT.DEGRADED] s
    (s.setStripe p) :=
  .andThen (.setGroup (.refl ..)) (State.stripeCounts_keeps ..)

theorem State.ledger_keeps (s : State) (p : PStripe) (type b c : Nat) : Keeps [.ftl] [] s (s.ledger p type b c) :=
  .ite (.record (.refl ..)) (.refl ..)

theorem State.replaceGrans_keeps (s : State) (p : PStripe) (g : Gran → Bool) : Keeps [.group] [] s (s.replaceGrans p g) :=
  .setGroup (.refl ..)

theorem State.stripeGo_keeps (s : State) (p : PStripe) (st : StripeSt) : Keeps [.log, .group, .buses, .ftl, .engine]
    [Reg.GLI_STRIPE_CNT.OPEN, Reg.GLI_STRIPE_CNT.DEGRADED, Reg.GLI_STRIPE_LOST.COUNT, Reg.THI_OPS.COUNT, Reg.THI_TABLE.COUNT,
    Reg.THI_TABLE.FIRST, Reg.THI_STATUS.FREE_UNITS, Reg.THI_STATUS.COMPACTING] s (s.stripeGo p st) := by
  unfold State.stripeGo
  dsimp only
  split
  · exact .ite_on (.refl ..) (.event (.refl ..)) (.ite_on (.andThen (.mono (State.sendMsg_keeps ..)) (State.sendMsg_keeps ..)) (.refl ..)
      (.andThen (.mono (State.setStripe_keeps ..)) (State.ledger_keeps ..)))
  · exact .andThen (.ite_on (.bump (.refl ..)) (.refl ..) (.event (.ite_on (.andThen (.mono (State.sendMsg_keeps ..)) (State.sendMsg_keeps
      ..)) (.refl ..) (.andThen (.mono (State.setStripe_keeps ..)) (State.ledger_keeps ..))))) (State.replaceGrans_keeps ..)
  · split
    · exact .andThen (.ite_on (.andThen (.mono (State.sendMsg_keeps ..)) (State.sendMsg_keeps ..)) (.refl ..) (.andThen (.mono
        (State.setStripe_keeps ..)) (State.ledger_keeps ..))) (State.thiDelete_keeps ..)
    · exact .ite_on (.andThen (.mono (State.sendMsg_keeps ..)) (State.sendMsg_keeps ..)) (.refl ..) (.andThen (.mono (State.setStripe_keeps
        ..)) (State.ledger_keeps ..))
  · exact .ite_on (.andThen (.mono (State.sendMsg_keeps ..)) (State.sendMsg_keeps ..)) (.refl ..) (.andThen (.mono (State.setStripe_keeps
      ..)) (State.ledger_keeps ..))

/-! ### Solving (R416) -/

theorem State.loseStripe_keeps (s : State) (p : PStripe) (cause : Nat) (ranges : List (Nat × Nat)) : Keeps [.log, .group, .buses, .ftl,
    .engine, .lostStripes, .health, .endpoint, .rings, .vectors] [Reg.GLI_STRIPE_CNT.OPEN, Reg.GLI_STRIPE_CNT.DEGRADED,
    Reg.GLI_STRIPE_LOST.COUNT, Reg.THI_OPS.COUNT, Reg.THI_TABLE.COUNT, Reg.THI_TABLE.FIRST, Reg.THI_STATUS.FREE_UNITS,
    Reg.THI_STATUS.COMPACTING, Reg.HIF_ASYNC.PEND] s (s.loseStripe p cause ranges) := by
  unfold State.loseStripe
  split
  · exact .refl ..
  · exact .refl ..
  · exact .andThen (.mono (State.stripeGo_keeps ..)) (State.lostEntry_keeps ..)

/-! ### Stripes as the view changes (R409, R412, R417, R418) -/

theorem State.rePlace_keeps (s : State) (p : PStripe) : Keeps [.log, .group, .buses, .ftl, .engine] [Reg.GLI_STRIPE_CNT.OPEN,
    Reg.GLI_STRIPE_CNT.DEGRADED, Reg.GLI_STRIPE_LOST.COUNT, Reg.THI_OPS.COUNT, Reg.THI_TABLE.COUNT, Reg.THI_TABLE.FIRST,
    Reg.THI_STATUS.FREE_UNITS, Reg.THI_STATUS.COMPACTING] s (s.rePlace p) :=
  .event (.andThen (.mono (State.stripeGo_keeps ..)) (State.replaceGrans_keeps ..))

/-! ### Brown-out (R267) -/

theorem State.boMode_keeps (s : State) (on_ : Bool) : Keeps [] [Reg.CHN_ENG_STATUS.BO_MODE] s (s.boMode on_) :=
  .foldl (.refl ..) fun _ _ => .ite (.refl ..) (.wr (.refl ..))

/-! ### The fan bridges and the fan states -/

theorem State.fanGo_keeps (s : State) (f : Nat) (st : FanSt) : Keeps [.fans] [Reg.FAN_F.STATE, Reg.FAN_F.DUTY] s (s.fanGo f st) := by
  unfold State.fanGo
  dsimp only
  split
  · exact .setFan (.wr (.refl ..))
  · exact .setFan (.wr (.refl ..))
  · exact .setFan (.wr (.refl ..))
  · exact .wr (.setFan (.wr (.refl ..)))
  · exact .wr (.setFan (.wr (.refl ..)))

theorem State.fansOff_keeps (s : State) : Keeps [.fans] [Reg.FAN_F.STATE, Reg.FAN_F.DUTY] s (s.fansOff) :=
  .foldl (.refl ..) fun _ _ => .mono (State.fanGo_keeps ..)

/-! ### Keys (R496 to R499) -/

theorem State.recordKey_keeps (s : State) (r : BitVec 512) (unwrapped : Option (BitVec 256)) : Keeps [.freeValues] [] s (s.recordKey r
    unwrapped).2 := by
  unfold State.recordKey
  split
  · exact .refl ..
  · split
    · exact .freeNext (.refl ..)
    · split <;> exact .refl ..

/-! ### Measurements (R69 to R71) -/

theorem State.measBleed_keeps (s : State) : Keeps [.supply, .log, .health, .ftl] [Reg.HUP_STATUS.MEAS_BUSY, Reg.FRM_CEILING.CEIL_MIB,
    Reg.FRM_CEILING.SOURCE, Reg.FRM_JPB.MODEL] s (s.measBleed) :=
  .andThen (.wr (.setSup (.refl ..))) (State.refreshCeiling_keeps ..)

theorem State.recharge_keeps (s : State) : Keeps [] [Reg.HUP_STATUS.CHARGING] s (s.recharge) :=
  .wr (.refl ..)

theorem State.measAbort_keeps (s : State) : Keeps [.supply] [Reg.HUP_STATUS.MEAS_BUSY, Reg.HUP_STATUS.BLEED_ON] s (s.measAbort) := by
  unfold State.measAbort
  dsimp only
  split
  · exact .refl ..
  · exact .wr (.wr (.setSup (.refl ..)))
  · exact .wr (.wr (.setSup (.refl ..)))
  · exact .wr (.wr (.setSup (.refl ..)))
  · exact .wr (.wr (.setSup (.refl ..)))
  · exact .wr (.wr (.setSup (.refl ..)))

theorem State.measIfDue_keeps (s : State) : Keeps [.supply, .log, .health, .ftl] [Reg.HUP_STATUS.MEAS_BUSY, Reg.FRM_CEILING.CEIL_MIB,
    Reg.FRM_CEILING.SOURCE, Reg.FRM_JPB.MODEL] s (s.measIfDue) :=
  .ite (.mono (State.measBleed_keeps ..)) (.refl ..)

/-! ### The trigger moment of a drain (R79, R80, R103, R239, R559) -/

theorem State.brownSignal_keeps (s : State) (overs : Bool) : Keeps [.fans, .supply, .keys, .group] [Reg.HUP_STATUS.OV_EVENT,
    Reg.FAN_F.STATE, Reg.FAN_F.DUTY, Reg.CHN_ENG_STATUS.BO_MODE, Reg.HUP_STATUS.VIN_OK] s (s.brownSignal overs) :=
  .with_sup_sec_group (.ite_on (.wr (.refl ..)) (.refl ..) (.wr (.andThen (.mono (State.fansOff_keeps ..)) (State.boMode_keeps ..))))

theorem State.coldTrigger_keeps (s : State) (k : DrainKind) : Keeps [.health, .supply, .fans, .keys, .group, .reconcile, .endpoint,
    .microcode, .bootStore, .engine, .ftl, .log, .tags, .decodes, .contexts, .flash, .scheduler, .power, .buses, .subchannels, .dram]
    [Reg.HUP_STATUS.OV_EVENT, Reg.FAN_F.STATE, Reg.FAN_F.DUTY, Reg.CHN_ENG_STATUS.BO_MODE, Reg.HUP_STATUS.VIN_OK, Reg.THI_OPS.COUNT,
    Reg.THI_CNT.MULTI_HITS, Reg.GLI_STATUS.STATE, Reg.SEC_STATUS.LOADED, Reg.SEC_STATUS.TK_SET, Reg.SEC_STATUS.GROUP_KEY,
    Reg.SEC_STATUS.SWEEPING, Reg.SEC_STATUS.MC_BANKS, Reg.THI_TABLE.COUNT, Reg.THI_TABLE.FIRST, Reg.THI_STATUS.FREE_UNITS,
    Reg.THI_STATUS.COMPACTING, Reg.HUP_STATUS.MEAS_BUSY, Reg.HUP_STATUS.BLEED_ON, Reg.HUP_STATUS.CHARGING, Reg.FRM_STATUS.MODE,
    Reg.PWR_STATUS.PHASE, Reg.PWR_AVS.REQ_MV, Reg.PWR_AVS.BUSY, Reg.DRC_SC.STATE, Reg.DRC_STATUS.TRN_BUSY] s (s.coldTrigger k) :=
  .ite_on (.andThen (.with_sup (.count (.refl ..))) (State.brownSignal_keeps ..)) (.refl ..) (.andThen (.with_sched (.wr (.wr (.andThen
      (.andThen (.andThen (.setSup (.refl ..)) (State.trigger_keeps ..)) (State.cutJournal_keeps ..)) (State.measAbort_keeps ..)))))
      (State.powerDrain_keeps ..))

/-! ### The drain (R365) -/

theorem State.drain_keeps (s : State) : Keeps [.flash, .ftl] [] s (s.drain) := by
  unfold State.drain
  dsimp only
  exact .foldl (.foldl (.with_ftl (.mono (State.layDown_keeps ..))) fun _ _ => (by
      split
      · exact .record (.refl ..)
      · exact .refl ..)) fun _ _ => .record (.refl ..)

theorem State.settle_keeps (s : State) : Keeps [.ftl] [] s (s.settle) :=
  .with_ftl (.refl ..)

theorem State.interrupt_keeps (s : State) : Keeps [.flash] [] s (s.interrupt) :=
  .foldl (.refl ..) fun _ _ => .foldl (.refl ..) fun _ _ => .ite (.foldl (.refl ..) fun _ _ => .setPage (.refl ..)) (.ite (.foldl (.refl
      ..) fun _ _ => .setBlk (.refl ..)) (.refl ..))

/-! ### Resets of a function (R44, R101, R102, R212) -/

theorem State.resetSeen_keeps (s : State) (f : Nat) (c : Cause) : Keeps [] [Reg.BRU_RESET_CAUSE.WARM_SEEN, Reg.BRU_RESET_CAUSE.HOT_SEEN,
    Reg.BRU_RESET_CAUSE.FLR0_SEEN, Reg.BRU_RESET_CAUSE.FLR1_SEEN] s (s.resetSeen f c) := by
  unfold State.resetSeen
  split
  · exact .wr (.refl ..)
  · exact .wr (.refl ..)
  · exact .ite (.wr (.refl ..)) (.wr (.refl ..))
  · exact .refl ..

theorem State.resetTags_keeps (s : State) (f : Nat) (c : Cause) : Keeps [.tags] [] s (s.resetTags f c) :=
  .ite (.with_tags (.refl ..)) (.with_tags (.refl ..))

/-! ### Reads (R11, R13, R15, R592) -/

theorem State.readWordHeld_keeps (s : State) (f off : Nat) : Keeps [.pairWords] [] s (s.readWord_ f off).2 := by
  unfold State.readWord_
  split
  · exact .with_pairHigh (.refl ..)
  · split
    · split
      · exact .with_pairHigh (.refl ..)
      · exact .refl ..
    · exact .refl ..

end Sys2Proof.Machine
end

section
/-! PROOFS. Operations that are steady although they rewrite a table whole, write a field given by a parameter, or answer one of two results. -/

set_option Elab.async false

namespace Sys2Proof.Machine

section
variable (s : State)

theorem State.stripeLeaves_keeps (p : PStripe) (gone : List Nat) : Keeps [.log, .group, .buses, .ftl, .engine, .lostStripes, .health,
    .endpoint, .rings, .vectors] [Reg.GLI_STRIPE_CNT.OPEN, Reg.GLI_STRIPE_CNT.DEGRADED, Reg.GLI_STRIPE_LOST.COUNT, Reg.THI_OPS.COUNT,
    Reg.THI_TABLE.COUNT, Reg.THI_TABLE.FIRST, Reg.THI_STATUS.FREE_UNITS, Reg.THI_STATUS.COMPACTING, Reg.HIF_ASYNC.PEND] s
    (s.stripeLeaves p gone) := by
  unfold State.stripeLeaves
  dsimp only
  split
  · exact .refl ..
  split
  · exact .ite (.mono (s.loseStripe_keeps ..)) (.restoreLost (.mono (s.loseStripe_keeps ..)))
  generalize (match s.slotOfMember p s.own with | some m => _ | none => _) = q
  exact .ite_on (.mono (State.rePlace_keeps ..)) (.ite (.mono (State.replaceGrans_keeps ..)) (.refl ..)) (.mono (s.stripeGo_keeps ..))

/-! ### Register writes (R12 to R15) -/

theorem State.writePair_steady (r : Fld) (i f data : Nat) (high : Bool) : Steady s (s.writePair r i f data high) := by
  unfold State.writePair
  split
  · exact .wr (.with_pairLow (.refl s) _) ..
  · exact .with_pairLow (.refl s) _

theorem State.writeField_steady (f data : Nat) (locked : Bool) (a : State × Bool) (e : Fld × Nat × Bool) :
    Steady a.1 (State.writeField f data locked a e).1 := by
  have hkept (r : Fld) (i g v : Nat) (high : Bool) (c d : Prop) [Decidable c] [Decidable d] (b : Bool) :
      Steady a.1 (if c then a else if 32 < r.w then (a.1.writePair r i g data high, a.2) else if d then (a.1.wr r v i g, a.2)
        else (a.1, b)).1 := by
    split
    · exact .refl _
    split
    · exact a.1.writePair_steady ..
    split
    · exact .wr (.refl _) ..
    · exact .refl _
  unfold State.writeField
  dsimp only
  split
  · exact .refl _
  · exact .refl _
  · exact .refl _
  · exact .wr (.refl _) ..
  · exact hkept ..
  · exact hkept ..

theorem State.writeStaged_steady (f off data : Nat) : Steady s (s.writeStaged f off data) := by
  unfold State.writeStaged
  dsimp only
  have k : Steady s ((((fieldsAt off).foldl (State.writeField f data false) (s, false)).1).wr Reg.WIN_ENT_CTRL.PENDING 1
      ((off - 0x110000) / 16)) := .wr (.foldl_fst (.refl s) (State.writeField_steady f data false)) ..
  exact .ite (.ite (k.regEvent ..) k) (.refl s)

theorem State.writeLock_steady (data : Nat) (e : Fld × Nat × Bool) : Steady s (State.writeLock data s e) := by
  unfold State.writeLock
  split
  · exact .ite (.refl s) (.wr (.refl s) ..)
  · exact .refl s

theorem State.lockAll_steady : Steady s s.lockAll :=
  .wr (.fold (.refl s) (fun _ _ => .fold (.refl _) (fun _ _ => .wr (.refl _) ..) _) _) ..

/-! ### Function resets (R105) -/

theorem State.resetRegs_steady (f : Nat) (c : Cause) : Steady s (s.resetRegs f c) :=
  { Steady.refl s with regs := Tbl.wf_filter 0 _ }

theorem Steady.with_rings_msix_wins {s t : State} (h : Steady s t) (x : Tbl Ring) (y : Tbl Msix) (z : Tbl Win) :
    Steady s { t with rings := x, msix := y, wins := z } := h.update

theorem State.resetFn_steady (f : Nat) (c : Cause) : Steady s (s.resetFn f c) := by
  refine .trans ?_ (State.refreshTarget_keeps _).steady
  refine .trans ?_ (State.resetSeen_keeps ..).steady
  refine .trans ?_ (State.resetRegs_steady ..)
  exact .with_rings_msix_wins (.setEp (.trans (s.trigger_keeps [f] c).steady (State.resetTags_keeps ..).steady) _ _) ..

/-! ### The boot steps -/

theorem State.bootSlot_steady (i failCount : Nat) : Steady s (s.bootSlot i failCount) :=
  .wr (.trans (.update (.refl s)) (State.bstRefresh_keeps _).steady) ..

theorem State.thiCreate_steady : Steady s s.thiCreate := by
  have k : Steady s { s with thi := [] } := { Steady.refl s with entries := fun _ => rfl }
  exact .wr (.wr (.fold k (fun _ _ => .wr (.wr (.wr (.wr (.refl _) ..) ..) ..) ..) _) ..) ..

/-! ### Packets that enter a context (R156, R158) -/

theorem State.reserve_steady {slba nblk : Nat} {l : List (Nat × Nat × Nat)} {t : State} (e : s.reserve slba nblk = some (l, t)) :
    Steady s t := by
  unfold State.reserve at e
  dsimp only at e
  split at e
  · have k : Steady s ((s.slotsOf slba nblk |>.filter fun k => s.keySpent k slba nblk).foldl State.rollSlot s) :=
      .foldl (fun u k => (u.rollSlot_keeps k).steady) _ _
    generalize List.foldl State.rollSlot s _ = u at k e
    have hf (l : List Nat) (a : List (Nat × Nat × Nat) × State) (h : Steady s a.2) :
        Steady s (l.foldl (fun acc i => (acc.1 ++ [(acc.2.reserve1 (slba + i)).1], (acc.2.reserve1 (slba + i)).2)) a).2 := by
      induction l generalizing a with
      | nil => exact h
      | cons i l ih => exact ih _ (h.trans (a.2.reserve1_keeps _).steady)
    exact .out_snd (Option.some.inj e) (hf _ _ k)
  · cases e

theorem State.reserveParts_steady {l : List (Nat × Nat)} {acc r : List (Nat × Nat × Nat)} {t : State}
    (e : s.reserveParts l acc = some (r, t)) : Steady s t := by
  induction l generalizing s acc with
  | nil => cases e; exact .refl _
  | cons p l ih =>
    unfold State.reserveParts at e
    split at e
    · next hp => exact (s.reserve_steady hp).trans (ih _ e)
    · cases e

theorem State.checks_steady {f n : Nat} {p : Packet} {r : List (Nat × Nat × Nat)} {t : State} (e : s.checks f n p = .inr (r, t)) :
    Steady s t := by
  unfold State.checks at e
  split at e
  · cases e
  split at e
  · split at e
    · next h => cases e; exact s.reserveParts_steady h
    · cases e
  · cases e

theorem State.enter_steady (f n : Nat) (p : Packet) : Steady s (s.enter f n p) := by
  unfold State.enter
  dsimp only
  have k : Steady s (({ s with nextOrder := s.nextOrder + 1 } : State).setRing f n { s.ring f n with
      sqHead := if (s.ring f n).sqHead + 1 = (s.ring f n).sqSize then 0 else (s.ring f n).sqHead + 1
      inflight := (s.ring f n).inflight + 1 }) := .setRing (.update (.refl s)) _ _ _
  split
  · exact k.setCtx _ _
  · next e =>
    have h := k.trans (State.checks_steady _ e)
    exact .ite (.setCtx (h.trans (State.assignOsn_keeps _).steady) _ _) (h.setCtx _ _)

end

end Sys2Proof.Machine
end

section
/-! PROOFS. What the other operations may change, and that the commands are steady. -/

set_option Elab.async false

namespace Sys2Proof.Machine

/-! ### The bank (R67, R68, R77) -/

theorem State.refreshBank_keeps (s : State) : Keeps [] [Reg.HUP_STATUS.WRITE_THR, Reg.HUP_ENERGY.EUSE, Reg.HUP_ENERGY.VBANK,
    Reg.BRU_STAGE.WRITE_UP] s (s.refreshBank) :=
  .wr (.wr (.wr (.wr (.refl ..))))

/-! ### Granules (R432, R433) -/

theorem State.claim_keeps (s : State) (n lo hi : Nat) : Keeps [.subchannels] [Reg.DRC_SC.GRANULES] s (s.claim n lo hi) :=
  .bump (.setSc (.refl ..))

theorem State.sweep_keeps (s : State) (n : Nat) : Keeps [.subchannels] [Reg.DRC_SC.STATE, Reg.BRU_STAGE.DRAM_READY, Reg.DRC_SC.GRANULES] s
    (s.sweep n) :=
  .ite (.ite_on (.wr (.wr (.refl ..))) (.refl ..) (.bump (.setSc (.refl ..)))) (.refl ..)

/-! ### Training (R446 to R449) -/

theorem State.dramDiode_keeps (s : State) (n : Nat) (t : Int) : Keeps [.dram, .subchannels] [] s (s.dramDiode n t) :=
  .ite_on (.mono (State.marginTrigger_keeps ..)) (.refl ..) (.setSc (.refl ..))

theorem State.tag__keeps (s : State) (n : Nat) : Keeps [] [Reg.DRC_SC.TAG_TEMP, Reg.DRC_SC.TAG_MV] s (s.tag_ n) :=
  .wr (.wr (.refl ..))

theorem State.trainFrom_keeps (s : State) (n rate : Nat) : Keeps [.subchannels] [] s (s.trainFrom n rate) :=
  .setSc (.refl ..)

theorem State.trainFail_keeps (s : State) (n : Nat) : Keeps [.health, .dram, .log, .endpoint, .rings, .vectors, .buses, .subchannels]
    [Reg.DRC_STATUS.TRN_BUSY, Reg.DRC_SC.STATE, Reg.DRC_STATUS.FAILED, Reg.DRC_STATUS.IN_SERVICE, Reg.HIF_ASYNC.PEND] s (s.trainFail n) :=
  .ite_on (.mono (State.scFail_keeps ..)) (.mono (State.trainFrom_keeps ..)) (.event (.refl ..))

theorem State.dramStep_keeps (s : State) (n : Nat) (bad : Bool) : Keeps [.subchannels, .health, .dram, .log, .endpoint, .rings, .vectors,
    .buses] [Reg.DRC_STATUS.TRN_BUSY, Reg.DRC_SC.STATE, Reg.DRC_STATUS.FAILED, Reg.DRC_STATUS.IN_SERVICE, Reg.HIF_ASYNC.PEND,
    Reg.DRC_SC.TAG_TEMP, Reg.DRC_SC.TAG_MV] s (s.dramStep n bad) :=
  .ite (.ite (.ite (.andThen (.setSc (.refl ..)) (State.trainFail_keeps ..)) (.setSc (.refl ..))) (.refl ..)) (.ite (.ite_on (.refl ..)
      (.ite (.event (.andThen (.wr (.refl ..)) (State.trainFrom_keeps ..))) (.wr (.andThen (.wr (.refl ..)) (State.tag__keeps ..))))
      (.setSc (.refl ..))) (.refl ..))

theorem State.dramFrame_keeps (s : State) (bad sweeps : List Nat) : Keeps [.subchannels, .health, .dram, .log, .endpoint, .rings, .vectors,
    .buses] [Reg.DRC_STATUS.TRN_BUSY, Reg.DRC_SC.STATE, Reg.DRC_STATUS.FAILED, Reg.DRC_STATUS.IN_SERVICE, Reg.HIF_ASYNC.PEND,
    Reg.DRC_SC.TAG_TEMP, Reg.DRC_SC.TAG_MV, Reg.BRU_STAGE.DRAM_READY, Reg.DRC_SC.GRANULES] s (s.dramFrame bad sweeps) :=
  .foldl (.foldl (.foldl (.refl ..) fun _ _ => .mono (State.dramStep_keeps ..)) fun _ _ => .ite (.refl ..) (.setSc (.refl ..))) fun _ _ =>
      .ite (.mono (State.sweep_keeps ..)) (.refl ..)

theorem State.dramSelfRefresh_keeps (s : State) : Keeps [.subchannels, .dram] [Reg.DRC_SC.STATE, Reg.DRC_STATUS.TRN_BUSY,
    Reg.DRC_STATUS.SELF_REFRESH] s (s.dramSelfRefresh) :=
  .foldl (.wr (.mono (State.dramAbandon_keeps ..))) fun _ _ => .ite (.setSc (.wr (.refl ..))) (.refl ..)

theorem State.dramWake_keeps (s : State) : Keeps [] [Reg.DRC_STATUS.SELF_REFRESH, Reg.DRC_SC.STATE, Reg.DRC_SC.TAG_TEMP, Reg.DRC_SC.TAG_MV]
    s (s.dramWake) :=
  .foldl (.wr (.refl ..)) fun _ _ => .ite (.andThen (.wr (.refl ..)) (State.tag__keeps ..)) (.refl ..)

theorem State.dramStart_keeps (s : State) : Keeps [.subchannels] [Reg.DRC_SC.STATE, Reg.MEM_REMAP.LINE, Reg.MEM_REMAP.VALID,
    Reg.MEM_REMAP.POISON, Reg.MEM_SC.REMAP_USED] s (s.dramStart) := by
  unfold State.dramStart
  dsimp only
  exact .foldl (.foldl (.refl ..) fun _ _ => .ite (.andThen (.wr (.setSc (.refl ..))) (State.trainFrom_keeps ..)) (.refl ..)) fun _ _ => (by
      split
      · exact .bump (.wr (.wr (.wr (.refl ..))))
      · exact .refl ..)

/-! ### The DRAM controller: the rows -/

theorem execDramTrainingAdopted_steady (sc : Fin 8) (s : State) : Yields (Steady s) (execDramTrainingAdopted sc s) := by
  unfold execDramTrainingAdopted
  dsimp only
  exact .ite (fun _ => .ite (fun _ => .next (.wr (.wr (.event (.bump (.trans (.wr (.setSc (.refl ..) ..) ..) (State.tag__keeps ..).steady)
      ..) ..) ..) ..)) fun _ => .ite (fun _ => (by
      split
      · exact .next (.trans (.trans (.with_dram (.ite_on ((State.claim_keeps ..).steady) ((State.claim_keeps ..).steady) ((by
          split
          · exact .wr (.wr (.with_dram (.wr (.wr (.event (.bump (.trans (.wr (.setSc (.refl ..) ..) ..) (State.tag__keeps ..).steady) ..)
              ..) ..) ..) ..) ..) ..
          · exact .with_dram (.wr (.wr (.event (.bump (.trans (.wr (.setSc (.refl ..) ..) ..) (State.tag__keeps ..).steady) ..) ..) ..) ..)
              ..))) ..) (State.claim_keeps ..).steady) (State.claim_keeps ..).steady)
      · exact .next (.ite_on ((State.claim_keeps ..).steady) ((State.claim_keeps ..).steady) ((by
          split
          · exact .wr (.wr (.with_dram (.wr (.wr (.event (.bump (.trans (.wr (.setSc (.refl ..) ..) ..) (State.tag__keeps ..).steady) ..)
              ..) ..) ..) ..) ..) ..
          · exact .with_dram (.wr (.wr (.event (.bump (.trans (.wr (.setSc (.refl ..) ..) ..) (State.tag__keeps ..).steady) ..) ..) ..) ..)
              ..))))) fun _ => .next (.ite_on ((State.claim_keeps ..).steady) ((State.claim_keeps ..).steady) ((by
      split
      · exact .wr (.wr (.with_dram (.wr (.wr (.event (.bump (.trans (.wr (.setSc (.refl ..) ..) ..) (State.tag__keeps ..).steady) ..) ..)
          ..) ..) ..) ..) ..
      · exact .with_dram (.wr (.wr (.event (.bump (.trans (.wr (.setSc (.refl ..) ..) ..) (State.tag__keeps ..).steady) ..) ..) ..) ..)
          ..)))) fun _ => .next (.refl ..)

theorem execMarginCheckStart_steady (s : State) : Yields (Steady s) (execMarginCheckStart s) := by
  unfold execMarginCheckStart
  dsimp only
  split
  · exact .ite (fun _ => .next (.event (.setSc (.wr (.wr (.wr (.with_dram (.refl ..) ..) ..) ..) ..) ..) ..)) fun _ => .next (.refl ..)
  · exact .next (.refl ..)

theorem execDramRefresh_steady (sc : Fin 8) (s : State) : Yields (Steady s) (execDramRefresh sc s) :=
  .ite (fun _ => .next (.setSc (.refl ..) ..)) fun _ => .next (.refl ..)

theorem execRowIdleClose_steady (sc : Fin 8) (bank : Fin 64) (s : State) : Yields (Steady s) (execRowIdleClose sc bank s) :=
  .next (.setSc (.refl ..) ..)

theorem execRequestAgePromotion_steady (sc : Fin 8) (line : Nat) (cls : Fin 4) (waited : Nat) (s : State) : Yields (Steady s)
    (execRequestAgePromotion sc line cls waited s) :=
  .ite (fun _ => .next (.setSc (.refl ..) ..)) fun _ => .next (.refl ..)

theorem execDramLineRead_steady (sc : Fin 8) (line : Nat) (errs : List (Nat × Nat × Nat)) (s : State) : Yields (Steady s) (execDramLineRead
    sc line errs s) :=
  .ite (fun _ => .next (.emit (.trans (.setSc (.refl ..) ..) (State.readLine_keeps ..).steady) ..)) fun _ => .next (.refl ..)

theorem execPartialLineWrite_steady (sc : Fin 8) (line : Nat) (mask : BitVec 64) (data : BitVec 512) (errs : List (Nat × Nat × Nat)) (s :
    State) : Yields (Steady s) (execPartialLineWrite sc line mask data errs s) := by
  unfold execPartialLineWrite
  dsimp only
  exact .ite (fun _ => .next (.refl ..)) fun _ => .ite (fun _ => .next (.setSc (.refl ..) ..)) fun _ => .ite (fun _ => .next (.setPoison
      (.setSc ((State.touch_keeps ..).steady) ..) ..)) fun _ => (by
      split
      · exact .next (.setSc (.refl ..) ..)
      · exact .ite (fun _ => .next (.refl ..)) fun _ => (by split <;> exact .next (.setSc ((State.readLine_keeps ..).steady) ..)))

theorem execScrubRewrite_steady (sc : Fin 8) (s : State) : Yields (Steady s) (execScrubRewrite sc s) := by
  unfold execScrubRewrite
  dsimp only
  split
  · exact .ite (fun _ => .next (.setSc (.refl ..) ..)) fun _ => .next (.refl ..)
  · exact .next (.refl ..)

/-! ### The buffer pool -/

theorem State.freeFault_keeps (s : State) (b gen : Nat) (double : Bool) : Keeps [.log, .buses] [Reg.BPM_EVT.DOUBLE_FREE, Reg.BPM_EVT.STALE,
    Reg.BPM_CNT.FREE_FAULTS] s (s.freeFault b gen double) :=
  .emit (.event (.bump (.ite (.wr (.refl ..)) (.wr (.refl ..)))))

theorem State.parityError_keeps (s : State) (b line : Nat) : Keeps [.log, .buses] [Reg.BPM_EVT.FREE_ACCESS, Reg.BPM_EVT.PARITY,
    Reg.BPM_CNT.PARITY] s (s.parityError b line) :=
  .ite (.emit (.event (.wr (.refl ..)))) (.ite (.event (.bump (.wr (.refl ..)))) (.refl ..))

theorem State.policyFrame_keeps (s : State) : Keeps [.pool, .log, .buses] [Reg.BPM_STATUS.FREE, Reg.BPM_STATUS.SHARED_FREE,
    Reg.BPM_STATUS.BACKPRESSURE, Reg.BPM_STATUS.CRITICAL, Reg.BPM_OWN.USED, Reg.BPM_OWN.PEAK, Reg.BPM_OWN.WAITING] s (s.policyFrame) :=
  .ite (.refl ..) (.andThen (.andThen (.with_pool (.refl ..)) (State.backpressure_keeps ..)) (State.serveQueue_keeps ..))

/-! ### The buffer pool: the rows -/

theorem execBufferAllocate_steady (owner : Fin 8) (n : Nat) (s : State) : Yields (Steady s) (execBufferAllocate owner n s) :=
  .ite (fun _ => .next (.refl ..)) fun _ => .ite (fun _ => .next (.emit (.event (.wr (.refl ..) ..) ..) ..)) fun _ => .ite (fun _ => .next
      (.emit (.event (.wr (.refl ..) ..) ..) ..)) fun _ => .ite (fun _ => .next ((State.grant_keeps ..).steady)) fun _ => .next (.wr
      (.with_pool (.refl ..) ..) ..)

theorem execBufferShare_steady (handle : BitVec 18) (n : Fin 63) (s : State) : Yields (Steady s) (execBufferShare handle n s) :=
  .ite (fun _ => .next ((State.freeFault_keeps ..).steady)) fun _ => .ite (fun _ => .next ((State.freeFault_keeps ..).steady)) fun _ =>
      .ite (fun _ => .next (.event (.wr (.refl ..) ..) ..)) fun _ => .next (.setBuf (.refl ..) ..)

theorem execBufferRelease_steady (handle : BitVec 18) (s : State) : Yields (Steady s) (execBufferRelease handle s) :=
  .ite (fun _ => .next ((State.freeFault_keeps ..).steady)) fun _ => .ite (fun _ => .next ((State.freeFault_keeps ..).steady)) fun _ =>
      .ite (fun _ => .next (.trans (.backpressure (.wr (.setBuf (.refl ..) ..) ..) ..) (State.serveQueue_keeps ..).steady)) fun _ => .next
      (.setBuf (.refl ..) ..)

/-! ### The Thitralen associative engine -/

theorem State.thiInsertOrdered_keeps (s : State) (t : Nat) (e : ThiEnt) (before : Option Nat) : Keeps [.engine, .log] [Reg.THI_OPS.COUNT,
    Reg.THI_TABLE.COUNT, Reg.THI_TABLE.FIRST, Reg.THI_STATUS.FREE_UNITS, Reg.THI_STATUS.COMPACTING, Reg.THI_CNT.NO_ROOM] s
    (s.thiInsertOrdered t e before).2 := by
  unfold State.thiInsertOrdered
  dsimp only
  split
  · exact .mono (State.thiOps_keeps ..)
  · split
    · exact .andThen (.setThi (.mono (State.thiOps_keeps ..))) (State.thiRefresh_keeps ..)
    · split
      · exact .andThen (.mono (State.thiOps_keeps ..)) (State.thiRefuse_keeps ..)
      · split
        · exact .andThen (.andThen (.mono (State.thiOps_keeps ..)) (State.thiRefuse_keeps ..)) (State.thiRefresh_keeps ..)
        · exact .andThen (.setThi (.andThen (.mono (State.thiOps_keeps ..)) (State.thiShift_keeps ..))) (State.thiRefresh_keeps ..)

theorem State.thiWriteData_keeps (s : State) (t i data mask : Nat) : Keeps [.engine] [Reg.THI_OPS.COUNT] s (s.thiWriteData t i data mask).2
    := by
  unfold State.thiWriteData
  dsimp only
  split
  · exact .setThi (.mono (State.thiOps_keeps ..))
  · exact .mono (State.thiOps_keeps ..)

theorem State.thiCapture_keeps (s : State) (u : Nat) : Keeps [] [Reg.THI_OPS.COUNT, Reg.THI_RD_ADDR.UNIT, Reg.THI_RD_DATA.KEY,
    Reg.THI_RD_DATA.KEY2, Reg.THI_RD_DATA.VALID, Reg.THI_RD_DATA.WIDTH, Reg.THI_RD_DATA.TABLE, Reg.THI_RD_DATA.PRIO, Reg.THI_RD_DATA.ENTRY,
    Reg.THI_RD_DATA.DATA] s (s.thiCapture u) :=
  .wr (.wr (.wr (.wr (.wr (.wr (.wr (.wr (.wr (.wr (.wr (.mono (State.thiOps_keeps ..))))))))))))

/-! ### The span table and the range table (R479, R480) -/

theorem State.thiRangeInsert_keeps (s : State) (first count osn entry : Nat) (zeroes : Bool) : Keeps [.engine, .log] [Reg.THI_OPS.COUNT,
    Reg.THI_TABLE.COUNT, Reg.THI_TABLE.FIRST, Reg.THI_STATUS.FREE_UNITS, Reg.THI_STATUS.COMPACTING, Reg.THI_CNT.NO_ROOM] s
    (s.thiRangeInsert first count osn entry zeroes) :=
  .foldl (.refl ..) fun _ _ => .mono (State.thiInsertOrdered_keeps ..)

theorem State.thiRangeCommit_keeps (s : State) (entry : Nat) : Keeps [.engine] [Reg.THI_OPS.COUNT] s (s.thiRangeCommit entry) :=
  .foldl (.refl ..) fun _ _ => .mono (State.thiWriteData_keeps ..)

/-! ### The Thitralen associative engine: the rows -/

theorem execThiSearch_steady (table : Fin 8) (key : BitVec 160) (mask : BitVec 80) (start : Fin 32768) (s : State) : Yields (Steady s)
    (execThiSearch table key mask start s) :=
  thiAnswer_steady (.thiSearch (.refl ..) ..)

theorem execSearchAdd_steady (table : Fin 8) (key : BitVec 160) (mask : BitVec 80) (start : Fin 32768) (field : Fin 4) (delta : Int) (s :
    State) : Yields (Steady s) (execSearchAdd table key mask start field delta s) :=
  thiAnswer_steady (.thiSearchAdd (.refl ..) ..)

theorem execInsertAny_steady (table : Fin 8) (key care : BitVec 160) (prio : Fin 16) (data : BitVec 64) (unique : Bool) (field : Fin 4)
    (add : Int) (s : State) : Yields (Steady s) (execInsertAny table key care prio data unique field add s) :=
  thiAnswer_steady (.thiInsertAny (.refl ..) ..)

theorem execInsertOrdered_steady (table : Fin 8) (key care : BitVec 160) (prio : Fin 16) (data : BitVec 64) (before : Option (Fin 32768))
    (s : State) : Yields (Steady s) (execInsertOrdered table key care prio data before s) :=
  thiAnswer_steady ((State.thiInsertOrdered_keeps ..).steady)

theorem execThiDelete_steady (table : Fin 8) (index : Fin 32768) (s : State) : Yields (Steady s) (execThiDelete table index s) :=
  thiAnswer_steady (.thiDelete (.refl ..) ..)

theorem execDeleteMatch_steady (table : Fin 8) (key : BitVec 160) (mask : BitVec 80) (s : State) : Yields (Steady s) (execDeleteMatch table
    key mask s) :=
  thiAnswer_steady (.thiDeleteMatch (.refl ..) ..)

theorem execWriteData_steady (table : Fin 8) (index : Fin 32768) (data mask : BitVec 64) (s : State) : Yields (Steady s) (execWriteData
    table index data mask s) :=
  thiAnswer_steady (.thiWriteData (.refl ..) ..)

theorem execThiRead_steady (index : Fin 32768) (s : State) : Yields (Steady s) (execThiRead index s) :=
  thiAnswer_steady (.thiOps (.refl ..) ..)

theorem execCompactionStep_steady (table : Fin 8) (s : State) : Yields (Steady s) (execCompactionStep table s) :=
  .ite (fun _ => .next (.thiCompact (.refl ..) ..)) fun _ => .next (.refl ..)

/-! ### Sealing and opening (R500, R505) -/

theorem State.authFail_keeps (s : State) (lba : Nat) : Keeps [.log] [Reg.SEC_CNT.AUTH_FAIL] s (s.authFail lba) :=
  .event (.bump (.refl ..))

/-! ### The boot store (R513 to R516) -/

theorem State.setFw_keeps (s : State) (i : Nat) (x : FwSlot) : Keeps [.bootStore] [Reg.BST_STATUS.ACTIVE, Reg.BST_STATUS.FUSED_SV,
    Reg.BST_STATUS.FAIL_COUNT, Reg.BST_STATUS.WRITING, Reg.BST_STATUS.ACTIVATING, Reg.BST_SLOT.STATE, Reg.BST_SLOT.CHECK, Reg.BST_SLOT.SV,
    Reg.BST_SLOT.WRITTEN, Reg.BST_SLOT.VERSION] s (s.setFw i x) :=
  .andThen (.with_bst (.refl ..)) (State.bstRefresh_keeps ..)

theorem State.storeStart_keeps (s : State) (o : StoreOp) : Keeps [.bootStore] [Reg.BST_STATUS.WRITING] s (s.storeStart o) :=
  .wr (.with_bst (.refl ..))

theorem State.storeFrame_keeps (s : State) : Keeps [.dram, .bootStore] [Reg.BST_STATUS.WRITING] s (s.storeFrame) :=
  .ite (.andThen (.with_dram (.refl ..)) (State.storeStart_keeps ..)) (.refl ..)

theorem State.fwProgram_keeps (s : State) (i off : Nat) (data : List Block) : Keeps [.bootStore] [Reg.BST_STATUS.ACTIVE,
    Reg.BST_STATUS.FUSED_SV, Reg.BST_STATUS.FAIL_COUNT, Reg.BST_STATUS.WRITING, Reg.BST_STATUS.ACTIVATING, Reg.BST_SLOT.STATE,
    Reg.BST_SLOT.CHECK, Reg.BST_SLOT.SV, Reg.BST_SLOT.WRITTEN, Reg.BST_SLOT.VERSION] s (s.fwProgram i off data) :=
  .andThen (.mono (State.setFw_keeps ..)) (State.storeStart_keeps ..)

/-! ### The rows of the boot store -/

theorem execBootStoreWriteDone_steady (s : State) : Yields (Steady s) (execBootStoreWriteDone s) := by
  unfold execBootStoreWriteDone
  dsimp only
  split
  · exact .next (.refl ..)
  · split
    · exact .next (.with_dram (.wr (.update (.refl ..)) ..) ..)
    · exact .next (.wr (.update (.refl ..)) ..)

/-! ### Domains (R240, R542, R550) -/

theorem State.setDom_keeps (s : State) (d v : Nat) : Keeps [] [Reg.PWR_DOM_STATE.ALL] s (s.setDom d v) :=
  .wr (.refl ..)

theorem State.domWork_keeps (s : State) (d : Nat) : Keeps [.power] [Reg.PWR_DOM_STATE.ALL] s (s.domWork d) :=
  .ite_on (.mono (State.setDom_keeps ..)) (.refl ..) (.setPwr (.refl ..))

theorem State.applyHolds_keeps (s : State) (st : Nat) : Keeps [] [Reg.PWR_DOM_STATE.ALL] s (s.applyHolds st) :=
  .foldl (.refl ..) fun _ _ => .ite (.mono (State.setDom_keeps ..)) (.ite (.mono (State.setDom_keeps ..)) (.refl ..))

/-! ### Wakes, exits and abandonment (R534 to R538, R549) -/

theorem State.abandon_keeps (s : State) (at_ cause domain : Nat) : Keeps [.log, .power, .buses] [Reg.PWR_STATUS.REFUSED,
    Reg.PWR_STATUS.DOMAIN, Reg.PWR_STATUS.ABORT_AT, Reg.PWR_CNT.ABANDONED, Reg.PWR_STATUS.PHASE, Reg.PWR_AVS.REQ_MV, Reg.PWR_AVS.BUSY] s
    (s.abandon at_ cause domain) :=
  .andThen (.setPwr (.event (.ite_on (.wr (.wr (.refl ..))) (.ite (.wr (.refl ..)) (.refl ..)) (.bump (.wr (.refl ..))))))
      (State.startExit_keeps ..)

theorem State.sendLtr_keeps (s : State) : Keeps [.buses] [] s (s.sendLtr) :=
  .foldl (.refl ..) fun _ _ => .ite (.emit (.refl ..)) (.refl ..)

theorem State.reached_keeps (s : State) (st old : Nat) : Keeps [.log, .endpoint, .rings, .vectors, .buses] [Reg.PWR_STATUS.STATE,
    Reg.HIF_ASYNC.PEND] s (s.reached st old) :=
  .andThen (.andThen (.event (.wr (.refl ..))) (State.asyncAll_keeps ..)) (State.sendLtr_keeps ..)

/-! ### The rows of entry -/

theorem execIdleDetected_steady (s : State) : Yields (Steady s) (execIdleDetected s) :=
  .ite (fun _ => .next ((State.startEntry_keeps ..).steady)) fun _ => .next (.refl ..)

theorem execPrepareEnd_steady (s : State) : Yields (Steady s) (execPrepareEnd s) :=
  .ite (fun _ => .ite (fun _ => .next ((State.abandon_keeps ..).steady)) fun _ => .ite (fun _ => .next (.setPwr (.wr (.refl ..) ..) ..))
      fun _ => .next (.refl ..)) fun _ => .next (.refl ..)

theorem execDomainAnswer_steady (domain : Fin 160) (s : State) : Yields (Steady s) (execDomainAnswer domain s) :=
  .ite (fun _ => .ite (fun _ => .next (.trans (.setPwr (.refl ..) ..) (State.abandon_keeps ..).steady)) fun _ => .ite (fun _ => .ite (fun _
      => .next (.trans (.setPwr (.refl ..) ..) (State.abandon_keeps ..).steady)) fun _ => .next (.wr (.setPwr (.refl ..) ..) ..)) fun _ =>
      .next (.setPwr (.refl ..) ..)) fun _ => .next (.refl ..)

theorem execAskTimeout_steady (s : State) : Yields (Steady s) (execAskTimeout s) := by
  unfold execAskTimeout
  exact .ite (fun _ => (by
      split
      · exact .next ((State.abandon_keeps ..).steady)
      · exact .next (.refl ..))) fun _ => .next (.refl ..)

theorem execQuiesceEnd_steady (s : State) : Yields (Steady s) (execQuiesceEnd s) :=
  .ite (fun _ => .ite (fun _ => .next ((State.abandon_keeps ..).steady)) fun _ => .next (.railsTo (.wr (.ite_on
      ((State.dramSelfRefresh_keeps ..).steady) (.refl ..) (.ite (.refl ..) (.setPwr (.refl ..) ..))) ..) ..)) fun _ => .next (.refl ..)

theorem execRailAck_steady (rail : Fin 3) (mv : Nat) (s : State) : Yields (Steady s) (execRailAck rail mv s) :=
  .ite (fun _ => .next (.trans (.ite_on (.fold (.refl ..) (fun _ _ => .ite (.refl ..) ((State.marginTrigger_keeps ..).steady)) _) (.refl
      ..) (.setPwr (.wr (.wr (.refl ..) ..) ..) ..)) (State.railsGo_keeps ..).steady)) fun _ => .next (.refl ..)

theorem execRailTimeout_steady (rail : Fin 3) (s : State) : Yields (Steady s) (execRailTimeout rail s) :=
  .ite (fun _ => .ite (fun _ => .next (.railWrite (.refl ..) ..)) fun _ => .ite (fun _ => .next (.partFail (.setPwr (.wr (.wr (.event
      (.refl ..) ..) ..) ..) ..) ..)) fun _ => .next (.trans (.railWrite (.wr (.wr (.event (.refl ..) ..) ..) ..) ..) (State.abandon_keeps
      ..).steady)) fun _ => .next (.refl ..)

theorem execRailRaiseRetry_steady (rail : Fin 3) (s : State) : Yields (Steady s) (execRailRaiseRetry rail s) :=
  .ite (fun _ => .next (.railWrite (.refl ..) ..)) fun _ => .next (.refl ..)

theorem execPowerCommit_steady (s : State) : Yields (Steady s) (execPowerCommit s) :=
  .ite (fun _ => .ite (fun _ => .next ((State.abandon_keeps ..).steady)) fun _ => .ite (fun _ => .next (.trans (.setPwr (.wr (.bump (.trans
      (.wr (.refl ..) ..) (State.applyHolds_keeps ..).steady) ..) ..) ..) (State.reached_keeps ..).steady)) fun _ => .next (.refl ..)) fun
      _ => .next (.refl ..)

theorem execCommitWakeSample_steady (s : State) : Yields (Steady s) (execCommitWakeSample s) :=
  .ite (fun _ => .ite (fun _ => .next (.startExit (.setPwr (.refl ..) ..) ..)) fun _ => .next (.setPwr (.refl ..) ..)) fun _ => .next
      (.refl ..)

theorem execExitComplete_steady (s : State) : Yields (Steady s) (execExitComplete s) :=
  .ite (fun _ => .ite (fun _ => .next (.trans (.wr (.trans (.fold (.wr (.ite_on ((State.dramWake_keeps ..).steady) (.refl ..) (.setPwr (.wr
      (.refl ..) ..) ..)) ..) (fun _ _ => .wr (.refl ..) ..) _) (State.applyHolds_keeps ..).steady) ..) (State.refreshTarget_keeps
      ..).steady)) fun _ => .next (.trans (.trans (.wr (.trans (.fold (.wr (.ite_on ((State.dramWake_keeps ..).steady) (.refl ..) (.setPwr
      (.wr (.refl ..) ..) ..)) ..) (fun _ _ => .wr (.refl ..) ..) _) (State.applyHolds_keeps ..).steady) ..) (State.reached_keeps
      ..).steady) (State.refreshTarget_keeps ..).steady)) fun _ => .next (.refl ..)

theorem execEntryRetry_steady (s : State) : Yields (Steady s) (execEntryRetry s) := by
  unfold execEntryRetry
  dsimp only
  split
  · exact .ite (fun _ => .ite (fun _ => .next ((State.startEntry_keeps ..).steady)) fun _ => .next (.setPwr (.refl ..) ..)) fun _ => .next
      (.refl ..)
  · exact .next (.refl ..)

theorem execDomainClockGate_steady (domain : Fin 160) (s : State) : Yields (Steady s) (execDomainClockGate domain s) :=
  .ite (fun _ => .next ((State.setDom_keeps ..).steady)) fun _ => .next (.refl ..)

theorem execDomainPowerGate_steady (domain : Fin 160) (s : State) : Yields (Steady s) (execDomainPowerGate domain s) :=
  .ite (fun _ => .next ((State.setDom_keeps ..).steady)) fun _ => .next (.refl ..)

theorem execClkreqAssert_steady (fn : Fn) (s : State) : Yields (Steady s) (execClkreqAssert fn s) :=
  .ite (fun _ => .next (.latchWake (.refl ..) ..)) fun _ => .next (.refl ..)

theorem execElectricalIdleExit_steady (fn : Fn) (s : State) : Yields (Steady s) (execElectricalIdleExit fn s) :=
  .ite (fun _ => .next (.latchWake (.setEp (.refl ..) ..) ..)) fun _ => .next (.refl ..)

theorem execAspmL1Entry_steady (fn : Fn) (s : State) : Yields (Steady s) (execAspmL1Entry fn s) :=
  .ite (fun _ => .next (.setEp (.refl ..) ..)) fun _ => .next (.refl ..)

/-! ### The active image (R302, R305 to R308) -/

theorem State.loadTables_keeps (s : State) (g : Img) : Keeps [] [Reg.FRM_PCLASS.LO, Reg.FRM_PCLASS.HI, Reg.FRM_CHAN_TBL.ALL] s
    (s.loadTables g) :=
  .foldl (.foldl (.refl ..) fun _ _ => .foldl (.refl ..) fun _ _ => .wr (.wr (.refl ..))) fun _ _ => .wr (.refl ..)

theorem State.ucodeShow_keeps (s : State) (g : Img) (src : Nat) : Keeps [] [Reg.UCS_STATUS.SOURCE, Reg.UCS_STATUS.DIE_COUNT,
    Reg.UCS_STATUS.KEY_ID, Reg.UCS_VERSION.VERSION] s (s.ucodeShow g src) :=
  .wr (.wr (.wr (.wr (.refl ..))))

theorem State.ucodeActivate_keeps (s : State) (g : Img) (src : Nat) : Keeps [.microcode, .log] [Reg.FRM_PCLASS.LO, Reg.FRM_PCLASS.HI,
    Reg.FRM_CHAN_TBL.ALL, Reg.UCS_STATUS.SOURCE, Reg.UCS_STATUS.DIE_COUNT, Reg.UCS_STATUS.KEY_ID, Reg.UCS_VERSION.VERSION] s
    (s.ucodeActivate g src) :=
  .event (.andThen (.andThen (.with_ucode (.refl ..)) (State.loadTables_keeps ..)) (State.ucodeShow_keeps ..))

theorem State.ucodeStart_keeps (s : State) (okA okB : Bool) : Keeps [.microcode, .log] [Reg.FRM_PCLASS.LO, Reg.FRM_PCLASS.HI,
    Reg.FRM_CHAN_TBL.ALL, Reg.UCS_STATUS.SOURCE, Reg.UCS_STATUS.DIE_COUNT, Reg.UCS_STATUS.KEY_ID, Reg.UCS_VERSION.VERSION] s (s.ucodeStart
    okA okB) :=
  .ite (.mono (State.ucodeActivate_keeps ..)) (.ite (.mono (State.ucodeActivate_keeps ..)) (.ite_on (.mono (State.ucodeActivate_keeps ..))
      (.mono (State.ucodeActivate_keeps ..)) (.event (.refl ..))))

theorem State.swapSet_keeps (s : State) (g : Img) (src ctx : Nat) : Keeps [.microcode] [Reg.UCS_STATUS.SWAP_PENDING] s (s.swapSet g src
    ctx) :=
  .with_ucode (.wr (.refl ..))

theorem execUcodeStoreSwap_steady (s : State) : Yields (Steady s) (execUcodeStoreSwap s) :=
  .ite (fun _ => .ite (fun _ => .next (.event (.bump (.trans (.update (.refl ..)) (State.ucodeShow_keeps ..).steady) ..) ..)) fun _ =>
      .next (.refl ..)) fun _ => .next (.refl ..)

/-! ### Context ends -/

theorem State.endOk_keeps (s : State) (c result : Nat) : Keeps [.contexts] [] s (s.endOk c result) :=
  .setCtx (.refl ..)

/-! ### Versions (R196, R197, R199) -/

theorem State.allocate_keeps (s : State) (osn : Nat) (ius : List (Nat × Nat × List (Nat × Stored))) : Keeps [.ftl] [] s (s.allocate osn
    ius) :=
  .foldl (.refl ..) fun _ _ => .with_ftl (.refl ..)

/-! ### The map (R342) -/

theorem State.countValid_keeps (s : State) (a : Nat) (up : Bool) : Keeps [.flash] [] s (s.countValid a up) :=
  .setBlk (.refl ..)

theorem State.setMap_keeps (s : State) (iu : Nat) (e : MapEnt) : Keeps [.flash, .ftl] [] s (s.setMap iu e) := by
  unfold State.setMap
  dsimp only
  exact .with_ftl ((by
      split
      · exact .andThen ((by
          split
          · exact .mono (State.countValid_keeps ..)
          · exact .refl ..)) (State.countValid_keeps ..)
      · split
        · exact .mono (State.countValid_keeps ..)
        · exact .refl ..))

/-! ### The snapshot (R204, R205) -/

theorem State.sweepVersions_keeps (s : State) : Keeps [.ftl] [] s (s.sweepVersions) :=
  .mono (State.keepVersions_keeps ..)

/-! ### Publication and commitment of a batch (R194, R207) -/

theorem State.batchWrites_keeps (s : State) : Keeps [.ftl] [] s (s.batchWrites) :=
  .foldl (.foldl (.refl ..) fun _ _ => .foldl (.refl ..) fun _ _ => .record (.refl ..)) fun _ _ => .record (.refl ..)

theorem State.publish_keeps (s : State) (c : Nat) : Keeps [.ftl, .contexts] [] s (s.publish c) :=
  .setCtx (.with_ftl (.mono (State.mapVersions_keeps ..)))

theorem State.commitWrite_keeps (s : State) (c : Nat) : Keeps [.ftl, .engine, .contexts, .health] [Reg.THI_OPS.COUNT] s (s.commitWrite c)
    := by
  unfold State.commitWrite
  dsimp only
  exact .count (.setCtx ((by
      split
      · exact .andThen (.with_ftl (.mono (State.mapVersions_keeps ..))) (State.thiRangeCommit_keeps ..)
      · exact .with_ftl (.mono (State.mapVersions_keeps ..)))))

/-! ### The BAR4 translation windows -/

theorem execWindowCommit_steady (fn : Fn) (s : State) : Yields (Steady s) (execWindowCommit fn s) := by
  unfold execWindowCommit
  exact .ite (fun _ => (by
      split
      · next e => exact .next (.out_fst e (.trans (.wakeTlp (.refl ..) ..) (State.winCommit_keeps ..).steady))
      · next e => exact .after (.out_fst e (.trans (.wakeTlp (.refl ..) ..) (State.winCommit_keeps ..).steady)) (.next (.wr (.wr (.refl ..)
          ..) ..)))) fun _ => .next (.refl ..)

theorem execEpochRetire_steady (s : State) : Yields (Steady s) (execEpochRetire s) :=
  .ite (fun _ => .next (.wr (.refl ..) ..)) fun _ => .next (.refl ..)

theorem execBar4Read_steady (fn : Fn) (rid : BitVec 16) (off len : Nat) (s : State) : Yields (Steady s) (execBar4Read fn rid off len s) :=
    by
  unfold execBar4Read
  dsimp only
  exact .ite (fun _ => (by
      split
      · exact .next (.emit (.trans (.wakeTlp (.refl ..) ..) (State.winDrop_keeps ..).steady) ..)
      · exact .next (.emit (.wakeTlp (.refl ..) ..) ..))) fun _ => .next (.refl ..)

/-! ### Sessions (R383) -/

theorem State.groupCtr_keeps (s : State) : Keeps [.keys] [] s (s.groupCtr).2 :=
  .with_sec (.refl ..)

theorem State.sendPlain_keeps (s : State) (j kind : Nat) (payload : List Nat) : Keeps [.keys, .buses] [] s (s.sendPlain j kind payload) :=
  .emit (.mono (State.groupCtr_keeps ..))

theorem State.greet_keeps (s : State) (j : Nat) : Keeps [.freeValues, .group, .keys, .buses] [Reg.GLI_PEER.SESSION, Reg.GLI_LINKED.MASK] s
    (s.greet j) :=
  .andThen (.setPeer (.andThen (.freeNext (.refl ..)) (State.setSession_keeps ..))) (State.sendPlain_keeps ..)

theorem State.greetFail_keeps (s : State) (j : Nat) : Keeps [.group, .log] [Reg.GLI_PEER.SESSION, Reg.GLI_LINKED.MASK,
    Reg.GLI_CNT.AUTH_FAIL] s (s.greetFail j) :=
  .event (.bump (.setPeer (.mono (State.setSession_keeps ..))))

theorem State.rejoin_keeps (s : State) : Keeps [.endpoint, .rings, .vectors, .buses] [Reg.GLI_STATUS.STATE, Reg.HIF_ASYNC.PEND] s
    (s.rejoin) :=
  .ite (.andThen (.wr (.refl ..)) (State.asyncAll_keeps ..)) (.refl ..)

theorem State.link_keeps (s : State) (j na nb incarnation : Nat) : Keeps [.group, .endpoint, .rings, .vectors, .buses]
    [Reg.GLI_PEER.SESSION, Reg.GLI_LINKED.MASK, Reg.GLI_PEER.EPOCH, Reg.GLI_PEER.INCARNATION, Reg.GLI_PEER.MISSED, Reg.GLI_STATUS.STATE,
    Reg.HIF_ASYNC.PEND] s (s.link j na nb incarnation) :=
  .andThen (.setPeer (.wr (.wr (.wr (.mono (State.setSession_keeps ..)))))) (State.rejoin_keeps ..)

/-! ### The address table and the windows (R375, R377, R406) -/

theorem State.stagePeer_keeps (s : State) (j : Nat) : Keeps [] [Reg.WIN_ENT_CTRL.TARGET, Reg.WIN_ENT_CTRL.WR_EN, Reg.WIN_ENT_CTRL.RD_EN,
    Reg.WIN_ENT_CTRL.RID_CHK, Reg.WIN_ENT_CTRL.RID, Reg.WIN_ENT_BASE.BASE, Reg.WIN_ENT_LIMIT.LIMIT, Reg.WIN_ENT_CTRL.PENDING] s
    (s.stagePeer j) :=
  .ite_on (.mono (State.stage_keeps ..)) (.refl ..) (.mono (State.stage_keeps ..))

theorem State.stageGroup_keeps (s : State) : Keeps [.windows, .log] [Reg.WIN_ENT_CTRL.TARGET, Reg.WIN_ENT_CTRL.WR_EN,
    Reg.WIN_ENT_CTRL.RD_EN, Reg.WIN_ENT_CTRL.RID_CHK, Reg.WIN_ENT_CTRL.RID, Reg.WIN_ENT_BASE.BASE, Reg.WIN_ENT_LIMIT.LIMIT,
    Reg.WIN_ENT_CTRL.PENDING, Reg.WIN_EPOCH.EPOCH, Reg.WIN_EPOCH.BUSY] s (s.stageGroup) :=
  .andThen (.foldl (.mono (State.stage_keeps ..)) fun _ _ => .mono (State.stagePeer_keeps ..)) (State.winDevice_keeps ..)

theorem State.startJoining_keeps (s : State) : Keeps [.windows, .log, .freeValues, .group, .keys, .buses] [Reg.GLI_STATUS.STATE,
    Reg.WIN_ENT_CTRL.TARGET, Reg.WIN_ENT_CTRL.WR_EN, Reg.WIN_ENT_CTRL.RD_EN, Reg.WIN_ENT_CTRL.RID_CHK, Reg.WIN_ENT_CTRL.RID,
    Reg.WIN_ENT_BASE.BASE, Reg.WIN_ENT_LIMIT.LIMIT, Reg.WIN_ENT_CTRL.PENDING, Reg.WIN_EPOCH.EPOCH, Reg.WIN_EPOCH.BUSY,
    Reg.GLI_PEER.SESSION, Reg.GLI_LINKED.MASK] s (s.startJoining) :=
  .foldl (.andThen (.wr (.refl ..)) (State.stageGroup_keeps ..)) fun _ _ => .mono (State.greet_keeps ..)

theorem State.autoJoin_keeps (s : State) : Keeps [.windows, .log, .freeValues, .group, .keys, .buses] [Reg.GLI_STATUS.STATE,
    Reg.WIN_ENT_CTRL.TARGET, Reg.WIN_ENT_CTRL.WR_EN, Reg.WIN_ENT_CTRL.RD_EN, Reg.WIN_ENT_CTRL.RID_CHK, Reg.WIN_ENT_CTRL.RID,
    Reg.WIN_ENT_BASE.BASE, Reg.WIN_ENT_LIMIT.LIMIT, Reg.WIN_ENT_CTRL.PENDING, Reg.WIN_EPOCH.EPOCH, Reg.WIN_EPOCH.BUSY,
    Reg.GLI_PEER.SESSION, Reg.GLI_LINKED.MASK] s (s.autoJoin) :=
  .ite (.mono (State.startJoining_keeps ..)) (.refl ..)

theorem State.depart_keeps (s : State) : Keeps [.group, .windows, .log, .ftl, .engine, .contexts, .keys] [Reg.GLI_PEER.SESSION,
    Reg.GLI_LINKED.MASK, Reg.GLI_PEER.IN_VIEW, Reg.GLI_PEER.MISSED, Reg.GLI_PEER.REQ_ID, Reg.WIN_ENT_CTRL.TARGET, Reg.WIN_ENT_CTRL.WR_EN,
    Reg.WIN_ENT_CTRL.RD_EN, Reg.WIN_ENT_CTRL.RID_CHK, Reg.WIN_ENT_CTRL.RID, Reg.WIN_ENT_BASE.BASE, Reg.WIN_ENT_LIMIT.LIMIT,
    Reg.WIN_ENT_CTRL.PENDING, Reg.WIN_EPOCH.EPOCH, Reg.WIN_EPOCH.BUSY, Reg.THI_OPS.COUNT, Reg.THI_TABLE.COUNT, Reg.THI_TABLE.FIRST,
    Reg.THI_STATUS.FREE_UNITS, Reg.THI_STATUS.COMPACTING, Reg.GLI_STATUS.STATE, Reg.GLI_STATUS.STEWARD, Reg.GLI_STATUS.DEPUTY,
    Reg.GLI_STATUS.GROUP, Reg.GLI_STATUS.MEMBER, Reg.GLI_MEMBERS.MASK, Reg.GLI_VIEW.VIEW, Reg.SEC_STATUS.LOADED, Reg.SEC_STATUS.TK_SET,
    Reg.SEC_STATUS.GROUP_KEY, Reg.SEC_STATUS.SWEEPING, Reg.SEC_STATUS.MC_BANKS] s (s.depart) :=
  .andThen (.with_sec_group (.wr (.wr (.wr (.wr (.wr (.wr (.wr (.foldl (.andThen (.foldl (.foldl (.refl ..) fun _ _ => .setPeer (.wr (.wr
      (.wr (.mono (State.setSession_keeps ..)))))) fun _ _ => .mono (State.stage_keeps ..)) (State.winDevice_keeps ..)) fun _ _ => .mono
      (State.refuse_keeps ..)))))))))) (State.secRefresh_keeps ..)

/-! ### Beacons (R381) -/

theorem execBeaconSend_steady (s : State) : Yields (Steady s) (execBeaconSend s) :=
  .ite (fun _ => .next (.fold (.refl ..) (fun _ _ => .trans (.setPeer (.refl ..) ..) (State.sendPlain_keeps ..).steady) _)) fun _ => .next
      (.refl ..)

theorem execBeaconReceived_steady (slot : Fin 24) (beacon : Beacon) (s : State) : Yields (Steady s) (execBeaconReceived slot beacon s) :=
  .ite (fun _ => .ite (fun _ => .next (.trans (.ite_on (.event (.setSession (.trans (.trans (.wr (.setPeer (.refl ..) ..) ..)
      (State.stagePeer_keeps ..).steady) (State.winDevice_keeps ..).steady) ..) ..) (.ite (.setSession (.refl ..) ..) (.refl ..)) (.wr
      (.setPeer (.refl ..) ..) ..)) (State.greet_keeps ..).steady)) fun _ => .next (.ite_on (.event (.setSession (.trans (.trans (.wr
      (.setPeer (.refl ..) ..) ..) (State.stagePeer_keeps ..).steady) (State.winDevice_keeps ..).steady) ..) ..) (.ite (.setSession (.refl
      ..) ..) (.refl ..)) (.wr (.setPeer (.refl ..) ..) ..))) fun _ => .next (.refl ..)

/-! ### The handshake (R383) -/

theorem execHello_steady (peer : Fin 24) (na incarnation : Nat) (tagOk : Bool) (s : State) : Yields (Steady s) (execHello peer na
    incarnation tagOk s) :=
  .ite (fun _ => .ite (fun _ => .next (.trans (.setPeer (.wr (.setSession (.freeNext (.ite (.dropSession (.refl ..) ..) (.refl ..)) ..) ..)
      ..) ..) (State.sendPlain_keeps ..).steady)) fun _ => .next (.ite (.dropSession (.refl ..) ..) (.refl ..))) fun _ => .next (.refl ..)

theorem execChallenge_steady (peer : Fin 24) (nb echo incarnation : Nat) (tagOk : Bool) (s : State) : Yields (Steady s) (execChallenge peer
    nb echo incarnation tagOk s) :=
  .ite (fun _ => .ite (fun _ => .next ((State.greetFail_keeps ..).steady)) fun _ => .ite (fun _ => .next (.trans ((State.sendPlain_keeps
      ..).steady) (State.link_keeps ..).steady)) fun _ => .next (.refl ..)) fun _ => .next (.refl ..)

theorem execConfirm_steady (peer : Fin 24) (echo : Nat) (tagOk : Bool) (s : State) : Yields (Steady s) (execConfirm peer echo tagOk s) :=
  .ite (fun _ => .ite (fun _ => .next ((State.greetFail_keeps ..).steady)) fun _ => .ite (fun _ => .next ((State.link_keeps ..).steady))
      fun _ => .next (.refl ..)) fun _ => .next (.refl ..)

theorem execHandshakeTimeout_steady (peer : Fin 24) (s : State) : Yields (Steady s) (execHandshakeTimeout peer s) :=
  .ite (fun _ => .next ((State.greetFail_keeps ..).steady)) fun _ => .next (.refl ..)

theorem execHandshakeRetry_steady (peer : Fin 24) (s : State) : Yields (Steady s) (execHandshakeRetry peer s) :=
  .ite (fun _ => .next ((State.greet_keeps ..).steady)) fun _ => .next (.refl ..)

/-! ### PAD (R384) -/

theorem execPadMessage_steady (peer : Fin 24) (hdr : Hdr) (s : State) : Yields (Steady s) (execPadMessage peer hdr s) := by
  unfold execPadMessage
  dsimp only
  split
  · next e => exact .after ((State.take_keeps _ e).steady) (.ite (fun _ => .next (.setPeer (.refl ..) ..)) fun _ => .next (.refl ..))
  · exact .next (.refl ..)

/-! ### Reading codewords (R255, R261, R320, R321, R360) -/

theorem State.dropDec_keeps (s : State) (d : Dec) : Keeps [.decodes] [] s (s.dropDec d) :=
  .with_decs (.refl ..)

theorem State.startDec_keeps (s : State) (addr cw ctx blk : Nat) (cls : Cls) : Keeps [.decodes] [] s (s.startDec addr cw ctx blk cls) :=
  .with_decs (.refl ..)

theorem State.blockReady_keeps (s : State) (d : Dec) (rebuilt : Bool) : Keeps [.contexts] [] s (s.blockReady d rebuilt) :=
  .ite (.refl ..) (.setCtx (.refl ..))

theorem State.blockBad_keeps (s : State) (d : Dec) (status : Nat) : Keeps [.contexts] [] s (s.blockBad d status) :=
  .ite (.refl ..) (.setCtx (.refl ..))

theorem State.refresh_keeps (s : State) (a : Nat) (patrol : Bool) : Keeps [.flash] [Reg.MIN_CNT2.REFRESH_REQ] s (s.refresh a patrol) :=
  .ite_on (.bump (.refl ..)) (.refl ..) (.ite (.refl ..) (.setBlk (.refl ..)))

theorem State.levelWon_keeps (s : State) (d : Dec) : Keeps [.luns] [] s (s.levelWon d) :=
  .setLun (.refl ..)

theorem State.decPass_keeps (s : State) (d : Dec) (step corrected : Nat) : Keeps [.flash, .health, .luns, .decodes, .contexts]
    [Reg.MIN_CNT2.REFRESH_REQ] s (s.decPass d step corrected) :=
  .andThen (.ite_on (.mono (State.refresh_keeps ..)) (.refl ..) (.ite_on (.ite (.refl ..) (.count (.refl ..))) (.ite (.count (.mono
      (State.levelWon_keeps ..))) (.count (.refl ..))) (.mono (State.dropDec_keeps ..)))) (State.blockReady_keeps ..)

theorem State.decFail_keeps (s : State) (d : Dec) (unsat : Nat) (badTag : Bool) : Keeps [.decodes] [] s (s.decFail d unsat badTag) :=
  .mono (State.mapDecs_keeps ..)

/-! ### Decodes (R316) -/

theorem execHardDecodeDone_steady (page : Nat) (cw : Fin 16) (res : Decoded) (s : State) : Yields (Steady s) (execHardDecodeDone page cw
    res s) := by
  unfold execHardDecodeDone
  dsimp only
  exact .ite (fun _ => .next (.trans (.fold (.ite (.refl ..) (.setChn (.refl ..) ..)) (fun _ _ => (by
      split
      · exact (State.toRow_keeps ..).steady
      · exact .setChn ((State.decFail_keeps ..).steady) ..
      · split
        · exact (State.decPass_keeps ..).steady
        · exact .trans ((State.dropDec_keeps ..).steady) (State.blockBad_keeps ..).steady
        · exact (State.decFail_keeps ..).steady)) _) (State.feedReads_keeps ..).steady)) fun _ => .next (.refl ..)

theorem execSoftDecodeDone_steady (page : Nat) (cw : Fin 16) (okD : Bool) (s : State) : Yields (Steady s) (execSoftDecodeDone page cw okD
    s) := by
  unfold execSoftDecodeDone
  exact .ite (fun _ => .next (.trans (.fold (.refl ..) (fun _ _ => .ite ((by
      split
      · exact (State.decPass_keeps ..).steady
      · exact .trans ((State.dropDec_keeps ..).steady) (State.blockBad_keeps ..).steady
      · exact .trans ((State.mapDecs_keeps ..).steady) (State.toRow_keeps ..).steady)) ((State.toRow_keeps ..).steady)) _)
          (State.feedReads_keeps ..).steady)) fun _ => .next (.refl ..)

/-! ### Stripes and roles (R401, R412) -/

theorem State.openStripe_keeps (s : State) (num k p q vacant view : Nat) : Keeps [.engine, .log, .group, .ftl] [Reg.THI_OPS.COUNT,
    Reg.THI_CNT.NO_ROOM, Reg.THI_TABLE.COUNT, Reg.THI_TABLE.FIRST, Reg.THI_STATUS.FREE_UNITS, Reg.THI_STATUS.COMPACTING,
    Reg.GLI_STRIPE_CNT.OPEN, Reg.GLI_STRIPE_CNT.DEGRADED] s (s.openStripe num k p q vacant view) := by
  unfold State.openStripe
  dsimp only
  exact .ite (.refl ..) (.ite ((by
      split
      · exact .andThen (.andThen (.setGroup (.mono (State.thiInsertAny_keeps ..))) (State.ledger_keeps ..)) (State.stripeCounts_keeps ..)
      · exact .mono (State.thiInsertAny_keeps ..))) (.refl ..))

/-! ### Pushing (R397, R403, R406, R407) -/

theorem State.segClose_keeps (s : State) (p : PStripe) : Keeps [.group, .buses] [Reg.GLI_STRIPE_CNT.OPEN, Reg.GLI_STRIPE_CNT.DEGRADED] s
    (s.segClose p) := by
  unfold State.segClose
  dsimp only
  split
  · exact .foldl (.mono (State.setStripe_keeps ..)) fun _ _ => .mono (State.sendMsg_keeps ..)
  · exact .refl ..

theorem State.placeBlocks_keeps (s : State) (osn iu : Nat) (blocks : List (Nat × Stored)) : Keeps [.group, .buses, .ftl]
    [Reg.GLI_STRIPE_CNT.OPEN, Reg.GLI_STRIPE_CNT.DEGRADED] s (s.placeBlocks osn iu blocks) := by
  unfold State.placeBlocks
  dsimp only
  exact .ite (.refl ..) ((by
      split
      · exact .setGroup (.refl ..)
      · split
        · exact .refl ..
        · exact .ite_on (.mono (State.segClose_keeps ..)) (.refl ..) (.foldl (.record (.mono (State.setStripe_keeps ..))) fun _ _ => .mono
            (State.push_keeps ..))))

theorem State.placeVersion_keeps (s : State) (v : Version) : Keeps [.group, .buses, .ftl] [Reg.GLI_STRIPE_CNT.OPEN,
    Reg.GLI_STRIPE_CNT.DEGRADED] s (s.placeVersion v) :=
  .mono (State.placeBlocks_keeps ..)

theorem State.placeRange_keeps (s : State) (x : Ctx) : Keeps [.group, .buses] [] s (s.placeRange x) := by
  unfold State.placeRange
  dsimp only
  exact .ite ((by
      split
      · exact .foldl (.refl ..) fun _ _ => .setGroup (.mono (State.sendMsg_keeps ..))
      · exact .refl ..)) (.refl ..)

theorem State.placeWaiting_keeps (s : State) : Keeps [.group, .buses, .ftl] [Reg.GLI_STRIPE_CNT.OPEN, Reg.GLI_STRIPE_CNT.DEGRADED] s
    (s.placeWaiting) :=
  .ite (.foldl (.setGroup (.refl ..)) fun _ _ => .mono (State.placeBlocks_keeps ..)) (.refl ..)

/-! ### Withdrawal (R400, R410) -/

theorem State.withdraw_keeps (s : State) (g : Gran → Bool) : Keeps [.group, .buses] [Reg.GLI_STRIPE_CNT.OPEN, Reg.GLI_STRIPE_CNT.DEGRADED,
    Reg.GLI_WITHDRAWN.COUNT] s (s.withdraw g) := by
  unfold State.withdraw
  dsimp only
  exact .foldl (.refl ..) fun _ _ => (by
      split
      · exact .refl ..
      · exact .ite (.refl ..) (.foldl (.bump (.mono (State.setStripe_keeps ..))) fun _ _ => .ite (.refl ..) (.mono (State.push_keeps ..))))

theorem State.moveGrans_keeps (s : State) (iu addr top : Nat) : Keeps [.group] [] s (s.moveGrans iu addr top) :=
  .setGroup (.refl ..)

/-! ### CONTRIB as a parity member (R405, R408) -/

theorem State.contribParity_keeps (s : State) (j seq num slot flags : Nat) (es : List Entry) : Keeps [.group, .buses, .log, .ftl, .engine]
    [Reg.GLI_STRIPE_CNT.OPEN, Reg.GLI_STRIPE_CNT.DEGRADED, Reg.GLI_STRIPE_LOST.COUNT, Reg.THI_OPS.COUNT, Reg.THI_TABLE.COUNT,
    Reg.THI_TABLE.FIRST, Reg.THI_STATUS.FREE_UNITS, Reg.THI_STATUS.COMPACTING] s (s.contribParity j seq num slot flags es) := by
  unfold State.contribParity
  dsimp only
  split
  · exact .event (.mono (State.sendMsg_keeps ..))
  · exact .ite (.event (.mono (State.sendMsg_keeps ..))) (.ite (.event (.mono (State.sendMsg_keeps ..))) ((by
      split
      · exact .event (.mono (State.sendMsg_keeps ..))
      · exact .ite_on (.mono (State.stripeGo_keeps ..)) (.ite (.mono (State.stripeGo_keeps ..)) (.refl ..)) (.setGroup (.foldl (.mono
          (State.setStripe_keeps ..)) fun _ _ => .record (.refl ..))))))

theorem State.sendOwed_keeps (s : State) : Keeps [.group, .buses] [] s (s.sendOwed) :=
  .foldl (.setGroup (.refl ..)) fun _ _ => .mono (State.sendMsg_keeps ..)

/-! ### Outer reads of this device (R421, R326) -/

theorem State.outerRead_keeps (s : State) (p : PStripe) (g : Gran) : Keeps [.group, .buses] [] s (s.outerRead p g) :=
  .ite (.refl ..) (.foldl (.setGroup (.refl ..)) fun _ _ => .mono (State.sendMsg_keeps ..))

theorem State.unrecovered_keeps (s : State) (d : Dec) (status : Nat) : Keeps [.contexts, .log, .decodes] [Reg.SEC_CNT.AUTH_FAIL] s
    (s.unrecovered d status) :=
  .ite_on (.andThen (.mono (State.blockBad_keeps ..)) (State.authFail_keeps ..)) (.event (.mono (State.blockBad_keeps ..))) (.mono
      (State.dropDec_keeps ..))

theorem State.outerSolve_keeps (s : State) (a : Agg) (p : PStripe) : Keeps [.group, .contexts, .log, .decodes, .buses, .ftl, .engine,
    .lostStripes, .health, .endpoint, .rings, .vectors, .flash] [Reg.SEC_CNT.AUTH_FAIL, Reg.GLI_STRIPE_CNT.OPEN,
    Reg.GLI_STRIPE_CNT.DEGRADED, Reg.GLI_STRIPE_LOST.COUNT, Reg.THI_OPS.COUNT, Reg.THI_TABLE.COUNT, Reg.THI_TABLE.FIRST,
    Reg.THI_STATUS.FREE_UNITS, Reg.THI_STATUS.COMPACTING, Reg.HIF_ASYNC.PEND, Reg.MIN_CNT2.REFRESH_REQ] s (s.outerSolve a p) := by
  unfold State.outerSolve
  dsimp only
  exact .foldl (.setGroup (.refl ..)) fun _ _ => (by
      split
      · exact .refl ..
      · split
        · exact .andThen (.mono (State.unrecovered_keeps ..)) (State.loseStripe_keeps ..)
        · split
          · exact .mono (State.unrecovered_keeps ..)
          · exact .ite (.andThen (.count (.andThen (.andThen (.setPage (.refl ..)) (State.dropDec_keeps ..)) (State.blockReady_keeps ..)))
              (State.refresh_keeps ..)) (.mono (State.unrecovered_keeps ..)))

/-! ### The aggregator and the target of a rebuild (R415 to R417) -/

theorem State.applyRebuilt_keeps (s : State) (p : PStripe) (slot o : Nat) (h : GHead) (b : Block) : Keeps [.ftl, .group] [] s
    (s.applyRebuilt p slot o h b) :=
  .ite (.refl ..) (.setGroup (.record (.record (.andThen (.andThen (.mono (State.assignOsn_keeps ..)) (State.allocate_keeps ..))
      (State.mapVersions_keeps ..)))))

theorem State.applyParity_keeps (s : State) (p : PStripe) (o : Nat) (b : Block) : Keeps [.group] [Reg.GLI_STRIPE_CNT.OPEN,
    Reg.GLI_STRIPE_CNT.DEGRADED] s (s.applyParity p o b) :=
  .mono (State.setStripe_keeps ..)

theorem State.chunkSolve_keeps (s : State) (a : Agg) (p : PStripe) : Keeps [.log, .group, .buses, .ftl, .engine, .lostStripes, .health,
    .endpoint, .rings, .vectors] [Reg.GLI_STRIPE_CNT.OPEN, Reg.GLI_STRIPE_CNT.DEGRADED, Reg.GLI_STRIPE_LOST.COUNT, Reg.THI_OPS.COUNT,
    Reg.THI_TABLE.COUNT, Reg.THI_TABLE.FIRST, Reg.THI_STATUS.FREE_UNITS, Reg.THI_STATUS.COMPACTING, Reg.HIF_ASYNC.PEND] s (s.chunkSolve a
    p) :=
  .ite_on (.refl ..) (.mono (State.loseStripe_keeps ..)) (.andThen (.foldl (.foldl (.setGroup (.refl ..)) fun _ _ => .mono
      (State.push_keeps ..)) fun _ _ => .event (.refl ..)) (State.sendMsg_keeps ..))

theorem State.report_keeps (s : State) (num chunk plan : Nat) (outer : Bool) (src : ChunkSource) : Keeps [.group, .contexts, .log,
    .decodes, .buses, .ftl, .engine, .lostStripes, .health, .endpoint, .rings, .vectors, .flash] [Reg.SEC_CNT.AUTH_FAIL,
    Reg.GLI_STRIPE_CNT.OPEN, Reg.GLI_STRIPE_CNT.DEGRADED, Reg.GLI_STRIPE_LOST.COUNT, Reg.THI_OPS.COUNT, Reg.THI_TABLE.COUNT,
    Reg.THI_TABLE.FIRST, Reg.THI_STATUS.FREE_UNITS, Reg.THI_STATUS.COMPACTING, Reg.HIF_ASYNC.PEND, Reg.MIN_CNT2.REFRESH_REQ] s (s.report
    num chunk plan outer src) := by
  unfold State.report
  dsimp only
  split
  · exact .refl ..
  · exact .ite_on (.ite (.mono (State.outerSolve_keeps ..)) (.mono (State.chunkSolve_keeps ..))) (.refl ..) (.setGroup (.refl ..))

theorem State.sourcePushes_keeps (s : State) (p : PStripe) (plan first : Nat) : Keeps [.group, .buses] [] s (s.sourcePushes p plan first)
    := by
  unfold State.sourcePushes
  dsimp only
  split
  · exact .refl ..
  · exact .foldl (.refl ..) fun _ _ => .ite (.refl ..) (.mono (State.push_keeps ..))

/-! ### Rebuild planning (R415, R419) -/

theorem State.takePlan_keeps (s : State) (p : PStripe) (plan erased first : Nat) : Keeps [.log, .group, .buses, .ftl, .engine]
    [Reg.GLI_REBUILD.TARGET, Reg.GLI_STRIPE_CNT.OPEN, Reg.GLI_STRIPE_CNT.DEGRADED, Reg.GLI_STRIPE_LOST.COUNT, Reg.THI_OPS.COUNT,
    Reg.THI_TABLE.COUNT, Reg.THI_TABLE.FIRST, Reg.THI_STATUS.FREE_UNITS, Reg.THI_STATUS.COMPACTING] s (s.takePlan p plan erased first) :=
  .andThen (.ite_on (.event (.wr (.refl ..))) (.refl ..) (.mono (State.stripeGo_keeps ..))) (State.sourcePushes_keeps ..)

theorem State.checkpoint_keeps (s : State) (p : PStripe) : Keeps [.ftl, .group, .buses] [] s (s.checkpoint p) :=
  .andThen (.setGroup (.record (.refl ..))) (State.sendMsg_keeps ..)

theorem State.issuePlan_keeps (s : State) (p : PStripe) (first : Nat) : Keeps [.group, .ftl, .buses, .log, .engine]
    [Reg.GLI_REBUILD.PLANNING, Reg.GLI_REBUILD.TARGET, Reg.GLI_STRIPE_CNT.OPEN, Reg.GLI_STRIPE_CNT.DEGRADED, Reg.GLI_STRIPE_LOST.COUNT,
    Reg.THI_OPS.COUNT, Reg.THI_TABLE.COUNT, Reg.THI_TABLE.FIRST, Reg.THI_STATUS.FREE_UNITS, Reg.THI_STATUS.COMPACTING] s (s.issuePlan p
    first) :=
  .andThen (.foldl (.andThen (.wr (.setGroup (.refl ..))) (State.checkpoint_keeps ..)) fun _ _ => .mono (State.sendMsg_keeps ..))
      (State.takePlan_keeps ..)

theorem State.rebuildDuty_keeps (s : State) : Keeps [.group, .ftl, .buses, .log, .engine] [Reg.GLI_REBUILD.PLANNING,
    Reg.GLI_REBUILD.TARGET, Reg.GLI_STRIPE_CNT.OPEN, Reg.GLI_STRIPE_CNT.DEGRADED, Reg.GLI_STRIPE_LOST.COUNT, Reg.THI_OPS.COUNT,
    Reg.THI_TABLE.COUNT, Reg.THI_TABLE.FIRST, Reg.THI_STATUS.FREE_UNITS, Reg.THI_STATUS.COMPACTING] s (s.rebuildDuty) :=
  .ite (.foldl (.refl ..) fun _ _ => .mono (State.issuePlan_keeps ..)) (.refl ..)

/-! ### Installing a view (R380, R387, R390) -/

theorem State.takeLease_keeps (s : State) (previous : Nat) : Keeps [.group, .log, .ftl, .buses, .engine] [Reg.GLI_STATUS.STEWARD,
    Reg.GLI_REBUILD.PLANNING, Reg.GLI_REBUILD.TARGET, Reg.GLI_STRIPE_CNT.OPEN, Reg.GLI_STRIPE_CNT.DEGRADED, Reg.GLI_STRIPE_LOST.COUNT,
    Reg.THI_OPS.COUNT, Reg.THI_TABLE.COUNT, Reg.THI_TABLE.FIRST, Reg.THI_STATUS.FREE_UNITS, Reg.THI_STATUS.COMPACTING] s (s.takeLease
    previous) :=
  .foldl (.event (.wr (.setGroup (.refl ..)))) fun _ _ => .mono (State.issuePlan_keeps ..)

theorem State.install_keeps (s : State) (v : View) : Keeps [.endpoint, .rings, .vectors, .buses, .group, .log, .ftl, .engine, .lostStripes,
    .health] [Reg.HIF_ASYNC.PEND, Reg.GLI_STATUS.STEWARD, Reg.GLI_REBUILD.PLANNING, Reg.GLI_REBUILD.TARGET, Reg.GLI_STRIPE_CNT.OPEN,
    Reg.GLI_STRIPE_CNT.DEGRADED, Reg.GLI_STRIPE_LOST.COUNT, Reg.THI_OPS.COUNT, Reg.THI_TABLE.COUNT, Reg.THI_TABLE.FIRST,
    Reg.THI_STATUS.FREE_UNITS, Reg.THI_STATUS.COMPACTING, Reg.GLI_STATUS.STATE, Reg.GLI_VIEW.VIEW, Reg.GLI_MEMBERS.MASK,
    Reg.GLI_ROLES.STEWARD, Reg.GLI_ROLES.DEPUTY, Reg.GLI_CNT.VIEWS, Reg.GLI_PEER.IN_VIEW, Reg.GLI_STATUS.DEPUTY] s (s.install v) :=
  .andThen (.ite_on (.mono (State.asyncAll_keeps ..)) (.refl ..) (.ite_on (.ite (.refl ..) (.mono (State.takeLease_keeps ..))) (.wr (.refl
      ..)) (.ite_on (.ite (.refl ..) (.wr (.refl ..))) (.ite (.record (.refl ..)) (.wr (.refl ..))) (.ite_on (.foldl (.refl ..) fun _ _ =>
      .mono (State.stripeLeaves_keeps ..)) (.refl ..) (.setGroup (.event (.wr (.foldl (.bump (.wr (.wr (.wr (.wr (.refl ..)))))) fun _ _ =>
      .wr (.refl ..))))))))) (State.rebuildDuty_keeps ..)

/-! ### Proposing (R387, R388) -/

theorem State.propose_keeps (s : State) (v : View) : Keeps [.group, .ftl, .buses] [] s (s.propose v) :=
  .foldl (.record (.setGroup (.refl ..))) fun _ _ => .mono (State.sendMsg_keeps ..)

theorem State.proposeSet_keeps (s : State) (members steward : Nat) : Keeps [.group, .ftl, .buses] [] s (s.proposeSet members steward) :=
  .mono (State.propose_keeps ..)

theorem State.stewardDuty_keeps (s : State) : Keeps [.group, .ftl, .buses] [] s (s.stewardDuty) :=
  .ite (.refl ..) (.ite (.ite (.mono (State.proposeSet_keeps ..)) (.refl ..)) (.ite (.mono (State.proposeSet_keeps ..)) (.refl ..)))

theorem State.countAcks_keeps (s : State) : Keeps [.group, .ftl, .buses] [] s (s.countAcks) := by
  unfold State.countAcks
  dsimp only
  split
  · exact .ite (.record (.setGroup (.refl ..))) (.ite ((by
      split
      · exact .mono (State.propose_keeps ..)
      · exact .refl ..)) (.refl ..))
  · exact .refl ..

theorem State.viewWon_keeps (s : State) : Keeps [.group, .buses, .endpoint, .rings, .vectors, .log, .ftl, .engine, .lostStripes, .health]
    [Reg.HIF_ASYNC.PEND, Reg.GLI_STATUS.STEWARD, Reg.GLI_REBUILD.PLANNING, Reg.GLI_REBUILD.TARGET, Reg.GLI_STRIPE_CNT.OPEN,
    Reg.GLI_STRIPE_CNT.DEGRADED, Reg.GLI_STRIPE_LOST.COUNT, Reg.THI_OPS.COUNT, Reg.THI_TABLE.COUNT, Reg.THI_TABLE.FIRST,
    Reg.THI_STATUS.FREE_UNITS, Reg.THI_STATUS.COMPACTING, Reg.GLI_STATUS.STATE, Reg.GLI_VIEW.VIEW, Reg.GLI_MEMBERS.MASK,
    Reg.GLI_ROLES.STEWARD, Reg.GLI_ROLES.DEPUTY, Reg.GLI_CNT.VIEWS, Reg.GLI_PEER.IN_VIEW, Reg.GLI_STATUS.DEPUTY] s (s.viewWon) := by
  unfold State.viewWon
  dsimp only
  split
  · exact .ite (.andThen (.foldl (.refl ..) fun _ _ => .mono (State.sendMsg_keeps ..)) (State.install_keeps ..)) (.refl ..)
  · exact .refl ..

theorem State.viewAckSend_keeps (s : State) : Keeps [.group, .buses] [] s (s.viewAckSend) := by
  unfold State.viewAckSend
  dsimp only
  split
  · exact .andThen (.setGroup (.refl ..)) (State.sendMsg_keeps ..)
  · exact .refl ..

/-! ### Ledger states for a member being reconciled (R420) -/

theorem State.syncSlot_keeps (s : State) (p : PStripe) (slot j : Nat) : Keeps [.group, .buses] [] s (s.syncSlot p slot j) :=
  .foldl (.refl ..) fun _ _ => .mono (State.sendMsg_keeps ..)

theorem State.syncWith_keeps (s : State) (j : Nat) : Keeps [.group, .buses] [] s (s.syncWith j) := by
  unfold State.syncWith
  dsimp only
  exact .ite (.refl ..) (.setGroup (.foldl (.setPeer (.refl ..)) fun _ _ => (by
      split
      · exact .refl ..
      · exact .refl ..
      · exact .refl ..
      · exact .ite ((by
          split
          · exact .mono (State.syncSlot_keeps ..)
          · exact .ite (.mono (State.sendMsg_keeps ..)) (.refl ..))) (.refl ..))))

/-! ### Views: the rows -/

theorem execHeartbeatSend_steady (s : State) : Yields (Steady s) (execHeartbeatSend s) :=
  .ite (fun _ => .next (.trans (.trans (.fold (.setGroup (.refl ..) ..) (fun _ _ => .sendMsg (.wr (.refl ..) ..) ..) _)
      (State.stewardDuty_keeps ..).steady) (State.rebuildDuty_keeps ..).steady)) fun _ => .next (.refl ..)

theorem State.renewLease_keeps (s : State) : Keeps [.group] [Reg.GLI_STATUS.STEWARD] s (s.renewLease) :=
  .ite (.ite (.refl ..) (.wr (.setGroup (.refl ..)))) (.refl ..)

theorem State.peerLeaves_keeps (s : State) (j : Nat) : Keeps [.group, .log, .buses, .ftl, .engine] [Reg.GLI_STRIPE_CNT.OPEN,
    Reg.GLI_STRIPE_CNT.DEGRADED, Reg.GLI_STRIPE_LOST.COUNT, Reg.THI_OPS.COUNT, Reg.THI_TABLE.COUNT, Reg.THI_TABLE.FIRST,
    Reg.THI_STATUS.FREE_UNITS, Reg.THI_STATUS.COMPACTING] s (s.peerLeaves j) :=
  .ite (.refl ..) (.foldl (.setPeer (.refl ..)) fun _ _ => .mono (State.rePlace_keeps ..))

theorem execHeartbeat_steady (peer : Fin 24) (hdr : Hdr) (steward incarnation state : Nat) (view : View) (s : State) : Yields (Steady s)
    (execHeartbeat peer hdr steward incarnation state view s) := by
  unfold execHeartbeat
  dsimp only
  split
  · exact .next (.refl ..)
  · next e => exact .after ((State.take_keeps _ e).steady) (.ite (fun _ => .next (.refl ..)) fun _ => .ite (fun _ => .next (.dropSession
      (.refl ..) ..)) fun _ => .next (.trans (.trans (.ite_on ((State.peerLeaves_keeps ..).steady) (.refl ..) (.ite_on (.wr (.refl ..) ..)
      (.refl ..) (.trans (.ite_on (.setGroup (.refl ..) ..) (.refl ..) (.ite_on ((State.install_keeps ..).steady) (.refl ..) (.wr (.setPeer
      (.refl ..) ..) ..))) (State.renewLease_keeps ..).steady))) (State.syncWith_keeps ..).steady) (State.stewardDuty_keeps ..).steady))

theorem execPeerAbsent_steady (peer : Fin 24) (s : State) : Yields (Steady s) (execPeerAbsent peer s) :=
  .ite (fun _ => .next (.trans (.setPeer (.event (.setSession (.refl ..) ..) ..) ..) (State.stewardDuty_keeps ..).steady)) fun _ => .next
      (.refl ..)

theorem execViewPropose_steady (peer : Fin 24) (hdr : Hdr) (view : View) (s : State) : Yields (Steady s) (execViewPropose peer hdr view s)
    := by
  unfold execViewPropose
  dsimp only
  split
  · exact .next (.refl ..)
  · next e => exact .after ((State.take_keeps _ e).steady) (.ite (fun _ => .next (.record (.setGroup (.refl ..) ..) ..)) fun _ => .next
      (.refl ..))

theorem execViewAck_steady (peer : Fin 24) (hdr : Hdr) (view : View) (earlier : Option View) (s : State) : Yields (Steady s) (execViewAck
    peer hdr view earlier s) := by
  unfold execViewAck
  dsimp only
  split
  · exact .next (.refl ..)
  · next e => exact .after ((State.take_keeps _ e).steady) ((by
      split
      · exact .ite (fun _ => .next (.trans (.setGroup (.refl ..) ..) (State.countAcks_keeps ..).steady)) fun _ => .next (.refl ..)
      · exact .next (.refl ..)))

theorem execViewCommit_steady (peer : Fin 24) (hdr : Hdr) (view : View) (s : State) : Yields (Steady s) (execViewCommit peer hdr view s) :=
    by
  unfold execViewCommit
  dsimp only
  split
  · exact .next (.refl ..)
  · next e => exact .after ((State.take_keeps _ e).steady) (.ite (fun _ => .next ((State.install_keeps ..).steady)) fun _ => .next (.refl
      ..))

theorem execLeaveRequest_steady (peer : Fin 24) (hdr : Hdr) (s : State) : Yields (Steady s) (execLeaveRequest peer hdr s) := by
  unfold execLeaveRequest
  dsimp only
  split
  · exact .next (.refl ..)
  · next e => exact .after ((State.take_keeps _ e).steady) (.ite (fun _ => .next (.trans ((State.peerLeaves_keeps ..).steady)
      (State.stewardDuty_keeps ..).steady)) fun _ => .next (.refl ..))

theorem execGrantExpiry_steady (s : State) : Yields (Steady s) (execGrantExpiry s) :=
  .ite (fun _ => .next ((State.proposeSet_keeps ..).steady)) fun _ => .next (.refl ..)

theorem execProposalRetry_steady (s : State) : Yields (Steady s) (execProposalRetry s) := by
  unfold execProposalRetry
  dsimp only
  split
  · exact .ite (fun _ => .next (.trans (.setGroup (.refl ..) ..) (State.propose_keeps ..).steady)) fun _ => .next (.refl ..)
  · exact .next (.refl ..)

theorem execStewardLeaseExpiry_steady (s : State) : Yields (Steady s) (execStewardLeaseExpiry s) :=
  .ite (fun _ => .next (.setGroup (.wr (.wr (.refl ..) ..) ..) ..)) fun _ => .next (.refl ..)

theorem execIsolationTimeout_steady (s : State) : Yields (Steady s) (execIsolationTimeout s) :=
  .ite (fun _ => .next (.event (.wr (.refl ..) ..) ..)) fun _ => .next (.refl ..)

/-! ### Opening and closing -/

theorem execStripeOpenIssue_steady (s : State) : Yields (Steady s) (execStripeOpenIssue s) := by
  unfold execStripeOpenIssue
  dsimp only
  exact .ite (fun _ => (by
      split
      · exact .next (.trans (.fold (.setGroup (.refl ..) ..) (fun _ _ => .sendMsg (.refl ..) ..) _) (State.openStripe_keeps ..).steady)
      · exact .next (.refl ..))) fun _ => .next (.refl ..)

theorem execStripeOpen_steady (peer : Fin 24) (hdr : Hdr) (stripe k p q vacant view : Nat) (s : State) : Yields (Steady s) (execStripeOpen
    peer hdr stripe k p q vacant view s) := by
  unfold execStripeOpen
  dsimp only
  split
  · exact .next (.refl ..)
  · next e => exact .after ((State.take_keeps _ e).steady) (.ite (fun _ => .next ((State.openStripe_keeps ..).steady)) fun _ => .next
      (.refl ..))

theorem State.sealIfClosed_keeps (s : State) (num : Nat) : Keeps [.log, .group, .buses, .ftl, .engine] [Reg.GLI_STRIPE_CNT.OPEN,
    Reg.GLI_STRIPE_CNT.DEGRADED, Reg.GLI_STRIPE_LOST.COUNT, Reg.THI_OPS.COUNT, Reg.THI_TABLE.COUNT, Reg.THI_TABLE.FIRST,
    Reg.THI_STATUS.FREE_UNITS, Reg.THI_STATUS.COMPACTING] s (s.sealIfClosed num) := by
  unfold State.sealIfClosed
  split
  · exact .ite (.mono (State.stripeGo_keeps ..)) (.refl ..)
  · exact .refl ..

theorem execSegClose_steady (peer : Fin 24) (hdr : Hdr) (stripe slot granules : Nat) (s : State) : Yields (Steady s) (execSegClose peer hdr
    stripe slot granules s) := by
  unfold execSegClose
  dsimp only
  split
  · exact .next (.refl ..)
  · next e => exact .after ((State.take_keeps _ e).steady) ((by
      split
      · exact .ite (fun _ => .next (.trans (.ledger ((State.setStripe_keeps ..).steady) ..) (State.sealIfClosed_keeps ..).steady)) fun _ =>
          .next (.refl ..)
      · exact .next (.refl ..)))

theorem execSealWaitExpiry_steady (stripe : Nat) (s : State) : Yields (Steady s) (execSealWaitExpiry stripe s) := by
  unfold execSealWaitExpiry
  split
  · split
    · exact .ite (fun _ => .next (.trans ((State.segClose_keeps ..).steady) (State.sealIfClosed_keeps ..).steady)) fun _ => .next (.refl ..)
    · exact .next (.refl ..)
  · exact .next (.refl ..)

/-! ### Contributions -/

theorem execContrib_steady (peer : Fin 24) (hdr : Hdr) (stripe slot flags plan : Nat) (entries : List Entry) (s : State) : Yields (Steady
    s) (execContrib peer hdr stripe slot flags plan entries s) := by
  unfold execContrib
  dsimp only
  split
  · exact .next (.refl ..)
  · next e => exact .after ((State.take_keeps _ e).steady) (.ite (fun _ => .next (.refl ..)) fun _ => .ite (fun _ => .ite (fun _ => .next
      (.trans (.sendMsg (.refl ..) ..) (State.report_keeps ..).steady)) fun _ => .next (.event (.sendMsg (.refl ..) ..) ..)) fun _ => .ite
      (fun _ => (by
      split
      · exact .ite (fun _ => .next (.event (.sendMsg (.refl ..) ..) ..)) fun _ => .ite (fun _ => .next (.setGroup (.fold (.refl ..) (fun _
          _ => .ite ((by
          split
          · exact (State.applyParity_keeps ..).steady
          · exact .refl ..)) ((State.applyRebuilt_keeps ..).steady)) _) ..)) fun _ => .next (.event (.sendMsg (.refl ..) ..) ..)
      · exact .next (.event (.sendMsg (.refl ..) ..) ..))) fun _ => .next ((State.contribParity_keeps ..).steady))

theorem State.ackVersion_keeps (s : State) (g : Gran) (isQ : Bool) : Keeps [.ftl] [] s (s.ackVersion g isQ) :=
  .mono (State.mapVersions_keeps ..)

theorem State.acked_keeps (s : State) (p : PStripe) (m : Sent) (isQ : Bool) : Keeps [.log, .group, .buses, .ftl, .engine]
    [Reg.GLI_STRIPE_CNT.OPEN, Reg.GLI_STRIPE_CNT.DEGRADED, Reg.GLI_STRIPE_LOST.COUNT, Reg.THI_OPS.COUNT, Reg.THI_TABLE.COUNT,
    Reg.THI_TABLE.FIRST, Reg.THI_STATUS.FREE_UNITS, Reg.THI_STATUS.COMPACTING] s (s.acked p m isQ) :=
  .ite_on (.ite (.mono (State.stripeGo_keeps ..)) (.refl ..)) (.foldl (.refl ..) fun _ _ => .mono (State.ackVersion_keeps ..)) (.mono
      (State.setStripe_keeps ..))

theorem execContribAck_steady (peer : Fin 24) (hdr : Hdr) (stripe cseq role status : Nat) (s : State) : Yields (Steady s) (execContribAck
    peer hdr stripe cseq role status s) := by
  unfold execContribAck
  dsimp only
  split
  · exact .next (.refl ..)
  · next e => exact .after ((State.take_keeps _ e).steady) ((by
      split
      · exact .next (.refl ..)
      · exact .ite (fun _ => (by
          split
          · exact .ite (fun _ => .next (.setCtx (.setGroup (.refl ..) ..) ..)) fun _ => .next (.setGroup (.refl ..) ..)
          · exact .next (.setGroup (.refl ..) ..))) fun _ => (by
          split
          · exact .next (.setGroup (.refl ..) ..)
          · exact .ite (fun _ => .next (.setGroup (.refl ..) ..)) fun _ => .ite (fun _ => .next (.trans (.setGroup (.refl ..) ..)
              (State.acked_keeps ..).steady)) fun _ => .ite (fun _ => .next (.setGroup (.refl ..) ..)) fun _ => .ite (fun _ => .next
              (.trans (.setGroup (.refl ..) ..) (State.push_keeps ..).steady)) fun _ => .next (.trans (.setGroup (.refl ..) ..)
              (State.replaceGrans_keeps ..).steady))))

theorem execRangeNote_steady (peer : Fin 24) (hdr : Hdr) (stripe slba nblk : Nat) (zeroes : Bool) (incarnation osn : Nat) (s : State) :
    Yields (Steady s) (execRangeNote peer hdr stripe slba nblk zeroes incarnation osn s) := by
  unfold execRangeNote
  dsimp only
  split
  · exact .next (.refl ..)
  · next e => exact .after ((State.take_keeps _ e).steady) (.ite (fun _ => .next (.refl ..)) fun _ => (by
      split
      · split
        · exact .ite (fun _ => .next (.setGroup (.ledger ((State.setStripe_keeps ..).steady) ..) ..)) fun _ => .next (.sendMsg (.refl ..)
            ..)
        · exact .next (.sendMsg (.refl ..) ..)
      · exact .next (.sendMsg (.refl ..) ..)))

theorem execStripeState_steady (peer : Fin 24) (hdr : Hdr) (stripe state erased : Nat) (s : State) : Yields (Steady s) (execStripeState
    peer hdr stripe state erased s) := by
  unfold execStripeState
  dsimp only
  split
  · exact .next (.refl ..)
  · next e => exact .after ((State.take_keeps _ e).steady) ((by
      split
      · exact .ite (fun _ => .next ((State.stripeGo_keeps ..).steady)) fun _ => .next (.refl ..)
      · exact .next (.refl ..)))

/-! ### Rebuild -/

theorem execRebuildPlan_steady (peer : Fin 24) (hdr : Hdr) (plan view stripe erased first : Nat) (s : State) : Yields (Steady s)
    (execRebuildPlan peer hdr plan view stripe erased first s) := by
  unfold execRebuildPlan
  dsimp only
  split
  · exact .next (.refl ..)
  · next e => exact .after ((State.take_keeps _ e).steady) (.ite (fun _ => .next (.refl ..)) fun _ => (by
      split
      · exact .ite (fun _ => .next (.trans (.ite (.refl ..) ((State.openStripe_keeps ..).steady)) (State.takePlan_keeps ..).steady)) fun _
          => .next (.ite (.refl ..) ((State.openStripe_keeps ..).steady))
      · exact .next (.ite (.refl ..) ((State.openStripe_keeps ..).steady))))

theorem State.rebuilt_keeps (s : State) (p : PStripe) : Keeps [.log, .group, .buses, .ftl, .engine] [Reg.GLI_REBUILD.PLANNING,
    Reg.GLI_STRIPE_CNT.OPEN, Reg.GLI_STRIPE_CNT.DEGRADED, Reg.GLI_STRIPE_LOST.COUNT, Reg.THI_OPS.COUNT, Reg.THI_TABLE.COUNT,
    Reg.THI_TABLE.FIRST, Reg.THI_STATUS.FREE_UNITS, Reg.THI_STATUS.COMPACTING] s (s.rebuilt p) :=
  .ite_on (.refl ..) (.wr (.refl ..)) (.foldl (.event (.mono (State.stripeGo_keeps ..))) fun _ _ => .ite (.refl ..) (.mono
      (State.sendMsg_keeps ..)))

theorem State.chunkDone_keeps (s : State) (p : PStripe) (chunk status : Nat) : Keeps [.log, .group, .buses, .ftl, .engine]
    [Reg.GLI_STRIPE_CNT.OPEN, Reg.GLI_STRIPE_CNT.DEGRADED, Reg.GLI_STRIPE_LOST.COUNT, Reg.THI_OPS.COUNT, Reg.THI_TABLE.COUNT,
    Reg.THI_TABLE.FIRST, Reg.THI_STATUS.FREE_UNITS, Reg.THI_STATUS.COMPACTING, Reg.GLI_REBUILD.PLANNING] s (s.chunkDone p chunk status) :=
  .ite_on (.mono (State.stripeGo_keeps ..)) (.ite (.mono (State.rebuilt_keeps ..)) (.refl ..)) (.andThen (.mono (State.setStripe_keeps ..))
      (State.checkpoint_keeps ..))

theorem execChunkDone_steady (peer : Fin 24) (hdr : Hdr) (plan stripe chunk status unsolved : Nat) (s : State) : Yields (Steady s)
    (execChunkDone peer hdr plan stripe chunk status unsolved s) := by
  unfold execChunkDone
  dsimp only
  split
  · exact .next (.refl ..)
  · next e => exact .after ((State.take_keeps _ e).steady) ((by
      split
      · exact .ite (fun _ => .next ((State.chunkDone_keeps ..).steady)) fun _ => .next (.refl ..)
      · exact .next (.refl ..)))

theorem execCheckpoint_steady (peer : Fin 24) (hdr : Hdr) (plan stripe next erased : Nat) (s : State) : Yields (Steady s) (execCheckpoint
    peer hdr plan stripe next erased s) := by
  unfold execCheckpoint
  dsimp only
  split
  · exact .next (.refl ..)
  · next e => exact .after ((State.take_keeps _ e).steady) (.ite (fun _ => (by
      split
      · exact .next (.trans (.record (.refl ..) ..) (State.setStripe_keeps ..).steady)
      · exact .next (.record (.refl ..) ..))) fun _ => .next (.refl ..))

theorem execCheckpointTimer_steady (s : State) : Yields (Steady s) (execCheckpointTimer s) :=
  .ite (fun _ => .next (.fold (.refl ..) (fun _ _ => (State.checkpoint_keeps ..).steady) _)) fun _ => .next (.refl ..)

/-! ### Reconciliation (R420) -/

theorem State.reconcile_keeps (s : State) (p : PStripe) (j : Nat) : Keeps [.log, .group, .buses, .ftl, .engine] [Reg.GLI_STRIPE_CNT.OPEN,
    Reg.GLI_STRIPE_CNT.DEGRADED, Reg.GLI_STRIPE_LOST.COUNT, Reg.THI_OPS.COUNT, Reg.THI_TABLE.COUNT, Reg.THI_TABLE.FIRST,
    Reg.THI_STATUS.FREE_UNITS, Reg.THI_STATUS.COMPACTING] s (s.reconcile p j) := by
  unfold State.reconcile
  dsimp only
  split
  · exact .ite (.mono (State.stripeGo_keeps ..)) (.refl ..)
  · exact .refl ..

theorem execLedgerSync_steady (peer : Fin 24) (hdr : Hdr) (stripe slot first : Nat) (states : List Nat) (s : State) : Yields (Steady s)
    (execLedgerSync peer hdr stripe slot first states s) := by
  unfold execLedgerSync
  dsimp only
  split
  · exact .next (.refl ..)
  · next e => exact .after ((State.take_keeps _ e).steady) (.ite (fun _ => .next (.refl ..)) fun _ => (by
      split
      · exact .next (.sendMsg (.refl ..) ..)
      · exact .ite (fun _ => .next ((State.reconcile_keeps ..).steady)) fun _ => .ite (fun _ => .next (.sendMsg (.trans ((State.push_keeps
          ..).steady) (State.push_keeps ..).steady) ..)) fun _ => .ite (fun _ => .next ((State.reconcile_keeps ..).steady)) fun _ => .next
          (.refl ..)))

/-! ### Outer reads and outer patrol -/

theorem execOuterRead_steady (peer : Fin 24) (hdr : Hdr) (stripe slot first count : Nat) (s : State) : Yields (Steady s) (execOuterRead
    peer hdr stripe slot first count s) := by
  unfold execOuterRead
  dsimp only
  split
  · exact .next (.refl ..)
  · next e => exact .after ((State.take_keeps _ e).steady) ((by
      split
      · exact .ite (fun _ => .next ((State.push_keeps ..).steady)) fun _ => .next (.refl ..)
      · exact .next (.refl ..)))

theorem execPatrolRequest_steady (peer : Fin 24) (hdr : Hdr) (stripe chunk count : Nat) (s : State) : Yields (Steady s) (execPatrolRequest
    peer hdr stripe chunk count s) := by
  unfold execPatrolRequest
  dsimp only
  split
  · exact .next (.refl ..)
  · next e => exact .after ((State.take_keeps _ e).steady) (.ite (fun _ => .next (.refl ..)) fun _ => (by split <;> exact .next (.sendMsg
      (.refl ..) ..)))

theorem State.patrolJudge_keeps (s : State) (p : PStripe) (w : PatrolWait) : Keeps [.group, .buses, .log, .patrol]
    [Reg.MIN_CNT.OUTER_MISMATCH] s (s.patrolJudge p w) :=
  .ite_on (.mono (State.sendMsg_keeps ..)) (.ite (.refl ..) (.foldl (.refl ..) fun _ _ => .ite (.refl ..) (.event (.bump (.refl ..)))))
      (.with_patrol (.refl ..))

theorem execPatrolReply_steady (peer : Fin 24) (hdr : Hdr) (stripe chunk count slot status : Nat) (digests : List Nat) (s : State) : Yields
    (Steady s) (execPatrolReply peer hdr stripe chunk count slot status digests s) := by
  unfold execPatrolReply
  dsimp only
  split
  · exact .next (.refl ..)
  · next e => exact .after ((State.take_keeps _ e).steady) (.ite (fun _ => .next (.refl ..)) fun _ => (by
      split
      · exact .ite (fun _ => .next (.trans (.with_patrol (.refl ..) ..) (State.patrolJudge_keeps ..).steady)) fun _ => .next (.with_patrol
          (.refl ..) ..)
      · exact .next (.refl ..)))

theorem execPatrolReplyTimeout_steady (s : State) : Yields (Steady s) (execPatrolReplyTimeout s) :=
  .ite (fun _ => .next (.with_patrol (.refl ..) ..)) fun _ => .next (.refl ..)

/-! ### Row rebuilds (R325, R326) -/

theorem State.rowFailed_keeps (s : State) (d : Dec) : Keeps [.log, .decodes, .group, .buses, .contexts] [Reg.MIN_CNT2.ESCALATED,
    Reg.SEC_CNT.AUTH_FAIL] s (s.rowFailed d) := by
  unfold State.rowFailed
  dsimp only
  split
  · exact .andThen (.andThen (.event (.bump (.refl ..))) (State.mapDecs_keeps ..)) (State.outerRead_keeps ..)
  · exact .mono (State.unrecovered_keeps ..)

theorem execRowRebuildDone_steady (page : Nat) (cw : Fin 16) (okD : Bool) (s : State) : Yields (Steady s) (execRowRebuildDone page cw okD
    s) := by
  unfold execRowRebuildDone
  dsimp only
  exact .ite (fun _ => .next (.fold (.ite (.trans (.event (.count (.refl ..) ..) ..) (State.refresh_keeps ..).steady) (.refl ..)) (fun _ _
      => .ite ((by
      split
      · exact .trans ((State.dropDec_keeps ..).steady) (State.blockReady_keeps ..).steady
      · exact .trans ((State.dropDec_keeps ..).steady) (State.blockBad_keeps ..).steady
      · exact .ite ((State.unrecovered_keeps ..).steady) ((State.rowFailed_keeps ..).steady))) ((State.rowFailed_keeps ..).steady)) _)) fun
          _ => .next (.refl ..)

/-! ### Die sets and free blocks (R351, R352, R361) -/

theorem State.refreshFree_keeps (s : State) : Keeps [.ftl] [Reg.FTL_FREE.BANDS, Reg.FTL_FREE.OPEN, Reg.FTL_FREE.RANGES] s (s.refreshFree) :=
  .with_ftl (.wr (.wr (.wr (.refl ..))))

/-! ### Forming a band (R351, R352) -/

theorem State.unrefBlock_keeps (s : State) (a : Nat) : Keeps [.engine, .log] [Reg.THI_OPS.COUNT, Reg.THI_TABLE.COUNT, Reg.THI_TABLE.FIRST,
    Reg.THI_STATUS.FREE_UNITS, Reg.THI_STATUS.COMPACTING] s (s.unrefBlock a) :=
  .ite (.mono (State.thiDeleteMatch_keeps ..)) (.refl ..)

theorem State.feedErases_keeps (s : State) : Keeps [.luns, .flash, .engine, .log] [Reg.THI_OPS.COUNT, Reg.THI_TABLE.COUNT,
    Reg.THI_TABLE.FIRST, Reg.THI_STATUS.FREE_UNITS, Reg.THI_STATUS.COMPACTING] s (s.feedErases) := by
  unfold State.feedErases
  dsimp only
  exact .foldl (.refl ..) fun _ _ => (by
      split
      · next e => exact .trans (.mono (State.post_keeps _ e)) (.foldl (.refl ..) fun _ _ => .andThen (.setBlk (.refl ..))
          (State.unrefBlock_keeps ..))
      · exact .refl ..)

/-! ### Folds (R200, R203) -/

theorem State.startFold_keeps (s : State) (b : Band) (cls : Cls) (ius lost : List Nat) : Keeps [.flash, .luns, .ftl, .log, .group, .buses]
    [Reg.WBF_EVT.MERGE_LOST, Reg.GLI_STRIPE_CNT.OPEN, Reg.GLI_STRIPE_CNT.DEGRADED, Reg.GLI_WITHDRAWN.COUNT] s (s.startFold b cls ius lost)
    :=
  .andThen (.foldl (.andThen (.mono (State.startStripe_keeps ..)) (State.mapVersions_keeps ..)) fun _ _ => .event (.wr (.refl ..)))
      (State.withdraw_keeps ..)

/-! ### Copies (R358, R359, R362, R363) -/

theorem State.startCopies_keeps (s : State) (b : Band) (m : List (Nat × Nat)) (cause : Nat) (lost : List Nat) : Keeps [.engine, .log,
    .flash, .luns, .ftl] [Reg.THI_OPS.COUNT, Reg.THI_CNT.NO_ROOM, Reg.THI_TABLE.COUNT, Reg.THI_TABLE.FIRST, Reg.THI_STATUS.FREE_UNITS,
    Reg.THI_STATUS.COMPACTING] s (s.startCopies b m cause lost) :=
  .ite (.mono (State.refCopies_keeps ..)) (.andThen (.mono (State.refCopies_keeps ..)) (State.startStripe_keeps ..))

/-! ### Mapping a word line (R355) -/

theorem State.mapStripes_keeps (s : State) : Keeps [.ftl, .flash] [] s (s.mapStripes) := by
  unfold State.mapStripes
  dsimp only
  exact .foldl (.refl ..) fun _ _ => .foldl (.refl ..) fun _ _ => .ite (.foldl (.refl ..) fun _ _ => .ite (.refl ..) ((by
      split
      · exact .setBand (.record (.refl ..))
      · exact .record (.refl ..)))) (.refl ..)

theorem State.dropStripes_keeps (s : State) : Keeps [.flash] [] s (s.dropStripes) :=
  .with_bands (.refl ..)

theorem State.applyMap_keeps (s : State) (guarded : Bool) (iu entry old : Nat) : Keeps [.flash, .ftl, .group, .log] [] s (s.applyMap
    guarded iu entry old) :=
  .ite (.ite (.andThen (.mono (State.setMap_keeps ..)) (State.moveGrans_keeps ..)) (.event (.refl ..))) (.andThen (.andThen (.mono
      (State.setMap_keeps ..)) (State.moveGrans_keeps ..)) (State.mapVersions_keeps ..))

/-! ### Ranges (R356, R357) -/

theorem State.setRange_keeps (s : State) (i : Nat) (r : RangeEnt) : Keeps [.ftl] [] s (s.setRange i r) :=
  .with_ftl (.refl ..)

theorem execRangeApply_steady (entry : Fin 64) (s : State) : Yields (Steady s) (execRangeApply entry s) := by
  unfold execRangeApply
  dsimp only
  split
  · exact .ite (fun _ => .ite (fun _ => .next (.record (.trans (.with_bands (.mapVersions (.fold (.refl ..) (fun _ _ => .ite (.refl ..)
      ((State.setMap_keeps ..).steady)) _) ..) ..) (State.setRange_keeps ..).steady) ..)) fun _ => .next (.trans (.with_bands (.mapVersions
      (.fold (.refl ..) (fun _ _ => .ite (.refl ..) ((State.setMap_keeps ..).steady)) _) ..) ..) (State.setRange_keeps ..).steady)) fun _
      => .next (.refl ..)
  · exact .next (.refl ..)

theorem State.rangeDone_keeps (s : State) (osn : Nat) : Keeps [.engine, .log, .ftl] [Reg.THI_OPS.COUNT, Reg.THI_TABLE.COUNT,
    Reg.THI_TABLE.FIRST, Reg.THI_STATUS.FREE_UNITS, Reg.THI_STATUS.COMPACTING] s (s.rangeDone osn) := by
  unfold State.rangeDone
  split
  · exact .andThen (.mono (State.thiRangeDrop_keeps ..)) (State.setRange_keeps ..)
  · exact .refl ..

theorem State.addRange_keeps (s : State) (r : RangeEnt) : Keeps [.ftl, .engine, .log] [Reg.THI_OPS.COUNT, Reg.THI_TABLE.COUNT,
    Reg.THI_TABLE.FIRST, Reg.THI_STATUS.FREE_UNITS, Reg.THI_STATUS.COMPACTING, Reg.THI_CNT.NO_ROOM] s (s.addRange r) := by
  unfold State.addRange
  dsimp only
  split
  · exact .andThen (.with_ftl (.refl ..)) (State.thiRangeInsert_keeps ..)
  · exact .refl ..

/-! ### Free bands, erases, wear -/

theorem execFreeBandStateChange_steady (s : State) : Yields (Steady s) (execFreeBandStateChange s) :=
  .ite (fun _ => .ite (fun _ => .next ((State.refreshFree_keeps ..).steady)) fun _ => .next (.event (.wr ((State.refreshFree_keeps
      ..).steady) ..) ..)) fun _ => .next (.refl ..)

theorem execGcEraseStart_steady (block : Nat) (s : State) : Yields (Steady s) (execGcEraseStart block s) :=
  .ite (fun _ => .ite (fun _ => .next (.record (.fold ((State.withdraw_keeps ..).steady) (fun _ _ => .setBlk (.refl ..) ..) _) ..)) fun _
      => .next ((State.withdraw_keeps ..).steady)) fun _ => .next (.refl ..)

theorem State.refreshWear_keeps (s : State) : Keeps [.ftl] [Reg.FTL_WEAR.MIN_EC, Reg.FTL_WEAR.MAX_EC] s (s.refreshWear) :=
  .with_ftl (.wr (.wr (.refl ..)))

theorem execWearLevelStart_steady (s : State) : Yields (Steady s) (execWearLevelStart s) :=
  .ite (fun _ => .ite (fun _ => .next (.with_ftl ((State.refreshWear_keeps ..).steady) ..)) fun _ => .next ((State.refreshWear_keeps
      ..).steady)) fun _ => .next (.refl ..)

/-! ### Spare space and grades (R367, R368) -/

theorem State.regrade_keeps (s : State) : Keeps [.log, .endpoint, .rings, .vectors, .buses, .ftl, .contexts] [Reg.FTL_HEALTH.GRADE,
    Reg.HIF_ASYNC.PEND, Reg.FTL_HEALTH.SPARE_PCT, Reg.FTL_HEALTH.WEAR_PCT, Reg.FTL_HEALTH.READ_ONLY] s (s.regrade) :=
  .ite_on (.refl ..) (.andThen (.event (.wr (.refl ..))) (State.asyncAll_keeps ..)) (.wr (.wr (.wr (.ite (.event (.foldl (.with_ftl (.refl
      ..)) fun _ _ => .mono (State.endCtx_keeps ..))) (.refl ..)))))

theorem execGradeRecompute_steady (s : State) : Yields (Steady s) (execGradeRecompute s) :=
  .ite (fun _ => .next (.trans ((State.refreshWear_keeps ..).steady) (State.regrade_keeps ..).steady)) fun _ => .next (.refl ..)

/-! ### Map write-out and checkpoints (R348, R349) -/

theorem State.writeOut_keeps (s : State) : Keeps [.ftl] [] s (s.writeOut) := by
  unfold State.writeOut
  dsimp only
  split
  · exact .record (.with_ftl (.refl ..))
  · exact .refl ..

theorem State.refreshJournal_keeps (s : State) : Keeps [.ftl] [Reg.FTL_JOURNAL.MIB, Reg.FTL_JOURNAL.URGENT] s (s.refreshJournal) :=
  .wr (.wr (.with_ftl (.refl ..)))

theorem execCheckpointAdvance_steady (s : State) : Yields (Steady s) (execCheckpointAdvance s) :=
  .ite (fun _ => .next (.trans (.record (.with_ftl (.refl ..) ..) ..) (State.refreshJournal_keeps ..).steady)) fun _ => .next (.refl ..)

theorem execJournalUrgent_steady (s : State) : Yields (Steady s) (execJournalUrgent s) :=
  .ite (fun _ => .next (.wr (.with_ftl (.refl ..) ..) ..)) fun _ => .next (.refl ..)

theorem execJournalFull_steady (s : State) : Yields (Steady s) (execJournalFull s) :=
  .ite (fun _ => .next (.event (.with_ftl (.refl ..) ..) ..)) fun _ => .next (.refl ..)

/-! ### Running a bus phase (R282 to R295) -/

theorem State.continue__keeps (s : State) (c l : Nat) (caps : List Nat) : Keeps [.luns, .decodes, .flash, .ftl, .health, .log, .engine,
    .endpoint, .rings, .vectors, .buses, .channels] [Reg.CHN_CNT.CHECK_FAULTS, Reg.CHN_FAULT.CODE, Reg.CHN_FAULT.LUN, Reg.CHN_FAULT.VALID,
    Reg.CHN_FAULT_ADDR.ADDR, Reg.CHN_LUN_FAIL.FAILED, Reg.THI_OPS.COUNT, Reg.THI_TABLE.COUNT, Reg.THI_TABLE.FIRST,
    Reg.THI_STATUS.FREE_UNITS, Reg.THI_STATUS.COMPACTING, Reg.HIF_ASYNC.PEND, Reg.UCS_CNT.OVERRUNS, Reg.UCS_TRAP.CODE,
    Reg.UCS_TRAP.CHANNEL, Reg.UCS_TRAP.LUN, Reg.UCS_TRAP.ADDR, Reg.UCS_TRAP.VALID] s (s.continue_ c l caps) := by
  unfold State.continue_
  dsimp only
  split
  · exact .refl ..
  · exact .andThen (.setLun (.refl ..)) (State.runLun_keeps ..)

/-! ### Starting operations (R255, R257, R261, R262) -/

theorem State.retrySet_keeps (s : State) (c l : Nat) (o : Op) : Keeps [.luns, .channels] [] s (s.retrySet c l o) := by
  unfold State.retrySet
  dsimp only
  exact .ite ((by
      split
      · exact .setChn (.setLun (.refl ..))
      · exact .refl ..)) (.refl ..)

theorem State.startOp_keeps (s : State) (c l : Nat) (o : Op) : Keeps [.log, .decodes, .flash, .ftl, .health, .luns, .engine, .endpoint,
    .rings, .vectors, .buses, .channels] [Reg.CHN_CNT.CHECK_FAULTS, Reg.CHN_FAULT.CODE, Reg.CHN_FAULT.LUN, Reg.CHN_FAULT.VALID,
    Reg.CHN_FAULT_ADDR.ADDR, Reg.CHN_LUN_FAIL.FAILED, Reg.THI_OPS.COUNT, Reg.THI_TABLE.COUNT, Reg.THI_TABLE.FIRST,
    Reg.THI_STATUS.FREE_UNITS, Reg.THI_STATUS.COMPACTING, Reg.HIF_ASYNC.PEND, Reg.UCS_CNT.OVERRUNS, Reg.UCS_TRAP.CODE,
    Reg.UCS_TRAP.CHANNEL, Reg.UCS_TRAP.LUN, Reg.UCS_TRAP.ADDR, Reg.UCS_TRAP.VALID] s (s.startOp c l o) :=
  .ite_on (.andThen (.ite_on (.event (.refl ..)) (.refl ..) (.mono (State.chFault_keeps ..))) (State.opRefused_keeps ..)) (.andThen
      (.setLun (.mono (State.retrySet_keeps ..))) (State.runLun_keeps ..)) (.setLun (.refl ..))

/-! ### LUN rows -/

theorem execLunReady_steady (ch : Chan) (lun : LunNo) (bytes : List Nat) (s : State) : Yields (Steady s) (execLunReady ch lun bytes s) := by
  unfold execLunReady
  dsimp only
  exact .ite (fun _ => (by
      split
      · split
        · exact .ite (fun _ => .next (.ite_on ((State.freeLun_keeps ..).steady) (.refl ..) (.trans (.setLun (.refl ..) ..)
            (State.continue__keeps ..).steady))) fun _ => .ite (fun _ => .next (.ite_on ((State.continue__keeps ..).steady) (.refl ..)
            (.trans (.setLun (.refl ..) ..) (State.continue__keeps ..).steady))) fun _ => .next (.setLun (.setLun (.refl ..) ..) ..)
        · exact .next (.refl ..)
      · exact .next (.refl ..))) fun _ => .next (.refl ..)

theorem execTimedWaitEnd_steady (ch : Chan) (lun : LunNo) (s : State) : Yields (Steady s) (execTimedWaitEnd ch lun s) :=
  .ite (fun _ => .next (.setLun (.refl ..) ..)) fun _ => .next (.refl ..)

theorem execSuspendIssue_steady (ch : Chan) (lun : LunNo) (s : State) : Yields (Steady s) (execSuspendIssue ch lun s) := by
  unfold execSuspendIssue
  dsimp only
  split
  · exact .ite (fun _ => .next (.trans (.bump (.setLun (.refl ..) ..) ..) (State.runLun_keeps ..).steady)) fun _ => .next (.refl ..)
  · exact .next (.refl ..)

theorem State.resumeLun_keeps (s : State) (c l : Nat) : Keeps [.luns, .decodes, .flash, .ftl, .health, .log, .engine, .endpoint, .rings,
    .vectors, .buses, .channels] [Reg.CHN_CNT.CHECK_FAULTS, Reg.CHN_FAULT.CODE, Reg.CHN_FAULT.LUN, Reg.CHN_FAULT.VALID,
    Reg.CHN_FAULT_ADDR.ADDR, Reg.CHN_LUN_FAIL.FAILED, Reg.THI_OPS.COUNT, Reg.THI_TABLE.COUNT, Reg.THI_TABLE.FIRST,
    Reg.THI_STATUS.FREE_UNITS, Reg.THI_STATUS.COMPACTING, Reg.HIF_ASYNC.PEND, Reg.UCS_CNT.OVERRUNS, Reg.UCS_TRAP.CODE,
    Reg.UCS_TRAP.CHANNEL, Reg.UCS_TRAP.LUN, Reg.UCS_TRAP.ADDR, Reg.UCS_TRAP.VALID] s (s.resumeLun c l) := by
  unfold State.resumeLun
  dsimp only
  split
  · exact .andThen (.setLun (.refl ..)) (State.runLun_keeps ..)
  · exact .refl ..

theorem execResumeIssue_steady (ch : Chan) (lun : LunNo) (s : State) : Yields (Steady s) (execResumeIssue ch lun s) :=
  .ite (fun _ => .next ((State.resumeLun_keeps ..).steady)) fun _ => .next (.refl ..)

theorem execSuspendHoldExpiry_steady (ch : Chan) (lun : LunNo) (s : State) : Yields (Steady s) (execSuspendHoldExpiry ch lun s) :=
  .ite (fun _ => .next ((State.resumeLun_keeps ..).steady)) fun _ => .next (.refl ..)

theorem execBusPhaseStop_steady (ch : Chan) (lun : LunNo) (s : State) : Yields (Steady s) (execBusPhaseStop ch lun s) := by
  unfold execBusPhaseStop
  dsimp only
  split
  · exact .next (.trans (.trans (.event (.refl ..) ..) (State.opTrap_keeps ..).steady) (State.resetLun_keeps ..).steady)
  · exact .next (.refl ..)

/-! ### Engine restarts (R103, R257, R275) -/

theorem State.restartLun_keeps (s : State) (c l : Nat) : Keeps [.luns, .flash, .decodes, .ftl, .health, .log, .engine, .endpoint, .rings,
    .vectors, .buses] [Reg.CHN_LUN_FAIL.FAILED, Reg.THI_OPS.COUNT, Reg.THI_TABLE.COUNT, Reg.THI_TABLE.FIRST, Reg.THI_STATUS.FREE_UNITS,
    Reg.THI_STATUS.COMPACTING, Reg.HIF_ASYNC.PEND] s (s.restartLun c l) := by
  unfold State.restartLun
  dsimp only
  exact .foldl (.foldl (.setLun (.refl ..)) fun _ _ => (by
      split
      · exact .foldl (.refl ..) fun _ _ => .setBlk (.refl ..)
      · exact .refl ..)) fun _ _ => .andThen (.foldl (.refl ..) fun _ _ => .setPage (.refl ..)) (State.opRefused_keeps ..)

theorem State.restartEngine_keeps (s : State) (c l : Nat) : Keeps [.log, .luns, .flash, .decodes, .ftl, .health, .engine, .endpoint,
    .rings, .vectors, .buses] [Reg.CHN_CNT.CHECK_FAULTS, Reg.CHN_FAULT.CODE, Reg.CHN_FAULT.LUN, Reg.CHN_FAULT.VALID,
    Reg.CHN_FAULT_ADDR.ADDR, Reg.CHN_LUN_FAIL.FAILED, Reg.THI_OPS.COUNT, Reg.THI_TABLE.COUNT, Reg.THI_TABLE.FIRST,
    Reg.THI_STATUS.FREE_UNITS, Reg.THI_STATUS.COMPACTING, Reg.HIF_ASYNC.PEND] s (s.restartEngine c l) :=
  .foldl (.event (.mono (State.chFault_keeps ..))) fun _ _ => .mono (State.restartLun_keeps ..)

theorem execChannelEngineStall_steady (ch : Chan) (lun : LunNo) (s : State) : Yields (Steady s) (execChannelEngineStall ch lun s) :=
  .ite (fun _ => .next ((State.restartEngine_keeps ..).steady)) fun _ => .next (.refl ..)

theorem execChannelRestart_steady (fn : Fn) (ch : Chan) (s : State) : Yields (Steady s) (execChannelRestart fn ch s) :=
  .ite (fun _ => .ite (fun _ => .next (.trans (.wakeTlp (.refl ..) ..) (State.restartEngine_keeps ..).steady)) fun _ => .next (.wakeTlp
      (.refl ..) ..)) fun _ => .next (.refl ..)

/-! ### Initialisation and training (R252, R253, R270, R319) -/

theorem State.channelFail_keeps (s : State) (c rate : Nat) : Keeps [.log, .health, .flash, .luns, .decodes, .engine, .endpoint, .rings,
    .vectors, .buses] [Reg.CHN_ENG_STATUS.STATE, Reg.THI_OPS.COUNT, Reg.THI_TABLE.COUNT, Reg.THI_TABLE.FIRST, Reg.THI_STATUS.FREE_UNITS,
    Reg.THI_STATUS.COMPACTING, Reg.HIF_ASYNC.PEND] s (s.channelFail c rate) :=
  .andThen (.andThen (.foldl (.with_blks_bands_luns (.setHealth (.event (.wr (.refl ..))))) fun _ _ => .mono (State.toRow_keeps ..))
      (State.thiPartGone_keeps ..)) (State.partFail_keeps ..)

theorem execChannelInitDone_steady (ch : Chan) (ids : List (Option Nat)) (rate : Fin 6) (temp : Int) (s : State) : Yields (Steady s)
    (execChannelInitDone ch ids rate temp s) := by
  unfold execChannelInitDone
  dsimp only
  exact .ite (fun _ => .ite (fun _ => .next ((State.channelFail_keeps ..).steady)) fun _ => .next (.setChn (.bump (.wr (.wr (.wr (.fold
      (.refl ..) (fun _ _ => (by
      split
      · exact .setLun (.refl ..) ..
      · exact .ite (.refl ..) (.trans (.event (.refl ..) ..) (State.dieRetire_keeps ..).steady))) _) ..) ..) ..) ..) ..)) fun _ => .next
          (.refl ..)

theorem execZqShortCal_steady (ch : Chan) (code : Nat) (s : State) : Yields (Steady s) (execZqShortCal ch code s) :=
  .ite (fun _ => .ite (fun _ => .next (.setChn (.refl ..) ..)) fun _ => .next (.setChn (.setChn (.refl ..) ..) ..)) fun _ => .next (.refl
      ..)

theorem execChannelRetrainStart_steady (ch : Chan) (s : State) : Yields (Steady s) (execChannelRetrainStart ch s) :=
  .ite (fun _ => .next (.setChn (.refl ..) ..)) fun _ => .next (.refl ..)

theorem execChannelRetrainDone_steady (ch : Chan) (s : State) : Yields (Steady s) (execChannelRetrainDone ch s) :=
  .ite (fun _ => .next (.event (.bump (.wr (.setChn (.refl ..) ..) ..) ..) ..)) fun _ => .next (.refl ..)

theorem execRawEn_steady (fn : Fn) (ch : Chan) (mask : Word) (s : State) : Yields (Steady s) (execRawEn fn ch mask s) :=
  .ite (fun _ => .ite (fun _ => .next (.wakeTlp (.refl ..) ..)) fun _ => .next (.wr (.wakeTlp (.refl ..) ..) ..)) fun _ => .next (.refl ..)

theorem execUcodeTablesActive_steady (s : State) : Yields (Steady s) (execUcodeTablesActive s) :=
  .ite (fun _ => .ite (fun _ => .next (.with_ucode (.wr ((State.loadTables_keeps ..).steady) ..) ..)) fun _ => .next (.setCtx (.with_ucode
      (.wr ((State.loadTables_keeps ..).steady) ..) ..) ..)) fun _ => .next (.refl ..)

/-! ### The fan bridges and the fan states -/

theorem State.fanStart_keeps (s : State) (f : Nat) : Keeps [.fans] [Reg.FAN_F.STATE, Reg.FAN_F.DUTY, Reg.FAN_F.STARTS] s (s.fanStart f) :=
  .bump (.mono (State.fanGo_keeps ..))

theorem State.fanFail_keeps (s : State) (f : Nat) : Keeps [.fans, .log] [Reg.FAN_F.STATE, Reg.FAN_F.DUTY, Reg.FAN_F.FAILS] s (s.fanFail f)
    :=
  .event (.wr (.mono (State.fanGo_keeps ..)))

theorem State.fanRun_keeps (s : State) (f : Nat) : Keeps [.health, .log, .fans] [Reg.FAN_STATUS.FAULT_MASK, Reg.FAN_F.STATE,
    Reg.FAN_F.DUTY] s (s.fanRun f) :=
  .ite_on (.event (.setHealth (.wr (.refl ..)))) (.refl ..) (.setFan (.mono (State.fanGo_keeps ..)))

theorem State.fanFault_keeps (s : State) (f : Nat) (wrongMotor : Bool) : Keeps [.fans, .health, .log, .endpoint, .rings, .vectors, .buses]
    [Reg.FAN_F.STATE, Reg.FAN_F.DUTY, Reg.FAN_STATUS.FAULT_MASK, Reg.HIF_ASYNC.PEND] s (s.fanFault f wrongMotor) :=
  .andThen (.event (.setHealth (.wr (.mono (State.fanGo_keeps ..))))) (State.asyncAll_keeps ..)

theorem State.fanFrame_keeps (s : State) (f : Nat) : Keeps [.fans] [Reg.FAN_F.STATE, Reg.FAN_F.DUTY] s (s.fanFrame f) := by
  unfold State.fanFrame
  dsimp only
  split
  · exact .ite_on (.mono (State.fanGo_keeps ..)) (.refl ..) (.setFan (.refl ..))
  · exact .ite_on (.mono (State.fanGo_keeps ..)) (.wr (.refl ..)) (.setFan (.refl ..))
  · exact .wr (.setFan (.refl ..))
  · exact .wr (.setFan (.refl ..))
  · exact .setFan (.refl ..)

theorem State.fansFrame_keeps (s : State) : Keeps [.fans] [Reg.FAN_F.STATE, Reg.FAN_F.DUTY, Reg.FAN_STATUS.P_FAN] s (s.fansFrame) :=
  .wr (.foldl (.refl ..) fun _ _ => .mono (State.fanFrame_keeps ..))

/-! ### The fan bridges and the fan states: the rows -/

theorem execBemfCrossing_steady (fan : Fin 4) (reverse : Bool) (rpm : Nat) (inTime : Bool) (s : State) : Yields (Steady s)
    (execBemfCrossing fan reverse rpm inTime s) := by
  unfold execBemfCrossing
  dsimp only
  split
  · exact .ite (fun _ => .next (.trans (.setFan (.wr (.wr (.refl ..) ..) ..) ..) (State.fanGo_keeps ..).steady)) fun _ => .ite (fun _ =>
      .next (.event (.trans (.setFan (.wr (.wr (.refl ..) ..) ..) ..) (State.fanGo_keeps ..).steady) ..)) fun _ => .next (.setFan (.wr (.wr
      (.refl ..) ..) ..) ..)
  · exact .ite (fun _ => .next (.trans (.setFan (.wr (.wr (.refl ..) ..) ..) ..) (State.fanRun_keeps ..).steady)) fun _ => .next (.setFan
      (.wr (.wr (.refl ..) ..) ..) ..)
  · exact .ite (fun _ => .next (.trans (.setFan (.wr (.wr (.refl ..) ..) ..) ..) (State.fanRun_keeps ..).steady)) fun _ => .next (.setFan
      (.wr (.wr (.refl ..) ..) ..) ..)
  · exact .ite (fun _ => .next (.event (.trans (.setFan (.wr (.wr (.refl ..) ..) ..) ..) (State.fanRun_keeps ..).steady) ..)) fun _ =>
      .next (.setFan (.wr (.wr (.refl ..) ..) ..) ..)
  · exact .ite (fun _ => .next (.trans (.setFan (.wr (.wr (.refl ..) ..) ..) ..) (State.fanGo_keeps ..).steady)) fun _ => .ite (fun _ =>
      .next (.trans (.setFan (.wr (.wr (.refl ..) ..) ..) ..) (State.fanGo_keeps ..).steady)) fun _ => .next (.setFan (.wr (.wr (.refl ..)
      ..) ..) ..)
  · exact .next (.setFan (.wr (.wr (.refl ..) ..) ..) ..)

theorem execMissedCrossing_steady (fan : Fin 4) (s : State) : Yields (Steady s) (execMissedCrossing fan s) := by
  unfold execMissedCrossing
  dsimp only
  split
  · exact .ite (fun _ => .next (.event (.bump (.trans (.setFan (.refl ..) ..) (State.fanGo_keeps ..).steady) ..) ..)) fun _ => .next
      (.setFan (.refl ..) ..)
  · exact .ite (fun _ => .next (.trans (.setFan (.refl ..) ..) (State.fanGo_keeps ..).steady)) fun _ => .next (.setFan (.refl ..) ..)
  · exact .next (.setFan (.refl ..) ..)

theorem execProbeWindowEnd_steady (fan : Fin 4) (s : State) : Yields (Steady s) (execProbeWindowEnd fan s) :=
  .ite (fun _ => .next ((State.fanStart_keeps ..).steady)) fun _ => .next (.refl ..)

theorem execBrakeReleaseMeasure_steady (fan : Fin 4) (rpm : Nat) (s : State) : Yields (Steady s) (execBrakeReleaseMeasure fan rpm s) :=
  .ite (fun _ => .ite (fun _ => .next (.trans (.wr (.refl ..) ..) (State.fanStart_keeps ..).steady)) fun _ => .next (.wr (.refl ..) ..))
      fun _ => .next (.refl ..)

theorem execPeakLimitTrip_steady (fan : Fin 4) (close : Bool) (s : State) : Yields (Steady s) (execPeakLimitTrip fan close s) :=
  .ite (fun _ => .next (.trans (.setFan (.refl ..) ..) (State.fanFail_keeps ..).steady)) fun _ => .next (.setFan (.refl ..) ..)

theorem execRampEnd_steady (fan : Fin 4) (s : State) : Yields (Steady s) (execRampEnd fan s) :=
  .ite (fun _ => .next ((State.fanFail_keeps ..).steady)) fun _ => .next (.refl ..)

theorem execLocateTimeout_steady (fan : Fin 4) (s : State) : Yields (Steady s) (execLocateTimeout fan s) :=
  .ite (fun _ => .next ((State.fanFail_keeps ..).steady)) fun _ => .next (.refl ..)

theorem execRunSecond_steady (fan : Fin 4) (s : State) : Yields (Steady s) (execRunSecond fan s) :=
  .ite (fun _ => .next (.setFan (.wr (.refl ..) ..) ..)) fun _ => .next (.refl ..)

theorem execCoastTimeout_steady (fan : Fin 4) (s : State) : Yields (Steady s) (execCoastTimeout fan s) :=
  .ite (fun _ => .next ((State.fanGo_keeps ..).steady)) fun _ => .next (.refl ..)

theorem execSettleTimeout_steady (fan : Fin 4) (s : State) : Yields (Steady s) (execSettleTimeout fan s) :=
  .ite (fun _ => .ite (fun _ => .next ((State.fanGo_keeps ..).steady)) fun _ => .next ((State.fanFault_keeps ..).steady)) fun _ => .next
      (.refl ..)

theorem execSettleBrake_steady (fan : Fin 4) (s : State) : Yields (Steady s) (execSettleBrake fan s) :=
  .ite (fun _ => .next (.setFan (.refl ..) ..)) fun _ => .next (.refl ..)

theorem execKeMeasurement_steady (fan : Fin 4) (ke : Nat) (s : State) : Yields (Steady s) (execKeMeasurement fan ke s) :=
  .ite (fun _ => .ite (fun _ => .next (.trans (.event (.wr (.setFan (.wr (.refl ..) ..) ..) ..) ..) (State.fanFault_keeps ..).steady)) fun
      _ => .ite (fun _ => .next (.trans (.wr (.ite_on (.event (.wr (.refl ..) ..) ..) (.refl ..) (.setFan (.wr (.refl ..) ..) ..)) ..)
      (State.fanGo_keeps ..).steady)) fun _ => .next (.wr (.ite_on (.event (.wr (.refl ..) ..) ..) (.refl ..) (.setFan (.wr (.refl ..) ..)
      ..)) ..)) fun _ => .next (.refl ..)

theorem execFanRetry_steady (fn : Fn) (mask : BitVec 4) (s : State) : Yields (Steady s) (execFanRetry fn mask s) :=
  .ite (fun _ => .next (.fold (.refl ..) (fun _ _ => .ite (.trans (.wr (.refl ..) ..) (State.fanGo_keeps ..).steady) (.refl ..)) _)) fun _
      => .next (.refl ..)

/-! ### Classes -/

theorem State.setSensor_keeps (s : State) (k : Nat) (x : Sensor) : Keeps [.sensors] [] s (s.setSensor k x) :=
  .with_sensors (.refl ..)

/-! ### State and reports (R573, R578) -/

theorem State.thermalState_keeps (s : State) : Keeps [] [Reg.THM_STATUS.STATE] s (s.thermalState) :=
  .wr (.refl ..)

theorem State.postThermal_keeps (s : State) (broke restored : Bool) : Keeps [.endpoint, .rings, .vectors, .buses] [Reg.HIF_ASYNC.PEND] s
    (s.postThermal broke restored) :=
  .mono (State.asyncAll_keeps ..)

theorem State.countBroken_keeps (s : State) : Keeps [.health] [Reg.THM_STATUS.BROKEN] s (s.countBroken) :=
  .wr (.setHealth (.refl ..))

/-! ### Samples (R554) -/

theorem State.sampled_keeps (s : State) (k : Nat) (x : Sensor) (temp : Option Int) (bad odd : Bool) : Keeps [.health, .log, .endpoint,
    .rings, .vectors, .buses, .sensors] [Reg.THM_STATUS.BROKEN, Reg.HIF_ASYNC.PEND, Reg.THM_DIODE.TEMP, Reg.THM_DIODE.BROKEN,
    Reg.THM_EXT.TEMP, Reg.THM_EXT.BROKEN] s (s.sampled k x temp bad odd) :=
  .ite_on (.andThen (.event (.mono (State.countBroken_keeps ..))) (State.postThermal_keeps ..)) (.ite (.andThen (.event (.mono
      (State.countBroken_keeps ..))) (State.postThermal_keeps ..)) (.refl ..)) (.ite_on (.wr (.wr (.refl ..))) (.ite (.wr (.wr (.refl ..)))
      (.refl ..)) (.mono (State.setSensor_keeps ..)))

theorem State.beginStop_keeps (s : State) (k : Nat) : Keeps [.thermal, .log, .health, .ftl, .endpoint, .rings, .vectors, .buses]
    [Reg.FRM_STATUS.MODE, Reg.THM_STATUS.STATE, Reg.THM_CNT.STOPS, Reg.FRM_CEILING.CEIL_MIB, Reg.FRM_CEILING.SOURCE, Reg.FRM_JPB.MODEL,
    Reg.HIF_ASYNC.PEND] s (s.beginStop k) :=
  .andThen (.andThen (.event (.with_thermal (.bump (.wr (.wr (.refl ..)))))) (State.refreshCeiling_keeps ..)) (State.postThermal_keeps ..)

theorem State.stopCheck_keeps (s : State) (k : Nat) : Keeps [.thermal, .log, .health, .ftl, .endpoint, .rings, .vectors, .buses]
    [Reg.FRM_STATUS.MODE, Reg.THM_STATUS.STATE, Reg.THM_CNT.STOPS, Reg.FRM_CEILING.CEIL_MIB, Reg.FRM_CEILING.SOURCE, Reg.FRM_JPB.MODEL,
    Reg.HIF_ASYNC.PEND] s (s.stopCheck k) :=
  .ite (.mono (State.beginStop_keeps ..)) (.refl ..)

/-! ### The cutoff (R556, R558) -/

theorem State.thermalCutoff_keeps (s : State) : Keeps [.health, .log, .endpoint, .rings, .vectors, .buses, .thermal] [Reg.THM_CNT.THROTTLE,
    Reg.HIF_ASYNC.PEND, Reg.THM_STATUS.HOT_CLASS, Reg.THM_STATUS.HOT_INDEX, Reg.THM_TEMP.COMPOSITE, Reg.THM_TEMP.HOTTEST,
    Reg.FRM_STATUS.TF, Reg.FRM_STATUS.THROTTLED, Reg.THM_STATUS.STATE] s (s.thermalCutoff) := by
  unfold State.thermalCutoff
  dsimp only
  split
  · exact .refl ..
  · exact .ite_on (.andThen (.event (.count (.bump (.refl ..)))) (State.postThermal_keeps ..)) (.ite (.event (.refl ..)) (.refl ..))
      (.andThen (.with_thermal (.wr (.wr ((by
      split
      · exact .wr (.wr (.wr (.wr (.refl ..))))
      · exact .wr (.wr (.wr (.refl ..)))))))) (State.thermalState_keeps ..))

/-! ### Units (R222, R227, R232) -/

theorem State.makePlan_keeps (s : State) (units : List PlanUnit) : Keeps [.log, .scheduler] [Reg.FRM_STATUS.OVERDRAW,
    Reg.FRM_OVER.OVERDRAW, Reg.FRM_POWER.WORK, Reg.FRM_POWER.HOLD, Reg.FRM_POWER2.FAN, Reg.FRM_POWER2.CARRIED, Reg.FRM_STATUS.OVER_CARRY] s
    (s.makePlan units) :=
  .ite_on (.event (.bump (.wr (.refl ..)))) (.refl ..) (.wr (.wr (.wr (.wr (.wr (.with_sched (.refl ..)))))))

/-! ### Write-back and copies started at a cutoff (R200, R354, R358, R361) -/

theorem State.formBands_keeps (s : State) : Keeps [.ftl, .flash] [] s (s.formBands) :=
  .ite_on (.mono (State.form_keeps ..)) (.refl ..) (.ite (.mono (State.form_keeps ..)) (.refl ..))

theorem State.foldStep_keeps (s : State) (pad : Bool) (lost : List Nat) : Keeps [.ftl, .flash, .luns, .log, .group, .buses]
    [Reg.WBF_EVT.MERGE_LOST, Reg.GLI_STRIPE_CNT.OPEN, Reg.GLI_STRIPE_CNT.DEGRADED, Reg.GLI_WITHDRAWN.COUNT] s (s.foldStep pad lost) := by
  unfold State.foldStep
  dsimp only
  exact .ite (.ite (.mono (State.form_keeps ..)) (.refl ..)) ((by
      split
      · exact .ite (.mono (State.form_keeps ..)) (.refl ..)
      · exact .ite_on (.refl ..) (.mono (State.startFold_keeps ..)) (.ite (.mono (State.form_keeps ..)) (.refl ..))))

theorem State.copyStep_keeps (s : State) (pad : Bool) (lost : List Nat) : Keeps [.engine, .log, .flash, .luns, .ftl] [Reg.THI_OPS.COUNT,
    Reg.THI_CNT.NO_ROOM, Reg.THI_TABLE.COUNT, Reg.THI_TABLE.FIRST, Reg.THI_STATUS.FREE_UNITS, Reg.THI_STATUS.COMPACTING] s (s.copyStep pad
    lost) := by
  unfold State.copyStep
  dsimp only
  split
  · exact .refl ..
  · exact .ite (.refl ..) (.mono (State.startCopies_keeps ..))

/-! ### Patrol (R327, R328, R331, R332) -/

theorem State.patrolRead_keeps (s : State) : Keeps [.log, .decodes, .patrol] [Reg.MIN_PATROL_PROG.INNER_PASSES,
    Reg.MIN_PATROL_PROG.INNER_DONE] s (s.patrolRead) := by
  unfold State.patrolRead
  dsimp only
  split
  · exact .refl ..
  · exact .ite_on (.event (.bump (.refl ..))) (.refl ..) (.wr (.with_patrol (.ite (.foldl (.refl ..) fun _ _ => .mono (State.startDec_keeps
      ..)) (.refl ..))))

theorem State.patrolAsk_keeps (s : State) : Keeps [.log, .patrol, .group, .buses] [Reg.MIN_PATROL_PROG2.OUTER_PASSES,
    Reg.MIN_PATROL_PROG2.OUTER_DONE] s (s.patrolAsk) := by
  unfold State.patrolAsk
  dsimp only
  split
  · exact .refl ..
  · exact .ite_on (.event (.wr (.bump (.refl ..)))) (.wr (.refl ..)) (.foldl (.with_patrol (.refl ..)) fun _ _ => .mono
      (State.sendMsg_keeps ..))

theorem State.patrolStep_keeps (s : State) : Keeps [.log, .patrol, .group, .buses, .decodes] [Reg.MIN_PATROL_PROG2.OUTER_PASSES,
    Reg.MIN_PATROL_PROG2.OUTER_DONE, Reg.MIN_PATROL_PROG.INNER_PASSES, Reg.MIN_PATROL_PROG.INNER_DONE, Reg.MIN_STATUS.PATROL_RUN,
    Reg.MIN_STATUS.PAUSED, Reg.MIN_STATUS.OUTER_RUN] s (s.patrolStep) :=
  .ite_on (.refl ..) (.ite_on (.mono (State.patrolAsk_keeps ..)) (.refl ..) (.ite_on (.mono (State.patrolRead_keeps ..)) (.refl ..)
      (.with_patrol (.refl ..)))) (.wr (.wr (.wr (.refl ..))))

/-! ### The walk of the data pointers (R162, R163, R593) -/

theorem State.readList_keeps (s : State) (c t : Nat) : Keeps [.tags, .buses] [] s (s.readList c t) := by
  unfold State.readList
  dsimp only
  split
  · exact .emit (.setTag (.refl ..))
  · exact .refl ..

theorem State.readBlock_keeps (s : State) (c t b : Nat) : Keeps [.tags, .buses] [] s (s.readBlock c t b) :=
  .foldl (.setTag (.refl ..)) fun _ _ => .emit (.refl ..)

theorem State.moveOut_keeps (s : State) (c off n : Nat) (b : Block) : Keeps [.buses] [] s (s.moveOut c off n b) :=
  .foldl_fst (.refl ..) fun _ _ => .emit (.refl ..)

theorem State.moveBytes_keeps (s : State) (c : Nat) (bytes : List Nat) : Keeps [.buses] [] s (s.moveBytes c bytes) :=
  .foldl_fst (.refl ..) fun _ _ => .emit (.refl ..)

/-! ### The Reconcile log (R45 to R48, R105, R107) -/

theorem State.postRecon_keeps (s : State) : Keeps [.endpoint, .rings, .vectors, .buses] [Reg.HIF_ASYNC.PEND] s (s.postRecon) := by
  unfold State.postRecon
  dsimp only
  exact .foldl (.refl ..) fun _ _ => .ite ((by
      split
      · exact .andThen (.setEp (.refl ..)) (State.postAsync_keeps ..)
      · exact .refl ..)) (.refl ..)

/-! ### Rings that stop (R152, R170) -/

theorem State.dropFetch_keeps (s : State) (f n : Nat) : Keeps [.tags] [] s (s.dropFetch f n) :=
  .with_tags (.refl ..)

theorem State.endStop_keeps (s : State) (w result : Nat) : Keeps [.contexts] [] s (s.endStop w result) :=
  .ite (.mono (State.endOk_keeps ..)) (.refl ..)

theorem State.finishRing_keeps (s : State) (f n : Nat) : Keeps [.rings, .endpoint, .contexts] [Reg.HIF_ADM_CTRL.READY,
    Reg.HIF_ADM_CTRL.ENABLE] s (s.finishRing f n) :=
  .ite (.ite (.wr (.wr (.setEp (.setRing (.refl ..))))) (.ite (.andThen (.setRing (.refl ..)) (State.endStop_keeps ..)) (.andThen (.setRing
      (.refl ..)) (State.endStop_keeps ..)))) (.refl ..)

theorem State.stopRing_keeps (s : State) (f n waiter : Nat) (deleting : Bool) : Keeps [.rings, .tags, .ftl, .engine, .log, .contexts,
    .decodes, .group, .keys, .endpoint] [Reg.THI_OPS.COUNT, Reg.THI_TABLE.COUNT, Reg.THI_TABLE.FIRST, Reg.THI_STATUS.FREE_UNITS,
    Reg.THI_STATUS.COMPACTING, Reg.GLI_STATUS.STATE, Reg.SEC_STATUS.LOADED, Reg.SEC_STATUS.TK_SET, Reg.SEC_STATUS.GROUP_KEY,
    Reg.SEC_STATUS.SWEEPING, Reg.SEC_STATUS.MC_BANKS, Reg.HIF_ADM_CTRL.READY, Reg.HIF_ADM_CTRL.ENABLE] s (s.stopRing f n waiter deleting) :=
  .andThen (.foldl (.andThen (.setRing (.refl ..)) (State.dropFetch_keeps ..)) fun _ _ => .mono (State.abortCtx_keeps ..))
      (State.finishRing_keeps ..)

/-! ### Fetch arbitration (R157, R158, R591) -/

theorem execFetchIssue_steady (tag : Tag) (s : State) : Yields (Steady s) (execFetchIssue tag s) := by
  unfold execFetchIssue
  dsimp only
  split
  · exact .ite (fun _ => .next (.emit (.setTag (.ite_on (.refl ..) (.update (.refl ..)) (.setRing (.refl ..) ..)) ..) ..)) fun _ => .next
      (.refl ..)
  · exact .next (.refl ..)

theorem execFetchComplete_steady (fn : Fn) (tag : Tag) (packets : List Packet) (s : State) : Yields (Steady s) (execFetchComplete fn tag
    packets s) := by
  unfold execFetchComplete
  dsimp only
  split
  · exact .ite (fun _ => .next (.fold (.setRing (.setTag (.refl ..) ..) ..) (fun _ _ => (State.enter_steady ..)) _)) fun _ => .next (.refl
      ..)
  · exact .next (.refl ..)

/-! ### Doorbells (R122, R154, R155, R185, R214) -/

theorem State.doorbellRefused_keeps (s : State) (f n value : Nat) : Keeps [.log, .endpoint, .rings, .vectors, .buses] [Reg.HIF_ASYNC.PEND]
    s (s.doorbellRefused f n value) :=
  .andThen (.event (.refl ..)) (State.async_keeps ..)

theorem execSqTailDoorbell_steady (fn : Fn) (ring : RingNo) (value : Word) (s : State) : Yields (Steady s) (execSqTailDoorbell fn ring
    value s) :=
  .ite (fun _ => .ite (fun _ => .next (.event (.wakeTlp (.refl ..) ..) ..)) fun _ => .ite (fun _ => .next (.trans (.wakeTlp (.refl ..) ..)
      (State.doorbellRefused_keeps ..).steady)) fun _ => .next (.setRing (.wakeTlp (.refl ..) ..) ..)) fun _ => .next (.refl ..)

theorem State.releaseAsync_keeps (s : State) (f size old n : Nat) : Keeps [.endpoint] [] s (s.releaseAsync f size old n) :=
  .setEp (.refl ..)

theorem execCqHeadDoorbell_steady (fn : Fn) (ring : RingNo) (value : Word) (s : State) : Yields (Steady s) (execCqHeadDoorbell fn ring
    value s) :=
  .ite (fun _ => .ite (fun _ => .next (.event (.wakeTlp (.refl ..) ..) ..)) fun _ => .ite (fun _ => .next (.trans (.wakeTlp (.refl ..) ..)
      (State.doorbellRefused_keeps ..).steady)) fun _ => .ite (fun _ => .next (.setVec (.ite_on ((State.releaseAsync_keeps ..).steady)
      (.refl ..) (.setRing (.wakeTlp (.refl ..) ..) ..)) ..)) fun _ => .next (.ite_on ((State.releaseAsync_keeps ..).steady) (.refl ..)
      (.setRing (.wakeTlp (.refl ..) ..) ..))) fun _ => .next (.refl ..)

theorem execCoalesceTimer_steady (fn : Fn) (ring : RingNo) (s : State) : Yields (Steady s) (execCoalesceTimer fn ring s) :=
  .ite (fun _ => .next (.signal (.refl ..) ..)) fun _ => .next (.refl ..)

/-! ### The admin ring (R152) -/

theorem execAdminEnable_steady (fn : Fn) (s : State) : Yields (Steady s) (execAdminEnable fn s) :=
  .ite (fun _ => .ite (fun _ => .next (.trans (.wr (.wr (.setRing (.wakeTlp (.refl ..) ..) ..) ..) ..) (State.postRecon_keeps ..).steady))
      fun _ => .next (.wr (.wakeTlp (.refl ..) ..) ..)) fun _ => .next (.refl ..)

theorem execAdminDisable_steady (fn : Fn) (s : State) : Yields (Steady s) (execAdminDisable fn s) :=
  .ite (fun _ => .ite (fun _ => .next (.regEvent (.wakeTlp (.refl ..) ..) ..)) fun _ => .next (.trans (.setEp (.wakeTlp (.refl ..) ..) ..)
      (State.stopRing_keeps ..).steady)) fun _ => .next (.refl ..)

/-! ### Outbound reads (R133 to R136, R593) -/

theorem State.unexpected_keeps (s : State) (f t : Nat) : Keeps [.endpoint, .log] [Reg.HIF_EP_EVENT.LATE_CPL, Reg.HIF_EP_CNT.LATE] s
    (s.unexpected f t) :=
  .event (.bump (.wr (.mono (State.aer_keeps ..))))

theorem State.blockArrives_keeps (s : State) (c b : Nat) (data : Block) : Keeps [.ftl, .contexts] [] s (s.blockArrives c b data) :=
  .ite (.setCtx (.mono (State.mapVersions_keeps ..))) (.refl ..)

theorem State.listArrives_keeps (s : State) (c : Nat) (l : List Piece) : Keeps [.contexts, .tags, .ftl, .engine, .log, .decodes, .group,
    .keys] [Reg.THI_OPS.COUNT, Reg.THI_TABLE.COUNT, Reg.THI_TABLE.FIRST, Reg.THI_STATUS.FREE_UNITS, Reg.THI_STATUS.COMPACTING,
    Reg.GLI_STATUS.STATE, Reg.SEC_STATUS.LOADED, Reg.SEC_STATUS.TK_SET, Reg.SEC_STATUS.GROUP_KEY, Reg.SEC_STATUS.SWEEPING,
    Reg.SEC_STATUS.MC_BANKS] s (s.listArrives c l) := by
  unfold State.listArrives
  dsimp only
  split
  · exact .setCtx (.refl ..)
  · exact .mono (State.abortCtx_keeps ..)

theorem State.badCompletion_keeps (s : State) (f t kind : Nat) : Keeps [.rings, .log, .endpoint, .vectors, .buses, .tags, .ftl, .engine,
    .contexts, .decodes, .group, .keys] [Reg.HIF_FETCH_ERR.RING, Reg.HIF_FETCH_ERR.REASON, Reg.HIF_FETCH_ERR.VALID, Reg.HIF_ASYNC.PEND,
    Reg.THI_OPS.COUNT, Reg.THI_TABLE.COUNT, Reg.THI_TABLE.FIRST, Reg.THI_STATUS.FREE_UNITS, Reg.THI_STATUS.COMPACTING,
    Reg.GLI_STATUS.STATE, Reg.SEC_STATUS.LOADED, Reg.SEC_STATUS.TK_SET, Reg.SEC_STATUS.GROUP_KEY, Reg.SEC_STATUS.SWEEPING,
    Reg.SEC_STATUS.MC_BANKS, Reg.HIF_EP_EVENT.POISONED, Reg.HIF_EP_EVENT.CPL_TIMEOUT] s (s.badCompletion f t kind) := by
  unfold State.badCompletion
  dsimp only
  exact .event (.andThen (.wr (.setTag (.mono (State.requestFailed_keeps ..))) (by split <;> decide)) (State.aer_keeps ..))

theorem execCompletionTlp_steady (fn : Fn) (tag : Tag) (cpl : Cpl) (s : State) : Yields (Steady s) (execCompletionTlp fn tag cpl s) := by
  unfold execCompletionTlp
  dsimp only
  exact .ite (fun _ => (by
      split
      · exact .next ((State.unexpected_keeps ..).steady)
      · exact .next ((State.unexpected_keeps ..).steady)
      · exact .next ((State.badCompletion_keeps ..).steady)
      · exact .next ((State.badCompletion_keeps ..).steady)
      · exact .next ((State.badCompletion_keeps ..).steady)
      · exact .next (.trans (.setTag (.refl ..) ..) (State.blockArrives_keeps ..).steady)
      · exact .ite (fun _ => .next (.setTag (.refl ..) ..)) fun _ => .ite (fun _ => .next (.trans (.setTag (.refl ..) ..)
          (State.listArrives_keeps ..).steady)) fun _ => .next (.refl ..)
      · exact .ite (fun _ => .next (.setTag (.refl ..) ..)) fun _ => .next (.refl ..)
      · exact .next (.refl ..))) fun _ => .next (.refl ..)

theorem execCompletionTimeout_steady (fn : Fn) (tag : Tag) (s : State) : Yields (Steady s) (execCompletionTimeout fn tag s) := by
  unfold execCompletionTimeout
  dsimp only
  split
  · exact .ite (fun _ => .next (.event (.bump (.wr (.trans (.setTag ((State.requestFailed_keeps ..).steady) ..) (State.aer_keeps
      ..).steady) ..) ..) ..)) fun _ => .next (.refl ..)
  · exact .next (.refl ..)

theorem execTagQuarantineEnd_steady (fn : Fn) (tag : Tag) (s : State) : Yields (Steady s) (execTagQuarantineEnd fn tag s) := by
  unfold execTagQuarantineEnd
  split
  · exact .ite (fun _ => .next (.setTag (.refl ..) ..)) fun _ => .next (.refl ..)
  · exact .next (.refl ..)

/-! ### Writes (R194, R356) -/

theorem State.writeReads_keeps (s : State) (c t : Nat) : Keeps [.tags, .buses, .contexts] [] s (s.writeReads c t) :=
  .ite (.ite (.setCtx (.mono (State.readBlock_keeps ..))) (.ite (.mono (State.readList_keeps ..)) (.refl ..))) (.refl ..)

theorem execHostWrite_steady (ctx : CtxNo) (tag : Tag) (s : State) : Yields (Steady s) (execHostWrite ctx tag s) := by
  unfold execHostWrite
  dsimp only
  exact .ite (fun _ => (by
      split
      · exact .ite (fun _ => (by
          split
          · next e => exact .after (.out_snd e ((State.takeSpans_keeps ..).steady)) (.next (.setCtx ((State.allocate_keeps ..).steady) ..))
          · next e => exact .next (.out_snd e ((State.takeSpans_keeps ..).steady)))) fun _ => .next (.refl ..)
      · exact .next ((State.writeReads_keeps ..).steady)
      · exact .next (.refl ..))) fun _ => .next (.refl ..)

theorem State.landRange_keeps (s : State) (c : Nat) (zeroes : Bool) : Keeps [.ftl, .engine, .log, .contexts] [Reg.THI_OPS.COUNT,
    Reg.THI_CNT.NO_ROOM, Reg.THI_TABLE.COUNT, Reg.THI_TABLE.FIRST, Reg.THI_STATUS.FREE_UNITS, Reg.THI_STATUS.COMPACTING,
    Reg.WBF_EVT.SPAN_FULL] s (s.landRange c zeroes) := by
  unfold State.landRange
  dsimp only
  exact .ite ((by
      split
      · next e => exact .trans (.out_snd e (.mono (State.takeSpans_keeps ..))) (.setCtx (.ite_on (.refl ..) (.record (.mono
          (State.addRange_keeps ..))) (.mono (State.allocate_keeps ..))))
      · next e => exact .out_snd e (.mono (State.takeSpans_keeps ..)))) (.refl ..)

theorem execTrim_steady (ctx : CtxNo) (s : State) : Yields (Steady s) (execTrim ctx s) :=
  .ite (fun _ => .next ((State.landRange_keeps ..).steady)) fun _ => .next (.refl ..)

theorem execWriteZeroes_steady (ctx : CtxNo) (s : State) : Yields (Steady s) (execWriteZeroes ctx s) :=
  .ite (fun _ => .next ((State.landRange_keeps ..).steady)) fun _ => .next (.refl ..)

theorem execMirrorWriteDone_steady (ctx : CtxNo) (blk : Nat) (s : State) : Yields (Steady s) (execMirrorWriteDone ctx blk s) :=
  .ite (fun _ => .next (.mapVersions (.refl ..) ..)) fun _ => .next (.refl ..)

theorem execGroupWaitExpiry_steady (ctx : CtxNo) (s : State) : Yields (Steady s) (execGroupWaitExpiry ctx s) :=
  .ite (fun _ => .next (.event (.wr ((State.refuse_keeps ..).steady) ..) ..)) fun _ => .next (.refl ..)

/-! ### Reads (R195, R204 to R206) -/

theorem State.thiRefs_keeps (s : State) (l : List Nat) (up : Bool) : Keeps [.engine] [Reg.THI_OPS.COUNT, Reg.THI_CNT.MULTI_HITS] s
    (s.thiRefs l up) :=
  .foldl (.refl ..) fun _ _ => .mono (State.thiSearchAdd_keeps ..)

theorem execReadSnapshot_steady (ctx : CtxNo) (s : State) : Yields (Steady s) (execReadSnapshot ctx s) := by
  unfold execReadSnapshot
  dsimp only
  exact .ite (fun _ => (by
      split
      · next e => exact .after (.out_snd e ((State.takeSpans_keeps ..).steady)) (.next (.trans (.mapVersions (.fold (.trans (.setCtx (.refl
          ..) ..) (State.thiRefs_keeps ..).steady) (fun _ _ => (by
          split
          · exact (State.startDec_keeps ..).steady
          · exact .refl ..)) _) ..) (State.feedReads_keeps ..).steady))
      · next e => exact .next (.out_snd e ((State.takeSpans_keeps ..).steady)))) fun _ => .next (.refl ..)

theorem State.moveNext_keeps (s : State) (c : Nat) (out : Bool) : Keeps [.contexts, .buses, .log] [Reg.SEC_CNT.AUTH_FAIL] s (s.moveNext c
    out) := by
  unfold State.moveNext
  dsimp only
  split
  · exact .setCtx (.refl ..)
  · exact .ite_on (.mono (State.moveOut_keeps ..)) (.refl ..) (.setCtx (.refl ..))
  · exact .ite_on (.mono (State.authFail_keeps ..)) (.refl ..) (.setCtx (.refl ..))

theorem execHostRead_steady (ctx : CtxNo) (tag : Tag) (s : State) : Yields (Steady s) (execHostRead ctx tag s) :=
  .ite (fun _ => .ite (fun _ => .next ((State.moveNext_keeps ..).steady)) fun _ => .ite (fun _ => .next (.trans (.setCtx (.refl ..) ..)
      (State.readList_keeps ..).steady)) fun _ => .next (.refl ..)) fun _ => .next (.refl ..)

theorem execVerify_steady (ctx : CtxNo) (_tag : Tag) (s : State) : Yields (Steady s) (execVerify ctx _tag s) :=
  .ite (fun _ => .next ((State.moveNext_keeps ..).steady)) fun _ => .next (.refl ..)

theorem execReadDataDone_steady (ctx : CtxNo) (s : State) : Yields (Steady s) (execReadDataDone ctx s) := by
  unfold execReadDataDone
  dsimp only
  exact .ite (fun _ => (by
      split
      · exact .next (.setCtx (.ite_on (.refl ..) (.count (.refl ..) ..) (.ite_on (.count (.refl ..) ..) (.refl ..) (.trans
          ((State.dropDecs_keeps ..).steady) (State.thiRefs_keeps ..).steady))) ..)
      · exact .next (.trans (.ite_on (.refl ..) (.count (.refl ..) ..) (.ite_on (.count (.refl ..) ..) (.refl ..) (.trans
          ((State.dropDecs_keeps ..).steady) (State.thiRefs_keeps ..).steady))) (State.endOk_keeps ..).steady))) fun _ => .next (.refl ..)

/-! ### FLUSH (R211) -/

theorem State.flushEnds_keeps (s : State) (c : Nat) : Keeps [.contexts] [] s (s.flushEnds c) :=
  .ite (.mono (State.endOk_keeps ..)) (.refl ..)

theorem execFlush_steady (ctx : CtxNo) (s : State) : Yields (Steady s) (execFlush ctx s) :=
  .next ((State.flushEnds_keeps ..).steady)

theorem execFlushComplete_steady (ctx : CtxNo) (s : State) : Yields (Steady s) (execFlushComplete ctx s) :=
  .next ((State.flushEnds_keeps ..).steady)

/-! ### Completions (R27, R164, R165, R184) -/

theorem State.applyFeature_keeps (s : State) (fid v f : Nat) : Keeps [.features, .log] [Reg.FRM_BUDGET.CAP, Reg.THM_CFG.SP,
    Reg.MIN_PATROL_CFG.RATE, Reg.FAN_CTRL.POLICY, Reg.BPM_POLICY.POLICY] s (s.applyFeature fid v f) := by
  unfold State.applyFeature
  split
  · exact .wr (.refl ..)
  · exact .wr (.refl ..)
  · exact .wr (.refl ..)
  · exact .wr (.refl ..)
  · exact .wr (.refl ..)
  · exact .event (.with_hostTime (.refl ..))
  · exact .refl ..

theorem State.entryWritten_keeps (s : State) (x : Ctx) : Keeps [.features, .log] [Reg.FRM_BUDGET.CAP, Reg.THM_CFG.SP,
    Reg.MIN_PATROL_CFG.RATE, Reg.FAN_CTRL.POLICY, Reg.BPM_POLICY.POLICY] s (s.entryWritten x) :=
  .ite (.mono (State.applyFeature_keeps ..)) (.refl ..)

theorem State.signalEntry_keeps (s : State) (f n status : Nat) : Keeps [.rings, .vectors, .buses] [] s (s.signalEntry f n status) :=
  .ite (.mono (State.signal_keeps ..)) (.ite (.mono (State.signal_keeps ..)) (.setRing (.refl ..)))

theorem execCompletionWrite_steady (ctx : CtxNo) (s : State) : Yields (Steady s) (execCompletionWrite ctx s) :=
  .ite (fun _ => .next (.trans (.trans (.trans (.setCtx (.setRing (.putCqe (.refl ..) ..) ..) ..) (State.entryWritten_keeps ..).steady)
      (State.signalEntry_keeps ..).steady) (State.finishRing_keeps ..).steady)) fun _ => .next (.refl ..)

/-! ### Execution in order -/

theorem State.persist_keeps (s : State) (c : Nat) (a : AdminRec) (x : Ctx) : Keeps [.contexts, .ftl] [] s (s.persist c a x) :=
  .record (.setCtx (.refl ..))

theorem State.dataOut_keeps (s : State) (c : Nat) (bytes : List Nat) (result : Nat) : Keeps [.buses, .contexts, .tags] [] s (s.dataOut c
    bytes result) :=
  .ite (.refl ..) (.ite (.andThen (.mono (State.moveBytes_keeps ..)) (State.endOk_keeps ..)) (.ite (.mono (State.readList_keeps ..)) (.refl
      ..)))

/-! ### IDENTIFY, GET_LOG, GROUP_STATUS -/

theorem execIdentify_steady (ctx : CtxNo) (s : State) : Yields (Steady s) (execIdentify ctx s) :=
  .ite (fun _ => .next ((State.dataOut_keeps ..).steady)) fun _ => .next (.refl ..)

theorem execGetLog_steady (ctx : CtxNo) (s : State) : Yields (Steady s) (execGetLog ctx s) :=
  .ite (fun _ => .next ((State.dataOut_keeps ..).steady)) fun _ => .next (.refl ..)

theorem execGroupStatus_steady (ctx : CtxNo) (s : State) : Yields (Steady s) (execGroupStatus ctx s) :=
  .ite (fun _ => .next ((State.dataOut_keeps ..).steady)) fun _ => .next (.refl ..)

/-! ### Features (R172) -/

theorem execSetFeature_steady (ctx : CtxNo) (s : State) : Yields (Steady s) (execSetFeature ctx s) :=
  .ite (fun _ => .ite (fun _ => .ite (fun _ => .next ((State.persist_keeps ..).steady)) fun _ => .next (.refl ..)) fun _ => .next
      ((State.endOk_keeps ..).steady)) fun _ => .next (.refl ..)

theorem execGetFeature_steady (ctx : CtxNo) (s : State) : Yields (Steady s) (execGetFeature ctx s) :=
  .ite (fun _ => .next ((State.endOk_keeps ..).steady)) fun _ => .next (.refl ..)

/-! ### Rings (R169, R170) -/

theorem execRingCreate_steady (ctx : CtxNo) (s : State) : Yields (Steady s) (execRingCreate ctx s) :=
  .ite (fun _ => .ite (fun _ => .next (.endCtx (.refl ..) ..)) fun _ => .next (.trans (.setRing (.refl ..) ..) (State.endOk_keeps
      ..).steady)) fun _ => .next (.refl ..)

theorem State.ringStop_keeps (s : State) (c : Nat) (deleting : Bool) : Keeps [.contexts, .rings, .tags, .ftl, .engine, .log, .decodes,
    .group, .keys, .endpoint] [Reg.THI_OPS.COUNT, Reg.THI_TABLE.COUNT, Reg.THI_TABLE.FIRST, Reg.THI_STATUS.FREE_UNITS,
    Reg.THI_STATUS.COMPACTING, Reg.GLI_STATUS.STATE, Reg.SEC_STATUS.LOADED, Reg.SEC_STATUS.TK_SET, Reg.SEC_STATUS.GROUP_KEY,
    Reg.SEC_STATUS.SWEEPING, Reg.SEC_STATUS.MC_BANKS, Reg.HIF_ADM_CTRL.READY, Reg.HIF_ADM_CTRL.ENABLE] s (s.ringStop c deleting) := by
  unfold State.ringStop
  dsimp only
  split
  · exact .mono (State.endCtx_keeps ..)
  · exact .refl ..
  · exact .mono (State.stopRing_keeps ..)
  · exact .mono (State.stopRing_keeps ..)

theorem execRingDelete_steady (ctx : CtxNo) (s : State) : Yields (Steady s) (execRingDelete ctx s) :=
  .ite (fun _ => .next ((State.ringStop_keeps ..).steady)) fun _ => .next (.refl ..)

theorem execRingReset_steady (ctx : CtxNo) (s : State) : Yields (Steady s) (execRingReset ctx s) :=
  .ite (fun _ => .next ((State.ringStop_keeps ..).steady)) fun _ => .next (.refl ..)

/-! ### Power (R528, R529) -/

theorem execPowerState_steady (ctx : CtxNo) (s : State) : Yields (Steady s) (execPowerState ctx s) :=
  .ite (fun _ => .next (.trans (.trans (.setEp (.refl ..) ..) (State.refreshTarget_keeps ..).steady) (State.endOk_keeps ..).steady)) fun _
      => .next (.refl ..)

/-! ### Firmware (R514, R518, R519) -/

theorem execFwDownload_steady (ctx : CtxNo) (image : Moved (List Block)) (s : State) : Yields (Steady s) (execFwDownload ctx image s) := by
  unfold execFwDownload
  dsimp only
  exact .ite (fun _ => .ite (fun _ => .next (.endCtx (.refl ..) ..)) fun _ => (by
      split
      · exact .next (.endCtx (.refl ..) ..)
      · exact .ite (fun _ => .next (.trans ((State.fwProgram_keeps ..).steady) (State.endOk_keeps ..).steady)) fun _ => .next (.refl ..)))
          fun _ => .next (.refl ..)

theorem execFwActivate_steady (ctx : CtxNo) (signatureOk : Bool) (s : State) : Yields (Steady s) (execFwActivate ctx signatureOk s) :=
  .ite (fun _ => .ite (fun _ => .next (.endCtx (.refl ..) ..)) fun _ => .ite (fun _ => .next (.endCtx ((State.setFw_keeps ..).steady) ..))
      fun _ => .ite (fun _ => .next (.endCtx ((State.setFw_keeps ..).steady) ..)) fun _ => .next (.trans ((State.setFw_keeps ..).steady)
      (State.persist_keeps ..).steady)) fun _ => .next (.refl ..)

/-! ### The TRIM of a realm (R356, R357, R496) -/

theorem State.unmapRange_keeps (s : State) (iu n osn : Nat) : Keeps [.flash, .ftl] [] s (s.unmapRange iu n osn) :=
  .andThen (.foldl (.refl ..) fun _ _ => .mono (State.setMap_keeps ..)) (State.mapVersions_keeps ..)

theorem State.trimOwn_keeps (s : State) (first n : Nat) : Keeps [.ftl, .engine, .log, .flash] [Reg.THI_OPS.COUNT, Reg.THI_CNT.NO_ROOM,
    Reg.THI_TABLE.COUNT, Reg.THI_TABLE.FIRST, Reg.THI_STATUS.FREE_UNITS, Reg.THI_STATUS.COMPACTING, Reg.THI_CNT.MULTI_HITS] s (s.trimOwn
    first n) := by
  unfold State.trimOwn
  dsimp only
  exact .ite (.andThen (.andThen (.andThen (.andThen (.mono (State.assignOsn_keeps ..)) (State.allocate_keeps ..))
      (State.thiTakeSpans_keeps ..)) (State.mapVersions_keeps ..)) (State.thiGiveSpans_keeps ..)) ((by
      split
      · exact .ite_on (.record (.andThen (.mono (State.addRange_keeps ..)) (State.thiRangeCommit_keeps ..))) (.mono (State.unmapRange_keeps
          ..)) (.andThen (.andThen (.andThen (.andThen (.mono (State.assignOsn_keeps ..)) (State.allocate_keeps ..))
          (State.thiTakeSpans_keeps ..)) (State.mapVersions_keeps ..)) (State.thiGiveSpans_keeps ..))
      · exact .andThen (.andThen (.andThen (.andThen (.andThen (.mono (State.assignOsn_keeps ..)) (State.allocate_keeps ..))
          (State.thiTakeSpans_keeps ..)) (State.mapVersions_keeps ..)) (State.thiGiveSpans_keeps ..)) (State.unmapRange_keeps ..)))

/-! ### Keys (R496 to R499) -/

theorem execKeyLoad_steady (ctx : CtxNo) (rec : Moved (BitVec 512)) (pointOk : Bool) (unwrapped : Option (BitVec 256)) (s : State) : Yields
    (Steady s) (execKeyLoad ctx rec pointOk unwrapped s) := by
  unfold execKeyLoad
  dsimp only
  exact .ite (fun _ => (by
      split
      · exact .next (.endCtx (.refl ..) ..)
      · split
        · exact .next (.endCtx (.refl ..) ..)
        · exact .next (.trans ((State.recordKey_keeps ..).steady) (State.persist_keeps ..).steady))) fun _ => .next (.refl ..)

theorem execKeyRoll_steady (ctx : CtxNo) (s : State) : Yields (Steady s) (execKeyRoll ctx s) :=
  .ite (fun _ => .ite (fun _ => .next ((State.persist_keeps ..).steady)) fun _ => .next (.endCtx (.refl ..) ..)) fun _ => .next (.refl ..)

theorem execKeyPurge_steady (ctx : CtxNo) (s : State) : Yields (Steady s) (execKeyPurge ctx s) :=
  .ite (fun _ => .ite (fun _ => .next ((State.setKeySlot_keeps ..).steady)) fun _ => .next (.endCtx (.refl ..) ..)) fun _ => .next (.refl
      ..)

theorem execKeyPurgeComplete_steady (s : State) : Yields (Steady s) (execKeyPurgeComplete s) := by
  unfold execKeyPurgeComplete
  exact .ite (fun _ => (by
      split
      · exact .next ((State.persist_keeps ..).steady)
      · exact .next (.refl ..))) fun _ => .next (.refl ..)

theorem execKeySweepEnd_steady (s : State) : Yields (Steady s) (execKeySweepEnd s) := by
  unfold execKeySweepEnd
  exact .ite (fun _ => (by
      split
      · exact .next (.event ((State.setKeySlot_keeps ..).steady) ..)
      · exact .next (.refl ..))) fun _ => .next (.refl ..)

/-! ### The group (R377 to R380) -/

theorem execGroupJoin_steady (ctx : CtxNo) (rec : Moved Block) (unwrapped : Option (BitVec 256)) (s : State) : Yields (Steady s)
    (execGroupJoin ctx rec unwrapped s) := by
  unfold execGroupJoin
  dsimp only
  exact .ite (fun _ => (by
      split
      · exact .next (.endCtx (.refl ..) ..)
      · split
        · exact .next (.endCtx (.refl ..) ..)
        · exact .next ((State.persist_keeps ..).steady))) fun _ => .next (.refl ..)

theorem execGroupLeave_steady (ctx : CtxNo) (s : State) : Yields (Steady s) (execGroupLeave ctx s) :=
  .ite (fun _ => .ite (fun _ => .next (.endCtx (.refl ..) ..)) fun _ => .ite (fun _ => .next ((State.persist_keeps ..).steady)) fun _ =>
      .ite (fun _ => .next (.ite_on (.refl ..) (.sendMsg (.refl ..) ..) (.wr (.setGroup (.refl ..) ..) ..))) fun _ => .next (.refl ..)) fun
      _ => .next (.refl ..)

/-! ### Raw operations (R270 to R274) -/

theorem execRawRead_steady (ctx : CtxNo) (fail : Option Nat) (s : State) : Yields (Steady s) (execRawRead ctx fail s) := by
  unfold execRawRead
  dsimp only
  exact .ite (fun _ => .ite (fun _ => .next (.endCtx (.refl ..) ..)) fun _ => .ite (fun _ => .next (.endCtx (.refl ..) ..)) fun _ => .ite
      (fun _ => .next (.refl ..)) fun _ => (by
      split
      · exact .ite (fun _ => .next (.setCtx (.refl ..) ..)) fun _ => .next (.freeNext ((State.dataOut_keeps ..).steady) ..)
      · exact .next (.freeNext ((State.dataOut_keeps ..).steady) ..))) fun _ => .next (.refl ..)

theorem State.rawStore_keeps (s : State) (p : Packet) (pages : List (List Block)) (known : Bool) : Keeps [.flash, .freeValues] [] s
    (s.rawStore p pages known) :=
  .freeNext (.foldl (.refl ..) fun _ _ => .foldl (.refl ..) fun _ _ => .setPage (.refl ..))

theorem execRawProgram_steady (ctx : CtxNo) (pages : Moved (List (List Block))) (pass : Bool) (s : State) : Yields (Steady s)
    (execRawProgram ctx pages pass s) := by
  unfold execRawProgram
  dsimp only
  exact .ite (fun _ => .ite (fun _ => .next (.endCtx (.refl ..) ..)) fun _ => (by
      split
      · exact .next (.endCtx (.refl ..) ..)
      · exact .next (.endCtx (.setBlk ((State.rawStore_keeps ..).steady) ..) ..))) fun _ => .next (.refl ..)

theorem execRawErase_steady (ctx : CtxNo) (pass : Bool) (s : State) : Yields (Steady s) (execRawErase ctx pass s) :=
  .ite (fun _ => .ite (fun _ => .next (.endCtx (.refl ..) ..)) fun _ => .next (.endCtx (.setBlk (.with_pages (.refl ..) ..) ..) ..)) fun _
      => .next (.refl ..)

/-! ### UCODE_LOAD (R303, R304) -/

theorem execUcodeLoad_steady (ctx : CtxNo) (image : Moved (List Word)) (signatureOk : Bool) (s : State) : Yields (Steady s) (execUcodeLoad
    ctx image signatureOk s) := by
  unfold execUcodeLoad
  dsimp only
  exact .ite (fun _ => (by
      split
      · exact .next (.endCtx (.refl ..) ..)
      · exact .ite (fun _ => (by
          split
          · exact .next (.endCtx (.event (.refl ..) ..) ..)
          · exact .next ((State.persist_keeps ..).steady))) fun _ => .next (.refl ..))) fun _ => .next (.refl ..)

/-! ### DIAG (R171) -/

theorem execDiagEcho_steady (ctx : CtxNo) (s : State) : Yields (Steady s) (execDiagEcho ctx s) :=
  .ite (fun _ => .next ((State.endOk_keeps ..).steady)) fun _ => .next (.refl ..)

theorem execDiagDmaLoop_steady (ctx : CtxNo) (data : Moved (List Block)) (s : State) : Yields (Steady s) (execDiagDmaLoop ctx data s) := by
  unfold execDiagDmaLoop
  dsimp only
  exact .ite (fun _ => (by
      split
      · exact .next (.endCtx (.refl ..) ..)
      · exact .ite (fun _ => .next (.trans (.fold (.refl ..) (fun _ _ => .emit (.refl ..) ..) _) (State.endOk_keeps ..).steady)) fun _ =>
          .next (.refl ..))) fun _ => .next (.refl ..)

/-! ### Debug access (R509, R521) -/

theorem execDebugChallenge_steady (s : State) : Yields (Steady s) (execDebugChallenge s) :=
  .ite (fun _ => .next (.wr (.fold (.freeNext (.refl ..) ..) (fun _ _ => .wr (.refl ..) ..) _) ..)) fun _ => .next (.refl ..)

theorem State.zeroise_keeps (s : State) : Keeps [.group, .windows, .log, .ftl, .engine, .contexts, .keys, .flash] [Reg.GLI_PEER.SESSION,
    Reg.GLI_LINKED.MASK, Reg.GLI_PEER.IN_VIEW, Reg.GLI_PEER.MISSED, Reg.GLI_PEER.REQ_ID, Reg.WIN_ENT_CTRL.TARGET, Reg.WIN_ENT_CTRL.WR_EN,
    Reg.WIN_ENT_CTRL.RD_EN, Reg.WIN_ENT_CTRL.RID_CHK, Reg.WIN_ENT_CTRL.RID, Reg.WIN_ENT_BASE.BASE, Reg.WIN_ENT_LIMIT.LIMIT,
    Reg.WIN_ENT_CTRL.PENDING, Reg.WIN_EPOCH.EPOCH, Reg.WIN_EPOCH.BUSY, Reg.THI_OPS.COUNT, Reg.THI_TABLE.COUNT, Reg.THI_TABLE.FIRST,
    Reg.THI_STATUS.FREE_UNITS, Reg.THI_STATUS.COMPACTING, Reg.GLI_STATUS.STATE, Reg.GLI_STATUS.STEWARD, Reg.GLI_STATUS.DEPUTY,
    Reg.GLI_STATUS.GROUP, Reg.GLI_STATUS.MEMBER, Reg.GLI_MEMBERS.MASK, Reg.GLI_VIEW.VIEW, Reg.SEC_STATUS.LOADED, Reg.SEC_STATUS.TK_SET,
    Reg.SEC_STATUS.GROUP_KEY, Reg.SEC_STATUS.SWEEPING, Reg.SEC_STATUS.MC_BANKS, Reg.THI_CNT.NO_ROOM, Reg.THI_CNT.MULTI_HITS] s (s.zeroise)
    :=
  .event (.andThen (.ite_on (.mono (State.depart_keeps ..)) (.refl ..) (.ite_on (.refl ..) (.mono (State.trimOwn_keeps ..)) (.with_sec
      (.foldl (.refl ..) fun _ _ => .record (.refl ..))))) (State.secRefresh_keeps ..))

theorem execDebugSubmit_steady (signatureOk : Bool) (s : State) : Yields (Steady s) (execDebugSubmit signatureOk s) :=
  .ite (fun _ => .ite (fun _ => .next (.wr ((State.zeroise_keeps ..).steady) ..)) fun _ => .next (.wr (.with_sec (.refl ..) ..) ..)) fun _
      => .next (.refl ..)

/-! ### What follows when a journal batch is durable -/

theorem State.commitAdmin_keeps (s : State) (c result : Nat) : Keeps [.contexts] [] s (s.commitAdmin c result) :=
  .setCtx (.refl ..)

/-! ### Keys -/

theorem State.slotLoaded_keeps (s : State) (k : Nat) (x : Ctx) : Keeps [.keys, .log] [Reg.SEC_STATUS.LOADED, Reg.SEC_STATUS.TK_SET,
    Reg.SEC_STATUS.GROUP_KEY, Reg.SEC_STATUS.SWEEPING, Reg.SEC_STATUS.MC_BANKS] s (s.slotLoaded k x) :=
  .andThen (.event (.mono (State.setKeySlot_keeps ..))) (State.sweepCheck_keeps ..)

theorem State.slotDurable_keeps (s : State) (k c : Nat) : Keeps [.keys, .log, .contexts] [Reg.SEC_STATUS.LOADED, Reg.SEC_STATUS.TK_SET,
    Reg.SEC_STATUS.GROUP_KEY, Reg.SEC_STATUS.SWEEPING, Reg.SEC_STATUS.MC_BANKS, Reg.SEC_CNT.ROLLS] s (s.slotDurable k c) :=
  .ite (.andThen (.mono (State.slotLoaded_keeps ..)) (State.commitAdmin_keeps ..)) (.andThen (.ite (.mono (State.rollSlot_keeps ..)) (.refl
      ..)) (State.commitAdmin_keeps ..))

theorem State.purgeDurable_keeps (s : State) (k c : Nat) : Keeps [.keys, .ftl, .engine, .log, .flash, .contexts] [Reg.SEC_STATUS.LOADED,
    Reg.SEC_STATUS.TK_SET, Reg.SEC_STATUS.GROUP_KEY, Reg.SEC_STATUS.SWEEPING, Reg.SEC_STATUS.MC_BANKS, Reg.THI_OPS.COUNT,
    Reg.THI_CNT.NO_ROOM, Reg.THI_TABLE.COUNT, Reg.THI_TABLE.FIRST, Reg.THI_STATUS.FREE_UNITS, Reg.THI_STATUS.COMPACTING,
    Reg.THI_CNT.MULTI_HITS] s (s.purgeDurable k c) :=
  .andThen (.event (.foldl (.mono (State.setKeySlot_keeps ..)) fun _ _ => .mono (State.trimOwn_keeps ..))) (State.commitAdmin_keeps ..)

/-! ### Membership (R378 to R380) -/

theorem State.takeTable_keeps (s : State) (r : Block) (newKey : Bool) : Keeps [.group] [Reg.GLI_PEER.SESSION, Reg.GLI_LINKED.MASK,
    Reg.GLI_PEER.REQ_ID] s (s.takeTable r newKey) :=
  .foldl (.refl ..) fun _ _ => .ite (.wr (.setPeer (.mono (State.setSession_keeps ..)))) (.ite_on (.setPeer (.mono (State.setSession_keeps
      ..))) (.refl ..) (.wr (.setPeer (.refl ..))))

theorem State.groupDurable_keeps (s : State) (x : Ctx) : Keeps [.windows, .log, .group, .freeValues, .keys, .buses]
    [Reg.WIN_ENT_CTRL.TARGET, Reg.WIN_ENT_CTRL.WR_EN, Reg.WIN_ENT_CTRL.RD_EN, Reg.WIN_ENT_CTRL.RID_CHK, Reg.WIN_ENT_CTRL.RID,
    Reg.WIN_ENT_BASE.BASE, Reg.WIN_ENT_LIMIT.LIMIT, Reg.WIN_ENT_CTRL.PENDING, Reg.WIN_EPOCH.EPOCH, Reg.WIN_EPOCH.BUSY,
    Reg.GLI_PEER.SESSION, Reg.GLI_LINKED.MASK, Reg.GLI_PEER.REQ_ID, Reg.GLI_STATUS.STATE, Reg.SEC_STATUS.LOADED, Reg.SEC_STATUS.TK_SET,
    Reg.SEC_STATUS.GROUP_KEY, Reg.SEC_STATUS.SWEEPING, Reg.SEC_STATUS.MC_BANKS, Reg.GLI_STATUS.GROUP, Reg.GLI_STATUS.MEMBER] s
    (s.groupDurable x) :=
  .ite_on (.ite_on (.refl ..) (.mono (State.stageGroup_keeps ..)) (.mono (State.takeTable_keeps ..))) (.andThen (.andThen (.setGroup (.refl
      ..)) (State.takeTable_keeps ..)) (State.startJoining_keeps ..)) (.wr (.wr (.andThen (.with_sec (.refl ..)) (State.secRefresh_keeps
      ..))))

theorem State.leaveDurable_keeps (s : State) (k : Nat) : Keeps [.contexts, .group, .windows, .log, .ftl, .engine, .keys]
    [Reg.GLI_PEER.SESSION, Reg.GLI_LINKED.MASK, Reg.GLI_PEER.IN_VIEW, Reg.GLI_PEER.MISSED, Reg.GLI_PEER.REQ_ID, Reg.WIN_ENT_CTRL.TARGET,
    Reg.WIN_ENT_CTRL.WR_EN, Reg.WIN_ENT_CTRL.RD_EN, Reg.WIN_ENT_CTRL.RID_CHK, Reg.WIN_ENT_CTRL.RID, Reg.WIN_ENT_BASE.BASE,
    Reg.WIN_ENT_LIMIT.LIMIT, Reg.WIN_ENT_CTRL.PENDING, Reg.WIN_EPOCH.EPOCH, Reg.WIN_EPOCH.BUSY, Reg.THI_OPS.COUNT, Reg.THI_TABLE.COUNT,
    Reg.THI_TABLE.FIRST, Reg.THI_STATUS.FREE_UNITS, Reg.THI_STATUS.COMPACTING, Reg.GLI_STATUS.STATE, Reg.GLI_STATUS.STEWARD,
    Reg.GLI_STATUS.DEPUTY, Reg.GLI_STATUS.GROUP, Reg.GLI_STATUS.MEMBER, Reg.GLI_MEMBERS.MASK, Reg.GLI_VIEW.VIEW, Reg.SEC_STATUS.LOADED,
    Reg.SEC_STATUS.TK_SET, Reg.SEC_STATUS.GROUP_KEY, Reg.SEC_STATUS.SWEEPING, Reg.SEC_STATUS.MC_BANKS] s (s.leaveDurable k) :=
  .ite_on (.mono (State.commitAdmin_keeps ..)) (.refl ..) (.mono (State.depart_keeps ..))

/-! ### Microcode and firmware (R304, R305, R519) -/

theorem State.ucodeDurable_keeps (s : State) (slot c : Nat) : Keeps [.microcode, .bootStore, .contexts] [Reg.UCS_STATUS.SWAP_PENDING,
    Reg.BST_STATUS.WRITING] s (s.ucodeDurable slot c) :=
  .andThen (.andThen (.andThen (.with_ucode (.refl ..)) (State.swapSet_keeps ..)) (State.storeStart_keeps ..)) (State.commitAdmin_keeps ..)

theorem State.activateDurable_keeps (s : State) (slot c : Nat) : Keeps [.bootStore, .log, .contexts] [Reg.BST_STATUS.WRITING,
    Reg.BST_STATUS.ACTIVE, Reg.BST_STATUS.FUSED_SV, Reg.BST_STATUS.FAIL_COUNT, Reg.BST_STATUS.ACTIVATING, Reg.BST_SLOT.STATE,
    Reg.BST_SLOT.CHECK, Reg.BST_SLOT.SV, Reg.BST_SLOT.WRITTEN, Reg.BST_SLOT.VERSION] s (s.activateDurable slot c) :=
  .andThen (.event (.andThen (.andThen (.with_bst (.refl ..)) (State.storeStart_keeps ..)) (State.bstRefresh_keeps ..)))
      (State.commitAdmin_keeps ..)

/-! ### Records -/

theorem State.adminDurable_keeps (s : State) (a : AdminRec) (k : Nat) : Keeps [.features, .log, .contexts, .keys, .ftl, .engine, .flash,
    .windows, .group, .freeValues, .buses, .microcode, .bootStore, .endpoint, .rings, .vectors, .lostStripes, .health] [Reg.FRM_BUDGET.CAP,
    Reg.THM_CFG.SP, Reg.MIN_PATROL_CFG.RATE, Reg.FAN_CTRL.POLICY, Reg.BPM_POLICY.POLICY, Reg.SEC_STATUS.LOADED, Reg.SEC_STATUS.TK_SET,
    Reg.SEC_STATUS.GROUP_KEY, Reg.SEC_STATUS.SWEEPING, Reg.SEC_STATUS.MC_BANKS, Reg.SEC_CNT.ROLLS, Reg.THI_OPS.COUNT, Reg.THI_CNT.NO_ROOM,
    Reg.THI_TABLE.COUNT, Reg.THI_TABLE.FIRST, Reg.THI_STATUS.FREE_UNITS, Reg.THI_STATUS.COMPACTING, Reg.THI_CNT.MULTI_HITS,
    Reg.WIN_ENT_CTRL.TARGET, Reg.WIN_ENT_CTRL.WR_EN, Reg.WIN_ENT_CTRL.RD_EN, Reg.WIN_ENT_CTRL.RID_CHK, Reg.WIN_ENT_CTRL.RID,
    Reg.WIN_ENT_BASE.BASE, Reg.WIN_ENT_LIMIT.LIMIT, Reg.WIN_ENT_CTRL.PENDING, Reg.WIN_EPOCH.EPOCH, Reg.WIN_EPOCH.BUSY,
    Reg.GLI_PEER.SESSION, Reg.GLI_LINKED.MASK, Reg.GLI_PEER.REQ_ID, Reg.GLI_STATUS.STATE, Reg.GLI_STATUS.GROUP, Reg.GLI_STATUS.MEMBER,
    Reg.GLI_PEER.IN_VIEW, Reg.GLI_PEER.MISSED, Reg.GLI_STATUS.STEWARD, Reg.GLI_STATUS.DEPUTY, Reg.GLI_MEMBERS.MASK, Reg.GLI_VIEW.VIEW,
    Reg.UCS_STATUS.SWAP_PENDING, Reg.BST_STATUS.WRITING, Reg.BST_STATUS.ACTIVE, Reg.BST_STATUS.FUSED_SV, Reg.BST_STATUS.FAIL_COUNT,
    Reg.BST_STATUS.ACTIVATING, Reg.BST_SLOT.STATE, Reg.BST_SLOT.CHECK, Reg.BST_SLOT.SV, Reg.BST_SLOT.WRITTEN, Reg.BST_SLOT.VERSION,
    Reg.HIF_ASYNC.PEND, Reg.GLI_REBUILD.PLANNING, Reg.GLI_REBUILD.TARGET, Reg.GLI_STRIPE_CNT.OPEN, Reg.GLI_STRIPE_CNT.DEGRADED,
    Reg.GLI_STRIPE_LOST.COUNT, Reg.GLI_ROLES.STEWARD, Reg.GLI_ROLES.DEPUTY, Reg.GLI_CNT.VIEWS] s (s.adminDurable a k) := by
  unfold State.adminDurable
  dsimp only
  split
  · exact .refl ..
  · exact .ite (.andThen (.andThen (.with_saved (.refl ..)) (State.applyFeature_keeps ..)) (State.commitAdmin_keeps ..)) (.refl ..)
  · exact .ite (.mono (State.slotDurable_keeps ..)) (.refl ..)
  · exact .mono (State.setKeySlot_keeps ..)
  · exact .ite (.andThen (.andThen (.with_sec (.refl ..)) (State.secRefresh_keeps ..)) (State.commitAdmin_keeps ..)) (.refl ..)
  · exact .ite (.andThen (.andThen (.with_sec (.refl ..)) (State.secRefresh_keeps ..)) (State.commitAdmin_keeps ..)) (.refl ..)
  · exact .ite (.mono (State.purgeDurable_keeps ..)) (.refl ..)
  · exact .ite (.andThen (.mono (State.groupDurable_keeps ..)) (State.commitAdmin_keeps ..)) (.refl ..)
  · exact .ite (.mono (State.leaveDurable_keeps ..)) (.refl ..)
  · exact .ite (.mono (State.ucodeDurable_keeps ..)) (.refl ..)
  · exact .ite (.mono (State.activateDurable_keeps ..)) (.refl ..)
  · exact .ite (.mono (State.viewAckSend_keeps ..)) (.ite (.mono (State.viewWon_keeps ..)) (.refl ..))
  · exact .refl ..

theorem State.publishRow_keeps (s : State) (c : Nat) : Keeps [.group, .buses, .ftl, .contexts] [] s (s.publishRow c) :=
  .ite (.ite_on (.refl ..) (.mono (State.placeRange_keeps ..)) (.mono (State.publish_keeps ..))) (.refl ..)

theorem State.recDurable_keeps (s : State) (r : Rec) : Keeps [.group, .buses, .ftl, .contexts, .engine, .health, .flash, .log, .features,
    .keys, .windows, .freeValues, .microcode, .bootStore, .endpoint, .rings, .vectors, .lostStripes] [Reg.GLI_STRIPE_CNT.OPEN,
    Reg.GLI_STRIPE_CNT.DEGRADED, Reg.THI_OPS.COUNT, Reg.THI_TABLE.COUNT, Reg.THI_TABLE.FIRST, Reg.THI_STATUS.FREE_UNITS,
    Reg.THI_STATUS.COMPACTING, Reg.FRM_BUDGET.CAP, Reg.THM_CFG.SP, Reg.MIN_PATROL_CFG.RATE, Reg.FAN_CTRL.POLICY, Reg.BPM_POLICY.POLICY,
    Reg.SEC_STATUS.LOADED, Reg.SEC_STATUS.TK_SET, Reg.SEC_STATUS.GROUP_KEY, Reg.SEC_STATUS.SWEEPING, Reg.SEC_STATUS.MC_BANKS,
    Reg.SEC_CNT.ROLLS, Reg.THI_CNT.NO_ROOM, Reg.THI_CNT.MULTI_HITS, Reg.WIN_ENT_CTRL.TARGET, Reg.WIN_ENT_CTRL.WR_EN,
    Reg.WIN_ENT_CTRL.RD_EN, Reg.WIN_ENT_CTRL.RID_CHK, Reg.WIN_ENT_CTRL.RID, Reg.WIN_ENT_BASE.BASE, Reg.WIN_ENT_LIMIT.LIMIT,
    Reg.WIN_ENT_CTRL.PENDING, Reg.WIN_EPOCH.EPOCH, Reg.WIN_EPOCH.BUSY, Reg.GLI_PEER.SESSION, Reg.GLI_LINKED.MASK, Reg.GLI_PEER.REQ_ID,
    Reg.GLI_STATUS.STATE, Reg.GLI_STATUS.GROUP, Reg.GLI_STATUS.MEMBER, Reg.GLI_PEER.IN_VIEW, Reg.GLI_PEER.MISSED, Reg.GLI_STATUS.STEWARD,
    Reg.GLI_STATUS.DEPUTY, Reg.GLI_MEMBERS.MASK, Reg.GLI_VIEW.VIEW, Reg.UCS_STATUS.SWAP_PENDING, Reg.BST_STATUS.WRITING,
    Reg.BST_STATUS.ACTIVE, Reg.BST_STATUS.FUSED_SV, Reg.BST_STATUS.FAIL_COUNT, Reg.BST_STATUS.ACTIVATING, Reg.BST_SLOT.STATE,
    Reg.BST_SLOT.CHECK, Reg.BST_SLOT.SV, Reg.BST_SLOT.WRITTEN, Reg.BST_SLOT.VERSION, Reg.HIF_ASYNC.PEND, Reg.GLI_REBUILD.PLANNING,
    Reg.GLI_REBUILD.TARGET, Reg.GLI_STRIPE_LOST.COUNT, Reg.GLI_ROLES.STEWARD, Reg.GLI_ROLES.DEPUTY, Reg.GLI_CNT.VIEWS] s (s.recDurable r)
    := by
  unfold State.recDurable
  dsimp only
  split
  · split
    · exact .andThen ((by
        split
        · exact .mono (State.publishRow_keeps ..)
        · exact .refl ..)) (State.placeVersion_keeps ..)
    · split
      · exact .mono (State.publishRow_keeps ..)
      · exact .refl ..
  · split
    · exact .ite (.mono (State.publishRow_keeps ..)) (.refl ..)
    · exact .refl ..
  · split
    · exact .ite (.mono (State.commitWrite_keeps ..)) (.refl ..)
    · exact .refl ..
  · exact .mono (State.applyMap_keeps ..)
  · exact .ite (.mono (State.rangeDone_keeps ..)) (.refl ..)
  · exact .foldl (.refl ..) fun _ _ => .ite (.setBlk (.refl ..)) (.refl ..)
  · exact .mono (State.adminDurable_keeps ..)
  · exact .refl ..
  · exact .refl ..
  · exact .refl ..
  · exact .refl ..
  · exact .refl ..
  · exact .refl ..
  · exact .refl ..
  · exact .refl ..
  · exact .refl ..

theorem execJournalBatchDurable_steady (s : State) : Yields (Steady s) (execJournalBatchDurable s) := by
  unfold execJournalBatchDurable
  dsimp only
  split
  · exact .ite (fun _ => .next (.trans (.trans (.trans (.fold (.with_ftl (.refl ..) ..) (fun _ _ => (State.recDurable_keeps ..).steady) _)
      (State.sendOwed_keeps ..).steady) (State.sweepVersions_keeps ..).steady) (State.refreshJournal_keeps ..).steady)) fun _ => .next
      (.refl ..)
  · exact .next (.refl ..)

/-! ### The rail sequence (R62) -/

theorem execPowerGood_steady (s : State) : Yields (Steady s) (execPowerGood s) :=
  .ite (fun _ => .ite (fun _ => .next (.with_sup (.refl ..) ..)) fun _ => .next (.setSup (.refl ..) ..)) fun _ => .next (.refl ..)

theorem execPowerGoodTimeout_steady (s : State) : Yields (Steady s) (execPowerGoodTimeout s) :=
  .ite (fun _ => .ite (fun _ => .next (.setSup (.refl ..) ..)) fun _ => .next (.setSup (.refl ..) ..)) fun _ => .next (.refl ..)

theorem execRailSequenceRetry_steady (s : State) : Yields (Steady s) (execRailSequenceRetry s) :=
  .ite (fun _ => .next (.setSup (.refl ..) ..)) fun _ => .next (.refl ..)

/-! ### The trigger moment of a drain (R79, R80, R103, R239, R559) -/

theorem State.recognise_keeps (s : State) (k : DrainKind) : Keeps [.fans, .supply, .keys, .group, .health, .reconcile, .endpoint,
    .microcode, .bootStore, .engine, .ftl, .log, .tags, .decodes, .contexts, .flash, .scheduler, .power, .buses, .subchannels, .dram]
    [Reg.HUP_STATUS.OV_EVENT, Reg.FAN_F.STATE, Reg.FAN_F.DUTY, Reg.CHN_ENG_STATUS.BO_MODE, Reg.HUP_STATUS.VIN_OK, Reg.THI_OPS.COUNT,
    Reg.THI_CNT.MULTI_HITS, Reg.GLI_STATUS.STATE, Reg.SEC_STATUS.LOADED, Reg.SEC_STATUS.TK_SET, Reg.SEC_STATUS.GROUP_KEY,
    Reg.SEC_STATUS.SWEEPING, Reg.SEC_STATUS.MC_BANKS, Reg.THI_TABLE.COUNT, Reg.THI_TABLE.FIRST, Reg.THI_STATUS.FREE_UNITS,
    Reg.THI_STATUS.COMPACTING, Reg.HUP_STATUS.MEAS_BUSY, Reg.HUP_STATUS.BLEED_ON, Reg.HUP_STATUS.CHARGING, Reg.FRM_STATUS.MODE,
    Reg.PWR_STATUS.PHASE, Reg.PWR_AVS.REQ_MV, Reg.PWR_AVS.BUSY, Reg.DRC_SC.STATE, Reg.DRC_STATUS.TRN_BUSY] s (s.recognise k) :=
  .ite (.ite (.mono (State.brownSignal_keeps ..)) (.refl ..)) (.ite (.mono (State.coldTrigger_keeps ..)) (.ite_on (.setSup (.wr (.mono
      (State.measAbort_keeps ..)))) (.setSup (.refl ..)) (.wr (.ite (.wr (.refl ..)) (.refl ..)))))

theorem execBrownOut_steady (vin : Nat) (s : State) : Yields (Steady s) (execBrownOut vin s) :=
  .ite (fun _ => .next (.trans (.setSup (.refl ..) ..) (State.recognise_keeps ..).steady)) fun _ => .next (.refl ..)

theorem execOvervoltage_steady (vin : Nat) (s : State) : Yields (Steady s) (execOvervoltage vin s) :=
  .ite (fun _ => .next (.trans (.setSup (.refl ..) ..) (State.recognise_keeps ..).steady)) fun _ => .next (.refl ..)

theorem execBankSwitchover_steady (s : State) : Yields (Steady s) (execBankSwitchover s) :=
  .ite (fun _ => .next (.setSup ((State.brownChannels_keeps ..).steady) ..)) fun _ => .next (.refl ..)

/-! ### The drain (R365) -/

theorem execBleedDischargeEnd_steady (vbank : Nat) (s : State) : Yields (Steady s) (execBleedDischargeEnd vbank s) :=
  .ite (fun _ => .next (.wr (.setSup (.refl ..) ..) ..)) fun _ => .next (.refl ..)

/-! ### The charger and measurements (R66, R69 to R71) -/

theorem execVbankOvervoltage_steady (vbank : Nat) (s : State) : Yields (Steady s) (execVbankOvervoltage vbank s) :=
  .ite (fun _ => .next (.refreshCeiling (.trans (.wr (.wr (.wr (.trans (.setSup (.refl ..) ..) (State.measAbort_keeps ..).steady) ..) ..)
      ..) (State.refreshBank_keeps ..).steady) ..)) fun _ => .next (.refl ..)

theorem execVbankOvRecover_steady (vbank : Nat) (s : State) : Yields (Steady s) (execVbankOvRecover vbank s) :=
  .ite (fun _ => .next (.refreshCeiling (.trans (.trans (.trans (.wr (.setSup (.refl ..) ..) ..) (State.refreshBank_keeps ..).steady)
      (State.recharge_keeps ..).steady) (State.measIfDue_keeps ..).steady) ..)) fun _ => .next (.refl ..)

theorem execChargeTargetReached_steady (vbank : Nat) (s : State) : Yields (Steady s) (execChargeTargetReached vbank s) :=
  .ite (fun _ => .next (.refreshCeiling (.trans (.trans (.wr (.setSup (.refl ..) ..) ..) (State.refreshBank_keeps ..).steady)
      (State.measIfDue_keeps ..).steady) ..)) fun _ => .next (.refl ..)

theorem execCapMeasHourly_steady (s : State) : Yields (Steady s) (execCapMeasHourly s) :=
  .ite (fun _ => .next (.trans (.setSup (.refl ..) ..) (State.measBleed_keeps ..).steady)) fun _ => .next (.refl ..)

theorem execVbankDropDetected_steady (vbank : Nat) (s : State) : Yields (Steady s) (execVbankDropDetected vbank s) :=
  .ite (fun _ => .next (.trans (.trans (.trans (.setSup (.refl ..) ..) (State.refreshBank_keeps ..).steady) (State.recharge_keeps
      ..).steady) (State.measBleed_keeps ..).steady)) fun _ => .next (.refl ..)

theorem execMeasNow_steady (s : State) : Yields (Steady s) (execMeasNow s) :=
  .ite (fun _ => .next ((State.measBleed_keeps ..).steady)) fun _ => .next (.refl ..)

theorem execMeasBleedClose_steady (s : State) : Yields (Steady s) (execMeasBleedClose s) :=
  .ite (fun _ => .next (.wr (.wr (.setSup (.refl ..) ..) ..) ..)) fun _ => .next (.refl ..)

theorem execMeasBleedOpen_steady (vbank : Nat) (s : State) : Yields (Steady s) (execMeasBleedOpen vbank s) := by
  unfold execMeasBleedOpen
  dsimp only
  split
  · exact .ite (fun _ => .next (.wr (.wr (.setSup (.refl ..) ..) ..) ..)) fun _ => .next (.refl ..)
  · exact .next (.refl ..)

theorem execMeasCountStart_steady (vbank : Nat) (s : State) : Yields (Steady s) (execMeasCountStart vbank s) := by
  unfold execMeasCountStart
  dsimp only
  split
  · exact .ite (fun _ => .next (.setSup (.refl ..) ..)) fun _ => .next (.refl ..)
  · exact .next (.refl ..)

theorem State.measEnd_keeps (s : State) (n : Nat) (bleed : Bool) : Keeps [.supply, .log, .health, .ftl] [Reg.HUP_CAP_MEAS.CAP,
    Reg.HUP_CAP_MEAS.AGE, Reg.HUP_CAP_MEAS.VALID, Reg.HUP_CAP_MEAS.METHOD, Reg.HUP_STATUS.MEAS_FAIL, Reg.HUP_STATUS.MEAS_BUSY,
    Reg.HUP_STATUS.CHARGING, Reg.HUP_STATUS.WRITE_THR, Reg.HUP_ENERGY.EUSE, Reg.HUP_ENERGY.VBANK, Reg.BRU_STAGE.WRITE_UP,
    Reg.FRM_CEILING.CEIL_MIB, Reg.FRM_CEILING.SOURCE, Reg.FRM_JPB.MODEL] s (s.measEnd n bleed) :=
  .andThen (.andThen (.andThen (.wr (.wr (.wr (.wr (.wr (.wr (.setSup (.setSup (.refl ..))))))))) (State.recharge_keeps ..))
      (State.refreshBank_keeps ..)) (State.refreshCeiling_keeps ..)

theorem execMeasComplete_steady (vbank : Nat) (s : State) : Yields (Steady s) (execMeasComplete vbank s) := by
  unfold execMeasComplete
  dsimp only
  split
  · exact .ite (fun _ => .next (.trans (.setSup (.refl ..) ..) (State.measEnd_keeps ..).steady)) fun _ => .next (.refl ..)
  · exact .ite (fun _ => .next (.trans (.setSup (.refl ..) ..) (State.measEnd_keeps ..).steady)) fun _ => .next (.refl ..)
  · exact .next (.refl ..)

/-! ### Resets of a function (R44, R101, R102, R212) -/

theorem execPerstAssert_steady (fn : Fn) (s : State) : Yields (Steady s) (execPerstAssert fn s) :=
  .ite (fun _ => .ite (fun _ => .next (.setEp (.refl ..) ..)) fun _ => .ite (fun _ => .next (.setSup (.trans (.trans (.trans (.trans
      (.setEp (.refl ..) ..) (State.trigger_keeps ..).steady) (State.cutJournal_keeps ..).steady) (State.interrupt_keeps ..).steady)
      (State.measAbort_keeps ..).steady) ..)) fun _ => .next (.fold (.setEp (.refl ..) ..) (fun _ _ => (State.resetFn_steady ..)) _)) fun _
      => .next (.refl ..)

theorem execHotReset_steady (fn : Fn) (s : State) : Yields (Steady s) (execHotReset fn s) :=
  .ite (fun _ => .next ((State.resetFn_steady ..))) fun _ => .next (.refl ..)

theorem execLinkDown_steady (fn : Fn) (s : State) : Yields (Steady s) (execLinkDown fn s) :=
  .ite (fun _ => .next (.ite_on (.wr (.refl ..) ..) (.refl ..) (.wr ((State.resetFn_steady ..)) ..))) fun _ => .next (.refl ..)

theorem execFlr_steady (fn : Fn) (s : State) : Yields (Steady s) (execFlr fn s) :=
  .ite (fun _ => .next (.trans (.wakeTlp (.refl ..) ..) (State.resetFn_steady ..))) fun _ => .next (.refl ..)

theorem execResetEnd_steady (fn : Fn) (s : State) : Yields (Steady s) (execResetEnd fn s) :=
  .ite (fun _ => .next (.setEp (.refl ..) ..)) fun _ => .next (.refl ..)

/-! ### Links (R137, R141, R145) -/

theorem execLinkUp_steady (fn : Fn) (speed : Fin 7) (width : Nat) (flit : Bool) (s : State) : Yields (Steady s) (execLinkUp fn speed width
    flit s) :=
  .ite (fun _ => .next (.wr (.wr (.wr (.wr (.wr (.refl ..) ..) ..) ..) ..) ..)) fun _ => .next (.refl ..)

theorem execL0pWidthChange_steady (fn : Fn) (width : Nat) (s : State) : Yields (Steady s) (execL0pWidthChange fn width s) :=
  .ite (fun _ => .next (.wr (.refl ..) ..)) fun _ => .next (.refl ..)

/-! ### D3hot (R140, R528, R544) -/

theorem State.leaveD3_keeps (s : State) (f : Nat) : Keeps [.endpoint, .rings, .vectors, .buses] [Reg.HIF_ASYNC.PEND] s (s.leaveD3 f) :=
  .foldl (.setEp (.refl ..)) fun _ _ => .mono (State.postAsync_keeps ..)

theorem State.pmcsr_keeps (s : State) (f data : Nat) : Keeps [.endpoint, .power, .buses, .rings, .vectors] [Reg.PWR_STATUS.PHASE,
    Reg.PWR_AVS.REQ_MV, Reg.PWR_AVS.BUSY, Reg.PWR_REQ.F0, Reg.PWR_REQ.F1, Reg.PWR_STATUS.TARGET, Reg.HIF_ASYNC.PEND] s (s.pmcsr f data) :=
  .ite_on (.ite (.refl ..) (.andThen (.setEp (.refl ..)) (State.refreshTarget_keeps ..))) (.ite (.andThen (.mono (State.leaveD3_keeps ..))
      (State.refreshTarget_keeps ..)) (.refl ..)) (.setEp (.refl ..))

theorem execPmcsrWrite_steady (fn : Fn) (data : Word) (s : State) : Yields (Steady s) (execPmcsrWrite fn data s) :=
  .ite (fun _ => .next (.wakeTlp ((State.pmcsr_keeps ..).steady) ..)) fun _ => .next (.refl ..)

theorem execPmeTurnOff_steady (fn : Fn) (s : State) : Yields (Steady s) (execPmeTurnOff fn s) :=
  .ite (fun _ => .next (.emit (.setEp (.refl ..) ..) ..)) fun _ => .next (.refl ..)

/-! ### Internal resets (R103, R111) -/

theorem execWatchdogRestart_steady (s : State) : Yields (Steady s) (execWatchdogRestart s) :=
  .ite (fun _ => .next ((State.coldTrigger_keeps ..).steady)) fun _ => .next (.refl ..)

theorem execColdReq_steady (fn : Fn) (key : Byte) (s : State) : Yields (Steady s) (execColdReq fn key s) :=
  .ite (fun _ => .ite (fun _ => .next (.regEvent (.wakeTlp (.refl ..) ..) ..)) fun _ => .ite (fun _ => .next (.wakeTlp (.refl ..) ..)) fun
      _ => .next ((State.coldTrigger_keeps ..).steady)) fun _ => .next (.refl ..)

theorem execLockstepMismatch_steady (pair : Fin 8) (s : State) : Yields (Steady s) (execLockstepMismatch pair s) :=
  .ite (fun _ => .next (.with_pairs (.partFail (.bump (.setHealth (.wr (.wr (.refl ..) ..) ..) ..) ..) ..) ..)) fun _ => .next (.refl ..)

theorem execLockstepTakeoverDone_steady (s : State) : Yields (Steady s) (execLockstepTakeoverDone s) :=
  .ite (fun _ => .next (.with_pairs (.refl ..) ..)) fun _ => .next (.refl ..)

/-! ### Steps 0 and 1 (R92, R516, R517) -/

theorem execBootCodeLoaded_steady (s : State) : Yields (Steady s) (execBootCodeLoaded s) :=
  .ite (fun _ => .next (.wr (.with_boot (.setHealth (.wr (.refl ..) ..) ..) ..) ..)) fun _ => .next (.refl ..)

theorem State.slotChecked_keeps (s : State) (i : Nat) (pass : Bool) : Keeps [.log, .bootStore] [Reg.BST_STATUS.ACTIVE,
    Reg.BST_STATUS.FUSED_SV, Reg.BST_STATUS.FAIL_COUNT, Reg.BST_STATUS.WRITING, Reg.BST_STATUS.ACTIVATING, Reg.BST_SLOT.STATE,
    Reg.BST_SLOT.CHECK, Reg.BST_SLOT.SV, Reg.BST_SLOT.WRITTEN, Reg.BST_SLOT.VERSION] s (s.slotChecked i pass) :=
  .ite_on (.refl ..) (.event (.refl ..)) (.mono (State.setFw_keeps ..))

theorem execFirmwareSlotCheck_steady (ok1 ok2 : Bool) (s : State) : Yields (Steady s) (execFirmwareSlotCheck ok1 ok2 s) :=
  .ite (fun _ => .ite (fun _ => .next (.trans ((State.slotChecked_keeps ..).steady) (State.bootSlot_steady ..))) fun _ => .ite (fun _ =>
      .next (.trans (.event (.trans ((State.slotChecked_keeps ..).steady) (State.slotChecked_keeps ..).steady) ..) (State.bootSlot_steady
      ..))) fun _ => .next (.event (.wr (.wr (.trans (.update (.trans ((State.slotChecked_keeps ..).steady) (State.slotChecked_keeps
      ..).steady)) (State.bstRefresh_keeps ..).steady) ..) ..) ..)) fun _ => .next (.refl ..)

/-! ### Step 2 (R74, R92, R119, R270, R302, R494, R586) -/

theorem State.loadFields_steady (s : State) (l : List (Nat × Nat)) : Steady s (s.loadFields l) := by
  unfold State.loadFields
  exact .fold (.refl ..) (fun _ _ => (by
      split
      · exact .wr (.refl ..) ..
      · exact .refl ..)) _

theorem State.countTrip_keeps (s : State) : Keeps [] [Reg.THM_CNT.TRIPS] s (s.countTrip) :=
  .ite (.bump (.refl ..)) (.refl ..)

theorem State.rawTake_keeps (s : State) : Keeps [] [Reg.CHN_RAW_ACT.RAW] s (s.rawTake) :=
  .foldl (.refl ..) fun _ _ => .wr (.refl ..)

theorem State.firstKey_keeps (s : State) : Keeps [.keys, .freeValues] [Reg.SEC_STATUS.LOADED, Reg.SEC_STATUS.TK_SET,
    Reg.SEC_STATUS.GROUP_KEY, Reg.SEC_STATUS.SWEEPING, Reg.SEC_STATUS.MC_BANKS] s (s.firstKey) :=
  .ite (.freeNext (.mono (State.setKeySlot_keeps ..))) (.refl ..)

/-! ### Steps 3 and 4 (R92, R427) -/

theorem execHostInterfaceStart_steady (s : State) : Yields (Steady s) (execHostInterfaceStart s) :=
  .ite (fun _ => .next (.fold (.wr (.wr (.trans (.trans (.with_boot (.refl ..) ..) (State.thiCreate_steady ..)) (State.dramStart_keeps
      ..).steady) ..) ..) (fun _ _ => .ite (.wr (.refl ..) ..) (.refl ..)) _)) fun _ => .next (.refl ..)

/-! ### Step 5: replay (R108, R212, R350, R357, R366) -/

theorem State.restartBands_keeps (s : State) : Keeps [.flash] [] s (s.restartBands) :=
  .foldl (.refl ..) fun _ _ => .ite (.with_blks_bands (.refl ..)) (.ite (.with_blks_bands (.refl ..)) (.setBand (.refl ..)))

theorem State.drainMap_keeps (s : State) (iu addr top : Nat) : Keeps [.flash, .ftl] [] s (s.drainMap iu addr top) :=
  .record (.mono (State.setMap_keeps ..))

theorem State.replayDrain_keeps (s : State) (committed : List Nat) : Keeps [.ftl, .flash] [] s (s.replayDrain committed) := by
  unfold State.replayDrain
  dsimp only
  exact .with_ftl (.andThen (.andThen (.foldl (.foldl (.andThen (.with_ftl (.refl ..)) (State.layDown_keeps ..)) fun _ _ => (by
      split
      · exact .mono (State.drainMap_keeps ..)
      · exact .refl ..)) fun _ _ => .mono (State.drainMap_keeps ..)) (State.keepVersions_keeps ..)) (State.mapVersions_keeps ..))

theorem State.rawBlocks_keeps (s : State) : Keeps [.flash] [] s (s.rawBlocks) :=
  .with_blks (.refl ..)

theorem State.takeSample_keeps (s : State) : Keeps [.log, .supply, .health, .ftl] [Reg.FRM_JPB.MEAS, Reg.FRM_CEILING.CEIL_MIB,
    Reg.FRM_CEILING.SOURCE, Reg.FRM_JPB.MODEL] s (s.takeSample) := by
  unfold State.takeSample
  dsimp only
  split
  · exact .ite_on (.event (.refl ..)) (.refl ..) (.andThen (.wr (.setSup (.refl ..))) (State.refreshCeiling_keeps ..))
  · exact .refl ..

theorem State.endStep5_keeps (s : State) : Keeps [.boot, .endpoint, .rings, .vectors, .buses] [Reg.BRU_STAGE.STEP, Reg.HIF_ASYNC.PEND] s
    (s.endStep5) :=
  .ite (.andThen (.wr (.with_boot (.refl ..))) (State.postRecon_keeps ..)) (.refl ..)

/-! ### Bloom and Pour (R90, R91, R94, R98, R100) -/

theorem execPourEntry_steady (s : State) : Yields (Steady s) (execPourEntry s) :=
  .ite (fun _ => .next (.asyncAll (.refreshCeiling (.wr (.wr (.wr (.with_boot (.refl ..) ..) ..) ..) ..) ..) ..)) fun _ => .next (.refl ..)

theorem execBloomBoundMissed_steady (s : State) : Yields (Steady s) (execBloomBoundMissed s) :=
  .ite (fun _ => .next (.event (.with_boot (.refl ..) ..) ..)) fun _ => .next (.refl ..)

/-! ### Firmware activation (R213, R519) -/

theorem execActivationDrainEnd_steady (s : State) : Yields (Steady s) (execActivationDrainEnd s) :=
  .ite (fun _ => .next (.update (.refl ..))) fun _ => .next (.refl ..)

theorem execFirmwareResume_steady (s : State) : Yields (Steady s) (execFirmwareResume s) :=
  .ite (fun _ => .dite (fun _ => .after (.ite_on (.with_ucode ((State.swapSet_keeps ..).steady) ..) (.refl ..) (.bump (.trans (.update
      (.refl ..)) (State.bstRefresh_keeps ..).steady) ..)) (execCompletionWrite_steady ..)) fun _ => .next (.ite_on (.with_ucode
      ((State.swapSet_keeps ..).steady) ..) (.refl ..) (.bump (.trans (.update (.refl ..)) (State.bstRefresh_keeps ..).steady) ..))) fun _
      => .next (.refl ..)

/-! ### The thermal rows -/

theorem State.trip_keeps (s : State) : Keeps [.thermal, .health, .supply, .fans, .keys, .group, .reconcile, .endpoint, .microcode,
    .bootStore, .engine, .ftl, .log, .tags, .decodes, .contexts, .flash, .scheduler, .power, .buses, .subchannels, .dram, .luns, .rings,
    .vectors, .channels] [Reg.HUP_STATUS.OV_EVENT, Reg.FAN_F.STATE, Reg.FAN_F.DUTY, Reg.CHN_ENG_STATUS.BO_MODE, Reg.HUP_STATUS.VIN_OK,
    Reg.THI_OPS.COUNT, Reg.THI_CNT.MULTI_HITS, Reg.GLI_STATUS.STATE, Reg.SEC_STATUS.LOADED, Reg.SEC_STATUS.TK_SET,
    Reg.SEC_STATUS.GROUP_KEY, Reg.SEC_STATUS.SWEEPING, Reg.SEC_STATUS.MC_BANKS, Reg.THI_TABLE.COUNT, Reg.THI_TABLE.FIRST,
    Reg.THI_STATUS.FREE_UNITS, Reg.THI_STATUS.COMPACTING, Reg.HUP_STATUS.MEAS_BUSY, Reg.HUP_STATUS.BLEED_ON, Reg.HUP_STATUS.CHARGING,
    Reg.FRM_STATUS.MODE, Reg.PWR_STATUS.PHASE, Reg.PWR_AVS.REQ_MV, Reg.PWR_AVS.BUSY, Reg.DRC_SC.STATE, Reg.DRC_STATUS.TRN_BUSY,
    Reg.CHN_CNT.CHECK_FAULTS, Reg.CHN_FAULT.CODE, Reg.CHN_FAULT.LUN, Reg.CHN_FAULT.VALID, Reg.CHN_FAULT_ADDR.ADDR, Reg.CHN_LUN_FAIL.FAILED,
    Reg.HIF_ASYNC.PEND, Reg.UCS_CNT.OVERRUNS, Reg.UCS_TRAP.CODE, Reg.UCS_TRAP.CHANNEL, Reg.UCS_TRAP.LUN, Reg.UCS_TRAP.ADDR,
    Reg.UCS_TRAP.VALID] s (s.trip) :=
  .andThen (.andThen (.with_thermal (.refl ..)) (State.coldTrigger_keeps ..)) (State.brownChannels_keeps ..)

theorem execBoardSensorSample_steady (input : Fin 4) (reading : Int) (s : State) : Yields (Steady s) (execBoardSensorSample input reading
    s) :=
  .ite (fun _ => .next (.trans ((State.sampled_keeps ..).steady) (State.stopCheck_keeps ..).steady)) fun _ => .next (.refl ..)

theorem execNandTempRead_steady (ch : Chan) (lun : LunNo) (reading : Option Int) (s : State) : Yields (Steady s) (execNandTempRead ch lun
    reading s) := by
  unfold execNandTempRead
  dsimp only
  exact .ite (fun _ => .next (.trans ((by
      split
      · exact .ite_on (.setLun (.refl ..) ..) (.refl ..) ((State.sampled_keeps ..).steady)
      · exact (State.sampled_keeps ..).steady)) (State.stopCheck_keeps ..).steady)) fun _ => .next (.refl ..)

theorem execOrderlyStopComplete_steady (s : State) : Yields (Steady s) (execOrderlyStopComplete s) :=
  .ite (fun _ => .next (.trans (.wr (.refl ..) ..) (State.postThermal_keeps ..).steady)) fun _ => .next (.refl ..)

theorem execOrderlyStopEnd_steady (s : State) : Yields (Steady s) (execOrderlyStopEnd s) := by
  unfold execOrderlyStopEnd
  dsimp only
  split
  · exact .ite (fun _ => .next (.trans (.refreshCeiling (.event (.trans (.wr (.with_thermal (.refl ..) ..) ..) (State.thermalState_keeps
      ..).steady) ..) ..) (State.postThermal_keeps ..).steady)) fun _ => .next (.refl ..)
  · exact .next (.refl ..)

/-! ### The temperature history (R561) -/

theorem State.historyFrame_keeps (s : State) : Keeps [.thermal] [] s (s.historyFrame) :=
  .with_thermal (.refl ..)

theorem State.historySecond_keeps (s : State) : Keeps [.thermal] [] s (s.historySecond) :=
  .with_thermal (.refl ..)

theorem State.historyHour_keeps (s : State) : Keeps [.thermal] [] s (s.historyHour) :=
  .with_thermal (.refl ..)

theorem State.history_keeps (s : State) : Keeps [.thermal] [] s (s.history) :=
  .ite_on (.mono (State.historyHour_keeps ..)) (.refl ..) (.ite_on (.mono (State.historySecond_keeps ..)) (.refl ..) (.mono
      (State.historyFrame_keeps ..)))

/-! ### Time and the bank (R6, R67, R77, R591) -/

theorem State.frameCount_keeps (s : State) : Keeps [] [Reg.FRM_OVER.SUSPEND, Reg.FRM_COUNT.FRAMES, Reg.CSQ_WDOG.SINCE] s (s.frameCount) :=
  .ite_on (.bump (.refl ..)) (.refl ..) (.wr (.bump (.refl ..)))

/-! ### Availability (R51, R52, R53) -/

theorem State.frameAvail_keeps (s : State) : Keeps [.health] [] s (s.frameAvail) :=
  .ite (.count (.refl ..)) (.refl ..)

/-! ### The plan takes effect (R220, R255, R285) -/

theorem State.issue_keeps (caps : List (Nat × List Nat)) (s : State) (e : Nat × Nat × Nat) : Keeps [.luns, .decodes, .flash, .ftl, .health,
    .log, .engine, .endpoint, .rings, .vectors, .buses, .channels] [Reg.CHN_CNT.CHECK_FAULTS, Reg.CHN_FAULT.CODE, Reg.CHN_FAULT.LUN,
    Reg.CHN_FAULT.VALID, Reg.CHN_FAULT_ADDR.ADDR, Reg.CHN_LUN_FAIL.FAILED, Reg.THI_OPS.COUNT, Reg.THI_TABLE.COUNT, Reg.THI_TABLE.FIRST,
    Reg.THI_STATUS.FREE_UNITS, Reg.THI_STATUS.COMPACTING, Reg.HIF_ASYNC.PEND, Reg.UCS_CNT.OVERRUNS, Reg.UCS_TRAP.CODE,
    Reg.UCS_TRAP.CHANNEL, Reg.UCS_TRAP.LUN, Reg.UCS_TRAP.ADDR, Reg.UCS_TRAP.VALID] s (State.issue caps s e) := by
  unfold State.issue
  dsimp only
  split
  · exact .ite (.mono (State.continue__keeps ..)) (.refl ..)
  · split
    · exact .ite (.mono (State.startOp_keeps ..)) (.refl ..)
    · exact .refl ..

theorem State.wakeEngines_keeps (s : State) : Keeps [.power] [Reg.PWR_DOM_STATE.ALL] s (s.wakeEngines) := by
  unfold State.wakeEngines
  dsimp only
  exact .foldl (.foldl (.refl ..) fun _ _ => .mono (State.domWork_keeps ..)) fun _ _ => (by
      split
      · exact .mono (State.domWork_keeps ..)
      · exact .refl ..)

theorem State.openFrame_steady (s : State) (caps : List (Nat × List Nat)) : Steady s (s.openFrame caps) :=
  .ite_on (.fold (.refl ..) (fun _ _ => (State.issue_keeps ..).steady) _) (.refl ..) (.update (.ite ((State.wakeEngines_keeps ..).steady)
      (.refl ..)))

theorem State.trainSteps_keeps (s : State) (passed : List Nat) : Keeps [.channels] [] s (s.trainSteps passed) :=
  .foldl (.refl ..) fun _ _ => .ite (.setChn (.refl ..)) (.refl ..)

/-! ### The journal batch (R207, R502) -/

theorem State.keyMarks_keeps (s : State) : Keeps [.ftl] [] s (s.keyMarks) :=
  .foldl (.refl ..) fun _ _ => .record (.refl ..)

theorem State.journalFrame_keeps (s : State) : Keeps [.group, .ftl, .flash] [] s (s.journalFrame) := by
  unfold State.journalFrame
  dsimp only
  split
  · exact .refl ..
  · exact .ite_on (.refl ..) (.with_ftl (.setGroup (.refl ..))) (.andThen (.andThen (.mono (State.batchWrites_keeps ..))
      (State.mapStripes_keeps ..)) (State.keyMarks_keeps ..))

/-! ### Recovery records (R326, R479) and row mismatches (R330) -/

theorem State.thiRecovSync_keeps (s : State) : Keeps [.engine, .log] [Reg.THI_OPS.COUNT, Reg.THI_TABLE.COUNT, Reg.THI_TABLE.FIRST,
    Reg.THI_STATUS.FREE_UNITS, Reg.THI_STATUS.COMPACTING, Reg.THI_CNT.NO_ROOM] s (s.thiRecovSync) :=
  .foldl (.foldl (.refl ..) fun _ _ => .mono (State.thiDelete_keeps ..)) fun _ _ => .ite (.refl ..) (.mono (State.thiInsertAny_keeps ..))

theorem State.rowMismatch_keeps (s : State) (a : Nat) (xorBad : Bool) : Keeps [.flash, .decodes, .log] [Reg.MIN_CNT2.REFRESH_REQ,
    Reg.MIN_CNT.ROW_MISMATCH] s (s.rowMismatch a xorBad) := by
  unfold State.rowMismatch
  dsimp only
  split
  · exact .ite (.ite_on (.foldl (.refl ..) fun _ _ => .mono (State.refresh_keeps ..)) (.foldl (.refl ..) fun _ _ => .with_decs (.refl ..))
      (.event (.bump (.refl ..)))) (.refl ..)
  · exact .refl ..

/-! ### Bring-up at the boundary (R92, R95, R96, R98, R428, R452) -/

theorem State.stepFour_keeps (s : State) : Keeps [.boot, .endpoint, .rings, .vectors, .buses, .log] [Reg.BRU_STAGE.STEP,
    Reg.HIF_ASYNC.PEND] s (s.stepFour) :=
  .ite (.ite (.andThen (.wr (.with_boot (.refl ..))) (State.endStep5_keeps ..)) (.ite (.event (.with_boot (.refl ..))) (.refl ..))) (.refl
      ..)

theorem State.mapLoad_keeps (s : State) : Keeps [.boot, .dram] [Reg.BRU_STAGE.MAP_RESIDENT] s (s.mapLoad) := by
  unfold State.mapLoad
  dsimp only
  split
  · exact .refl ..
  · exact .ite_on (.wr (.refl ..)) (.refl ..) (.with_boot (.refl ..))
  · exact .with_boot_dram (.refl ..)

/-! ### Idleness (R530) and rates (R424, R524) -/

theorem State.countIdle_keeps (s : State) : Keeps [.power] [] s (s.countIdle) :=
  .setPwr (.refl ..)

theorem State.rebuildRate_keeps (s : State) : Keeps [.group] [Reg.GLI_REBUILD.RATE] s (s.rebuildRate) :=
  .ite (.setGroup (.wr (.refl ..))) (.refl ..)

/-! ### The row -/

theorem State.frameWork_keeps (s : State) (inp : FrameIn) : Keeps [.group, .ftl, .flash, .decodes, .log, .engine, .buses, .dram,
    .bootStore, .boot, .endpoint, .rings, .vectors] [Reg.PWR_DOM_STATE.ALL, Reg.MIN_CNT2.REFRESH_REQ, Reg.MIN_CNT.ROW_MISMATCH,
    Reg.THI_OPS.COUNT, Reg.THI_TABLE.COUNT, Reg.THI_TABLE.FIRST, Reg.THI_STATUS.FREE_UNITS, Reg.THI_STATUS.COMPACTING, Reg.THI_CNT.NO_ROOM,
    Reg.GLI_STRIPE_CNT.OPEN, Reg.GLI_STRIPE_CNT.DEGRADED, Reg.BST_STATUS.WRITING, Reg.GLI_REBUILD.RATE, Reg.BRU_STAGE.STEP,
    Reg.HIF_ASYNC.PEND, Reg.BRU_STAGE.MAP_RESIDENT, Reg.FTL_FREE.BANDS, Reg.FTL_FREE.OPEN, Reg.FTL_FREE.RANGES, Reg.FTL_JOURNAL.MIB,
    Reg.FTL_JOURNAL.URGENT] s (s.frameWork inp) :=
  .ite_on (.mono (State.applyHolds_keeps ..)) (.refl ..) (.andThen (.andThen (.andThen (.andThen (.andThen (.andThen (.andThen (.andThen
      (.andThen (.foldl (.andThen (.mono (State.journalFrame_keeps ..)) (State.dropStripes_keeps ..)) fun _ _ => .mono
      (State.rowMismatch_keeps ..)) (State.thiRecovSync_keeps ..)) (State.placeWaiting_keeps ..)) (State.thiSpanSweep_keeps ..))
      (State.storeFrame_keeps ..)) (State.rebuildRate_keeps ..)) (State.stepFour_keeps ..)) (State.mapLoad_keeps ..))
      (State.refreshFree_keeps ..)) (State.refreshJournal_keeps ..))

/-! ### Actions -/

theorem State.accessEvent_keeps (s : State) (off f : Nat) : Keeps [.log] [] s (s.accessEvent off f) :=
  .event (.refl ..)

/-! ### The MSI-X table (R124, R125) -/

theorem State.sendHeld_keeps (s : State) (f v : Nat) : Keeps [.rings, .vectors, .buses] [] s (s.sendHeld f v) :=
  .ite (.mono (State.signal_keeps ..)) (.refl ..)

theorem State.sendAllHeld_keeps (s : State) (f : Nat) : Keeps [.rings, .vectors, .buses] [] s (s.sendAllHeld f) :=
  .foldl (.refl ..) fun _ _ => .mono (State.sendHeld_keeps ..)

theorem State.vecWrite_keeps (s : State) (f v k data : Nat) : Keeps [.vectors, .rings, .buses] [] s (s.vecWrite f v k data) := by
  unfold State.vecWrite
  dsimp only
  split
  · exact .setVec (.refl ..)
  · exact .setVec (.refl ..)
  · exact .setVec (.refl ..)
  · exact .andThen (.setVec (.refl ..)) (State.sendHeld_keeps ..)

theorem execMsixUnmask_steady (fn : Fn) (vector : Fin 2048) (s : State) : Yields (Steady s) (execMsixUnmask fn vector s) :=
  .ite (fun _ => .next (.trans (.setVec (.wakeTlp (.refl ..) ..) ..) (State.sendHeld_keeps ..).steady)) fun _ => .next (.refl ..)

/-! ### Reads (R11, R13, R15, R592) -/

theorem State.zeroRead_keeps (s : State) (f off : Nat) : Keeps [.log, .buses] [] s (s.zeroRead f off) :=
  .emit (.mono (State.accessEvent_keeps ..))

theorem execLowRegisterRead_steady (fn : Fn) (off : Nat) (s : State) : Yields (Steady s) (execLowRegisterRead fn off s) :=
  .ite (fun _ => .ite (fun _ => .next (.trans (.wakeTlp (.refl ..) ..) (State.zeroRead_keeps ..).steady)) fun _ => .next (.emit (.trans
      (.wakeTlp (.refl ..) ..) (State.readWordHeld_keeps ..).steady) ..)) fun _ => .next (.refl ..)

/-! ### Writes (R12 to R16, R127, R582 to R584) -/

theorem State.matrixCapture_keeps (s : State) : Keeps [] [Reg.MIN_HMAT_DATA.VALID, Reg.MIN_HMAT_DATA.SHIFT] s (s.matrixCapture) :=
  .wr (.wr (.refl ..))

theorem State.afterWrite_keeps (s : State) (off data : Nat) : Keeps [.log, .health, .ftl, .pool, .buses, .keys] [Reg.HUP_STATUS.CHARGING,
    Reg.HUP_STATUS.WRITE_THR, Reg.HUP_ENERGY.EUSE, Reg.HUP_ENERGY.VBANK, Reg.BRU_STAGE.WRITE_UP, Reg.FRM_CEILING.CEIL_MIB,
    Reg.FRM_CEILING.SOURCE, Reg.FRM_JPB.MODEL, Reg.BPM_STATUS.FREE, Reg.BPM_STATUS.SHARED_FREE, Reg.BPM_STATUS.BACKPRESSURE,
    Reg.BPM_STATUS.CRITICAL, Reg.BPM_OWN.USED, Reg.BPM_OWN.PEAK, Reg.BPM_OWN.WAITING, Reg.THI_TABLE.COUNT, Reg.THI_TABLE.FIRST,
    Reg.THI_STATUS.FREE_UNITS, Reg.THI_STATUS.COMPACTING, Reg.MIN_HMAT_DATA.VALID, Reg.MIN_HMAT_DATA.SHIFT, Reg.THI_OPS.COUNT,
    Reg.THI_RD_ADDR.UNIT, Reg.THI_RD_DATA.KEY, Reg.THI_RD_DATA.KEY2, Reg.THI_RD_DATA.VALID, Reg.THI_RD_DATA.WIDTH, Reg.THI_RD_DATA.TABLE,
    Reg.THI_RD_DATA.PRIO, Reg.THI_RD_DATA.ENTRY, Reg.THI_RD_DATA.DATA] s (s.afterWrite off data) :=
  .ite (.andThen (.andThen (.mono (State.recharge_keeps ..)) (State.refreshBank_keeps ..)) (State.refreshCeiling_keeps ..)) (.ite (.mono
      (State.refreshCeiling_keeps ..)) (.ite (.andThen (.mono (State.backpressure_keeps ..)) (State.serveQueue_keeps ..)) (.ite (.ite
      (.mono (State.thiRefresh_keeps ..)) (.refl ..)) (.ite (.mono (State.matrixCapture_keeps ..)) (.ite (.mono (State.thiCapture_keeps
      ..)) (.ite (.with_sec (.refl ..)) (.refl ..)))))))

theorem State.endCapture_keeps (s : State) (f off : Nat) : Keeps [.pairWords] [] s (s.endCapture f off) :=
  .ite_on (.with_pairHigh (.refl ..)) (.refl ..) (.ite (.with_pairHigh (.refl ..)) (.refl ..))

theorem execBar0MalformedAccess_steady (fn : Fn) (bar2 write : Bool) (off len : Nat) (s : State) : Yields (Steady s)
    (execBar0MalformedAccess fn bar2 write off len s) := by
  unfold execBar0MalformedAccess
  dsimp only
  exact .ite (fun _ => .ite (fun _ => .next (.trans (.wakeTlp (.refl ..) ..) (State.accessEvent_keeps ..).steady)) fun _ => .ite (fun _ =>
      .next (.emit (.wakeTlp (.refl ..) ..) ..)) fun _ => .ite (fun _ => .next (.emit ((by
      split
      · exact .wakeTlp (.refl ..) ..
      · exact .trans (.wakeTlp (.refl ..) ..) (State.readWordHeld_keeps ..).steady)) ..)) fun _ => .next (.trans (.wakeTlp (.refl ..) ..)
          (State.zeroRead_keeps ..).steady)) fun _ => .next (.refl ..)

theorem execThiRdAddr_steady (fn : Fn) (data : Word) (s : State) : Yields (Steady s) (execThiRdAddr fn data s) :=
  .ite (fun _ => .next (.trans (.wakeTlp (.refl ..) ..) (State.thiCapture_keeps ..).steady)) fun _ => .next (.refl ..)

theorem execLockAll_steady (s : State) : Yields (Steady s) (execLockAll s) :=
  .ite (fun _ => .next ((State.lockAll_steady ..))) fun _ => .next (.refl ..)

/-! ### Configuration space (R115, R117, R119, R120, R123) -/

theorem State.setCfg_keeps (s : State) (f off v : Nat) : Keeps [.endpoint] [] s (s.setCfg f off v) :=
  .setEp (.refl ..)

theorem State.cfgWrite_steady (s : State) (f off data m : Nat) : Steady s (s.cfgWrite f off data m) :=
  .ite ((State.pmcsr_keeps ..).steady) (.ite ((State.setCfg_keeps ..).steady) (.ite (.ite ((State.setCfg_keeps ..).steady) (.refl ..))
      (.ite ((State.resetFn_steady ..)) (.ite_on ((State.sendAllHeld_keeps ..).steady) (.refl ..) ((State.setCfg_keeps ..).steady)))))

theorem execConfigRequest_steady (fn : Fn) (bdf : BitVec 16) (write : Bool) (dword : Fin 1024) (enables : BitVec 4) (data : Word) (s :
    State) : Yields (Steady s) (execConfigRequest fn bdf write dword enables data s) :=
  .ite (fun _ => .ite (fun _ => .next (.trans (.setEp (.wakeTlp (.refl ..) ..) ..) (State.cfgWrite_steady ..))) fun _ => .next (.emit
      (.wakeTlp (.refl ..) ..) ..)) fun _ => .ite (fun _ => .next (.emit (.refl ..) ..)) fun _ => .next (.refl ..)

/-! ### The sideband port (R85, R86, R590) -/

theorem execSmbusBlockRead_steady (item : Byte) (s : State) : Yields (Steady s) (execSmbusBlockRead item s) :=
  .ite (fun _ => .next (.emit (.wr (.bump (.refl ..) ..) ..) ..)) fun _ => .next (.refl ..)

theorem execSmbusRefused_steady (s : State) : Yields (Steady s) (execSmbusRefused s) :=
  .ite (fun _ => .next (.emit (.bump (.wr (.refl ..) ..) ..) ..)) fun _ => .next (.refl ..)

theorem execSmbusTimeout_steady (s : State) : Yields (Steady s) (execSmbusTimeout s) :=
  .ite (fun _ => .next (.wr (.refl ..) ..)) fun _ => .next (.refl ..)

theorem execSidebandRefresh_steady (s : State) : Yields (Steady s) (execSidebandRefresh s) :=
  .ite (fun _ => .next (.freeNext (.with_sideband (.refl ..) ..) ..)) fun _ => .next (.refl ..)

end Sys2Proof.Machine
end

section
/-! PROOFS. The remaining commands that are steady: register writes, the plan cutoff, Bloom entry and the carried load. -/

set_option Elab.async false

namespace Sys2Proof.Machine

section
variable (s : State)

/-! ### The realm sweep and the plan cutoff (R504, R222) -/

theorem State.resealIu_steady (iu : Nat) : Steady s (s.resealIu iu) := by
  unfold State.resealIu
  split
  · extract_lets r d s1 s2
    have hd : Steady s d.2 := by
      refine .foldl_snd (s.assignOsn_keeps).steady fun a b => ?_
      dsimp only
      split
      · split
        · exact (State.reserve1_keeps ..).steady
        · exact .refl _
      · exact .refl _
    exact .record (.mapVersions (.trans hd (State.allocate_keeps ..).steady) _) _
  · exact .refl s

theorem State.sweepStep_steady : Steady s s.sweepStep := by
  unfold State.sweepStep
  split
  · split
    · exact s.resealIu_steady _
    · exact .refl s
  · exact .refl s

theorem State.writeBack_steady (inp : PlanIn) (t : State) (h : Steady s t) : Steady s
    (let s2 := if inp.fold || t.ftl.excess then t.foldStep inp.pad inp.lost else t
     let s3 := if inp.copy then s2.copyStep inp.pad inp.lost else s2
     if inp.mapOut || s3.ftl.journal.urgent then s3.writeOut else s3) := by
  extract_lets s2 s3
  have h2 : Steady s s2 := .ite (h.trans (State.foldStep_keeps ..).steady) h
  have h3 : Steady s s3 := .ite (h2.trans (State.copyStep_keeps ..).steady) h2
  exact .ite (h3.trans (State.writeOut_keeps _).steady) h3

theorem execPlanCutoff_steady (inp : PlanIn) : Yields (Steady s) (execPlanCutoff inp s) := by
  have h0 : Steady s s.thermalCutoff := s.thermalCutoff_keeps.steady
  refine .ite (fun _ => .ite (fun _ => .next ?_) fun _ => .next (h0.trans (State.makePlan_keeps ..).steady)) fun _ => .next (.refl s)
  refine .trans ?_ (State.makePlan_keeps ..).steady
  refine .trans (.trans ?_ (State.feedErases_keeps _).steady) (State.feedReads_keeps _).steady
  refine .trans (.trans ?_ (State.sweepStep_steady _)) (State.patrolStep_keeps _).steady
  exact s.writeBack_steady inp _ (h0.trans (State.formBands_keeps _).steady)

/-! ### Bloom entry and the carried load (R98, R240) -/

theorem execBloomEntry_steady : Yields (Steady s) (execBloomEntry s) := by
  refine .ite (fun _ => ?_) fun _ => .next (.refl s)
  extract_lets b s1 s2 s3 sv up q s4 s5
  have h1 : Steady s s1 := .with_boot (.refl s) _
  have h2 : Steady s s2 := .wr (.wr (.wr h1 ..) ..) ..
  have h3 : Steady s s3 := .wr (.wr h2 ..) ..
  have h4 : Steady s s4 := h3.trans (Keeps.with_bst (ps := [.bootStore]) (rs := []) (.refl ..) (by decide) (Nat.le_max_left ..)).steady
  have h5 : Steady s s5 := .ite (h4.event ..) h4
  refine .next (.asyncAll (.trans (.refreshCeiling ?_) (State.autoJoin_keeps _).steady) ..)
  exact (h5.trans (State.bstRefresh_keeps _).steady).trans (State.refreshBank_keeps _).steady

theorem execCarriedLoadSuspend_steady : Yields (Steady s) (execCarriedLoadSuspend s) := by
  refine .ite (fun _ => ?_) fun _ => .next (.refl s)
  refine .next (.event (.trans (.foldl_fst (.refl s) fun a e => ?_) (.with_sched (.refl _) _)) ..)
  split
  · exact .refl _
  · exact .setLun (.refl _) ..

/-! ### Register writes (R12 to R15) -/

theorem goes_steady {o : Host.Outcome State Fault Refusal} (h : Yields (Steady s) o) : Steady s (goes s o) := by
  obtain ⟨t, rfl, h⟩ := h
  exact h

theorem State.adminWrite_steady (fn : Fn) (b : Bool) : Steady s (s.adminWrite fn b) :=
  .ite (goes_steady s (execAdminEnable_steady ..)) (goes_steady s (execAdminDisable_steady ..))

theorem State.act_steady (fn : Fn) (off data : Nat) : Steady s (s.act fn off data) := by
  have step {c : Prop} [Decidable c] {o : Host.Outcome State Fault Refusal} (h : Yields (Steady s) o) : Steady s (if c then goes s o else s) :=
    .ite (goes_steady s h) (.refl s)
  refine .ite (.ite s.lockAll_steady (.refl s)) (.ite (step (execMeasNow_steady s)) (.ite (step (execColdReq_steady ..)) ?_))
  refine .ite (step (execWindowCommit_steady ..)) (.ite (step (execDebugChallenge_steady s)) (.ite (goes_steady s (execFanRetry_steady ..)) ?_))
  refine .ite (s.adminWrite_steady ..) ?_
  split
  · exact step (execChannelRestart_steady ..)
  · exact .refl s

theorem State.writeWordHeld_steady (fn : Fn) (off data : Nat) : Steady s (s.writeWord_ fn off data) := by
  refine .ite (s.vecWrite_keeps ..).steady (.ite (s.writeStaged_steady ..) ?_)
  extract_lets fs r s1 s2
  have hr : Steady s r.1 := .foldl_fst (s.endCapture_keeps ..).steady (State.writeField_steady fn.val data _)
  have h1 : Steady s s1 := .ite (hr.regEvent ..) hr
  have h2 : Steady s s2 := .trans (.fold h1 (State.writeLock_steady · data) _) (State.afterWrite_keeps ..).steady
  exact h2.trans (State.act_steady ..)

theorem execRegisterWrite_steady (fn : Fn) (off : Nat) (data : Word) (high : Option Word) :
    Yields (Steady s) (execRegisterWrite fn off data high s) := by
  refine .ite (fun _ => .ite (fun _ => .next (.trans (s.wakeTlp_keeps _).steady (State.accessEvent_keeps ..).steady)) fun _ => ?_)
    fun _ => .next (.refl s)
  extract_lets s2
  have h : Steady s s2 := .trans (s.wakeTlp_keeps _).steady (State.writeWordHeld_steady ..)
  split
  · exact .next (.ite (h.trans (State.writeWordHeld_steady ..)) h)
  · exact .next h

end

end Sys2Proof.Machine
end

section
/-! PROOFS. What every step keeps, and the commands that are not steady: those that hold the device in reset, restore kept tables, advance the
power-on time, release Reconcile entries or write the windows' memory. -/

set_option Elab.async false

namespace Sys2Proof.Machine

/-! ### What every step keeps (O4), and what most commands keep besides -/

/-- The log has only grown, and holds the latest 4,096 events. -/
def LogAdds (s t : State) : Prop :=
  ∃ l : List Event, t.events.take 4096 = (l ++ s.events).take 4096 ∧ (s.events.length ≤ 4096 → t.events.length ≤ 4096)
    ∧ t.eventTotal = s.eventTotal + l.length

theorem LogGrows.adds {s t : State} (h : LogGrows s t) : LogAdds s t := by
  obtain ⟨l, h1, h2, h3, -⟩ := h
  exact ⟨l, h1, h2, h3⟩

theorem LogAdds.trans {s t u : State} (h : LogAdds s t) (k : LogAdds t u) : LogAdds s u := by
  obtain ⟨l, h1, hb, h2⟩ := h
  obtain ⟨m, k1, kb, k2⟩ := k
  refine ⟨m ++ l, ?_, fun i => kb (hb i), by simp [k2, h2]; omega⟩
  rw [k1, ← List.take_append_take, h1, List.take_append_take, List.append_assoc]

/-- A log that holds what its total says is the events added, on top of the log before, as far as it holds them. -/
theorem LogAdds.events_eq {s t : State} (h : LogAdds s t) (hs : s.LogWithinBound) :
    t.events = (t.events.take (t.eventTotal - s.eventTotal) ++ s.events).take 4096 := by
  obtain ⟨l, h1, hb, h2⟩ := h
  have hlen : t.events.length ≤ 4096 := hb (by unfold State.LogWithinBound at hs; omega)
  rw [List.take_of_length_le hlen] at h1
  have hn : t.eventTotal - s.eventTotal = l.length := by omega
  rw [hn, h1, List.take_take]
  by_cases hl : l.length ≤ 4096
  · rw [Nat.min_eq_left hl, List.take_left]
  · have hl : 4096 ≤ l.length := by omega
    rw [Nat.min_eq_right hl, List.take_append_of_le_length hl, List.take_append_of_le_length (by simp [hl]), List.take_take, Nat.min_self]

/-- What every step keeps, whatever its command. -/
structure Follows (s t : State) : Prop where
  pending : t.pending = s.pending
  board : t.board = s.board
  fused : s.bst.fusedSv ≤ t.bst.fusedSv
  free : s.free ≤ t.free
  out : s.out <:+ t.out
  log : LogAdds s t
  reconSeq : s.reconSeq ≤ t.reconSeq
  recon : ∀ r ∈ t.recon, r ∈ s.recon ∨ s.reconSeq < r.seq
  lostSeq : s.lostSeq ≤ t.lostSeq
  inv : s.Inv → t.Inv

/-- What every step keeps but those of a frame boundary, of a posted completion acknowledged and of a BAR4 write. -/
structure Ruled (s t : State) : Prop extends Follows s t where
  frame : t.frame = s.frame
  mem : t.mem = s.mem ∨ t.mem = []
  kept : s.recon <+: t.recon

section
variable {s t u : State}

theorem Follows.trans (h : Follows s t) (k : Follows t u) : Follows s u where
  pending := k.pending.trans h.pending
  board := k.board.trans h.board
  fused := Nat.le_trans h.fused k.fused
  free := Nat.le_trans h.free k.free
  out := h.out.trans k.out
  log := h.log.trans k.log
  reconSeq := Nat.le_trans h.reconSeq k.reconSeq
  recon := fun r hr => (k.recon r hr).elim (h.recon r) fun hn => .inr (Nat.lt_of_le_of_lt h.reconSeq hn)
  lostSeq := Nat.le_trans h.lostSeq k.lostSeq
  inv := fun i => k.inv (h.inv i)

theorem Steady.follows (h : Steady s t) : Follows s t where
  pending := h.pending
  board := h.board
  fused := h.fused
  free := h.free
  out := h.out
  log := h.log.adds
  reconSeq := by obtain ⟨l, -, -, -, hl⟩ := h.recon; exact hl
  recon := fun r hr => by
    obtain ⟨l, he, -, hl, -⟩ := h.recon
    rw [he] at hr
    exact (List.mem_append.1 hr).imp_right fun hm => (hl r hm).1
  lostSeq := h.lostSeq
  inv := h.inv

theorem Steady.ruled (h : Steady s t) : Ruled s t :=
  { h.follows with
    frame := h.frame
    mem := .inl h.mem
    kept := by obtain ⟨l, he, -⟩ := h.recon; exact ⟨l, he.symm⟩ }

theorem Ruled.trans (h : Ruled s t) (k : Ruled t u) : Ruled s u :=
  { h.toFollows.trans k.toFollows with
    frame := k.frame.trans h.frame
    mem := k.mem.elim (fun e => h.mem.imp e.trans e.trans) .inr
    kept := h.kept.trans k.kept }

theorem Ruled.then (h : Ruled s t) (k : Steady t u) : Ruled s u := h.trans k.ruled

theorem Ruled.ite {c : Prop} [Decidable c] (h : Ruled s t) (k : Ruled s u) : Ruled s (if c then t else u) := by
  split <;> assumption

theorem Yields.ruled {o : Host.Outcome State Fault Refusal} (h : Yields (Steady s) o) : Yields (Ruled s) o := h.imp fun _ => Steady.ruled

end

/-! ### Cold resets (R101, R586) -/

section
variable (s : State)

/-- A cold reset keeps the log, the Reconcile entries and the boot store's fuses, and starts the register file anew. -/
theorem State.coldKeep_ruled : Ruled s s.coldKeep where
  pending := rfl
  board := rfl
  fused := Nat.le_refl _
  free := Nat.le_refl _
  out := List.suffix_refl _
  log := ⟨[], rfl, id, rfl⟩
  reconSeq := Nat.le_refl _
  recon := fun _ => .inl
  lostSeq := Nat.le_refl _
  inv := fun i =>
    { i with
      mem := rfl
      regs := rfl
      kept := by
        show Tbl.wf 0 (if s.boot.restored then s.regs.filter (fun e => keptKey e.1) else s.keptRegs) = true
        split
        · exact Tbl.wf_filter 0 _ i.regs
        · exact i.kept
      entries := rfl }
  frame := rfl
  mem := .inr rfl
  kept := List.prefix_refl _

theorem State.coldStart_ruled : Ruled s s.coldStart := by
  refine s.coldKeep_ruled.then ?_
  unfold State.coldStart
  extract_lets k th q s1 s2 s3 s4 s5
  have h1 : Steady k s1 := .setSup (.refl k) _
  have h2 : Steady k s2 := .wr (.wr (.wr (.wr h1 ..) ..) ..) ..
  have h3 : Steady k s3 := .wr (.wr h2 ..) ..
  have h4 : Steady k s4 := .trans (.wr (.wr h3 ..) ..) (State.recharge_keeps _).steady
  have h5 : Steady k s5 := .count h4 ..
  exact .ite (.wr (.setSup h5 _) ..) (.trans (.setSup h5 _) (State.measIfDue_keeps _).steady)

theorem State.railsCut_ruled (complete : Bool) : Ruled s (s.railsCut complete) := by
  unfold State.railsCut
  extract_lets k s1 q s2
  have h : Steady s s2 := .setSup s.interrupt_keeps.steady _
  exact .ite (h.ruled.trans s2.coldStart_ruled) (.ite (Steady.ruled (.wr (.setSup h _) ..)) h.ruled)

theorem State.drainCut_ruled : Ruled s s.drainCut := by
  unfold State.drainCut
  extract_lets s1 recs kept stands q1 q2 s2
  have h1 : Steady s s1 := .trans (.freeNext (.refl s)) (State.drain_keeps _).steady
  have h2 : Steady s s2 := .with_ftl h1 _
  exact (h2.trans (State.settle_keeps _).steady).ruled.trans (State.railsCut_ruled _ false)

theorem execVinRise_ruled (vin : Nat) : Yields (Ruled s) (execVinRise vin s) := by
  unfold execVinRise
  extract_lets rises q s1
  have h : Steady s s1 := .setSup (.refl s) _
  exact .ite (fun _ => .next (h.ruled.trans s1.coldStart_ruled)) fun _ => .ite (fun _ => .next (h.wr ..).ruled) fun _ => .next h.ruled

theorem execPerstDeassert_ruled (fn : Fn) : Yields (Ruled s) (execPerstDeassert fn s) := by
  unfold execPerstDeassert
  refine .ite (fun _ => ?_) fun _ => .next (Steady.refl s).ruled
  extract_lets q s1
  have h : Steady s s1 := .emit (.setEp (.refl s) ..) _
  refine .ite (fun _ => .ite (fun _ => .next (h.ruled.trans s1.coldStart_ruled)) fun _ => .next h.ruled) fun _ => ?_
  exact .ite (fun _ => .next (h.latchWake _).ruled) fun _ => .next h.ruled

theorem execDrainEnd_ruled : Yields (Ruled s) (execDrainEnd s) := by
  unfold execDrainEnd
  refine .ite (fun _ => ?_) fun _ => .next (Steady.refl s).ruled
  extract_lets k s1 q s2
  have h1 : Steady s s1 := .trans (.record s.drain_keeps.steady _) (State.settle_keeps _).steady
  have h2 : Steady s s2 := .ite (.setSup h1 _) h1
  exact .next (h2.ruled.trans (State.railsCut_ruled _ true))

theorem execVbankCutoff_ruled (vbank : Nat) : Yields (Ruled s) (execVbankCutoff vbank s) :=
  .ite (fun _ => .next ((Steady.setSup (.refl s) _).ruled.trans (State.drainCut_ruled _))) fun _ => .next (Steady.refl s).ruled

theorem execPouloSupplyLost_ruled (vbank : Nat) : Yields (Ruled s) (execPouloSupplyLost vbank s) :=
  .ite (fun _ => .next (s.coldKeep_ruled.then (.setSup (.refl _) _))) fun _ => .next (Steady.refl s).ruled

theorem execTripCooldown_ruled (temp : Int) : Yields (Ruled s) (execTripCooldown temp s) := by
  unfold execTripCooldown
  refine .ite (fun _ => ?_) fun _ => .next (Steady.refl s).ruled
  extract_lets q s1
  have h : Steady s s1 := .with_thermal (.refl s) _
  exact .ite (fun _ => .next (h.ruled.trans s1.coldStart_ruled)) fun _ => .next h.ruled

theorem execCoreDiodeSample_ruled (diode : Fin 40) (reading : Option Int) : Yields (Ruled s) (execCoreDiodeSample diode reading s) := by
  unfold execCoreDiodeSample
  refine .ite (fun _ => ?_) fun _ => .next (Steady.refl s).ruled
  extract_lets d k x others deviates range n s1 y t hot s2 s3
  have h2 : Steady s s2 := .trans (s.sampled_keeps ..).steady (State.setSensor_keeps ..).steady
  have h3 : Steady s s3 := by
    subst s3
    split
    · exact .ite (h2.trans (State.dramDiode_keeps ..).steady) h2
    · exact h2
  refine .ite (fun _ => .next (h3.trans (State.trip_keeps _).steady).ruled) fun _ => ?_
  exact .ite (fun _ => .next (h3.ruled.trans (State.drainCut_ruled _))) fun _ => .next (h3.trans (State.stopCheck_keeps ..).steady).ruled

/-! ### Kept tables restored (R350, R586) -/

theorem Tbl.wf_foldl_set {α : Type} [DecidableEq α] (d : α) (l : Tbl α) {t : Tbl α} (ht : Tbl.wf d t = true) :
    Tbl.wf d (l.foldl (fun t e => Tbl.set d t e.1 e.2) t) = true := by
  induction l generalizing t with
  | nil => exact ht
  | cons e l ih => exact ih (Tbl.wf_set d e.1 e.2 ht)

/-- The register file and the kept fields are replaced by others as canonical. -/
theorem Ruled.retable {r k : Tbl Nat} (hr : Tbl.wf 0 s.regs = true → Tbl.wf 0 r = true) (hk : Tbl.wf 0 s.keptRegs = true → Tbl.wf 0 k = true) :
    Ruled s { s with regs := r, keptRegs := k } :=
  ({ Steady.refl s with regs := hr, kept := hk } : Steady s { s with regs := r, keptRegs := k }).ruled

theorem State.restoreKept_ruled : Ruled s s.restoreKept := by
  unfold State.restoreKept
  extract_lets reads refused fresh regs q s1 s2 s3
  have h1 : Ruled s s1 := (Ruled.retable s (r := regs) (k := s.keptRegs.filter fun e => failKey e.1) (Tbl.wf_foldl_set 0 _)
    (Tbl.wf_filter 0 _)).then (.with_boot (.refl _) _)
  have h2 : Ruled s s2 := h1.then (.bump (.bump (.refl _) ..) ..)
  have h3 : Ruled s s3 := .ite (h2.then (.wr (.wr (.wr (.wr (.refl _) ..) ..) ..) ..)) h2
  exact h3.then (.wr (.wr (.refl _) ..) ..)

theorem State.restoreFailed_ruled : Ruled s s.restoreFailed := Ruled.retable s (Tbl.wf_foldl_set 0 _) fun _ => rfl

theorem execRootKeyDerivation_ruled (okA okB : Bool) : Yields (Ruled s) (execRootKeyDerivation okA okB s) := by
  unfold execRootKeyDerivation
  refine .ite (fun _ => ?_) fun _ => .next (Steady.refl s).ruled
  extract_lets q1 q2 s1 s2 s3
  have h1 : Steady s s1 := (Steady.refl s).update
  have h2 : Steady s1.restoreKept s2 := by
    refine .trans (.trans ?_ (State.secRefresh_keeps _).steady) (State.bstRefresh_keeps _).steady
    refine .trans (.trans ?_ (State.rawTake_keeps _).steady) (State.firstKey_keeps _).steady
    exact (State.loadFields_steady _ s.board.fields).trans (State.countTrip_keeps _).steady
  have h3 : Steady s1.restoreKept s3 := .fold h2 (fun u _ => (u.applyFeature_keeps ..).steady) _
  refine .next ((h1.ruled.trans s1.restoreKept_ruled).then (.wr (.refreshCeiling ?_) ..))
  exact (h3.trans (State.ucodeStart_keeps ..).steady).trans (State.refreshBank_keeps _).steady

theorem replayRec_keeps (drained : Bool) (a : Replay) (r : Rec) : Keeps [.ftl, .flash] [] a.1 (replayRec drained a r).1 := by
  unfold replayRec
  dsimp only
  split
  · split
    · split
      · exact .mono (State.setMap_keeps ..)
      · exact .refl ..
    · exact .mono (State.setMap_keeps ..)
  · exact .refl ..
  · exact .refl ..
  · split
    · exact .foldl (.refl ..) fun _ _ => .ite (.refl ..) (.mono (State.setMap_keeps ..))
    · exact .refl ..
  · exact .refl ..

theorem State.replayBatches_keeps : Keeps [.ftl, .flash] [] s s.replayBatches.1 := by
  unfold State.replayBatches
  extract_lets batch q s0 r
  have h0 : Keeps [.ftl, .flash] [] s s0 := by
    refine .foldl (.with_ftl (.refl ..)) fun u e => ?_
    split
    · exact .mono (State.countValid_keeps ..)
    · exact .refl ..
  have hr : Keeps [.ftl, .flash] [] s r.1 := by
    refine .foldl_fst (a := (s0, [], [], [])) h0 fun a b => ?_
    exact .foldl_fst (a := (_, a.2)) (.with_ftl (.refl ..)) (replayRec_keeps _)
  exact .with_ftl hr

theorem State.firstCapacity_keeps : Keeps [.ftl, .boot] [] s s.firstCapacity := by
  refine .ite (.refl ..) ?_
  extract_lets user ius q1 q2 s1
  have k : Keeps [.ftl, .boot] [] s s1 := .with_ftl (.refl ..)
  have k2 : Keeps [.ftl, .boot] [] s { s1 with boot := { s1.boot with manufactured := true } } := .with_boot k
  exact .with_ftl k2

theorem execJournalReplay_ruled : Yields (Ruled s) (execJournalReplay s) := by
  unfold execJournalReplay
  refine .ite (fun _ => ?_) fun _ => .next (Steady.refl s).ruled
  extract_lets unfin s1 s2 r live s3 s4 s5 q1 q2 s6 s7
  have h2 : Steady s1 s2 := .trans (.with_blks (.refl _) _) (State.restartBands_keeps _).steady
  have h3 : Steady s1 s3 := .fold (h2.trans s2.replayBatches_keeps.steady) (fun u x => (u.addRange_keeps x).steady) _
  have h4 : Steady s1 s4 := .trans (h3.trans (State.replayDrain_keeps ..).steady) (State.settle_keeps _).steady
  have h5 : Steady s1 s5 := by
    refine .trans (.trans (h4.trans (State.rawBlocks_keeps _).steady) ?_) (State.takeSample_keeps _).steady
    exact (State.firstCapacity_keeps _).steady
  clear_value s5
  have h6 : Steady s1 s6 := h5.update
  have h7 : Steady s1 s7 := .wr h6 ..
  refine .next (s.restoreFailed_ruled.then (.trans ?_ (State.endStep5_keeps _).steady))
  refine .trans (.trans (h7.trans (State.refreshFree_keeps _).steady) (State.refreshJournal_keeps _).steady) ?_
  exact (State.refreshWear_keeps _).steady

/-! ### Frame boundaries (R6, R67) -/

/-- A frame boundary keeps what every step keeps, and advances the power-on time by one frame if Poulo runs. -/
structure Ticked (s t : State) : Prop extends Follows s t where
  frame : t.frame = s.frame ∨ t.frame = s.frame + 1
  mem : t.mem = s.mem
  kept : s.recon <+: t.recon

theorem Steady.ticked {s t : State} (h : Steady s t) : Ticked s t :=
  { h.ruled with frame := .inl h.frame, mem := h.mem }

theorem State.nextFrame_follows : Follows s { s with frame := s.frame + 1 } where
  pending := rfl
  board := rfl
  fused := Nat.le_refl _
  free := Nat.le_refl _
  out := List.suffix_refl _
  log := ⟨[], rfl, id, rfl⟩
  reconSeq := Nat.le_refl _
  recon := fun _ => .inl
  lostSeq := Nat.le_refl _
  inv := fun i => { i with now := fun e he => Nat.le_succ_of_le (i.now e he) }

theorem Ticked.of_steady {s u t : State} (h : Steady s u) (k : Steady { u with frame := u.frame + 1 } t) : Ticked s t :=
  { (h.follows.trans u.nextFrame_follows).trans k.follows with
    frame := .inr (k.frame.trans (congrArg (· + 1) h.frame))
    mem := k.mem.trans h.mem
    kept := h.ruled.kept.trans k.ruled.kept }

theorem State.frameTick_steady (vbank : Nat) : Steady { s with frame := s.frame + 1 } (s.frameTick vbank) := by
  unfold State.frameTick
  extract_lets s1 q s2
  have h2 : Steady s1 s2 := .setSup (.refl s1) _
  exact .trans (.ite (h2.wr ..) h2) (State.refreshBank_keeps _).steady

theorem execFrameBoundary_ticked (inp : FrameIn) : Yields (Ticked s) (execFrameBoundary inp s) := by
  unfold execFrameBoundary
  refine .ite (fun _ => .next (Steady.refl s).ticked) fun _ => ?_
  extract_lets t s1 s2 s3 s4 s5
  have h0 : Steady s (s.trainSteps inp.trained) := (s.trainSteps_keeps ..).steady
  have ht := (s.trainSteps inp.trained).frameTick_steady inp.vbank
  refine .ite (fun _ => .next (.of_steady h0 (ht.trans (State.frameAvail_keeps _).steady))) fun _ => .next (.of_steady h0 ?_)
  have h1 : Steady t s1 := by
    refine .refreshCeiling (.trans ?_ (State.openFrame_steady ..))
    exact .trans (State.countIdle_keeps t).steady (State.frameCount_keeps _).steady
  have h3 : Steady t s3 := .trans (.trans (.wr h1 ..) (State.dramFrame_keeps ..).steady) (State.policyFrame_keeps _).steady
  have h4 : Steady t s4 := .trans (.fold h3 (fun u e => (u.parityError_keeps ..).steady) _) (State.fansFrame_keeps _).steady
  have h5 : Steady t s5 := .ite (h4.trans (State.frameWork_keeps ..).steady) h4
  exact ((ht.trans h5).trans (State.history_keeps _).steady).trans (State.frameAvail_keeps _).steady

/-! ### Posted completions acknowledged (R181, R184) -/

/-- An acknowledgement keeps what every step keeps, and releases Reconcile entries. -/
structure Released (s t : State) : Prop extends Follows s t where
  frame : t.frame = s.frame
  mem : t.mem = s.mem
  kept : t.recon.Sublist s.recon

theorem Steady.released {s t : State} (h : Steady s t) (hr : t.recon = s.recon) : Released s t :=
  { h.ruled with mem := h.mem, kept := hr ▸ List.Sublist.refl _ }

theorem Released.then {s t u : State} (h : Released s t) (k : Steady t u) (hr : u.recon = t.recon) : Released s u :=
  { h.toFollows.trans k.follows with
    frame := k.frame.trans h.frame
    mem := k.mem.trans h.mem
    kept := hr ▸ h.kept }

theorem State.release_released {r : List Recon} {l : List LostEntry} (hr : r.Sublist s.recon) (hl : l.Sublist s.lost) :
    Released s { s with recon := r, lost := l } where
  pending := rfl
  board := rfl
  fused := Nat.le_refl _
  free := Nat.le_refl _
  out := List.suffix_refl _
  log := ⟨[], rfl, id, rfl⟩
  reconSeq := Nat.le_refl _
  recon := fun _ hq => .inl (hr.subset hq)
  lostSeq := Nat.le_refl _
  inv := fun i =>
    { i with
      recon := i.recon.sublist hr
      reconSeq := fun q hq => i.reconSeq q (hr.subset hq)
      lost := i.lost.sublist hl
      lostSeq := fun q hq => i.lostSeq q (hl.subset hq) }
  frame := rfl
  mem := rfl
  kept := hr

theorem State.releaseLog_released (page : Nat) (seqs : List Nat) : Released s (s.releaseLog page seqs) := by
  unfold State.releaseLog
  split
  · refine (s.release_released (List.filter_sublist (p := fun r : Recon => !seqs.contains r.seq)) (List.Sublist.refl s.lost)).then ?_ ?_
    · exact .foldl (fun u f => .ite (.refl u) (.setEp (.refl u) ..)) _ _
    · exact State.foldl_keeps (·.recon) (fun u f => by split <;> rfl) _ _
  split
  · exact s.release_released (List.Sublist.refl s.recon) (List.filter_sublist (p := fun l : LostEntry => !seqs.contains l.seq))
  · exact (Steady.refl s).released rfl

theorem execDllAck_released (ctx : CtxNo) : Yields (Released s) (execDllAck ctx s) := by
  unfold execDllAck
  refine .ite (fun _ => ?_) fun _ => .next ((Steady.refl s).released rfl)
  extract_lets s1 s2
  have k1 : Keeps [.engine] [Reg.THI_OPS.COUNT, Reg.THI_CNT.MULTI_HITS] s s1 := .ite (s.thiGiveSpans_keeps _) (.refl ..)
  have h1 : Released s s1 := k1.steady.released (k1.same .reconcile).1
  have h2 : Released s s2 := by
    subst s2
    split
    · exact { h1.toFollows.trans (s1.releaseLog_released ..).toFollows with
        frame := (s1.releaseLog_released ..).frame.trans h1.frame
        mem := (s1.releaseLog_released ..).mem.trans h1.mem
        kept := (s1.releaseLog_released ..).kept.trans h1.kept }
    · exact h1
  have k3 : Keeps [.tags, .contexts] [] s2 ((s2.dropTags ctx.val).freeCtx ctx.val) := .freeCtx (.mono (s2.dropTags_keeps ctx.val))
  exact .next (h2.then k3.steady (k3.same .reconcile).1)

/-! ### BAR4 writes (R126) -/

/-- A BAR4 write keeps what every step keeps, but for the windows' memory. -/
structure Stored4 (s t : State) : Prop extends Follows s t where
  frame : t.frame = s.frame
  kept : s.recon <+: t.recon

theorem Steady.stored4 {s t : State} (h : Steady s t) : Stored4 s t := { h.ruled with }

theorem execBar4Write_stored4 (fn : Fn) (rid : BitVec 16) (off : Nat) (bytes : List Byte) :
    Yields (Stored4 s) (execBar4Write fn rid off bytes s) := by
  unfold execBar4Write
  refine .ite (fun _ => ?_) fun _ => .next (Steady.refl s).stored4
  extract_lets s1
  have h : Steady s s1 := (s.wakeTlp_keeps _).steady
  split
  · exact .next (Steady.stored4 (.emit (h.trans (State.winDrop_keeps ..).steady) _))
  · refine .next { h.ruled with inv := fun i => ?_ }
    exact { h.inv i with mem := Memory.wf_write _ _ _ (h.inv i).mem }

end

end Sys2Proof.Machine
end

section
/-! PROOFS. Fans (R562 to R571): what entering a state does to a fan and its registers, and the statements of O57 to O60. -/

set_option Elab.async false

namespace Sys2Proof.Machine

/-! ### Entering a state (R562, R567, R568) -/

theorem fanStOf_code (st : FanSt) : fanStOf (st.code % 2 ^ Reg.FAN_F.STATE.w) = st := by cases st <;> rfl

/-- A fan at its entry into a state. -/
def Fan.entered (x : Fan) (now : Nat) : Fan :=
  { x with fwd := 0, rev := 0, valid := 0, misses := 0, since := now, lastAt := now, pulse := 0, braked := false, cut := false }

/-- The duty at which a state is entered, where the entry gives one: Ramp its first duty, every other state but Run, Catch and Locate none. -/
def State.entryDuty (s : State) (f : Nat) : FanSt → Option Nat
  | .run | .catch_ | .locate => none
  | .ramp => some (s.rampDuty f 0)
  | _ => some 0

/-- The state with a fan's STATE and its counts at their entry. -/
def State.fanEnter (s : State) (f : Nat) (st : FanSt) : State :=
  (s.wr Reg.FAN_F.STATE st.code f).setFan f ((s.fan f).entered s.frame)

theorem State.fanGo_eq (s : State) (f : Nat) (st : FanSt) :
    s.fanGo f st = match s.entryDuty f st with
      | none => s.fanEnter f st
      | some d => (s.fanEnter f st).wr Reg.FAN_F.DUTY d f := by
  cases st <;> rfl

section
variable (s : State) (f : Nat) (st : FanSt)

theorem State.rd_fanGo {q : Fld} (h : q.apart Reg.FAN_F.STATE = true) (h' : q.apart Reg.FAN_F.DUTY = true) (j g : Nat) :
    (s.fanGo f st).rd q j g = s.rd q j g := by
  rw [State.fanGo_eq]
  cases s.entryDuty f st <;> simp [State.fanEnter, State.rd_wr_apart _ _ _ _ _ _ _ _ h, State.rd_wr_apart _ _ _ _ _ _ _ _ h']

@[simp] theorem State.fanSt_fanGo : (s.fanGo f st).fanSt f = st := by
  rw [State.fanGo_eq, State.fanSt]
  cases s.entryDuty f st <;> simp (disch := decide) [State.fanEnter, State.rd_wr_apart, fanStOf_code]

theorem State.rd_duty_fanGo {d : Nat} (h : s.entryDuty f st = some d) : (s.fanGo f st).rd Reg.FAN_F.DUTY f = d % 2 ^ Reg.FAN_F.DUTY.w := by
  rw [State.fanGo_eq, h]
  exact State.rd_wr_same _ _ _ _ _

@[simp] theorem State.fan_fanGo (g : Nat) : (s.fanGo f st).fan g = if g = f then (s.fan f).entered s.frame else s.fan g := by
  rw [State.fanGo_eq]
  cases s.entryDuty f st <;> simp [State.fanEnter]

@[simp] theorem State.fanGo_frame : (s.fanGo f st).frame = s.frame := by cases st <;> rfl
@[simp] theorem State.fanGo_events : (s.fanGo f st).events = s.events := by cases st <;> rfl
@[simp] theorem State.fanGo_health (o : Nat) : (s.fanGo f st).health_ o = s.health_ o := by cases st <;> rfl

end

/-- The speed loop's largest duty fits its field. -/
theorem State.rampDuty_lt (s : State) (f t : Nat) : s.rampDuty f t < 2 ^ Reg.FAN_F.DUTY.w := by
  have : s.rampDuty f t ≤ 1023 := le_trans (Nat.min_le_left _ _) (Nat.min_le_left _ _)
  exact Nat.lt_of_le_of_lt this (by decide)

theorem Frame.fanGo {ps : List Part} {rs : List Fld} {s t : State} (k : Frame ps rs s t) (hfans : Part.fans ∈ ps)
    (hstate : Reg.FAN_F.STATE ∈ rs) (hduty : Reg.FAN_F.DUTY ∈ rs) (f : Fin 4) (st : FanSt) : Frame ps rs s (t.fanGo f st) := by
  have henter : Frame ps rs s (t.fanEnter f st) := (k.then_wr hstate _ f.isLt (by decide)).setFan hfans _ _
  rw [State.fanGo_eq]
  cases t.entryDuty f st with
  | none => exact henter
  | some d => exact henter.then_wr hduty _ f.isLt (by decide)

/-! ### Starts, failed starts, Run and Fault (R567, R568, R570) -/

/-- The state a start enters: Ramp for A of 0 and 1, Locate for more (R567). -/
def State.startSt (s : State) (f : Nat) : FanSt := if s.rd Reg.FAN_F.FAILS f < 2 then .ramp else .locate

section
variable (s : State) (f : Nat)

theorem State.fanSt_wr {r : Fld} (h : Reg.FAN_F.STATE.apart r = true) (v i g : Nat) : (s.wr r v i g).fanSt f = s.fanSt f := by
  rw [State.fanSt, State.fanSt, State.rd_wr_apart _ _ _ _ _ _ _ _ h]

@[simp] theorem State.fanSt_setFan (g : Nat) (x : Fan) : (s.setFan g x).fanSt f = s.fanSt f := rfl
@[simp] theorem State.fanSt_event (a b c d : Nat) : (s.event a b c d).fanSt f = s.fanSt f := rfl
@[simp] theorem State.fanSt_setHealth (o v : Nat) : (s.setHealth o v).fanSt f = s.fanSt f := rfl

@[simp] theorem State.fanSt_fanStart : (s.fanStart f).fanSt f = s.startSt f :=
  (State.fanSt_wr _ _ (by decide) _ _ _).trans (s.fanSt_fanGo f _)

@[simp] theorem State.fan_fanStart (g : Nat) : (s.fanStart f).fan g = if g = f then (s.fan f).entered s.frame else s.fan g :=
  s.fan_fanGo f _ g

theorem State.rd_starts_fanStart : (s.fanStart f).rd Reg.FAN_F.STARTS f = min (s.rd Reg.FAN_F.STARTS f + 1) 65535 := by
  rw [State.fanStart, State.rd_bump_same, State.rd_fanGo _ _ _ (by decide) (by decide)]
  rfl

theorem State.rd_duty_fanStart (h : s.rd Reg.FAN_F.FAILS f < 2) : (s.fanStart f).rd Reg.FAN_F.DUTY f = s.rampDuty f 0 := by
  rw [State.fanStart, if_pos h, State.rd_bump_apart _ _ _ _ _ _ _ _ (by decide), State.rd_duty_fanGo _ _ _ rfl,
    Nat.mod_eq_of_lt (s.rampDuty_lt f 0)]

@[simp] theorem State.fanSt_fanFail : (s.fanFail f).fanSt f = .settle := by
  simp only [State.fanFail, State.fanSt_event, State.fanSt_wr _ _ (show Reg.FAN_F.STATE.apart Reg.FAN_F.FAILS = true by decide),
    State.fanSt_fanGo]

@[simp] theorem State.fan_fanFail (g : Nat) : (s.fanFail f).fan g = if g = f then (s.fan f).entered s.frame else s.fan g :=
  s.fan_fanGo f _ g

theorem State.rd_fails_fanFail : (s.fanFail f).rd Reg.FAN_F.FAILS f = min 3 (s.rd Reg.FAN_F.FAILS f + 1) := by
  simp only [State.fanFail, State.event_rd_, State.rd_wr_same]
  exact Nat.mod_eq_of_lt (Nat.lt_of_le_of_lt (Nat.min_le_left _ _) (by decide))

theorem State.rd_duty_fanFail : (s.fanFail f).rd Reg.FAN_F.DUTY f = 0 := by
  simp only [State.fanFail, State.event_rd_]
  rw [State.rd_wr_apart _ _ _ _ _ _ _ _ (by decide), State.rd_duty_fanGo _ _ _ rfl]
  rfl

theorem State.fanFail_head : (s.fanFail f).events.head?.map (fun e => (e.source, e.code)) = some (0x05, 0x0101) := by
  simp [State.fanFail]

end

section
variable {ps : List Part} {rs : List Fld} {s t : State} (k : Frame ps rs s t) (hfans : Part.fans ∈ ps) (hstate : Reg.FAN_F.STATE ∈ rs)
  (hduty : Reg.FAN_F.DUTY ∈ rs) (f : Fin 4)
include k hfans hstate hduty

theorem Frame.fanStart (hstarts : Reg.FAN_F.STARTS ∈ rs) : Frame ps rs s (t.fanStart f) :=
  (k.fanGo hfans hstate hduty f _).then_bump hstarts _ f.isLt (by decide)

theorem Frame.fanFail (hlog : Part.log ∈ ps) (hfails : Reg.FAN_F.FAILS ∈ rs) : Frame ps rs s (t.fanFail f) :=
  ((k.fanGo hfans hstate hduty f _).then_wr hfails _ f.isLt (by decide)).then_event hlog _ _ _ _

theorem Frame.fanRun (hlog : Part.log ∈ ps) (hhealth : Part.health ∈ ps) (hmask : Reg.FAN_STATUS.FAULT_MASK ∈ rs) :
    Frame ps rs s (t.fanRun f) := by
  have hrun := (k.fanGo hfans hstate hduty f .run).setFan hfans f { (t.fanGo f .run).fan f with runFrom := t.frame }
  exact .ite (((hrun.then_wr hmask _ (by decide) (by decide)).setHealth hhealth _ _).then_event hlog _ _ _ _) hrun

theorem Frame.fanFault (hlog : Part.log ∈ ps) (hhealth : Part.health ∈ ps) (hasync : asyncParts ⊆ ps) (hpend : Reg.HIF_ASYNC.PEND ∈ rs)
    (hmask : Reg.FAN_STATUS.FAULT_MASK ∈ rs) (w : Bool) : Frame ps rs s (t.fanFault f w) :=
  ((((k.fanGo hfans hstate hduty f .fault).then_wr hmask _ (by decide) (by decide)).setHealth hhealth _ _).then_event hlog _ _ _ _).asyncAll
    hasync hpend _ _

end

theorem testBit_clearBit_self (n i : Nat) : (clearBit n i).testBit i = false := by
  unfold clearBit
  split
  · next h =>
    have hadd := Nat.testBit_two_pow_add_eq (n - 2 ^ i) i
    rw [Nat.add_sub_cancel' (Nat.ge_two_pow_of_testBit h), h] at hadd
    simpa using hadd
  · next h => simpa using h

theorem testBit_setBit_self (n i : Nat) : (setBit n i).testBit i = true := by
  rw [setBit, Nat.testBit_or, Nat.testBit_two_pow_self, Bool.or_true]

section
variable (s : State) (f : Nat)

@[simp] theorem State.fanSt_fanRun : (s.fanRun f).fanSt f = .run := by
  unfold State.fanRun
  dsimp only
  split
  · simp only [State.fanSt_event, State.fanSt_setHealth, State.fanSt_setFan, State.fanSt_fanGo,
      State.fanSt_wr _ _ (show Reg.FAN_F.STATE.apart Reg.FAN_STATUS.FAULT_MASK = true by decide)]
  · simp only [State.fanSt_setFan, State.fanSt_fanGo]

/-- A fan that enters Run is in fault no more (R570). -/
theorem State.fanFaulted_fanRun : (s.fanRun f).fanFaulted f = false := by
  have hmask : ((s.fanGo f .run).setFan f { (s.fanGo f .run).fan f with runFrom := s.frame }).rd Reg.FAN_STATUS.FAULT_MASK =
      s.rd Reg.FAN_STATUS.FAULT_MASK := s.rd_fanGo f .run (by decide) (by decide) 0 0
  unfold State.fanRun
  dsimp only
  split
  · rw [State.fanFaulted, State.event_rd_, State.setHealth_rd_, State.rd_wr_same, Nat.testBit_mod_two_pow, testBit_clearBit_self, Bool.and_false]
  · next h =>
    rw [Bool.or_eq_true, not_or, Bool.not_eq_true, Bool.not_eq_true] at h
    rw [State.fanFaulted, hmask]
    exact h.1

/-- A fan with its fault recorded, before the HEALTH event is posted (R570). -/
def State.fanFaultShown (s : State) (f : Nat) (wrongMotor : Bool) : State :=
  let s1 := (s.fanGo f .fault).wr Reg.FAN_STATUS.FAULT_MASK (setBit (s.rd Reg.FAN_STATUS.FAULT_MASK) f)
  (s1.setHealth 0x082 (setBit (s1.health_ 0x082) f)).event 0x05 0x0102 (f + bit wrongMotor * 4)

variable (w : Bool)

/-- Posting the HEALTH event of a fault reaches the asynchronous parts alone. -/
theorem State.fanFault_frame : Frame asyncParts [Reg.HIF_ASYNC.PEND] (s.fanFaultShown f w) (s.fanFault f w) :=
  (Frame.refl _ _ _).asyncAll (List.Subset.refl _) (by decide) 3 _

@[simp] theorem State.fanSt_fanFault : (s.fanFault f w).fanSt f = .fault := by
  rw [State.fanSt, (s.fanFault_frame f w).rd_eq (by decide)]
  exact (State.fanSt_wr _ _ (by decide) _ _ _).trans (s.fanSt_fanGo f .fault)

theorem State.fanFaulted_fanFault (hf : f < 4) : (s.fanFault f w).fanFaulted f = true := by
  rw [State.fanFaulted, (s.fanFault_frame f w).rd_eq (by decide), State.fanFaultShown, State.event_rd_, State.setHealth_rd_,
    State.rd_wr_same, Nat.testBit_mod_two_pow, testBit_setBit_self, Bool.and_true]
  exact decide_eq_true hf

theorem State.health_fanFault : ((s.fanFault f w).health_ 0x082).testBit f = true := by
  have hsame : (s.fanFault f w).health = (s.fanFaultShown f w).health := (s.fanFault_frame f w).1 .health (by decide)
  rw [State.health_, hsame]
  refine (congrArg (·.testBit f) (State.health_setHealth _ 0x082 0x082 _)).trans ?_
  rw [if_pos rfl]
  exact testBit_setBit_self _ _

theorem State.rd_fanFault {q : Fld} (h : ∀ r ∈ [Reg.FAN_F.STATE, Reg.FAN_F.DUTY, Reg.FAN_STATUS.FAULT_MASK, Reg.HIF_ASYNC.PEND], q.apart r = true)
    (j g : Nat) : (s.fanFault f w).rd q j g = s.rd q j g := by
  simp only [List.forall_mem_cons] at h
  obtain ⟨hstate, hduty, hmask, hpend, _⟩ := h
  rw [(s.fanFault_frame f w).rd_eq (by simpa using hpend)]
  exact (State.rd_wr_apart _ _ _ _ _ _ _ _ hmask).trans (s.rd_fanGo f _ hstate hduty j g)

end

/-! ### The statements -/

/-- Settles O57: each of the commands starts a fan or fails its attempt, and the rules of a start and of a failed attempt say the rest. -/
theorem fanStartAttempts : Obligations.FanStartAttempts := by
  intro s fan
  refine ⟨fun hst hdue => ?_, fun rpm hst hslow => ?_, fun hst hdue => ?_, fun hst hdue => ?_, fun close hst hp => ?_, fun hst hp => ?_⟩
  · have hrun : exec (.probeWindowEnd fan) s = .next (s.fanStart fan) := if_pos ⟨hst, hdue⟩
    exact ⟨_, hrun, s.fanSt_fanStart fan, s.rd_starts_fanStart fan, by simp [Fan.entered], s.rd_duty_fanStart fan⟩
  · have hrun : exec (.brakeReleaseMeasure fan rpm) s = .next ((s.wr Reg.FAN_F.RPM (min rpm 65535) fan).fanStart fan) :=
      (if_pos hst).trans (if_pos hslow)
    have hrd {q : Fld} (h : q.apart Reg.FAN_F.RPM = true) := State.rd_wr_apart s Reg.FAN_F.RPM q (min rpm 65535) fan 0 fan 0 h
    refine ⟨_, hrun, (State.fanSt_fanStart _ _).trans ?_, (State.rd_starts_fanStart _ _).trans ?_⟩
    · rw [State.startSt, hrd (by decide)]
    · rw [hrd (by decide)]
  · have hrun : exec (.rampEnd fan) s = .next (s.fanFail fan) := if_pos ⟨hst, hdue⟩
    exact ⟨_, hrun, s.fanSt_fanFail fan, s.rd_duty_fanFail fan, s.rd_fails_fanFail fan, s.fanFail_head fan⟩
  · have hrun : exec (.locateTimeout fan) s = .next (s.fanFail fan) := if_pos ⟨hst, hdue⟩
    exact ⟨_, hrun, s.fanSt_fanFail fan, s.rd_fails_fanFail fan, s.fanFail_head fan⟩
  · have hrun : exec (.peakLimitTrip fan close) s =
        .next (s.setFan fan { s.fan fan with cut := true, pulse := (s.fan fan).pulse + 1 }) := by
      have hn : min 12 ((s.fan fan).pulse + 1) = (s.fan fan).pulse + 1 := by omega
      change execPeakLimitTrip fan close s = _
      simp only [execPeakLimitTrip, hst, if_true, hn, show (s.fan fan).pulse + 1 ≠ 12 by omega, false_and, and_false, if_false]
    exact ⟨_, hrun, by simp, by simp, hst⟩
  · have hrun : exec (.peakLimitTrip fan true) s = .next ((s.setFan fan { s.fan fan with cut := true, pulse := 12 }).fanFail fan) := by
      change execPeakLimitTrip fan true s = _
      simp [execPeakLimitTrip, hst, hp]
    exact ⟨_, hrun, State.fanSt_fanFail _ _⟩

/-- The counts of a fan after a crossing (R564, R567). -/
def Fan.crossed (x : Fan) (reverse inTime : Bool) (now : Nat) : Fan :=
  { x with fwd := if reverse then 0 else x.fwd + 1, rev := if reverse then x.rev + 1 else 0,
           valid := if !reverse && inTime then x.valid + 1 else 0, misses := 0, lastAt := now }

/-- A crossing as every state takes it: the speed, the direction and the counts (R563, R564). -/
def State.crossed (s : State) (fan : Fin 4) (reverse : Bool) (rpm : Nat) (inTime : Bool) : State :=
  ((s.wr Reg.FAN_F.RPM (min rpm 65535) fan).wr Reg.FAN_F.REVERSE (bit reverse) fan).setFan fan
    ((s.fan fan).crossed reverse inTime s.frame)

section
variable (s : State) (fan : Fin 4) (reverse inTime : Bool) (rpm : Nat)

theorem State.fanSt_crossed : (s.crossed fan reverse rpm inTime).fanSt fan = s.fanSt fan :=
  (State.fanSt_wr _ _ (by decide) _ _ _).trans (State.fanSt_wr _ _ (by decide) _ _ _)

theorem State.rd_rpm_crossed : (s.crossed fan reverse rpm inTime).rd Reg.FAN_F.RPM fan = min rpm 65535 := by
  rw [State.crossed, State.setFan_rd_, State.rd_wr_apart _ _ _ _ _ _ _ _ (by decide), State.rd_wr_same]
  exact Nat.mod_eq_of_lt (Nat.lt_of_le_of_lt (Nat.min_le_right _ _) (by decide))

theorem State.rd_reverse_crossed : (s.crossed fan reverse rpm inTime).rd Reg.FAN_F.REVERSE fan = bit reverse := by
  rw [State.crossed, State.setFan_rd_, State.rd_wr_same]
  cases reverse <;> rfl

/-- What a crossing does to the fan's state (R567). -/
structure State.CrossingState (t : State) : Prop where
  catch_ : s.fanSt fan = .probe → reverse = false → 2 ≤ (s.fan fan).fwd → s.catchRpm fan ≤ rpm → t.fanSt fan = .catch_
  brake : s.fanSt fan = .probe → reverse = true → 2 ≤ (s.fan fan).rev → s.catchRpm fan ≤ rpm → t.fanSt fan = .brake
  slow : s.fanSt fan = .probe → rpm < s.catchRpm fan → t.fanSt fan = .probe
  run : s.fanSt fan = .ramp ∨ s.fanSt fan = .locate ∨ s.fanSt fan = .catch_ → reverse = false → inTime = true → 5 ≤ (s.fan fan).valid →
    (s.fanSt fan = .ramp → (s.fan fan).since + 10000 ≤ s.frame) → t.fanSt fan = .run ∧ t.fanFaulted fan = false
  settle : s.fanSt fan = .coast → rpm < s.catchRpm fan → t.fanSt fan = .settle
  recatch : s.fanSt fan = .coast → s.catchRpm fan ≤ rpm → reverse = false → 2 ≤ (s.fan fan).fwd → t.fanSt fan = .catch_

/-- The fields a change of a fan's state may write. -/
def fanStateRegs : List Fld := [Reg.FAN_F.STATE, Reg.FAN_F.DUTY, Reg.FAN_STATUS.FAULT_MASK]

theorem exec_bemfCrossing : exec (.bemfCrossing fan reverse rpm inTime) s =
    let t := s.crossed fan reverse rpm inTime
    let y := (s.fan fan).crossed reverse inTime s.frame
    let fast := decide (s.catchRpm fan ≤ rpm)
    match s.fanSt fan with
    | .probe =>
      if fast && decide (3 ≤ y.fwd) then .next (t.fanGo fan .catch_)
      else if fast && decide (3 ≤ y.rev) then .next ((t.fanGo fan .brake).event 0x05 0x0106 (fan + min rpm 65535 * 4)) else .next t
    | .ramp => if decide (6 ≤ y.valid) && decide ((s.fan fan).since + 10000 ≤ s.frame) then .next (t.fanRun fan) else .next t
    | .locate => if decide (6 ≤ y.valid) then .next (t.fanRun fan) else .next t
    | .catch_ => if decide (6 ≤ y.valid) then .next ((t.fanRun fan).event 0x05 0x0105 (fan + min rpm 65535 * 4)) else .next t
    | .coast =>
      if !fast then .next (t.fanGo fan .settle) else if decide (3 ≤ y.fwd) then .next (t.fanGo fan .catch_) else .next t
    | _ => .next t := rfl

theorem bemfCrossing_yields : Yields (fun t => Frame [.fans, .log, .health] fanStateRegs (s.crossed fan reverse rpm inTime) t
    ∧ State.CrossingState s fan reverse inTime rpm t) (exec (.bemfCrossing fan reverse rpm inTime) s) := by
  have hst := s.fanSt_crossed fan reverse inTime rpm
  rw [exec_bemfCrossing]
  generalize s.crossed fan reverse rpm inTime = u at hst ⊢
  dsimp only [Fan.crossed]
  have hkeep := Frame.refl [.fans, .log, .health] fanStateRegs u
  have hgo (st : FanSt) := hkeep.fanGo (by decide) (by decide) (by decide) fan st
  have hrun := hkeep.fanRun (by decide) (by decide) (by decide) fan (by decide) (by decide) (by decide)
  have hfaulted := u.fanFaulted_fanRun fan
  have hgoSt (st : FanSt) : (u.fanGo fan st).fanSt fan = st := u.fanSt_fanGo fan st
  have hrunSt : (u.fanRun fan).fanSt fan = .run := u.fanSt_fanRun fan
  cases hs : s.fanSt fan
  case probe =>
    refine .ite (fun hc => .next ⟨hgo _, ?_⟩) fun hc => .ite (fun hb => .next ⟨(hgo _).then_event (by decide) _ _ _ _, ?_⟩) fun hb =>
      .next ⟨hkeep, ?_⟩
    all_goals constructor <;> grind [State.fanSt_event]
  case ramp => exact .ite (fun hc => .next ⟨hrun, by constructor <;> grind⟩) fun hc => .next ⟨hkeep, by constructor <;> grind⟩
  case locate => exact .ite (fun hc => .next ⟨hrun, by constructor <;> grind⟩) fun hc => .next ⟨hkeep, by constructor <;> grind⟩
  case catch_ =>
    refine .ite (fun hc => .next ⟨hrun.then_event (by decide) _ _ _ _, ?_⟩) fun hc => .next ⟨hkeep, by constructor <;> grind⟩
    have hclear (a b c d : Nat) : ((u.fanRun fan).event a b c d).fanFaulted fan = false := hfaulted
    constructor <;> grind [State.fanSt_event]
  case coast =>
    refine .ite (fun hc => .next ⟨hgo _, ?_⟩) fun hc => .ite (fun hb => .next ⟨hgo _, ?_⟩) fun hb => .next ⟨hkeep, ?_⟩
    all_goals constructor <;> grind
  all_goals exact .next ⟨hkeep, by constructor <;> grind⟩

end

/-- Settles O58: the change of state after a crossing leaves the speed and the direction that the crossing set. -/
theorem fanCrossings : Obligations.FanCrossings := by
  intro s fan reverse inTime rpm
  obtain ⟨t, hrun, hframe, hst⟩ := bemfCrossing_yields s fan reverse inTime rpm
  exact ⟨t, hrun, (hframe.rd_eq (by decide) _ _).trans (s.rd_rpm_crossed fan reverse inTime rpm),
    (hframe.rd_eq (by decide) _ _).trans (s.rd_reverse_crossed fan reverse inTime rpm), hst.catch_, hst.brake, hst.slow, hst.run, hst.settle,
    hst.recatch⟩

/-! ### RETRY (R567, R576) -/

/-- RETRY as one fan takes it. -/
def State.retryFan (mask : BitVec 4) (s : State) (f : Nat) : State :=
  if mask.toNat.testBit f && decide (s.fanSt f = .fault) && s.fanEnabled f then (s.wr Reg.FAN_F.FAILS 0 f).fanGo f .probe else s

section
variable {s : State} {fn : Fn} {mask : BitVec 4}

theorem exec_fanRetry (h : s.reachable fn = true) : exec (.fanRetry fn mask) s = .next ([0, 1, 2, 3].foldl (State.retryFan mask) s) :=
  if_pos h

/-- RETRY of one fan leaves the STATE and FAILS of every other, and what is enabled. -/
theorem State.retryFan_other {f g : Nat} (h : g ≠ f) :
    (s.retryFan mask f).fanSt g = s.fanSt g ∧ (s.retryFan mask f).rd Reg.FAN_F.FAILS g = s.rd Reg.FAN_F.FAILS g
      ∧ (s.retryFan mask f).fanEnabled g = s.fanEnabled g := by
  unfold State.retryFan
  split
  · refine ⟨?_, ?_, ?_⟩
    · rw [State.fanSt, State.fanGo_eq]
      simp (disch := decide) only [State.entryDuty, State.fanEnter, State.setFan_rd_, State.rd_wr_apart]
      rw [State.rd_wr_other _ _ _ _ _ _ _ _ (Fld.key_instance (by decide) h 0), State.rd_wr_apart _ _ _ _ _ _ _ _ (by decide)]
      rfl
    · rw [State.rd_fanGo _ _ _ (by decide) (by decide), State.rd_wr_other _ _ _ _ _ _ _ _ (Fld.key_instance (by decide) h 0)]
    · rw [State.fanEnabled, State.rd_fanGo _ _ _ (by decide) (by decide), State.rd_wr_apart _ _ _ _ _ _ _ _ (by decide)]
      rfl
  · exact ⟨rfl, rfl, rfl⟩

theorem State.retryFan_self {f : Nat} (hm : mask.toNat.testBit f = true) (hst : s.fanSt f = .fault) (hen : s.fanEnabled f = true) :
    (s.retryFan mask f).fanSt f = .probe ∧ (s.retryFan mask f).rd Reg.FAN_F.FAILS f = 0 := by
  have hrun : s.retryFan mask f = (s.wr Reg.FAN_F.FAILS 0 f).fanGo f .probe := if_pos (by simp [hm, hst, hen])
  rw [hrun]
  refine ⟨State.fanSt_fanGo _ _ _, ?_⟩
  rw [State.rd_fanGo _ _ _ (by decide) (by decide), State.rd_wr_same]
  rfl

theorem Frame.retryFan {f : Nat} (hf : f < 4) :
    Frame [.fans] [Reg.FAN_F.STATE, Reg.FAN_F.FAILS, Reg.FAN_F.DUTY] s (s.retryFan mask f) := by
  have hfails := Frame.wr [.fans] (rs := [Reg.FAN_F.STATE, Reg.FAN_F.FAILS, Reg.FAN_F.DUTY]) (by decide) s 0 (i := f) (r := Reg.FAN_F.FAILS) hf
    (f := 0) (by decide)
  exact .ite (hfails.fanGo (by decide) (by decide) (by decide) ⟨f, hf⟩ .probe) (.refl _ _ s)

/-- Over the fans listed, RETRY takes each one once: a fan named, in fault and enabled leaves for Probe with A = 0, whatever the others do. -/
theorem State.retryFans_mem {l : List Nat} (hl : l.Nodup) {f : Nat} (hf : f ∈ l) (hm : mask.toNat.testBit f = true) (hst : s.fanSt f = .fault)
    (hen : s.fanEnabled f = true) :
    (l.foldl (State.retryFan mask) s).fanSt f = .probe ∧ (l.foldl (State.retryFan mask) s).rd Reg.FAN_F.FAILS f = 0 := by
  have hkeep : ∀ (l : List Nat) (s : State), f ∉ l → (l.foldl (State.retryFan mask) s).fanSt f = s.fanSt f
      ∧ (l.foldl (State.retryFan mask) s).rd Reg.FAN_F.FAILS f = s.rd Reg.FAN_F.FAILS f := by
    intro l
    induction l with
    | nil => exact fun s _ => ⟨rfl, rfl⟩
    | cons g l ih =>
      intro s hg
      obtain ⟨hne, hg⟩ := List.ne_and_not_mem_of_not_mem_cons hg
      obtain ⟨hs1, hf1, _⟩ := State.retryFan_other (s := s) (mask := mask) hne
      obtain ⟨hs2, hf2⟩ := ih (s.retryFan mask g) hg
      exact ⟨hs2.trans hs1, hf2.trans hf1⟩
  induction l generalizing s with
  | nil => cases hf
  | cons g l ih =>
    obtain ⟨hg, hl⟩ := List.nodup_cons.mp hl
    by_cases hfg : f = g
    · subst hfg
      obtain ⟨hs1, hf1⟩ := State.retryFan_self hm hst hen
      obtain ⟨hs2, hf2⟩ := hkeep l (s.retryFan mask f) hg
      exact ⟨hs2.trans hs1, hf2.trans hf1⟩
    · obtain ⟨hs1, _, he1⟩ := State.retryFan_other (s := s) (mask := mask) hfg
      exact ih hl ((List.mem_cons.mp hf).resolve_left hfg) (hs1.trans hst) (he1.trans hen)

end

/-! ### The back-EMF constant (R571) -/

/-- A measured back-EMF constant, stored. -/
def State.keStored (s : State) (fan : Fin 4) (ke : Nat) : State :=
  let s1 := s.wr Reg.FAN_F.KE_MEAS (min ke 65535) fan
  s1.setFan fan { s1.fan fan with keAt := s.frame }

section
variable (s : State) (fan : Fin 4) (ke : Nat)

/-- The judgement of a stored constant below its range: KE_LOW with an event (R571). -/
def State.keLow (s : State) (fan : Fin 4) (ke : Nat) : State :=
  if 100 * ke + s.rd Reg.FAN_F.KE_NOM fan * s.rd Reg.FAN_F.KE_TOL fan < 100 * s.rd Reg.FAN_F.KE_NOM fan then
    ((s.keStored fan ke).wr Reg.FAN_F.KE_LOW 1 fan).event 0x05 0x0104 (fan + 0 * 4 + min ke 65535 * 8)
  else s.keStored fan ke

theorem exec_keMeasurement (h : s.fanSt fan = .run ∨ s.fanSt fan = .catch_) : exec (.keMeasurement fan ke) s =
    let nom := 100 * s.rd Reg.FAN_F.KE_NOM fan
    let tol := s.rd Reg.FAN_F.KE_NOM fan * s.rd Reg.FAN_F.KE_TOL fan
    if 100 * ke + 2 * tol < nom ∨ nom + tol < 100 * ke then
      .next ((((s.keStored fan ke).wr Reg.FAN_F.KE_WRONG 1 fan).event 0x05 0x0104 (fan + 1 * 4 + min ke 65535 * 8)).fanFault fan true)
    else
      let u := (s.keLow fan ke).wr Reg.FAN_F.DUTY ((s.keLow fan ke).catchDuty fan ke) fan
      if s.fanSt fan = .run then .next (u.fanGo fan .catch_) else .next u := by
  exact if_pos h

theorem State.rd_keStored {q : Fld} (h : q.apart Reg.FAN_F.KE_MEAS = true) (j g : Nat) : (s.keStored fan ke).rd q j g = s.rd q j g :=
  State.rd_wr_apart _ _ _ _ _ _ _ _ h

theorem State.rd_keMeas_keStored : (s.keStored fan ke).rd Reg.FAN_F.KE_MEAS fan = min ke 65535 :=
  (State.rd_wr_same s Reg.FAN_F.KE_MEAS _ _ _).trans (Nat.mod_eq_of_lt (Nat.lt_of_le_of_lt (Nat.min_le_right _ _) (by decide)))

theorem State.rd_keLow {q : Fld} (h : q.apart Reg.FAN_F.KE_LOW = true) (j g : Nat) : (s.keLow fan ke).rd q j g = (s.keStored fan ke).rd q j g := by
  unfold State.keLow
  split
  · exact State.rd_wr_apart _ _ _ _ _ _ _ _ h
  · rfl

theorem State.catchDuty_lt (f : Nat) : s.catchDuty f ke < 2 ^ Reg.FAN_F.DUTY.w := by
  have : s.catchDuty f ke ≤ 1023 := le_trans (Nat.min_le_left _ _) (Nat.min_le_left _ _)
  exact Nat.lt_of_le_of_lt this (by decide)

theorem State.catchDuty_keLow : (s.keLow fan ke).catchDuty fan ke = s.catchDuty fan ke := by
  have hrd {q : Fld} (h : q.apart Reg.FAN_F.KE_LOW = true) (h' : q.apart Reg.FAN_F.KE_MEAS = true) :=
    (s.rd_keLow fan ke h fan 0).trans (s.rd_keStored fan ke h' fan 0)
  have hsup : (s.keLow fan ke).sup = s.sup := by unfold State.keLow; split <;> rfl
  unfold State.catchDuty State.dutyLimit
  rw [hrd (by decide) (by decide), hrd (by decide) (by decide), hsup]

/-- What follows the judgement of a fan that is not in fault: the caught duty, and Catch after Run, leave the register fields other than STATE
and DUTY. -/
theorem State.keCaught (h : s.fanSt fan = .run ∨ s.fanSt fan = .catch_) :
    ∃ t, (if s.fanSt fan = .run then
          Host.Outcome.next (((s.keLow fan ke).wr Reg.FAN_F.DUTY ((s.keLow fan ke).catchDuty fan ke) fan).fanGo fan .catch_)
        else .next ((s.keLow fan ke).wr Reg.FAN_F.DUTY ((s.keLow fan ke).catchDuty fan ke) fan) : Host.Outcome State Fault Refusal) = .next t
      ∧ t.fanSt fan = .catch_ ∧ t.rd Reg.FAN_F.DUTY fan = s.catchDuty fan ke
      ∧ Frame [.fans] [Reg.FAN_F.STATE, Reg.FAN_F.DUTY] (s.keLow fan ke) t := by
  have hduty : ((s.keLow fan ke).wr Reg.FAN_F.DUTY ((s.keLow fan ke).catchDuty fan ke) fan).rd Reg.FAN_F.DUTY fan = s.catchDuty fan ke := by
    rw [State.rd_wr_same, State.catchDuty_keLow, Nat.mod_eq_of_lt (s.catchDuty_lt ke fan)]
  have hframe := Frame.wr [.fans] (rs := [Reg.FAN_F.STATE, Reg.FAN_F.DUTY]) (r := Reg.FAN_F.DUTY) (by decide) (s.keLow fan ke)
    ((s.keLow fan ke).catchDuty fan ke) (i := fan) fan.isLt (f := 0) (by decide)
  split
  · refine ⟨_, rfl, State.fanSt_fanGo _ _ _, ?_, hframe.fanGo (by decide) (by decide) (by decide) fan _⟩
    rw [State.fanGo_eq]
    exact (State.rd_wr_apart _ Reg.FAN_F.STATE Reg.FAN_F.DUTY _ _ _ _ _ (by decide)).trans hduty
  · next hrun =>
    refine ⟨_, rfl, ?_, hduty, hframe⟩
    rw [State.fanSt_wr _ _ (by decide), State.fanSt, State.rd_keLow _ _ _ (by decide), State.rd_keStored _ _ _ (by decide)]
    exact h.resolve_left hrun

end

/-- Settles O59: each clause is the command's answer in that state with the rule of the state it enters; the judgement of the back-EMF constant
is taken on the stored constant. -/
theorem fanLossAndRest : Obligations.FanLossAndRest := by
  refine ⟨fun s fan => ⟨fun hst hm => ?_, fun hst hdue => ?_, fun hst hdue => ?_, fun hst hdue => ?_, fun hst hdue hseen => ?_,
    fun fn mask hreach hm hst hen => ?_⟩, fun s fan ke hst => ?_⟩
  · let u := s.setFan fan { s.fan fan with misses := (s.fan fan).misses + 1, valid := 0, fwd := 0, rev := 0 }
    have hrun : exec (.missedCrossing fan) s =
        .next (((u.fanGo fan .coast).bump Reg.FAN_F.LOSSES 1 fan).event 0x05 0x0100 (fan + s.rd Reg.FAN_F.RPM fan * 4)) := by
      change execMissedCrossing fan s = _
      simp only [execMissedCrossing, hst, if_pos (Nat.succ_le_succ hm)]
      rfl
    refine ⟨_, hrun, (State.fanSt_wr _ _ (by decide) _ _ _).trans (u.fanSt_fanGo fan .coast), ?_, ?_, by simp⟩
    · rw [State.event_rd_, State.rd_bump_apart _ _ _ _ _ _ _ _ (by decide), u.rd_duty_fanGo fan .coast rfl]
      rfl
    · rw [State.event_rd_, State.rd_bump_same, State.rd_fanGo _ _ _ (by decide) (by decide)]
      rfl
  · have hrun : exec (.runSecond fan) s = .next ((s.wr Reg.FAN_F.FAILS 0 fan).setFan fan { s.fan fan with runFrom := s.frame }) :=
      if_pos ⟨hst, hdue⟩
    exact ⟨_, hrun, State.rd_wr_same s Reg.FAN_F.FAILS 0 fan 0, (s.fanSt_wr fan (by decide) _ _ _).trans hst⟩
  · have hrun : exec (.coastTimeout fan) s = .next (s.fanGo fan .probe) := if_pos ⟨hst, hdue⟩
    exact ⟨_, hrun, s.fanSt_fanGo fan .probe⟩
  · have hrun : exec (.settleTimeout fan) s =
        if s.rd Reg.FAN_F.FAILS fan < 3 then .next (s.fanGo fan .probe) else .next (s.fanFault fan false) := if_pos ⟨hst, hdue⟩
    rw [hrun]
    split
    · next hlt => exact ⟨_, rfl, s.fanSt_fanGo fan .probe, fun h => absurd h (Nat.ne_of_lt hlt)⟩
    · exact ⟨_, rfl, s.fanSt_fanFault fan false, fun _ => ⟨s.fanFaulted_fanFault fan false fan.isLt, s.health_fanFault fan false⟩⟩
  · have hrun : exec (.settleBrake fan) s = .next (s.setFan fan { s.fan fan with braked := true }) := if_pos ⟨hst, hdue, hseen⟩
    exact ⟨_, hrun, by simp, hst⟩
  · have hbit : mask.toNat.testBit fan = true := hm
    obtain ⟨hprobe, hfails⟩ := State.retryFans_mem (s := s) (l := [0, 1, 2, 3]) (by decide) (f := fan)
      (by obtain ⟨i, hi⟩ := fan; simp; omega) hbit hst hen
    exact ⟨_, exec_fanRetry hreach, hprobe, hfails⟩
  · intro nom tol
    by_cases hbad : 100 * ke + 2 * tol < nom ∨ nom + tol < 100 * ke
    · refine ⟨_, (exec_keMeasurement s fan ke hst).trans (if_pos hbad), ?_, fun _ => ⟨State.fanSt_fanFault _ _ _, ?_,
        State.fanFaulted_fanFault _ _ _ fan.isLt⟩, fun _ _ => by omega, fun _ _ => by omega⟩
      · rw [State.rd_fanFault _ _ _ (by decide), State.event_rd_, State.rd_wr_apart _ _ _ _ _ _ _ _ (by decide), State.rd_keMeas_keStored]
      · rw [State.rd_fanFault _ _ _ (by decide), State.event_rd_, State.rd_wr_same]
        rfl
    · obtain ⟨t, hrun, hcatch, hduty, hframe⟩ := s.keCaught fan ke hst
      refine ⟨t, ((exec_keMeasurement s fan ke hst).trans (if_neg hbad)).trans hrun, ?_, fun h => absurd h hbad, fun hlow _ => ⟨hcatch, ?_, hduty⟩,
        fun hhigh _ => ⟨hcatch, ?_, ?_⟩⟩
      · rw [hframe.rd_eq (by decide), State.rd_keLow _ _ _ (by decide), State.rd_keMeas_keStored]
      · rw [hframe.rd_eq (by decide), State.keLow, if_pos hlow, State.event_rd_, State.rd_wr_same]
        rfl
      · rw [hframe.rd_eq (by decide), State.keLow, if_neg (Nat.not_lt.mpr hhigh), State.rd_keStored _ _ _ (by decide)]
      · rw [hframe.rd_eq (by decide), State.keLow, if_neg (Nat.not_lt.mpr hhigh), State.rd_keStored _ _ _ (by decide)]

/-! ### What the commands leave alone -/

/-- Every fan but one is as it was. -/
def OtherFans (fan : Fin 4) (s t : State) : Prop := ∀ g : Fin 4, g ≠ fan → t.fan g = s.fan g

section
variable {fan : Fin 4} {s t : State} (k : OtherFans fan s t)

theorem OtherFans.refl (fan : Fin 4) (s : State) : OtherFans fan s s := fun _ _ => rfl

include k

theorem OtherFans.of_fan {u : State} (h : ∀ g : Nat, g ≠ fan → u.fan g = t.fan g) : OtherFans fan s u :=
  fun g hg => (h g fun e => hg (Fin.ext e)).trans (k g hg)

theorem OtherFans.setFan (x : Fan) : OtherFans fan s (t.setFan fan x) :=
  k.of_fan fun _ hg => (State.fan_setFan ..).trans (if_neg hg)

theorem OtherFans.fanGo (st : FanSt) : OtherFans fan s (t.fanGo fan st) := k.of_fan fun _ hg => (State.fan_fanGo ..).trans (if_neg hg)

theorem OtherFans.fanStart : OtherFans fan s (t.fanStart fan) := k.of_fan fun _ hg => (State.fan_fanStart ..).trans (if_neg hg)

theorem OtherFans.fanFail : OtherFans fan s (t.fanFail fan) := k.of_fan fun _ hg => (State.fan_fanFail ..).trans (if_neg hg)

theorem OtherFans.fanFault (w : Bool) : OtherFans fan s (t.fanFault fan w) := by
  refine (k.fanGo .fault).of_fan fun g _ => ?_
  have hsame : (t.fanFault fan w).fans = (t.fanGo fan .fault).fans := (t.fanFault_frame fan w).1 .fans (by decide)
  simp only [State.fan, hsame]

end

section
variable (s : State) (fan : Fin 4)

theorem probeWindowEnd_yields : Yields (fun t => Frame [.fans, .log] fanFields s t ∧ OtherFans fan s t) (exec (.probeWindowEnd fan) s) :=
  .ite (fun _ => .next ⟨(Frame.refl _ _ s).fanStart (by decide) (by decide) (by decide) fan (by decide), (OtherFans.refl fan s).fanStart⟩)
    fun _ => .next ⟨.refl _ _ s, .refl fan s⟩

/-- The end of Ramp and the time-out of Locate fail the start attempt or are not due. -/
theorem attemptEnd_yields {c : Instr} (hc : c = .rampEnd fan ∨ c = .locateTimeout fan) :
    Yields (fun t => Frame [.fans, .log] fanFields s t ∧ OtherFans fan s t) (exec c s) := by
  have hfail : Yields (fun t => Frame [.fans, .log] fanFields s t ∧ OtherFans fan s t) (.next (s.fanFail fan)) :=
    .next ⟨(Frame.refl _ _ s).fanFail (by decide) (by decide) (by decide) fan (by decide) (by decide), (OtherFans.refl fan s).fanFail⟩
  rcases hc with rfl | rfl
  · exact .ite (fun _ => hfail) fun _ => .next ⟨.refl _ _ s, .refl fan s⟩
  · exact .ite (fun _ => hfail) fun _ => .next ⟨.refl _ _ s, .refl fan s⟩

theorem missedCrossing_yields : Yields (fun t => Frame [.fans, .log] fanFields s t ∧ OtherFans fan s t) (exec (.missedCrossing fan) s) := by
  change Yields _ (execMissedCrossing fan s)
  unfold execMissedCrossing
  dsimp only
  have hmiss (x : Fan) := (Frame.refl [.fans, .log] fanFields s).setFan (by decide) fan x
  have hmiss' (x : Fan) := (OtherFans.refl fan s).setFan x
  have hcoast (x : Fan) := (hmiss x).fanGo (by decide) (by decide) (by decide) fan .coast
  have hcoast' (x : Fan) := (hmiss' x).fanGo .coast
  split
  · exact .ite (fun _ => .next ⟨((hcoast _).then_bump (by decide) _ fan.isLt (by decide)).then_event (by decide) _ _ _ _, hcoast' _⟩)
      fun _ => .next ⟨hmiss _, hmiss' _⟩
  · exact .ite (fun _ => .next ⟨hcoast _, hcoast' _⟩) fun _ => .next ⟨hmiss _, hmiss' _⟩
  · exact .next ⟨hmiss _, hmiss' _⟩

theorem runSecond_yields : Yields (fun t => Frame [.fans, .log] fanFields s t ∧ OtherFans fan s t) (exec (.runSecond fan) s) :=
  .ite (fun _ => .next ⟨(Frame.wr _ (r := Reg.FAN_F.FAILS) (by decide) s 0 fan.isLt (by decide)).setFan (by decide) fan _,
      OtherFans.setFan (fun _ _ => rfl) _⟩) fun _ => .next ⟨.refl _ _ s, .refl fan s⟩

theorem coastTimeout_yields : Yields (fun t => Frame [.fans, .log] fanFields s t ∧ OtherFans fan s t) (exec (.coastTimeout fan) s) :=
  .ite (fun _ => .next ⟨(Frame.refl _ _ s).fanGo (by decide) (by decide) (by decide) fan .probe, (OtherFans.refl fan s).fanGo .probe⟩)
    fun _ => .next ⟨.refl _ _ s, .refl fan s⟩

theorem settleBrake_yields : Yields (fun t => Frame [.fans, .log] fanFields s t ∧ OtherFans fan s t) (exec (.settleBrake fan) s) :=
  .ite (fun _ => .next ⟨(Frame.refl _ _ s).setFan (by decide) fan _, (OtherFans.refl fan s).setFan _⟩)
    fun _ => .next ⟨.refl _ _ s, .refl fan s⟩

/-- What a fan's fault may reach. -/
abbrev FaultFrame (s t : State) : Prop :=
  Frame ([.fans, .log, .health] ++ asyncParts) (Reg.FAN_STATUS.FAULT_MASK :: Reg.HIF_ASYNC.PEND :: fanFields) s t

theorem FaultFrame.fanFault {s t : State} (k : FaultFrame s t) (fan : Fin 4) (w : Bool) : FaultFrame s (t.fanFault fan w) :=
  Frame.fanFault k (by decide) (by decide) (by decide) fan (by decide) (by decide) (by decide) (by decide) (by decide) w

theorem settleTimeout_yields : Yields (fun t => FaultFrame s t ∧ OtherFans fan s t) (exec (.settleTimeout fan) s) :=
  .ite (fun _ => .ite
      (fun _ => .next ⟨(Frame.refl _ _ s).fanGo (by decide) (by decide) (by decide) fan .probe, (OtherFans.refl fan s).fanGo .probe⟩)
      fun _ => .next ⟨FaultFrame.fanFault (.refl _ _ s) fan false, (OtherFans.refl fan s).fanFault false⟩)
    fun _ => .next ⟨.refl _ _ s, .refl fan s⟩

theorem keMeasurement_yields (ke : Nat) : Yields (FaultFrame s) (exec (.keMeasurement fan ke) s) := by
  have hstore : FaultFrame s (s.keStored fan ke) :=
    (Frame.wr _ (r := Reg.FAN_F.KE_MEAS) (by decide) s _ fan.isLt (by decide)).setFan (by decide) fan _
  have hlow : FaultFrame s (s.keLow fan ke) :=
    .ite ((hstore.then_wr (r := Reg.FAN_F.KE_LOW) (by decide) 1 fan.isLt (by decide)).then_event (by decide) _ _ _ _) hstore
  by_cases hst : s.fanSt fan = .run ∨ s.fanSt fan = .catch_
  · rw [exec_keMeasurement s fan ke hst]
    have hcaught := hlow.then_wr (r := Reg.FAN_F.DUTY) (by decide) ((s.keLow fan ke).catchDuty fan ke) fan.isLt (f := 0) (by decide)
    refine .ite (fun _ => .next (FaultFrame.fanFault ?_ fan true)) fun _ =>
      .ite (fun _ => .next (hcaught.fanGo (by decide) (by decide) (by decide) fan .catch_)) fun _ => .next hcaught
    exact (hstore.then_wr (r := Reg.FAN_F.KE_WRONG) (by decide) 1 fan.isLt (by decide)).then_event (by decide) _ _ _ _
  · exact ⟨s, if_neg hst, .refl _ _ s⟩

theorem brakeReleaseMeasure_yields (rpm : Nat) : Yields (Frame [.fans] fanFields s) (exec (.brakeReleaseMeasure fan rpm) s) := by
  have hrpm := Frame.wr [.fans] (rs := fanFields) (r := Reg.FAN_F.RPM) (by decide) s (min rpm 65535) fan.isLt (f := 0) (by decide)
  exact .ite (fun _ => .ite (fun _ => .next (hrpm.fanStart (by decide) (by decide) (by decide) fan (by decide))) fun _ => .next hrpm)
    fun _ => .next (.refl _ _ s)

theorem peakLimitTrip_yields (close : Bool) : Yields (Frame [.fans, .log] [Reg.FAN_F.STATE, Reg.FAN_F.FAILS, Reg.FAN_F.DUTY] s)
    (exec (.peakLimitTrip fan close) s) := by
  have hcut (x : Fan) := (Frame.refl [.fans, .log] [Reg.FAN_F.STATE, Reg.FAN_F.FAILS, Reg.FAN_F.DUTY] s).setFan (by decide) fan x
  exact .ite (fun _ => .next ((hcut _).fanFail (by decide) (by decide) (by decide) fan (by decide) (by decide))) fun _ => .next (hcut _)

theorem Frame.crossed (reverse inTime : Bool) (rpm : Nat) {ps : List Part} (hp : Part.fans ∈ ps) :
    Frame ps fanFields s (s.crossed fan reverse rpm inTime) :=
  ((Frame.wr ps (r := Reg.FAN_F.RPM) (by decide) s _ fan.isLt (by decide)).then_wr (by decide) _ fan.isLt (by decide)).setFan hp fan _

theorem fanRetry_yields (fn : Fn) (mask : BitVec 4) :
    Yields (Frame [.fans] [Reg.FAN_F.STATE, Reg.FAN_F.FAILS, Reg.FAN_F.DUTY] s) (exec (.fanRetry fn mask) s) := by
  by_cases hreach : s.reachable fn = true
  · rw [exec_fanRetry hreach]
    exact .next (Frame.foldl (fun s f hf => Frame.retryFan (s := s) (by simp at hf; omega)) (.refl _ _ s))
  · exact ⟨s, if_neg hreach, .refl _ _ s⟩

end

/-- Settles O60: each command is framed by the fans' parts and fields, and names one fan. -/
theorem fanFrame : Obligations.FanFrame := by
  intro s t fan
  have hattempt (c : Instr) (hc : c ∈ [Instr.probeWindowEnd fan, .rampEnd fan, .locateTimeout fan, .missedCrossing fan, .runSecond fan,
      .coastTimeout fan, .settleBrake fan]) : Yields (fun t => Frame [.fans, .log] fanFields s t ∧ OtherFans fan s t) (exec c s) := by
    simp only [List.mem_cons, List.not_mem_nil, or_false] at hc
    rcases hc with rfl | rfl | rfl | rfl | rfl | rfl | rfl
    · exact probeWindowEnd_yields s fan
    · exact attemptEnd_yields s fan (.inl rfl)
    · exact attemptEnd_yields s fan (.inr rfl)
    · exact missedCrossing_yields s fan
    · exact runSecond_yields s fan
    · exact coastTimeout_yields s fan
    · exact settleBrake_yields s fan
  refine ⟨fun c hc h => ((hattempt c hc).of_next h).1, fun rpm h => (brakeReleaseMeasure_yields s fan rpm).of_next h,
    fun close h => (peakLimitTrip_yields s fan close).of_next h, fun reverse rpm inTime h => ?_,
    fun fn mask h => (fanRetry_yields s fn mask).of_next h, fun h => ?_, fun g hg c hc h => ?_⟩
  · obtain ⟨hframe, _⟩ := (bemfCrossing_yields s fan reverse inTime rpm).of_next h
    exact ((Frame.crossed s fan reverse inTime rpm (by decide)).mono (List.Subset.refl _) (by decide)).trans
      (hframe.mono (List.Subset.refl _) (by decide))
  · rcases h with h | ⟨ke, h⟩
    · exact ((settleTimeout_yields s fan).of_next h).1
    · exact (keMeasurement_yields s fan ke).of_next h
  · by_cases hlast : c = .settleTimeout fan
    · subst hlast
      exact ((settleTimeout_yields s fan).of_next h).2 g hg
    · refine ((hattempt c ?_).of_next h).2 g hg
      simp only [List.mem_cons, List.not_mem_nil, or_false] at hc ⊢
      tauto

end Sys2Proof.Machine
end

section
/-! PROOFS. Every step: the invariant (O3) and what no command does (O4). -/

set_option Elab.async false

namespace Sys2Proof.Machine

/-! ### What a step of each command keeps, in the terms of the statement -/

def isFrameBoundary (c : Instr) : Bool := c matches .frameBoundary ..

def isDllAck (c : Instr) : Bool := c matches .dllAck ..

def isBar4Write (c : Instr) : Bool := c matches .bar4Write ..

structure Allowed (c : Instr) (s t : State) : Prop extends Follows s t where
  frame : t.frame = s.frame ∨ (isFrameBoundary c = true ∧ t.frame = s.frame + 1)
  mem : t.mem = s.mem ∨ t.mem = [] ∨ isBar4Write c = true
  kept : if isDllAck c then t.recon.Sublist s.recon else s.recon <+: t.recon

theorem Yields.allowed {c : Instr} {s : State} {o : Host.Outcome State Fault Refusal} (h : Yields (Ruled s) o) (hc : isDllAck c = false) :
    Yields (Allowed c s) o :=
  h.imp fun _ h => { h with frame := .inl h.frame, mem := h.mem.imp_right .inl, kept := by rw [hc]; exact h.kept }

theorem Ticked.allowed {i : FrameIn} {s t : State} (h : Ticked s t) : Allowed (.frameBoundary i) s t :=
  { h with frame := h.frame.imp_right fun e => ⟨rfl, e⟩, mem := .inl h.mem }

theorem Released.allowed {x : CtxNo} {s t : State} (h : Released s t) : Allowed (.dllAck x) s t :=
  { h with frame := .inl h.frame, mem := .inl h.mem }

theorem Stored4.allowed {f : Fn} {r : BitVec 16} {n : Nat} {l : List Byte} {s t : State} (h : Stored4 s t) : Allowed (.bar4Write f r n l) s t :=
  { h with frame := .inl h.frame, mem := .inr (.inr rfl) }

theorem exec_allowed (c : Instr) (s : State) : Yields (Allowed c s) (exec c s) :=
  match c with
  | .vinRise .. => (execVinRise_ruled ..).allowed rfl
  | .powerGood => (execPowerGood_steady ..).ruled.allowed rfl
  | .powerGoodTimeout => (execPowerGoodTimeout_steady ..).ruled.allowed rfl
  | .railSequenceRetry => (execRailSequenceRetry_steady ..).ruled.allowed rfl
  | .brownOut .. => (execBrownOut_steady ..).ruled.allowed rfl
  | .overvoltage .. => (execOvervoltage_steady ..).ruled.allowed rfl
  | .bankSwitchover => (execBankSwitchover_steady ..).ruled.allowed rfl
  | .drainEnd => (execDrainEnd_ruled ..).allowed rfl
  | .vbankCutoff .. => (execVbankCutoff_ruled ..).allowed rfl
  | .bleedDischargeEnd .. => (execBleedDischargeEnd_steady ..).ruled.allowed rfl
  | .vbankOvervoltage .. => (execVbankOvervoltage_steady ..).ruled.allowed rfl
  | .vbankOvRecover .. => (execVbankOvRecover_steady ..).ruled.allowed rfl
  | .chargeTargetReached .. => (execChargeTargetReached_steady ..).ruled.allowed rfl
  | .capMeasHourly => (execCapMeasHourly_steady ..).ruled.allowed rfl
  | .vbankDropDetected .. => (execVbankDropDetected_steady ..).ruled.allowed rfl
  | .measNow => (execMeasNow_steady ..).ruled.allowed rfl
  | .measBleedClose => (execMeasBleedClose_steady ..).ruled.allowed rfl
  | .measBleedOpen .. => (execMeasBleedOpen_steady ..).ruled.allowed rfl
  | .measCountStart .. => (execMeasCountStart_steady ..).ruled.allowed rfl
  | .measComplete .. => (execMeasComplete_steady ..).ruled.allowed rfl
  | .perstAssert .. => (execPerstAssert_steady ..).ruled.allowed rfl
  | .perstDeassert .. => (execPerstDeassert_ruled ..).allowed rfl
  | .hotReset .. => (execHotReset_steady ..).ruled.allowed rfl
  | .linkDown .. => (execLinkDown_steady ..).ruled.allowed rfl
  | .flr .. => (execFlr_steady ..).ruled.allowed rfl
  | .resetEnd .. => (execResetEnd_steady ..).ruled.allowed rfl
  | .watchdogRestart => (execWatchdogRestart_steady ..).ruled.allowed rfl
  | .coldReq .. => (execColdReq_steady ..).ruled.allowed rfl
  | .lockstepMismatch .. => (execLockstepMismatch_steady ..).ruled.allowed rfl
  | .lockstepTakeoverDone => (execLockstepTakeoverDone_steady ..).ruled.allowed rfl
  | .channelEngineStall .. => (execChannelEngineStall_steady ..).ruled.allowed rfl
  | .channelRestart .. => (execChannelRestart_steady ..).ruled.allowed rfl
  | .coreDiodeSample .. => (execCoreDiodeSample_ruled ..).allowed rfl
  | .boardSensorSample .. => (execBoardSensorSample_steady ..).ruled.allowed rfl
  | .tripCooldown .. => (execTripCooldown_ruled ..).allowed rfl
  | .orderlyStopComplete => (execOrderlyStopComplete_steady ..).ruled.allowed rfl
  | .orderlyStopEnd => (execOrderlyStopEnd_steady ..).ruled.allowed rfl
  | .bootCodeLoaded => (execBootCodeLoaded_steady ..).ruled.allowed rfl
  | .firmwareSlotCheck .. => (execFirmwareSlotCheck_steady ..).ruled.allowed rfl
  | .rootKeyDerivation .. => (execRootKeyDerivation_ruled ..).allowed rfl
  | .hostInterfaceStart => (execHostInterfaceStart_steady ..).ruled.allowed rfl
  | .journalReplay => (execJournalReplay_ruled ..).allowed rfl
  | .bloomEntry => (execBloomEntry_steady ..).ruled.allowed rfl
  | .pourEntry => (execPourEntry_steady ..).ruled.allowed rfl
  | .bloomBoundMissed => (execBloomBoundMissed_steady ..).ruled.allowed rfl
  | .configRequest .. => (execConfigRequest_steady ..).ruled.allowed rfl
  | .pmcsrWrite .. => (execPmcsrWrite_steady ..).ruled.allowed rfl
  | .bar4Write .. => (execBar4Write_stored4 ..).imp fun _ h => h.allowed
  | .bar4Read .. => (execBar4Read_steady ..).ruled.allowed rfl
  | .bar0MalformedAccess .. => (execBar0MalformedAccess_steady ..).ruled.allowed rfl
  | .registerWrite .. => (execRegisterWrite_steady ..).ruled.allowed rfl
  | .lowRegisterRead .. => (execLowRegisterRead_steady ..).ruled.allowed rfl
  | .msixUnmask .. => (execMsixUnmask_steady ..).ruled.allowed rfl
  | .coalesceTimer .. => (execCoalesceTimer_steady ..).ruled.allowed rfl
  | .sqTailDoorbell .. => (execSqTailDoorbell_steady ..).ruled.allowed rfl
  | .cqHeadDoorbell .. => (execCqHeadDoorbell_steady ..).ruled.allowed rfl
  | .completionTlp .. => (execCompletionTlp_steady ..).ruled.allowed rfl
  | .completionTimeout .. => (execCompletionTimeout_steady ..).ruled.allowed rfl
  | .tagQuarantineEnd .. => (execTagQuarantineEnd_steady ..).ruled.allowed rfl
  | .dllAck .. => (execDllAck_released ..).imp fun _ h => h.allowed
  | .clkreqAssert .. => (execClkreqAssert_steady ..).ruled.allowed rfl
  | .electricalIdleExit .. => (execElectricalIdleExit_steady ..).ruled.allowed rfl
  | .aspmL1Entry .. => (execAspmL1Entry_steady ..).ruled.allowed rfl
  | .pmeTurnOff .. => (execPmeTurnOff_steady ..).ruled.allowed rfl
  | .windowCommit .. => (execWindowCommit_steady ..).ruled.allowed rfl
  | .epochRetire => (execEpochRetire_steady ..).ruled.allowed rfl
  | .adminEnable .. => (execAdminEnable_steady ..).ruled.allowed rfl
  | .adminDisable .. => (execAdminDisable_steady ..).ruled.allowed rfl
  | .fetchIssue .. => (execFetchIssue_steady ..).ruled.allowed rfl
  | .fetchComplete .. => (execFetchComplete_steady ..).ruled.allowed rfl
  | .hostRead .. => (execHostRead_steady ..).ruled.allowed rfl
  | .hostWrite .. => (execHostWrite_steady ..).ruled.allowed rfl
  | .flush .. => (execFlush_steady ..).ruled.allowed rfl
  | .trim .. => (execTrim_steady ..).ruled.allowed rfl
  | .writeZeroes .. => (execWriteZeroes_steady ..).ruled.allowed rfl
  | .verify ctx tag => (execVerify_steady ctx tag s).ruled.allowed rfl
  | .identify .. => (execIdentify_steady ..).ruled.allowed rfl
  | .getLog .. => (execGetLog_steady ..).ruled.allowed rfl
  | .setFeature .. => (execSetFeature_steady ..).ruled.allowed rfl
  | .getFeature .. => (execGetFeature_steady ..).ruled.allowed rfl
  | .ringCreate .. => (execRingCreate_steady ..).ruled.allowed rfl
  | .ringDelete .. => (execRingDelete_steady ..).ruled.allowed rfl
  | .ringReset .. => (execRingReset_steady ..).ruled.allowed rfl
  | .powerState .. => (execPowerState_steady ..).ruled.allowed rfl
  | .fwDownload .. => (execFwDownload_steady ..).ruled.allowed rfl
  | .fwActivate .. => (execFwActivate_steady ..).ruled.allowed rfl
  | .keyLoad .. => (execKeyLoad_steady ..).ruled.allowed rfl
  | .keyRoll .. => (execKeyRoll_steady ..).ruled.allowed rfl
  | .keyPurge .. => (execKeyPurge_steady ..).ruled.allowed rfl
  | .groupJoin .. => (execGroupJoin_steady ..).ruled.allowed rfl
  | .groupLeave .. => (execGroupLeave_steady ..).ruled.allowed rfl
  | .groupStatus .. => (execGroupStatus_steady ..).ruled.allowed rfl
  | .rawRead .. => (execRawRead_steady ..).ruled.allowed rfl
  | .rawProgram .. => (execRawProgram_steady ..).ruled.allowed rfl
  | .rawErase .. => (execRawErase_steady ..).ruled.allowed rfl
  | .ucodeLoad .. => (execUcodeLoad_steady ..).ruled.allowed rfl
  | .diagEcho .. => (execDiagEcho_steady ..).ruled.allowed rfl
  | .diagDmaLoop .. => (execDiagDmaLoop_steady ..).ruled.allowed rfl
  | .mirrorWriteDone .. => (execMirrorWriteDone_steady ..).ruled.allowed rfl
  | .journalBatchDurable => (execJournalBatchDurable_steady ..).ruled.allowed rfl
  | .groupWaitExpiry .. => (execGroupWaitExpiry_steady ..).ruled.allowed rfl
  | .completionWrite .. => (execCompletionWrite_steady ..).ruled.allowed rfl
  | .readSnapshot .. => (execReadSnapshot_steady ..).ruled.allowed rfl
  | .readDataDone .. => (execReadDataDone_steady ..).ruled.allowed rfl
  | .flushComplete .. => (execFlushComplete_steady ..).ruled.allowed rfl
  | .rangeApply .. => (execRangeApply_steady ..).ruled.allowed rfl
  | .frameBoundary .. => (execFrameBoundary_ticked ..).imp fun _ h => h.allowed
  | .planCutoff .. => (execPlanCutoff_steady ..).ruled.allowed rfl
  | .carriedLoadSuspend => (execCarriedLoadSuspend_steady ..).ruled.allowed rfl
  | .domainClockGate .. => (execDomainClockGate_steady ..).ruled.allowed rfl
  | .domainPowerGate .. => (execDomainPowerGate_steady ..).ruled.allowed rfl
  | .channelInitDone .. => (execChannelInitDone_steady ..).ruled.allowed rfl
  | .zqShortCal .. => (execZqShortCal_steady ..).ruled.allowed rfl
  | .channelRetrainStart .. => (execChannelRetrainStart_steady ..).ruled.allowed rfl
  | .channelRetrainDone .. => (execChannelRetrainDone_steady ..).ruled.allowed rfl
  | .busPhaseStop .. => (execBusPhaseStop_steady ..).ruled.allowed rfl
  | .lunReady .. => (execLunReady_steady ..).ruled.allowed rfl
  | .timedWaitEnd .. => (execTimedWaitEnd_steady ..).ruled.allowed rfl
  | .suspendIssue .. => (execSuspendIssue_steady ..).ruled.allowed rfl
  | .suspendHoldExpiry .. => (execSuspendHoldExpiry_steady ..).ruled.allowed rfl
  | .resumeIssue .. => (execResumeIssue_steady ..).ruled.allowed rfl
  | .ucodeStoreSwap => (execUcodeStoreSwap_steady ..).ruled.allowed rfl
  | .ucodeTablesActive => (execUcodeTablesActive_steady ..).ruled.allowed rfl
  | .hardDecodeDone .. => (execHardDecodeDone_steady ..).ruled.allowed rfl
  | .softDecodeDone .. => (execSoftDecodeDone_steady ..).ruled.allowed rfl
  | .rowRebuildDone .. => (execRowRebuildDone_steady ..).ruled.allowed rfl
  | .nandTempRead .. => (execNandTempRead_steady ..).ruled.allowed rfl
  | .checkpointAdvance => (execCheckpointAdvance_steady ..).ruled.allowed rfl
  | .journalUrgent => (execJournalUrgent_steady ..).ruled.allowed rfl
  | .journalFull => (execJournalFull_steady ..).ruled.allowed rfl
  | .freeBandStateChange => (execFreeBandStateChange_steady ..).ruled.allowed rfl
  | .gcEraseStart .. => (execGcEraseStart_steady ..).ruled.allowed rfl
  | .wearLevelStart => (execWearLevelStart_steady ..).ruled.allowed rfl
  | .gradeRecompute => (execGradeRecompute_steady ..).ruled.allowed rfl
  | .beaconSend => (execBeaconSend_steady ..).ruled.allowed rfl
  | .beaconReceived .. => (execBeaconReceived_steady ..).ruled.allowed rfl
  | .hello .. => (execHello_steady ..).ruled.allowed rfl
  | .challenge .. => (execChallenge_steady ..).ruled.allowed rfl
  | .confirm .. => (execConfirm_steady ..).ruled.allowed rfl
  | .handshakeTimeout .. => (execHandshakeTimeout_steady ..).ruled.allowed rfl
  | .handshakeRetry .. => (execHandshakeRetry_steady ..).ruled.allowed rfl
  | .peerAbsent .. => (execPeerAbsent_steady ..).ruled.allowed rfl
  | .heartbeatSend => (execHeartbeatSend_steady ..).ruled.allowed rfl
  | .heartbeat .. => (execHeartbeat_steady ..).ruled.allowed rfl
  | .viewPropose .. => (execViewPropose_steady ..).ruled.allowed rfl
  | .viewAck .. => (execViewAck_steady ..).ruled.allowed rfl
  | .viewCommit .. => (execViewCommit_steady ..).ruled.allowed rfl
  | .leaveRequest .. => (execLeaveRequest_steady ..).ruled.allowed rfl
  | .grantExpiry => (execGrantExpiry_steady ..).ruled.allowed rfl
  | .proposalRetry => (execProposalRetry_steady ..).ruled.allowed rfl
  | .stewardLeaseExpiry => (execStewardLeaseExpiry_steady ..).ruled.allowed rfl
  | .isolationTimeout => (execIsolationTimeout_steady ..).ruled.allowed rfl
  | .stripeOpenIssue => (execStripeOpenIssue_steady ..).ruled.allowed rfl
  | .stripeOpen .. => (execStripeOpen_steady ..).ruled.allowed rfl
  | .contrib .. => (execContrib_steady ..).ruled.allowed rfl
  | .contribAck .. => (execContribAck_steady ..).ruled.allowed rfl
  | .rangeNote .. => (execRangeNote_steady ..).ruled.allowed rfl
  | .segClose .. => (execSegClose_steady ..).ruled.allowed rfl
  | .sealWaitExpiry .. => (execSealWaitExpiry_steady ..).ruled.allowed rfl
  | .stripeState .. => (execStripeState_steady ..).ruled.allowed rfl
  | .rebuildPlan .. => (execRebuildPlan_steady ..).ruled.allowed rfl
  | .chunkDone .. => (execChunkDone_steady ..).ruled.allowed rfl
  | .checkpoint .. => (execCheckpoint_steady ..).ruled.allowed rfl
  | .checkpointTimer => (execCheckpointTimer_steady ..).ruled.allowed rfl
  | .ledgerSync .. => (execLedgerSync_steady ..).ruled.allowed rfl
  | .outerRead .. => (execOuterRead_steady ..).ruled.allowed rfl
  | .patrolRequest .. => (execPatrolRequest_steady ..).ruled.allowed rfl
  | .patrolReply .. => (execPatrolReply_steady ..).ruled.allowed rfl
  | .patrolReplyTimeout => (execPatrolReplyTimeout_steady ..).ruled.allowed rfl
  | .dramTrainingAdopted .. => (execDramTrainingAdopted_steady ..).ruled.allowed rfl
  | .marginCheckStart => (execMarginCheckStart_steady ..).ruled.allowed rfl
  | .dramRefresh .. => (execDramRefresh_steady ..).ruled.allowed rfl
  | .rowIdleClose .. => (execRowIdleClose_steady ..).ruled.allowed rfl
  | .requestAgePromotion .. => (execRequestAgePromotion_steady ..).ruled.allowed rfl
  | .dramLineRead .. => (execDramLineRead_steady ..).ruled.allowed rfl
  | .partialLineWrite .. => (execPartialLineWrite_steady ..).ruled.allowed rfl
  | .scrubRewrite .. => (execScrubRewrite_steady ..).ruled.allowed rfl
  | .bufferAllocate .. => (execBufferAllocate_steady ..).ruled.allowed rfl
  | .bufferShare .. => (execBufferShare_steady ..).ruled.allowed rfl
  | .bufferRelease .. => (execBufferRelease_steady ..).ruled.allowed rfl
  | .thiSearch .. => (execThiSearch_steady ..).ruled.allowed rfl
  | .searchAdd .. => (execSearchAdd_steady ..).ruled.allowed rfl
  | .insertAny .. => (execInsertAny_steady ..).ruled.allowed rfl
  | .insertOrdered .. => (execInsertOrdered_steady ..).ruled.allowed rfl
  | .thiDelete .. => (execThiDelete_steady ..).ruled.allowed rfl
  | .deleteMatch .. => (execDeleteMatch_steady ..).ruled.allowed rfl
  | .writeData .. => (execWriteData_steady ..).ruled.allowed rfl
  | .thiRead .. => (execThiRead_steady ..).ruled.allowed rfl
  | .compactionStep .. => (execCompactionStep_steady ..).ruled.allowed rfl
  | .thiRdAddr .. => (execThiRdAddr_steady ..).ruled.allowed rfl
  | .keySweepEnd => (execKeySweepEnd_steady ..).ruled.allowed rfl
  | .keyPurgeComplete => (execKeyPurgeComplete_steady ..).ruled.allowed rfl
  | .debugChallenge => (execDebugChallenge_steady ..).ruled.allowed rfl
  | .debugSubmit .. => (execDebugSubmit_steady ..).ruled.allowed rfl
  | .bootStoreWriteDone => (execBootStoreWriteDone_steady ..).ruled.allowed rfl
  | .activationDrainEnd => (execActivationDrainEnd_steady ..).ruled.allowed rfl
  | .firmwareResume => (execFirmwareResume_steady ..).ruled.allowed rfl
  | .lockAll => (execLockAll_steady ..).ruled.allowed rfl
  | .rawEn .. => (execRawEn_steady ..).ruled.allowed rfl
  | .idleDetected => (execIdleDetected_steady ..).ruled.allowed rfl
  | .prepareEnd => (execPrepareEnd_steady ..).ruled.allowed rfl
  | .domainAnswer .. => (execDomainAnswer_steady ..).ruled.allowed rfl
  | .askTimeout => (execAskTimeout_steady ..).ruled.allowed rfl
  | .quiesceEnd => (execQuiesceEnd_steady ..).ruled.allowed rfl
  | .railAck .. => (execRailAck_steady ..).ruled.allowed rfl
  | .railTimeout .. => (execRailTimeout_steady ..).ruled.allowed rfl
  | .railRaiseRetry .. => (execRailRaiseRetry_steady ..).ruled.allowed rfl
  | .powerCommit => (execPowerCommit_steady ..).ruled.allowed rfl
  | .commitWakeSample => (execCommitWakeSample_steady ..).ruled.allowed rfl
  | .exitComplete => (execExitComplete_steady ..).ruled.allowed rfl
  | .entryRetry => (execEntryRetry_steady ..).ruled.allowed rfl
  | .bemfCrossing .. => (execBemfCrossing_steady ..).ruled.allowed rfl
  | .missedCrossing .. => (execMissedCrossing_steady ..).ruled.allowed rfl
  | .probeWindowEnd .. => (execProbeWindowEnd_steady ..).ruled.allowed rfl
  | .brakeReleaseMeasure .. => (execBrakeReleaseMeasure_steady ..).ruled.allowed rfl
  | .peakLimitTrip .. => (execPeakLimitTrip_steady ..).ruled.allowed rfl
  | .rampEnd .. => (execRampEnd_steady ..).ruled.allowed rfl
  | .locateTimeout .. => (execLocateTimeout_steady ..).ruled.allowed rfl
  | .runSecond .. => (execRunSecond_steady ..).ruled.allowed rfl
  | .coastTimeout .. => (execCoastTimeout_steady ..).ruled.allowed rfl
  | .settleTimeout .. => (execSettleTimeout_steady ..).ruled.allowed rfl
  | .settleBrake .. => (execSettleBrake_steady ..).ruled.allowed rfl
  | .keMeasurement .. => (execKeMeasurement_steady ..).ruled.allowed rfl
  | .fanRetry .. => (execFanRetry_steady ..).ruled.allowed rfl
  | .smbusBlockRead .. => (execSmbusBlockRead_steady ..).ruled.allowed rfl
  | .smbusRefused => (execSmbusRefused_steady ..).ruled.allowed rfl
  | .smbusTimeout => (execSmbusTimeout_steady ..).ruled.allowed rfl
  | .sidebandRefresh => (execSidebandRefresh_steady ..).ruled.allowed rfl
  | .linkUp .. => (execLinkUp_steady ..).ruled.allowed rfl
  | .l0pWidthChange .. => (execL0pWidthChange_steady ..).ruled.allowed rfl
  | .pouloSupplyLost .. => (execPouloSupplyLost_ruled ..).allowed rfl
  | .padMessage .. => (execPadMessage_steady ..).ruled.allowed rfl

/-! ### A step -/

/-- A step follows from the state with the queue's rest, by the command at its front. -/
theorem step_allowed {s t : State} {c : Instr} {rest : List Instr} (hp : s.pending = c :: rest) (h : step s = .next t) :
    Allowed c { s with pending := rest } t := by
  unfold step at h
  rw [hp] at h
  exact (exec_allowed c _).of_next h

theorem step_of_idle {s t : State} (hp : s.pending = []) (h : step s = .next t) : t = s := by
  unfold step at h
  rw [hp] at h
  exact (Host.Outcome.next.inj h).symm

theorem State.steps (s : State) : s.Live := by
  unfold State.Live step
  split
  · exact ⟨s, rfl⟩
  · next c rest _ =>
    obtain ⟨t, ht, -⟩ := exec_allowed c { s with pending := rest }
    exact ⟨t, ht⟩

theorem step_inv {s t : State} (i : s.Inv) (h : step s = .next t) : t.Inv := by
  cases hp : s.pending with
  | nil => exact step_of_idle hp h ▸ i
  | cons c rest => exact (step_allowed hp h).inv { i with }

/-- Settles O3: every command keeps the invariant, most of them because what they do is steady. -/
theorem invariantKept : Obligations.InvariantKept := fun _ _ => step_inv

/-- Settles O4: the rules hold of every command; only the exceptions it names need more than that the command is steady. -/
theorem stepRules : Obligations.StepRules := by
  refine ⟨State.steps, fun s t h => ?_⟩
  cases hp : s.pending with
  | nil =>
    obtain rfl := step_of_idle hp h
    have hlog : LogAdds t t := ⟨[], rfl, id, rfl⟩
    exact ⟨by rw [hp]; rfl, by simp, .inl rfl, Nat.le_refl _, fun i => hlog.events_eq i.log, Nat.le_refl _, Nat.le_refl _, by simp,
      fun r hr => .inl hr, rfl, Nat.le_refl _, Nat.le_refl _, List.suffix_refl _, .inl rfl⟩
  | cons c rest =>
    have a := step_allowed hp h
    refine ⟨a.pending, ?_, a.frame.imp_right And.right, ?_, fun i => a.log.events_eq i.log, a.reconSeq, a.lostSeq, ?_, a.recon, a.board,
      a.fused, a.free, a.out, ?_⟩
    · change t.frame = if isFrameBoundary c then t.frame else s.frame
      split
      · rfl
      · next hc => exact a.frame.resolve_right fun e => hc e.1
    · obtain ⟨l, -, -, hl⟩ := a.log
      exact hl ▸ Nat.le_add_right ..
    · exact a.kept
    · exact a.mem

end Sys2Proof.Machine
end

section
/-! PROOFS. Supplies and the hold-up bank (R59 to R82): the rail sequence, a drain's beginning and end, and the bank's measurements (O6 to O9). -/

set_option Elab.async false

namespace Sys2Proof.Machine

/-! ### Cold starts (R62, R80, R101) -/

section
variable (s : State)

/-- The supply block a cold start begins with; only the measurement is chosen after. -/
def State.startSup : Supply :=
  { s.coldKeep.sup with operating := true, steps := 1, goods := 0, attempts := 1, orGate := true, vinAt := s.frame, discharging := false,
                        boPending := false }

theorem State.measBleed_sup : s.measBleed.sup = { s.sup with meas := .lowering, measDue := false } :=
  (State.refreshCeiling_keeps _).same .supply

theorem State.measIfDue_sup : ∃ m d, s.measIfDue.sup = { s.sup with meas := m, measDue := d } := by
  unfold State.measIfDue
  split
  · exact ⟨_, _, s.measBleed_sup⟩
  · exact ⟨_, _, rfl⟩

/-- A cold start writes registers and chooses a measurement; the rest is what a cold reset keeps. -/
theorem State.coldStart_keeps : Keeps [.supply, .log, .health, .ftl] [Reg.HUP_BO_CFG.FALL, Reg.HUP_BO_CFG.RISE, Reg.HUP_STATUS.BUS_CLASS,
    Reg.SBD_STATUS.ADDR, Reg.HIF_EP_LINK.PORT_MODE, Reg.HUP_STATUS.VIN_OK, Reg.HUP_STATUS.BO_SEEN, Reg.HUP_STATUS.CHARGING,
    Reg.HUP_STATUS.MEAS_BUSY, Reg.FRM_CEILING.CEIL_MIB, Reg.FRM_CEILING.SOURCE, Reg.FRM_JPB.MODEL] s.coldKeep s.coldStart :=
  .ite_on (.wr (.setSup (.refl ..))) (.andThen (.setSup (.refl ..)) (State.measIfDue_keeps ..))
    (.count (.andThen (.wr (.wr (.wr (.wr (.wr (.wr (.wr (.wr (.setSup (.refl ..))))))))) ) (State.recharge_keeps ..)))

theorem State.coldStart_sup : ∃ m d, s.coldStart.sup = { s.startSup with meas := m, measDue := d } := by
  unfold State.coldStart
  dsimp only
  split
  · exact ⟨_, _, rfl⟩
  · obtain ⟨m, d, h⟩ := State.measIfDue_sup (State.setSup _ _)
    exact ⟨m, d, h⟩

theorem State.coldStart_same (p : Part)
    (hp : p ∈ [Part.frame, .board, .reconcile, .lostStripes, .flash, .buses, .freeValues, .queue]) : p.same s s.coldStart := by
  have k := s.coldStart_keeps
  simp only [List.mem_cons, List.not_mem_nil, or_false] at hp
  obtain rfl | rfl | rfl | rfl | rfl | rfl | rfl | rfl := hp
  · exact k.same .frame
  · exact k.same .board
  · exact k.same .reconcile
  · exact k.same .lostStripes
  · exact k.same .flash
  · exact k.same .buses
  · exact k.same .freeValues
  · exact k.same .queue

end

/-! ### The rail sequence (R62) -/

/-- Settles O6: each command of the sequence rewrites the supply block alone; VIN_RISE runs a cold start. -/
theorem railSequence : Obligations.RailSequence := by
  intro s
  refine ⟨fun vin h1 h2 hup hd ht ho => ?_, fun hs hw hg => ?_, fun hs hw hg => ?_, fun hs hw => ?_, fun h1 h2 h3 => ?_⟩
  · have hrun : exec (.vinRise vin) s = .next (s.setSup { s.sup with vin := vin }).coldStart := by
      change execVinRise vin s = _
      simp [execVinRise, h1, h2, hup, hd, ht, ho, ok]
    obtain ⟨m, d, h⟩ := (s.setSup { s.sup with vin := vin }).coldStart_sup
    refine ⟨_, hrun, ?_⟩
    rw [h]
    refine ⟨rfl, rfl, rfl, rfl, rfl, rfl, rfl, fun p hp => ?_⟩
    have := (s.setSup { s.sup with vin := vin }).coldStart_same p hp
    simp only [List.mem_cons, List.not_mem_nil, or_false] at hp
    obtain rfl | rfl | rfl | rfl | rfl | rfl | rfl | rfl := hp <;> exact this
  · have hrun : exec .powerGood s = .next (s.setSup { s.sup with goods := s.sup.goods + 1, steps := railStep (s.sup.goods + 1) }) := by
      change execPowerGood s = _
      simp [execPowerGood, hs, hw, ok]
      omega
    refine ⟨_, hrun, rfl, rfl, ?_, .setSup (.refl ..) (by decide) _⟩
    simp only [State.sequencing, Bool.and_eq_true, Bool.not_eq_true'] at hs
    exact hs.1.1.2
  · have hrun : exec .powerGood s = .next (s.setSup { s.sup with goods := 6, steps := 5, coreUp := true }) := by
      change execPowerGood s = _
      simp [execPowerGood, hs, hw, ok, State.setSup]
      omega
    exact ⟨_, hrun, rfl, rfl, .setSup (.refl ..) (by decide) _⟩
  · rcases Nat.lt_or_ge s.sup.attempts 3 with h | h
    · have hrun : exec .powerGoodTimeout s = .next (s.setSup { s.sup with steps := 0, goods := 0, retryWait := true }) := by
        change execPowerGoodTimeout s = _
        simp [execPowerGoodTimeout, hs, hw, ok, Nat.not_le.2 h]
      exact ⟨_, hrun, rfl, rfl, fun _ => ⟨rfl, rfl⟩, fun h' => absurd h (Nat.not_lt.2 h'), .setSup (.refl ..) (by decide) _⟩
    · have hrun : exec .powerGoodTimeout s = .next (s.setSup { s.sup with steps := 0, goods := 0, railsFailed := true }) := by
        change execPowerGoodTimeout s = _
        simp [execPowerGoodTimeout, hs, hw, ok, h]
      exact ⟨_, hrun, rfl, rfl, fun h' => absurd h' (Nat.not_lt.2 h), fun _ => ⟨rfl, hw⟩, .setSup (.refl ..) (by decide) _⟩
  · have hrun : exec .railSequenceRetry s = .next
        (s.setSup { s.sup with retryWait := false, steps := 1, goods := 0, attempts := s.sup.attempts + 1 }) :=
      if_pos (by simp [h1, h2, h3])
    exact ⟨_, hrun, rfl, rfl, rfl, rfl, .setSup (.refl ..) (by decide) _⟩

/-! ### The trigger moment (R79, R80) -/

section
variable (s : State)

theorem State.measAbort_sup : ∃ m d, s.measAbort.sup = { s.sup with meas := m, measDue := d } := by
  unfold State.measAbort
  split <;> exact ⟨_, _, rfl⟩

theorem State.measAbort_meas : s.measAbort.sup.meas = .idle := by
  unfold State.measAbort
  split
  · assumption
  · rfl
  · rfl
  · rfl
  · rfl
  · rfl

/-- The state of a triggered drain before the blocks that act at once see a loss of VIN. -/
def State.halted (s : State) (k : DrainKind) : State :=
  let s0 := s.setSup { s.sup with drain := k, drainFrom := s.sup.vbank, drainBytes := s.dirty, drainWork := !k.bank }
  let s1 := ((s0.trigger [0, 1] .cold).cutJournal.measAbort.wr Reg.HUP_STATUS.CHARGING 0).wr Reg.FRM_STATUS.MODE 1
  ({ s1 with sched := { s1.sched with plan := [], made := false } } : State).powerDrain

theorem State.coldTrigger_of_bank {k : DrainKind} (h : k.bank = true) : s.coldTrigger k =
    ({ (s.halted k).count 0x010 4 with sup := { (s.halted k).sup with boPending := true } } : State).brownSignal (decide (k = .overvoltage)) :=
  if_pos h

theorem State.halted_sup (k : DrainKind) : ∃ m d, (s.halted k).sup =
    { s.sup with drain := k, drainFrom := s.sup.vbank, drainBytes := s.dirty, drainWork := !k.bank, meas := m, measDue := d } := by
  unfold State.halted
  dsimp only
  generalize hs0 : s.setSup _ = s0
  obtain ⟨m, d, h⟩ := (s0.trigger [0, 1] .cold).cutJournal.measAbort_sup
  refine ⟨m, d, ((State.powerDrain_keeps _).same .supply).trans (h.trans ?_)⟩
  rw [((State.cutJournal_keeps _).same .supply).trans ((s0.trigger_keeps [0, 1] .cold).same .supply), ← hs0]
  rfl

theorem State.halted_charging (k : DrainKind) : (s.halted k).rd Reg.HUP_STATUS.CHARGING = 0 := by
  unfold State.halted
  extract_lets q s0 s1
  refine ((State.powerDrain_keeps _).rd_eq (q := Reg.HUP_STATUS.CHARGING) (by decide) 0 0).trans ?_
  change s1.rd Reg.HUP_STATUS.CHARGING = 0
  exact (State.rd_wr_apart _ _ _ _ _ _ _ _ (by decide)).trans (State.rd_wr_same ..)

theorem State.halted_journal (k : DrainKind) :
    (s.halted k).ftl.journal.collecting = [] ∧ (s.halted k).ftl.journal.flight = none := by
  unfold State.halted
  dsimp only
  generalize (s.setSup _).trigger [0, 1] .cold = u
  have h : u.cutJournal.measAbort.ftl = u.cutFtl := (u.cutJournal.measAbort_keeps.same .ftl).trans (u.cutJournal_flash.same .ftl)
  rw [(State.powerDrain_keeps _).same .ftl]
  exact ⟨congrArg (·.journal.collecting) h, congrArg (·.journal.flight) h⟩

theorem State.brownSignal_sup (o : Bool) : (s.brownSignal o).sup = { s.sup with orGate := false } := by
  have k : Keeps [.fans] [Reg.FAN_F.STATE, Reg.FAN_F.DUTY, Reg.CHN_ENG_STATUS.BO_MODE] s (s.fansOff.boMode true) :=
    .andThen (.mono s.fansOff_keeps) (State.boMode_keeps ..)
  have h : (s.fansOff.boMode true).sup = s.sup := k.same .supply
  rw [← h]
  cases o <;> rfl

theorem State.brownSignal_vinOk (o : Bool) : (s.brownSignal o).rd Reg.HUP_STATUS.VIN_OK = 0 := by
  cases o with
  | false => exact State.rd_wr_same (s.fansOff.boMode true) Reg.HUP_STATUS.VIN_OK 0 0 0
  | true =>
    exact (State.rd_wr_apart ((s.fansOff.boMode true).wr Reg.HUP_STATUS.VIN_OK 0) Reg.HUP_STATUS.OV_EVENT Reg.HUP_STATUS.VIN_OK 1 0 0 0 0
      (by decide)).trans (State.rd_wr_same ..)

theorem State.brownSignal_ovEvent : (s.brownSignal true).rd Reg.HUP_STATUS.OV_EVENT = 1 :=
  State.rd_wr_same ((s.fansOff.boMode true).wr Reg.HUP_STATUS.VIN_OK 0) Reg.HUP_STATUS.OV_EVENT 1 0 0

theorem State.coldTrigger_sup {k : DrainKind} (h : k.bank = true) : ∃ m d, (s.coldTrigger k).sup =
    { s.sup with drain := k, drainFrom := s.sup.vbank, drainBytes := s.dirty, drainWork := false, meas := m, measDue := d, boPending := true,
                 orGate := false } := by
  obtain ⟨m, d, hs⟩ := s.halted_sup k
  refine ⟨m, d, ?_⟩
  rw [s.coldTrigger_of_bank h, State.brownSignal_sup]
  simp only [hs, h, Bool.not_true]

theorem State.coldTrigger_charging {k : DrainKind} (h : k.bank = true) : (s.coldTrigger k).rd Reg.HUP_STATUS.CHARGING = 0 := by
  rw [s.coldTrigger_of_bank h, (State.brownSignal_keeps ..).rd_eq (by decide)]
  exact s.halted_charging k

theorem State.coldTrigger_journal {k : DrainKind} (h : k.bank = true) :
    (s.coldTrigger k).ftl.journal.collecting = [] ∧ (s.coldTrigger k).ftl.journal.flight = none := by
  rw [s.coldTrigger_of_bank h, (State.brownSignal_keeps ..).same .ftl]
  exact s.halted_journal k

theorem State.coldTrigger_vinOk {k : DrainKind} (h : k.bank = true) : (s.coldTrigger k).rd Reg.HUP_STATUS.VIN_OK = 0 := by
  rw [s.coldTrigger_of_bank h]
  exact State.brownSignal_vinOk ..

/-- A device in a drain serves no more. -/
theorem State.serving_of_drain (h : s.sup.drain ≠ .none) : s.serving = false := by simp [State.serving, h]

theorem State.recognise_of_up {k : DrainKind} (hd : s.sup.drain = .none) (hu : s.sup.coreUp = true) : s.recognise k = s.coldTrigger k := by
  unfold State.recognise
  rw [if_neg (by simp [hd]), if_pos hu]

/-- Before the core die has left reset, recognition abandons the rail sequence. -/
theorem State.recognise_of_down (hd : s.sup.drain = .none) (hu : s.sup.coreUp = false) (ho : s.sup.orGate = true) :
    ∃ u, Keeps [.supply] [Reg.HUP_STATUS.VIN_OK, Reg.HUP_STATUS.MEAS_BUSY, Reg.HUP_STATUS.BLEED_ON, Reg.HUP_STATUS.CHARGING] s u ∧
      (∃ m d, u.sup = { s.sup with meas := m, measDue := d }) ∧
      s.recognise .brownOut = u.setSup { u.sup with orGate := false, steps := 0, goods := 0, retryWait := false, railsFailed := false,
                                                    nextCause := 0, drainOk := true } := by
  refine ⟨(s.wr Reg.HUP_STATUS.VIN_OK 0).measAbort.wr Reg.HUP_STATUS.CHARGING 0, .wr (.andThen (.wr (.refl ..)) (State.measAbort_keeps _)),
    (s.wr Reg.HUP_STATUS.VIN_OK 0).measAbort_sup, ?_⟩
  unfold State.recognise
  rw [if_neg (by simp [hd]), if_neg (by simp [hu])]
  exact if_pos ho

end

/-- Settles O7: recognition is the trigger moment, or abandons the sequence before the core die has left reset. -/
theorem drainBegins : Obligations.DrainBegins := by
  intro s
  refine ⟨fun vin ho hv hu hd => ?_, fun vin ho hv hu hd => ?_, fun vin ho hv hu hd hg => ?_, fun hd hg hw => ?_⟩
  · have hrun : exec (.brownOut vin) s = .next ((s.setSup { s.sup with vin := vin }).recognise .brownOut) := if_pos (by simp [ho, hv])
    generalize hu' : s.setSup _ = u at hrun
    rw [u.recognise_of_up (by rw [← hu']; exact hd) (by rw [← hu']; exact hu)] at hrun
    obtain ⟨m, d, h⟩ := u.coldTrigger_sup (k := .brownOut) rfl
    obtain ⟨hc, hf⟩ := u.coldTrigger_journal (k := .brownOut) rfl
    exact ⟨_, hrun, by rw [h], by rw [h], by rw [h], by rw [h], u.coldTrigger_charging rfl, u.coldTrigger_vinOk rfl,
      State.serving_of_drain _ (by simp [h]), hc, hf⟩
  · have hrun : exec (.overvoltage vin) s = .next ((s.setSup { s.sup with vin := vin }).recognise .overvoltage) := if_pos (by simp [ho, hv])
    generalize hu' : s.setSup _ = u at hrun
    rw [u.recognise_of_up (by rw [← hu']; exact hd) (by rw [← hu']; exact hu)] at hrun
    obtain ⟨m, d, h⟩ := u.coldTrigger_sup (k := .overvoltage) rfl
    refine ⟨_, hrun, by rw [h], by rw [h], ?_, u.coldTrigger_vinOk rfl, State.serving_of_drain _ (by simp [h])⟩
    rw [u.coldTrigger_of_bank rfl]
    exact State.brownSignal_ovEvent _
  · have hrun : exec (.brownOut vin) s = .next ((s.setSup { s.sup with vin := vin }).recognise .brownOut) := if_pos (by simp [ho, hv])
    obtain ⟨u, k, ⟨m, d, h⟩, he⟩ := (s.setSup { s.sup with vin := vin }).recognise_of_down hd hu hg
    rw [he] at hrun
    refine ⟨_, hrun, ?_, rfl, rfl, ?_, rfl, (k.same .reconcile).1, k.same .health⟩
    · exact (congrArg Supply.drain h :).trans hd
    · exact (congrArg Supply.boPending h :)
  · have hrun : exec .bankSwitchover s = .next (s.brownChannels.setSup { s.brownChannels.sup with swGate := true, drainWork := true }) :=
      if_pos (by simp [hd, hg, hw])
    exact ⟨_, hrun, rfl, rfl, (congrArg Supply.drain (s.brownChannels_keeps.same .supply) :)⟩

/-! ### The end of a drain (R72, R80, R82) -/

section
variable (s : State)

/-- The rails are disabled and the core die is held in reset. -/
def State.railsOff (s : State) (complete : Bool) : State :=
  s.interrupt.setSup { s.interrupt.sup with drain := .none, drainWork := false, swGate := false, orGate := false, coreUp := false, steps := 0,
                                            goods := 0, nextCause := s.sup.drain.cause, drainOk := complete }

theorem State.railsOff_sup (c : Bool) : (s.railsOff c).sup =
    { s.sup with drain := .none, drainWork := false, swGate := false, orGate := false, coreUp := false, steps := 0, goods := 0,
                 nextCause := s.sup.drain.cause, drainOk := c } := by
  have h : s.interrupt.sup = s.sup := s.interrupt_keeps.same .supply
  simp only [State.railsOff, State.setSup, h]

theorem State.railsOff_riseMv (c : Bool) : (s.railsOff c).riseMv = s.riseMv := congrArg (200 * ·) (s.interrupt_keeps.rd_eq (by decide) _ _)

theorem State.railsCut_of_absent (c : Bool) (h : s.sup.vin ≤ s.riseMv) : s.railsCut c =
    ((s.railsOff c).setSup { (s.railsOff c).sup with discharging := true }).wr Reg.HUP_STATUS.BLEED_ON 1 := by
  have hv : (s.railsOff c).sup.vin ≤ (s.railsOff c).riseMv := by rwa [s.railsOff_riseMv, s.railsOff_sup]
  exact (if_neg fun e => absurd e.2 (Nat.not_lt.2 hv)).trans (if_pos hv)

theorem State.railsCut_of_present (c : Bool) (hk : s.sup.drain ≠ .trip) (h : s.riseMv < s.sup.vin) :
    s.railsCut c = (s.railsOff c).coldStart := by
  have hv : (s.railsOff c).riseMv < (s.railsOff c).sup.vin := by rwa [s.railsOff_riseMv, s.railsOff_sup]
  exact if_pos ⟨hk, hv⟩

/-- A drain whose records are durable, before the rails are disabled. -/
theorem exec_drainEnd_of_done (hd : s.sup.drain ≠ .none) (hw : s.sup.drainWork = true) (hr : s.drainRails = true) :
    ∃ u : State, exec .drainEnd s = .next (u.railsCut true) ∧ (∃ x, u.sup = { s.sup with sample := x }) ∧ u.riseMv = s.riseMv := by
  have k : Keeps [.flash, .ftl] [] s ((s.drain.record (.drainEnd s.sup.drainBytes)).settle) :=
    .andThen (.record s.drain_keeps) (State.settle_keeps _)
  generalize hu : (s.drain.record (.drainEnd s.sup.drainBytes)).settle = u at k
  have hrun : exec .drainEnd s = .next ((if s.sup.drain.bank && decide (2 ^ 28 ≤ s.sup.drainBytes) then
      u.setSup { u.sup with sample := some (s.drainEnergy, s.sup.drainBytes) } else u).railsCut true) := by
    rw [← hu]
    exact if_pos (by simp [hd, hw, hr])
  have hs : u.sup = s.sup := k.same .supply
  have hr : u.riseMv = s.riseMv := congrArg (200 * ·) (k.rd_eq (by decide) _ _)
  refine ⟨_, hrun, ?_, ?_⟩
  · split
    · exact ⟨_, by rw [← hs]; rfl⟩
    · exact ⟨s.sup.sample, hs⟩
  · split
    · exact hr
    · exact hr

/-- A drain that is cut keeps some of its records. -/
theorem State.drainCut_eq : ∃ u, s.drainCut = u.railsCut false ∧ Keeps [.flash, .ftl, .freeValues] [] s u :=
  ⟨_, rfl, .andThen (.with_ftl (.andThen (.freeNext (.refl ..)) (State.drain_keeps _))) (State.settle_keeps _)⟩

end

/-- Settles O8: what follows once the rails are disabled is decided by VIN. -/
theorem drainEnds : Obligations.DrainEnds := by
  intro s
  refine ⟨fun hd hw hr hv => ?_, fun hd ht hw hr hv => ?_, fun vb hd hg hb hv => ?_, fun vb hd hb => ?_, fun vb ho hv hb hc => ?_⟩
  · obtain ⟨u, hrun, ⟨x, hx⟩, hm⟩ := exec_drainEnd_of_done s hd hw hr
    rw [u.railsCut_of_absent true (by rwa [hm, hx])] at hrun
    refine ⟨_, hrun, ?_⟩
    have h := u.railsOff_sup true
    simp only [State.wr, State.setSup, h, hx, true_and]
    exact ⟨State.rd_wr_same .., trivial⟩
  · obtain ⟨u, hrun, ⟨x, hx⟩, hm⟩ := exec_drainEnd_of_done s hd hw hr
    rw [u.railsCut_of_present true (by rwa [hx]) (by rwa [hm, hx])] at hrun
    obtain ⟨m, d, h⟩ := (u.railsOff true).coldStart_sup
    have k := (u.railsOff true).coldStart_keeps
    refine ⟨_, hrun, ?_⟩
    rw [h, k.same .rings, k.same .contexts]
    refine ⟨rfl, rfl, rfl, rfl, rfl, ?_, rfl, rfl⟩
    change (u.railsOff true).sup.nextCause = _
    rw [u.railsOff_sup, hx]
  · obtain ⟨u, hu, k⟩ := (s.setSup { s.sup with vbank := vb }).drainCut_eq
    have hrun : exec (.vbankCutoff vb) s = .next (u.railsCut false) := by
      rw [← hu]
      exact if_pos (by simp [hd, hg, hb])
    have hs : u.sup = { s.sup with vbank := vb } := k.same .supply
    have hm : u.riseMv = s.riseMv := congrArg (200 * ·) (k.rd_eq (by decide) _ _)
    rw [u.railsCut_of_absent false (by rwa [hm, hs])] at hrun
    refine ⟨_, hrun, ?_⟩
    have h := u.railsOff_sup false
    simp only [State.wr, State.setSup, h, true_and]
    exact State.rd_wr_same ..
  · have hrun : exec (.bleedDischargeEnd vb) s = .next
        ((s.setSup { s.sup with discharging := false, vbank := vb }).wr Reg.HUP_STATUS.BLEED_ON 0) := if_pos (by simp [hd, hb])
    exact ⟨_, hrun, rfl, State.rd_wr_same .., rfl, (Keeps.wr (.setSup (.refl ..))).frame (by decide)⟩
  · have hrun : exec (.pouloSupplyLost vb) s = .next (s.coldKeep.setSup
        { s.coldKeep.sup with operating := false, vbank := vb, discharging := false }) := if_pos (by simp [ho, hv, hb, hc])
    exact ⟨_, hrun, rfl, rfl, rfl, rfl, rfl, rfl⟩

/-! ### The charger and the measurements (R66, R69 to R71) -/

/-- What the bank's commands leave: all but the supply block and its registers, the ceiling with its Health copy, and the event of an excess. -/
structure BankOnly (s t : State) : Prop where
  keeps : Keeps [.supply, .health, .ftl, .log] bankFields s t
  ftl : ∃ e, t.ftl = { s.ftl with excess := e }

section
variable {s t u : State}

theorem BankOnly.trans (h : BankOnly s t) (k : BankOnly t u) : BankOnly s u := by
  obtain ⟨e, he⟩ := h.ftl
  obtain ⟨f, hf⟩ := k.ftl
  exact ⟨h.keeps.trans k.keeps, f, by rw [hf, he]⟩

/-- The supply block and its registers alone. -/
theorem Keeps.bankOnly {rs : List Fld} (k : Keeps [.supply] rs s t) (h : rs ⊆ bankFields := by decide) : BankOnly s t :=
  ⟨k.mono (by decide) h, s.ftl.excess, k.same .ftl⟩

theorem BankOnly.frame (h : BankOnly s t) : Frame [.supply, .health, .ftl, .log] bankFields s t ∧ t.ftl.versions = s.ftl.versions
    ∧ t.ftl.map = s.ftl.map ∧ t.ftl.journal = s.ftl.journal := by
  obtain ⟨e, he⟩ := h.ftl
  exact ⟨h.keeps.frame (by decide), by rw [he], by rw [he], by rw [he]⟩

end

section
variable (s : State)

theorem State.refreshCeiling_bankOnly : BankOnly s s.refreshCeiling := by
  refine ⟨(State.refreshCeiling_keeps s).mono, ?_⟩
  unfold State.refreshCeiling
  extract_lets
  split <;> exact ⟨_, rfl⟩

theorem State.refreshBank_bankOnly : BankOnly s s.refreshBank := (s.refreshBank_keeps.mono (ps := [.supply]) (by decide) fun _ => id).bankOnly

theorem State.recharge_bankOnly : BankOnly s s.recharge := (s.recharge_keeps.mono (ps := [.supply]) (by decide) fun _ => id).bankOnly

theorem State.measBleed_bankOnly : BankOnly s s.measBleed :=
  (Keeps.wr (rs := [Reg.HUP_STATUS.MEAS_BUSY]) (.setSup (.refl ..))).bankOnly.trans (State.refreshCeiling_bankOnly _)

theorem State.measIfDue_bankOnly : BankOnly s s.measIfDue := by
  unfold State.measIfDue
  split
  · exact s.measBleed_bankOnly
  · exact (Keeps.refl [.supply] [] s).bankOnly

theorem State.measEnd_bankOnly (n : Nat) (bleed : Bool) : BankOnly s (s.measEnd n bleed) := by
  refine .trans (.trans (.trans ?_ (State.recharge_bankOnly _)) (State.refreshBank_bankOnly _)) (State.refreshCeiling_bankOnly _)
  exact (Keeps.wr (rs := bankFields) (.wr (.wr (.wr (.wr (.wr (.setSup (.setSup (.refl ..)))))))) ).bankOnly fun _ => id

/-- Each of the bank's commands is such a change. -/
theorem exec_bankOnly (vbank : Nat) {c : Instr} (hc : c ∈ [Instr.vbankOvervoltage vbank, .vbankOvRecover vbank, .chargeTargetReached vbank,
    .capMeasHourly, .vbankDropDetected vbank, .measNow, .measBleedClose, .measBleedOpen vbank, .measCountStart vbank, .measComplete vbank]) :
    Yields (BankOnly s) (exec c s) := by
  have stay : Yields (BankOnly s) (.next s) := .next (Keeps.refl [.supply] [] s).bankOnly
  have sup (p : Supply) : BankOnly s (s.setSup p) := (Keeps.setSup (rs := []) (.refl ..)).bankOnly
  have wr {u : State} (h : BankOnly s u) {r : Fld} (v : Nat) (hr : r ∈ bankFields) : BankOnly s (u.wr r v) :=
    h.trans ((Keeps.wr (ps := [.supply]) (rs := bankFields) (.refl ..) hr).bankOnly fun _ => id)
  simp only [List.mem_cons, List.not_mem_nil, or_false] at hc
  obtain rfl | rfl | rfl | rfl | rfl | rfl | rfl | rfl | rfl | rfl := hc
  · refine .ite (fun _ => .next ?_) fun _ => stay
    refine .trans (.trans ?_ (State.refreshBank_bankOnly _)) (State.refreshCeiling_bankOnly _)
    have ha : BankOnly s (s.setSup { s.sup with vbank := vbank, ovBleed := true }).measAbort := (sup _).trans (State.measAbort_keeps _).bankOnly
    exact wr (wr (wr ha 0 (by decide)) 1 (by decide)) 1 (by decide)
  · refine .ite (fun _ => .next ?_) fun _ => stay
    refine .trans (.trans ?_ (State.measIfDue_bankOnly _)) (State.refreshCeiling_bankOnly _)
    refine .trans (.trans ?_ (State.refreshBank_bankOnly _)) (State.recharge_bankOnly _)
    exact wr (sup _) _ (by decide)
  · refine .ite (fun _ => .next ?_) fun _ => stay
    refine .trans (.trans ?_ (State.measIfDue_bankOnly _)) (State.refreshCeiling_bankOnly _)
    exact .trans (wr (sup _) _ (by decide)) (State.refreshBank_bankOnly _)
  · exact .ite (fun _ => .next ((sup _).trans (State.measBleed_bankOnly _))) fun _ => stay
  · refine .ite (fun _ => .next ?_) fun _ => stay
    exact .trans (.trans (.trans (sup _) (State.refreshBank_bankOnly _)) (State.recharge_bankOnly _)) (State.measBleed_bankOnly _)
  · exact .ite (fun _ => .next s.measBleed_bankOnly) fun _ => stay
  · exact .ite (fun _ => .next (wr (wr (sup _) _ (by decide)) _ (by decide))) fun _ => stay
  · change Yields _ (execMeasBleedOpen vbank s)
    unfold execMeasBleedOpen
    split
    · exact .ite (fun _ => .next (wr (wr (sup _) _ (by decide)) _ (by decide))) fun _ => stay
    · exact stay
  · change Yields _ (execMeasCountStart vbank s)
    unfold execMeasCountStart
    split
    · exact .ite (fun _ => .next (sup _)) fun _ => stay
    · exact stay
  · change Yields _ (execMeasComplete vbank s)
    unfold execMeasComplete
    split
    · exact .ite (fun _ => .next ((sup _).trans (State.measEnd_bankOnly ..))) fun _ => stay
    · exact .ite (fun _ => .next ((sup _).trans (State.measEnd_bankOnly ..))) fun _ => stay
    · exact stay

/-- The fields that show the bank's charge and the ceiling. -/
def bankShown : List Fld := [Reg.HUP_STATUS.WRITE_THR, Reg.HUP_ENERGY.EUSE, Reg.HUP_ENERGY.VBANK, Reg.BRU_STAGE.WRITE_UP,
  Reg.FRM_CEILING.CEIL_MIB, Reg.FRM_CEILING.SOURCE, Reg.FRM_JPB.MODEL]

theorem State.bankShown_keeps : Keeps [.log, .health, .ftl] bankShown s s.refreshBank.refreshCeiling :=
  .andThen (.mono s.refreshBank_keeps) (State.refreshCeiling_keeps _)

theorem State.measBleed_busy : s.measBleed.rd Reg.HUP_STATUS.MEAS_BUSY = 1 :=
  ((State.refreshCeiling_keeps _).rd_eq (q := Reg.HUP_STATUS.MEAS_BUSY) (by decide) 0 0).trans (State.rd_wr_same ..)

/-- The supply block of a measurement that ends, as its verdict says. -/
def State.measSup (n : Nat) (bleed pass : Bool) : Supply :=
  { s.sup with cmeas := n, meas := .idle, measDue := false, passed := pass, hourFrom := s.frame, measAt := s.frame
               caps := ({ cap := min 0xFFFF (n / 8), bleed := bleed, pass := pass, hours := s.hours } :: s.sup.caps).take 8 }

/-- A measurement that ends, before the charger and the ceiling follow. -/
def State.measStore (n : Nat) (bleed pass : Bool) : State :=
  (((((((s.setSup (s.measSup n bleed pass)).wr Reg.HUP_CAP_MEAS.CAP (min 0xFFFF (n / 8))).wr Reg.HUP_CAP_MEAS.AGE 0).wr
    Reg.HUP_CAP_MEAS.VALID 1).wr Reg.HUP_CAP_MEAS.METHOD (bit bleed)).wr Reg.HUP_STATUS.MEAS_FAIL (bit (!pass))).wr
    Reg.HUP_STATUS.MEAS_BUSY 0)

theorem State.measEnd_eq (n : Nat) (bleed : Bool) :
    ∃ pass, s.measEnd n bleed = (s.measStore n bleed pass).recharge.refreshBank.refreshCeiling := ⟨_, rfl⟩

theorem bit_mod_two (b : Bool) : bit b % 2 = bit b := by cases b <;> rfl

theorem State.measEnd_result (n : Nat) (bleed : Bool) :
    (s.measEnd n bleed).sup.cmeas = n ∧ (s.measEnd n bleed).sup.meas = .idle ∧ (s.measEnd n bleed).rd Reg.HUP_STATUS.MEAS_BUSY = 0
      ∧ (s.measEnd n bleed).rd Reg.HUP_CAP_MEAS.VALID = 1 ∧ (s.measEnd n bleed).rd Reg.HUP_CAP_MEAS.METHOD = bit bleed
      ∧ (s.measEnd n bleed).rd Reg.HUP_STATUS.MEAS_FAIL = bit (!(s.measEnd n bleed).sup.passed) := by
  obtain ⟨pass, he⟩ := s.measEnd_eq n bleed
  have k : Keeps [.log, .health, .ftl] [Reg.HUP_STATUS.CHARGING, Reg.HUP_STATUS.WRITE_THR, Reg.HUP_ENERGY.EUSE, Reg.HUP_ENERGY.VBANK,
      Reg.BRU_STAGE.WRITE_UP, Reg.FRM_CEILING.CEIL_MIB, Reg.FRM_CEILING.SOURCE, Reg.FRM_JPB.MODEL] (s.measStore n bleed pass)
      (s.measEnd n bleed) := by
    rw [he]
    exact .andThen (.andThen (.mono (State.recharge_keeps _)) (State.refreshBank_keeps _)) (State.refreshCeiling_keeps _)
  have hs : (s.measEnd n bleed).sup = s.measSup n bleed pass := k.same .supply
  rw [hs, k.rd_eq (q := Reg.HUP_STATUS.MEAS_BUSY) (by decide), k.rd_eq (q := Reg.HUP_CAP_MEAS.VALID) (by decide),
    k.rd_eq (q := Reg.HUP_CAP_MEAS.METHOD) (by decide), k.rd_eq (q := Reg.HUP_STATUS.MEAS_FAIL) (by decide)]
  simp (disch := decide) only [State.measStore, State.rd_wr_apart, State.rd_wr_same]
  exact ⟨rfl, rfl, rfl, rfl, bit_mod_two _, bit_mod_two _⟩

end

section
variable {s : State} {vb : Nat}

theorem exec_measBleedOpen_of_low {top : Nat} (h : s.sup.meas = .bleeding top) (hv : vb + 4000 ≤ top) : exec (.measBleedOpen vb) s = .next
    (((s.setSup { s.sup with meas := .bleedCount s.frame top, vbank := vb }).wr Reg.HUP_STATUS.BLEED_ON 0).wr Reg.HUP_STATUS.CHARGING 1) := by
  change execMeasBleedOpen vb s = _
  unfold execMeasBleedOpen
  simp only [h, hv, if_true, ok]

theorem exec_measCountStart_of_high (h : s.sup.meas = .chargeWait) (hv : 30000 ≤ vb) :
    exec (.measCountStart vb) s = .next (s.setSup { s.sup with meas := .chargeCount s.frame, vbank := vb }) := by
  change execMeasCountStart vb s = _
  unfold execMeasCountStart
  simp only [h, hv, if_true, ok]

theorem exec_measComplete_of_charge {start : Nat} (h : s.sup.meas = .chargeCount start) (hv : 34000 ≤ vb) (hf : start < s.frame) :
    exec (.measComplete vb) s = .next ((s.setSup { s.sup with vbank := vb }).measEnd (s.frame - start) false) := by
  change execMeasComplete vb s = _
  unfold execMeasComplete
  simp only [h]
  exact if_pos ⟨hv, hf⟩

theorem exec_measComplete_of_bleed {start top : Nat} (h : s.sup.meas = .bleedCount start top) (hv : top ≤ vb) (hf : start < s.frame) :
    exec (.measComplete vb) s = .next ((s.setSup { s.sup with vbank := vb }).measEnd (s.frame - start) true) := by
  change execMeasComplete vb s = _
  unfold execMeasComplete
  simp only [h]
  exact if_pos ⟨hv, hf⟩

end

/-- Settles O9: each of the ten commands is a change of the bank alone. -/
theorem bankMeasures : Obligations.BankMeasures := by
  refine ⟨fun s vb => ⟨fun h1 h2 h3 => ?_, fun h1 h2 => ?_, fun h1 h2 => ?_, fun h1 h2 h3 => ?_, fun h1 h2 h3 h4 => ?_, fun h1 h2 => ?_,
    fun h1 h2 => ?_, fun top h1 h2 => ?_, fun h1 h2 => ?_, fun start h1 h2 h3 => ?_, fun start top h1 h2 h3 => ?_⟩,
    fun s t vb c hc h => ((exec_bankOnly s vb hc).of_next h).frame⟩
  · generalize hu : (s.setSup { s.sup with vbank := vb, ovBleed := true }).measAbort = u
    obtain ⟨m, d, hm⟩ := (s.setSup { s.sup with vbank := vb, ovBleed := true }).measAbort_sup
    have hrun : exec (.vbankOvervoltage vb) s = .next
        ((((u.wr Reg.HUP_STATUS.CHARGING 0).wr Reg.HUP_STATUS.OV_EVENT 1).wr Reg.HUP_STATUS.BLEED_ON 1).refreshBank.refreshCeiling) := by
      rw [← hu]
      exact if_pos (by simp [h1, h2, h3])
    have k := (((u.wr Reg.HUP_STATUS.CHARGING 0).wr Reg.HUP_STATUS.OV_EVENT 1).wr Reg.HUP_STATUS.BLEED_ON 1).bankShown_keeps
    refine ⟨_, hrun, ?_, ?_, ?_, ?_, ?_⟩
    · rw [k.rd_eq (by decide), State.rd_wr_apart _ _ _ _ _ _ _ _ (by decide), State.rd_wr_same]; rfl
    · rw [k.rd_eq (by decide), State.rd_wr_same]; rfl
    · rw [k.rd_eq (by decide), State.rd_wr_apart _ _ _ _ _ _ _ _ (by decide), State.rd_wr_apart _ _ _ _ _ _ _ _ (by decide),
        State.rd_wr_same]
      rfl
    · exact (congrArg Supply.ovBleed (k.same .supply)).trans (congrArg Supply.ovBleed (hu ▸ hm) :)
    · exact (congrArg Supply.meas (k.same .supply)).trans (hu ▸ State.measAbort_meas _ :)
  · generalize hu : (s.setSup { s.sup with vbank := vb, ovBleed := false }).wr Reg.HUP_STATUS.BLEED_ON (bit s.sup.discharging) = u
    have hrun : exec (.vbankOvRecover vb) s = .next (u.refreshBank.recharge.measIfDue.refreshCeiling) := by
      rw [← hu]
      exact if_pos (by simp [h1, h2])
    have k : Keeps [] [Reg.HUP_STATUS.WRITE_THR, Reg.HUP_ENERGY.EUSE, Reg.HUP_ENERGY.VBANK, Reg.BRU_STAGE.WRITE_UP,
      Reg.HUP_STATUS.CHARGING] u u.refreshBank.recharge := .andThen (.mono u.refreshBank_keeps) (State.recharge_keeps _)
    have k2 : Keeps [.supply, .log, .health, .ftl] (Reg.HUP_STATUS.MEAS_BUSY :: Reg.HUP_STATUS.CHARGING :: bankShown) u
      u.refreshBank.recharge.measIfDue := .andThen (.mono k) (State.measIfDue_keeps _)
    have k3 := State.refreshCeiling_keeps u.refreshBank.recharge.measIfDue
    obtain ⟨m, d, hs⟩ := u.refreshBank.recharge.measIfDue_sup
    rw [k.same .supply] at hs
    refine ⟨_, hrun, ?_, ?_, ?_⟩
    · rw [k3.same .supply, hs, ← hu]; rfl
    · rw [k3.same .supply, hs, ← hu]; rfl
    · rw [k3.rd_eq (by decide), k2.rd_eq (by decide), ← hu, State.rd_wr_same]
      exact bit_mod_two _
  · generalize hu : (s.setSup { s.sup with vbank := vb }).wr Reg.HUP_STATUS.CHARGING 0 = u
    have hrun : exec (.chargeTargetReached vb) s = .next (u.refreshBank.measIfDue.refreshCeiling) := by
      rw [← hu]
      exact if_pos (by simp [h1, h2])
    have k : Keeps [.supply, .log, .health, .ftl] (Reg.HUP_STATUS.MEAS_BUSY :: bankShown) u u.refreshBank.measIfDue :=
      .andThen (.mono u.refreshBank_keeps) (State.measIfDue_keeps _)
    have k3 := State.refreshCeiling_keeps u.refreshBank.measIfDue
    obtain ⟨m, d, hs⟩ := u.refreshBank.measIfDue_sup
    rw [u.refreshBank_keeps.same .supply] at hs
    refine ⟨_, hrun, ?_, ?_⟩
    · rw [k3.rd_eq (by decide), k.rd_eq (by decide), ← hu, State.rd_wr_same]; rfl
    · rw [k3.same .supply, hs, ← hu]; rfl
  · have hrun : exec .capMeasHourly s = .next (s.setSup { s.sup with hourFrom := s.frame }).measBleed := if_pos (by simp [h1, h2, h3])
    refine ⟨_, hrun, ?_, State.measBleed_busy _, ?_⟩
    · rw [State.measBleed_sup]
    · rw [State.measBleed_sup]; rfl
  · generalize hu : s.setSup { s.sup with vbank := vb } = u
    have hrun : exec (.vbankDropDetected vb) s = .next u.refreshBank.recharge.measBleed := by
      rw [← hu]
      exact if_pos (by simp [h1, h2, h3, h4])
    refine ⟨_, hrun, ?_, State.measBleed_busy _, ?_⟩
    · rw [State.measBleed_sup]
    · rw [State.measBleed_sup, (State.recharge_keeps _).same .supply, u.refreshBank_keeps.same .supply, ← hu]; rfl
  · have hrun : exec .measNow s = .next s.measBleed := if_pos (by simp [h1, h2])
    exact ⟨_, hrun, by rw [State.measBleed_sup], s.measBleed_busy⟩
  · have hrun : exec .measBleedClose s = .next (((s.setSup { s.sup with meas := .bleeding s.sup.vbank }).wr Reg.HUP_STATUS.CHARGING 0).wr
        Reg.HUP_STATUS.BLEED_ON 1) := if_pos (by simp [h1, h2])
    refine ⟨_, hrun, rfl, State.rd_wr_same .., ?_⟩
    rw [State.rd_wr_apart _ _ _ _ _ _ _ _ (by decide), State.rd_wr_same]; rfl
  · refine ⟨_, exec_measBleedOpen_of_low h1 h2, rfl, ?_, State.rd_wr_same ..⟩
    rw [State.rd_wr_apart _ _ _ _ _ _ _ _ (by decide), State.rd_wr_same]; rfl
  · exact ⟨_, exec_measCountStart_of_high h1 h2, rfl⟩
  · obtain ⟨hc, hm, hb, hv, hmeth, hf⟩ := (s.setSup { s.sup with vbank := vb }).measEnd_result (s.frame - start) false
    exact ⟨_, exec_measComplete_of_charge h1 h2 h3, hc, hm, hb, hv, hmeth, hf⟩
  · obtain ⟨hc, hm, hb, -, hmeth, -⟩ := (s.setSup { s.sup with vbank := vb }).measEnd_result (s.frame - start) true
    exact ⟨_, exec_measComplete_of_bleed h1 h2 h3, hc, hm, hb, hmeth⟩

end Sys2Proof.Machine
end

section
/-! PROOFS. The step and the reset state (O1, O2), and bring-up: the steps of Grind, Bloom and Pour entry (R90 to R100, R350, R516; O10, O11). -/

set_option Elab.async false

namespace Sys2Proof.Machine

/-! ### The block as a whole -/

/-- Settles O1: by the definition of a step. -/
theorem stepRunsFront : Obligations.StepRunsFront := by
  intro s
  refine ⟨fun c rest h => ?_, fun h => ?_⟩
  · simp only [step, h]
  · simp only [step, h]

theorem State.reset_inv : State.reset.Inv where
  mem := rfl
  regs := rfl
  kept := rfl
  entries := rfl
  log := rfl
  newest := .nil
  now := fun _ h => absurd h List.not_mem_nil
  recon := .nil
  reconSeq := fun _ h => absurd h List.not_mem_nil
  lost := .nil
  lostSeq := fun _ h => absurd h List.not_mem_nil

/-- Settles O2: no field has been written, so that each reads its reset value. -/
theorem resetState : Obligations.ResetState := by
  refine ⟨State.reset_inv, rfl, rfl, rfl, rfl, rfl, rfl, fun r _ i f => ?_, fun _ _ => rfl, fun _ _ => rfl,
    rfl, rfl, rfl, rfl, rfl, rfl⟩
  change (0 ^^^ r.reset i) % 2 ^ r.w = _
  rw [Nat.zero_xor]

/-! ### Bloom and Pour entry and the missed bound (R91, R98, R100) -/

section
variable (s : State)

/-- A window entry's TARGET is no home of BRU_STAGE.STAGE. -/
theorem State.stage_rd_stage {n : Nat} (h : n < 256) (w : Win) : (s.stage n w).rd Reg.BRU_STAGE.STAGE = s.rd Reg.BRU_STAGE.STAGE := by
  unfold State.stage
  simp (disch := decide) only [State.rd_wr_apart]
  refine State.rd_wr_other _ _ _ _ _ _ _ _ ?_
  simp only [Fld.key, Reg.BRU_STAGE.STAGE, Reg.WIN_ENT_CTRL.TARGET, Scope.code]
  omega

theorem State.stagePeer_rd_stage {j : Nat} (h : j < 24) : (s.stagePeer j).rd Reg.BRU_STAGE.STAGE = s.rd Reg.BRU_STAGE.STAGE := by
  unfold State.stagePeer
  extract_lets p live log2 pages s1
  have h1 : s1.rd Reg.BRU_STAGE.STAGE = s.rd Reg.BRU_STAGE.STAGE := s.stage_rd_stage (by omega) _
  split
  · exact (s1.stage_rd_stage (by omega) _).trans h1
  · exact h1

theorem State.stageGroup_rd_stage : s.stageGroup.rd Reg.BRU_STAGE.STAGE = s.rd Reg.BRU_STAGE.STAGE := by
  have hfold : ∀ (l : List Nat) (u : State), (∀ j ∈ l, j < 24) →
      (l.foldl State.stagePeer u).rd Reg.BRU_STAGE.STAGE = u.rd Reg.BRU_STAGE.STAGE := by
    intro l
    induction l with
    | nil => exact fun _ _ => rfl
    | cons j l ih =>
      intro u h
      exact (ih _ fun i hi => h i (.tail _ hi)).trans (u.stagePeer_rd_stage (h j (.head _)))
  refine ((State.winDevice_keeps _).rd_eq (by decide) 0 0).trans ?_
  exact (hfold _ _ fun j hj => List.mem_range.1 hj).trans (s.stage_rd_stage (by decide) _)

theorem State.autoJoin_rd_stage : s.autoJoin.rd Reg.BRU_STAGE.STAGE = s.rd Reg.BRU_STAGE.STAGE := by
  unfold State.autoJoin
  split
  · have k : Keeps [.freeValues, .group, .keys, .buses] [Reg.GLI_PEER.SESSION, Reg.GLI_LINKED.MASK]
        (s.wr Reg.GLI_STATUS.STATE 1).stageGroup s.startJoining := .foldl (.refl ..) fun _ _ => .mono (State.greet_keeps ..)
    rw [k.rd_eq (by decide), State.stageGroup_rd_stage, State.rd_wr_apart _ _ _ _ _ _ _ _ (by decide)]
  · rfl

end

/-- Bloom entry before what follows from it: the stage is shown, FAIL_COUNT is cleared and the security version is fused. -/
def State.inBloom (s : State) : State :=
  let s1 : State := { s with boot := { s.boot with stage := .bloom } }
  let s2 := ((s1.wr Reg.BRU_STAGE.STAGE 1).wr Reg.BRU_STAGE.STEP 0).wr Reg.BRU_STAGE.IO_UP 1
  let s3 := (s2.wr Reg.BRU_TIMING.BLOOM_MS (min 0xFFFF ((s.frame - s.sup.vinAt) / 100))).wr Reg.BRU_RECOVERY.RECON (min 0xFFFF s.recon.length)
  { s3 with bst := { s3.bst with failCount := 0, fusedSv := max s3.bst.fusedSv (s3.fwSlot s3.bst.active).sv } }

theorem State.inBloom_stage (s : State) : s.inBloom.rd Reg.BRU_STAGE.STAGE = 1 := by
  change State.rd (State.wr (State.wr (State.wr (State.wr (State.wr _ Reg.BRU_STAGE.STAGE 1) Reg.BRU_STAGE.STEP 0) Reg.BRU_STAGE.IO_UP 1)
    Reg.BRU_TIMING.BLOOM_MS _) Reg.BRU_RECOVERY.RECON _) _ = _
  simp (disch := decide) only [State.rd_wr_apart, State.rd_wr_same]
  rfl

theorem State.inBloom_ioUp (s : State) : s.inBloom.rd Reg.BRU_STAGE.IO_UP = 1 := by
  change State.rd (State.wr (State.wr (State.wr _ Reg.BRU_STAGE.IO_UP 1) Reg.BRU_TIMING.BLOOM_MS _) Reg.BRU_RECOVERY.RECON _) _ = _
  simp (disch := decide) only [State.rd_wr_apart, State.rd_wr_same]
  rfl

/-- Settles O11: after the stage is set, only what follows from it changes. -/
theorem stageEntries : Obligations.StageEntries := by
  intro s hs
  refine ⟨fun hg h5 hr => ?_, fun hb hd hm he => ?_, fun hg hm ht => ?_⟩
  · let sv := (s.fwSlot s.bst.active).sv
    have hrun : exec .bloomEntry s = .next (((((if decide (s.bst.fusedSv < sv) then s.inBloom.event 0x39 0x0104 sv
        else s.inBloom).bstRefresh.refreshBank.refreshCeiling).autoJoin).asyncAll 1 1)) := if_pos (by simp [hs, hg, h5, hr])
    have k : Keeps [.log] [] s.inBloom (if decide (s.bst.fusedSv < sv) then s.inBloom.event 0x39 0x0104 sv else s.inBloom) :=
      .ite (.event (.refl ..)) (.refl ..)
    have k := ((k.then (State.bstRefresh_keeps _)).then (State.refreshBank_keeps _)).then (State.refreshCeiling_keeps _)
    have kall := (k.then (State.autoJoin_keeps _)).then (State.asyncAll_keeps _ 1 1)
    refine ⟨_, hrun, ?_⟩
    rw [kall.same .boot, kall.same .bootStore, (kall.same .flash).2.1, kall.same .contexts]
    refine ⟨rfl, ?_, (kall.rd_eq (by decide) ..).trans s.inBloom_ioUp, rfl, rfl, rfl, rfl⟩
    rw [(State.asyncAll_keeps _ 1 1).rd_eq (by decide), State.autoJoin_rd_stage, k.rd_eq (by decide)]
    exact s.inBloom_stage
  · let s1 : State := { s with boot := { s.boot with stage := .pour } }
    let s2 := ((s1.wr Reg.BRU_STAGE.STAGE 2).wr Reg.BRU_STAGE.MAP_RESIDENT 1).wr Reg.BRU_TIMING.POUR (min 0xFFFF ((s.frame - s.sup.vinAt) / 1000))
    have hrun : exec .pourEntry s = .next (s2.refreshCeiling.asyncAll 1 2) := if_pos (by simp [hs, hb, hd, hm, he])
    have k := s2.refreshCeiling_keeps.then (State.asyncAll_keeps _ 1 2)
    refine ⟨_, hrun, ?_⟩
    rw [k.same .boot, (k.same .flash).2.1, k.same .contexts, k.rd_eq (by decide), k.rd_eq (by decide)]
    refine ⟨rfl, ?_, ?_, rfl, rfl⟩
    · exact (State.rd_wr_apart _ _ _ _ _ _ _ _ (by decide)).trans ((State.rd_wr_apart _ _ _ _ _ _ _ _ (by decide)).trans (State.rd_wr_same ..))
    · exact (State.rd_wr_apart _ _ _ _ _ _ _ _ (by decide)).trans (State.rd_wr_same ..)
  · exact ⟨_, if_pos (by simp [hs, hg, hm, ht]), hg, rfl, rfl, (Keeps.event (.with_boot (.refl ..))).frame (by decide)⟩

/-! ### The steps of Grind (R92, R350, R516) -/

section
variable (s : State)

/-- A slot that boots writes the boot block's and the boot store's records, and shows them. -/
theorem State.bootSlot_keeps (i n : Nat) : Keeps [] [Reg.BST_STATUS.ACTIVE, Reg.BST_STATUS.FUSED_SV, Reg.BST_STATUS.FAIL_COUNT,
    Reg.BST_STATUS.WRITING, Reg.BST_STATUS.ACTIVATING, Reg.BST_SLOT.STATE, Reg.BST_SLOT.CHECK, Reg.BST_SLOT.SV, Reg.BST_SLOT.WRITTEN,
    Reg.BST_SLOT.VERSION, Reg.BRU_STAGE.STEP] { s with bst := { s.bst with active := i, failCount := n }, boot := { s.boot with step := 2 }
                                                       ucode := { s.ucode with base := (s.fwSlot i).base } } (s.bootSlot i n) := by
  unfold State.bootSlot
  exact .wr (.mono (State.bstRefresh_keeps _))

theorem State.recovery_shown (a b c : Nat) :
    (((s.wr Reg.BST_STATUS.RECOVERY 1).wr Reg.BRU_STAGE.ADMIN_UP 1).event a b c).rd Reg.BST_STATUS.RECOVERY = 1 := by
  rw [State.event_rd_, State.rd_wr_apart _ _ _ _ _ _ _ _ (by decide), State.rd_wr_same]
  rfl

/-- FIRMWARE_SLOT_CHECK boots the first slot, else the second, else enters recovery. -/
theorem exec_firmwareSlotCheck (ok1 ok2 : Bool) (hs : s.serving = true) (h1 : s.boot.step = 1) (hr : s.boot.recovery = false) :
    let sig (i : Nat) : Bool := if i = 1 then ok1 else ok2
    let n := s.bst.failCount + 1
    let a := s.bst.active
    let pa := s.slotPasses a (sig a)
    let pb := s.slotPasses (3 - a) (sig (3 - a))
    let s2 := (s.slotChecked a pa).slotChecked (3 - a) pb
    let s3 : State := { s2 with bst := { s2.bst with failCount := n }, boot := { s2.boot with recovery := true } }
    exec (.firmwareSlotCheck ok1 ok2) s = .next (
      if (pa && decide (n < 3)) = true then (s.slotChecked a pa).bootSlot a n
      else if pb = true then (s2.event 0x39 0x0101 ((3 - a) + (if pa then 2 else 1) * 4)).bootSlot (3 - a) 0
      else ((s3.bstRefresh.wr Reg.BST_STATUS.RECOVERY 1).wr Reg.BRU_STAGE.ADMIN_UP 1).event 0x39 0x0102 0) := by
  intro sig n a pa pb s2 s3
  have hc : (s.serving && s.boot.step == 1 && !s.boot.recovery) = true := by simp [hs, h1, hr]
  refine (if_pos hc).trans ?_
  rw [apply_ite Host.Outcome.next, apply_ite Host.Outcome.next]

/-- The kept values restored change registers and mark the restore alone. -/
theorem State.restoreKept_only : Only [.kept] { s with boot := { s.boot with restored := true } } s.restoreKept := by
  unfold State.restoreKept
  extract_lets b reads refused fresh regs s1 s2 s3
  have h1 : Only [.kept] { s with boot := { s.boot with restored := true } } s1 := fun p hp => by
    cases p <;> first | exact absurd (by decide) hp | simp [Part.same, s1, b]
  have k2 : Keeps [] [Reg.SBD_CNT.READS, Reg.SBD_CNT.REFUSED] s1 s2 := .bump (.bump (.refl ..))
  have k3 : Keeps [] [Reg.HUP_CAP_MEAS.CAP, Reg.HUP_CAP_MEAS.AGE, Reg.HUP_CAP_MEAS.METHOD, Reg.HUP_STATUS.MEAS_FAIL] s2 s3 :=
    .ite (.wr (.wr (.wr (.wr (.refl ..))))) (.refl ..)
  have k4 : Keeps [] [Reg.BRU_RESET_CAUSE.COLD, Reg.BRU_RESET_CAUSE.DRAIN_OK] s3
    ((s3.wr Reg.BRU_RESET_CAUSE.COLD s.sup.nextCause).wr Reg.BRU_RESET_CAUSE.DRAIN_OK (bit s.sup.drainOk)) := .wr (.wr (.refl ..))
  exact h1.trans (((k2.then k3).then k4).only.mono (by decide))

theorem State.loadFields_only (l : List (Nat × Nat)) : Only [] s (s.loadFields l) := by
  unfold State.loadFields
  induction l generalizing s with
  | nil => exact .refl _ _
  | cons e l ih =>
    rw [List.foldl_cons]
    refine Only.trans ?_ (ih _)
    split
    · next x _ => exact (Keeps.wr (rs := [x.1]) (.refl ..) (by simp)).only
    · exact .refl _ _

theorem State.firstKey_ready : s.firstKey.sec.ready = s.sec.ready := by
  unfold State.firstKey
  split
  · exact (congrArg Sec.ready ((State.secRefresh_keeps _).same .keys) :)
  · rfl

theorem State.keyed_ready : s.firstKey.secRefresh.bstRefresh.sec.ready = s.sec.ready := by
  have k := (State.secRefresh_keeps s.firstKey).then (State.bstRefresh_keeps _)
  rw [k.same .keys, State.firstKey_ready]

/-- The kept values, the board's fields and the raw LUNs: what step 2 takes before the first key. -/
def State.takeKept (s : State) : State := (s.restoreKept.loadFields s.board.fields).countTrip.rawTake

theorem State.takeKept_only : Only [.kept] { s with boot := { s.boot with restored := true } } s.takeKept :=
  s.restoreKept_only.trans
    (Only.mono (by decide) (Only.trans (State.loadFields_only _ _) ((State.countTrip_keeps _).then (State.rawTake_keeps _)).only))

theorem exec_rootKeyDerivation (okA okB : Bool) (hs : s.serving = true) (h2 : s.boot.step = 2) :
    let s1 : State := { s with sec := { s.sec with ready := true }, boot := { s.boot with step := 3 } }
    let s2 := s1.takeKept.firstKey.secRefresh.bstRefresh
    exec (.rootKeyDerivation okA okB) s = .next ((((s2.saved.foldl (fun s e => s.applyFeature e.1 (e.2 - 1) 0) s2).ucodeStart okA
      okB).refreshBank.refreshCeiling).wr Reg.BRU_STAGE.STEP 3) := if_pos (by simp [hs, h2])

end

theorem State.thiCreate_keeps (s : State) : Keeps [.engine] [Reg.THI_TABLE.BASE, Reg.THI_TABLE.LAST, Reg.THI_TABLE.WIDTH,
    Reg.THI_TABLE.ORDERED, Reg.THI_STATUS.READY, Reg.THI_STATUS.FREE_UNITS] s s.thiCreate := by
  have k : Steady s { s with thi := [] } := { Steady.refl s with entries := fun _ => rfl }
  have k : Keeps [.engine] [Reg.THI_TABLE.BASE, Reg.THI_TABLE.LAST, Reg.THI_TABLE.WIDTH, Reg.THI_TABLE.ORDERED, Reg.THI_STATUS.READY,
      Reg.THI_STATUS.FREE_UNITS] s { s with thi := [] } :=
    (Keeps.refl ..).part .engine (by decide) (fun q hq => by cases q <;> first | exact absurd rfl hq | simp [Part.same]) rfl k
  exact .wr (.wr (.foldl k fun _ _ => .wr (.wr (.wr (.wr (.refl ..))))))

/-! ### Journal replay (R108, R350, R366) -/

section
variable (s : State)

/-- The state in which the map and the ranges of the durable batches are restored, and the drained versions placed. -/
def State.restored (s : State) : State :=
  let s1 := s.restoreFailed
  let s2 := ({ s1 with blks := Tbl.mapAll {} (fun _ b => b.restart) s1.blks } : State).restartBands
  let r := s2.replayBatches
  ((r.2.2.1.filter (fun x => decide (x.st ≠ .landing))).foldl (fun s x => s.addRange x) r.1).replayDrain r.2.2.2

theorem State.restored_only : Only [.kept, .flash, .ftl, .engine, .log] s s.restored := by
  unfold State.restored
  extract_lets s1 s2 r
  have h1 : Only [.kept, .flash, .ftl, .engine, .log] s s1 := fun p hp => by
    cases p <;> first | exact absurd (by decide) hp | simp [Part.same, s1, State.restoreFailed]
  have k2 : Keeps [.flash] [] s1 s2 := .andThen (.with_blks (.refl ..)) (State.restartBands_keeps _)
  have k3 := (Keeps.foldl (l := r.2.2.1.filter fun x => decide (x.st ≠ .landing)) (g := fun s x => s.addRange x) (.refl _ _ r.1)
    fun u x => u.addRange_keeps x).then (State.replayDrain_keeps _ r.2.2.2)
  exact h1.trans (((k2.then s2.replayBatches_keeps).then k3).only.mono (by decide))

theorem State.firstCapacity_boot : ∃ m, s.firstCapacity.boot = { s.boot with manufactured := m } := by
  unfold State.firstCapacity
  split
  · exact ⟨s.boot.manufactured, rfl⟩
  · exact ⟨true, rfl⟩

theorem State.firstCapacity_drained : s.firstCapacity.ftl.drained = s.ftl.drained := by
  unfold State.firstCapacity
  split <;> rfl

theorem State.refreshCeiling_ftl : ∃ e, s.refreshCeiling.ftl = { s.ftl with excess := e } := by
  unfold State.refreshCeiling
  extract_lets c s1 s2 s3 overs q s4
  refine ⟨overs, ?_⟩
  split <;> rfl

/-- A sample `m` of the last drain is shown, and recorded when it is above the model (R238). -/
def State.jpbSampled (s : State) (m : Nat) (x : Supply) : State :=
  let s2 := ((s.setSup x).wr Reg.FRM_JPB.MEAS m).refreshCeiling
  if s2.rd Reg.FRM_JPB.MODEL < m then s2.event 0x03 0x0103 (s2.rd Reg.FRM_JPB.MODEL + m * 2 ^ 16) else s2

theorem State.takeSample_cases : s.takeSample = s ∨ ∃ m x, s.takeSample = s.jpbSampled m x := by
  unfold State.takeSample
  split
  · exact .inr ⟨_, _, rfl⟩
  · exact .inl rfl

theorem State.ite_event_ftl (c : Prop) [Decidable c] (a b d : Nat) : (if c then s.event a b d else s).ftl = s.ftl := by
  split <;> rfl

theorem State.takeSample_drained : s.takeSample.ftl.drained = s.ftl.drained := by
  obtain h | ⟨m, x, h⟩ := s.takeSample_cases
  · rw [h]
  · obtain ⟨e, he⟩ := State.refreshCeiling_ftl ((s.setSup x).wr Reg.FRM_JPB.MEAS m)
    rw [h]
    have hc : (s.jpbSampled m x).ftl = _ := (State.ite_event_ftl ..).trans he
    rw [hc]
    rfl

/-- Replay ends: the durable mark gives the next OSN, and what is unfinished is shown. -/
def State.replayEnd (u : State) (unfin : Nat) : State :=
  ({ u with ftl := { u.ftl with osn := u.ftl.mark - 1 }, boot := { u.boot with replayed := true, mapLeft := u.mapPages } }
    : State).wr Reg.BRU_RECOVERY.ERASE_UNFIN (min 0xFFFF unfin)

theorem State.replayEnd_unfin (n : Nat) : (s.replayEnd n).rd Reg.BRU_RECOVERY.ERASE_UNFIN = min 0xFFFF n := by
  have h : min 0xFFFF n < 2 ^ 16 := by omega
  exact (State.rd_wr_same ..).trans (Nat.mod_eq_of_lt h)

theorem exec_journalReplay (hs : s.serving = true) (hg : s.boot.stage = .grind) (h4 : 4 ≤ s.boot.step) (hr : s.boot.replayed = false)
    (hu : s.channelsUp = true) : exec .journalReplay s = .next (s.restored.settle.rawBlocks.firstCapacity.takeSample.replayEnd
      (s.blks.filter (fun e => decide (2 ≤ e.2.started ∨ e.2.st = .erasing))).length).refreshFree.refreshJournal.refreshWear.endStep5 := by
  change execJournalReplay s = _
  unfold execJournalReplay
  rw [if_pos (by simp [hs, hg, h4, hr, hu])]
  extract_lets unfin s1 s2 r live s3 s4 s5 q1 q2 s6 s7
  have h5 : s5 = s.restored.settle.rawBlocks.firstCapacity.takeSample := rfl
  rw [← h5]
  rfl

theorem State.replayed_only : Only [.kept, .flash, .ftl, .engine, .log, .supply, .health, .boot] s
    s.restored.settle.rawBlocks.firstCapacity.takeSample := by
  have k := (((State.settle_keeps s.restored).then (State.rawBlocks_keeps _)).then (State.firstCapacity_keeps _)).then (State.takeSample_keeps _)
  exact (s.restored_only.mono (by decide)).trans (k.only.mono (by decide))

theorem State.replayed_drained : s.restored.settle.rawBlocks.firstCapacity.takeSample.ftl.drained = [] := by
  rw [State.takeSample_drained, State.firstCapacity_drained, (State.rawBlocks_keeps _).same .ftl]
  rfl

theorem State.replayed_boot : ∃ m, s.restored.settle.rawBlocks.firstCapacity.takeSample.boot = { s.boot with manufactured := m } := by
  rw [(State.takeSample_keeps _).same .boot]
  obtain ⟨m, h⟩ := State.firstCapacity_boot s.restored.settle.rawBlocks
  have hb : s.restored.settle.rawBlocks.boot = s.boot :=
    (((State.settle_keeps s.restored).then (State.rawBlocks_keeps _)).same .boot).trans (s.restored_only .boot (by decide))
  exact ⟨m, by rw [h, hb]⟩

theorem State.endStep5_boot : s.endStep5.boot = { s.boot with step5 := s.boot.step5 || (s.boot.replayed && s.boot.step4) } := by
  unfold State.endStep5
  split
  · next h =>
    simp only [Bool.and_eq_true] at h
    rw [(State.postRecon_keeps _).same .boot, h.1.1, h.1.2]
    simp [State.wr]
  · next h =>
    have h5 : (s.boot.step5 || (s.boot.replayed && s.boot.step4)) = s.boot.step5 := by
      revert h
      cases s.boot.step5 <;> simp
    rw [h5]

end

/-- Settles O10: each step writes its records before what it starts, and what it starts leaves them. -/
theorem grindSteps : Obligations.GrindSteps := by
  refine ⟨fun s hs => ⟨fun h0 => ?_, fun ok1 ok2 h1 hr => ?_, fun okA okB h2 => ?_, fun h3 => ?_⟩, fun s hs hg h4 hr hu => ?_⟩
  · have hrun : exec .bootCodeLoaded s = .next _ := if_pos (by simp [hs, h0])
    refine ⟨_, hrun, rfl, State.rd_wr_same .., ?_, (Keeps.wr (.with_boot (.setHealth (.wr (.refl ..))))).frame (by decide)⟩
    have k : Keeps [.boot, .health] [] (s.wr Reg.CSQ_PAIRS.ACTIVE 0xFF)
      { (s.wr Reg.CSQ_PAIRS.ACTIVE 0xFF).setHealth 0x081 0 with boot := { s.boot with step := 1 } } := .with_boot (.setHealth (.refl ..))
    exact (State.rd_wr_apart _ _ _ _ _ _ _ _ (by decide)).trans ((k.rd_eq (by decide) ..).trans (State.rd_wr_same ..))
  · intro sig a first second
    have hrun := exec_firmwareSlotCheck s ok1 ok2 hs h1 hr
    extract_lets n pa s2 q1 q2 s3 at hrun
    have k1 := s.slotChecked_keeps a pa
    have k2 : Keeps _ _ s s2 := k1.then (State.slotChecked_keeps _ (3 - a) second)
    refine ⟨_, hrun, fun hf => ?_, fun hf hp => ?_, fun hf hp => ?_⟩
    · rw [if_pos hf]
      have k := State.bootSlot_keeps (s.slotChecked a pa) a n
      rw [k.same .boot, k.same .bootStore]
      exact ⟨rfl, rfl, rfl, State.rd_wr_same ..⟩
    · rw [if_neg (Bool.eq_false_iff.1 hf), if_pos hp]
      have k := State.bootSlot_keeps (s2.event 0x39 0x0101 ((3 - a) + (if pa then 2 else 1) * 4)) (3 - a) 0
      rw [k.same .boot, k.same .bootStore, (k.same .log).1]
      refine ⟨rfl, rfl, rfl, ?_⟩
      rw [State.event_head]
      rfl
    · rw [if_neg (Bool.eq_false_iff.1 hf), if_neg (Bool.eq_false_iff.1 hp), State.event_head]
      have k : Keeps _ _ s3 _ := State.bstRefresh_keeps s3
      have h2 : s2.boot = s.boot := k2.same .boot
      refine ⟨?_, ?_, ?_, rfl⟩
      · change (s3.bstRefresh).boot.step = 1
        rw [k.same .boot]
        exact (congrArg Boot.step h2).trans h1
      · change (s3.bstRefresh).boot.recovery = true
        rw [k.same .boot]
      · exact State.recovery_shown _ _ _ _
  · have hrun := exec_rootKeyDerivation s okA okB hs h2
    extract_lets q1 q2 s1 s2 at hrun
    have k := (((Keeps.foldl (l := s2.saved) (g := fun s e => s.applyFeature e.1 (e.2 - 1) 0) (.refl _ _ s2) fun u e =>
      u.applyFeature_keeps e.1 (e.2 - 1) 0).then (State.ucodeStart_keeps _ okA okB)).then (State.refreshBank_keeps _)).then
      (State.refreshCeiling_keeps _)
    have k2 := ((State.firstKey_keeps s1.takeKept).then (State.secRefresh_keeps _)).then (State.bstRefresh_keeps _)
    have kr := s1.takeKept.keyed_ready
    have o := s1.takeKept_only
    refine ⟨_, hrun, ?_⟩
    have hboot : s2.boot = { s1.boot with restored := true } := (k2.same .boot).trans (o .boot (by decide))
    have hctx : s2.ctxs = s1.ctxs := (k2.same .contexts).trans (o .contexts (by decide))
    have hring : s2.rings = s1.rings := (k2.same .rings).trans (o .rings (by decide))
    have hsec : s2.sec.ready = true := kr.trans (congrArg Sec.ready (o .keys (by decide)))
    clear_value s2
    rw [State.wr_boot, State.wr_sec, State.wr_ctxs, State.wr_rings, k.same .boot, k.same .keys, k.same .contexts, k.same .rings, hboot]
    exact ⟨rfl, rfl, hsec, State.rd_wr_same .., hctx, hring⟩
  · let s1 : State := { s with boot := { s.boot with step := 4 } }
    let s2 := ((s1.thiCreate.dramStart).wr Reg.BRU_STAGE.STEP 4).wr Reg.BRU_STAGE.ADMIN_UP 1
    have hrun : exec .hostInterfaceStart s = .next (s2.fns.foldl (fun s f =>
      if s.on Reg.HIF_ADM_CTRL.ENABLE 0 f then s.wr Reg.HIF_ADM_CTRL.READY 1 0 f else s) s2) := if_pos (by simp [hs, h3])
    have k : Keeps [] [Reg.HIF_ADM_CTRL.READY] s2 (s2.fns.foldl (fun s f =>
      if s.on Reg.HIF_ADM_CTRL.ENABLE 0 f then s.wr Reg.HIF_ADM_CTRL.READY 1 0 f else s) s2) :=
      .foldl (.refl ..) fun _ _ => .ite (.wr (.refl ..)) (.refl ..)
    have k2 := (State.thiCreate_keeps s1).then (State.dramStart_keeps _)
    refine ⟨_, hrun, ?_⟩
    rw [k.same .boot, k.same .contexts, k.rd_eq (by decide), k.rd_eq (by decide)]
    refine ⟨?_, ?_, State.rd_wr_same .., k2.same .contexts⟩
    · exact (congrArg Boot.step (k2.same .boot) :)
    · exact (State.rd_wr_apart _ _ _ _ _ _ _ _ (by decide)).trans (State.rd_wr_same ..)
  · have hrun := exec_journalReplay s hs hg h4 hr hu
    have o := s.replayed_only
    have hd := s.replayed_drained
    obtain ⟨m, hb⟩ := s.replayed_boot
    generalize State.takeSample _ = u at hrun o hd hb
    refine ⟨_, hrun, ?_⟩
    generalize List.length _ = c
    have k := ((State.refreshFree_keeps (u.replayEnd c)).then (State.refreshJournal_keeps _)).then (State.refreshWear_keeps _)
    have ke := State.endStep5_keeps (u.replayEnd c).refreshFree.refreshJournal.refreshWear
    rw [State.endStep5_boot, ke.same .ftl, ke.same .contexts, ke.same .frame, ke.rd_eq (by decide), k.same .boot, k.same .contexts, k.same .frame,
      k.rd_eq (by decide)]
    refine ⟨rfl, hd, rfl, ?_, fun h => ?_, o .contexts (by decide), o .frame (by decide)⟩
    · exact u.replayEnd_unfin c
    · simp [State.replayEnd, State.wr, hb, h]

end Sys2Proof.Machine
end

section
/-! PROOFS. Port events and internal resets (R87, R103, R111, R113, R137 to R145, R528; O14, O15). -/

set_option Elab.async false

namespace Sys2Proof.Machine

/-! ### D3hot (R528, R544) -/

section
variable (s : State)

/-- An event posted leaves every PowerState. -/
theorem State.postAsync_d3 (f t info g : Nat) : ((s.postAsync f t info).ep g).d3 = (s.ep g).d3 := by
  unfold State.postAsync
  extract_lets r e failed v s1 s2
  have hset : ∀ (u : State) (x : Ep), u.eps = s.eps → x.d3 = e.d3 → ((u.setEp f x).ep g).d3 = (s.ep g).d3 := by
    intro u x hu hx
    have hug : u.ep g = s.ep g := by rw [State.ep, hu]; rfl
    rw [State.ep_setEp, hug]
    split
    · next h => rw [hx, h]
    · rfl
  refine (apply_ite (fun u : State => (u.ep g).d3) ..).trans ?_
  split
  · have k : Keeps _ _ s2 _ := (s2.putCqe_keeps f 0 (t % 256 + (min v 65535) * 65536) 0xFFFF 0 8).then (State.signal_keeps _ f 0)
    have hk : ∀ x : State, x.eps = s2.eps → (x.ep g).d3 = (s2.ep g).d3 := fun x h => by simp only [State.ep, h]
    exact (hk _ (k.same .endpoint)).trans (hset s1 _ rfl rfl)
  · split
    · exact hset s _ rfl rfl
    · rfl

theorem State.leaveD3_d3 (f : Nat) : ((s.leaveD3 f).ep f).d3 = false := by
  unfold State.leaveD3
  extract_lets owed
  have hfold : ∀ (l : List (Nat × Nat)) (u : State), ((l.foldl (fun s o => s.postAsync f o.1 o.2) u).ep f).d3 = (u.ep f).d3 := by
    intro l
    induction l with
    | nil => exact fun _ => rfl
    | cons o l ih => exact fun u => (ih _).trans (u.postAsync_d3 ..)
  rw [hfold, State.ep_setEp, if_pos rfl]

theorem State.ep_refreshTarget (f : Nat) : s.refreshTarget.ep f = s.ep f := by
  rw [State.ep, s.refreshTarget_keeps.same .endpoint]
  rfl

theorem State.ep_wakeTlp (f g : Nat) : (s.wakeTlp f).ep g = s.ep g := by
  rw [State.ep, (s.wakeTlp_keeps f).same .endpoint]
  rfl

/-- A write of PowerState enters D3hot with 3 and leaves it with 0. -/
theorem State.pmcsr_enters (f : Nat) {data : Nat} (h : data % 4 = 3) : ((s.pmcsr f data).ep f).d3 = true := by
  unfold State.pmcsr
  extract_lets old st pme v e s1
  rw [if_pos (if_pos h)]
  have h1 : (s1.ep f).d3 = e.d3 := by rw [State.ep_setEp, if_pos rfl]
  split
  · next hd => exact h1.trans hd
  · rw [State.ep_refreshTarget, State.ep_setEp, if_pos rfl]

theorem State.pmcsr_leaves (f : Nat) {data : Nat} (h : data % 4 = 0) : ((s.pmcsr f data).ep f).d3 = false := by
  unfold State.pmcsr
  extract_lets old st pme v e s1
  have hst : st = 0 := (if_neg (by omega)).trans (if_pos h)
  rw [if_neg (by rw [hst]; decide)]
  split
  · rw [State.ep_refreshTarget, State.leaveD3_d3]
  · next hd =>
    rw [State.ep_setEp, if_pos rfl]
    exact Bool.eq_false_iff.2 hd

end

/-! ### Port events -/

theorem widthOk_le {s : State} {w : Nat} (h : s.widthOk w = true) : w ≤ 16 := by
  simp [State.widthOk] at h
  omega

/-- Settles O14: a port's event writes its own registers or its endpoint's record. -/
theorem portEvents : Obligations.PortEvents := by
  intro s fn
  refine ⟨fun hf hp ho => ?_, fun speed width flit hs hf hl hp hr hsp hw hx => ?_, fun width hs hf hl hw hle => ?_, fun hs hf hl => ?_,
    fun data hc h3 => ?_, fun data hc h0 => ?_⟩
  · let s1 := (s.setEp fn { s.ep fn with perst := false }).emit (.wakePin fn false)
    have hep : (s1.ep fn).perst = false := by rw [State.emit_ep_, State.ep_setEp, if_pos rfl]
    have hrun : exec (.perstDeassert fn) s = .next (if s.serving then s1.latchWake Reg.PWR_WAKE.PERST else s1) := by
      change execPerstDeassert fn s = _
      simp [execPerstDeassert, hf, hp, ho, ok, s1]
      split <;> rfl
    have k : Keeps [.power, .buses] [Reg.PWR_WAKE.PERST, Reg.PWR_STATUS.PHASE, Reg.PWR_AVS.REQ_MV, Reg.PWR_AVS.BUSY] s1
        (if s.serving then s1.latchWake Reg.PWR_WAKE.PERST else s1) := .ite (State.latchWake_keeps ..) (.refl ..)
    refine ⟨_, hrun, ?_, k.steady.out.subset (.head _)⟩
    rw [State.ep, k.same .endpoint]
    exact hep
  · have hrun : exec (.linkUp fn speed width flit) s = .next _ := if_pos (by simp [hs, hf, hl, hp, hr, hsp, hw, hx])
    have hw16 := widthOk_le hw
    refine ⟨_, hrun, ?_⟩
    simp (disch := decide) only [State.linkUp, State.on, State.rd_wr_apart, State.rd_wr_same]
    have hb : bit flit < 2 := by cases flit <;> decide
    have hs7 := speed.isLt
    exact ⟨rfl, Nat.mod_eq_of_lt (by show _ < 16; omega), Nat.mod_eq_of_lt (by show _ < 32; omega), Nat.mod_eq_of_lt (by show _ < 32; omega),
      Nat.mod_eq_of_lt hb⟩
  · have hrun : exec (.l0pWidthChange fn width) s = .next _ := if_pos (by simp [hs, hf, hl, hw, hle])
    have hw16 := widthOk_le hw
    exact ⟨_, hrun, (State.rd_wr_same ..).trans (Nat.mod_eq_of_lt (by show width < 32; omega))⟩
  · have hrun : exec (.pmeTurnOff fn) s = .next _ := if_pos (by simp [hs, hf, hl])
    refine ⟨_, hrun, ?_, rfl⟩
    rw [State.emit_ep_, State.ep_setEp, if_pos rfl]
  · exact ⟨_, if_pos hc, by rw [State.ep_wakeTlp, s.pmcsr_enters fn h3]⟩
  · exact ⟨_, if_pos hc, by rw [State.ep_wakeTlp, s.pmcsr_leaves fn h0]⟩

/-! ### Internal resets -/

/-- Settles O15: a drain from VIN leaves the gates; a mismatch fences its pair. -/
theorem internalResets : Obligations.InternalResets := by
  intro s
  refine ⟨fun hs => ?_, fun fn hr hl => ?_, fun fn key hr hk => ?_, fun pair hs hp => ?_, fun hs hp => ?_⟩
  · have hrun : exec .watchdogRestart s = .next (s.halted .watchdog) := if_pos hs
    obtain ⟨m, d, h⟩ := s.halted_sup .watchdog
    refine ⟨_, hrun, ?_⟩
    rw [h]
    exact ⟨rfl, rfl, rfl, rfl, s.halted_charging _, State.serving_of_drain _ (by simp [h])⟩
  · have hrun : exec (.coldReq fn 0xA5) s = .next (s.halted .coldReq) := by
      change execColdReq fn 0xA5 s = _
      unfold execColdReq
      rw [if_pos hr, if_neg (by simp), if_neg (by simp [hl])]
      rfl
    obtain ⟨m, d, h⟩ := s.halted_sup .coldReq
    refine ⟨_, hrun, ?_⟩
    rw [h]
    exact ⟨rfl, rfl, State.serving_of_drain _ (by simp [h])⟩
  · have hrun : exec (.coldReq fn key) s = .next ((s.wakeTlp fn).regEvent 0x10008 fn) := by
      change execColdReq fn key s = _
      unfold execColdReq
      rw [if_pos hr, if_pos hk]
    exact ⟨_, hrun, (s.wakeTlp_keeps fn).same .supply, rfl⟩
  · let a := s.rd Reg.CSQ_PAIRS.ACTIVE
    let f := setBit (s.rd Reg.CSQ_PAIRS.FENCED) pair
    let s1 := ((((s.wr Reg.CSQ_PAIRS.ACTIVE (clearBit a pair)).wr Reg.CSQ_PAIRS.FENCED f).setHealth 0x081 f).bump Reg.CSQ_CNT.TAKEOVERS)
    have hrun : exec (.lockstepMismatch pair) s = .next { s1.partFail with pairs := { takeover := some pair } } := if_pos (by simp [hs, hp])
    have k := s1.partFail_keeps
    have hpair := pair.isLt
    have hact : s1.partFail.rd Reg.CSQ_PAIRS.ACTIVE = clearBit a pair % 2 ^ 8 := by
      rw [k.rd_eq (by decide), State.rd_bump_apart _ _ _ _ _ _ _ _ (by decide), State.setHealth_rd_,
        State.rd_wr_apart _ _ _ _ _ _ _ _ (by decide), State.rd_wr_same]
      rfl
    have hfen : s1.partFail.rd Reg.CSQ_PAIRS.FENCED = f % 2 ^ 8 := by
      rw [k.rd_eq (by decide), State.rd_bump_apart _ _ _ _ _ _ _ _ (by decide), State.setHealth_rd_, State.rd_wr_same]
      rfl
    refine ⟨_, hrun, ?_, ?_, rfl, k.same .contexts⟩
    · change (s1.partFail.rd Reg.CSQ_PAIRS.ACTIVE).testBit pair = false
      rw [hact, Nat.testBit_mod_two_pow, testBit_clearBit_self, Bool.and_false]
    · change (s1.partFail.rd Reg.CSQ_PAIRS.FENCED).testBit pair = true
      rw [hfen, Nat.testBit_mod_two_pow, testBit_setBit_self, Bool.and_true, decide_eq_true_eq]
      exact hpair
  · exact ⟨_, if_pos (by simp [hs, hp]), rfl⟩

end Sys2Proof.Machine
end

section
/-! PROOFS. The host's register accesses (R10 to R15, R121, R582, R583): a write meets each field of its word by its access type, and a read
answers the word (O16, O17). -/

set_option Elab.async false

namespace Sys2Proof.Machine

/-! ### The fields of a word -/

/-- The offset of a field's last element. -/
def Fld.last (q : Fld) : Nat := q.off + q.stride * (q.count - 1)

/-- Two fields never have their lowest bits at the same place, and two pairs of words share no word: their instances lie apart, or their
lowest bits differ and one of them is no pair, or their offsets differ modulo both strides. -/
def Fld.sep (q r : Fld) : Bool :=
  Nat.ble (q.last + 5) r.off || Nat.ble (r.last + 5) q.off
    || (!(Nat.ble 33 q.w && Nat.ble 33 r.w)
      && (!Nat.beq q.lo r.lo || Nat.ble (q.last + 1) r.off || Nat.ble (r.last + 1) q.off
        || !Nat.beq (q.off % Nat.gcd q.stride r.stride) (r.off % Nat.gcd q.stride r.stride)))

/-- Every two fields of a list are apart in this sense. -/
def sepAll : List Fld → Bool
  | [] => true
  | q :: l => l.all q.sep && sepAll l

theorem sepAll_regTable : sepAll regTable = true := by decide +kernel

theorem regTable_lo : ∀ r ∈ regTable, r.lo < 64 := by decide +kernel

/-- Lock bits belong to the device, not to a function. -/
theorem regTable_w1s : ∀ r ∈ regTable, r.acc = .w1s → r.perFn = false := by decide +kernel

theorem sepAll.pairwise {l : List Fld} (h : sepAll l = true) : l.Pairwise (fun q r => q.sep r = true) := by
  induction l with
  | nil => exact .nil
  | cons q l ih =>
    simp only [sepAll, Bool.and_eq_true, List.all_eq_true] at h
    exact .cons h.1 (ih h.2)

theorem mem_fieldsAt {off : Nat} {e : Fld × Nat × Bool} : e ∈ fieldsAt off ↔ e.1 ∈ regTable ∧ e.1.at off = some e.2 := by
  simp only [fieldsAt, List.mem_filterMap, Option.map_eq_some_iff]
  constructor
  · rintro ⟨r, hr, x, hx, rfl⟩
    exact ⟨hr, hx⟩
  · rintro ⟨hr, hx⟩
    exact ⟨e.1, hr, e.2, hx, rfl⟩

/-- Where an element lies whose word, or high word, is at the offset. -/
theorem Fld.at_place {r : Fld} {off i : Nat} {h : Bool} (e : r.at off = some (i, h)) :
    r.off + r.stride * i + (if h then 4 else 0) = off ∧ r.stride * i ≤ r.stride * (r.count - 1) ∧ (h = true → 32 < r.w) := by
  have hit : ∀ (o i : Nat), (if o < r.off then none
      else if r.stride = 0 then (if o = r.off then some 0 else none)
      else if (o - r.off) % r.stride = 0 ∧ (o - r.off) / r.stride < r.count then some ((o - r.off) / r.stride) else none) = some i →
      r.off + r.stride * i = o ∧ r.stride * i ≤ r.stride * (r.count - 1) := by
    intro o i ho
    split at ho
    · cases ho
    · split at ho
      · next hs =>
        split at ho
        · next ho' => simp only [hs]; omega
        · cases ho
      · split at ho
        · next hlt _ hm =>
          cases ho
          have := Nat.div_add_mod (o - r.off) r.stride
          exact ⟨by omega, Nat.mul_le_mul_left _ (by omega)⟩
        · cases ho
  unfold Fld.at at e
  extract_lets hitf at e
  split at e
  · next i' hi =>
    obtain ⟨rfl, rfl⟩ := Prod.mk.inj (Option.some.inj e)
    obtain ⟨h1, h2⟩ := hit _ _ hi
    exact ⟨by simpa using h1, h2, by simp⟩
  · split at e
    · next hw =>
      simp only [Option.map_eq_some_iff] at e
      obtain ⟨i', hi, he⟩ := e
      obtain ⟨rfl, rfl⟩ := Prod.mk.inj he
      obtain ⟨h1, h2⟩ := hit _ _ hi
      exact ⟨by simp; omega, h2, fun _ => hw.1⟩
    · cases e

/-- Two entries of a word have different homes, and are not both of pairs. -/
def Entry.Apart (e d : Fld × Nat × Bool) : Prop :=
  (∀ f g, e.1.key e.2.1 f ≠ d.1.key d.2.1 g) ∧ (32 < e.1.w → 32 < d.1.w → False)

theorem Entry.Apart.symm {e d : Fld × Nat × Bool} (h : Entry.Apart e d) : Entry.Apart d e := ⟨fun f g => (h.1 g f).symm, fun a b => h.2 b a⟩

theorem apart_of_sep {off : Nat} (_ho : off < 0x400000) {e d : Fld × Nat × Bool} (he : e.1.lo < 64) (hd : d.1.lo < 64)
    (hs : e.1.sep d.1 = true) (h1 : e.1.at off = some e.2) (h2 : d.1.at off = some d.2) : Entry.Apart e d := by
  obtain ⟨q, i, hi⟩ := e
  obtain ⟨r, j, hj⟩ := d
  obtain ⟨p1, l1, w1⟩ := Fld.at_place h1
  obtain ⟨p2, l2, w2⟩ := Fld.at_place h2
  dsimp only at *
  simp only [Fld.sep, Fld.last, Bool.or_eq_true, Bool.and_eq_true, Nat.ble_eq, Bool.not_eq_true',
    ← Bool.not_eq_true, Nat.beq_eq] at hs
  have hfar : ¬ (q.off + q.stride * (q.count - 1) + 5 ≤ r.off) ∧ ¬ (r.off + r.stride * (r.count - 1) + 5 ≤ q.off) := by
    split at p1 <;> split at p2 <;> omega
  obtain hs | ⟨hw, hs⟩ := hs
  · omega
  refine ⟨fun f g hk => ?_, fun (hq : 32 < q.w) (hr : 32 < r.w) => by omega⟩
  unfold Fld.key at hk
  dsimp only at hk
  generalize hA : q.scope.code * 2 + (if q.perFn = true then f % 2 else 0) = A at hk
  generalize hB : r.scope.code * 2 + (if r.perFn = true then g % 2 else 0) = B at hk
  have hlo : q.lo = r.lo := by omega
  have hplace : q.off + q.stride * i = r.off + r.stride * j := by split at p1 <;> split at p2 <;> omega
  have hmod : q.off % Nat.gcd q.stride r.stride = r.off % Nat.gcd q.stride r.stride := by
    have m1 : (q.off + q.stride * i) % Nat.gcd q.stride r.stride = q.off % Nat.gcd q.stride r.stride := by
      rw [Nat.add_mod, Nat.mod_eq_zero_of_dvd (Nat.dvd_mul_right_of_dvd (Nat.gcd_dvd_left ..) i)]
      simp
    have m2 : (r.off + r.stride * j) % Nat.gcd q.stride r.stride = r.off % Nat.gcd q.stride r.stride := by
      rw [Nat.add_mod, Nat.mod_eq_zero_of_dvd (Nat.dvd_mul_right_of_dvd (Nat.gcd_dvd_right ..) j)]
      simp
    rw [← m1, ← m2, hplace]
  obtain ((hs | hs) | hs) | hs := hs
  · exact hs hlo
  · omega
  · omega
  · exact hs hmod

theorem fieldsAt_apart {off : Nat} (ho : off < 0x400000) : (fieldsAt off).Pairwise Entry.Apart := by
  unfold fieldsAt
  refine List.Pairwise.filterMap _ ?_ ((sepAll.pairwise sepAll_regTable).imp_of_mem
    (S := fun q r => q.sep r = true ∧ q.lo < 64 ∧ r.lo < 64) fun hq hr h => ⟨h, regTable_lo _ hq, regTable_lo _ hr⟩)
  rintro q r ⟨hs, hq, hr⟩ e he d hd
  simp only [Option.map_eq_some_iff] at he hd
  obtain ⟨x, hx, rfl⟩ := he
  obtain ⟨y, hy, rfl⟩ := hd
  exact apart_of_sep ho hq hr hs hx hy

end Sys2Proof.Machine
end

section
/-! PROOFS. A register write meets each field of its word by its access type (R12 to R15; O16). -/

set_option Elab.async false

namespace Sys2Proof.Machine

/-! ### A write as it meets the fields -/

/-- The home of the element that a write through a function meets. -/
def Entry.home (f : Nat) (e : Fld × Nat × Bool) : Nat := e.1.key e.2.1 (e.1.fn f)

/-- The key under which the low word of a pair waits. -/
def Entry.pair (f : Nat) (e : Fld × Nat × Bool) : Nat := e.1.fn f * 2 ^ 23 + e.1.off

section
variable (u : State) (f off : Nat) (data : Word)

/-- What a field holds once the fields of the word have met the write; lock bits are set later. -/
def State.fieldNew (e : Fld × Nat × Bool) : Nat :=
  let v := e.1.carried data.toNat
  let old := u.rd e.1 e.2.1 (e.1.fn f)
  if e.1.acc = .w1c then old &&& (2 ^ e.1.w - 1 - v)
  else if u.takes off e.1 e.2.1 then
    if 32 < e.1.w then
      if e.2.2 then ((Tbl.get none u.pairLow (Entry.pair f e)).getD (old % 2 ^ 32) + data.toNat * 2 ^ 32) % 2 ^ e.1.w else old
    else if u.accepts e.1 e.2.1 data then v else old
  else old

/-- The field meets a reserved value. -/
def State.refuses (e : Fld × Nat × Bool) : Bool := decide (e.1.w ≤ 32) && u.takes off e.1 e.2.1 && !u.accepts e.1 e.2.1 data

/-- The fields in `done` have met the write. -/
structure Met (done : List (Fld × Nat × Bool)) (a : State × Bool) : Prop where
  only : Only [.pairWords] u a.1
  other : ∀ k, (∀ e ∈ done, k ≠ Entry.home f e) → Tbl.get 0 a.1.regs k = Tbl.get 0 u.regs k
  new : ∀ e ∈ done, a.1.rd e.1 e.2.1 (e.1.fn f) = u.fieldNew f off data e
  flag : a.2 = done.any (u.refuses off data)
  waits : ∀ k, (∀ e ∈ done, 32 < e.1.w → k ≠ Entry.pair f e) → Tbl.get none a.1.pairLow k = Tbl.get none u.pairLow k
  low : ∀ e ∈ done, 32 < e.1.w → u.takes off e.1 e.2.1 = true → e.2.2 = false → Tbl.get none a.1.pairLow (Entry.pair f e) = some data.toNat

/-- A field that has not yet met the write reads as before it. -/
theorem Met.rd_eq {done : List (Fld × Nat × Bool)} {a : State × Bool} (h : Met u f off data done a) {q : Fld} {j g : Nat}
    (hq : ∀ e ∈ done, q.key j g ≠ Entry.home f e) : a.1.rd q j g = u.rd q j g := by
  unfold State.rd
  rw [h.other _ hq]

theorem Fld.carried_lt (r : Fld) (n : Nat) : r.carried n < 2 ^ r.w := Nat.mod_lt _ (Nat.two_pow_pos _)

/-- A write as it meets one field, by the field's access type. -/
theorem writeField_eq {e : Fld × Nat × Bool} (he : e.1 ≠ Reg.HIF_ADM_CTRL.ENABLE) (a : State × Bool) :
    State.writeField f data.toNat (u.locked off) a e =
      if e.1.acc = .w1c then
        (a.1.wr e.1 (a.1.rd e.1 e.2.1 (e.1.fn f) &&& (2 ^ e.1.w - 1 - e.1.carried data.toNat)) e.2.1 (e.1.fn f), a.2)
      else if u.takes off e.1 e.2.1 then
        if 32 < e.1.w then (a.1.writePair e.1 e.2.1 (e.1.fn f) data.toNat e.2.2, a.2)
        else if a.1.accepts e.1 e.2.1 data then (a.1.wr e.1 (e.1.carried data.toNat) e.2.1 (e.1.fn f), a.2)
        else (a.1, true)
      else a := by
  unfold State.writeField State.takes
  cases hacc : e.1.acc
  case rw => cases hf : fixedInstance e.1 e.2.1 <;> simp [hacc, he, hf, State.accepts]
  case rwl => cases hf : fixedInstance e.1 e.2.1 <;> cases u.locked off <;> simp [hacc, he, hf, State.accepts]
  all_goals simp [hacc]

theorem State.fieldNew_lt (e : Fld × Nat × Bool) : u.fieldNew f off data e < 2 ^ e.1.w := by
  unfold State.fieldNew
  extract_lets v old
  have hold : old < 2 ^ e.1.w := State.rd_lt ..
  have hv : v < 2 ^ e.1.w := Fld.carried_lt ..
  split
  · exact Nat.lt_of_le_of_lt Nat.and_le_left hold
  · split
    · split
      · split
        · exact Nat.mod_lt _ (Nat.two_pow_pos _)
        · exact hold
      · split <;> assumption
    · exact hold

variable {u f off data}

/-- A field met by a write of its own home. -/
theorem Met.wrote {done : List (Fld × Nat × Bool)} {a : State × Bool} (h : Met u f off data done a) {e : Fld × Nat × Bool}
    (hd : ∀ d ∈ done, Entry.Apart d e) {v : Nat} (hv : v % 2 ^ e.1.w = u.fieldNew f off data e) (hr : u.refuses off data e = false)
    (hp : 32 < e.1.w → u.takes off e.1 e.2.1 = false) :
    Met u f off data (done ++ [e]) (a.1.wr e.1 v e.2.1 (e.1.fn f), a.2) where
  only := Only.then_wr h.only _ _ _ _
  other := fun k hk => by
    rw [← h.other k fun d hm => hk d (List.mem_append_left _ hm)]
    exact Tbl.get_set_ne _ _ _ (hk e (by simp))
  new := fun d hm => by
    obtain hm | hm := List.mem_append.1 hm
    · rw [← h.new d hm]
      exact State.rd_wr_other _ _ _ _ _ _ _ _ ((hd d hm).1 _ _)
    · rw [List.mem_singleton.1 hm, State.rd_wr_same, hv]
  flag := by rw [h.flag, List.any_append]; simp [hr]
  waits := fun k hk => h.waits k fun d hm => hk d (List.mem_append_left _ hm)
  low := fun d hm hw ht hl => by
    obtain hm | hm := List.mem_append.1 hm
    · exact h.low d hm hw ht hl
    · rw [List.mem_singleton.1 hm] at hw ht
      rw [hp hw] at ht
      cases ht

/-- A field that the write leaves. -/
theorem Met.left {done : List (Fld × Nat × Bool)} {a : State × Bool} (h : Met u f off data done a) {e : Fld × Nat × Bool}
    (hd : ∀ d ∈ done, Entry.Apart d e) (hv : u.rd e.1 e.2.1 (e.1.fn f) = u.fieldNew f off data e)
    (hp : 32 < e.1.w → u.takes off e.1 e.2.1 = false) :
    Met u f off data (done ++ [e]) (a.1, a.2 || u.refuses off data e) where
  only := h.only
  other := fun k hk => h.other k fun d hm => hk d (List.mem_append_left _ hm)
  new := fun d hm => by
    obtain hm | hm := List.mem_append.1 hm
    · exact h.new d hm
    · rw [List.mem_singleton.1 hm, ← hv]
      exact Met.rd_eq u f off data h fun d hm => ((hd d hm).symm).1 _ _
  flag := by rw [h.flag, List.any_append]; simp
  waits := fun k hk => h.waits k fun d hm => hk d (List.mem_append_left _ hm)
  low := fun d hm hw ht hl => by
    obtain hm | hm := List.mem_append.1 hm
    · exact h.low d hm hw ht hl
    · rw [List.mem_singleton.1 hm] at hw ht
      rw [hp hw] at ht
      cases ht

/-- A pair met by one of its words. -/
theorem Met.paired {done : List (Fld × Nat × Bool)} {a : State × Bool} (h : Met u f off data done a) {e : Fld × Nat × Bool}
    (hd : ∀ d ∈ done, Entry.Apart d e) (hc : e.1.acc ≠ .w1c) (ht : u.takes off e.1 e.2.1 = true) (hw : 32 < e.1.w) :
    Met u f off data (done ++ [e]) (a.1.writePair e.1 e.2.1 (e.1.fn f) data.toNat e.2.2, a.2) := by
  have hnone : ∀ d ∈ done, ¬ 32 < d.1.w := fun d hm hdw => (hd d hm).2 hdw hw
  have hlow : Tbl.get none a.1.pairLow (Entry.pair f e) = Tbl.get none u.pairLow (Entry.pair f e) :=
    h.waits _ fun d hm hdw => absurd hdw (hnone d hm)
  have hrd : a.1.rd e.1 e.2.1 (e.1.fn f) = u.rd e.1 e.2.1 (e.1.fn f) := Met.rd_eq u f off data h fun d hm => ((hd d hm).symm).1 _ _
  have hr : u.refuses off data e = false := by simp [State.refuses, Nat.not_le.2 hw]
  have hnew : u.fieldNew f off data e = if e.2.2 then ((Tbl.get none u.pairLow (Entry.pair f e)).getD (u.rd e.1 e.2.1 (e.1.fn f) % 2 ^ 32) +
      data.toNat * 2 ^ 32) % 2 ^ e.1.w else u.rd e.1 e.2.1 (e.1.fn f) := (if_neg hc).trans ((if_pos ht).trans (if_pos hw))
  cases hh : e.2.2 with
  | true =>
    rw [hh, if_pos rfl] at hnew
    refine ⟨fun p hp => ?_, fun k hk => ?_, fun d hm => ?_, ?_, fun k hk => ?_, fun d hm hdw _ hl => ?_⟩
    · exact (h.only.trans fun p hp => by cases p <;> first | exact absurd (by decide) hp | simp [Part.same, State.writePair, State.wr]) p hp
    · rw [← h.other k fun d hm => hk d (List.mem_append_left _ hm)]
      exact Tbl.get_set_ne 0 a.1.regs _ (hk e (by simp))
    · obtain hm | hm := List.mem_append.1 hm
      · rw [← h.new d hm]
        exact State.rd_wr_other _ _ _ _ _ _ _ _ ((hd d hm).1 _ _)
      · rw [List.mem_singleton.1 hm, hnew, ← hlow, ← hrd]
        exact State.rd_wr_same ..
    · rw [h.flag, List.any_append]
      simp [hr]
    · rw [← h.waits k fun d hm => hk d (List.mem_append_left _ hm)]
      exact Tbl.get_set_ne none a.1.pairLow none (hk e (by simp) hw)
    · obtain hm | hm := List.mem_append.1 hm
      · exact absurd hdw (hnone d hm)
      · rw [List.mem_singleton.1 hm, hh] at hl
        cases hl
  | false =>
    rw [hh, if_neg (by decide)] at hnew
    refine ⟨fun p hp => ?_, fun k hk => ?_, fun d hm => ?_, ?_, fun k hk => ?_, fun d hm hdw _ hl => ?_⟩
    · exact (h.only.trans fun p hp => by cases p <;> first | exact absurd (by decide) hp | simp [Part.same, State.writePair]) p hp
    · exact h.other k fun d hm => hk d (List.mem_append_left _ hm)
    · obtain hm | hm := List.mem_append.1 hm
      · exact h.new d hm
      · rw [List.mem_singleton.1 hm, hnew]
        exact hrd
    · rw [h.flag, List.any_append]
      simp [hr]
    · rw [← h.waits k fun d hm => hk d (List.mem_append_left _ hm)]
      exact Tbl.get_set_ne none a.1.pairLow (some data.toNat) (hk e (by simp) hw)
    · obtain hm | hm := List.mem_append.1 hm
      · exact absurd hdw (hnone d hm)
      · rw [List.mem_singleton.1 hm]
        exact Tbl.get_set_self none a.1.pairLow (Entry.pair f e) (some data.toNat)

/-- One more field meets the write. -/
theorem Met.field {done : List (Fld × Nat × Bool)} {a : State × Bool} (h : Met u f off data done a) {e : Fld × Nat × Bool}
    (hd : ∀ d ∈ done, Entry.Apart d e) (he : e.1 ≠ Reg.HIF_ADM_CTRL.ENABLE) (hrel : a.1.accepts e.1 e.2.1 data = u.accepts e.1 e.2.1 data) :
    Met u f off data (done ++ [e]) (State.writeField f data.toNat (u.locked off) a e) := by
  have hrd : a.1.rd e.1 e.2.1 (e.1.fn f) = u.rd e.1 e.2.1 (e.1.fn f) := Met.rd_eq u f off data h fun d hm => ((hd d hm).symm).1 _ _
  rw [writeField_eq u f off data he]
  by_cases hc : e.1.acc = .w1c
  · have ht : u.takes off e.1 e.2.1 = false := by simp [State.takes, hc]
    have hnew := State.fieldNew_lt u f off data e
    rw [if_pos hc, hrd]
    refine h.wrote hd ?_ (by simp [State.refuses, ht]) fun _ => ht
    rw [State.fieldNew, if_pos hc] at hnew ⊢
    exact Nat.mod_eq_of_lt hnew
  · rw [if_neg hc]
    cases ht : u.takes off e.1 e.2.1 with
    | false =>
      have hl := h.left hd (by rw [State.fieldNew, if_neg hc, ht]; rfl) fun _ => ht
      have hr : u.refuses off data e = false := by simp [State.refuses, ht]
      rw [hr, Bool.or_false] at hl
      exact hl
    | true =>
      rw [if_pos rfl]
      by_cases hw : 32 < e.1.w
      · rw [if_pos hw]
        exact h.paired hd hc ht hw
      · rw [if_neg hw, hrel]
        cases ha : u.accepts e.1 e.2.1 data with
        | true =>
          rw [if_pos rfl]
          refine h.wrote hd ?_ (by simp [State.refuses, ha]) fun hw' => absurd hw' hw
          rw [State.fieldNew, if_neg hc, if_pos ht, if_neg hw, if_pos ha, Nat.mod_eq_of_lt (Fld.carried_lt ..)]
        | false =>
          have hl := h.left hd (by rw [State.fieldNew, if_neg hc, if_pos ht, if_neg hw, ha]; rfl) fun hw' => absurd hw' hw
          have hr : u.refuses off data e = true := by simp [State.refuses, ht, ha, Nat.not_lt.1 hw]
          rw [hr, Bool.or_true] at hl
          exact hl

/-- A field out of the word reads as before the write. -/
theorem Met.rd_away {done : List (Fld × Nat × Bool)} {a : State × Bool} (h : Met u f off data done a) (hs : done ⊆ fieldsAt off)
    (ho : off < 0x400000) {q : Fld} (hq : q.off < 2 ^ 23 ∧ q.lo < 64)
    (hne : (fieldsAt off).all (fun e => e.1.off + e.1.stride * e.2.1 != q.off) = true) : a.1.rd q = u.rd q := by
  refine Met.rd_eq u f off data h fun e he hk => ?_
  obtain ⟨hr, hat⟩ := mem_fieldsAt.1 (hs he)
  have hlo := regTable_lo _ hr
  obtain ⟨hplace, _⟩ := Fld.at_place (r := e.1) (i := e.2.1) (h := e.2.2) hat
  have hd : e.1.off + e.1.stride * e.2.1 ≠ q.off := by simpa using List.all_eq_true.1 hne e (hs he)
  unfold Entry.home Fld.key at hk
  generalize e.1.stride * e.2.1 = n at *
  generalize e.1.scope.code * 2 + _ = A at hk
  generalize q.scope.code * 2 + _ = B at hk
  omega

theorem entry_apart (ho : off < 0x400000) {e d : Fld × Nat × Bool} (he : e ∈ fieldsAt off) (hd : d ∈ fieldsAt off) (hne : e ≠ d) :
    Entry.Apart e d :=
  have : Std.Symm Entry.Apart := ⟨fun _ _ => Entry.Apart.symm⟩
  (fieldsAt_apart ho).forall he hd hne

/-- What a field of the word leaves to the relations does not depend on which of its fields have met the write. -/
theorem Met.left_eq {done : List (Fld × Nat × Bool)} {a : State × Bool} (h : Met u f off data done a) (hs : done ⊆ fieldsAt off)
    (ho : off < 0x400000) {q : Fld} (hq : (q, 0, false) ∈ fieldsAt off) (hp : q.perFn = false) (hc : q.acc ≠ .w1c) (hw : q.w ≤ 32) :
    a.1.left q 0 data.toNat = u.left q 0 data.toNat := by
  unfold State.left
  cases hi : q.inRange (q.carried data.toNat) with
  | true => rfl
  | false =>
    have hfn : q.fn f = 0 := if_neg (by simp [hp])
    by_cases hm : (q, 0, false) ∈ done
    · have hn := h.new _ hm
      have hacc : u.accepts q 0 data = false := by simp [State.accepts, hi]
      simp only [State.fieldNew, hfn, hc, if_false, Nat.not_lt.2 hw, hacc, ite_self, Bool.false_eq_true] at hn
      exact hn
    · refine Met.rd_eq u f off data h fun e he => ?_
      exact (entry_apart ho hq (hs he) fun hqe => hm (hqe ▸ he)).1 0 _

/-- The place of a field that is no array. -/
theorem off_of_at {r : Fld} {i : Nat} {hi : Bool} (e : r.at off = some (i, hi)) (hs : r.stride = 0) (hw : r.w ≤ 32) : off = r.off := by
  obtain ⟨h1, _, h3⟩ := Fld.at_place e
  cases hi with
  | true => exact absurd (h3 rfl) (Nat.not_lt.2 hw)
  | false => simpa [hs] using h1.symm

/-- The relations that a value must keep do not depend on which fields of the word have met the write. -/
theorem Met.accepts_eq {done : List (Fld × Nat × Bool)} {a : State × Bool} (h : Met u f off data done a) (hs : done ⊆ fieldsAt off)
    (ho : off < 0x400000) (hq : quietOffset off = true) {e : Fld × Nat × Bool} (he : e ∈ fieldsAt off) :
    a.1.accepts e.1 e.2.1 data = u.accepts e.1 e.2.1 data := by
  obtain ⟨r, i, hi⟩ := e
  obtain ⟨_, hat⟩ := mem_fieldsAt.1 he
  dsimp only at *
  have hcap : r = Reg.FRM_BUDGET.CAP ∨ r = Reg.PWR_P1_CFG.CAP → a.1.capFloor = u.capFloor := by
    rintro (rfl | rfl) <;> cases off_of_at hat rfl (by decide) <;> unfold State.capFloor <;>
      rw [Met.rd_away h hs ho (q := Reg.FRM_BASE.BASE) (by decide) (by decide +kernel)]
  have hsup : r = Reg.HUP_BO_CFG.FALL ∨ r = Reg.HUP_BO_CFG.RISE → a.1.left Reg.HUP_BO_CFG.FALL 0 data.toNat =
      u.left Reg.HUP_BO_CFG.FALL 0 data.toNat ∧ a.1.left Reg.HUP_BO_CFG.RISE 0 data.toNat = u.left Reg.HUP_BO_CFG.RISE 0 data.toNat := by
    rintro (rfl | rfl) <;> cases off_of_at hat rfl (by decide) <;>
      exact ⟨h.left_eq hs ho (by decide +kernel) rfl (by decide) (by decide), h.left_eq hs ho (by decide +kernel) rfl (by decide) (by decide)⟩
  have hquota : r = Reg.DRC_CFG.QUOTA_TRN → a.1.left Reg.DRC_CFG.QUOTA 0 data.toNat = u.left Reg.DRC_CFG.QUOTA 0 data.toNat := by
    rintro rfl
    cases off_of_at hat rfl (by decide)
    exact h.left_eq hs ho (by decide +kernel) rfl (by decide) (by decide)
  have hnand : r = Reg.THM_CFG2.NAND_STOP → a.1.rd Reg.THM_CFG.NAND_SP = u.rd Reg.THM_CFG.NAND_SP := by
    rintro rfl
    cases off_of_at hat rfl (by decide)
    exact h.rd_away hs ho (by decide) (by decide +kernel)
  have hext : r = Reg.THM_CFG2.EXT_STOP → a.1.rd Reg.THM_CFG.EXT_SP = u.rd Reg.THM_CFG.EXT_SP := by
    rintro rfl
    cases off_of_at hat rfl (by decide)
    exact h.rd_away hs ho (by decide) (by decide +kernel)
  have hcrit : r ≠ Reg.BPM_CFG.CRIT := by
    rintro rfl
    cases off_of_at hat rfl (by decide)
    exact absurd hq (by decide)
  have hown : ¬ (r = Reg.BPM_OWN.MIN ∨ r = Reg.BPM_OWN.MAX) := by
    have hout : ¬ (0x150100 ≤ off ∧ off < 0x150140) := by
      intro hin
      simp [quietOffset, hin] at hq
    obtain ⟨hplace, hlast, _⟩ := Fld.at_place hat
    rintro (rfl | rfl) <;> simp only [Reg.BPM_OWN.MIN, Reg.BPM_OWN.MAX] at hplace hlast <;> split at hplace <;> omega
  unfold State.accepts State.related
  simp only [hcrit, hown, if_false]
  refine congrArg _ (ite_congr rfl (fun _ => rfl) fun _ => ite_congr rfl (fun e => ?_) fun _ => ite_congr rfl (fun e => ?_) fun _ =>
    ite_congr rfl (fun e => ?_) fun _ => ite_congr rfl (fun _ => rfl) fun _ => ite_congr rfl (fun _ => rfl) fun _ =>
    ite_congr rfl (fun _ => rfl) fun _ => ite_congr rfl (fun _ => rfl) fun _ => ite_congr rfl (fun e => ?_) fun _ =>
    ite_congr rfl (fun e => ?_) fun _ => ite_congr rfl (fun e => ?_) fun _ => rfl)
  · rw [(hsup e).1, (hsup e).2]
  · rw [hcap (.inl e)]
  · rw [hcap (.inr e)]
  · rw [hquota e]
  · rw [hnand e]
  · rw [hext e]

/-- Every field of the word has met the write. -/
theorem Met.fields (ho : off < 0x400000) (hq : quietOffset off = true) (l done : List (Fld × Nat × Bool)) (hl : done ++ l = fieldsAt off)
    {a : State × Bool} (h : Met u f off data done a) :
    Met u f off data (fieldsAt off) (l.foldl (State.writeField f data.toNat (u.locked off)) a) := by
  induction l generalizing done a with
  | nil => rwa [← hl, List.append_nil]
  | cons e l ih =>
    have he : e ∈ fieldsAt off := by simp [← hl]
    have hs : done ⊆ fieldsAt off := by simp [← hl]
    have hap : ∀ d ∈ done, Entry.Apart d e := by
      have hp := fieldsAt_apart ho
      rw [← hl, List.pairwise_append] at hp
      exact fun d hd => hp.2.2 d hd e (by simp)
    have hne : e.1 ≠ Reg.HIF_ADM_CTRL.ENABLE := by
      intro hen
      have hat := (mem_fieldsAt.1 he).2
      rw [hen] at hat
      cases off_of_at (i := e.2.1) (hi := e.2.2) hat rfl (by decide)
      exact absurd hq (by decide)
    exact ih (done ++ [e]) (by rw [← hl, List.append_assoc]; rfl) (h.field hap hne (h.accepts_eq hs ho hq he))

end

/-! ### Lock bits, set last (R583) -/

section
variable (data : Nat)

theorem writeLock_eq (s : State) (e : Fld × Nat × Bool) : State.writeLock data s e =
    if e.1.acc = .w1s ∧ e.1 ≠ Reg.GLB_LOCK_ALL.LOCK_ALL then s.wr e.1 (s.rd e.1 e.2.1 ||| e.1.carried data) e.2.1 else s := by
  unfold State.writeLock
  cases hacc : e.1.acc
  case w1s => by_cases h : e.1 = Reg.GLB_LOCK_ALL.LOCK_ALL <;> simp [h]
  all_goals simp

theorem locks_only (l : List (Fld × Nat × Bool)) (s : State) : Only [] s (l.foldl (State.writeLock data) s) := by
  induction l generalizing s with
  | nil => exact .refl _ _
  | cons e l ih =>
    refine Only.trans ?_ (ih _)
    rw [writeLock_eq]
    split
    · exact Only.then_wr (.refl _ _) _ _ _ _
    · exact .refl _ _

theorem locks_get (l : List (Fld × Nat × Bool)) (s : State) {k : Nat} (hk : ∀ e ∈ l, e.1.acc = .w1s → k ≠ e.1.key e.2.1 0) :
    Tbl.get 0 (l.foldl (State.writeLock data) s).regs k = Tbl.get 0 s.regs k := by
  induction l generalizing s with
  | nil => rfl
  | cons e l ih =>
    rw [List.foldl_cons, ih _ fun d hd => hk d (.tail _ hd), writeLock_eq]
    split
    · next h => exact Tbl.get_set_ne _ _ _ (hk e (.head _) h.1)
    · rfl

/-- A lock bit is set by a 1 and stays with a 0. -/
theorem locks_rd (l : List (Fld × Nat × Bool)) (s : State) (hl : l.Pairwise Entry.Apart) {e : Fld × Nat × Bool} (he : e ∈ l)
    (hacc : e.1.acc = .w1s) (hne : e.1 ≠ Reg.GLB_LOCK_ALL.LOCK_ALL) :
    (l.foldl (State.writeLock data) s).rd e.1 e.2.1 = s.rd e.1 e.2.1 ||| e.1.carried data := by
  induction l generalizing s with
  | nil => cases he
  | cons d l ih =>
    obtain ⟨hd, hl⟩ := List.pairwise_cons.1 hl
    rw [List.foldl_cons]
    obtain rfl | he := List.mem_cons.1 he
    · rw [State.rd, locks_get _ _ _ fun d' h _ => (hd d' h).1 0 0, writeLock_eq, if_pos ⟨hacc, hne⟩]
      refine (State.rd_wr_same ..).trans (Nat.mod_eq_of_lt ?_)
      exact Nat.or_lt_two_pow (State.rd_lt ..) (Fld.carried_lt ..)
    · rw [ih _ hl he, writeLock_eq]
      split
      · rw [State.rd_wr_other _ _ _ _ _ _ _ _ ((hd e he).symm.1 0 0)]
      · rfl

end

/-! ### Register writes -/

theorem exec_registerWrite {s : State} {fn : Fn} {off : Nat} (data : Word) (hr : s.reachable fn = true) (ho : off < 0x400000) :
    exec (.registerWrite fn off data none) s =
      if off % 4 ≠ 0 then .next ((s.wakeTlp fn).accessEvent off fn) else .next ((s.wakeTlp fn).writeWord_ fn off data.toNat) := by
  have hc : (s.reachable fn && decide (off < 0x400000)) = true := by simp [hr, ho]
  refine (if_pos hc).trans ?_
  simp only [Option.isSome_none, Bool.false_eq_true, if_false]

/-- What follows from a write's new values, and what its action bits start, is nothing at a quiet offset. -/
theorem State.quiet_after (v : State) (fn : Fn) {off : Nat} (data : Nat) (hq : quietOffset off = true) :
    (v.afterWrite off data).act fn off data = v := by
  simp [quietOffset] at hq
  have ha : v.afterWrite off data = v := by
    unfold State.afterWrite
    rw [if_neg (by omega), if_neg (by omega), if_neg (by omega), if_neg (by omega), if_neg (by omega), if_neg (by omega), if_neg (by omega)]
  rw [ha, State.act, if_neg (by omega), if_neg (by omega), if_neg (by omega), if_neg (by omega), if_neg (by omega), if_neg (by omega),
    if_neg (by omega), dif_neg (by omega)]

/-- A reserved value that was met is recorded. -/
def recorded (off f : Nat) (a : State × Bool) : State := if a.2 then a.1.regEvent off f else a.1

/-- A write at a quiet offset meets the fields of its word, records a reserved value, and sets lock bits. -/
theorem State.writeWord_quiet (u : State) (fn : Fn) {off : Nat} (data : Nat) (hq : quietOffset off = true) :
    u.writeWord_ fn off data = (fieldsAt off).foldl (State.writeLock data)
      (recorded off fn ((fieldsAt off).foldl (State.writeField fn data (u.locked off)) (u.endCapture fn off, false))) := by
  have hq' := hq
  simp [quietOffset] at hq'
  unfold State.writeWord_
  rw [if_neg (by omega), if_neg (by omega)]
  exact State.quiet_after _ fn data hq

theorem State.endCapture_pairLow (u : State) (f off : Nat) : (u.endCapture f off).pairLow = u.pairLow := by
  unfold State.endCapture
  extract_lets s1
  have h1 : s1.pairLow = u.pairLow := by
    subst s1
    split <;> rfl
  split
  · exact h1
  · exact h1

section
variable {u : State} {f off : Nat} {data : Word} {a : State × Bool} (h : Met u f off data (fieldsAt off) a)

theorem recorded_keeps (off f : Nat) (a : State × Bool) : Keeps [.log] [] a.1 (recorded off f a) := .ite (.regEvent (.refl ..)) (.refl ..)

theorem recorded_events (off f : Nat) (a : State × Bool) (ha : a.1.events = u.events ∧ a.1.eventTotal = u.eventTotal) :
    if a.2 = true then (recorded off f a).events.head?.map (fun e => (e.code, e.detail, e.func)) = some (0x0002, off, f)
        ∧ (recorded off f a).eventTotal = u.eventTotal + 1
      else (recorded off f a).events = u.events ∧ (recorded off f a).eventTotal = u.eventTotal := by
  unfold recorded
  cases a.2 with
  | true => exact ⟨rfl, congrArg (· + 1) ha.2⟩
  | false => exact ha

/-- A field that takes its value is neither cleared nor set by ones. -/
theorem takes_acc {r : Fld} {i : Nat} (ht : u.takes off r i = true) : r.acc ≠ .w1c ∧ r.acc ≠ .w1s := by
  constructor <;> intro hacc <;> simp [State.takes, hacc] at ht

include h in
/-- A field reads as it met the write, unless it is a lock bit. -/
theorem Met.shown_rd (ho : off < 0x400000) {e : Fld × Nat × Bool} (he : e ∈ fieldsAt off) (hacc : e.1.acc ≠ .w1s) :
    ((fieldsAt off).foldl (State.writeLock data.toNat) (recorded off f a)).rd e.1 e.2.1 (e.1.fn f) = u.fieldNew f off data e := by
  rw [← h.new e he, ← (recorded_keeps off f a).rd_eq fun _ hm => absurd hm List.not_mem_nil]
  unfold State.rd
  rw [locks_get]
  intro d hd hda hk
  by_cases hed : e = d
  · exact hacc (hed ▸ hda)
  · exact (entry_apart ho he hd hed).1 _ _ hk

include h in
/-- A lock bit of the word. -/
theorem Met.shown_lock (ho : off < 0x400000) (h8 : off ≠ 8) {e : Fld × Nat × Bool} (he : e ∈ fieldsAt off) (hacc : e.1.acc = .w1s) :
    ((fieldsAt off).foldl (State.writeLock data.toNat) (recorded off f a)).rd e.1 e.2.1 = u.rd e.1 e.2.1 ||| e.1.carried data.toNat := by
  obtain ⟨hr, hat⟩ := mem_fieldsAt.1 he
  have hfn : e.1.fn f = 0 := if_neg (by simp [regTable_w1s _ hr hacc])
  have hold : a.1.rd e.1 e.2.1 0 = u.rd e.1 e.2.1 0 := by
    have hn := h.new e he
    rw [hfn] at hn
    rw [hn]
    simp [State.fieldNew, State.takes, hacc, hfn]
  rw [locks_rd _ _ _ (fieldsAt_apart ho) he hacc, (recorded_keeps off f a).rd_eq fun _ hm => absurd hm List.not_mem_nil, hold]
  intro hl
  rw [hl] at hat
  exact h8 (off_of_at (i := e.2.1) (hi := e.2.2) hat rfl (by decide))

end

/-- Settles O16: every field of the word meets the write by its access type, whatever the others do. -/
theorem registerWriteTypes : Obligations.RegisterWriteTypes := by
  intro s fn off data hr ho u
  refine ⟨fun h4 hq => ?_, fun h4 => ?_⟩
  · have hrun := exec_registerWrite data hr ho
    rw [if_neg (by omega)] at hrun
    have hrun := hrun.trans (congrArg Host.Outcome.next (State.writeWord_quiet u fn data.toNat hq))
    have hcap := u.endCapture_keeps fn off
    have h : Met u fn off data [] (u.endCapture fn off, false) :=
      ⟨hcap.only, fun k _ => hcap.regs k (fun ⟨_, hm, _⟩ => absurd hm List.not_mem_nil), nofun, rfl, fun k _ => by rw [u.endCapture_pairLow], nofun⟩
    replace h := h.fields ho hq (fieldsAt off) [] rfl
    generalize (fieldsAt off).foldl (State.writeField fn data.toNat (u.locked off)) (u.endCapture fn off, false) = a at h hrun
    have hk := recorded_keeps off fn a
    have hlk := locks_only data.toNat (fieldsAt off) (recorded off fn a)
    have h8 : off ≠ 8 := by
      rintro rfl
      exact absurd hq (by decide)
    have hev := recorded_events off fn a (h.only .log (by decide))
    have hlog := hlk .log (by decide)
    refine ⟨_, hrun, ?_, fun k hn => ?_, fun e he hw => ?_, ?_, fun e he hw ht => ?_⟩
    · exact (h.only.mono (by decide)).trans ((hk.only.mono (by decide)).trans (hlk.mono (by decide)))
    · rw [locks_get _ _ _ fun e he _ => (hn e he).2, hk.regs _ (fun ⟨_, hm, _⟩ => absurd hm List.not_mem_nil)]
      exact h.other k fun e he => (hn e he).1
    · refine ⟨fun hc => ?_, fun hc => h.shown_lock ho h8 he hc, fun ht ha => ?_, fun ht ha => ?_, fun ht hc hs => ?_⟩
      · rw [h.shown_rd ho he (by simp [hc]), State.fieldNew, if_pos hc]
      · rw [h.shown_rd ho he (takes_acc ht).2, State.fieldNew, if_neg (takes_acc ht).1, if_pos ht, if_neg (Nat.not_lt.2 hw), if_pos ha]
      · rw [h.shown_rd ho he (takes_acc ht).2, State.fieldNew, if_neg (takes_acc ht).1, if_pos ht, if_neg (Nat.not_lt.2 hw), ha]
        rfl
      · rw [h.shown_rd ho he hs, State.fieldNew, if_neg hc, ht]
        rfl
    · have hf : a.2 = (fieldsAt off).any (fun e => decide (e.1.w ≤ 32) && u.takes off e.1 e.2.1 && !u.accepts e.1 e.2.1 data) := h.flag
      rw [← hf, hlog.1, hlog.2]
      exact hev
    · have hnew := h.shown_rd ho he (takes_acc ht).2
      rw [State.fieldNew, if_neg (takes_acc ht).1, if_pos ht, if_pos hw] at hnew
      refine ⟨fun hl => ⟨hnew.trans (if_neg (by simp [hl])), ?_⟩, fun hl => hnew.trans (if_pos hl)⟩
      rw [(hlk .pairWords (by decide)).1, (hk.same .pairWords).1]
      exact h.low e he hw ht hl
  · have hrun := exec_registerWrite data hr ho
    rw [if_pos h4] at hrun
    exact ⟨_, hrun, (Keeps.event (.refl ..)).frame (by decide), rfl⟩

/-! ### Register reads (R10, R11, R13, R121) -/

section
variable {s : State} {fn : Fn} {off : Nat} (hr : s.reachable fn = true) (ho : off < 0x400000)

include hr ho in
theorem exec_lowRegisterRead_aligned (h4 : off % 4 = 0) : exec (.lowRegisterRead fn off) s =
    .next (((s.wakeTlp fn).readWord_ fn off).2.emit (.readData fn off ((s.wakeTlp fn).readWord_ fn off).1)) := by
  have hc : (s.reachable fn && decide (off < 0x400000)) = true := by simp [hr, ho]
  exact (if_pos hc).trans (if_neg (not_not.2 h4))

end

/-- Settles O17: a read answers its word, holds or gives back the high word of a pair, and is refused by its form. -/
theorem registerReads : Obligations.RegisterReads := by
  intro s fn off hr ho u
  refine ⟨fun h4 hp hp4 => ?_, fun h4 hp => ?_, fun w h4 hp h0 hp4 hw => ?_, fun h4 => ?_, fun bar2 write len h0 h4 h8 => ?_⟩
  · have hrun := exec_lowRegisterRead_aligned hr ho h4
    have hword : u.readWord_ fn off = (u.bar0Word fn off, u) := by
      unfold State.readWord_
      rw [if_neg (by simp [hp]), if_neg fun ⟨h, hp'⟩ => by simp [hp4 h] at hp']
    rw [hword] at hrun
    exact ⟨_, hrun, rfl, (Keeps.emit (.refl ..)).frame (by decide)⟩
  · have hrun := exec_lowRegisterRead_aligned hr ho h4
    rw [State.readWord_, if_pos hp] at hrun
    exact ⟨_, hrun, rfl, Tbl.get_set_self none (s.wakeTlp fn).pairHigh (pairKey fn off) (some _),
      (Keeps.emit (.with_pairHigh (.refl ..))).frame (by decide)⟩
  · have hrun := exec_lowRegisterRead_aligned hr ho h4
    rw [State.readWord_, if_neg (by simp [hp]), if_pos ⟨h0, hp4⟩, hw] at hrun
    exact ⟨_, hrun, rfl, Tbl.get_set_self none (s.wakeTlp fn).pairHigh (pairKey fn (off - 4)) none,
      (Keeps.emit (.with_pairHigh (.refl ..))).frame (by decide)⟩
  · have hc : (s.reachable fn && decide (off < 0x400000)) = true := by simp [hr, ho]
    exact ⟨_, (if_pos hc).trans (if_pos h4), rfl, rfl, (Keeps.emit (.event (.refl ..))).frame (by decide)⟩
  · have hc : (s.reachable fn && decide (off < 0x400000) && decide (0 < len)
        && !((len == 4 && off % 4 == 0) || (len == 8 && off % 8 == 0))) = true := by
      simp only [Bool.and_eq_true, decide_eq_true_eq, Bool.not_eq_true', Bool.or_eq_false_iff, Bool.and_eq_false_iff, beq_eq_false_iff_ne]
      exact ⟨⟨⟨hr, ho⟩, h0⟩, by omega, by omega⟩
    have hrun : exec (.bar0MalformedAccess fn bar2 write off len) s = _ := if_pos hc
    cases write with
    | true => exact ⟨_, hrun, (Keeps.event (.refl ..)).frame (by decide), fun _ => ⟨rfl, rfl⟩, nofun, nofun⟩
    | false =>
      by_cases hl : 8 < len
      · refine ⟨_, hrun.trans (if_pos hl), (Keeps.emit (.refl ..)).frame (by decide), nofun, fun _ _ => ⟨rfl, rfl⟩,
          fun _ h => absurd hl (Nat.not_lt.2 h)⟩
      · have hshort := hrun.trans (if_neg hl)
        by_cases hin : off % 4 + len ≤ 4 ∧ (decide (0x3C0000 ≤ off ∧ off < 0x3D0100) && !bar2) = false
        · have hword := hshort.trans (if_pos hin)
          refine ⟨_, hword, ?_, nofun, fun _ h => absurd h hl, fun _ _ h => absurd hin.1 (Nat.not_le.2 h)⟩
          refine (Keeps.emit (.trans ?_ (.refl ..))).frame (by decide)
          cases bar2 with
          | true => exact .refl ..
          | false => exact .mono (State.readWordHeld_keeps ..)
        · have hzero := hshort.trans (if_neg hin)
          exact ⟨_, hzero, (Keeps.emit (.event (.refl ..))).frame (by decide), nofun, fun _ h => absurd h hl, fun _ _ _ => ⟨rfl, rfl⟩⟩

end Sys2Proof.Machine
end

section
/-! PROOFS. The windows of BAR4: commits of staged entries and translated accesses (R126, R129 to R132; O20, O21). -/

set_option Elab.async false

namespace Sys2Proof.Machine

/-! ### Commits (R129, R131) -/

section
variable (s : State)

/-- One pending entry becomes active. -/
def State.activate (s : State) (n : Nat) : State := (s.setWin n (s.staged n)).wr Reg.WIN_ENT_CTRL.PENDING 0 n

theorem State.staged_activate (n m : Nat) : (s.activate n).staged m = s.staged m := by
  unfold State.activate State.staged State.on
  simp (disch := decide) only [State.rd_wr_apart, State.setWin_rd_]

/-- The entries of a list become active; every other entry, and its PENDING bit, stays. -/
theorem State.activated (p : List Nat) (hp : p.Nodup) (hlt : ∀ n ∈ p, n < 256) :
    (∀ n ∈ p, (p.foldl State.activate s).win n = s.staged n) ∧ (∀ n, n ∉ p → (p.foldl State.activate s).win n = s.win n)
      ∧ (∀ n ∈ p, (p.foldl State.activate s).on Reg.WIN_ENT_CTRL.PENDING n = false)
      ∧ (∀ n, n ∉ p → (p.foldl State.activate s).on Reg.WIN_ENT_CTRL.PENDING n = s.on Reg.WIN_ENT_CTRL.PENDING n)
      ∧ Frame [.windows] [Reg.WIN_ENT_CTRL.PENDING] s (p.foldl State.activate s) := by
  induction p generalizing s with
  | nil => exact ⟨nofun, fun _ _ => rfl, nofun, fun _ _ => rfl, .refl ..⟩
  | cons m p ih =>
    obtain ⟨hm, hp⟩ := List.nodup_cons.1 hp
    obtain ⟨hin, hout, hpin, hpout, hf⟩ := ih (s.activate m) hp fun n hn => hlt n (.tail _ hn)
    have hwin : ∀ n, (s.activate m).win n = if n = m then s.staged m else s.win n := fun n => by
      rw [State.activate, State.wr_win_, State.win_setWin]
    have hpend : ∀ n, n ≠ m → (s.activate m).on Reg.WIN_ENT_CTRL.PENDING n = s.on Reg.WIN_ENT_CTRL.PENDING n := fun n hn => by
      rw [State.activate, State.on, State.rd_wr_other _ _ _ _ _ _ _ _ (Fld.key_instance (by decide) hn 0), State.setWin_rd_]
      rfl
    refine ⟨fun n hn => ?_, fun n hn => ?_, fun n hn => ?_, fun n hn => ?_, ?_⟩
    · obtain rfl | hn := List.mem_cons.1 hn
      · rw [List.foldl_cons, hout n hm, hwin, if_pos rfl]
      · rw [List.foldl_cons, hin n hn, State.staged_activate]
    · obtain ⟨h1, h2⟩ := not_or.1 (mt List.mem_cons.2 hn)
      rw [List.foldl_cons, hout n h2, hwin, if_neg h1]
    · obtain rfl | hn := List.mem_cons.1 hn
      · rw [List.foldl_cons, hpout n hm, State.activate, State.on, State.rd_wr_same]
        rfl
      · exact hpin n hn
    · obtain ⟨h1, h2⟩ := not_or.1 (mt List.mem_cons.2 hn)
      rw [List.foldl_cons, hpout n h2, hpend n h1]
    · refine Frame.trans (.trans ?_ (Frame.wr _ (by decide) _ 0 (hlt m (.head _)) (by decide))) hf
      exact Frame.setWin (.refl ..) (by decide) _ _

theorem State.mem_winPending {o : Option Nat} {n : Nat} :
    n ∈ s.winPending o ↔ n < 256 ∧ s.winOwner n = o ∧ s.on Reg.WIN_ENT_CTRL.PENDING n = true := by
  simp [State.winPending]

/-- The state after a commit that no entry offends. -/
def State.committed (s : State) (o : Option Nat) : State :=
  (((s.winPending o).foldl State.activate s).wr Reg.WIN_EPOCH.EPOCH (s.rd Reg.WIN_EPOCH.EPOCH + 1)).wr Reg.WIN_EPOCH.BUSY 1

/-- What a commit answers. -/
theorem State.winCommit_eq (o : Option Nat) : s.winCommit o =
    if s.on Reg.WIN_EPOCH.BUSY then (s, some 0xFF)
    else match (s.winPending o).find? (fun n => !s.winOk n (s.staged n)) with
      | some n => (s, some n)
      | none => (s.committed o, none) := rfl

theorem State.committed_commits (o : Option Nat) : (s.committed o).on Reg.WIN_EPOCH.BUSY = true
    ∧ (s.committed o).rd Reg.WIN_EPOCH.EPOCH = (s.rd Reg.WIN_EPOCH.EPOCH + 1) % 2 ^ Reg.WIN_EPOCH.EPOCH.w
    ∧ (∀ n ∈ s.winPending o, (s.committed o).win n = s.staged n) ∧ (∀ n, n ∉ s.winPending o → (s.committed o).win n = s.win n)
    ∧ (s.committed o).winPending o = []
    ∧ Frame [.windows] [Reg.WIN_ENT_CTRL.PENDING, Reg.WIN_EPOCH.EPOCH, Reg.WIN_EPOCH.BUSY] s (s.committed o) := by
  have hp : (s.winPending o).Nodup := List.Nodup.filter _ List.nodup_range
  obtain ⟨hin, hout, hpin, hpout, hf⟩ := s.activated (s.winPending o) hp fun n hn => (s.mem_winPending.1 hn).1
  have hpend : ∀ n, (s.committed o).on Reg.WIN_ENT_CTRL.PENDING n = ((s.winPending o).foldl State.activate s).on Reg.WIN_ENT_CTRL.PENDING n := by
    intro n
    unfold State.committed State.on
    simp (disch := decide) only [State.rd_wr_apart]
  have hown : ∀ n, (s.committed o).winOwner n = s.winOwner n := by
    intro n
    unfold State.committed State.winOwner State.on
    simp (disch := decide) only [State.rd_wr_apart, hf.rd_eq (q := Reg.HIF_EP_LINK.PORT_MODE) (by decide)]
  refine ⟨?_, ?_, fun n hn => hin n hn, fun n hn => hout n hn, ?_, ?_⟩
  · rw [State.committed, State.on, State.rd_wr_same]
    rfl
  · exact (State.rd_wr_apart _ _ _ _ _ _ _ _ (by decide)).trans (State.rd_wr_same ..)
  · refine List.eq_nil_iff_forall_not_mem.2 fun n hn => ?_
    obtain ⟨hlt, ho, hb⟩ := (State.mem_winPending _).1 hn
    rw [hown] at ho
    rw [hpend] at hb
    by_cases hm : n ∈ s.winPending o
    · simp [hpin n hm] at hb
    · rw [hpout n hm] at hb
      exact hm (s.mem_winPending.2 ⟨hlt, ho, hb⟩)
  · have k : Keeps [] [Reg.WIN_EPOCH.EPOCH, Reg.WIN_EPOCH.BUSY] ((s.winPending o).foldl State.activate s) (s.committed o) := .wr (.wr (.refl ..))
    exact (hf.mono (by decide) (by decide)).trans ((k.frame (by decide)).mono (by decide) (by decide))

theorem State.refusal_frame (fn : Fn) (i : Nat) : Frame [] [Reg.WIN_STATUS.COMMIT_REFUSED, Reg.WIN_STATUS.REFUSED_IDX] s
    ((s.wr Reg.WIN_STATUS.COMMIT_REFUSED 1 0 fn).wr Reg.WIN_STATUS.REFUSED_IDX i 0 fn) :=
  (Keeps.wr (.wr (.refl ..))).frame (by decide)

end

/-- Settles O20: a commit activates the whole list of pending entries, or refuses before the first. -/
theorem windowEpochs : Obligations.WindowEpochs := by
  intro s
  refine ⟨fun fn hr => ?_, fun hc => ?_⟩
  · intro u p
    have hrun : exec (.windowCommit fn) s = match u.winCommit (some fn) with
        | (s1, none) => .next s1
        | (s1, some i) => .next ((s1.wr Reg.WIN_STATUS.COMMIT_REFUSED 1 0 fn).wr Reg.WIN_STATUS.REFUSED_IDX i 0 fn) := if_pos hr
    rw [State.winCommit_eq] at hrun
    refine ⟨fun hb hok => ?_, fun i hb hi => ?_, fun hb => ?_⟩
    · have hfind : p.find? (fun n => !u.winOk n (u.staged n)) = none := by
        simpa [List.find?_eq_none] using hok
      rw [if_neg (by simp [hb]), hfind] at hrun
      refine ⟨_, hrun, u.committed_commits (some fn)⟩
    · have hlt : i < 256 := ((State.mem_winPending ..).1 (List.mem_of_find?_eq_some hi)).1
      rw [if_neg (by simp [hb]), hi] at hrun
      refine ⟨_, hrun, rfl, ?_, (State.rd_wr_same ..).trans (Nat.mod_eq_of_lt hlt), u.refusal_frame fn i⟩
      exact (State.rd_wr_apart _ _ _ _ _ _ _ _ (by decide)).trans (State.rd_wr_same ..)
    · rw [if_pos hb] at hrun
      refine ⟨_, hrun, rfl, ?_, State.rd_wr_same .., u.refusal_frame fn _⟩
      exact (State.rd_wr_apart _ _ _ _ _ _ _ _ (by decide)).trans (State.rd_wr_same ..)
  · have hrun : exec .epochRetire s = .next (s.wr Reg.WIN_EPOCH.BUSY 0) := if_pos hc
    refine ⟨_, hrun, ?_, Frame.wr _ (by decide) _ _ (by decide) (by decide)⟩
    rw [State.on, State.rd_wr_same]
    rfl

/-! ### Accesses (R126, R132) -/

theorem Memory.read_eq (m : Memory) (a n : Nat) : Memory.read m a n = (List.range n).map (fun j => Memory.byte m (a + j)) := by
  induction n generalizing a with
  | zero => rfl
  | succ n ih =>
    rw [Memory.read, ih, List.range_succ_eq_map, List.map_cons, List.map_map]
    congr 1
    refine List.map_congr_left fun j _ => ?_
    change Memory.byte m (a + 1 + j) = Memory.byte m (a + (j + 1))
    rw [Nat.add_right_comm, Nat.add_assoc]

section
variable {u : State} {f rid off : Nat} {write : Bool}

/-- An access that its entry allows is translated. -/
theorem State.translates {a : Nat} (h : windowAddress u f rid off write = some a) : ∃ n, u.winTranslate f rid off write = .inr (n, a) := by
  unfold windowAddress at h
  extract_lets size w at h
  obtain ⟨⟨h0, h3, hlim, hrid, hdir⟩, ha⟩ := Option.ite_none_right_eq_some.1 h
  cases ha
  refine ⟨off / size % 256, ?_⟩
  unfold State.winTranslate
  refine (if_neg (not_or.2 ⟨h0, h3⟩)).trans ((if_neg (Nat.not_le.2 hlim)).trans ((if_neg ?_).trans (if_neg ?_)))
  · simp only [Bool.and_eq_true, bne_iff_ne, ne_eq, not_and, not_not]
    exact hrid
  · cases write <;> simpa using hdir

/-- An access that its entry does not allow is refused. -/
theorem State.refuses_access (h : windowAddress u f rid off write = none) : ∃ n r, u.winTranslate f rid off write = .inl (n, r) := by
  unfold windowAddress at h
  extract_lets size w at h
  unfold State.winTranslate
  by_cases h0 : w.target = 0 ∨ w.target = 3
  · exact ⟨_, _, if_pos h0⟩
  · by_cases hlim : w.limit * 4096 ≤ off % size
    · exact ⟨_, _, (if_neg h0).trans (if_pos hlim)⟩
    · by_cases hrid : (w.ridChk && rid != w.rid) = true
      · exact ⟨_, _, (if_neg h0).trans ((if_neg hlim).trans (if_pos hrid))⟩
      · by_cases hdir : (!(if write then w.wrEn else w.rdEn)) = true
        · exact ⟨_, _, (if_neg h0).trans ((if_neg hlim).trans ((if_neg hrid).trans (if_pos hdir)))⟩
        · refine nomatch ite_eq_right_iff.1 h ⟨(not_or.1 h0).1, (not_or.1 h0).2, Nat.not_le.1 hlim, fun hk => ?_, ?_⟩
          · simpa [hk] using hrid
          · cases write <;> simpa using hdir

theorem State.winDrop_count (s : State) (n reason rid : Nat) : (s.winDrop n reason rid).rd Reg.WIN_DROP_CNT.COUNT
    = min (s.rd Reg.WIN_DROP_CNT.COUNT + 1) (2 ^ Reg.WIN_DROP_CNT.COUNT.w - 1) := by
  unfold State.winDrop
  simp (disch := decide) only [State.rd_wr_apart, State.rd_bump_same]

end

/-- Settles O21: the entry's verdict and its translation decide the access. -/
theorem windowAccesses : Obligations.WindowAccesses := by
  intro s fn rid off hr u
  have hmem : u.mem = s.mem := (s.wakeTlp_keeps fn).same .memory
  refine ⟨fun bytes => ⟨fun a ha => ?_, fun ha => ?_⟩, fun len hl => ⟨fun a ha => ?_, fun ha => ?_⟩⟩
  · obtain ⟨n, hn⟩ := State.translates ha
    have hrun : exec (.bar4Write fn rid off bytes) s = .next { u with mem := Memory.write u.mem a bytes } := by
      refine (if_pos hr).trans ?_
      rw [hn]
    refine ⟨_, hrun, fun j hj => Memory.byte_write_inside _ _ _ _ hj, fun b hb => ?_, ?_⟩
    · rw [← hmem]
      exact Memory.byte_write_outside _ _ _ _ hb
    · exact ⟨fun p hp => by cases p <;> first | exact absurd (by decide) hp | simp [Part.same], fun _ _ => rfl⟩
  · obtain ⟨n, r, hn⟩ := State.refuses_access ha
    have hrun : exec (.bar4Write fn rid off bytes) s = .next ((u.winDrop n r rid.toNat).emit (.unsupported fn)) := by
      refine (if_pos hr).trans ?_
      rw [hn]
    refine ⟨_, hrun, rfl, hmem, u.winDrop_count .., ?_, (Keeps.emit ((u.winDrop_keeps n r rid.toNat).mono)).frame (by decide)⟩
    exact (State.rd_wr_same ..).trans (Nat.mod_eq_of_lt rid.isLt)
  · obtain ⟨n, hn⟩ := State.translates ha
    have hrun : exec (.bar4Read fn rid off len) s = .next (u.emit (.mailbox fn (Memory.read u.mem a (min len 4096)))) := by
      refine (if_pos hr).trans ?_
      rw [hn]
    rw [Nat.min_eq_left hl, Memory.read_eq, hmem] at hrun
    exact ⟨_, hrun, rfl, (Keeps.emit (.refl ..)).frame (by decide)⟩
  · obtain ⟨n, r, hn⟩ := State.refuses_access ha
    have hrun : exec (.bar4Read fn rid off len) s = .next ((u.winDrop n r rid.toNat).emit (.unsupported fn)) := by
      refine (if_pos hr).trans ?_
      rw [hn]
    exact ⟨_, hrun, rfl, hmem, u.winDrop_count .., (Keeps.emit ((u.winDrop_keeps n r rid.toNat).mono)).frame (by decide)⟩

end Sys2Proof.Machine
end

section
/-! PROOFS. The admin ring, outbound reads, completion entries and writes (R134 to R136, R152, R164, R165, R194 to R210; O24 to O27). -/

set_option Elab.async false

namespace Sys2Proof.Machine

/-! ### Tables mapped -/

theorem Tbl.get_mapAll {α : Type} [DecidableEq α] (d : α) (g : Nat → α → α) (t : Tbl α) (k : Nat) (h : Tbl.get d t k ≠ d)
    (hg : g k (Tbl.get d t k) ≠ d) : Tbl.get d (Tbl.mapAll d g t) k = g k (Tbl.get d t k) := by
  induction t with
  | nil => exact absurd rfl h
  | cons e t ih =>
    obtain ⟨j, a⟩ := e
    by_cases hk : k = j
    · subst hk
      have ha : Tbl.get d ((k, a) :: t) k = a := if_pos rfl
      rw [ha] at hg ⊢
      simp [Tbl.mapAll, hg, Tbl.get]
    · have ha : Tbl.get d ((j, a) :: t) k = Tbl.get d t k := if_neg hk
      rw [ha] at h hg ⊢
      rw [← ih h hg]
      by_cases hd : g j a = d
      · simp [Tbl.mapAll, hd]
      · simp [Tbl.mapAll, hd, Tbl.get, hk]

/-! ### Rings under signals and asynchronous events -/

/-- A ring without the count of completions that are not signalled. -/
def Ring.bare (r : Ring) : Ring := { r with unsig := 0, unsigAt := 0 }

/-- A ring without what a completion entry of its own changes. -/
def Ring.core (r : Ring) : Ring := { r.bare with cqTail := 0, phase := false }

theorem Ring.core_of_bare {a b : Ring} (h : a.bare = b.bare) : a.core = b.core := (congrArg Ring.core h :)

theorem Ring.st_of_core {a b : Ring} (h : a.core = b.core) : a.st = b.st := (congrArg Ring.st h :)

/-- From `s` to `t` every ring that exists keeps all but what completion entries change. -/
def RingsHold (s t : State) : Prop :=
  ∀ k, (Tbl.get {} s.rings k).st ≠ .absent → (Tbl.get {} t.rings k).core = (Tbl.get {} s.rings k).core

section
variable (s : State)

theorem RingsHold.refl : RingsHold s s := fun _ _ => rfl

theorem RingsHold.of_eq {s t : State} (h : t.rings = s.rings) : RingsHold s t := fun k _ => by rw [h]

theorem RingsHold.trans {s t u : State} (h : RingsHold s t) (k : RingsHold t u) : RingsHold s u := fun n hn =>
  (k n (by rw [Ring.st_of_core (h n hn)]; exact hn)).trans (h n hn)

/-- What a coalescing count that starts again does to a ring. -/
def Ring.restarted (f v k : Nat) (r : Ring) : Ring :=
  if k / 1024 = f ∧ k % 1024 ≠ 0 ∧ r.vector = v then { r with unsig := 0, unsigAt := 0 } else r

theorem Ring.restarted_bare (f v k : Nat) (r : Ring) : (r.restarted f v k).bare = r.bare := by
  unfold Ring.restarted
  split <;> rfl

theorem RingsHold.foldl {β : Type} {g : State → β → State} (h : ∀ u b, RingsHold u (g u b)) (l : List β) (s : State) :
    RingsHold s (l.foldl g s) := by
  induction l generalizing s with
  | nil => exact .refl s
  | cons b l ih => exact (h s b).trans (ih _)

theorem State.restartCoalesce_rings (f v : Nat) : (s.restartCoalesce f v).rings = Tbl.mapAll {} (Ring.restarted f v) s.rings := rfl

theorem State.restartCoalesce_ring (f v k : Nat) (h : (Tbl.get {} s.rings k).st ≠ .absent) :
    (Tbl.get {} (s.restartCoalesce f v).rings k).bare = (Tbl.get {} s.rings k).bare := by
  have hne : ∀ r : Ring, r.st ≠ .absent → r ≠ {} := fun r hr e => hr (by rw [e])
  have hst := (congrArg Ring.st (Ring.restarted_bare f v k (Tbl.get {} s.rings k)) :)
  rw [State.restartCoalesce_rings, Tbl.get_mapAll _ _ _ _ (hne _ h) (hne _ (hst.trans_ne h)), Ring.restarted_bare]

theorem State.signal_ring (f v k : Nat) (h : (Tbl.get {} s.rings k).st ≠ .absent) :
    (Tbl.get {} (s.signal f v).rings k).bare = (Tbl.get {} s.rings k).bare := by
  unfold State.signal
  split <;> exact State.restartCoalesce_ring _ f v k h

theorem State.signalEntry_ring (f n status k : Nat) (h : (Tbl.get {} s.rings k).st ≠ .absent) :
    (Tbl.get {} (s.signalEntry f n status).rings k).bare = (Tbl.get {} s.rings k).bare := by
  unfold State.signalEntry
  extract_lets r
  split
  · exact s.signal_ring _ _ _ h
  · split
    · exact s.signal_ring _ _ _ h
    · by_cases hk : k = ringKey f n
      · subst hk
        exact (congrArg Ring.bare (Tbl.get_set_self {} s.rings _ _)).trans rfl
      · exact congrArg Ring.bare (Tbl.get_set_ne _ _ _ hk)

theorem State.signal_rings (f v : Nat) : RingsHold s (s.signal f v) := fun _ h => Ring.core_of_bare (s.signal_ring f v _ h)

theorem State.putCqe_rings (f n a b c d : Nat) : RingsHold s (s.putCqe f n a b c d) := by
  intro k _
  unfold State.putCqe
  extract_lets r last
  by_cases hk : k = ringKey f n
  · subst hk
    exact (congrArg Ring.core (Tbl.get_set_self {} s.rings _ _)).trans rfl
  · exact congrArg Ring.core (Tbl.get_set_ne _ _ _ hk)

theorem State.postAsync_rings (f t info : Nat) : RingsHold s (s.postAsync f t info) := by
  unfold State.postAsync
  extract_lets r e failed v s1 s2
  split
  · exact (RingsHold.of_eq rfl).trans ((s2.putCqe_rings _ _ _ _ _ _).trans (State.signal_rings _ f 0))
  · split
    · exact .of_eq rfl
    · exact .refl s

theorem State.async_rings (f t info : Nat) : RingsHold s (s.async f t info) := by
  unfold State.async
  split
  · exact .of_eq ((State.pmeWake_keeps _ f t).same .rings)
  · exact s.postAsync_rings f t info

theorem State.postRecon_rings : RingsHold s s.postRecon := by
  refine RingsHold.foldl (fun u f => ?_) s.fns s
  dsimp only
  split
  · split
    · exact RingsHold.trans (.of_eq rfl) (State.postAsync_rings (u.setEp f _) _ _ _)
    · exact .refl u
  · exact .refl u

/-! ### The admin ring -/

/-- The commands of a ring that stops end as aborted. -/
def State.abortRing (s : State) (l : List Nat) : State := l.foldl (fun s c => s.abortCtx c stAbortedReset) s

theorem State.abortRing_keeps (l : List Nat) : Keeps [.tags, .ftl, .engine, .log, .contexts, .decodes, .group, .keys]
    [Reg.THI_OPS.COUNT, Reg.THI_TABLE.COUNT, Reg.THI_TABLE.FIRST, Reg.THI_STATUS.FREE_UNITS, Reg.THI_STATUS.COMPACTING,
      Reg.GLI_STATUS.STATE, Reg.SEC_STATUS.LOADED, Reg.SEC_STATUS.TK_SET, Reg.SEC_STATUS.GROUP_KEY, Reg.SEC_STATUS.SWEEPING,
      Reg.SEC_STATUS.MC_BANKS] s (s.abortRing l) :=
  .foldl (.refl ..) fun _ _ => State.abortCtx_keeps ..

/-- Steps 1 to 3 of R170 end in the end of the stop on a state that keeps the rings but for the one that stops, and the endpoint. -/
theorem State.stopRing_eq (f n w : Nat) (d : Bool) : ∃ t : State, s.stopRing f n w d = t.finishRing f n ∧ t.eps = s.eps ∧
    t.ring f n = { s.ring f n with st := .resetting, waiter := w, deleting := d, discarded := (s.ring f n).unfetched, asked := 0 } := by
  unfold State.stopRing
  extract_lets r s1 mine
  have k := s1.abortRing_keeps mine
  refine ⟨s1.abortRing mine, rfl, k.same .endpoint, ?_⟩
  rw [State.ring, k.same .rings]
  change Tbl.get {} (Tbl.set {} s.rings (ringKey f n)
    { r with st := .resetting, waiter := w, deleting := d, discarded := r.unfetched, asked := 0 }) _ = _
  exact Tbl.get_set_self ..

/-- The admin ring goes with its last completion entry, and waits for it otherwise (R152). -/
theorem State.finishRing_admin (f : Nat) (hs : (s.ring f 0).st = .resetting) (h0 : (s.ring f 0).inflight = 0) :
    (s.finishRing f 0).ring f 0 = {} ∧ (s.finishRing f 0).rd Reg.HIF_ADM_CTRL.ENABLE 0 f = 0 ∧
      (s.finishRing f 0).rd Reg.HIF_ADM_CTRL.READY 0 f = 0 := by
  have he : s.finishRing f 0 = (((s.setRing f 0 {}).setEp f { s.ep f with disabling := false, asyncSlot := [] }).wr
      Reg.HIF_ADM_CTRL.READY 0 0 f).wr Reg.HIF_ADM_CTRL.ENABLE 0 0 f := (if_pos ⟨hs, h0⟩).trans (if_pos rfl)
  rw [he]
  refine ⟨by simp, State.rd_wr_same .., ?_⟩
  rw [State.rd_wr_apart _ _ _ _ _ _ _ _ (by decide), State.rd_wr_same]
  rfl

theorem State.finishRing_other (f n : Nat) (h : (s.ring f n).st ≠ .resetting ∨ (s.ring f n).inflight ≠ 0) : s.finishRing f n = s :=
  if_neg fun ⟨hs, h0⟩ => h.elim (· hs) (· h0)

end

/-- Settles O24: events of a new admin ring leave its place and heads; the end of a stop waits for the last completion entry. -/
theorem adminRing : Obligations.AdminRing := by
  intro s fn hr
  extract_lets u
  refine ⟨fun he ha => ?_, fun he ha => ?_, fun he hd hi => ?_, fun he hd hi => ?_⟩
  · let r : Ring := { st := .active, sqBase := u.rd Reg.HIF_ADM_SQ_BASE.ADDR 0 fn, cqBase := u.rd Reg.HIF_ADM_CQ_BASE.ADDR 0 fn,
                      sqSize := u.rd Reg.HIF_ADM_SIZE.SQ_SIZE 0 fn, cqSize := u.rd Reg.HIF_ADM_SIZE.CQ_SIZE 0 fn, phase := true }
    let v := ((u.setRing fn 0 r).wr Reg.HIF_ADM_CTRL.ENABLE 1 0 fn).wr Reg.HIF_ADM_CTRL.READY (bit u.adminServes) 0 fn
    have hrun : exec (.adminEnable fn) s = .next v.postRecon := (if_pos (by simp [hr, he])).trans (if_pos ha)
    have k := v.postRecon_keeps
    have hv : v.ring fn 0 = r := by simp [v]
    have hcore : (v.postRecon.ring fn 0).core = r.core := by
      rw [← hv]
      exact v.postRecon_rings _ (by change (v.ring fn 0).st ≠ _; rw [hv]; exact RingSt.noConfusion)
    have kall : Keeps asyncParts [Reg.HIF_ADM_CTRL.ENABLE, Reg.HIF_ADM_CTRL.READY, Reg.HIF_ASYNC.PEND] u v.postRecon :=
      .andThen (.wr (.wr (.setRing (.refl ..)))) k
    refine ⟨_, hrun, ?_, ?_, (congrArg Ring.st hcore :), (congrArg Ring.sqBase hcore :), (congrArg Ring.sqSize hcore :),
      (congrArg Ring.cqSize hcore :), (congrArg Ring.sqHead hcore :), (congrArg Ring.sqTail hcore :), kall.frame (by decide)⟩
    · rw [k.rd_eq (by decide), State.rd_wr_apart _ _ _ _ _ _ _ _ (by decide), State.rd_wr_same]
      rfl
    · rw [State.adminUp, State.on, k.rd_eq (by decide), State.rd_wr_same]
      cases u.adminServes <;> rfl
  · have hrun : exec (.adminEnable fn) s = .next (u.wr Reg.HIF_ADM_CTRL.CFG_ERR 1 0 fn) :=
      (if_pos (by simp [hr, he])).trans (if_neg (by change ¬ u.adminOk fn = true; simp [ha]))
    exact ⟨_, hrun, State.rd_wr_same .., (Keeps.wr (.refl ..)).frame (by decide)⟩
  · have hrun : exec (.adminDisable fn) s = .next (u.regEvent 0x100114 fn) := (if_pos (by simp [hr, he, hd])).trans (if_pos hi)
    exact ⟨_, hrun, rfl, (Keeps.regEvent (.refl ..)).frame (fun _ h => absurd h List.not_mem_nil)⟩
  · let v := u.setEp fn { u.ep fn with disabling := true }
    have hrun : exec (.adminDisable fn) s = .next (v.stopRing fn 0 0 true) :=
      (if_pos (by simp [hr, he, hd])).trans (if_neg (by change ¬ u.ioRings fn = true; simp [hi]))
    have k := ((s.wakeTlp_keeps fn).then (.setEp (ps := [.endpoint]) (rs := []) (.refl ..))).then (v.stopRing_keeps fn 0 0 true)
    refine ⟨_, hrun, (k.same .flash).2.1, k.same .memory, ?_⟩
    obtain ⟨t, ht, hep, hring⟩ := v.stopRing_eq fn 0 0 true
    have hst : (t.ring fn 0).st = .resetting := by rw [hring]
    have hin : (t.ring fn 0).inflight = (u.ring fn 0).inflight := by rw [hring]; rfl
    rw [ht]
    refine ⟨fun h0 => t.finishRing_admin fn hst (hin.trans h0), fun h0 => ?_⟩
    rw [t.finishRing_other fn 0 (.inr (hin.trans_ne h0)), State.ep, hep]
    exact ⟨hst, congrArg Ep.disabling ((State.ep_setEp ..).trans (if_pos rfl))⟩

/-! ### Failed requests of host memory -/

section
variable (s : State)

/-- An uncommitted write whose request fails ends with the status of the failure. -/
theorem State.abortCtx_write {c : Nat} (status : Nat) (h : (s.ctx c).uncommitted = true) :
    (s.abortCtx c status).ctx c = { (s.dropTags c).adopt (s.ctx c).osn |>.ctx c with phase := .finished, status := status } := by
  have he : s.abortCtx c status = (s.dropTags c).refuse c status := if_pos h
  rw [he]
  exact (State.ctx_setCtx ..).trans (if_pos rfl)

theorem State.abortCtx_ends {c : Nat} (status : Nat) (h : (s.ctx c).uncommitted = true) :
    ((s.abortCtx c status).ctx c).phase = .finished ∧ ((s.abortCtx c status).ctx c).status = status := by
  rw [s.abortCtx_write status h]
  exact ⟨rfl, rfl⟩

/-- A failed submission fetch takes its active ring to Error and shows the ring and the reason (R160). -/
theorem State.fetchFailed_ring (f n reason : Nat) (h : (s.ring f n).st = .active) : ((s.fetchFailed f n reason).ring f n).st = .error := by
  unfold State.fetchFailed
  extract_lets r s1 s2
  have hring : ((s2.event 0x10 0x0004 (n + reason * 2 ^ 16) f).ring f n).st = .error := by
    simp [s2, s1, r, h]
  have k := (s2.event 0x10 0x0004 (n + reason * 2 ^ 16) f).async_rings f 8 n (ringKey f n) (by
    change ((s2.event _ _ _ _).ring f n).st ≠ _
    rw [hring]
    exact RingSt.noConfusion)
  exact (Ring.st_of_core k).trans hring

theorem State.fetchFailed_shows (f n reason : Nat) : (s.fetchFailed f n reason).rd Reg.HIF_FETCH_ERR.RING 0 f = n % 2 ^ Reg.HIF_FETCH_ERR.RING.w ∧
    (s.fetchFailed f n reason).rd Reg.HIF_FETCH_ERR.REASON 0 f = reason % 2 ^ Reg.HIF_FETCH_ERR.REASON.w := by
  unfold State.fetchFailed
  extract_lets r s1 s2
  have k := (s2.event 0x10 0x0004 (n + reason * 2 ^ 16) f).async_keeps f 8 n
  rw [k.rd_eq (by decide), k.rd_eq (by decide)]
  simp (disch := decide) only [s2, State.event_rd_, State.rd_wr_apart, State.rd_wr_same, and_self]

/-- The bit of an error in the AER status of the endpoint. -/
theorem State.aer_bit (f b : Nat) : ((s.aer f b).cfgRaw f 0x104).testBit b = true := by
  rw [State.cfgRaw, State.aer, State.ep_setEp, if_pos rfl, Tbl.get_set_self, testBit_setBit_self]

end

section
variable (s : State)

theorem State.blockArrives_eq {c : Nat} (b : Nat) (data : Block) (hw : (s.ctx c).is .write = true) (hp : (s.ctx c).phase = .landing)
    (hb : b < (s.ctx c).nblk) : s.blockArrives c b data =
      (s.mapVersions (fun v => if v.osn = (s.ctx c).osn ∧ v.iu = iuOf ((s.ctx c).slba + b) then
        { v with data := v.data ++ [(((s.ctx c).slba + b) % 4,
            .block (s.seal ((s.ctx c).slba + b) ((s.ctx c).ivs.getD b (0, 0, 0)) data))] } else v)).setCtx c
        { s.ctx c with received := setBit (s.ctx c).received b } := if_pos ⟨hw, hp, hb⟩

/-- A failed completion frees its tag and is recorded; its command is what the failed request leaves. -/
theorem State.badCompletion_leaves (f t kind : Nat) :
    (s.badCompletion f t kind).ctxs = (s.requestFailed f t (if kind = 3 then 3 else 2)).ctxs ∧ (s.badCompletion f t kind).tag f t = .idle ∧
      (s.badCompletion f t kind).events.head?.map (fun e => (e.source, e.code)) = some (0x10, 0x000A) := by
  unfold State.badCompletion
  extract_lets s1 s2
  exact ⟨rfl, by simp [State.aer, s2], rfl⟩

end

/-- Settles O25: what each completion does to its tag, and the request behind it. -/
theorem outboundReads : Obligations.OutboundReads := by
  intro s fn tag
  refine ⟨fun cpl hs hf hl ho => ?_, fun c b d data hs hf hl ht hw hp hb => ?_, fun c b d hs hf hl ht hc hu cpl hm => ?_,
    fun d hd hs hle => ?_, fun e ht hle => ?_⟩
  · have hrun : exec (.completionTlp fn tag cpl) s = .next (s.unexpected fn tag) := by
      refine (if_pos (by simp [hs, hf, hl])).trans ?_
      revert ho
      generalize s.tag fn tag = u
      intro ho
      cases u with
      | idle | quarantined => rfl
      | fetch | data | list => cases ho
    have k := s.unexpected_keeps fn tag
    refine ⟨_, hrun, ?_, rfl, k.same .contexts, k.frame (by decide)⟩
    simp (disch := decide) [State.unexpected, State.rd_bump_apart]
  · let u := s.setTag fn tag .idle
    have hrun : exec (.completionTlp fn tag (.data data)) s = .next (u.blockArrives c b data) := by
      refine (if_pos (by simp [hs, hf, hl])).trans ?_
      rw [ht]
    have harr := u.blockArrives_eq b data hw hp hb
    refine ⟨_, hrun, ?_, ?_, fun v hv ho hi => ?_, ((Keeps.setTag (.refl ..)).andThen (u.blockArrives_keeps c b data)).frame
      (fun _ h => absurd h List.not_mem_nil)⟩
    · rw [State.tag, (u.blockArrives_keeps c b data).same .tags]
      exact s.tag_setTag_self fn tag .idle
    · rw [harr, State.ctx_setCtx, if_pos rfl]
      rfl
    · rw [harr]
      exact List.mem_map.2 ⟨v, hv, if_pos ⟨ho, hi⟩⟩
  · have hfail : s.requestFailed fn tag = fun _ => s.abortCtx c stTransfer := by
      funext r
      unfold State.requestFailed
      rw [ht]
      exact if_pos hc
    have hrun : ∃ kind, exec (.completionTlp fn tag cpl) s = .next (s.badCompletion fn tag kind) := by
      have hcpl : cpl = .unsupported ∨ cpl = .abort ∨ cpl = .poisoned := by simpa using hm
      obtain rfl | rfl | rfl := hcpl
      · exact ⟨1, (if_pos (by simp [hs, hf, hl])).trans (by rw [ht])⟩
      · exact ⟨2, (if_pos (by simp [hs, hf, hl])).trans (by rw [ht])⟩
      · exact ⟨3, (if_pos (by simp [hs, hf, hl])).trans (by rw [ht])⟩
    obtain ⟨kind, hrun⟩ := hrun
    obtain ⟨hctx, htag, hev⟩ := s.badCompletion_leaves fn tag kind
    obtain ⟨hphase, hstatus⟩ := s.abortCtx_ends stTransfer hu
    refine ⟨_, hrun, htag, ?_, ?_, hev⟩
    · rw [State.ctx, hctx, hfail]
      exact hphase
    · rw [State.ctx, hctx, hfail]
      exact hstatus
  · let v := (s.requestFailed fn tag 1).setTag fn tag (.quarantined (s.frame + 100000))
    let w := ((v.aer fn 14).wr Reg.HIF_EP_EVENT.CPL_TIMEOUT 1 0 fn).bump Reg.HIF_EP_CNT.TIMEOUTS 1 0 fn
    have hrun : exec (.completionTimeout fn tag) s = .next (w.event 0x10 0x0008 tag fn) := by
      change execCompletionTimeout fn tag s = _
      unfold execCompletionTimeout
      dsimp only
      rw [hd]
      exact if_pos (by simp [hs, hle])
    refine ⟨_, hrun, ?_, ?_, v.aer_bit fn 14, rfl, fun n i k hfetch hact => ?_⟩
    · simp only [w, State.aer, State.event_tag_, State.bump, State.wr_tag_, State.setEp_tag_]
      exact State.tag_setTag_self ..
    · simp (disch := decide) [w, State.rd_bump_apart]
    · have hfail : s.requestFailed fn tag 1 = s.fetchFailed fn n 1 := by
        unfold State.requestFailed
        rw [hfetch]
      have hrd : ∀ q : Fld, (∀ r ∈ [Reg.HIF_EP_EVENT.CPL_TIMEOUT, Reg.HIF_EP_CNT.TIMEOUTS], q.clear r = true) →
          (w.event 0x10 0x0008 tag fn).rd q 0 fn = (s.fetchFailed fn n 1).rd q 0 fn := by
        intro q hq
        rw [← hfail]
        have kw : Keeps _ [Reg.HIF_EP_EVENT.CPL_TIMEOUT, Reg.HIF_EP_CNT.TIMEOUTS] (s.requestFailed fn tag 1) w :=
          .bump (.wr (.andThen (qs := [.endpoint]) (us := []) (ps := [.tags, .endpoint]) (.setTag (.refl ..)) (v.aer_keeps fn 14)))
        exact kw.rd_eq hq 0 fn
      obtain ⟨hring, hreason⟩ := s.fetchFailed_shows fn n 1
      refine ⟨?_, (hrd _ (by decide)).trans hring, (hrd _ (by decide)).trans hreason⟩
      rw [← s.fetchFailed_ring fn n 1 hact, ← hfail]
      rfl
  · have hrun : exec (.tagQuarantineEnd fn tag) s = .next (s.setTag fn tag .idle) := by
      change execTagQuarantineEnd fn tag s = _
      unfold execTagQuarantineEnd
      rw [ht]
      exact if_pos hle
    exact ⟨_, hrun, State.tag_setTag_self .., (Keeps.setTag (.refl ..)).frame (fun _ h => absurd h List.not_mem_nil)⟩

/-! ### Completion entries (R164, R165, R194) -/

section
variable (s : State)

/-- The ring after a completion entry: its tail moves on, and its phase turns at the end (R164, R165). -/
theorem State.putCqe_ring (f n a b c d : Nat) : (s.putCqe f n a b c d).ring f n =
    { s.ring f n with cqTail := if (s.ring f n).cqTail + 1 = (s.ring f n).cqSize then 0 else (s.ring f n).cqTail + 1,
                      phase := if (s.ring f n).cqTail + 1 = (s.ring f n).cqSize then !(s.ring f n).phase else (s.ring f n).phase } := by
  unfold State.putCqe
  extract_lets r last
  rw [State.emit_ring_, State.ring_setRing_self]
  simp only [last, r, beq_iff_eq]

theorem State.entryWritten_none {x : Ctx} (h : x.is .setFeature = false) : s.entryWritten x = s := if_neg (by simp [h])

theorem State.releaseLog_rings_out (page : Nat) (seqs : List Nat) :
    (s.releaseLog page seqs).rings = s.rings ∧ (s.releaseLog page seqs).out = s.out := by
  unfold State.releaseLog
  split
  · simp only [List.foldl_cons, List.foldl_nil]
    split <;> split <;> exact ⟨rfl, rfl⟩
  · split <;> exact ⟨rfl, rfl⟩

/-- An entry that was put on the bus stays there. -/
theorem State.signal_out (f v : Nat) {o : Out} (h : o ∈ s.out) : o ∈ (s.signal f v).out := by
  unfold State.signal
  split
  · exact .tail _ h
  · exact h

theorem State.signalEntry_out (f n status : Nat) {o : Out} (h : o ∈ s.out) : o ∈ (s.signalEntry f n status).out := by
  unfold State.signalEntry
  extract_lets r
  split
  · exact s.signal_out _ _ h
  · split
    · exact s.signal_out _ _ h
    · exact h

end

/-- Settles O26: the entry takes the ring's tail and phase, and signalling leaves both. -/
theorem completionEntries : Obligations.CompletionEntries := by
  intro s c
  extract_lets x r
  refine ⟨fun ha hd hc hst hroom hf => ?_, fun ha hd hroom => ?_, fun hcore hp hl => ?_⟩
  · let u := s.putCqe x.fn x.ring x.result x.cid x.status x.cflags
    let q := u.ring x.fn x.ring
    let v := (u.setRing x.fn x.ring { q with inflight := q.inflight - 1 }).setCtx c { x with phase := .sent }
    let t := v.signalEntry x.fn x.ring x.status
    have hq : q = { r with cqTail := if r.cqTail + 1 = r.cqSize then 0 else r.cqTail + 1,
                           phase := if r.cqTail + 1 = r.cqSize then !r.phase else r.phase } := s.putCqe_ring ..
    have hv : v.ring x.fn x.ring = { q with inflight := q.inflight - 1 } := by simp only [v, State.setCtx_ring_, State.ring_setRing_self]
    have hbare : (t.ring x.fn x.ring).bare = Ring.bare { q with inflight := q.inflight - 1 } := by
      rw [← hv]
      exact v.signalEntry_ring _ _ _ _ (by change (v.ring _ _).st ≠ _; rw [hv, hq]; exact hst ▸ RingSt.noConfusion)
    have hact : (t.ring x.fn x.ring).st = .active := ((congrArg Ring.st hbare :).trans (by rw [hq]; rfl)).trans hst
    have hrun : exec (.completionWrite c) s = .next t := by
      have hcond : (s.attends && s.entryDue c && s.canSend x.fn && r.exists_ && r.cqRoom) = true := by
        simp [ha, hd, hc, Ring.exists_, hst, hroom]
      refine (if_pos hcond).trans ?_
      rw [State.entryWritten_none _ hf, State.finishRing_other _ _ _ (.inl (by rw [hact]; exact RingSt.noConfusion))]
    have k := v.signalEntry_keeps x.fn x.ring x.status
    refine ⟨t, hrun, ?_, ?_, (congrArg Ring.cqTail hbare :).trans (by rw [hq]; rfl), (congrArg Ring.phase hbare :).trans (by rw [hq]; rfl),
      (congrArg Ring.inflight hbare :).trans (by rw [hq]; rfl), ?_⟩
    · rw [State.ctx, k.same .contexts]
      exact (State.ctx_setCtx ..).trans (if_pos rfl)
    · exact v.signalEntry_out _ _ _ (.head _)
    · have kv : Keeps [.rings, .contexts, .vectors, .buses] [] s v := .setCtx (.setRing (.mono (s.putCqe_keeps ..)))
      exact (kv.andThen k).frame (fun _ h => absurd h List.not_mem_nil)
  · have hcond : (s.attends && s.entryDue c && s.canSend x.fn && r.exists_ && r.cqRoom) = false := by simp [hroom]
    exact if_neg (Bool.eq_false_iff.1 hcond)
  · let s1 := if x.spans then s.thiGiveSpans x.spansOf else s
    let s2 := if x.is .getLog && x.status == 0 then s1.releaseLog (pkBits x.pkt 10 0 8) x.release else s1
    have hcond : (s.sup.coreUp && decide (x.phase = .sent) && s.linkUp x.fn) = true := by simp [hcore, hp, hl]
    have hrun : exec (.dllAck c) s = .next ((s2.dropTags c).freeCtx c) := if_pos hcond
    have k1 : Keeps [.engine] [Reg.THI_OPS.COUNT, Reg.THI_CNT.MULTI_HITS] s s1 := .ite (s.thiGiveSpans_keeps _) (.refl ..)
    have h2 : s2.rings = s1.rings ∧ s2.out = s1.out := by
      dsimp only [s2]
      split
      · exact s1.releaseLog_rings_out _ _
      · exact ⟨rfl, rfl⟩
    refine ⟨_, hrun, (State.ctx_setCtx ..).trans (if_pos rfl), h2.1.trans (k1.same .rings), h2.2.trans (k1.same .buses), fun hsp hg => ?_⟩
    have hs2 : s2 = s := by simp [s2, s1, hsp, hg]
    rw [hs2]
    exact ((Keeps.freeCtx (.mono (s.dropTags_keeps c)))).frame (fun _ h => absurd h List.not_mem_nil)

/-! ### Writes (R194, R196, R209, R210) -/

section
variable (s : State)

/-- Allocation adds one landing version for each IU. -/
theorem State.allocate_versions (osn : Nat) (ius : List (Nat × Nat × List (Nat × Stored))) :
    ∃ l, (s.allocate osn ius).ftl.versions = s.ftl.versions ++ l ∧
      l.map (fun v => (v.osn, v.iu, v.mask, v.st, v.data)) = ius.map (fun u => (osn, u.1, u.2.1, .landing, u.2.2)) := by
  unfold State.allocate
  induction ius generalizing s with
  | nil => exact ⟨[], (List.append_nil _).symm, rfl⟩
  | cons u ius ih =>
    obtain ⟨l, hl, hm⟩ := ih _
    exact ⟨_ :: l, hl.trans (List.append_assoc ..), congrArg (_ :: ·) hm⟩

theorem State.readBlock_tag (c t b : Nat) :
    (s.readBlock c t b).tag (s.ctx c).fn t = .data c b (s.frame + s.timeoutFrames (s.ctx c).fn) := by
  unfold State.readBlock
  extract_lets x
  have k : Keeps [.buses] [] (s.setTag x.fn t (.data c b (s.frame + s.timeoutFrames x.fn))) _ :=
    .foldl (l := slice x.walk.segs (4096 * b) 4096) (.refl ..) fun u p => .emit (o := .readReq x.fn t p.1 p.2) (.refl ..)
  rw [State.tag, k.same .tags]
  exact State.tag_setTag_self ..

/-- No version of a refused write lands or is staged any longer (R210). -/
theorem State.adopt_versions (osn : Nat) : ∀ v ∈ (s.adopt osn).ftl.versions, v.osn = osn → v.st ≠ .landing ∧ v.st ≠ .staged := by
  let s2 := (s.keepVersions (fun v => v.osn != osn || decide (v.st ≠ .landing))).mapVersions
    (fun v => if v.osn = osn ∧ v.st = .staged then { v with st := .adopted } else v)
  have hv : (s.adopt osn).ftl.versions = s2.ftl.versions := by
    unfold State.adopt
    extract_lets _ s2 dropped s3
    have k : Keeps [.engine, .log] _ s2 s3 := .foldl (.refl ..) fun _ _ => State.thiRangeDrop_keeps ..
    exact (congrArg Ftl.versions (k.same .ftl) :)
  intro v hm ho
  rw [hv] at hm
  obtain ⟨w, hw, rfl⟩ := List.mem_map.1 hm
  obtain ⟨_, hkeep⟩ := List.mem_filter.1 hw
  by_cases h : w.osn = osn ∧ w.st = .staged
  · rw [if_pos h]
    exact ⟨VerSt.noConfusion, VerSt.noConfusion⟩
  · rw [if_neg h] at ho ⊢
    exact ⟨by simpa [ho] using hkeep, fun hst => h ⟨ho, hst⟩⟩

/-- A TRIM or WRITE_ZEROES that has its spans lands with its record (R356, R480). -/
theorem State.landRange_lands {c : Nat} (zeroes : Bool) {parts : List (Nat × Nat)} {w : Nat × Nat}
    (hparts : parts = match pkOp (s.ctx c).pkt with
      | some o => sealedParts (s.ctx c).pkt o
      | none => [])
    (hw : w = wholeIus (s.ctx c).slba (s.ctx c).nblk) (ha : s.admits (s.ctx c) = true) (hm : s.marksHold parts (s.ctx c).ivs = true)
    (hr : w.2 = 0 ∨ (s.rangeSlot.isSome = true ∧ s.thiRangeRoom w.1 w.2 = true)) (hspans : (s.takeSpans c).1 = true) :
    ((s.landRange c zeroes).ctx c).phase = .landing ∧
      (w.2 ≠ 0 → .range zeroes w.1 w.2 (s.ctx c).osn ∈ (s.landRange c zeroes).ftl.journal.collecting) := by
  subst hparts hw
  unfold State.landRange
  extract_lets x w parts
  have hadm : s.admits x = true := ha
  have hmarks : s.marksHold parts x.ivs = true := hm
  have hroom : (w.2 == 0 || (s.rangeSlot.isSome && s.thiRangeRoom w.1 w.2)) = true := by
    simpa only [Bool.or_eq_true, Bool.and_eq_true, beq_iff_eq] using hr
  rw [if_pos (by simp only [hadm, hmarks, hroom, Bool.and_self]), show s.takeSpans c = (true, (s.takeSpans c).2) from Prod.ext hspans rfl]
  refine ⟨congrArg Ctx.phase ((State.ctx_setCtx ..).trans (if_pos rfl)), fun hne => ?_⟩
  dsimp only [State.setCtx]
  rw [if_neg hne]
  exact List.mem_append_right _ (.head _)

/-- A WRITE whose command has passed its checks and waits in order (R194). -/
theorem hostWrite_ordered {c : CtxNo} (tag : Tag) (ha : s.attends = true) (hw : (s.ctx c).is .write = true) (hp : (s.ctx c).phase = .ordered) :
    exec (.hostWrite c tag) s = if s.admits (s.ctx c) && s.marksHold [((s.ctx c).slba, (s.ctx c).nblk)] (s.ctx c).ivs then
      match s.takeSpans c with
      | (true, s1) => .next ((s1.allocate (s.ctx c).osn ((s.ctx c).masks.map (fun e => (e.1, e.2, [])))).setCtx c
          { s1.ctx c with phase := .landing })
      | (false, s1) => .next s1
      else .next s := by
  refine (if_pos (by simp [ha, hw])).trans ?_
  rw [hp] <;> rfl

end

/-- Settles O27: each step of a write on the versions, the tags and the context it names. -/
theorem writesLand : Obligations.WritesLand := by
  intro s c tag
  extract_lets x u w parts
  refine ⟨fun ha hw hp hadm hm hsp => ?_, fun ha hw hp hno => ?_, fun ha hw hp hsend htag hblk hcov => ?_, fun zeroes => ?_,
    fun b hs hw hp => ?_, fun ha hw hp hg hack hle => ?_⟩
  · have hpair : s.takeSpans c = (true, u) := Prod.ext hsp rfl
    let ius := x.masks.map (fun e => (e.1, e.2, ([] : List (Nat × Stored))))
    have hrun : exec (.hostWrite c tag) s = .next ((u.allocate x.osn ius).setCtx c { u.ctx c with phase := .landing }) := by
      rw [hostWrite_ordered s tag ha hw hp, if_pos (by simp only [x] at hadm hm; simp [hadm, hm]), hpair]
    obtain ⟨l, hl, hlm⟩ := u.allocate_versions x.osn ius
    refine ⟨_, hrun, congrArg Ctx.phase ((State.ctx_setCtx ..).trans (if_pos rfl)), ⟨l, hl, hlm.trans ?_⟩,
      (Keeps.setCtx (.mono (u.allocate_keeps x.osn ius))).frame (fun _ h => absurd h List.not_mem_nil)⟩
    rw [List.map_map]
    rfl
  · rw [hostWrite_ordered s tag ha hw hp]
    refine if_neg fun h => ?_
    obtain ⟨hadm, hm⟩ := Bool.and_eq_true_iff.1 h
    exact hno.elim (absurd hadm <| Bool.eq_false_iff.1 ·) (absurd hm <| Bool.eq_false_iff.1 ·)
  · have hc1 : (s.attends && x.is .write) = true := by simp [ha, hw]
    have hc2 : (s.canSend x.fn && s.tagFree x.fn tag && decide (x.blk < x.nblk)) = true := by simp [hsend, htag, hblk]
    have hrun : exec (.hostWrite c tag) s = .next ((s.readBlock c tag x.blk).setCtx c { x with blk := x.blk + 1 }) := by
      refine (if_pos hc1).trans (Eq.trans (b := .next (s.writeReads c tag)) ?_ ?_)
      · rw [show (s.ctx c).phase = .landing from hp]
      · exact congrArg Host.Outcome.next ((if_pos hc2).trans (if_pos hcov))
    exact ⟨_, hrun, s.readBlock_tag c tag x.blk, (State.ctx_setCtx ..).trans (if_pos rfl),
      (Keeps.setCtx (.mono (s.readBlock_keeps c tag x.blk))).frame (fun _ h => absurd h List.not_mem_nil)⟩
  · extract_lets cmd
    intro hx ha hp hadm hm hr hsp
    have hrun : exec cmd s = .next (s.landRange c zeroes) := by
      have hcond : (s.attends && x.is (if zeroes then .writeZeroes else .trim) && decide (x.phase = .ordered)) = true := by
        simp [ha, hx, hp]
      cases zeroes
      · exact if_pos hcond
      · exact if_pos hcond
    have k := s.landRange_keeps c zeroes
    obtain ⟨hphase, hrec⟩ := s.landRange_lands zeroes rfl rfl hadm hm hr hsp
    exact ⟨_, hrun, hphase, hrec, (k.same .flash).2.1, k.same .rings⟩
  · have hcond : (s.serving && x.isWrite && decide (x.phase = .landing)) = true := by simp [hs, hw, hp]
    exact ⟨_, if_pos hcond, rfl, (State.mapVersions_keeps ..).frame (fun _ h => absurd h List.not_mem_nil)⟩
  · let v := s.refuse c stGroupUnavailable
    have hcond : (s.attends && x.isWrite && decide (x.phase = .published) && s.groupRing x && !s.groupAcked x
        && decide (x.pubAt + s.rd Reg.WBF_CFG.GROUP_WAIT ≤ s.frame)) = true := by simp [ha, hw, hp, hg, hack, hle]
    have hend : v.ctx c = { (s.adopt x.osn).ctx c with phase := .finished, status := stGroupUnavailable } :=
      (State.ctx_setCtx ..).trans (if_pos rfl)
    refine ⟨_, if_pos hcond, (congrArg Ctx.phase hend :), (congrArg Ctx.status hend :), ?_, s.adopt_versions x.osn, rfl⟩
    rw [State.event_rd_, State.rd_wr_same]
    rfl

end Sys2Proof.Machine
end

section
/-! PROOFS. Persistent admin commands, key slots, raw flash and debug, and trim ranges (R25, R28, R270 to R274, R303, R357, R378, R379,
R445, R496 to R512; O32 to O35). -/

set_option Elab.async false

namespace Sys2Proof.Machine

/-! ### Accepting and refusing -/

section
variable (s : State)

theorem State.endCtx_ctx (c status : Nat) : (s.endCtx c status).ctx c = { s.ctx c with phase := .finished, status := status } :=
  (State.ctx_setCtx ..).trans (if_pos rfl)

theorem State.endCtx_refusedWith (c status : Nat) : refusedWith s (s.endCtx c status) c status :=
  ⟨(congrArg Ctx.phase (s.endCtx_ctx c status) :), (congrArg Ctx.status (s.endCtx_ctx c status) :),
    (s.endCtx_keeps c status).frame (fun _ h => absurd h List.not_mem_nil)⟩

/-- A record put into the batch after a change of the boot store or of the free values persists its command. -/
theorem State.persist_persisting {u : State} (h : Only [.freeValues, .bootStore] s u) (c : Nat) (a : AdminRec) (x : Ctx) :
    persisting s (u.persist c a x) c a := by
  have hctx : (u.persist c a x).ctx c = { x with phase := .committing } := by
    rw [State.persist, State.record_ctx_, State.ctx_setCtx, if_pos rfl]
  exact ⟨(congrArg Ctx.phase hctx :), List.mem_append_right _ (.head _), (congrArg Ftl.map (h .ftl (by decide)) :),
    (congrArg Sec.slots (h .keys (by decide)) :), (h.mono (by decide)).trans ((u.persist_keeps c a x).only.mono (by decide))⟩

end

/-- Settles O32: each command ends in its record or in its status. -/
theorem persistentCommands : Obligations.PersistentCommands := by
  intro s c hturn
  extract_lets x k
  have hsame : Only [.freeValues, .bootStore] s s := .refl _ _
  refine ⟨fun hr hb => ?_, fun r pointOk u hr => ⟨fun st hst => ?_, fun hst => ?_⟩, fun hr => ⟨fun hk => ?_, fun hk => ?_⟩,
    fun r u hr => ⟨fun st hst => ?_, fun hst => ?_⟩, fun hr hl => ⟨fun hm => ?_, fun hm hb => ?_, fun hm hb hg => ?_⟩,
    fun g sig hr hsole hlen => ⟨fun st off hst => ?_, fun hst => ?_⟩, fun sig hr hsole => ⟨fun ha => ?_, fun ha hp hb hsrc => ?_⟩⟩
  · exact ⟨_, (if_pos hr).trans ((if_pos hb).trans (if_pos hturn)), s.persist_persisting hsame ..⟩
  · refine ⟨_, ?_, s.endCtx_refusedWith c st⟩
    refine (if_pos (by simp [hr, hturn])).trans ?_
    dsimp only [moved]
    rw [show s.keyLoadStatus (s.ctx c).pkt r pointOk u = some st from hst]
  · refine ⟨_, ?_, s.persist_persisting ((s.recordKey_keeps r u).only.mono (by decide)) c _
      { x with key := (s.recordKey r u).1, page := r.setWidth 32768 }⟩
    refine (if_pos (by simp [hr, hturn])).trans ?_
    dsimp only [moved]
    rw [show s.keyLoadStatus (s.ctx c).pkt r pointOk u = none from hst]
  · exact ⟨_, (if_pos (by simp [hr, hturn])).trans (if_pos hk), s.persist_persisting hsame ..⟩
  · exact ⟨_, (if_pos (by simp [hr, hturn])).trans (if_neg (Bool.eq_false_iff.1 hk)), s.endCtx_refusedWith ..⟩
  · refine ⟨_, ?_, s.endCtx_refusedWith c st⟩
    refine (if_pos (by simp [hr, hturn])).trans ?_
    rw [show s.joinStatus (s.ctx c).pkt r u = some st from hst]
  · refine ⟨_, ?_, s.persist_persisting hsame c _ { x with key := u.getD 0, page := r }, rfl⟩
    refine (if_pos (by simp [hr, hturn])).trans ?_
    rw [show s.joinStatus (s.ctx c).pkt r u = none from hst]
  · exact ⟨_, (if_pos (by simp [hr, hturn, hl])).trans (if_pos (by simp [hm])), s.endCtx_refusedWith ..⟩
  · exact ⟨_, (if_pos (by simp [hr, hturn, hl])).trans ((if_neg (by simp [hm])).trans (if_pos hb)), s.persist_persisting hsame ..⟩
  · let s1 := (s.setGroup { s.group with leaver := c + 1 }).wr Reg.GLI_STATUS.STATE 4
    let t := if s.steward = s.own then s1 else s1.sendMsg s.steward 0x09 []
    have hrun : exec (.groupLeave c) s = .next t :=
      (if_pos (by simp [hr, hturn, hl])).trans ((if_neg (by simp [hm])).trans ((if_neg (Bool.eq_false_iff.1 hb)).trans (if_pos hg)))
    have k : Keeps [.group, .buses] [] s1 t := .ite (.refl ..) (s1.sendMsg_keeps ..)
    have hst : s1.rd Reg.GLI_STATUS.STATE = 4 := State.rd_wr_same ..
    exact ⟨t, hrun, (k.rd_eq (by decide) ..).trans hst, k.same .contexts, k.same .ftl⟩
  · let u := s.event 0x24 0x0105 (st + off / 4 % 2 ^ 16 * 2 ^ 16)
    have hend := u.endCtx_ctx c st
    refine ⟨u.endCtx c st, ?_, (congrArg Ctx.phase hend :), (congrArg Ctx.status hend :), ?_⟩
    · refine (if_pos (by simp [hr, hturn, hsole])).trans ((if_pos hlen).trans ?_)
      rw [show ucodeCheck s g (pkDw (s.ctx c).pkt 10) sig s.lunIds = some (st, off) from hst]
    · exact (Keeps.andThen (.event (.refl ..)) (State.endCtx_keeps ..)).frame (fun _ h => absurd h List.not_mem_nil)
  · refine ⟨_, ?_, s.persist_persisting hsame c _ { x with img := g }⟩
    refine (if_pos (by simp [hr, hturn, hsole])).trans ((if_pos hlen).trans ?_)
    rw [show ucodeCheck s g (pkDw (s.ctx c).pkt 10) sig s.lunIds = none from hst]
  · exact ⟨_, (if_pos (by simp [hr, hturn, hsole])).trans (if_pos (by simp [x] at ha; simp [ha])), s.endCtx_refusedWith ..⟩
  · let u := s.setFw (pkDw x.pkt 10) { s.fwSlot (pkDw x.pkt 10) with check := 1 }
    have hrun : exec (.fwActivate c sig) s = .next (u.persist c (.activate (pkDw x.pkt 10)) x) := by
      refine (if_pos (by simp [hr, hturn, hsole])).trans ((if_neg (by simpa using ha)).trans ?_)
      dsimp only
      rw [show s.fwPasses (pkDw (s.ctx c).pkt 10) sig = true from hp, show (s.fwSlot (pkDw (s.ctx c).pkt 10)).baseOk = true from hb]
      exact (if_neg (by decide)).trans (if_neg (by simp [hsrc]))
    exact ⟨_, hrun, s.persist_persisting ((s.setFw_keeps ..).only.mono (by decide)) ..⟩

/-! ### Key slots (R496, R504) -/

section
variable (s : State)

theorem State.keySlot_setKeySlot (k : Nat) (y : KeySlot) : (s.setKeySlot k y).keySlot k = y := by
  have h := (State.secRefresh_keeps { s with sec := { s.sec with slots := Tbl.set {} s.sec.slots k y } }).same .keys
  rw [State.keySlot, State.setKeySlot, h]
  exact Tbl.get_set_self ..

end

/-- Settles O33: a purge and the end of a sweep write their slot; a purge's record is persisted. -/
theorem keySlots : Obligations.KeySlots := by
  intro s
  refine ⟨fun c => ?_, fun k y hs hp => ?_, fun k y hs hk => ?_⟩
  · extract_lets k
    intro hr hne
    refine ⟨fun hst => ?_, fun hst => ?_⟩
    · let y : KeySlot := { s.keySlot k with st := 2, purger := c + 1 }
      have hkeep := s.setKeySlot_keeps k y
      exact ⟨s.setKeySlot k y, (if_pos (by simp [hr]; exact hne)).trans (if_pos hst), s.keySlot_setKeySlot k y, hkeep.same .contexts, hkeep.only⟩
    · exact ⟨_, (if_pos (by simp [hr]; exact hne)).trans (if_neg hst), s.endCtx_refusedWith ..⟩
  · refine ⟨_, ?_, s.persist_persisting (.refl _ _) (y.purger - 1) (.purge k) (s.ctx (y.purger - 1))⟩
    refine (if_pos hs).trans ?_
    rw [hp]
  · let u := s.setKeySlot k { y with oldest := max y.oldest (y.sweep - 1), sweep := 0 }
    have hkeep : Keeps [.keys, .log] _ s u := (s.setKeySlot_keeps ..).mono (by decide) (List.Subset.refl _)
    have hslot : u.keySlot k = _ := s.keySlot_setKeySlot k _
    refine ⟨u.event 0x38 0x0104 (k + max y.oldest (y.sweep - 1) * 2 ^ 12), ?_, by rw [State.keySlot, State.event_sec]; exact hslot, rfl,
      hkeep.event.only⟩
    refine (if_pos hs).trans ?_
    rw [hk]

/-! ### Raw flash, the debug port and the boot-store queue (R270 to R273, R445, R509, R512) -/

section
variable (s : State)

@[simp] theorem State.blk_setBlk (a : Nat) (b : Blk) : (s.setBlk a b).blk a = b := Tbl.get_set_self ..

/-- What every step of a fold keeps, the fold keeps. -/
theorem State.foldl_same {β γ : Type} (p : State → γ) {g : State → β → State} (h : ∀ u b, p (g u b) = p u) (l : List β) :
    p (l.foldl g s) = p s := by
  induction l generalizing s with
  | nil => rfl
  | cons b l ih => exact (ih _).trans (h s b)

theorem State.secRefresh_sec : s.secRefresh.sec = s.sec := s.secRefresh_keeps.same .keys

theorem State.secRefresh_pages : s.secRefresh.pages = s.pages := (s.secRefresh_keeps.same .flash).2.1

/-- The keys of a state. A predicate of its own, so that a chain of changes is compared by its last one and not computed. -/
def SecIs (q : Sec) (t : State) : Prop := t.sec = q

section
variable {q : Sec} {t u : State} {ps : List Part} {rs : List Fld}

theorem SecIs.keeps (h : SecIs q t) (k : Keeps ps rs t u) (hp : Part.keys ∉ ps := by decide) : SecIs q u := (k.same .keys hp).trans h

theorem SecIs.wr (h : SecIs q t) {r : Fld} {v i f : Nat} : SecIs q (t.wr r v i f) := h

theorem SecIs.setPeer (h : SecIs q t) {j : Nat} {p : Peer} : SecIs q (t.setPeer j p) := h

theorem SecIs.foldl {β : Type} {g : State → β → State} {l : List β} (h : SecIs q t) (hg : ∀ u b, SecIs q u → SecIs q (g u b)) :
    SecIs q (l.foldl g t) := by
  induction l generalizing t with
  | nil => exact h
  | cons b l ih => exact ih (hg t b h)

theorem SecIs.dropGroupKey (h : SecIs q t) {g : Group} :
    SecIs { q with groupKey := none } { t with group := g, sec := { t.sec with groupKey := none } } := by
  subst h
  rfl

end

/-- A device that leaves its group loses the group's key and keeps the others (R379). -/
theorem State.depart_sec : SecIs { s.sec with groupKey := none } s.depart :=
  .keeps (.dropGroupKey (.wr (.wr (.wr (.wr (.wr (.wr (.wr (.foldl (.keeps (.foldl (.foldl (rfl : SecIs s.sec s) fun u j h =>
    .setPeer (.wr (.wr (.wr (h.keeps (u.setSession_keeps j 0)))))) fun u i h => h.keeps (u.stage_keeps (16 + i) {}))
    (State.winDevice_keeps _)) fun u e h => h.keeps (u.refuse_keeps e.1 0x0030)))))))))) (State.secRefresh_keeps _)

theorem State.setMap_pages (iu : Nat) (e : MapEnt) : (s.setMap iu e).pages = s.pages := by
  unfold State.setMap
  extract_lets s1 s2 j page d
  have h1 : s1.pages = s.pages := by
    dsimp only [s1]
    split <;> rfl
  have h2 : s2.pages = s1.pages := by
    dsimp only [s2]
    split <;> rfl
  exact h2.trans h1

theorem State.unmapRange_pages (iu n osn : Nat) : (s.unmapRange iu n osn).pages = s.pages :=
  s.foldl_same State.pages (fun u k => u.setMap_pages k .unmapped) _

/-- A trim of the device's own writes no page. -/
theorem State.trimOwn_pages (first n : Nat) : (s.trimOwn first n).pages = s.pages := by
  unfold State.trimOwn
  extract_lets o ends spans w s1 s2
  have k : Keeps _ _ s s2 := ((((s.assignOsn_keeps.then (o.2.allocate_keeps o.1 _)).then (s1.thiTakeSpans_keeps spans)).then
    (State.mapVersions_keeps _ _)).then (State.thiGiveSpans_keeps _ spans))
  have h2 : s2.pages = s.pages := (k.same .flash).2.1
  split
  · exact h2
  · split
    · split
      · exact ((((s2.addRange_keeps _).then (State.thiRangeCommit_keeps _ _)).same .flash).2.1).trans h2
      · exact (s2.unmapRange_pages _ _ _).trans h2
    · exact (s2.unmapRange_pages _ _ _).trans h2

theorem State.zeroise_pages : s.zeroise.pages = s.pages := by
  unfold State.zeroise
  extract_lets full s1 q s2 s3
  have h1 : s1.pages = s.pages := s.foldl_same State.pages (fun u e => by rw [State.record_pages]) _
  have h3 : s3.pages = s2.pages := by
    dsimp only [s3]
    split
    · rfl
    · exact s2.trimOwn_pages 0 _
  have h4 : (if s3.member then s3.depart else s3).pages = s3.pages := by
    split
    · exact (s3.depart_keeps.same .flash).2.1
    · rfl
  rw [State.event_pages, State.secRefresh_pages, h4, h3]
  exact h1

/-- A zeroised device holds no key (R509). -/
theorem State.zeroise_sec : s.zeroise.sec.slots = [] ∧ s.zeroise.sec.tk = none ∧ s.zeroise.sec.groupKey = none := by
  unfold State.zeroise
  extract_lets full s1 q s2 s3
  have h3 : s3.sec = s2.sec := by
    dsimp only [s3]
    split
    · rfl
    · exact (s2.trimOwn_keeps 0 s2.ftl.capacity).same .keys
  have hkeys : s3.sec.slots = [] ∧ s3.sec.tk = none ∧ s3.sec.groupKey = none := by
    rw [h3]
    exact ⟨rfl, rfl, rfl⟩
  rw [State.event_sec, State.secRefresh_sec]
  split
  · rw [show s3.depart.sec = _ from s3.depart_sec]
    exact ⟨hkeys.1, hkeys.2.1, rfl⟩
  · exact hkeys

end

/-- Settles O34: raw programs and erases, the debug port and the boot store act on what they name. -/
theorem rawAndDebug : Obligations.RawAndDebug := by
  intro s c
  extract_lets x a
  refine ⟨fun l pass hr hf => ⟨fun hu => ?_, fun hu => ?_⟩, fun pass hr hf hu => ?_, fun fn ch mask hr => ?_, fun hs hd => ?_,
    fun hs hd => ⟨?_, ?_⟩, fun o l hq => ?_⟩
  · exact ⟨_, (if_pos (by simp [hr, hf])).trans (if_pos (by simp [show s.rawUse (pkMedia (s.ctx c).pkt) = false from hu])), s.endCtx_refusedWith ..⟩
  · let b := s.blk a
    let erased := match b.wp with
      | some w => decide (w ≤ adPage a)
      | none => false
    let s1 := s.rawStore x.pkt l (erased && pass && !pkBypass x.pkt)
    let s2 := s1.setBlk a { s1.blk a with st := .raw, wp := some (max (b.wp.getD 0) (adPage a + pkPages x.pkt)) }
    let st := if !erased then stNotErased else if pass then stSuccess else stProgramFail
    have hrun : exec (.rawProgram c (.data l) pass) s = .next (s2.endCtx c st) :=
      (if_pos (by simp [hr, hf])).trans (if_neg (by simp [show s.rawUse (pkMedia (s.ctx c).pkt) = true from hu]))
    have hend := s2.endCtx_ctx c st
    have hst := (congrArg Ctx.status hend :)
    refine ⟨_, hrun, (congrArg Ctx.phase hend :), by simp [s2, State.endCtx, b], fun hn => ?_, fun w hw => ?_,
      (Keeps.andThen (.setBlk (.mono (s.rawStore_keeps ..))) (s2.endCtx_keeps c st)).frame (fun _ h => absurd h List.not_mem_nil)⟩
    · rw [hst]
      have he : erased = false := by simp only [erased, b, hn]
      simp [st, he, stNotErased]
    · rw [hst]
      have he : erased = decide (w ≤ adPage a) := by simp only [erased, b, hw]
      by_cases hlt : adPage a < w
      · simp [st, he, hlt, stNotErased]
      · simp [st, he, hlt, Nat.le_of_not_lt hlt, stSuccess, stProgramFail]
  · let u : State := { s with pages := s.pages.filter (fun e => adOfBlock e.1 != a) }
    let v := u.setBlk a { u.blk a with st := .raw, wp := some 0, slc := pkSlc x.pkt, erases := (u.blk a).erases + 1 }
    let st := if pass then stSuccess else stEraseFail
    have hrun : exec (.rawErase c pass) s = .next (v.endCtx c st) :=
      (if_pos (by simp [hr, hf])).trans (if_neg (by simp [show s.rawUse (pkMedia (s.ctx c).pkt) = true from hu]))
    refine ⟨_, hrun, by simp [v, State.endCtx], by simp [v, State.endCtx], (congrArg Ctx.status (v.endCtx_ctx c st) :),
      (Keeps.andThen (.setBlk (.with_pages (.refl ..))) (v.endCtx_keeps c st)).frame (fun _ h => absurd h List.not_mem_nil)⟩
  · extract_lets u
    refine ⟨fun hl => ?_, fun hl => (if_pos hr).trans (if_pos hl)⟩
    have hrun : exec (.rawEn fn ch mask) s = .next (u.wr Reg.CHN_RAW_EN.RAW mask.toNat ch) := (if_pos hr).trans (if_neg (Bool.eq_false_iff.1 hl))
    exact ⟨_, hrun, (State.rd_wr_same ..).trans (Nat.mod_eq_of_lt mask.isLt),
      (Frame.refl ..).then_wr (.head _) _ ch.isLt (by decide)⟩
  · let n := (Config.drbg s.free).toNat
    let s1 := (List.range 8).foldl (fun s i => s.wr Reg.SEC_DBG_CHAL.NONCE (bitsOf n (32 * i) 32) i) s.freeNext
    have hrun : exec .debugChallenge s = .next (s1.wr Reg.SEC_STATUS.DEBUG 1) := if_pos (by simp [hs, hd])
    refine ⟨_, hrun, State.rd_wr_same .., Frame.then_wr ?_ (by decide) _ (by decide) (by decide)⟩
    exact Frame.foldl (fun u i hi => (Frame.refl _ _ u).then_wr (.head _) _ (List.mem_range.1 hi) (by decide))
      ((Frame.refl _ _ s).freeNext (by decide))
  · have hrun : exec (.debugSubmit false) s = .next _ := (if_pos (by simp [hs, hd])).trans (if_neg Bool.false_ne_true)
    refine ⟨_, hrun, (State.rd_wr_same ..).trans ?_, (Keeps.wr (.with_sec (.refl ..))).frame (by decide)⟩
    split <;> rfl
  · have hrun : exec (.debugSubmit true) s = .next (s.zeroise.wr Reg.SEC_STATUS.DEBUG 2) :=
      (if_pos (by simp [hs, hd])).trans (if_pos rfl)
    obtain ⟨hslots, htk, hgk⟩ := s.zeroise_sec
    refine ⟨_, hrun, State.rd_wr_same .., fun k => ?_, htk, hgk, s.zeroise_pages⟩
    change (s.zeroise.keySlot k).st = 0
    rw [State.keySlot, hslots]
    rfl
  · let s1 := ({ s with bst := { s.bst with queue := l } } : State).wr Reg.BST_STATUS.WRITING (bit (!l.isEmpty))
    have hw : s1.rd Reg.BST_STATUS.WRITING = if l.isEmpty then 0 else 1 := by
      rw [State.rd_wr_same]
      cases l <;> rfl
    have k : Keeps [.bootStore, .dram] [Reg.BST_STATUS.WRITING] s s1 :=
      ((Keeps.refl [.bootStore, .dram] _ s).with_bst).wr
    change ∃ t, execBootStoreWriteDone s = .next t ∧ _
    unfold execBootStoreWriteDone
    rw [hq]
    dsimp only
    split
    · exact ⟨_, rfl, rfl, hw, k.with_dram.frame (by decide)⟩
    · exact ⟨_, rfl, rfl, hw, k.frame (by decide)⟩

/-! ### Trim ranges (R357) -/

section
variable (s : State)

/-- The map and the journal's marks after a change of an IU's entry. -/
def Ftl.mapped (m : Ftl) (iu : Nat) (e : MapEnt) : Ftl :=
  { m with map := Tbl.set .unmapped m.map iu e,
           journal := { m.journal with dirty := if Tbl.get 0 m.journal.dirty (iu / 819) = 0
                                                  then Tbl.set 0 m.journal.dirty (iu / 819) m.journal.batch else m.journal.dirty } }

theorem State.setMap_ftl (iu : Nat) (e : MapEnt) : (s.setMap iu e).ftl = s.ftl.mapped iu e := by
  unfold State.setMap
  extract_lets s1 s2 j page d
  have h1 : s1.ftl = s.ftl := by
    dsimp only [s1]
    split <;> rfl
  have h2 : s2.ftl = s.ftl := by
    dsimp only [s2]
    split <;> exact h1
  exact (congrArg (Ftl.mapped · iu e) h2 :)

theorem State.setMap_entry (iu k : Nat) (e : MapEnt) : (s.setMap iu e).entry k = if k = iu then e else s.entry k := by
  rw [State.entry, State.setMap_ftl]
  exact Tbl.get_set ..

/-- An IU with a version that a range does not reach. -/
def State.above (s : State) (osn iu : Nat) : Bool := (s.stack iu).any (fun v => decide (osn < v.osn))

/-- One IU of a range applied. -/
def State.rangeIu (r : RangeEnt) (s : State) (iu : Nat) : State :=
  if s.above r.osn iu then s else s.setMap iu (if r.zeroes then .zeroed else .unmapped)

theorem State.rangeIu_keeps (r : RangeEnt) (iu : Nat) : Keeps [.flash, .ftl] [] s (s.rangeIu r iu) :=
  .ite (.refl ..) (s.setMap_keeps ..)

theorem State.rangeIu_versions (r : RangeEnt) (iu : Nat) : (State.rangeIu r s iu).ftl.versions = s.ftl.versions := by
  unfold State.rangeIu
  split
  · rfl
  · rw [State.setMap_ftl]
    rfl

theorem State.rangeIu_ranges (r : RangeEnt) (iu : Nat) : (State.rangeIu r s iu).ftl.ranges = s.ftl.ranges := by
  unfold State.rangeIu
  split
  · rfl
  · rw [State.setMap_ftl]
    rfl

theorem State.rangeIu_pages (r : RangeEnt) (iu : Nat) : (State.rangeIu r s iu).pages = s.pages := by
  unfold State.rangeIu
  split
  · rfl
  · exact s.setMap_pages ..

theorem State.rangeIu_above (r : RangeEnt) (iu osn k : Nat) : (State.rangeIu r s iu).above osn k = s.above osn k := by
  rw [State.above, State.above, State.stack, State.stack, State.rangeIu_versions]

theorem State.rangeIu_entry (r : RangeEnt) (iu k : Nat) : (State.rangeIu r s iu).entry k =
    if k = iu ∧ s.above r.osn iu = false then (if r.zeroes then .zeroed else .unmapped) else s.entry k := by
  unfold State.rangeIu
  cases h : s.above r.osn iu with
  | true => simp
  | false => simp [State.setMap_entry]

/-- Applying a range sets the map entries of the IUs it reaches, and no other. -/
theorem State.rangeIus_entry (r : RangeEnt) (l : List Nat) (k : Nat) : (l.foldl (State.rangeIu r) s).entry k =
    if k ∈ l ∧ s.above r.osn k = false then (if r.zeroes then .zeroed else .unmapped) else s.entry k := by
  induction l generalizing s with
  | nil => simp
  | cons iu l ih =>
    rw [List.foldl_cons, ih, State.rangeIu_above, State.rangeIu_entry]
    by_cases hk : k = iu
    · subst hk
      cases s.above r.osn k <;> simp
    · simp [hk]

end

/-- Settles O35: the map, the ranges and the pages after the fold over the IUs of the range's next map page. -/
theorem rangesApplied : Obligations.RangesApplied := by
  intro s e r hr hcount hst hs
  extract_lets n
  intro hpast
  let ius := (List.range n).map (fun i => r.firstIu + i)
  have hmem : ∀ k, k ∈ ius ↔ r.firstIu ≤ k ∧ k < r.firstIu + n := by
    intro k
    simp only [ius, List.mem_map, List.mem_range]
    exact ⟨fun ⟨i, hi, he⟩ => by omega, fun h => ⟨k - r.firstIu, by omega, by omega⟩⟩
  let s1 := ius.foldl (State.rangeIu r) s
  let r1 : RangeEnt := { r with firstIu := r.firstIu + n, count := r.count - n }
  have hrun : ∃ t, exec (.rangeApply e) s = .next t ∧ t.ftl.map = s1.ftl.map ∧ t.ftl.ranges = s1.ftl.ranges.set e r1 ∧
      t.pages = s1.pages ∧ Keeps [.ftl, .flash] [] s1 t := by
    change ∃ t, execRangeApply e s = .next t ∧ _
    unfold execRangeApply
    rw [hr]
    dsimp -zeta only
    extract_lets live s1' s2 s3 s4
    have hlive : live = true := by
      obtain h | h := hst <;> simp only [live, h]
    have hall : (ius.all fun iu => s.readsPast iu r.osn) = true :=
      List.all_eq_true.2 fun iu hi => hpast iu ((hmem iu).1 hi).1 ((hmem iu).1 hi).2
    rw [if_pos (by simp [hs, hlive, hcount, hall])]
    have k4 : Keeps [.ftl, .flash] [] s1 s4 :=
      .andThen (.with_bands (.mono (s1.mapVersions_keeps _))) (s3.setRange_keeps _ _)
    have hmap : s4.ftl.map = s1.ftl.map := rfl
    have hranges : s4.ftl.ranges = s1.ftl.ranges.set e r1 := rfl
    have hpages : s4.pages = s1.pages := rfl
    clear_value s4
    split
    · exact ⟨_, rfl, hmap, hranges, hpages, k4.record⟩
    · exact ⟨_, rfl, hmap, hranges, hpages, k4⟩
  obtain ⟨t, hrun, hmap, hranges, hpages, hkeep⟩ := hrun
  have k1 : Keeps [.ftl, .flash] [] s s1 := .foldl (.refl ..) fun u iu => .mono (u.rangeIu_keeps r iu)
  have hentry : ∀ k, t.entry k = if k ∈ ius ∧ s.above r.osn k = false then (if r.zeroes then .zeroed else .unmapped) else s.entry k := by
    intro k
    rw [State.entry, hmap]
    exact s.rangeIus_entry r ius k
  refine ⟨t, hrun, fun iu h1 h2 h => ?_, fun iu h => ?_, ?_, ?_, hkeep.same .contexts |>.trans (k1.same .contexts),
    (k1.trans hkeep).frame (fun _ h => absurd h List.not_mem_nil)⟩
  · exact (hentry iu).trans (if_pos ⟨(hmem iu).2 ⟨h1, h2⟩, h⟩)
  · refine (hentry iu).trans (if_neg fun ⟨hm, ha⟩ => ?_)
    obtain ⟨h1, h2⟩ := (hmem iu).1 hm
    obtain h | h | h := h
    · omega
    · omega
    · exact absurd (ha.symm.trans h) Bool.false_ne_true
  · rw [State.rangeAt, hranges, s.foldl_same (fun u => u.ftl.ranges) (fun u iu => u.rangeIu_ranges r iu)]
    have hlt : e.val < s.ftl.ranges.length := (List.getElem?_eq_some_iff.1 hr).1
    exact List.getElem?_set_self hlt
  · rw [hpages]
    exact s.foldl_same State.pages (fun u iu => u.rangeIu_pages r iu) ius

end Sys2Proof.Machine
end

section
/-! PROOFS. Gating and wakes, channel training, the microcode swap and the plan (R141, R143, R220 to R240, R252, R253, R304, R305; O37,
O38, O40, O53). -/

set_option Elab.async false

namespace Sys2Proof.Machine

/-! ### The states of the domains (R240) -/

/-- A 2-bit field of a word replaced. -/
def setPair (w k v : Nat) : Nat := w - bitsOf w (2 * k) 2 * 2 ^ (2 * k) + v * 2 ^ (2 * k)

/-- A replaced pair lies between the word's bits above it and those below it. -/
theorem setPair_eq (w k v : Nat) : setPair w k v = (w / 2 ^ (2 * k) / 4 * 4 + v) * 2 ^ (2 * k) + w % 2 ^ (2 * k) := by
  have hword := Nat.div_add_mod w (2 ^ (2 * k))
  have hpair := Nat.div_add_mod (w / 2 ^ (2 * k)) 4
  have hsplit : w = (w / 2 ^ (2 * k) / 4 * 4 + w / 2 ^ (2 * k) % 4) * 2 ^ (2 * k) + w % 2 ^ (2 * k) := by
    rw [Nat.mul_comm _ 4, hpair, Nat.mul_comm]
    exact hword.symm
  change w - w / 2 ^ (2 * k) % 4 * 2 ^ (2 * k) + v * 2 ^ (2 * k) = _
  generalize w / 2 ^ (2 * k) / 4 = a at *
  generalize w / 2 ^ (2 * k) % 4 = b at *
  generalize w % 2 ^ (2 * k) = c at *
  rw [hsplit, Nat.add_mul, Nat.add_mul]
  omega

section
variable (w k : Nat) {v : Nat} (hv : v < 4)

theorem setPair_mod : setPair w k v % 2 ^ (2 * k) = w % 2 ^ (2 * k) := by
  rw [setPair_eq, Nat.mul_comm, Nat.mul_add_mod, Nat.mod_mod]

theorem setPair_div : setPair w k v / 2 ^ (2 * k) = w / 2 ^ (2 * k) / 4 * 4 + v := by
  have hpos : 0 < 2 ^ (2 * k) := Nat.two_pow_pos _
  rw [setPair_eq, Nat.mul_comm, Nat.mul_add_div hpos, Nat.div_eq_of_lt (Nat.mod_lt _ hpos), Nat.add_zero]

include hv

theorem bitsOf_setPair : bitsOf (setPair w k v) (2 * k) 2 = v := by
  unfold bitsOf
  rw [setPair_div]
  omega

theorem setPair_above : setPair w k v / 2 ^ (2 * k) / 4 = w / 2 ^ (2 * k) / 4 := by
  rw [setPair_div]
  omega

theorem setPair_lt {n : Nat} (hw : w < 2 ^ (2 * n)) (hk : k < n) : setPair w k v < 2 ^ (2 * n) := by
  have hpow : 2 ^ (2 * n) = 2 ^ (2 * k) * 4 * 2 ^ (2 * (n - k - 1)) := by
    rw [show (4 : Nat) = 2 ^ 2 from rfl, ← Nat.pow_add, ← Nat.pow_add]
    congr 1
    omega
  have habove := setPair_above w k hv
  rw [Nat.div_div_eq_div_mul, Nat.div_div_eq_div_mul] at habove
  rw [hpow] at hw ⊢
  have hdiv := Nat.div_lt_of_lt_mul hw
  rw [← habove] at hdiv
  rw [Nat.mul_comm _ (2 ^ (2 * (n - k - 1)))]
  exact (Nat.div_lt_iff_lt_mul (by positivity)).1 hdiv

theorem testBit_setPair {i : Nat} (h : i < 2 * k ∨ 2 * k + 2 ≤ i) : (setPair w k v).testBit i = w.testBit i := by
  obtain h | h := h
  · have hlow := congrArg (·.testBit i) (setPair_mod w k (v := v))
    simpa [Nat.testBit_mod_two_pow, h] using hlow
  · have hhigh := congrArg (·.testBit (i - (2 * k + 2))) (setPair_above w k hv)
    have hexp : ∀ x : Nat, x / 2 ^ (2 * k) / 4 = x / 2 ^ (2 * k + 2) := fun x => by rw [Nat.pow_add, Nat.div_div_eq_div_mul]
    simp only [hexp, Nat.testBit_div_two_pow] at hhigh
    rwa [Nat.sub_add_cancel h] at hhigh

theorem bitsOf_setPair_other {j : Nat} (h : j ≠ k) : bitsOf (setPair w k v) (2 * j) 2 = bitsOf w (2 * j) 2 := by
  refine Nat.eq_of_testBit_eq fun i => ?_
  unfold bitsOf
  rw [Nat.testBit_mod_two_pow, Nat.testBit_mod_two_pow, Nat.testBit_div_two_pow, Nat.testBit_div_two_pow]
  by_cases hi : i < 2
  · rw [testBit_setPair w k hv (by omega)]
  · simp [hi]

end

section
variable (s : State)

theorem State.rd_setDom (d v j : Nat) (hv : v < 4) : (s.setDom d v).rd Reg.PWR_DOM_STATE.ALL j =
    if j = d / 16 then setPair (s.rd Reg.PWR_DOM_STATE.ALL j) (d % 16) v else s.rd Reg.PWR_DOM_STATE.ALL j := by
  unfold State.setDom
  split
  · next h =>
    subst h
    rw [State.rd_wr_same, Nat.mod_eq_of_lt hv]
    exact Nat.mod_eq_of_lt (setPair_lt _ _ hv (n := 16) (s.rd_lt ..) (Nat.mod_lt _ (by decide)))
  · next h => exact State.rd_wr_other _ _ _ _ _ _ _ _ (Fld.key_instance (by decide) h 0)

theorem State.domState_setDom (d v e : Nat) (hv : v < 4) : (s.setDom d v).domState e = if e = d then v else s.domState e := by
  unfold State.domState
  rw [State.rd_setDom _ _ _ _ hv]
  by_cases he : e = d
  · subst he
    rw [if_pos rfl, if_pos rfl, bitsOf_setPair _ _ hv]
  · rw [if_neg he]
    split
    · next h => exact bitsOf_setPair_other _ _ hv (by omega)
    · rfl

theorem State.setDom_frame (d : Fin 160) (v : Nat) : Frame [] [Reg.PWR_DOM_STATE.ALL] s (s.setDom d v) :=
  (Frame.refl ..).then_wr (.head _) _ (by change d.val / 16 < 10; omega) (by decide)

end

/-! ### Wakes (R143) -/

section
variable (s : State)

/-- A wake source latched is seen. -/
theorem State.wakeSet_wr {r : Fld} (hr : r = Reg.PWR_WAKE.CLKREQ ∨ r = Reg.PWR_WAKE.EI_EXIT) : (s.wr r 1).wakeSet = true := by
  have hon : (s.wr r 1).on r = true := by
    rw [State.on, State.rd_wr_same]
    obtain rfl | rfl := hr <;> rfl
  unfold State.wakeSet
  obtain rfl | rfl := hr <;> simp [hon]

theorem State.wakeSet_of_keeps {ps : List Part} {rs : List Fld} {s t : State} (k : Keeps ps rs s t)
    (h : ∀ q ∈ [Reg.PWR_WAKE.EI_EXIT, Reg.PWR_WAKE.CLKREQ, Reg.PWR_WAKE.PERST, Reg.PWR_WAKE.TLP_F0, Reg.PWR_WAKE.TLP_F1,
      Reg.PWR_WAKE.INTERNAL], ∀ r ∈ rs, q.clear r = true) : t.wakeSet = s.wakeSet := by
  have hon : ∀ q ∈ [Reg.PWR_WAKE.EI_EXIT, Reg.PWR_WAKE.CLKREQ, Reg.PWR_WAKE.PERST, Reg.PWR_WAKE.TLP_F0, Reg.PWR_WAKE.TLP_F1,
      Reg.PWR_WAKE.INTERNAL], t.on q = s.on q := fun q hq => by rw [State.on, State.on, k.rd_eq (h q hq)]
  unfold State.wakeSet
  rw [hon _ (by decide), hon _ (by decide), hon _ (by decide), hon _ (by decide), hon _ (by decide), hon _ (by decide)]

/-- What an exit's rails do leaves the state the exit leads to. -/
theorem State.railsTo_exitTo (st : Nat) (raising : Bool) : (s.railsTo st raising).pwr.exitTo = s.pwr.exitTo := by
  unfold State.railsTo State.railsGo
  extract_lets stuck moves q w blocked now q2 s1
  refine s1.foldl_same (fun u => u.pwr.exitTo) (fun u e => ?_) now
  rfl

theorem State.startExit_phase (dst : Nat) : (s.startExit dst).pphase = 5 := by
  have k := State.railsTo_keeps ((s.wr Reg.PWR_STATUS.PHASE 5).setPwr { s.pwr with wakeAt := s.frame, exitTo := dst, idle := 0 }) 0 true
  refine (k.rd_eq (by decide) ..).trans ?_
  rw [State.setPwr_rd_, State.rd_wr_same]
  rfl

theorem State.startExit_exitTo (dst : Nat) : (s.startExit dst).pwr.exitTo = dst := State.railsTo_exitTo ..

theorem State.latchWake_serving (r : Fld) (hp : s.pphase = 0) (hst : s.pstate < 2) : s.latchWake r = s.setPwr { s.pwr with idle := 0 } :=
  if_pos ⟨hp, hst⟩

theorem State.latchWake_moving (r : Fld) (hp : s.pphase ≠ 0) : s.latchWake r = (s.setPwr { s.pwr with idle := 0 }).wr r 1 :=
  (if_neg fun h => hp h.1).trans (if_neg hp)

theorem State.latchWake_rest (r : Fld) (hp : s.pphase = 0) (hst : 2 ≤ s.pstate) :
    s.latchWake r = if s.pwr.sample then (s.setPwr { s.pwr with idle := 0 }).wr r 1
      else ((s.setPwr { s.pwr with idle := 0 }).wr r 1).startExit s.servingState :=
  (if_neg fun h => by omega).trans (if_pos hp)

/-- A wake latched by a device at rest begins its exit (R534, R535). -/
theorem State.latchWake_wakes {r : Fld} (hr : r = Reg.PWR_WAKE.CLKREQ ∨ r = Reg.PWR_WAKE.EI_EXIT) (hp : s.pphase = 0)
    (hst : 2 ≤ s.pstate) : (s.latchWake r).wakeSet = true ∧
      (s.pwr.sample = false → (s.latchWake r).pphase = 5 ∧ (s.latchWake r).pwr.exitTo = s.servingState) := by
  rw [s.latchWake_rest r hp hst]
  cases hs : s.pwr.sample with
  | true => exact ⟨State.wakeSet_wr _ hr, fun h => nomatch h⟩
  | false =>
    refine ⟨?_, fun _ => ⟨State.startExit_phase .., State.startExit_exitTo ..⟩⟩
    exact (State.wakeSet_of_keeps (State.startExit_keeps ..) (by decide)).trans (State.wakeSet_wr _ hr)

end

/-- Settles O53: a gate writes its domain's pair of bits; a wake source is counted, latched or begins the exit. -/
theorem gatingAndWakes : Obligations.GatingAndWakes := by
  intro s
  refine ⟨fun d hs hd hw => ?_, fun d hs hd hk hw => ?_, fun fn ho hf c hc => ?_, fun fn hs hf hl hst hp => ?_⟩
  · refine ⟨s.setDom d 1, if_pos (by simp [hs, hd, hw]), ?_, fun e _ he => ?_, s.setDom_frame d 1⟩
    · exact (s.domState_setDom d 1 d (by decide)).trans (if_pos rfl)
    · exact (s.domState_setDom d 1 e (by decide)).trans (if_neg he)
  · refine ⟨s.setDom d 2, if_pos (by simp [hs, hd, hk, hw]), ?_, fun e _ he => ?_, s.setDom_frame d 2⟩
    · exact (s.domState_setDom d 2 d (by decide)).trans (if_pos rfl)
    · exact (s.domState_setDom d 2 e (by decide)).trans (if_neg he)
  · have hsrc : ∃ (u : State) (r : Fld), exec c s = .next (u.latchWake r) ∧ (r = Reg.PWR_WAKE.CLKREQ ∨ r = Reg.PWR_WAKE.EI_EXIT) ∧
        u.regs = s.regs ∧ u.pwr = s.pwr ∧ Keeps [.endpoint] [] s u := by
      obtain rfl | rfl : c = .clkreqAssert fn ∨ c = .electricalIdleExit fn := by simpa using hc
      · exact ⟨s, _, if_pos (by simp [ho, hf]), .inl rfl, rfl, rfl, .refl ..⟩
      · exact ⟨s.setEp fn { s.ep fn with l1 := false }, _, if_pos (by simp [ho, hf]), .inr rfl, rfl, rfl, .setEp (.refl ..)⟩
    obtain ⟨u, r, hrun, hr, hregs, hpwr, k⟩ := hsrc
    have hrd : ∀ q : Fld, u.rd q = s.rd q := fun q => by rw [State.rd, State.rd, hregs]
    have hphase : u.pphase = s.pphase := hrd _
    have hstate : u.pstate = s.pstate := hrd _
    have htarget : u.servingState = s.servingState := by rw [State.servingState, State.servingState, State.ptarget, State.ptarget, hrd]
    have kidle : Keeps [.power, .endpoint] [] s (u.setPwr { u.pwr with idle := 0 }) := .setPwr k.mono
    refine ⟨fun hp hst => ?_, fun hp => ?_, fun hp hst => ?_⟩
    · refine ⟨_, hrun, ?_⟩
      rw [u.latchWake_serving r (hphase.trans hp) (hstate ▸ hst)]
      exact ⟨rfl, hregs, kidle.frame (fun _ h => absurd h List.not_mem_nil)⟩
    · refine ⟨_, hrun, ?_⟩
      rw [u.latchWake_moving r (hphase.trans_ne hp)]
      have kwr : Keeps [.power, .endpoint] [Reg.PWR_WAKE.CLKREQ, Reg.PWR_WAKE.EI_EXIT] s ((u.setPwr { u.pwr with idle := 0 }).wr r 1) :=
        .wr kidle.mono (by obtain rfl | rfl := hr <;> decide)
      exact ⟨State.wakeSet_wr _ hr, kwr.rd_eq (by decide) .., kwr.frame (by decide)⟩
    · obtain ⟨hwake, hexit⟩ := u.latchWake_wakes hr (hphase.trans hp) (hstate ▸ hst)
      rw [hpwr, htarget] at hexit
      exact ⟨_, hrun, hwake, hexit⟩
  · exact ⟨_, if_pos (by simp [hs, hf, hl, hst, hp]), congrArg Ep.l1 ((State.ep_setEp ..).trans (if_pos rfl)),
      (Keeps.setEp (.refl ..)).frame (fun _ h => absurd h List.not_mem_nil)⟩

/-! ### Pages that stay -/

/-- The flash pages of a state. A predicate of its own, so that a chain of changes is compared by its last one and not computed. -/
def PagesIs (q : Tbl PageImg) (t : State) : Prop := t.pages = q

section
variable {q : Tbl PageImg} {t u : State} {ps : List Part} {rs : List Fld}

theorem PagesIs.keeps (h : PagesIs q t) (k : Keeps ps rs t u) (hp : Part.flash ∉ ps := by decide) : PagesIs q u :=
  (k.same .flash hp).2.1.trans h

theorem PagesIs.wr (h : PagesIs q t) {r : Fld} {v i f : Nat} : PagesIs q (t.wr r v i f) := h

theorem PagesIs.event (h : PagesIs q t) {a b c d : Nat} : PagesIs q (t.event a b c d) := h

theorem PagesIs.count (h : PagesIs q t) {a b c : Nat} : PagesIs q (t.count a b c) := h

theorem PagesIs.record (h : PagesIs q t) {r : Rec} : PagesIs q (t.record r) := h

theorem PagesIs.setLun (h : PagesIs q t) {c l : Nat} {x : Lun} : PagesIs q (t.setLun c l x) := h

theorem PagesIs.blks_bands (h : PagesIs q t) {x : Tbl Blk} {y : List Band} : PagesIs q { t with blks := x, bands := y } := h

theorem PagesIs.ite {c : Prop} [Decidable c] (h : PagesIs q t) (k : PagesIs q u) : PagesIs q (if c then t else u) := by
  split <;> assumption

end

/-! ### Channel training (R252, R253) -/

theorem signedField_lt (w : Nat) (v : Int) : signedField w v < 2 ^ w := by
  have hpos : (0 : Int) < 2 ^ w := by positivity
  have hlt := Int.emod_lt_of_pos (max (-(2 ^ (w - 1))) (min (2 ^ (w - 1) - 1) v)) hpos
  unfold signedField
  dsimp only
  rw [Int.toNat_lt (Int.emod_nonneg _ (ne_of_gt hpos))]
  exact_mod_cast hlt

section
variable (s : State)

/-- A channel that fails shows it in its state and in the Health page, and loses no page. -/
theorem State.channelFail_shows (c rate : Nat) : (s.channelFail c rate).rd Reg.CHN_ENG_STATUS.STATE c = 4 ∧
    ((s.channelFail c rate).health_ 0x078).testBit c = true ∧ (s.channelFail c rate).pages = s.pages := by
  unfold State.channelFail
  extract_lets s1 s2 s3 gone
  have kgone : Keeps [.decodes, .log, .luns] [] s3 gone := .foldl (.refl ..) fun u d => .mono (u.toRow_keeps d)
  have k : Keeps _ _ s3 _ :=
    (kgone.then (gone.thiPartGone_keeps (mkAddr c 0 0 0 0 0) (63 * 2 ^ 34))).then (State.partFail_keeps _)
  have hrd : s3.rd Reg.CHN_ENG_STATUS.STATE c = 4 := State.rd_wr_same ..
  have hhealth : s3.health_ 0x078 = setBit (s1.health_ 0x078) c := Tbl.get_set_self ..
  refine ⟨(k.rd_eq (by decide) ..).trans hrd, ?_, (k.same .flash).2.1⟩
  rw [State.health_, k.same .health]
  change (s3.health_ 0x078).testBit c = true
  rw [hhealth, testBit_setBit_self]

theorem State.chn_setChn_self (c : Nat) (x : Chn) : (s.setChn c x).chn c = x := (s.chn_setChn c c x).trans (if_pos rfl)

theorem State.dieRetire_pages (c l : Nat) : (s.dieRetire c l).pages = s.pages :=
  PagesIs.ite (rfl : PagesIs s.pages s) (.keeps (.keeps (.blks_bands (.setLun (.count (.event (.record (.wr (rfl : PagesIs s.pages s)))))))
    (State.thiPartGone_keeps ..)) (State.partFail_keeps _))

/-- A LUN of a channel that is trained is known by its identity, or retired (R252). -/
def State.identify (g : Img) (c : Nat) (ids : List (Option Nat)) (s : State) (e : Nat × Nat) : State :=
  match ((ids[e.2]?).join).bind (imgMatch g) with
  | some d => s.setLun c e.1 { s.lun c e.1 with die := d, id := ((ids[e.2]?).join).getD 0, st := if s.lunFailed c e.1 then .failed else .idle }
  | none => if s.lunFailed c e.1 then s else ((s.event 0x20 0x0102 (c + e.1 * 2 ^ 6)).dieRetire c e.1)

theorem State.identify_keeps (g : Img) (c : Nat) (ids : List (Option Nat)) (e : Nat × Nat) : Keeps [.ftl, .log, .health, .luns, .flash,
    .engine, .endpoint, .rings, .vectors, .buses] [Reg.CHN_LUN_FAIL.FAILED, Reg.THI_OPS.COUNT, Reg.THI_TABLE.COUNT, Reg.THI_TABLE.FIRST,
    Reg.THI_STATUS.FREE_UNITS, Reg.THI_STATUS.COMPACTING, Reg.HIF_ASYNC.PEND] s (State.identify g c ids s e) := by
  unfold State.identify
  split
  · exact .setLun (.refl ..)
  · exact .ite (.refl ..) (.andThen (.event (.refl ..)) (State.dieRetire_keeps ..))

theorem State.identify_pages (g : Img) (c : Nat) (ids : List (Option Nat)) (e : Nat × Nat) : (State.identify g c ids s e).pages = s.pages := by
  unfold State.identify
  split
  · rfl
  · split
    · rfl
    · exact State.dieRetire_pages ..

end

/-- Settles O38: training, calibration and retraining write the channel's record and its registers. -/
theorem channelTraining : Obligations.ChannelTraining := by
  intro s ch
  have hstate : s.rd Reg.CHN_ENG_STATUS.STATE ch < 3 → (s.rd Reg.CHN_ENG_STATUS.STATE ch == 0 || s.rd Reg.CHN_ENG_STATUS.STATE ch == 1
      || s.rd Reg.CHN_ENG_STATUS.STATE ch == 2) = true := by
    simp only [Bool.or_eq_true, beq_iff_eq]
    omega
  refine ⟨fun ids rate temp hc hb ht hst => ⟨fun hf => ?_, fun hr hp => ?_⟩, fun code hs hr => ?_, fun hs hr hn hc hl => ?_, fun hs hr => ?_⟩
  · have hrun : exec (.channelInitDone ch ids rate temp) s = .next (s.channelFail ch rate) := by
      refine (if_pos (by simp [hc, hb, ht, hstate hst])).trans (if_pos ?_)
      exact hf.imp_left (congrArg Fin.val)
    exact ⟨_, hrun, s.channelFail_shows ch rate⟩
  · let s1 := (s.lunsOf ch).zipIdx.foldl (State.identify s.ucode.active ch ids) s
    let s2 := ((s1.wr Reg.CHN_ENG_STATUS.RATE rate.val ch).wr Reg.CHN_ENG_STATUS.STATE 3 ch).wr Reg.CHN_TRAIN.TEMP (signedField 16 temp) ch
    let s3 := s2.bump Reg.CHN_TRAIN.COUNT 1 ch
    have hrun : exec (.channelInitDone ch ids rate temp) s =
        .next (s3.setChn ch { s2.chn ch with zqNow := (s2.chn ch).zq, reads := 0, hardFails := 0 }) := by
      refine (if_pos (by simp [hc, hb, ht, hstate hst])).trans (if_neg ?_)
      rintro (h0 | hd)
      · exact hr (Fin.ext h0)
      · exact Bool.false_ne_true (hp.symm.trans hd)
    have k : Keeps _ _ s s1 := .foldl (.refl ..) fun u e => u.identify_keeps s.ucode.active ch ids e
    have hcount : s1.rd Reg.CHN_TRAIN.COUNT ch = s.rd Reg.CHN_TRAIN.COUNT ch := k.rd_eq (by decide) ..
    have hpages : s1.pages = s.pages := s.foldl_same State.pages (fun u e => u.identify_pages s.ucode.active ch ids e) _
    have hrate := rate.isLt
    refine ⟨_, hrun, ?_, ?_, ?_, ?_, ?_, hpages⟩
    · simp (disch := decide) only [s3, s2, State.setChn_rd_, State.rd_wr_apart, State.rd_bump_apart, State.rd_wr_same]
      rfl
    · simp (disch := decide) only [s3, s2, State.setChn_rd_, State.rd_wr_apart, State.rd_bump_apart, State.rd_wr_same]
      exact Nat.mod_eq_of_lt (by change rate.val < 16; omega)
    · simp (disch := decide) only [s3, s2, State.setChn_rd_, State.rd_bump_apart, State.rd_wr_same]
      exact Nat.mod_eq_of_lt (signedField_lt ..)
    · simp (disch := decide) only [s3, s2, State.setChn_rd_, State.rd_bump_same, State.rd_wr_apart, hcount]
    · rw [State.chn_setChn_self]
  · let s1 := s.setChn ch { s.chn ch with zqNow := code }
    have hrun : ∃ t, exec (.zqShortCal ch code) s = .next t ∧ (t = s1 ∨ t = s1.setChn ch { s1.chn ch with reads := 0, hardFails := 0 }) := by
      change ∃ t, execZqShortCal ch code s = .next t ∧ _
      unfold execZqShortCal
      rw [if_pos (by simp [hs, hr])]
      dsimp only
      split
      · exact ⟨_, rfl, .inl rfl⟩
      · exact ⟨_, rfl, .inr rfl⟩
    obtain ⟨t, hrun, ht⟩ := hrun
    have h1 : s1.chn ch = { s.chn ch with zqNow := code } := s.chn_setChn_self ..
    have k1 : Keeps [.channels] [] s s1 := .setChn (.refl ..)
    refine ⟨t, hrun, ?_⟩
    obtain rfl | rfl := ht
    · rw [h1]
      exact ⟨rfl, rfl, k1.frame (fun _ h => absurd h List.not_mem_nil)⟩
    · rw [State.chn_setChn_self, h1]
      exact ⟨rfl, rfl, k1.setChn.frame (fun _ h => absurd h List.not_mem_nil)⟩
  · exact ⟨_, if_pos (by simp [hs, hr, hn, hc, hl]), by rw [State.chn_setChn_self], by rw [State.chn_setChn_self],
      (Keeps.setChn (.refl ..)).frame (fun _ h => absurd h List.not_mem_nil)⟩
  · let x := s.chn ch
    let s1 := s.setChn ch { x with retrain := 0, zq := x.zqNow }
    let s2 := (s1.wr Reg.CHN_TRAIN.TEMP (signedField 16 (s.meanTemp ch)) ch).bump Reg.CHN_TRAIN.COUNT 1 ch
    have hrun : exec (.channelRetrainDone ch) s = .next (s2.event 0x20 0x0104 (ch + x.cause * 2 ^ 6)) := if_pos (by simp [hs, hr])
    have h1 : s1.chn ch = { x with retrain := 0, zq := x.zqNow } := s.chn_setChn_self ..
    have f1 : Frame [.channels, .log] [Reg.CHN_TRAIN.TEMP, Reg.CHN_TRAIN.COUNT] s s1 := (Frame.refl ..).setChn (.head _) _ _
    exact ⟨_, hrun, (congrArg Chn.retrain h1 :), (congrArg Chn.zq h1 :), rfl,
      ((f1.then_wr (.head _) _ ch.isLt (by decide)).then_bump (by decide) _ ch.isLt (by decide)).then_event (by decide) ..⟩

/-! ### The microcode swap (R304, R305) -/

/-- Settles O40: the swap writes the store and its counter; the tables' use ends the wait of its UCODE_LOAD. -/
theorem microcodeSwap : Obligations.MicrocodeSwap := by
  intro s hp
  refine ⟨fun hs hat hsw => ?_, fun hc hs => ?_, fun hc hsw hat => ?_⟩
  · let luns := Tbl.mapAll {} (fun _ u => { u with die := (imgMatch s.ucode.next u.id).getD u.die }) s.luns
    let s1 : State := { s with ucode := { s.ucode with active := s.ucode.next, swapped := true }, luns := luns }
    let s2 := s1.ucodeShow s.ucode.next s.ucode.nextFrom
    have hcore : s.sup.coreUp = true := (Bool.and_eq_true_iff.1 hs).1
    have hrun : exec .ucodeStoreSwap s = .next ((s2.bump Reg.UCS_CNT.SWAPS).event 0x24 0x0100 (imgVersion s.ucode.next)) :=
      (if_pos (by simp [hcore, hp, hat, hsw])).trans (if_pos hs)
    have k1 : Keeps [.microcode, .luns, .log] [Reg.UCS_STATUS.SOURCE, Reg.UCS_STATUS.DIE_COUNT, Reg.UCS_STATUS.KEY_ID,
        Reg.UCS_VERSION.VERSION, Reg.UCS_CNT.SWAPS] s s1 :=
      .with_luns (t := { s with ucode := { s.ucode with active := s.ucode.next, swapped := true } }) (.with_ucode (.refl ..))
    have k2 := s1.ucodeShow_keeps s.ucode.next s.ucode.nextFrom
    have hswaps : s2.rd Reg.UCS_CNT.SWAPS = s.rd Reg.UCS_CNT.SWAPS := k2.rd_eq (by decide) ..
    refine ⟨_, hrun, congrArg Ucode.active (k2.same .microcode), congrArg Ucode.swapped (k2.same .microcode), ?_, rfl, k2.same .contexts, ?_⟩
    · rw [State.event_rd_, State.rd_bump_same, hswaps]
    · exact (Keeps.event (.bump (k1.andThen k2))).only
  · change execUcodeStoreSwap s = _
    unfold execUcodeStoreSwap
    split
    · exact if_neg (Bool.eq_false_iff.1 hs)
    · rfl
  · let s1 := (s.loadTables s.ucode.active).wr Reg.UCS_STATUS.SWAP_PENDING 0
    let s2 : State := { s1 with ucode := { s1.ucode with swapped := false, loader := 0, next := [] } }
    let c := s.ucode.loader - 1
    have k1 := s.loadTables_keeps s.ucode.active
    have hpend1 : s1.on Reg.UCS_STATUS.SWAP_PENDING = false := by
      rw [State.on, State.rd_wr_same]
      rfl
    have hregs : s2.regs = s1.regs := rfl
    have hpend : s2.on Reg.UCS_STATUS.SWAP_PENDING = false := by
      rw [State.on, State.rd, hregs]
      exact hpend1
    have k2 : Keeps [.microcode] [Reg.FRM_PCLASS.LO, Reg.FRM_PCLASS.HI, Reg.FRM_CHAN_TBL.ALL, Reg.UCS_STATUS.SWAP_PENDING] s s2 :=
      .with_ucode (.wr k1.mono)
    have hctxs : s2.ctxs = s.ctxs := k2.same .contexts
    have hcond : (s.sup.coreUp && s.on Reg.UCS_STATUS.SWAP_PENDING && s.ucode.swapped && decide (s.ucode.swapAt < s.frame)) = true := by
      simp [hc, hp, hsw, hat]
    by_cases h0 : s.ucode.loader = 0
    · have hrun : exec .ucodeTablesActive s = .next s2 := (if_pos hcond).trans (if_pos h0)
      exact ⟨s2, hrun, rfl, rfl, hpend, fun _ => hctxs, fun h => absurd h0 h⟩
    · have hrun : exec .ucodeTablesActive s = .next (s2.setCtx c { s2.ctx c with phase := .committed, committed := true, status := 0 }) :=
        (if_pos hcond).trans (if_neg h0)
      have hctx := (s2.ctx_setCtx c c { s2.ctx c with phase := .committed, committed := true, status := 0 }).trans (if_pos rfl)
      exact ⟨_, hrun, rfl, rfl, (State.setCtx_on_ ..).trans hpend,
        fun h => absurd h h0, fun _ => ⟨(congrArg Ctx.phase hctx :), (congrArg Ctx.status hctx :)⟩⟩

/-! ### The plan of a frame (R222, R233, R240) -/

/-- A mandatory read that waits for its LUN. -/
def waitingRead : Op := { kind := .read, addr := 0, planes := 1, slc := false, cls := .mandatory, entry := 2 }

/-- A LUN no channel has: the word that would hold its domain's state is FRM_POWER, whose WORK the plan writes. -/
def strayLun : Nat := lunKey (16 * 16371 - 7) 0

/-- A running core die with a read waiting for that LUN. -/
def strayPlan : State :=
  { State.reset.wr Reg.FRM_BUDGET.RATED 199 with sup := { coreUp := true }, luns := [(strayLun, { queue := [waitingRead] })] }

/-- The cutoff plans the LUN, and its domain's state then reads as held off. -/
theorem strayPlan_heldOff : strayPlan.sup.coreUp = true ∧ strayPlan.sched.made = false ∧
    (match exec (.planCutoff {}) strayPlan with
      | .next t => t.sched.plan.any (fun e => t.domState (9 + e.1 / 32) == 3)
      | _ => false) = true := by
  decide +kernel

/-- Refutes O37: in a state whose LUN table names a LUN no channel has, the word the plan reads as its domain's state is FRM_POWER's. It is 0
before the plan and WORK of the plan after it, which reads as a domain held off. -/
theorem not_planMade : ¬ Obligations.PlanMade := by
  unfold Obligations.PlanMade
  intro h
  obtain ⟨hup, hmade, hoff⟩ := strayPlan_heldOff
  obtain ⟨t, hrun, _, _, hdom, _⟩ := (h strayPlan).1 {} hup hmade
  rw [hrun] at hoff
  obtain ⟨e, he, h3⟩ := List.any_eq_true.1 hoff
  exact hdom e he (beq_iff_eq.1 h3)

end Sys2Proof.Machine
end

section
/-! PROOFS. The frame boundary, and the ends of a thermal stop and of a trip (R6, R67, R557, R558, R560; O54, O56). -/

set_option Elab.async false

namespace Sys2Proof.Machine

/-! ### The frame boundary (R6, R67) -/

section
variable (s : State)

theorem State.frameTick_keeps (vbank : Nat) : Keeps [.supply] [Reg.HUP_CAP_MEAS.AGE, Reg.HUP_STATUS.WRITE_THR, Reg.HUP_ENERGY.EUSE,
    Reg.HUP_ENERGY.VBANK, Reg.BRU_STAGE.WRITE_UP] { s with frame := s.frame + 1 } (s.frameTick vbank) := by
  unfold State.frameTick
  extract_lets s1 q s2
  exact .andThen (.ite_on (.wr (.refl ..)) (.refl ..) (.setSup (.refl ..))) (State.refreshBank_keeps _)

theorem State.frameTick_vbank (vbank : Nat) : (s.frameTick vbank).sup.vbank = vbank := by
  unfold State.frameTick
  extract_lets s1 q s2
  refine congrArg Supply.vbank (((State.refreshBank_keeps _).same .supply).trans ?_ : _ = s2.sup)
  split <;> rfl

theorem State.parityErrors_keeps (l : List (Nat × Nat)) : Keeps [.log, .buses] [Reg.BPM_EVT.FREE_ACCESS, Reg.BPM_EVT.PARITY,
    Reg.BPM_CNT.PARITY] s (l.foldl (fun s e => s.parityError e.1 e.2) s) :=
  .foldl (.refl ..) fun u e => u.parityError_keeps e.1 e.2

/-- The plan takes effect and is made again for the next frame. -/
theorem State.openFrame_plan (caps : List (Nat × List Nat)) : (s.openFrame caps).sched.plan = [] ∧ (s.openFrame caps).sched.made = false ∧
    (s.openFrame caps).sup = s.sup ∧ (s.openFrame caps).frame = s.frame ∧ (s.openFrame caps).pending = s.pending := by
  unfold State.openFrame
  extract_lets runs s0 sched s1
  have k0 : Keeps [.power] [Reg.PWR_DOM_STATE.ALL] s s0 := .ite s.wakeEngines_keeps (.refl ..)
  have k : Keeps _ _ s1 (if runs then s.sched.plan.foldl (State.issue caps) s1 else s1) :=
    .ite (.foldl (.refl ..) fun u e => State.issue_keeps caps u e) (.refl ..)
  have hsched : s1.sched.plan = [] ∧ s1.sched.made = false := ⟨rfl, rfl⟩
  have hsup : s1.sup = s.sup := (k0.same .supply :)
  have hframe : s1.frame = s.frame := (k0.same .frame :)
  have hpend : s1.pending = s.pending := (k0.same .queue :)
  clear_value s1
  rw [k.same .scheduler, k.same .supply, k.same .frame, k.same .queue]
  exact ⟨hsched.1, hsched.2, hsup, hframe, hpend⟩

/-- Settles O56: the tick counts the frame and takes the sample; the rest of a boundary leaves both, and with the core die down only the
availability count is left to it. -/
theorem frameBoundaryTicks : Obligations.FrameBoundaryTicks := by
  intro s inp
  refine ⟨fun hop => ?_, fun hop => if_pos (by rw [hop]; rfl)⟩
  change ∃ t, execFrameBoundary inp s = .next t ∧ _
  unfold execFrameBoundary
  rw [if_neg (by rw [hop]; decide)]
  extract_lets t s1 s2 s3 s4 s5
  have k0 := s.trainSteps_keeps inp.trained
  have kt : Keeps _ _ _ t := (s.trainSteps inp.trained).frameTick_keeps inp.vbank
  have hframe : t.frame = s.frame + 1 := (kt.same .frame).trans (congrArg (· + 1) (k0.same .frame :))
  have hpend : t.pending = s.pending := (kt.same .queue).trans (k0.same .queue)
  have hvbank : t.sup.vbank = inp.vbank := State.frameTick_vbank ..
  cases hup : s.sup.coreUp
  · rw [if_pos (by decide)]
    have ka := t.frameAvail_keeps
    refine ⟨_, rfl, (ka.same .frame).trans hframe, (congrArg Supply.vbank (ka.same .supply :)).trans hvbank,
      (ka.same .queue).trans hpend, fun _ => ?_, fun h => nomatch h⟩
    refine ⟨?_, ?_, ?_, ?_, ?_⟩
    · exact (ka.same .contexts).trans ((kt.same .contexts).trans (k0.same .contexts))
    · exact (ka.same .flash).2.1.trans ((kt.same .flash).2.1.trans (k0.same .flash).2.1)
    · exact (ka.same .ftl).trans ((kt.same .ftl).trans (k0.same .ftl))
    · exact (ka.same .log).1.trans ((kt.same .log).1.trans (k0.same .log).1)
    · exact (ka.same .luns).trans ((kt.same .luns).trans (k0.same .luns))
  · rw [if_neg (by decide)]
    have ku := t.countIdle_keeps.then t.countIdle.frameCount_keeps
    obtain ⟨hplan, hmade, hsup, hfr, hpe⟩ := t.countIdle.frameCount.openFrame_plan inp.caps
    have k1 : Keeps _ _ (t.countIdle.frameCount.openFrame inp.caps) s1 := State.refreshCeiling_keeps _
    have k2 : Keeps _ [Reg.BST_FETCH.MISS_RATE] s1 s2 := .wr (.refl [] ..)
    have k3 : Keeps _ _ s2 s3 := (State.dramFrame_keeps ..).then (State.policyFrame_keeps _)
    have k4 : Keeps _ _ s3 s4 := (s3.parityErrors_keeps inp.parity).then (State.fansFrame_keeps _)
    have k5 : Keeps _ _ s4 s5 := .ite (s4.frameWork_keeps inp) (.refl ..)
    clear_value s5 s4 s3 s2 s1
    have k6 := s5.history_keeps.then s5.history.frameAvail_keeps
    have k := ((((k1.then k2).then k3).then k4).then k5).then k6
    refine ⟨_, rfl, ?_, ?_, ?_, (fun h => nomatch h), fun _ => ?_⟩
    · rw [k.same .frame, hfr, ku.same .frame, hframe]
    · rw [k.same .supply, hsup, ku.same .supply, hvbank]
    · rw [k.same .queue, hpe, ku.same .queue, hpend]
    · rw [k.same .scheduler]
      exact ⟨hplan, hmade⟩

end

/-! ### The ends of a stop and of a trip (R557, R558, R560) -/

/-- Settles O54: the stop's end writes its state, which the report to the hosts keeps; the cool-down's cold start takes the cause it finds. -/
theorem stopsEnd : Obligations.StopsEnd := by
  intro s
  refine ⟨fun hserv hstop hst hdone => ?_, fun n hcool hserv hstop hn => ?_, fun temp hop htrip hdrain hup htemp => ?_⟩
  · refine ⟨_, if_pos (by simp [hserv, hstop, hst, hdone]), ?_⟩
    rw [(State.postThermal_keeps ..).rd_eq (by decide)]
    exact State.rd_wr_same ..
  · change ∃ t, execOrderlyStopEnd s = .next t ∧ _
    unfold execOrderlyStopEnd
    rw [hcool]
    dsimp -zeta only
    rw [if_pos (by simp [hserv, hstop, hn])]
    extract_lets cooled s1 s2
    have k : Keeps [.log, .health, .ftl, .endpoint, .rings, .vectors, .buses] [Reg.THM_STATUS.STATE, Reg.FRM_CEILING.CEIL_MIB,
      Reg.FRM_CEILING.SOURCE, Reg.FRM_JPB.MODEL, Reg.HIF_ASYNC.PEND] (s1.wr Reg.FRM_STATUS.MODE 0)
      (((s2.event 0x04 0x0104 (min 0xFFFFFFFF (s.frame - s.thermal.stopAt))).refreshCeiling).postThermal false false) :=
      .andThen (.andThen (.event (.mono (State.thermalState_keeps _))) (State.refreshCeiling_keeps _)) (State.postThermal_keeps _ false false)
    have hmode : (s1.wr Reg.FRM_STATUS.MODE 0).rd Reg.FRM_STATUS.MODE = 0 := State.rd_wr_same ..
    have hkept := (k.rd_eq (q := Reg.FRM_STATUS.MODE) (by decide) 0 0).trans hmode
    refine ⟨_, rfl, hkept, ?_, congrArg Thermal.coolFrom (k.same .thermal :)⟩
    rw [State.stopping, hkept]
    rfl
  · let s1 : State := { s with thermal := { s.thermal with tripped := false } }
    have hc : (s.sup.operating && s.thermal.tripped && decide (s.sup.drain = .none) && !s.sup.coreUp && decide (temp < 700)) = true := by
      simp [hop, htrip, hdrain, hup, htemp]
    by_cases hrise : s.riseNow < s.sup.vin
    · obtain ⟨m, d, hsup⟩ := s1.coldStart_sup
      refine ⟨s1.coldStart, (if_pos hc).trans (if_pos hrise), congrArg Thermal.tripped (s1.coldStart_keeps.same .thermal :),
        fun _ => ?_, fun h => absurd hrise (Nat.not_lt.2 h)⟩
      rw [hsup]
      exact ⟨rfl, rfl⟩
    · exact ⟨s1, (if_pos hc).trans (if_neg hrise), rfl, fun h => absurd h hrise, fun _ => rfl⟩

end Sys2Proof.Machine
end

section
/-! PROOFS. The DRAM controller: trainings, margin checks, refresh, row closing, promotion and scrub; what a line read delivers and what a
line write leaves (R431 to R448; O42, O43). -/

set_option Elab.async false

namespace Sys2Proof.Machine

/-- An entry of a mapped table is the map of an entry, or the table has none. -/
theorem Tbl.get_mapAll_cases {α : Type} [DecidableEq α] (d : α) (g : Nat → α → α) (t : Tbl α) (k : Nat) :
    Tbl.get d (Tbl.mapAll d g t) k = d ∨ ∃ x, Tbl.get d (Tbl.mapAll d g t) k = g k x := by
  induction t with
  | nil => exact .inl rfl
  | cons e t ih =>
    obtain ⟨j, a⟩ := e
    by_cases hd : g j a = d
    · simpa [Tbl.mapAll, hd] using ih
    · by_cases hk : k = j
      · subst hk
        exact .inr ⟨a, by simp [Tbl.mapAll, hd, Tbl.get]⟩
      · simpa [Tbl.mapAll, hd, Tbl.get, hk] using ih

section
variable (s : State)

theorem State.sc_setSc_self (n : Nat) (x : Sc) : (s.setSc n x).sc n = x := Tbl.get_set_self ..

theorem State.sc_setSc_ne {n m : Nat} (h : m ≠ n) (x : Sc) : (s.setSc n x).sc m = s.sc m := Tbl.get_set_ne _ _ _ h

/-- A change of one sub-channel, with every other part kept. -/
theorem State.setSc_alone (n : Nat) (x : Sc) : Frame [.subchannels] [] s (s.setSc n x) := (Frame.refl ..).setSc (.head _) n x

theorem State.claim_banks (n m lo hi : Nat) : ((s.claim n lo hi).sc m).banks = (s.sc m).banks := by
  refine (congrArg Sc.banks (s.sc_setSc n m _)).trans ?_
  split
  · next h => rw [h]
  · rfl

/-- Regs and parts an adopted training may change. -/
def adoptRegs : List Fld := [Reg.DRC_SC.STATE, Reg.DRC_SC.RATE, Reg.DRC_SC.TAG_TEMP, Reg.DRC_SC.TAG_MV, Reg.DRC_SC.TRAININGS,
  Reg.DRC_SC.GRANULES, Reg.DRC_STATUS.IN_SERVICE, Reg.DRC_STATUS.BLOOM_A, Reg.DRC_STATUS.BLOOM_B, Reg.DRC_STATUS.TRN_BUSY]

theorem Frame.claim {u : State} (k : Frame [.subchannels, .dram, .log] adoptRegs s u) {n : Nat} (hn : n < 8) (lo hi : Nat) :
    Frame [.subchannels, .dram, .log] adoptRegs s (u.claim n lo hi) :=
  (k.setSc (by decide) _ _).then_bump (by decide) _ hn (by decide)

theorem Frame.with_dram {ps : List Part} {rs : List Fld} {s u : State} (k : Frame ps rs s u) (h : Part.dram ∈ ps) (d : Dram) :
    Frame ps rs s { u with dram := d } :=
  k.part .dram h (fun q hq => by cases q <;> first | exact absurd rfl hq | simp [Part.same]) rfl

/-- The staging pair are two sub-channels. -/
theorem State.stagingPair_lt {a b : Nat} (h : s.stagingPair = some (a, b)) : a < 8 ∧ b < 8 := by
  unfold State.stagingPair at h
  have hmem : ∀ n ∈ (List.range 8).reverse.filter (fun n => s.scUp n && !s.dram.pair.contains n), n < 8 := fun n hn =>
    List.mem_range.1 (List.mem_reverse.1 (List.mem_filter.1 hn).1)
  dsimp only at h
  split at h
  · next x y l hl =>
    cases h
    rw [hl] at hmem
    exact ⟨hmem _ (.head _), hmem _ (.tail _ (.head _))⟩
  · cases h

/-- What a training that is adopted leaves of its sub-channel's registers, before its place is decided. -/
structure Adopted (s t : State) (n : Nat) : Prop where
  rate : t.rd Reg.DRC_SC.RATE n = (s.sc n).trying % 2 ^ Reg.DRC_SC.RATE.w
  count : t.rd Reg.DRC_SC.TRAININGS n = min (s.rd Reg.DRC_SC.TRAININGS n + 1) (2 ^ Reg.DRC_SC.TRAININGS.w - 1)
  banks : (t.sc n).banks = []
  temp : t.rd Reg.DRC_SC.TAG_TEMP n = signedField 16 (s.sc n).meanTemp
  mv : t.rd Reg.DRC_SC.TAG_MV n = s.rd Reg.PWR_AVS.ACK_MV 2 % 2 ^ Reg.DRC_SC.TAG_MV.w

theorem Adopted.keeps {s t u : State} {n : Nat} {ps : List Part} {rs : List Fld} (h : Adopted s t n) (k : Keeps ps rs t u)
    (hbanks : (u.sc n).banks = (t.sc n).banks)
    (hr : ∀ q ∈ [Reg.DRC_SC.RATE, Reg.DRC_SC.TRAININGS, Reg.DRC_SC.TAG_TEMP, Reg.DRC_SC.TAG_MV], ∀ r ∈ rs, q.clear r = true := by decide) :
    Adopted s u n :=
  ⟨(k.rd_eq (hr _ (by decide)) ..).trans h.rate, (k.rd_eq (hr _ (by decide)) ..).trans h.count, hbanks.trans h.banks,
    (k.rd_eq (hr _ (by decide)) ..).trans h.temp, (k.rd_eq (hr _ (by decide)) ..).trans h.mv⟩

/-- The training's results taken into the sub-channel and its registers. -/
def State.adoptResults (s : State) (n : Nat) : State :=
  let s1 := ((s.setSc n { s.sc n with banks := [], steps := 0 }).wr Reg.DRC_SC.RATE (s.sc n).trying n).tag_ n
  (s1.bump Reg.DRC_SC.TRAININGS 1 n).event 0x16 0x0102 (n + signedField 16 (s1.sc n).meanTemp * 8)

theorem State.adoptResults_adopted (n : Nat) : Adopted s (s.adoptResults n) n := by
  have hsc : (s.adoptResults n).sc n = { s.sc n with banks := [], steps := 0 } := s.sc_setSc_self n _
  refine ⟨?_, ?_, congrArg Sc.banks hsc, ?_, ?_⟩
  · simp (disch := decide) only [State.adoptResults, State.tag_, State.event_rd_, State.rd_bump_apart, State.rd_wr_apart, State.rd_wr_same]
  · simp (disch := decide) only [State.adoptResults, State.tag_, State.event_rd_, State.rd_bump_same, State.rd_wr_apart, State.setSc_rd_]
  · simp (disch := decide) only [State.adoptResults, State.tag_, State.event_rd_, State.rd_bump_apart, State.rd_wr_apart, State.rd_wr_same]
    refine (Nat.mod_eq_of_lt (signedField_lt 16 _)).trans ?_
    exact (congrArg (fun x => signedField 16 (Sc.meanTemp x)) (s.sc_setSc_self n { s.sc n with banks := [], steps := 0 }) :)
  · simp (disch := decide) only [State.adoptResults, State.tag_, State.event_rd_, State.rd_bump_apart, State.rd_wr_apart, State.rd_wr_same,
      State.setSc_rd_]

theorem State.adoptResults_frame {n : Nat} (hn : n < 8) : Frame [.subchannels, .dram, .log] adoptRegs s (s.adoptResults n) :=
  ((((((Frame.refl ..).setSc (by decide) n _).then_wr (by decide) _ hn (by decide)).then_wr (by decide) _ hn (by decide)).then_wr (by decide) _ hn
    (by decide)).then_bump (by decide) _ hn (by decide)).then_event (by decide) ..

theorem State.adoptResults_keeps (n : Nat) : Keeps [.subchannels, .log] [Reg.DRC_SC.RATE, Reg.DRC_SC.TAG_TEMP, Reg.DRC_SC.TAG_MV,
    Reg.DRC_SC.TRAININGS] s (s.adoptResults n) :=
  .event (.bump (.wr (.wr (.wr (.setSc (.refl ..))))))

/-- The pair of Bloom shown once it is complete. -/
def State.showBloom (s : State) (p : List Nat) : State :=
  match p with
  | [a, b] => (s.wr Reg.DRC_STATUS.BLOOM_A a).wr Reg.DRC_STATUS.BLOOM_B b
  | _ => s

/-- A newly trained sub-channel in service: the pair of Bloom it completes, and the granules it claims (R431). -/
def State.bringUp (s : State) (n : Nat) : State :=
  let s3 := (s.wr Reg.DRC_SC.STATE 2 n).wr Reg.DRC_STATUS.IN_SERVICE (setBit (s.rd Reg.DRC_STATUS.IN_SERVICE) n)
  let bloom := decide (s3.dram.pair.length < 2)
  let p := if bloom then insertNat n s3.dram.pair else s3.dram.pair
  let s4 := { s3 with dram := { s3.dram with pair := p } }
  let s5 := s4.showBloom p
  if bloom then s5.claim n 4096 14400 else s5.claim n 0 2048

/-- The staging pair chosen once every sub-channel has trained (R431). -/
def State.pairUp (s : State) (bloom : Bool) : State :=
  let trained := (List.range 8).all (fun m => let t := s.rd Reg.DRC_SC.STATE m; t != 1)
  if !bloom && trained && s.dram.staging.isNone then
    match s.stagingPair with
    | some (a, b) => ({ s with dram := { s.dram with staging := some (a, b) } }.claim a 2048 8192).claim b 2048 8192
    | none => s
  else s

theorem State.showBloom_keeps (p : List Nat) : Keeps [] [Reg.DRC_STATUS.BLOOM_A, Reg.DRC_STATUS.BLOOM_B] s (s.showBloom p) := by
  unfold State.showBloom
  split
  · exact .wr (.wr (.refl ..))
  · exact .refl ..

theorem Frame.showBloom {u : State} (k : Frame [.subchannels, .dram, .log] adoptRegs s u) (p : List Nat) :
    Frame [.subchannels, .dram, .log] adoptRegs s (u.showBloom p) := by
  unfold State.showBloom
  split
  · exact (k.then_wr (by decide) _ (by decide) (by decide)).then_wr (by decide) _ (by decide) (by decide)
  · exact k

/-- What bringing a sub-channel up leaves behind. -/
theorem State.bringUp_up {n : Nat} (hn : n < 8) : (s.bringUp n).rd Reg.DRC_SC.STATE n = 2 ∧ (s.bringUp n).scUp n = true ∧
    (s.bringUp n).dram.pair = (if s.dram.pair.length < 2 then insertNat n s.dram.pair else s.dram.pair) ∧
    ((s.bringUp n).sc n).banks = (s.sc n).banks := by
  unfold State.bringUp
  extract_lets s3 bloom p d s4 s5
  have k5 : Keeps [] [Reg.DRC_STATUS.BLOOM_A, Reg.DRC_STATUS.BLOOM_B] s4 s5 := s4.showBloom_keeps p
  have k6 : Keeps [.subchannels] [Reg.DRC_SC.GRANULES] s5 (if bloom then s5.claim n 4096 14400 else s5.claim n 0 2048) :=
    .ite (State.claim_keeps ..) (State.claim_keeps ..)
  have k := k5.then k6
  have hst : s4.rd Reg.DRC_SC.STATE n = 2 := by
    have ki : Keeps [] [Reg.DRC_STATUS.IN_SERVICE] (s.wr Reg.DRC_SC.STATE 2 n) s3 := Keeps.wr (.refl [] _ (s.wr Reg.DRC_SC.STATE 2 n))
    exact (ki.rd_eq (by decide) ..).trans (State.rd_wr_same ..)
  have hup : (s4.rd Reg.DRC_STATUS.IN_SERVICE).testBit n = true := by
    change (s3.rd Reg.DRC_STATUS.IN_SERVICE).testBit n = true
    rw [State.rd_wr_same, Nat.testBit_mod_two_pow, testBit_setBit_self, Bool.and_true]
    exact decide_eq_true hn
  have hpair : s4.dram.pair = if s.dram.pair.length < 2 then insertNat n s.dram.pair else s.dram.pair := by
    change (if decide (s.dram.pair.length < 2) then _ else _) = _
    simp only [decide_eq_true_eq]
    rfl
  have hbanks : ∀ u : State, u = s5.claim n 4096 14400 ∨ u = s5.claim n 0 2048 → (u.sc n).banks = (s4.sc n).banks := by
    rintro u (rfl | rfl) <;> rw [State.claim_banks, State.sc, k5.same .subchannels, State.sc]
  refine ⟨(k.rd_eq (by decide) ..).trans hst, ?_, (congrArg Dram.pair (k.same .dram :)).trans hpair, ?_⟩
  · rw [State.scUp, k.rd_eq (by decide)]
    exact hup
  · refine (hbanks _ ?_).trans rfl
    split
    · exact .inl rfl
    · exact .inr rfl

theorem State.bringUp_keeps (n : Nat) : Keeps [.dram, .subchannels] [Reg.DRC_SC.STATE, Reg.DRC_STATUS.IN_SERVICE, Reg.DRC_STATUS.BLOOM_A,
    Reg.DRC_STATUS.BLOOM_B, Reg.DRC_SC.GRANULES] s (s.bringUp n) :=
  .ite_on (.mono (State.claim_keeps ..)) (.mono (State.claim_keeps ..)) (.andThen (.with_dram (.wr (.wr (.refl ..)))) (State.showBloom_keeps ..))

theorem Frame.bringUp {u : State} (k : Frame [.subchannels, .dram, .log] adoptRegs s u) {n : Nat} (hn : n < 8) :
    Frame [.subchannels, .dram, .log] adoptRegs s (u.bringUp n) := by
  have h3 : Frame [.subchannels, .dram, .log] adoptRegs s ((u.wr Reg.DRC_SC.STATE 2 n).wr Reg.DRC_STATUS.IN_SERVICE
    (setBit (u.rd Reg.DRC_STATUS.IN_SERVICE) n)) := (k.then_wr (by decide) _ hn (by decide)).then_wr (by decide) _ (by decide) (by decide)
  have h5 := fun d => Frame.showBloom s (h3.with_dram (by decide) d) d.pair
  exact .ite ((h5 _).claim s hn _ _) ((h5 _).claim s hn _ _)

theorem State.pairUp_keeps (bloom : Bool) : Keeps [.dram, .subchannels] [Reg.DRC_SC.GRANULES] s (s.pairUp bloom) := by
  unfold State.pairUp
  refine .ite ?_ (.refl ..)
  split
  · exact .andThen (.andThen (.with_dram (.refl ..)) (State.claim_keeps ..)) (State.claim_keeps ..)
  · exact .refl ..

theorem State.pairUp_pair (bloom : Bool) (n : Nat) :
    (s.pairUp bloom).dram.pair = s.dram.pair ∧ ((s.pairUp bloom).sc n).banks = (s.sc n).banks := by
  unfold State.pairUp
  dsimp only
  split
  · split
    · next a b _ =>
      let s1 : State := { s with dram := { s.dram with staging := some (a, b) } }
      have k := (s1.claim_keeps a 2048 8192).andThen ((s1.claim a 2048 8192).claim_keeps b 2048 8192)
      exact ⟨(congrArg Dram.pair (k.same .dram :) :), by rw [State.claim_banks, State.claim_banks]; rfl⟩
    · exact ⟨rfl, rfl⟩
  · exact ⟨rfl, rfl⟩

theorem Frame.pairUp {u : State} (k : Frame [.subchannels, .dram, .log] adoptRegs s u) (bloom : Bool) :
    Frame [.subchannels, .dram, .log] adoptRegs s (u.pairUp bloom) := by
  unfold State.pairUp
  refine .ite ?_ k
  split
  · next a b h =>
    obtain ⟨ha, hb⟩ := u.stagingPair_lt h
    exact ((k.with_dram (by decide) _).claim s ha _ _).claim s hb _ _
  · exact k

/-- The staging pair as the training's end chooses it, outcome by outcome. -/
theorem State.pairUp_ok (bloom : Bool) : (if !bloom && (List.range 8).all (fun m => let t := s.rd Reg.DRC_SC.STATE m; t != 1) &&
    s.dram.staging.isNone then
      match s.stagingPair with
      | some (a, b) => ok (({ s with dram := { s.dram with staging := some (a, b) } }.claim a 2048 8192).claim b 2048 8192)
      | none => ok s
    else ok s) = .next (s.pairUp bloom) := by
  unfold State.pairUp
  dsimp only
  split
  · split <;> rfl
  · rfl

/-- A training that is adopted ends in service, or back in its run when it was a margin check's. -/
theorem execDramTrainingAdopted_eq (n : Fin 8) (hst : s.rd Reg.DRC_SC.STATE n = 1 ∨ s.rd Reg.DRC_SC.STATE n = 5) (hsteps : 666 ≤ (s.sc n).steps)
    (hbad : (s.sc n).trnBad = false) (hserv : s.serving = true) :
    exec (.dramTrainingAdopted n) s = .next (if s.rd Reg.DRC_SC.STATE n = 5
      then ((s.adoptResults n).wr Reg.DRC_SC.STATE 3 n).wr Reg.DRC_STATUS.TRN_BUSY 0
      else ((s.adoptResults n).bringUp n).pairUp (decide ((s.adoptResults n).dram.pair.length < 2))) := by
  refine (if_pos (by simp [hst, hsteps, hbad, hserv])).trans ?_
  split
  · rfl
  · exact (State.pairUp_ok ((s.adoptResults n).bringUp n) (decide ((s.adoptResults n).dram.pair.length < 2)))

/-- A bank after a same-bank refresh of a bank number (R437). -/
def Bank.refreshed (r k : Nat) (b : Bank) : Bank := if k / 8 % 4 = r then { b with opened := false } else b

/-- A sub-channel after its next same-bank refresh (R437). -/
def Sc.refreshNext (x : Sc) : Sc :=
  { x with refreshed := (x.refreshed + 1) % 4, banks := Tbl.mapAll {} (Bank.refreshed x.refreshed) x.banks }

theorem Sc.refreshNext_closes {x : Sc} {k : Nat} (hk : k / 8 % 4 = x.refreshed) : (Tbl.get {} x.refreshNext.banks k).opened = false := by
  obtain h | ⟨b, h⟩ := Tbl.get_mapAll_cases {} (Bank.refreshed x.refreshed) x.banks k
  · exact congrArg Bank.opened h
  · rw [Bank.refreshed, if_pos hk] at h
    exact congrArg Bank.opened h

theorem Sc.refreshNext_keeps {x : Sc} {k : Nat} (hk : k / 8 % 4 ≠ x.refreshed) (hopen : (Tbl.get {} x.banks k).opened = true) :
    (Tbl.get {} x.refreshNext.banks k).opened = true := by
  have hne : Tbl.get {} x.banks k ≠ {} := fun h => by
    rw [h] at hopen
    exact nomatch hopen
  have hsame : Bank.refreshed x.refreshed k (Tbl.get {} x.banks k) = Tbl.get {} x.banks k := if_neg hk
  have h := Tbl.get_mapAll {} (Bank.refreshed x.refreshed) x.banks k hne (by rw [hsame]; exact hne)
  exact (congrArg Bank.opened (h.trans hsame)).trans hopen

/-- Settles O42: each command rewrites one sub-channel; a training that is adopted claims granules after its results are in place. -/
theorem dramControl : Obligations.DramControl := by
  intro s n
  have hn : n.val < 8 := n.isLt
  refine ⟨fun hst hsteps hbad hserv => ?_, fun cause l hq hserv hbusy hst => ?_, fun h => ?_, fun hup hst => ?_, fun b => ?_,
    fun line cls waited hup hnew => ⟨fun h => ?_, fun hcls hold => ?_⟩, fun line l hscrub hserv hup hst => ?_, fun hscrub => ?_⟩
  · have hres := s.adoptResults_adopted n
    have hframe := s.adoptResults_frame hn
    have kres := s.adoptResults_keeps n
    refine ⟨_, execDramTrainingAdopted_eq s n hst hsteps hbad hserv, ?_⟩
    generalize s.adoptResults n = s2 at hres hframe kres ⊢
    have hdram : s2.dram = s.dram := kres.same .dram
    split
    · next h5 =>
      have k : Keeps [] [Reg.DRC_SC.STATE, Reg.DRC_STATUS.TRN_BUSY] s2 ((s2.wr Reg.DRC_SC.STATE 3 n).wr Reg.DRC_STATUS.TRN_BUSY 0) :=
        .wr (.wr (.refl ..))
      obtain ⟨hrate, hcount, hbanks, htemp, hmv⟩ := hres.keeps k rfl
      refine ⟨hrate, hcount, hbanks, htemp, hmv, fun _ => ⟨?_, State.rd_wr_same .., hdram⟩, fun h1 => ?_,
        (hframe.then_wr (by decide) _ hn (by decide)).then_wr (by decide) _ (by decide) (by decide)⟩
      · simp (disch := decide) only [State.rd_wr_apart, State.rd_wr_same]
        rfl
      · rw [h5] at h1
        exact nomatch h1
    · next h5 =>
      obtain ⟨hst2, hup, hpair, hbanks2⟩ := s2.bringUp_up hn
      have kp := (s2.bringUp n).pairUp_keeps (decide (s2.dram.pair.length < 2))
      have hlast := (s2.bringUp n).pairUp_pair (decide (s2.dram.pair.length < 2)) n
      have hfr : Frame [.subchannels, .dram, .log] adoptRegs s ((s2.bringUp n).pairUp (decide (s2.dram.pair.length < 2))) :=
        (hframe.bringUp s hn).pairUp s _
      have hall := (hres.keeps (s2.bringUp_keeps n) hbanks2).keeps kp hlast.2
      generalize (s2.bringUp n).pairUp (decide (s2.dram.pair.length < 2)) = t at kp hlast hfr hall ⊢
      obtain ⟨hrate, hcount, hbanks, htemp, hmv⟩ := hall
      refine ⟨hrate, hcount, hbanks, htemp, hmv, fun h => absurd h h5, fun _ => ⟨(kp.rd_eq (by decide) ..).trans hst2, ?_, ?_⟩, hfr⟩
      · rw [State.scUp, kp.rd_eq (by decide)]
        exact hup
      · rw [hlast.1, hpair, hdram]
  · change ∃ t, execMarginCheckStart s = .next t ∧ _
    unfold execMarginCheckStart
    rw [hq]
    dsimp -zeta only
    rw [if_pos (by simp [hserv, hbusy, hst])]
    let s2 : State := ((({ s with dram := { s.dram with queue := l } }).wr Reg.DRC_STATUS.TRN_BUSY 1).wr Reg.DRC_STATUS.TRN_SC n).wr
      Reg.DRC_SC.STATE 4 n
    have hsc := s2.sc_setSc_self n { s2.sc n with steps := 0, trnBad := false }
    refine ⟨_, rfl, rfl, ?_, ?_, ?_, congrArg Sc.steps hsc, ?_, ?_⟩
    · simp (disch := decide) only [State.event_rd_, State.setSc_rd_, State.rd_wr_apart, State.rd_wr_same]
      rfl
    · simp (disch := decide) only [State.event_rd_, State.setSc_rd_, State.rd_wr_apart, State.rd_wr_same]
      exact Nat.mod_eq_of_lt hn
    · simp (disch := decide) only [State.event_rd_, State.setSc_rd_, State.rd_wr_same]
      rfl
    · rw [State.event_head]
      rfl
    · have h2 : Frame [.subchannels, .dram, .log] [Reg.DRC_SC.STATE, Reg.DRC_STATUS.TRN_BUSY, Reg.DRC_STATUS.TRN_SC] s
          (((({ s with dram := { s.dram with queue := l } }).wr Reg.DRC_STATUS.TRN_BUSY 1).wr Reg.DRC_STATUS.TRN_SC n).wr Reg.DRC_SC.STATE 4 n) :=
        ((((Frame.refl ..).with_dram (by decide) _).then_wr (by decide) _ (by decide) (by decide)).then_wr (by decide) _ (by decide)
          (by decide)).then_wr (by decide) _ hn (by decide)
      exact (h2.setSc (by decide) n _).then_event (by decide) ..
  · change execMarginCheckStart s = _
    unfold execMarginCheckStart
    split
    · next m cause l hq =>
      refine if_neg ?_
      obtain h | h | h := h
      · simp [h]
      · rw [hq] at h
        cases h
      · simp [h]
    · rfl
  · let x := (s.sc n).refreshNext
    have hsc : (s.setSc n x).sc n = x := s.sc_setSc_self n x
    refine ⟨s.setSc n x, if_pos (by simp [hup, hst]), ?_, fun k hk => ?_, fun k hk hopen => ?_, ?_, fun m hm => s.sc_setSc_ne hm x,
      s.setSc_alone n x⟩ <;> rw [hsc]
    · rfl
    · exact Sc.refreshNext_closes hk
    · exact Sc.refreshNext_keeps hk hopen
    · rfl
  · let x : Sc := { s.sc n with banks := Tbl.upd {} (s.sc n).banks b.val (fun b => { b with opened := false }) }
    have hsc : (s.setSc n x).sc n = x := s.sc_setSc_self n x
    refine ⟨s.setSc n x, rfl, ?_, fun k hk => ?_, ?_, fun m hm => s.sc_setSc_ne hm x, s.setSc_alone n x⟩ <;> rw [hsc]
    · exact congrArg Bank.opened (Tbl.get_set_self ..)
    · exact Tbl.get_set_ne _ _ _ hk
  · refine if_neg ?_
    obtain rfl | h := h
    · simp
    · simp [h]
  · refine ⟨_, if_pos ?_, s.sc_setSc_self n _, s.setSc_alone n _⟩
    simp [hup, hcls, hold, List.contains_eq_mem] at hnew ⊢
    exact hnew
  · change ∃ t, execScrubRewrite n s = .next t ∧ _
    unfold execScrubRewrite
    dsimp only
    rw [hscrub]
    exact ⟨_, if_pos (by simp [hserv, hup, hst]), s.sc_setSc_self n _, s.setSc_alone n _⟩
  · change execScrubRewrite n s = _
    unfold execScrubRewrite
    dsimp only
    rw [hscrub]

end

/-! ### Fields of arrays under a frame -/

/-- Two fields no valid instances of which share a home. -/
def Fld.away (q r : Fld) : Bool :=
  decide (q.lo < 64 ∧ r.lo < 64 ∧ q.last < 2 ^ 23 ∧ r.last < 2 ^ 23) && (q.lo != r.lo || decide (q.last < r.off ∨ r.last < q.off)
    || q.off % Nat.gcd q.stride r.stride != r.off % Nat.gcd q.stride r.stride)

/-- A valid element lies between the first and the last. -/
theorem Fld.place_le {q : Fld} {i : Nat} (hi : i < q.count) : q.off + q.stride * i ≤ q.last :=
  Nat.add_le_add_left (Nat.mul_le_mul_left _ (Nat.le_sub_one_of_lt hi)) _

theorem Fld.place_mod (q : Fld) {d : Nat} (h : d ∣ q.stride) (i : Nat) : (q.off + q.stride * i) % d = q.off % d := by
  rw [Nat.add_mod, Nat.mod_eq_zero_of_dvd (Nat.dvd_mul_right_of_dvd h i), Nat.add_zero, Nat.mod_mod]

theorem Fld.key_away {q r : Fld} (h : q.away r = true) {i j : Nat} (hi : i < q.count) (hj : j < r.count) (f g : Nat) : q.key i f ≠ r.key j g := by
  simp only [Fld.away, Bool.and_eq_true, decide_eq_true_eq, Bool.or_eq_true, bne_iff_ne] at h
  obtain ⟨⟨hq, hr, hql, hrl⟩, h⟩ := h
  have hi := Fld.place_le hi
  have hj := Fld.place_le hj
  have hmq := q.place_mod (Nat.gcd_dvd_left q.stride r.stride) i
  have hmr := r.place_mod (Nat.gcd_dvd_right q.stride r.stride) j
  intro e
  unfold Fld.key at e
  have hplace : q.off + q.stride * i = r.off + r.stride * j := by omega
  obtain (h | h) | h := h
  · omega
  · have := Nat.le_add_right q.off (q.stride * i)
    have := Nat.le_add_right r.off (r.stride * j)
    omega
  · exact h (by rw [← hmq, ← hmr, hplace])

theorem Frame.rd_valid {ps : List Part} {rs : List Fld} {s t : State} (k : Frame ps rs s t) {q : Fld} {i : Nat} (hi : i < q.count)
    (hq : ∀ r ∈ rs, q.away r = true) (g : Nat) : t.rd q i g = s.rd q i g := by
  have hkey : ¬ IsHome rs (q.key i g) := fun ⟨r, hr, j, hj, f, _, he⟩ => Fld.key_away (hq r hr) hi hj g f he
  rw [State.rd, k.2 _ hkey, State.rd]

/-! ### Lines kept -/

/-- Every line of every sub-channel reads as before. -/
def LinesKept (s t : State) : Prop := ∀ m, (t.sc m).lines = (s.sc m).lines

theorem LinesKept.trans {s t u : State} (h : LinesKept s t) (k : LinesKept t u) : LinesKept s u := fun m => (k m).trans (h m)

theorem LinesKept.of_keeps {s t : State} {ps : List Part} {rs : List Fld} (k : Keeps ps rs s t) (hp : Part.subchannels ∉ ps := by decide) :
    LinesKept s t := fun m => by rw [State.sc, k.same .subchannels hp, State.sc]

theorem LinesKept.setSc (s : State) (n : Nat) {x : Sc} (h : x.lines = (s.sc n).lines) : LinesKept s (s.setSc n x) := fun m => by
  rw [State.sc_setSc]
  split
  · next e => rw [h, e]
  · rfl

theorem LinesKept.ite {c : Prop} [Decidable c] {s t u : State} (h : LinesKept s t) (k : LinesKept s u) : LinesKept s (if c then t else u) := by
  split <;> assumption

section
variable (s : State) (n line : Nat)

theorem State.touch_lines (off : Nat) : LinesKept s (s.touch n off) := .setSc s n rfl

theorem State.lineBad_lines : LinesKept s (s.lineBad n line) := by
  unfold State.lineBad
  extract_lets s1 x recent s2
  have k1 : Keeps [.health, .dram, .log, .endpoint, .rings, .vectors, .buses] _ s s1 :=
    .andThen (rs := [Reg.MEM_SC.UE, Reg.MEM_SC.LAST, Reg.MEM_SC.DEVICE, Reg.MEM_SC.UNCORR, Reg.MEM_REMAP.POISON, Reg.DRC_STATUS.TRN_BUSY,
      Reg.DRC_SC.STATE, Reg.DRC_STATUS.FAILED, Reg.DRC_STATUS.IN_SERVICE, Reg.HIF_ASYNC.PEND, Reg.MEM_REMAP.LINE, Reg.MEM_REMAP.VALID,
      Reg.MEM_SC.REMAP_USED]) (.andThen (.event (.bump (.refl ..))) (State.lastLine_keeps ..)) (State.remap_keeps ..)
  have h2 : LinesKept s s2 := (LinesKept.of_keeps k1).trans (.setSc s1 n rfl)
  exact .ite (h2.trans (.of_keeps (State.scFail_keeps ..))) h2

theorem State.lineCorrected_lines (device : Nat) : LinesKept s (s.lineCorrected n line device) := by
  unfold State.lineCorrected
  extract_lets s1 x old queued seen y s2 s3
  have h1 : LinesKept s s1 := .of_keeps (ps := [.health]) (rs := [Reg.MEM_SC.CE, Reg.MEM_SC.LAST, Reg.MEM_SC.DEVICE, Reg.MEM_SC.UNCORR])
    (.andThen (.count (.bump (.refl ..))) (State.lastLine_keeps ..))
  have h2 : LinesKept s s2 := h1.trans (.setSc s1 n rfl)
  have h3 : LinesKept s s3 := .ite (h2.trans (.of_keeps (State.marginTrigger_keeps ..))) h2
  refine .ite h1 (.ite (h1.trans ?_) (.ite (h3.trans ?_) h3))
  · exact (LinesKept.of_keeps (.event (.refl [.log] [] s1))).trans (.of_keeps (State.remap_keeps ..))
  · exact (LinesKept.of_keeps (.event (.refl [.log] [] s3))).trans (.of_keeps (State.scFail_keeps ..))

/-! ### What the work on a line reaches -/

/-- Fields a line that is corrected or lost may reach after its own count and place were shown. -/
def tailRegs : List Fld := [Reg.MEM_SC.REMAP_USED, Reg.MEM_REMAP.LINE, Reg.MEM_REMAP.VALID, Reg.MEM_REMAP.POISON, Reg.DRC_SC.CE_1S,
  Reg.DRC_SC.STATE, Reg.DRC_STATUS.FAILED, Reg.DRC_STATUS.IN_SERVICE, Reg.DRC_STATUS.TRN_BUSY, Reg.HIF_ASYNC.PEND]

/-- Fields a sub-channel that fails may reach. -/
def failRegs : List Fld :=
  [Reg.DRC_SC.STATE, Reg.DRC_STATUS.FAILED, Reg.DRC_STATUS.IN_SERVICE, Reg.DRC_STATUS.TRN_BUSY, Reg.HIF_ASYNC.PEND]

section
variable {rs : List Fld} {u : State} {n : Nat}

theorem Frame.scFail (k : Frame lineParts rs s u) (hr : failRegs ⊆ rs) (hn : n < 8) (cause : Nat) : Frame lineParts rs s (u.scFail n cause) := by
  unfold State.scFail
  refine .ite k ?_
  extract_lets s1 s2 s3 stage d s4
  have h1 : Frame lineParts rs s s1 := ((k.then_wr (hr (by decide)) 6 hn (by decide)).then_wr (hr (by decide)) _ (by decide) (by decide)).then_wr
    (hr (by decide)) _ (by decide) (by decide)
  have h2 : Frame lineParts rs s s2 := h1.setHealth (by decide) _ _
  have h3 : Frame lineParts rs s s3 := .ite (h2.then_wr (hr (by decide)) 0 (by decide) (by decide)) h2
  exact ((h3.with_dram (by decide) _).then_event (by decide) ..).asyncAll (by decide) (hr (by decide)) _ _

/-- The remap table of a sub-channel has 32 entries. -/
theorem State.remapOf_lt {line e : Nat} (h : s.remapOf n line = some e) : e < 32 := List.mem_range.1 (List.mem_of_find?_eq_some h)

theorem remapIndex_lt {e : Nat} (hn : n < 8) (he : e < 32) : 32 * n + e < 256 := by omega

theorem Frame.setPoison {ps : List Part} (k : Frame ps rs s u) (hp : Part.dram ∈ ps) (hr : Reg.MEM_REMAP.POISON ∈ rs) (hn : n < 8) (line : Nat)
    (p : Bool) : Frame ps rs s (u.setPoison n line p) := by
  unfold State.setPoison
  split
  · next e he => exact (k.then_wr hr _ (remapIndex_lt hn (u.remapOf_lt he)) (by decide)).with_dram hp _
  · exact k

theorem Frame.remap (k : Frame lineParts rs s u) (hr : tailRegs ⊆ rs) (hn : n < 8) (line : Nat) (p : Bool) :
    Frame lineParts rs s (u.remap n line p) := by
  have hfail : failRegs ⊆ rs := List.Subset.trans (by decide) hr
  unfold State.remap
  refine .ite (k.setPoison s (by decide) (hr (by decide)) hn _ _) ?_
  split
  · exact (k.then_event (by decide) ..).scFail s hfail hn _
  · next e he =>
    have hi := remapIndex_lt hn (List.mem_range.1 (List.mem_of_find?_eq_some he))
    have h1 : Frame lineParts rs s (((u.wr Reg.MEM_REMAP.LINE line (32 * n + e)).wr Reg.MEM_REMAP.VALID 1 (32 * n + e)).wr
        Reg.MEM_REMAP.POISON (bit p) (32 * n + e)) :=
      ((k.then_wr (hr (by decide)) _ hi (by decide)).then_wr (hr (by decide)) _ hi (by decide)).then_wr (hr (by decide)) _ hi (by decide)
    exact ((h1.then_bump (hr (by decide)) 1 hn (by decide)).then_event (by decide) ..).with_dram (by decide) _

theorem Frame.lastLine (k : Frame lineParts rs s u) (hr : [Reg.MEM_SC.LAST, Reg.MEM_SC.DEVICE, Reg.MEM_SC.UNCORR] ⊆ rs) (hn : n < 8)
    (line device : Nat) (b : Bool) : Frame lineParts rs s (u.lastLine n line device b) :=
  ((k.then_wr (hr (by decide)) _ hn (by decide)).then_wr (hr (by decide)) _ hn (by decide)).then_wr (hr (by decide)) _ hn (by decide)

end

/-- What a line corrected or lost shows at first: the count, the line, the component, and whether it was lost. -/
structure Shown (s t : State) (cnt : Fld) (n line device : Nat) (lost : Bool) : Prop where
  count : t.rd cnt n = min (s.rd cnt n + 1) (2 ^ cnt.w - 1)
  last : t.rd Reg.MEM_SC.LAST n = 64 * line % 2 ^ Reg.MEM_SC.LAST.w
  device : t.rd Reg.MEM_SC.DEVICE n = device % 2 ^ Reg.MEM_SC.DEVICE.w
  uncorr : t.rd Reg.MEM_SC.UNCORR n = bit lost

theorem Shown.tail {t u : State} {cnt : Fld} {n line device : Nat} {lost : Bool} (h : Shown s t cnt n line device lost) {ps : List Part}
    (k : Frame ps tailRegs t u) (hn : n < 8) (hcnt : cnt.count = 8) (haway : ∀ r ∈ tailRegs, cnt.away r = true) :
    Shown s u cnt n line device lost :=
  ⟨(k.rd_valid (hcnt ▸ hn) haway 0).trans h.count, (k.rd_valid hn (by decide) 0).trans h.last, (k.rd_valid hn (by decide) 0).trans h.device,
    (k.rd_valid hn (by decide) 0).trans h.uncorr⟩

theorem Shown.done {t u : State} {cnt : Fld} {n line device : Nat} {lost : Bool} (h : Shown s t cnt n line device lost) (hn : n < 8)
    (hcnt : cnt.count = 8) (haway : ∀ r ∈ tailRegs, cnt.away r = true) (h1 : Frame lineParts lineRegs s t) (k : Frame lineParts tailRegs t u) :
    Shown s u cnt n line device lost ∧ Frame lineParts lineRegs s u :=
  ⟨h.tail s k hn hcnt haway, h1.trans (k.mono (fun _ h => h) (by decide))⟩

theorem State.lineCorrected_shown {n : Nat} (hn : n < 8) (line device : Nat) :
    Shown s (s.lineCorrected n line device) Reg.MEM_SC.CE n line device false ∧
      Frame lineParts lineRegs s (s.lineCorrected n line device) := by
  unfold State.lineCorrected
  extract_lets s1 x old queued seen y s2 s3
  have hs1 : Shown s s1 Reg.MEM_SC.CE n line device false := by
    constructor <;> simp (disch := decide) only [s1, State.lastLine, State.count, State.setHealth_rd_, State.rd_wr_apart, State.rd_wr_same,
      State.rd_bump_same]
    rfl
  have h1 : Frame lineParts lineRegs s s1 :=
    (((Frame.refl ..).then_bump (by decide) 1 hn (by decide)).setHealth (by decide) _ _).lastLine s (by decide) hn _ _ _
  have h2 : Frame lineParts tailRegs s1 s2 := ((Frame.refl ..).setSc (by decide) n y).then_wr (by decide) _ hn (by decide)
  have hm : Frame lineParts tailRegs s2 (s2.marginTrigger n 3) := .ite ((Frame.refl ..).with_dram (by decide) _) (.refl ..)
  have h3 : Frame lineParts tailRegs s1 s3 := .ite (h2.trans hm) h2
  exact hs1.done s hn rfl (by decide) h1 (.ite (.refl ..) (.ite
    (((Frame.refl ..).then_event (by decide) 0x17 0x0104 (n + line % 2 ^ 29 * 8) _).remap s1 (by decide) hn line false)
    (.ite ((h3.then_event (by decide) 0x17 0x0103 (n + device * 8) _).scFail s1 (by decide) hn 2) h3)))

theorem State.lineBad_shown {n : Nat} (hn : n < 8) (line : Nat) :
    Shown s (s.lineBad n line) Reg.MEM_SC.UE n line 0xF true ∧ Frame lineParts lineRegs s (s.lineBad n line) := by
  unfold State.lineBad
  extract_lets s1 x recent s2
  let s0 : State := ((s.bump Reg.MEM_SC.UE 1 n).event 0x17 0x0100 (n + line % 2 ^ 29 * 8)).lastLine n line 0xF true
  have hs0 : Shown s s0 Reg.MEM_SC.UE n line 0xF true := by
    constructor <;> simp (disch := decide) only [s0, State.lastLine, State.event_rd_, State.rd_wr_apart, State.rd_wr_same, State.rd_bump_same]
    rfl
  have h0 : Frame lineParts lineRegs s s0 :=
    (((Frame.refl ..).then_bump (by decide) 1 hn (by decide)).then_event (by decide) ..).lastLine s (by decide) hn _ _ _
  have h1 : Frame lineParts tailRegs s0 s1 := (Frame.refl _ _ s0).remap s0 (by decide) hn line true
  have h2 : Frame lineParts tailRegs s0 s2 := h1.setSc (by decide) n _
  exact hs0.done s hn rfl (by decide) h0 (.ite (h2.scFail s0 (by decide) hn 3) h2)

/-- The words of a sub-channel's remap table are as before. -/
def RemapSame (s t : State) (n : Nat) : Prop := ∀ e < 32, t.on Reg.MEM_REMAP.VALID (32 * n + e) = s.on Reg.MEM_REMAP.VALID (32 * n + e) ∧
  t.rd Reg.MEM_REMAP.LINE (32 * n + e) = s.rd Reg.MEM_REMAP.LINE (32 * n + e) ∧
  t.on Reg.MEM_REMAP.POISON (32 * n + e) = s.on Reg.MEM_REMAP.POISON (32 * n + e)

theorem RemapSame.of_frame {ps : List Part} {rs : List Fld} {t : State} (k : Frame ps rs s t) {n : Nat} (hn : n < 8)
    (hr : ∀ q ∈ [Reg.MEM_REMAP.VALID, Reg.MEM_REMAP.LINE, Reg.MEM_REMAP.POISON], ∀ r ∈ rs, q.away r = true) : RemapSame s t n := by
  intro e he
  have hi := remapIndex_lt hn he
  refine ⟨?_, k.rd_valid hi (hr _ (by decide)) 0, ?_⟩
  · rw [State.on, k.rd_valid hi (hr _ (by decide)) 0, State.on]
  · rw [State.on, k.rd_valid hi (hr _ (by decide)) 0, State.on]

theorem RemapSame.remapOf {t : State} {n : Nat} (h : RemapSame s t n) (line : Nat) : t.remapOf n line = s.remapOf n line := by
  refine List.find?_congr fun e he => ?_
  obtain ⟨hvalid, hline, _⟩ := h e (List.mem_range.1 he)
  rw [hvalid, hline]

theorem RemapSame.poisoned {t : State} {n : Nat} (h : RemapSame s t n) (line : Nat) : t.poisoned n line = s.poisoned n line := by
  rw [State.poisoned, h.remapOf s, State.poisoned]
  split
  · next e he => exact (h e (s.remapOf_lt he)).2.2
  · rfl

/-- The state once a free entry of the remap table lists a line as poisoned. -/
theorem State.poisoned_entry {n line e : Nat} (he : e < 32) (hline : line < 2 ^ 29) (hnone : s.remapOf n line = none) :
    (((s.wr Reg.MEM_REMAP.LINE line (32 * n + e)).wr Reg.MEM_REMAP.VALID 1 (32 * n + e)).wr Reg.MEM_REMAP.POISON 1 (32 * n + e)).poisoned n line
      = true := by
  generalize hu : ((s.wr Reg.MEM_REMAP.LINE line (32 * n + e)).wr Reg.MEM_REMAP.VALID 1 (32 * n + e)).wr Reg.MEM_REMAP.POISON 1 (32 * n + e) = u
  have hentry : u.on Reg.MEM_REMAP.VALID (32 * n + e) = true ∧ u.rd Reg.MEM_REMAP.LINE (32 * n + e) = line ∧
      u.on Reg.MEM_REMAP.POISON (32 * n + e) = true := by
    subst hu
    simp (disch := decide) only [State.on, State.rd_wr_apart, State.rd_wr_same]
    exact ⟨rfl, Nat.mod_eq_of_lt hline, rfl⟩
  have hother : ∀ k ≠ e, u.on Reg.MEM_REMAP.VALID (32 * n + k) = s.on Reg.MEM_REMAP.VALID (32 * n + k) ∧
      u.rd Reg.MEM_REMAP.LINE (32 * n + k) = s.rd Reg.MEM_REMAP.LINE (32 * n + k) := by
    intro k hk
    have hne : 32 * n + k ≠ 32 * n + e := by omega
    subst hu
    simp (disch := decide) only [State.on, State.rd_wr_apart]
    rw [State.rd_wr_other _ _ _ _ _ _ _ _ (Fld.key_instance (by decide) hne 0), State.rd_wr_apart _ _ _ _ _ _ _ _ (by decide),
      State.rd_wr_other _ _ _ _ _ _ _ _ (Fld.key_instance (by decide) hne 0)]
    exact ⟨rfl, rfl⟩
  have hfound : ∀ k, u.remapOf n line = some k → k = e := by
    intro k hk
    by_contra hne
    have hlist := List.find?_eq_none.1 hnone k (List.mem_range.2 (u.remapOf_lt hk))
    rw [← (hother k hne).1, ← (hother k hne).2] at hlist
    exact hlist (List.find?_some (p := fun e => u.on Reg.MEM_REMAP.VALID (32 * n + e) && u.rd Reg.MEM_REMAP.LINE (32 * n + e) == line) hk)
  have hsome : (u.remapOf n line).isSome = true :=
    List.find?_isSome.2 ⟨e, List.mem_range.2 he, by rw [hentry.1, hentry.2.1, beq_self_eq_true]; rfl⟩
  obtain ⟨k, hk⟩ := Option.isSome_iff_exists.1 hsome
  rw [State.poisoned, hk, hfound k hk]
  exact hentry.2.2

/-- A lost line with a free entry in the remap table is listed there as poisoned. -/
theorem State.remap_poisons {n line : Nat} (hn : n < 8) (hline : line < 2 ^ 29) (hnone : s.remapOf n line = none)
    (hfree : ∃ e < 32, s.on Reg.MEM_REMAP.VALID (32 * n + e) = false) : (s.remap n line true).poisoned n line = true := by
  have hsome : ((List.range 32).find? (fun e => !s.on Reg.MEM_REMAP.VALID (32 * n + e))).isSome = true := by
    obtain ⟨e, he, hv⟩ := hfree
    exact List.find?_isSome.2 ⟨e, List.mem_range.2 he, by rw [hv]; rfl⟩
  obtain ⟨e, he⟩ := Option.isSome_iff_exists.1 hsome
  have he32 : e < 32 := List.mem_range.1 (List.mem_of_find?_eq_some he)
  unfold State.remap
  rw [hnone, if_neg (by decide), he]
  let s1 := ((s.wr Reg.MEM_REMAP.LINE line (32 * n + e)).wr Reg.MEM_REMAP.VALID 1 (32 * n + e)).wr Reg.MEM_REMAP.POISON 1 (32 * n + e)
  have k : Frame [.log, .dram] [Reg.MEM_SC.REMAP_USED] s1 { (s1.bump Reg.MEM_SC.REMAP_USED 1 n).event 0x17 0x0101 (n + line % 2 ^ 29 * 8) with
      dram := { ((s1.bump Reg.MEM_SC.REMAP_USED 1 n)).dram with remapDirty := true } } :=
    (((Frame.refl ..).then_bump (by decide) 1 hn (by decide)).then_event (by decide) ..).with_dram (by decide) _
  exact ((RemapSame.of_frame s1 k hn (by decide)).poisoned s1 line).trans (s.poisoned_entry he32 hline hnone)

theorem State.lineBad_poisons {n line : Nat} (hn : n < 8) (hline : line < 2 ^ 29) (hnone : s.remapOf n line = none)
    (hfree : ∃ e < 32, s.on Reg.MEM_REMAP.VALID (32 * n + e) = false) : (s.lineBad n line).poisoned n line = true := by
  unfold State.lineBad
  extract_lets s1 x recent s2
  let s0 : State := ((s.bump Reg.MEM_SC.UE 1 n).event 0x17 0x0100 (n + line % 2 ^ 29 * 8)).lastLine n line 0xF true
  have k0 : Frame [.log] [Reg.MEM_SC.UE, Reg.MEM_SC.LAST, Reg.MEM_SC.DEVICE, Reg.MEM_SC.UNCORR] s s0 :=
    ((((((Frame.refl ..).then_bump (by decide) 1 hn (by decide)).then_event (by decide) ..).then_wr (by decide) _ hn (by decide)).then_wr (by decide)
      _ hn (by decide)).then_wr (by decide) _ hn (by decide))
  have h0 : RemapSame s s0 n := .of_frame s k0 hn (by decide)
  have h1 : s1.poisoned n line = true := s0.remap_poisons hn hline ((h0.remapOf s line).trans hnone)
    (hfree.imp fun e he => ⟨he.1, (h0 e he.1).1.trans he.2⟩)
  have k2 : Frame lineParts failRegs s1 s2 := (Frame.refl ..).setSc (by decide) n _
  have k3 : Frame lineParts failRegs s1 (if s2.rd Reg.MEM_CFG2.UE_LIMIT ≤ recent.length then s2.scFail n 3 else s2) :=
    .ite (k2.scFail s1 (by decide) hn 3) k2
  exact ((RemapSame.of_frame s1 k3 hn (by decide)).poisoned s1 line).trans h1

/-! ### Reading a line (R433, R440, R442, R444, R445) -/

/-- What a line read from its place delivers, by the verdict of the line code. -/
def State.deliver (s : State) (n line : Nat) (v : LineVerdict × BitVec 512) : Option (BitVec 512) × State :=
  match v.1 with
  | .clean => (some v.2, s.touch n (64 * line))
  | .correctable j => (some v.2, (s.touch n (64 * line)).lineCorrected n line j)
  | .uncorrectable => (none, (s.touch n (64 * line)).lineBad n line)

section
variable {n line : Nat} (errs : List (Nat × Nat × Nat))

theorem State.readLine_merged {m : Merge} (h : (s.sc n).merge.find? (fun m => m.line == line && !m.blocked) = some m) :
    s.readLine n line errs = (some m.data, s) := by
  unfold State.readLine
  dsimp only
  rw [h]

variable (hm : (s.sc n).merge.find? (fun m => m.line == line && !m.blocked) = none)
include hm

theorem State.readLine_uninit (hn : n < 8) (hup : (s.sc n).granuleUp (line / 16384) = false) : (s.readLine n line errs).1 = some 0 ∧
    (s.readLine n line errs).2.rd Reg.DRC_SC.UNINIT_READS n = min (s.rd Reg.DRC_SC.UNINIT_READS n + 1) (2 ^ Reg.DRC_SC.UNINIT_READS.w - 1) ∧
    (s.readLine n line errs).2.out = s.out ∧ LinesKept s (s.readLine n line errs).2 ∧
    Frame [.subchannels, .log] [Reg.DRC_SC.UNINIT_READS] s (s.readLine n line errs).2 := by
  unfold State.readLine
  dsimp only
  rw [hm]
  dsimp only
  rw [hup, if_pos (by decide)]
  let s1 := s.bump Reg.DRC_SC.UNINIT_READS 1 n
  have h1 : Frame [.subchannels, .log] [Reg.DRC_SC.UNINIT_READS] s s1 := (Frame.refl ..).then_bump (by decide) 1 hn (by decide)
  have hcount : s1.rd Reg.DRC_SC.UNINIT_READS n = min (s.rd Reg.DRC_SC.UNINIT_READS n + 1) (2 ^ Reg.DRC_SC.UNINIT_READS.w - 1) :=
    State.rd_bump_same ..
  split
  · exact ⟨rfl, hcount, rfl, .setSc s1 n rfl, (h1.setSc (by decide) n _).then_event (by decide) ..⟩
  · exact ⟨rfl, hcount, rfl, fun _ => rfl, h1⟩

variable (hup : (s.sc n).granuleUp (line / 16384) = true)
include hup

/-- A line that the remap table lists is delivered as it is stored, or not at all when it is poisoned. -/
theorem State.readLine_remapped (hr : (s.remapOf n line).isSome = true) : s.readLine n line errs =
    if s.poisoned n line then (none, s) else (some (Tbl.get 0 (s.sc n).lines line), s.touch n (64 * line)) := by
  unfold State.readLine
  dsimp only
  rw [hm]
  dsimp only
  rw [hup, if_neg (by decide), if_pos hr]

variable (hr : s.remapOf n line = none)
include hr

theorem State.readLine_plain : s.readLine n line errs = s.deliver n line (decodeLine (Tbl.get 0 (s.sc n).lines line) errs) := by
  have hp : s.poisoned n line = false := by rw [State.poisoned, hr]
  unfold State.readLine State.deliver
  dsimp only
  rw [hm]
  dsimp only
  rw [hup, if_neg (by decide), hp, if_neg (by decide), hr, if_neg (by decide)]
  obtain ⟨_ | _ | _, d⟩ := decodeLine (Tbl.get 0 (s.sc n).lines line) errs <;> rfl

omit hm hup hr in
/-- Whatever a read delivers, it keeps every line and reaches no more than an error does. -/
theorem State.deliver_kept (hn : n < 8) (v : LineVerdict × BitVec 512) :
    LinesKept s (s.deliver n line v).2 ∧ Frame lineParts lineRegs s (s.deliver n line v).2 := by
  have ht : LinesKept s (s.touch n (64 * line)) := s.touch_lines n _
  have hf : Frame lineParts lineRegs s (s.touch n (64 * line)) := (Frame.refl ..).setSc (by decide) n _
  unfold State.deliver
  split
  · exact ⟨ht, hf⟩
  · exact ⟨ht.trans (State.lineCorrected_lines _ n line _), hf.trans (State.lineCorrected_shown _ hn ..).2⟩
  · exact ⟨ht.trans (State.lineBad_lines _ n line), hf.trans (State.lineBad_shown _ hn ..).2⟩

omit hm hup hr in
theorem State.readLine_kept (hn : n < 8) :
    LinesKept s (s.readLine n line errs).2 ∧ Frame lineParts lineRegs s (s.readLine n line errs).2 := by
  cases hm : (s.sc n).merge.find? (fun m => m.line == line && !m.blocked) with
  | some m =>
    rw [s.readLine_merged errs hm]
    exact ⟨fun _ => rfl, .refl ..⟩
  | none =>
    cases hup : (s.sc n).granuleUp (line / 16384)
    · obtain ⟨_, _, _, hl, hf⟩ := s.readLine_uninit errs hm hn hup
      exact ⟨hl, hf.mono (by decide) (by decide)⟩
    · cases hr : s.remapOf n line with
      | some e =>
        rw [s.readLine_remapped errs hm hup (by rw [hr]; rfl)]
        split
        · exact ⟨fun _ => rfl, .refl ..⟩
        · exact ⟨s.touch_lines n _, (Frame.refl ..).setSc (by decide) n _⟩
      | none =>
        rw [s.readLine_plain errs hm hup hr]
        exact s.deliver_kept hn _

end

theorem State.scGranules_le : s.scGranules ≤ 32768 := by
  unfold State.scGranules
  split
  · split <;> decide
  · decide
  · decide

theorem State.lineServed_lt {n : Fin 8} {line : Nat} (h : s.lineServed n line = true) : line < 2 ^ 29 := by
  simp only [State.lineServed, Bool.and_eq_true, decide_eq_true_eq] at h
  have := s.scGranules_le
  omega

/-- No merge entry of a line is no merge entry of it that could be read. -/
theorem merge_unblocked {l : List Merge} {line : Nat} (h : l.find? (fun m => m.line == line) = none) :
    l.find? (fun m => m.line == line && !m.blocked) = none := by
  simp only [List.find?_eq_none, beq_iff_eq, Bool.and_eq_true, not_and] at h ⊢
  exact fun m hm he => absurd he (h m hm)

/-- The state in which a read of a line finds it: the line's promotion is used up (R436). -/
def State.unpromote (n line : Nat) : State := s.setSc n { s.sc n with promoted := (s.sc n).promoted.filter (· != line) }

/-- What a read of a line that is served leaves, with what it delivers on the bus. -/
def State.lineRead (n line : Nat) (errs : List (Nat × Nat × Nat)) : State :=
  ((s.unpromote n line).readLine n line errs).2.emit (.dramLine n line ((s.unpromote n line).readLine n line errs).1)

section
variable {n line : Nat} (errs : List (Nat × Nat × Nat))

theorem State.unpromote_frame : Frame [.subchannels] [] s (s.unpromote n line) := s.setSc_alone n _

theorem State.unpromote_sc : ∃ l, (s.unpromote n line).sc n = { s.sc n with promoted := l } := ⟨_, s.sc_setSc_self n _⟩

theorem State.lineRead_kept (hn : n < 8) : LinesKept s (s.lineRead n line errs) ∧ Frame lineParts lineRegs s (s.lineRead n line errs) := by
  obtain ⟨hkept, hall⟩ := (s.unpromote n line).readLine_kept (line := line) errs hn
  exact ⟨(LinesKept.setSc s n rfl : LinesKept s (s.unpromote n line)).trans hkept,
    ((s.unpromote_frame.mono (by decide) (by decide)).trans hall).then_emit (by decide) _⟩

theorem State.lineRead_merged {m : Merge} (hm : (s.sc n).merge.find? (fun m => m.line == line && !m.blocked) = some m) :
    (s.lineRead n line errs).out = .dramLine n line (some m.data) :: s.out ∧ Frame [.subchannels, .buses] [] s (s.lineRead n line errs) := by
  obtain ⟨l, hsc⟩ := s.unpromote_sc (n := n) (line := line)
  rw [State.lineRead, (s.unpromote n line).readLine_merged errs (by rw [hsc]; exact hm)]
  exact ⟨rfl, (s.unpromote_frame.mono (by decide) (by decide)).then_emit (by decide) _⟩

variable (hm : (s.sc n).merge.find? (fun m => m.line == line && !m.blocked) = none)
include hm

theorem State.lineRead_uninit (hn : n < 8) (hup : (s.sc n).granuleUp (line / 16384) = false) :
    (s.lineRead n line errs).out = .dramLine n line (some 0) :: s.out ∧
    (s.lineRead n line errs).rd Reg.DRC_SC.UNINIT_READS n = min (s.rd Reg.DRC_SC.UNINIT_READS n + 1) (2 ^ Reg.DRC_SC.UNINIT_READS.w - 1) ∧
    Frame [.subchannels, .log, .buses] [Reg.DRC_SC.UNINIT_READS] s (s.lineRead n line errs) := by
  obtain ⟨l, hsc⟩ := s.unpromote_sc (n := n) (line := line)
  obtain ⟨hdata, hcount, hout, _, hf⟩ := (s.unpromote n line).readLine_uninit errs (by rw [hsc]; exact hm) hn (by rw [hsc]; exact hup)
  refine ⟨?_, hcount, ((s.unpromote_frame.mono (by decide) (by decide)).trans (hf.mono (by decide) (by decide))).then_emit (by decide) _⟩
  rw [State.lineRead, hdata]
  exact congrArg (Out.dramLine n line (some 0) :: ·) hout

variable (hup : (s.sc n).granuleUp (line / 16384) = true)
include hup

theorem State.lineRead_remapped (hr : (s.remapOf n line).isSome = true) : (s.lineRead n line errs).out =
      .dramLine n line (if s.poisoned n line then none else some (Tbl.get 0 (s.sc n).lines line)) :: s.out ∧
    Frame [.subchannels, .buses] [] s (s.lineRead n line errs) := by
  obtain ⟨l, hsc⟩ := s.unpromote_sc (n := n) (line := line)
  have hread := (s.unpromote n line).readLine_remapped errs (by rw [hsc]; exact hm) (by rw [hsc]; exact hup) hr
  have hp : (s.unpromote n line).poisoned n line = s.poisoned n line := rfl
  rw [hp, congrArg Sc.lines hsc] at hread
  rw [State.lineRead, hread]
  have hf : Frame [.subchannels, .buses] [] s (s.unpromote n line) := s.unpromote_frame.mono (by decide) (by decide)
  split
  · exact ⟨rfl, hf.then_emit (by decide) _⟩
  · exact ⟨rfl, (hf.setSc (by decide) n _).then_emit (by decide) _⟩

variable (hr : s.remapOf n line = none)
include hr

theorem State.lineRead_plain : s.lineRead n line errs =
    (let r := (s.unpromote n line).deliver n line (decodeLine (Tbl.get 0 (s.sc n).lines line) errs); r.2.emit (.dramLine n line r.1)) := by
  obtain ⟨l, hsc⟩ := s.unpromote_sc (n := n) (line := line)
  rw [State.lineRead, (s.unpromote n line).readLine_plain errs (by rw [hsc]; exact hm) (by rw [hsc]; exact hup) hr, congrArg Sc.lines hsc]

theorem State.lineRead_clean (hd : (decodeLine (Tbl.get 0 (s.sc n).lines line) errs).1 = .clean) :
    (s.lineRead n line errs).out = .dramLine n line (some (decodeLine (Tbl.get 0 (s.sc n).lines line) errs).2) :: s.out ∧
    Frame [.subchannels, .buses] [] s (s.lineRead n line errs) := by
  rw [s.lineRead_plain errs hm hup hr, State.deliver, hd]
  exact ⟨rfl, ((s.unpromote_frame.mono (by decide) (by decide)).setSc (by decide) n _).then_emit (by decide) _⟩

theorem State.lineRead_correctable (hn : n < 8) {j : Nat} (hd : (decodeLine (Tbl.get 0 (s.sc n).lines line) errs).1 = .correctable j) :
    (s.lineRead n line errs).out.head? = some (.dramLine n line (some (decodeLine (Tbl.get 0 (s.sc n).lines line) errs).2)) ∧
    Shown s (s.lineRead n line errs) Reg.MEM_SC.CE n line j false := by
  rw [s.lineRead_plain errs hm hup hr, State.deliver, hd]
  obtain ⟨hcount, hlast, hdev, hun⟩ := (((s.unpromote n line).touch n (64 * line)).lineCorrected_shown hn line j).1
  exact ⟨rfl, hcount, hlast, hdev, hun⟩

theorem State.lineRead_uncorrectable (hn : n < 8) (hline : line < 2 ^ 29)
    (hd : (decodeLine (Tbl.get 0 (s.sc n).lines line) errs).1 = .uncorrectable) :
    (s.lineRead n line errs).out.head? = some (.dramLine n line none) ∧ Shown s (s.lineRead n line errs) Reg.MEM_SC.UE n line 0xF true ∧
    ((∃ e < 32, s.on Reg.MEM_REMAP.VALID (32 * n + e) = false) → (s.lineRead n line errs).poisoned n line = true) := by
  rw [s.lineRead_plain errs hm hup hr, State.deliver, hd]
  obtain ⟨hcount, hlast, hdev, hun⟩ := (((s.unpromote n line).touch n (64 * line)).lineBad_shown hn line).1
  exact ⟨rfl, ⟨hcount, hlast, hdev, hun⟩, ((s.unpromote n line).touch n (64 * line)).lineBad_poisons hn hline hr⟩

end

/-! ### Writing a line (R433, R442, R444) -/

/-- A line whose poison is cleared is not poisoned. -/
theorem State.setPoison_clears {n line : Nat} : (s.setPoison n line false).poisoned n line = false := by
  unfold State.setPoison
  split
  · next e he =>
    have hsame : ∀ k, ((s.wr Reg.MEM_REMAP.POISON (bit false) (32 * n + e)).on Reg.MEM_REMAP.VALID (32 * n + k) &&
        (s.wr Reg.MEM_REMAP.POISON (bit false) (32 * n + e)).rd Reg.MEM_REMAP.LINE (32 * n + k) == line) =
        (s.on Reg.MEM_REMAP.VALID (32 * n + k) && s.rd Reg.MEM_REMAP.LINE (32 * n + k) == line) := fun k => by
      simp (disch := decide) only [State.on, State.rd_wr_apart]
    have hentry : (s.wr Reg.MEM_REMAP.POISON (bit false) (32 * n + e)).remapOf n line = some e :=
      (List.find?_congr fun k _ => hsame k).trans he
    have hclear : (s.wr Reg.MEM_REMAP.POISON (bit false) (32 * n + e)).poisoned n line = false := by
      rw [State.poisoned, hentry]
      simp only [State.on, State.rd_wr_same]
      rfl
    exact hclear
  · next he => rw [State.poisoned, he]

/-- A line is delivered unless the line code gives it up. -/
theorem State.deliver_data (n line : Nat) (v : LineVerdict × BitVec 512) :
    (s.deliver n line v).1 = if v.1 = .uncorrectable then none else some v.2 := by
  obtain ⟨_ | _ | _, d⟩ := v <;> rfl

/-- Settles O43: a read goes by the merge entry, the granule, the remap table and the verdict, in that order; a write of a part of a line begins
with a read of it. -/
theorem dramLines : Obligations.DramLines := by
  intro s n line errs
  have hn : n.val < 8 := n.isLt
  refine ⟨fun h => ⟨if_neg (by rw [← State.lineServed, h]; decide), fun mask data => if_pos (by rw [← State.lineServed, h]; decide)⟩,
    fun h => ?_, fun mask data h => ⟨fun hup => ?_, fun hup hmask => ?_, fun hup hmask => ?_⟩⟩
  · obtain ⟨hkept, hall⟩ := s.lineRead_kept (line := line) errs hn
    refine ⟨s.lineRead n line errs, if_pos h, hkept, fun m hm => s.lineRead_merged errs hm, fun hm hup => s.lineRead_uninit errs hm hn hup,
      fun hm hup hr => s.lineRead_remapped errs hm hup hr, fun hp => ?_, hall⟩
    obtain ⟨_, hup, hm, hr⟩ := hp
    have hm := merge_unblocked hm
    refine ⟨fun hd => s.lineRead_clean errs hm hup hr hd, fun j hd => ?_, fun hd => ?_⟩
    · obtain ⟨hout, hcount, hlast, hdev, hun⟩ := s.lineRead_correctable errs hm hup hr hn hd
      exact ⟨hout, hcount, hlast, hdev, hun⟩
    · obtain ⟨hout, ⟨hcount, hlast, hdev, hun⟩, hpois⟩ := s.lineRead_uncorrectable errs hm hup hr hn (s.lineServed_lt h) hd
      exact ⟨hout, hcount, hun, hdev, hpois⟩
  · let x : Sc := { s.sc n with wanted := if (s.sc n).wanted.contains (line / 16384) then (s.sc n).wanted
                                         else (s.sc n).wanted ++ [line / 16384] }
    refine ⟨s.setSc n x, (if_neg (by rw [← State.lineServed, h]; decide)).trans (if_pos (by rw [hup]; rfl)), ?_, LinesKept.setSc s n rfl,
      s.setSc_alone n x⟩
    rw [s.sc_setSc_self]
    change line / 16384 ∈ if _ then _ else _
    split
    · next hin => exact List.contains_iff_mem.1 hin
    · exact List.mem_append_right _ (.head _)
  · let s1 := s.touch n (64 * line)
    let x : Sc := { s1.sc n with lines := Tbl.set 0 (s1.sc n).lines line data, merge := (s1.sc n).merge.filter (fun m => m.line != line) }
    have hrun : exec (.partialLineWrite n line mask data errs) s = .next ((s1.setSc n x).setPoison n line false) :=
      (if_neg (by rw [← State.lineServed, h]; decide)).trans ((if_neg (by rw [hup]; decide)).trans (if_pos hmask))
    have hsc : ((s1.setSc n x).setPoison n line false).sc n = x := by
      rw [State.sc, (State.setPoison_keeps ..).same .subchannels]
      exact s1.sc_setSc_self n x
    have h1 : (s1.sc n).lines = (s.sc n).lines := s.touch_lines n _ n
    refine ⟨_, hrun, ?_, fun k hk => ?_, State.setPoison_clears _, fun m hm => ?_, ?_⟩
    · rw [hsc]
      exact Tbl.get_set_self ..
    · rw [hsc]
      exact (Tbl.get_set_ne _ _ _ hk).trans (congrArg (Tbl.get 0 · k) h1)
    · rw [hsc] at hm
      exact bne_iff_ne.1 (List.mem_filter.1 hm).2
    · exact Frame.setPoison s (((Frame.refl ..).setSc (by decide) n _).setSc (by decide) n x) (by decide) (by decide) hn _ _
  · have hpart : exec (.partialLineWrite n line mask data errs) s = _ :=
      (if_neg (by rw [← State.lineServed, h]; decide)).trans ((if_neg (by rw [hup]; decide)).trans (if_neg hmask))
    refine ⟨fun m hm => ?_, fun hm hfull => ?_, fun hp hroom => ?_⟩
    · rw [hpart, hm]
      refine ⟨_, rfl, ?_, fun k hk => ?_, s.setSc_alone n _⟩ <;> rw [s.sc_setSc_self]
      · change Tbl.get 0 (if m.blocked then _ else _) line = _
        split
        · rfl
        · exact Tbl.get_set_self ..
      · change Tbl.get 0 (if m.blocked then _ else _) k = _
        split
        · rfl
        · exact Tbl.get_set_ne _ _ _ hk
    · rw [hpart, hm]
      exact if_pos hfull
    · obtain ⟨_, _, hm, hr⟩ := hp
      have hread := s.readLine_plain errs (merge_unblocked hm) hup hr
      obtain ⟨hkept, hall⟩ := s.readLine_kept (line := line) errs hn
      have hdata : (s.readLine n line errs).1 =
        if (s.decoded n line errs).1 = .uncorrectable then none else some (s.decoded n line errs).2 := by rw [hread, State.deliver_data]; rfl
      have hlines : ((s.readLine n line errs).2.sc n).lines = (s.sc n).lines := hkept n
      rw [hpart, hm]
      dsimp only
      rw [if_neg (Nat.not_le.2 hroom)]
      generalize s.readLine n line errs = r at hdata hlines hall ⊢
      obtain ⟨_ | old, u⟩ := r
      · have hbad : (s.decoded n line errs).1 = .uncorrectable := by
          by_contra hgood
          rw [if_neg hgood] at hdata
          exact nomatch hdata
        refine ⟨_, rfl, ?_, fun k _ => ?_, ?_, hall.setSc (by decide) n _⟩
        · rw [if_pos hbad, u.sc_setSc_self]
          exact congrArg (Tbl.get 0 · line) hlines
        · rw [u.sc_setSc_self]
          exact congrArg (Tbl.get 0 · k) hlines
        · rw [u.sc_setSc_self]
          exact ⟨_, List.mem_append_right _ (.head _), rfl, rfl, (decide_eq_true hbad).symm⟩
      · have hgood : (s.decoded n line errs).1 ≠ .uncorrectable := fun hbad => by
          rw [if_pos hbad] at hdata
          exact nomatch hdata
        rw [if_neg hgood] at hdata
        cases hdata
        refine ⟨_, rfl, ?_, fun k hk => ?_, ?_, hall.setSc (by decide) n _⟩
        · rw [if_neg hgood, u.sc_setSc_self, Tbl.get_set_self]
        · rw [u.sc_setSc_self, Tbl.get_set_ne _ _ _ hk, hlines]
        · rw [u.sc_setSc_self]
          exact ⟨_, List.mem_append_right _ (.head _), rfl, rfl, (decide_eq_false hgood).symm⟩

end

end Sys2Proof.Machine
end

section
/-! PROOFS. The associative engine: what its operations return and leave in the table (R474 to R478; O45). -/

set_option Elab.async false

namespace Sys2Proof.Machine

section
variable (s : State)

/-! ### Entries -/

theorem State.thiEnt_setThi_self (i : Nat) (e : ThiEnt) : (s.setThi i e).thiEnt i = e := Tbl.get_set_self ..

theorem State.thiEnt_setThi_ne {i k : Nat} (h : k ≠ i) (e : ThiEnt) : (s.setThi i e).thiEnt k = s.thiEnt k := Tbl.get_set_ne _ _ _ h

/-- The refresh of a table's registers leaves every entry. -/
theorem State.thiRefresh_thi (t : Nat) : (s.thiRefresh t).thi = s.thi := (s.thiRefresh_keeps t).same .engine

theorem State.thiEnt_thiRefresh (t k : Nat) : (s.thiRefresh t).thiEnt k = s.thiEnt k := by rw [State.thiEnt, State.thiRefresh_thi, State.thiEnt]

theorem State.thiRefresh_out (t : Nat) : (s.thiRefresh t).out = s.out := (s.thiRefresh_keeps t).same .buses

section
variable {u : State}

theorem Frame.thiRefresh {ps : List Part} (k : Frame ps engineRegs s u) (hl : Part.log ∈ ps) {t : Nat} (ht : t < 8) :
    Frame ps engineRegs s (u.thiRefresh t) := by
  unfold State.thiRefresh
  extract_lets l s1 used s2 go s3
  have h1 : Frame ps engineRegs s s1 := (k.then_wr (by decide) _ ht (by decide)).then_wr (by decide) _ ht (by decide)
  have h3 : Frame ps engineRegs s s3 := (h1.then_wr (by decide) _ (by decide) (by decide)).then_wr (by decide) _ (by decide) (by decide)
  exact .ite (h3.then_event hl ..) h3

theorem Frame.thiRefuse {ps : List Part} {rs : List Fld} (k : Frame ps rs s u) (hl : Part.log ∈ ps) (hr : Reg.THI_CNT.NO_ROOM ∈ rs) (t : Nat)
    (near : Bool) :
    Frame ps rs s (u.thiRefuse t near) := (k.then_bump hr 1 (by decide) (by decide)).then_event hl ..

end

/-- An operation of the engine in service answers on the bus. -/
theorem thiAnswer_up (hup : s.thiUp = true) (r : ThiOut × State) : thiAnswer s r = .next (r.2.emit (.lookup r.1)) := if_pos hup

/-! ### Shifting entries to a hole (R477) -/

section
variable {w x : Nat} (hw : 0 < w)
include hw

/-- Outside the run of entries from the place to the hole, a shift leaves the table. -/
theorem State.thiShift_outside (n hole k : Nat) (hk : k + w ≤ x ∨ hole < k) : (s.thiShift w x n hole).thiEnt k = s.thiEnt k := by
  induction n generalizing s hole with
  | zero => rfl
  | succ n ih =>
    unfold State.thiShift
    split
    · rfl
    · next h =>
      rw [ih _ _ (by omega), State.thiEnt_setThi_ne _ (by omega), State.thiEnt_setThi_ne _ (by omega)]

/-- A whole number of entries up to the hole each move one place towards it. -/
theorem State.thiShift_moves (n d m : Nat) (hd : d ≤ n) (hm : m < d) :
    (s.thiShift w x n (x + d * w)).thiEnt (x + (m + 1) * w) = s.thiEnt (x + m * w) := by
  induction n generalizing s d with
  | zero => omega
  | succ n ih =>
    obtain ⟨d, rfl⟩ : ∃ j, d = j + 1 := ⟨d - 1, by omega⟩
    have hsucc : (d + 1) * w = d * w + w := Nat.succ_mul d w
    have hback : x + (d + 1) * w - w = x + d * w := by omega
    unfold State.thiShift
    rw [if_neg (by omega), hback]
    obtain rfl | hlt := Nat.eq_or_lt_of_le (Nat.le_of_lt_succ hm)
    · rw [State.thiShift_outside _ hw _ _ _ (.inr (by omega)), State.thiEnt_setThi_ne _ (by omega), State.thiEnt_setThi_self]
    · have hmul : m * w + w ≤ d * w := (Nat.succ_mul m w) ▸ Nat.mul_le_mul_right w hlt
      rw [ih _ d (by omega) hlt, State.thiEnt_setThi_ne _ (by omega), State.thiEnt_setThi_ne _ (by omega)]

omit hw in
theorem Frame.thiShift {ps : List Part} {rs : List Fld} {u : State} (k : Frame ps rs s u) (he : Part.engine ∈ ps) (n hole : Nat) :
    Frame ps rs s (u.thiShift w x n hole) := by
  induction n generalizing u hole with
  | zero => exact k
  | succ n ih =>
    unfold State.thiShift
    split
    · exact k
    · exact ih ((k.setThi he _ _).setThi he _ _) _

end

/-- The entries listed, taken out one by one (R476). -/
def State.thiClear (s : State) (l : List (Nat × ThiEnt)) : State := l.foldl (fun s e => s.setThi e.1 { e.2 with valid := false }) s

theorem State.thiClear_other (l : List (Nat × ThiEnt)) (k : Nat) (hk : ∀ e ∈ l, e.1 ≠ k) : (s.thiClear l).thiEnt k = s.thiEnt k := by
  induction l generalizing s with
  | nil => rfl
  | cons e l ih => exact (ih _ fun d hd => hk d (.tail _ hd)).trans (State.thiEnt_setThi_ne _ (Ne.symm (hk e (.head _))) _)

theorem State.thiClear_gone (l : List (Nat × ThiEnt)) (k : Nat) (hk : (s.thiEnt k).valid = false ∨ ∃ e ∈ l, e.1 = k) :
    ((s.thiClear l).thiEnt k).valid = false := by
  induction l generalizing s with
  | nil => exact hk.resolve_right fun ⟨_, h, _⟩ => nomatch h
  | cons e l ih =>
    refine ih _ ?_
    by_cases he : k = e.1
    · subst he
      exact .inl (congrArg ThiEnt.valid (State.thiEnt_setThi_self ..))
    · obtain hk | ⟨d, hd, hdk⟩ := hk
      · exact .inl ((congrArg ThiEnt.valid (State.thiEnt_setThi_ne _ he _)).trans hk)
      · obtain rfl | hd := List.mem_cons.1 hd
        · exact absurd hdk.symm he
        · exact .inr ⟨d, hd, hdk⟩

theorem Frame.thiClear {ps : List Part} {rs : List Fld} {u : State} (k : Frame ps rs s u) (he : Part.engine ∈ ps) (l : List (Nat × ThiEnt)) :
    Frame ps rs s (u.thiClear l) := Frame.foldl (fun _ _ _ => (Frame.refl ..).setThi he _ _) k

theorem State.thiClear_out (l : List (Nat × ThiEnt)) : (s.thiClear l).out = s.out := 
  s.foldl_same State.out (g := fun (s : State) (e : Nat × ThiEnt) => s.setThi e.1 { e.2 with valid := false }) (fun _ _ => rfl) l

/-! ### Inserting in order (R477) -/

/-- An entry inserted before a place of an ordered table. -/
def State.thiInsertAt (s : State) (t : Nat) (e : ThiEnt) (x : Nat) : ThiOut × State :=
  match ((s.thiFree t).filter (fun i => decide (i < x))).getLast? with
  | some i => (.inserted i, ((s.thiOps 1).setThi i e).thiRefresh t)
  | none =>
    match (s.thiFree t).filter (fun i => decide (x < i)) with
    | [] => (.full, (s.thiOps 1).thiRefuse t false)
    | hole :: _ =>
      if 15 < (hole - x) / s.thiWidth t then (.noRoomNear, ((s.thiOps 1).thiRefuse t true).thiRefresh t)
      else (.inserted x, (((s.thiOps (1 + (hole - x) / s.thiWidth t)).thiShift (s.thiWidth t) x 16 hole).setThi x e).thiRefresh t)

theorem State.thiInsertOrdered_at {t : Nat} {e : ThiEnt} {before : Option (Fin 32768)} {x : Nat}
    (h : (before = none ∧ x = ((s.thiList t).map (·.1)).headD (s.thiEnd t))
      ∨ (∃ b ∈ before, (s.thiList t).any (fun p => p.1 == b.val) = true ∧ x = b.val)) :
    s.thiInsertOrdered t e (before.map (·.val)) = s.thiInsertAt t e x := by
  unfold State.thiInsertOrdered
  extract_lets w l place
  have hplace : place = some x := by
    obtain ⟨rfl, rfl⟩ | ⟨b, hb, hany, rfl⟩ := h
    · change (match s.thiList t with | [] => some (s.thiEnd t) | (i, _) :: _ => some i) = _
      cases s.thiList t <;> rfl
    · cases hb
      exact if_pos hany
  clear_value place
  subst hplace
  rfl

theorem State.thiInsertOrdered_bad {t : Nat} {e : ThiEnt} {b : Fin 32768} (h : (s.thiList t).any (fun p => p.1 == b.val) = false) :
    s.thiInsertOrdered t e (some b.val) = (.badIndex, s.thiOps 1) := by
  unfold State.thiInsertOrdered
  extract_lets w l place
  have hplace : place = none := if_neg (by rw [h]; decide)
  clear_value place
  subst hplace
  rfl

theorem State.thiWidth_pos (t : Nat) : 0 < s.thiWidth t := Nat.two_pow_pos _

/-- No entry is looked for, or none is the same. -/
theorem ite_eq_right_none {α : Type} {u : Bool} {x : Option α} (h : u = false ∨ x = none) : (if u then x else none) = none := by
  obtain rfl | rfl := h
  · rfl
  · exact ite_self _

/-- Settles O45: each operation is answered on the bus with what it did to one entry, to the entries a search names, or to the run of entries
between a place and a hole. -/
theorem engine : Obligations.Engine := by
  intro s tb hup
  have htb : tb.val < 8 := tb.isLt
  refine ⟨fun key mask start f d => ⟨fun hmiss c hc => ?_, fun i e m hhit => ⟨?_, ?_⟩⟩, fun key care prio data unique f add => ?_,
    fun key care prio data before => ?_, fun i => ⟨fun hhas => ⟨?_, fun data mask => ?_⟩, fun hhas data mask c hc => ?_, ?_⟩, fun key mask => ?_,
    fun hc => ?_, fun hole i e hc hhole hfind => ?_⟩
  · have hops := ((Frame.refl [.buses] [Reg.THI_OPS.COUNT] s).thiOps (by decide) 1).then_emit (by decide) (.lookup .miss)
    have hrun : exec c s = .next ((s.thiOps 1).emit (.lookup .miss)) := by
      simp only [List.mem_cons, List.not_mem_nil, or_false] at hc
      obtain rfl | rfl := hc
      · exact exec_thiSearch_of_miss hup hmiss
      · refine (thiAnswer_up s hup _).trans ?_
        rw [State.thiSearchAdd, hmiss]
    exact ⟨_, hrun, rfl, State.rd_bump_same .., hops⟩
  · have hops := (Frame.refl [.buses] [Reg.THI_OPS.COUNT, Reg.THI_CNT.MULTI_HITS] s).thiOps (by decide) 1
    refine ⟨_, exec_thiSearch_of_hit hup hhit, by cases m <;> rfl, ?_,
      (Frame.ite (hops.then_bump (by decide) 1 (by decide) (by decide)) hops).then_emit (by decide) _⟩
    rw [State.emit_rd_]
    split
    · rw [State.rd_bump_same, State.thiOps, State.rd_bump_apart _ _ _ _ _ _ _ _ (by decide)]
      rfl
    · exact State.rd_bump_apart _ _ _ _ _ _ _ _ (by decide)
  · have hrun : exec (.searchAdd tb key mask start f d) s = _ := thiAnswer_up s hup _
    rw [State.thiSearchAdd, hhit] at hrun
    dsimp only at hrun
    let s1 := (s.thiOps 1).setThi i { e with data := (thiAdd e.data f d).1 }
    have h1 : Frame [.engine, .buses] [Reg.THI_OPS.COUNT, Reg.THI_CNT.MULTI_HITS] s s1 :=
      ((Frame.refl ..).thiOps (by decide) 1).setThi (by decide) _ _
    have hent : ∀ k, (if m then s1.bump Reg.THI_CNT.MULTI_HITS else s1).thiEnt k = s1.thiEnt k := fun k => by cases m <;> rfl
    exact ⟨_, hrun, by cases m <;> rfl, (hent i).trans (State.thiEnt_setThi_self ..),
      fun k hk => (hent k).trans (State.thiEnt_setThi_ne _ hk _),
      (Frame.ite (h1.then_bump (by decide) 1 (by decide) (by decide)) h1).then_emit (by decide) _⟩
  · intro same c
    have hrun : exec c s = .next _ := thiAnswer_up s hup _
    refine ⟨fun i e hu hsame => ?_, fun i l hnew hfree => ?_, fun hnew hfull => ?_⟩
    · change List.find? _ _ = _ at hsame
      rw [State.thiInsertAny, if_pos hu, hsame] at hrun
      exact ⟨_, hrun, rfl, State.thiEnt_setThi_self .., fun k hk => State.thiEnt_setThi_ne _ hk _,
        ((Frame.thiOps (.refl ..) (by decide) 1).setThi (by decide) _ _).then_emit (by decide) _⟩
    · change unique = false ∨ List.find? _ _ = none at hnew
      rw [State.thiInsertAny, ite_eq_right_none hnew] at hrun
      dsimp only at hrun
      rw [hfree] at hrun
      exact ⟨_, hrun, congrArg (Out.lookup (.inserted i) :: ·) (State.thiRefresh_out ..),
        (State.thiEnt_thiRefresh ..).trans (State.thiEnt_setThi_self ..),
        fun k hk => (State.thiEnt_thiRefresh ..).trans (State.thiEnt_setThi_ne _ hk _),
        (Frame.thiRefresh s ((Frame.thiOps (.refl ..) (by decide) 1).setThi (by decide) _ _) (by decide) htb).then_emit (by decide) _⟩
    · change unique = false ∨ List.find? _ _ = none at hnew
      rw [State.thiInsertAny, ite_eq_right_none hnew] at hrun
      dsimp only at hrun
      rw [hfull] at hrun
      refine ⟨_, hrun, rfl, ?_, by rw [State.emit_events, State.thiRefuse, State.event_head]; rfl,
        (Frame.thiRefuse s (Frame.thiOps (.refl ..) (by decide) 1) (by decide) (by decide) tb false).then_emit (by decide) _⟩
      exact (State.rd_bump_same ..).trans (congrArg (fun n => min (n + 1) 0xFFFF) (State.rd_bump_apart _ _ _ _ _ _ _ _ (by decide)))
  · intro e c
    refine ⟨fun b hb hany => ?_, fun x hx => ?_⟩
    · subst hb
      have hrun : exec c s = .next _ := thiAnswer_up s hup _
      rw [Option.map_some, s.thiInsertOrdered_bad hany] at hrun
      exact ⟨_, hrun, rfl, ((Frame.refl ..).thiOps (by decide) 1).then_emit (by decide) _⟩
    have hrun : exec c s = .next _ := thiAnswer_up s hup _
    rw [s.thiInsertOrdered_at hx, State.thiInsertAt] at hrun
    refine ⟨fun i hi => ?_, fun hbelow => ⟨fun hole l habove => ⟨fun hfar => ?_, fun hnear => ?_⟩, fun habove => ?_⟩⟩
    · rw [hi] at hrun
      exact ⟨_, hrun, congrArg (Out.lookup (.inserted i) :: ·) (State.thiRefresh_out ..),
        (State.thiEnt_thiRefresh ..).trans (State.thiEnt_setThi_self ..),
        fun k hk => (State.thiEnt_thiRefresh ..).trans (State.thiEnt_setThi_ne _ hk _),
        (Frame.thiRefresh s ((Frame.thiOps (.refl ..) (by decide) 1).setThi (by decide) _ _) (by decide) htb).then_emit (by decide) _⟩
    · rw [hbelow, habove] at hrun
      dsimp only [List.getLast?_nil] at hrun
      rw [if_pos hfar] at hrun
      have hf : Frame [.buses, .log] engineRegs s ((s.thiOps 1).thiRefuse tb true) :=
        Frame.thiRefuse s (Frame.thiOps (.refl ..) (by decide) 1) (by decide) (by decide) tb true
      refine ⟨_, hrun, congrArg (Out.lookup .noRoomNear :: ·) (State.thiRefresh_out ..), (State.thiRefresh_thi ..), ?_,
        (hf.thiRefresh s (by decide) htb).then_emit (by decide) _⟩
      refine ((State.thiRefresh_keeps ..).rd_eq (by decide) ..).trans ?_
      exact (State.rd_bump_same ..).trans (congrArg (fun n => min (n + 1) 0xFFFF) (State.rd_bump_apart _ _ _ _ _ _ _ _ (by decide)))
    · rw [hbelow, habove] at hrun
      dsimp only [List.getLast?_nil] at hrun
      rw [if_neg (Nat.not_lt.2 hnear)] at hrun
      have hhole : x < hole := by
        have hmem : hole ∈ (s.thiFree tb).filter (fun i => decide (x < i)) := habove ▸ List.mem_cons_self ..
        exact of_decide_eq_true (List.mem_filter.1 hmem).2
      have hw := s.thiWidth_pos tb
      let s1 := s.thiOps (1 + (hole - x) / s.thiWidth tb)
      have hother : ∀ k ≠ x, (((s1.thiShift (s.thiWidth tb) x 16 hole).setThi x e).thiRefresh tb).thiEnt k =
          (s1.thiShift (s.thiWidth tb) x 16 hole).thiEnt k := fun k hk => (State.thiEnt_thiRefresh ..).trans (State.thiEnt_setThi_ne _ hk _)
      refine ⟨_, hrun, ?_, (State.thiEnt_thiRefresh ..).trans (State.thiEnt_setThi_self ..), fun k hk => ?_, fun hdvd m hm => ?_, ?_⟩
      · exact congrArg (Out.lookup (.inserted x) :: ·) ((State.thiRefresh_out ..).trans
          (((Frame.refl [.engine] [] s1).thiShift s1 (by decide) 16 hole).same .buses))
      · exact (hother k (by omega)).trans (s1.thiShift_outside hw 16 hole k hk)
      · have hshape : hole = x + (hole - x) / s.thiWidth tb * s.thiWidth tb := by
          rw [Nat.div_mul_cancel hdvd]
          omega
        have hmove := s1.thiShift_moves hw (x := x) 16 ((hole - x) / s.thiWidth tb) m (Nat.le_succ_of_le hnear) hm
        rw [← hshape] at hmove
        have hpos : 0 < (m + 1) * s.thiWidth tb := Nat.mul_pos (Nat.succ_pos m) hw
        exact (hother _ (by omega)).trans hmove
      · exact (Frame.thiRefresh s ((Frame.thiShift s (Frame.thiOps (.refl ..) (by decide) _) (by decide) 16 hole).setThi (by decide) _ _)
          (by decide) htb).then_emit (by decide) _
    · rw [hbelow, habove] at hrun
      exact ⟨_, hrun, rfl, (Frame.thiRefuse s (Frame.thiOps (.refl ..) (by decide) 1) (by decide) (by decide) tb false).then_emit (by decide) _⟩
  · have hrun : exec (.thiDelete tb i) s = _ := thiAnswer_up s hup _
    rw [State.thiDelete, if_pos hhas] at hrun
    exact ⟨_, hrun, congrArg (Out.lookup (.done i) :: ·) (State.thiRefresh_out ..), (State.thiEnt_thiRefresh ..).trans (State.thiEnt_setThi_self ..),
      fun k hk => (State.thiEnt_thiRefresh ..).trans (State.thiEnt_setThi_ne _ hk _),
      (Frame.thiRefresh s ((Frame.thiOps (.refl ..) (by decide) 1).setThi (by decide) _ _) (by decide) htb).then_emit (by decide) _⟩
  · have hrun : exec (.writeData tb i data mask) s = _ := thiAnswer_up s hup _
    rw [State.thiWriteData, if_pos hhas] at hrun
    refine ⟨_, hrun, rfl, fun b => ?_, fun k hk => State.thiEnt_setThi_ne _ hk _,
      ((Frame.thiOps (.refl ..) (by decide) 1).setThi (by decide) _ _).then_emit (by decide) _⟩
    change (((s.thiOps 1).setThi i _).thiEnt i).data.testBit b = _
    rw [State.thiEnt_setThi_self]
    simp only [Nat.testBit_or, Nat.testBit_xor, Nat.testBit_and, BitVec.testBit_toNat]
    cases mask.getLsbD b <;> simp
  · have hops := ((Frame.refl [.buses] [Reg.THI_OPS.COUNT] s).thiOps (by decide) 1).then_emit (by decide) (.lookup .badIndex)
    have hno : ¬ s.thiHas tb i = true := by rw [hhas]; decide
    have hrun : exec c s = .next ((s.thiOps 1).emit (.lookup .badIndex)) := by
      simp only [List.mem_cons, List.not_mem_nil, or_false] at hc
      obtain rfl | rfl := hc
      · refine (thiAnswer_up s hup _).trans ?_
        rw [State.thiDelete, if_neg hno]
      · refine (thiAnswer_up s hup _).trans ?_
        rw [State.thiWriteData, if_neg hno]
    exact ⟨_, hrun, rfl, hops⟩
  · exact ⟨_, thiAnswer_up s hup _, ((Frame.refl ..).thiOps (by decide) 1).then_emit (by decide) _, rfl⟩
  · let l := s.thiMatches tb key.toNat mask.toNat 0
    have hrun : exec (.deleteMatch tb key mask) s =
      .next ((((s.thiOps (max 1 l.length)).thiClear l).thiRefresh tb).emit (.lookup (.deleted l.length))) := thiAnswer_up s hup _
    refine ⟨_, hrun, ?_, fun e he => ?_, fun k hk => ?_,
      (Frame.thiRefresh s (Frame.thiClear s (Frame.thiOps (.refl ..) (by decide) _) (by decide) l) (by decide) htb).then_emit (by decide) _⟩
    · exact congrArg (Out.lookup (.deleted l.length) :: ·) ((State.thiRefresh_out ..).trans (State.thiClear_out ..))
    · exact (congrArg ThiEnt.valid (State.thiEnt_thiRefresh ..)).trans (State.thiClear_gone _ l _ (.inr ⟨e, he, rfl⟩))
    · exact (State.thiEnt_thiRefresh ..).trans (State.thiClear_other _ l k hk)
  · exact (if_pos hup).trans (congrArg ok (if_neg (by rw [hc]; decide)))
  · have hlt : hole < i := of_decide_eq_true (List.find?_some (p := fun e : Nat × ThiEnt => decide (hole < e.1)) hfind)
    have hrun : exec (.compactionStep tb) s = .next ((((s.thiOps 1).setThi hole e).setThi i {}).thiRefresh tb) := by
      refine (if_pos hup).trans (congrArg ok ?_)
      rw [State.thiCompact, if_pos hc, hhole]
      dsimp only
      rw [hfind]
    refine ⟨_, hrun, ?_, ?_, fun k hk hki => ?_, ?_⟩
    · rw [State.thiEnt_thiRefresh, State.thiEnt_setThi_ne _ (Nat.ne_of_lt hlt), State.thiEnt_setThi_self]
    · rw [State.thiEnt_thiRefresh, State.thiEnt_setThi_self]
    · rw [State.thiEnt_thiRefresh, State.thiEnt_setThi_ne _ hki, State.thiEnt_setThi_ne _ hk]
      rfl
    · exact Frame.thiRefresh s ((((Frame.refl ..).thiOps (by decide) 1).setThi (by decide) _ _).setThi (by decide) _ _) (by decide) htb

end

end Sys2Proof.Machine
end

section
/-! PROOFS. Power states: the phases of an entry, its abandonment, the rails, and the end of an exit (R530 to R549; O51, O52). -/

set_option Elab.async false

namespace Sys2Proof.Machine

section
variable (s : State)

/-! ### The power block under its rails -/

/-- The power block without what the writes to the rails change. -/
def Pwr.bare (p : Pwr) : Pwr := { p with waiting := [], wroteAt := [], before := [], writes := [] }

theorem State.railWrite_bare (r mv : Nat) : (s.railWrite r mv).pwr.bare = s.pwr.bare := rfl

theorem State.railsGo_bare : s.railsGo.pwr.bare = s.pwr.bare := by
  unfold State.railsGo
  extract_lets w blocked now q s1
  have h1 : s1.pwr.bare = s.pwr.bare := rfl
  clear_value s1
  refine (s1.foldl_same (fun u => u.pwr.bare) (fun u e => ?_) now).trans h1
  exact u.railWrite_bare e.1 e.2

theorem State.railsTo_bare (st : Nat) (raising : Bool) : (s.railsTo st raising).pwr.bare = { s.pwr.bare with raising := raising } :=
  State.railsGo_bare _

theorem State.startExit_bare (dst : Nat) :
    (s.startExit dst).pwr.bare = { s.pwr.bare with wakeAt := s.frame, exitTo := dst, idle := 0, raising := true } :=
  State.railsTo_bare _ 0 true

/-! ### An entry abandoned (R533, R534) -/

/-- What an abandonment shows: its point, its count, the exit it begins, and when the entry is tried again. -/
structure Abandoned (s t : State) (at_ : Nat) (retry : Option Nat) : Prop where
  phase : t.pphase = 5
  point : t.rd Reg.PWR_STATUS.ABORT_AT = at_ % 2 ^ Reg.PWR_STATUS.ABORT_AT.w
  count : t.rd Reg.PWR_CNT.ABANDONED = min (s.rd Reg.PWR_CNT.ABANDONED + 1) (2 ^ Reg.PWR_CNT.ABANDONED.w - 1)
  exit : t.pwr.exitTo = s.pwr.origin
  again : t.pwr.retryAt = retry
  state : t.pstate = s.pstate

theorem State.abandon_abandoned (at_ cause domain : Nat) :
    Abandoned s (s.abandon at_ cause domain) at_ (if cause = 1 then none else some (s.frame + 10 * s.rd Reg.PWR_CFG.RETRY)) := by
  unfold State.abandon
  extract_lets s1 s2 s3 retry
  have k3 : Keeps [.log] [Reg.PWR_STATUS.REFUSED, Reg.PWR_STATUS.DOMAIN] s1 s3 :=
    .event (.ite (.wr (.wr (.refl ..))) (.ite (.wr (.refl ..)) (.refl ..)))
  have k := (s3.setPwr { s3.pwr with retryAt := retry }).startExit_keeps s3.pwr.origin
  have hbare := (s3.setPwr { s3.pwr with retryAt := retry }).startExit_bare s3.pwr.origin
  have hretry : retry = if cause = 1 then none else some (s.frame + 10 * s.rd Reg.PWR_CFG.RETRY) := by
    have hframe : s3.frame = s.frame := (k3.same .frame :)
    have hrd : s3.rd Reg.PWR_CFG.RETRY = s.rd Reg.PWR_CFG.RETRY := (k3.rd_eq (by decide) ..).trans
      ((State.rd_bump_apart _ _ _ _ _ _ _ _ (by decide)).trans (State.rd_wr_apart _ _ _ _ _ _ _ _ (by decide)))
    rw [← hframe, ← hrd]
  have hpwr : s3.pwr = s.pwr := (k3.same .power :)
  have hpoint : s3.rd Reg.PWR_STATUS.ABORT_AT = at_ % 2 ^ Reg.PWR_STATUS.ABORT_AT.w := (k3.rd_eq (by decide) ..).trans
      ((State.rd_bump_apart _ _ _ _ _ _ _ _ (by decide)).trans (State.rd_wr_same ..))
  have hcount : s3.rd Reg.PWR_CNT.ABANDONED = min (s.rd Reg.PWR_CNT.ABANDONED + 1) (2 ^ Reg.PWR_CNT.ABANDONED.w - 1) := by
    rw [k3.rd_eq (by decide), State.rd_bump_same, State.rd_wr_apart _ _ _ _ _ _ _ _ (by decide)]
  have hstate : s3.pstate = s.pstate := (k3.rd_eq (by decide) ..).trans
      ((State.rd_bump_apart _ _ _ _ _ _ _ _ (by decide)).trans (State.rd_wr_apart _ _ _ _ _ _ _ _ (by decide)))
  exact ⟨State.startExit_phase .., (k.rd_eq (by decide) ..).trans hpoint, (k.rd_eq (by decide) ..).trans hcount,
    (congrArg Pwr.exitTo hbare).trans (congrArg Pwr.origin hpwr), (congrArg Pwr.retryAt hbare).trans hretry,
    (k.rd_eq (by decide) ..).trans hstate⟩

/-- A refusal is shown with its domain. -/
theorem State.abandon_refused (at_ domain : Nat) : (s.abandon at_ 2 domain).rd Reg.PWR_STATUS.REFUSED = 1 ∧
    (s.abandon at_ 2 domain).rd Reg.PWR_STATUS.DOMAIN = domain % 2 ^ Reg.PWR_STATUS.DOMAIN.w := by
  let s2 := (((s.wr Reg.PWR_STATUS.ABORT_AT at_).bump Reg.PWR_CNT.ABANDONED).wr Reg.PWR_STATUS.REFUSED 1).wr Reg.PWR_STATUS.DOMAIN domain
  have k : Keeps [.log, .power, .buses] [Reg.PWR_STATUS.PHASE, Reg.PWR_AVS.REQ_MV, Reg.PWR_AVS.BUSY] s2 (s.abandon at_ 2 domain) :=
    .andThen (.setPwr (.event (.refl ..))) (State.startExit_keeps ..)
  refine ⟨(k.rd_eq (by decide) ..).trans ?_, (k.rd_eq (by decide) ..).trans (State.rd_wr_same ..)⟩
  exact (State.rd_wr_apart _ _ _ _ _ _ _ _ (by decide)).trans (State.rd_wr_same ..)

/-! ### An entry begun (R530) -/

theorem State.wr_phase {v : Nat} (hv : v < 8) : (s.wr Reg.PWR_STATUS.PHASE v).pphase = v :=
  (State.rd_wr_same s Reg.PWR_STATUS.PHASE v 0 0).trans (Nat.mod_eq_of_lt hv)

theorem State.startEntry_phase : s.startEntry.pphase = 1 := (s.wr_phase (v := 1) (by decide) :)

theorem State.startEntry_frame : Frame [.power] [Reg.PWR_STATUS.PHASE] s s.startEntry :=
  ((Frame.refl ..).then_wr (.head _) 1 (by decide) (by decide)).setPwr (.head _) _

end

/-- Settles O51: every abandonment shows its point and begins the exit; what the rails do on the way leaves the rest of the power block. -/
theorem powerEntry : Obligations.PowerEntry := by
  intro s hserv
  refine ⟨fun hp hst hw hidle hretry => ?_, fun hp hab hprep => ?_, fun d hp hd ha => ⟨fun hr => ?_, fun hr hall => ?_, fun hr hall hab => ?_⟩,
    fun d hp hask hfind => ?_, fun hp hab => ?_, fun hab e he hp => ?_⟩
  · refine ⟨s.startEntry, if_pos (by simp [hserv, hp, hst, hw, hidle, hretry]), s.startEntry_phase, rfl, rfl, s.startEntry_frame⟩
  · refine ⟨_, (if_pos (by simp [hserv, hp])).trans ((if_neg (by rw [hab]; decide)).trans (if_pos hprep)), ?_, rfl,
      ((Frame.refl ..).then_wr (by decide) 2 (by decide) (by decide)).setPwr (by decide) _⟩
    exact (s.wr_phase (v := 2) (by decide) :)
  · have hrun : exec (.domainAnswer d) s = .next _ :=
      (if_pos (by simp [hserv, hp, hd, ha])).trans (if_pos hr)
    let s1 := s.setPwr { s.pwr with answers := Tbl.set 0 s.pwr.answers d (s.domainAnswer d) }
    have hab := s1.abandon_abandoned 1 2 d
    have href := s1.abandon_refused 1 d
    exact ⟨_, hrun, hab.phase, href.1, href.2, hab.point, hab.exit, hab.again⟩
  · refine ⟨_, (if_pos (by simp [hserv, hp, hd, ha])).trans ((if_neg hr).trans (if_neg (by rw [hall]; decide))), hp, Tbl.get_set_self ..,
      (Frame.refl ..).setPwr (by decide) _⟩
  · refine ⟨_, (if_pos (by simp [hserv, hp, hd, ha])).trans ((if_neg hr).trans ((if_pos hall).trans (if_neg ?_))), State.wr_phase _ (by decide),
      ((Frame.refl ..).setPwr (by decide) _).then_wr (by decide) 3 (by decide) (by decide)⟩
    change ¬ s.mustAbandon = true
    rw [hab]
    decide
  · have hrun : exec .askTimeout s = .next (s.abandon 1 2 d) := by
      refine (if_pos (by simp [hserv, hp, hask])).trans ?_
      rw [hfind]
    have hab := s.abandon_abandoned 1 2 d
    have href := s.abandon_refused 1 d
    exact ⟨_, hrun, hab.phase, href.1, href.2⟩
  · let s1 := if s.pwr.goal < 2 then s else s.setPwr { s.pwr with fullClock := false }
    let s2 := if s.pwr.goal = 3 then s1.dramSelfRefresh else s1
    have hrun : exec .quiesceEnd s = .next ((s2.wr Reg.PWR_STATUS.PHASE 4).railsTo s.pwr.goal false) :=
      (if_pos (by simp [hserv, hp])).trans (if_neg (by rw [hab]; decide))
    have k1 : Keeps [.power] [] s s1 := .ite (.refl ..) (.setPwr (.refl ..))
    have k2 : Keeps [.subchannels, .dram] [Reg.DRC_SC.STATE, Reg.DRC_STATUS.TRN_BUSY, Reg.DRC_STATUS.SELF_REFRESH] s1 s2 :=
      .ite s1.dramSelfRefresh_keeps (.refl ..)
    have k3 := (s2.wr Reg.PWR_STATUS.PHASE 4).railsTo_keeps s.pwr.goal false
    have hbare := (s2.wr Reg.PWR_STATUS.PHASE 4).railsTo_bare s.pwr.goal false
    have hclock : 2 ≤ s.pwr.goal → s2.pwr.fullClock = false := fun hg => by
      rw [k2.same .power]
      change (if _ then _ else _ : State).pwr.fullClock = false
      rw [if_neg (Nat.not_lt.2 hg)]
      rfl
    refine ⟨_, hrun, (k3.rd_eq (by decide) ..).trans (s2.wr_phase (by decide)), (congrArg Pwr.raising hbare :), ?_, ?_,
      fun hg => (congrArg Pwr.fullClock hbare).trans (hclock hg)⟩
    · exact (k3.same .contexts).trans ((k2.same .contexts).trans (k1.same .contexts))
    · exact (k3.same .flash).2.1.trans ((k2.same .flash).2.1.trans (k1.same .flash).2.1)
  · simp only [List.mem_cons, List.not_mem_nil, or_false] at he
    have hdone : ∀ a : Nat, a < 4 → ∃ t, Host.Outcome.next (s.abandon a 1 0xFF) = (.next t : Host.Outcome State Fault Refusal) ∧ t.pphase = 5 ∧
        t.rd Reg.PWR_STATUS.ABORT_AT = a ∧ t.pwr.exitTo = s.pwr.origin ∧ t.pwr.retryAt = none ∧ t.pstate = s.pstate ∧
        t.rd Reg.PWR_CNT.ABANDONED = min (s.rd Reg.PWR_CNT.ABANDONED + 1) (2 ^ Reg.PWR_CNT.ABANDONED.w - 1) := fun a ha => by
      have h := s.abandon_abandoned a 1 0xFF
      exact ⟨_, rfl, h.phase, h.point.trans (Nat.mod_eq_of_lt ha), h.exit, h.again, h.state, h.count⟩
    obtain rfl | rfl | rfl := he
    · rw [show exec .prepareEnd s = .next (s.abandon 0 1 0xFF) from (if_pos (by simp [hserv, hp])).trans (if_pos hab)]
      exact hdone 0 (by decide)
    · rw [show exec .quiesceEnd s = .next (s.abandon 2 1 0xFF) from (if_pos (by simp [hserv, hp])).trans (if_pos hab)]
      exact hdone 2 (by decide)
    · rw [show exec .powerCommit s = .next (s.abandon 3 1 0xFF) from (if_pos (by simp [hserv, hp])).trans (if_pos hab)]
      exact hdone 3 (by decide)

/-! ### The rails (R540) -/

section
variable (s : State)

theorem State.railWrite_frame (r : Fin 3) (mv : Nat) : Frame [.power, .buses] [Reg.PWR_AVS.REQ_MV, Reg.PWR_AVS.BUSY] s (s.railWrite r mv) :=
  ((((Frame.refl ..).setPwr (by decide) _).then_wr (by decide) mv r.isLt (by decide)).then_wr (by decide) 1 r.isLt (by decide)).then_emit
    (by decide) _

theorem State.railWrite_busy (r mv : Nat) : (s.railWrite r mv).on Reg.PWR_AVS.BUSY r = true := by
  unfold State.railWrite State.on
  dsimp only
  rw [State.emit_rd_, State.rd_wr_same]
  rfl

/-- The holds of a power state move the states of domains alone. -/
theorem State.applyHolds_frame (st : Nat) : Frame [] [Reg.PWR_DOM_STATE.ALL] s (s.applyHolds st) := by
  refine Frame.foldl (fun u d hd => ?_) (.refl ..)
  have hd : d < 160 := List.mem_range.1 hd
  exact .ite (u.setDom_frame ⟨d, hd⟩ 3) (.ite (u.setDom_frame ⟨d, hd⟩ 0) (.refl ..))

/-- A power state reached is shown, and recorded as the latest event (R535, R536). -/
theorem State.reached_shows (st old : Nat) : (s.reached st old).pstate = st % 2 ^ Reg.PWR_STATUS.STATE.w ∧
    (s.reached st old).events.head?.map (fun e => (e.source, e.code)) = some (0x02, 0x0100) := by
  let s1 := (s.wr Reg.PWR_STATUS.STATE st).event 0x02 0x0100 (st + old * 8)
  have k : Keeps _ _ s1 (s.reached st old) := (s1.asyncAll_keeps 10 st).then (s1.asyncAll 10 st).sendLtr_keeps
  refine ⟨(k.rd_eq (by decide) ..).trans (State.rd_wr_same ..), ?_⟩
  rw [(k.same .log).1, State.event_head]
  rfl

/-- Every wake source cleared (R538). -/
def State.clearWakes : State := [Reg.PWR_WAKE.EI_EXIT, Reg.PWR_WAKE.CLKREQ, Reg.PWR_WAKE.PERST, Reg.PWR_WAKE.TLP_F0,
  Reg.PWR_WAKE.INTERNAL].foldl (fun s r => s.wr r 0) (s.wr Reg.PWR_WAKE.TLP_F1 0)

theorem State.clearWakes_keeps : Keeps [] [Reg.PWR_WAKE.TLP_F1, Reg.PWR_WAKE.EI_EXIT, Reg.PWR_WAKE.CLKREQ, Reg.PWR_WAKE.PERST,
    Reg.PWR_WAKE.TLP_F0, Reg.PWR_WAKE.INTERNAL] s s.clearWakes := .wr (.wr (.wr (.wr (.wr (.wr (.refl ..))))))

theorem State.clearWakes_clear : s.clearWakes.wakeSet = false := by
  simp (disch := decide) only [State.clearWakes, List.foldl, State.wakeSet, State.on, State.rd_wr_apart, State.rd_wr_same]
  rfl

/-- What a target that changes does leaves the clock. -/
theorem State.refreshTarget_fullClock : s.refreshTarget.pwr.fullClock = s.pwr.fullClock := by
  unfold State.refreshTarget
  extract_lets r0 r1 t s1
  have h1 : s1.pwr.fullClock = s.pwr.fullClock := rfl
  clear_value s1
  split
  · split
    · exact (congrArg Pwr.fullClock (s1.startExit_bare _)).trans h1
    · split
      · exact h1
      · exact h1
  · exact h1

end

/-- Settles O52: rail by rail, then the completion of an entry, its one sample of the wakes, and the end of an exit. -/
theorem powerRails : Obligations.PowerRails := by
  intro s
  refine ⟨fun r mv hup hbusy hok => ?_, fun r hup hbusy hlate => ⟨fun hw => ?_, fun hw hup' => ?_, fun hw hdown => ?_⟩,
    fun r hup hfail hbusy hwait => ?_, fun hserv hp hab hrails => ?_, fun hserv hsample hp => ⟨fun hwake => ?_, fun hwake => ?_⟩,
    fun hup hp hrails => ?_, fun n hn hserv hp hnow => ?_⟩
  · let s1 := (s.wr Reg.PWR_AVS.ACK_MV (s.rd Reg.PWR_AVS.REQ_MV r) r).wr Reg.PWR_AVS.BUSY 0 r
    let s2 := s1.setPwr { s1.pwr with raiseFailed := clearBit s1.pwr.raiseFailed r }
    let s3 := if r.val = 2 then (List.range 8).foldl (fun u n => if u.rd Reg.DRC_SC.TAG_MV n = s.rd Reg.PWR_AVS.REQ_MV r then u
      else u.marginTrigger n 2) s2 else s2
    have hrun : exec (.railAck r mv) s = .next s3.railsGo := if_pos (by simp [hup, hbusy, hok])
    have k1 : Keeps [.power] [Reg.PWR_AVS.ACK_MV, Reg.PWR_AVS.BUSY] s s2 := .setPwr (.wr (.wr (.refl ..)))
    have k3 : Keeps [.dram] [] s2 s3 := .ite (.foldl (.refl ..) fun u n => .ite (.refl ..) (u.marginTrigger_keeps n 2)) (.refl ..)
    have kgo := s3.railsGo_keeps
    refine ⟨_, hrun, ?_, ?_, ?_, ?_⟩
    · rw [kgo.rd_eq (by decide), k3.rd_eq (by decide)]
      change s1.rd Reg.PWR_AVS.ACK_MV r = _
      rw [State.rd_wr_apart _ _ _ _ _ _ _ _ (by decide), State.rd_wr_same]
      exact Nat.mod_eq_of_lt (s.rd_lt Reg.PWR_AVS.REQ_MV r 0)
    · have hraise : s3.railsGo.pwr.raiseFailed = s3.pwr.raiseFailed := (congrArg Pwr.raiseFailed s3.railsGo_bare :)
      rw [hraise, k3.same .power]
      exact testBit_clearBit_self ..
    · exact (kgo.same .contexts).trans ((k3.same .contexts).trans (k1.same .contexts))
    · exact (kgo.same .flash).2.1.trans ((k3.same .flash).2.1.trans (k1.same .flash).2.1)
  · have hrun : exec (.railTimeout r) s = .next (s.railWrite r (s.rd Reg.PWR_AVS.REQ_MV r)) :=
      (if_pos (by simp [hup, hbusy, hlate])).trans (if_pos hw)
    refine ⟨_, hrun, rfl, ?_, s.railWrite_frame r _⟩
    refine (Tbl.get_set_self ..).trans ?_
    rw [hbusy]
    rfl
  · let s2 := ((s.event 0x02 0x0102 (r + s.rd Reg.PWR_AVS.REQ_MV r * 4 + bit s.pwr.raising * 2 ^ 14)).wr Reg.PWR_AVS.FAULT 1 r).wr
      Reg.PWR_AVS.BUSY 0 r
    let s3 := s2.setPwr { s2.pwr with raiseFailed := setBit s2.pwr.raiseFailed r }
    have hrun : exec (.railTimeout r) s = .next s3.partFail :=
      (if_pos (by simp [hup, hbusy, hlate])).trans ((if_neg (Nat.not_lt.2 hw)).trans (if_pos hup'))
    have k := s3.partFail_keeps
    refine ⟨_, hrun, ?_, ?_, ?_⟩
    · rw [State.on, k.rd_eq (by decide)]
      change (s2.rd Reg.PWR_AVS.FAULT r != 0) = true
      rw [State.rd_wr_apart _ _ _ _ _ _ _ _ (by decide), State.rd_wr_same]
      rfl
    · rw [State.on, k.rd_eq (by decide)]
      change (s2.rd Reg.PWR_AVS.BUSY r != 0) = false
      rw [State.rd_wr_same]
      rfl
    · rw [k.same .power]
      exact testBit_setBit_self ..
  · let s2 := ((s.event 0x02 0x0102 (r + s.rd Reg.PWR_AVS.REQ_MV r * 4 + bit s.pwr.raising * 2 ^ 14)).wr Reg.PWR_AVS.FAULT 1 r).wr
      Reg.PWR_AVS.BUSY 0 r
    let s3 := s2.railWrite r (Tbl.get 0 s2.pwr.before r)
    have hrun : exec (.railTimeout r) s = .next (s3.abandon 3 3 0xFF) :=
      (if_pos (by simp [hup, hbusy, hlate])).trans ((if_neg (Nat.not_lt.2 hw)).trans (if_neg (by rw [hdown]; decide)))
    have k := (s2.railWrite_keeps r (Tbl.get 0 s2.pwr.before r)).then (s3.abandon_keeps 3 3 0xFF)
    have hab := s3.abandon_abandoned 3 3 0xFF
    refine ⟨_, hrun, ?_, hab.phase, hab.point⟩
    rw [State.on, k.rd_eq (by decide), State.rd_wr_apart _ _ _ _ _ _ _ _ (by decide), State.rd_wr_same]
    rfl
  · exact ⟨_, if_pos (by simp [hup, hfail, hbusy, hwait]), s.railWrite_busy r _, rfl, s.railWrite_frame r _⟩
  · let s1 := (s.wr Reg.PWR_STATUS.PHASE 0).applyHolds s.pwr.goal
    let s2 := (s1.bump Reg.PWR_CNT.ENTRIES).wr Reg.PWR_LAT.ENTRY (min 65535 (s.frame - s.pwr.startAt))
    let s3 := s2.setPwr { s2.pwr with sample := true }
    have hrun : exec .powerCommit s = .next (s3.reached s.pwr.goal s.pstate) :=
      (if_pos (by simp [hserv, hp])).trans ((if_neg (by rw [hab]; decide)).trans (if_pos hrails))
    have k1 := (s.wr Reg.PWR_STATUS.PHASE 0).applyHolds_keeps s.pwr.goal
    have k2 : Keeps [.power] [Reg.PWR_CNT.ENTRIES, Reg.PWR_LAT.ENTRY] s1 s3 := .setPwr (.wr (.bump (.refl ..)))
    have kr := s3.reached_keeps s.pwr.goal s.pstate
    obtain ⟨hstate, hevent⟩ := s3.reached_shows s.pwr.goal s.pstate
    have hholds : s1.rd Reg.PWR_CNT.ENTRIES = s.rd Reg.PWR_CNT.ENTRIES :=
      ((State.applyHolds_frame _ _).rd_valid (by decide) (by decide) 0).trans (State.rd_wr_apart _ _ _ _ _ _ _ _ (by decide))
    refine ⟨_, hrun, ?_, hstate, ?_, ?_, hevent⟩
    · exact (kr.rd_eq (by decide) ..).trans ((k2.rd_eq (by decide) ..).trans ((k1.rd_eq (by decide) ..).trans (s.wr_phase (by decide))))
    · exact congrArg Pwr.sample (kr.same .power :)
    · rw [kr.rd_eq (by decide), ← hholds]
      exact (State.rd_wr_apart _ _ _ _ _ _ _ _ (by decide)).trans (State.rd_bump_same ..)
  · exact ⟨_, (if_pos (by simp [hserv, hsample, hp])).trans (if_pos hwake), State.startExit_phase .., State.startExit_exitTo ..,
      congrArg Pwr.sample (State.startExit_bare _ _)⟩
  · exact ⟨_, (if_pos (by simp [hserv, hsample, hp])).trans (if_neg (fun h => by cases hwake.symm.trans h)), hp, rfl,
      (Frame.refl ..).setPwr (by decide) _⟩
  · let s1 := (s.wr Reg.PWR_STATUS.PHASE 0).setPwr { s.pwr with fullClock := true, sample := false, raising := false }
    let s2 := if s.on Reg.DRC_STATUS.SELF_REFRESH then s1.dramWake else s1
    let s4 := (s2.clearWakes.applyHolds s.pwr.exitTo).wr Reg.PWR_LAT.EXIT (min 65535 ((s.frame - s.pwr.wakeAt) * 10))
    let s5 := if s.pstate = s.pwr.exitTo then s4 else s4.reached s.pwr.exitTo s.pstate
    have hrun : exec .exitComplete s = .next s5.refreshTarget := by
      refine (if_pos (by simp [hup, hp, hrails])).trans ?_
      change (if s.pstate = s.pwr.exitTo then ok s4.refreshTarget else ok (s4.reached s.pwr.exitTo s.pstate).refreshTarget) = _
      split
      · next h => rw [show s5 = s4 from if_pos h]
      · next h => rw [show s5 = s4.reached s.pwr.exitTo s.pstate from if_neg h]
    have k1 : Keeps [.power] [Reg.PWR_STATUS.PHASE] s s1 := .setPwr (.wr (.refl ..))
    have k2 : Keeps [] [Reg.DRC_STATUS.SELF_REFRESH, Reg.DRC_SC.STATE, Reg.DRC_SC.TAG_TEMP, Reg.DRC_SC.TAG_MV] s1 s2 :=
      .ite s1.dramWake_keeps (.refl ..)
    have k3 := s2.clearWakes_keeps
    have k4 : Keeps [] [Reg.PWR_DOM_STATE.ALL, Reg.PWR_LAT.EXIT] s2.clearWakes s4 := .wr (.mono (State.applyHolds_keeps ..))
    have k5 : Keeps [.log, .endpoint, .rings, .vectors, .buses] [Reg.PWR_STATUS.STATE, Reg.HIF_ASYNC.PEND] s4 s5 :=
      .ite (.refl ..) (State.reached_keeps ..)
    have k6 := s5.refreshTarget_keeps
    have hstate : s5.pstate = s.pwr.exitTo % 2 ^ Reg.PWR_STATUS.STATE.w := by
      by_cases h : s.pstate = s.pwr.exitTo
      · have hlt : s.pstate < 2 ^ Reg.PWR_STATUS.STATE.w := s.rd_lt Reg.PWR_STATUS.STATE 0 0
        have kept : s4.pstate = s.pstate := (((k1.then k2).then k3).then k4).rd_eq (by decide) ..
        rw [show s5 = s4 from if_pos h, kept, ← h, Nat.mod_eq_of_lt hlt]
      · rw [show s5 = s4.reached s.pwr.exitTo s.pstate from if_neg h]
        exact (s4.reached_shows ..).1
    have hclock : s1.pwr.fullClock = true := rfl
    clear_value s5 s4 s2 s1
    have k := (((k1.then k2).then k3).then k4).then (k5.then k6)
    refine ⟨_, hrun, ?_, (k6.rd_eq (by decide) ..).trans hstate, ?_, k.same .contexts, (k.same .flash).2.1⟩
    · exact (State.wakeSet_of_keeps (k4.then (k5.then k6)) (by decide)).trans s2.clearWakes_clear
    · rw [s5.refreshTarget_fullClock, k5.same .power, k4.same .power, k3.same .power, k2.same .power, hclock]
  · by_cases hst : s.pstate < s.ptarget
    · have hrun : exec .entryRetry s = .next s.startEntry := by
        change execEntryRetry s = _
        unfold execEntryRetry
        rw [hn]
        exact (if_pos (by simp [hserv, hp, hnow])).trans (if_pos hst)
      exact ⟨_, hrun, rfl, fun _ => ⟨s.startEntry_phase, rfl⟩, fun h => absurd hst (Nat.not_lt.2 h)⟩
    · have hrun : exec .entryRetry s = .next (s.setPwr { s.pwr with retryAt := none }) := by
        change execEntryRetry s = _
        unfold execEntryRetry
        rw [hn]
        exact (if_pos (by simp [hserv, hp, hnow])).trans (if_neg hst)
      exact ⟨_, hrun, rfl, fun h => absurd h hst, fun _ => (Frame.refl ..).setPwr (by decide) _⟩

end Sys2Proof.Machine
end

section
/-! PROOFS. The peer group: what its messages leave alone, and session messages taken in order (R384; O46). -/

set_option Elab.async false

namespace Sys2Proof.Machine

/-! ### What sending leaves alone -/

/-- A member without the counts of its session and the marks of what was sent to it. -/
def Peer.bare (p : Peer) : Peer := { p with sendSeq := 1, recvSeq := 1, unacked := 0, ackAt := 0, pos := 0x1000, synced := false }

/-- The group without its members, its stripes and the work on them. -/
def Group.bare (g : Group) : Group :=
  { g with peers := [], stripes := [], waiting := [], sent := [], aggs := [], stage := [], nextPlan := 1, ckptAt := 0 }

/-- Work of the group that sends, records and changes stripes: what was recorded before stands, and so do the members and the group's
own part. -/
structure Sends (s t : State) : Prop where
  journal : s.ftl.journal.collecting <+: t.ftl.journal.collecting
  peers : ∀ j, (t.peer j).bare = (s.peer j).bare
  group : t.group.bare = s.group.bare

section
variable {s t u : State}

theorem Sends.refl (s : State) : Sends s s := ⟨List.prefix_rfl, fun _ => rfl, rfl⟩

theorem Sends.trans (h : Sends s t) (k : Sends t u) : Sends s u :=
  ⟨h.journal.trans k.journal, fun j => (k.peers j).trans (h.peers j), k.group.trans h.group⟩

theorem Sends.ite {c : Prop} [Decidable c] (h : Sends s t) (k : Sends s u) : Sends s (if c then t else u) := by
  split
  · exact h
  · exact k

theorem Sends.foldl {α : Type} {g : State → α → State} (hg : ∀ u a, Sends u (g u a)) (l : List α) (k : Sends s t) : Sends s (l.foldl g t) := by
  induction l generalizing t with
  | nil => exact k
  | cons a l ih => exact ih (k.trans (hg t a))

/-- Work that reaches neither the group nor the journal. -/
theorem Sends.of_keeps {ps : List Part} {rs : List Fld} (k : Keeps ps rs s t) (h : Part.group ∉ ps ∧ Part.ftl ∉ ps := by decide) : Sends s t := by
  obtain ⟨hg, hf⟩ := h
  have group : t.group = s.group := k.same .group hg
  have ftl : t.ftl = s.ftl := k.same .ftl hf
  exact ⟨ftl ▸ List.prefix_rfl, fun j => by rw [State.peer, group, State.peer], by rw [group]⟩

end

section
variable {s t : State}

theorem Sends.emit (k : Sends s t) (e : Out) : Sends s (t.emit e) := k.trans ⟨List.prefix_rfl, fun _ => rfl, rfl⟩

theorem Sends.record (k : Sends s t) (r : Rec) : Sends s (t.record r) :=
  k.trans ⟨List.prefix_append .., fun _ => rfl, rfl⟩

/-- A member changed in what its session counts alone. -/
theorem Sends.setPeer (k : Sends s t) {j : Nat} {p : Peer} (h : p.bare = (t.peer j).bare) : Sends s (t.setPeer j p) := by
  refine k.trans ⟨List.prefix_rfl, fun i => ?_, rfl⟩
  rw [State.peer_setPeer]
  split
  · next hi => rw [h, hi]
  · rfl

/-- The group changed in its stripes and the work on them alone. -/
theorem Sends.setGroup (k : Sends s t) {g : Group} (hp : g.peers = t.group.peers) (h : g.bare = t.group.bare) : Sends s (t.setGroup g) :=
  k.trans ⟨List.prefix_rfl, fun j => by rw [State.peer, State.setGroup, hp, State.peer], h⟩

theorem Sends.sendMsg (k : Sends s t) (j kind : Nat) (l : List Nat) : Sends s (t.sendMsg j kind l) := by
  unfold State.sendMsg
  split
  · refine Sends.emit (Sends.setPeer k ?_) _
    rfl
  · exact k

end

section
variable (s : State)

/-- A message to a member whose session is Linked is on the bus. -/
theorem State.sendMsg_out {j : Nat} (h : s.linked j = true) (kind : Nat) (l : List Nat) : (s.sendMsg j kind l).out =
    .peer j kind ([(s.peer j).sendSeq, s.viewNo, (s.peer j).recvSeq - 1, s.rd Reg.GLI_PEER.EPOCH j] ++ l) :: s.out := by
  rw [State.sendMsg, if_pos h]
  rfl

theorem State.sendMsg_recvSeq (j kind : Nat) (l : List Nat) (i : Nat) : ((s.sendMsg j kind l).peer i).recvSeq = (s.peer i).recvSeq := by
  unfold State.sendMsg
  split
  · rw [show ∀ (u : State) (e : Out), (u.emit e).peer i = u.peer i from fun _ _ => rfl, State.peer_setPeer]
    split
    · next h => rw [h]
    · rfl
  · rfl

end

/-! ### Sessions (R383, R384) -/

section
variable {ps : List Part} {rs : List Fld} {s t : State}

theorem Frame.setSession (k : Frame ps rs s t) (hr : sessionRegs ⊆ rs) {j : Nat} (hj : j < 24) (v : Nat) : Frame ps rs s (t.setSession j v) :=
  (k.then_wr (hr (by decide)) _ hj (by decide)).then_wr (hr (by decide)) _ (by decide) (by decide)

end

section
variable (s : State)

/-- A write of an array field leaves the instances of a field away from it. -/
theorem State.rd_wr_away {q r : Fld} (h : q.away r = true) {i j : Nat} (hi : i < r.count) (hj : j < q.count) (v f g : Nat) :
    (s.wr r v i f).rd q j g = s.rd q j g := State.rd_wr_other _ _ _ _ _ _ _ _ (Fld.key_away h hj hi _ _)

theorem State.setSession_session {j v : Nat} (hj : j < 24) (hv : v < 4) : (s.setSession j v).session j = v :=
  (State.rd_wr_away _ (by decide) (by decide) hj ..).trans ((State.rd_wr_same ..).trans (Nat.mod_eq_of_lt hv))

/-- A session dropped (R384): Unknown, without its key, and recorded with its cause. -/
theorem State.dropSession_drops (j : Fin 24) (cause : Nat) : (s.dropSession j cause).session j = 0 ∧ ((s.dropSession j cause).peer j).key = none ∧
    (s.dropSession j cause).events.head?.map (fun e => (e.source, e.code, e.detail)) = some (0x30, 0x0104, j.val + cause * 32) ∧
    Frame [.group, .log] sessionRegs s (s.dropSession j cause) := by
  refine ⟨s.setSession_session j.isLt (by decide), ?_, ?_, ?_⟩
  · exact congrArg Peer.key ((State.peer_setPeer ..).trans (if_pos rfl))
  · rw [State.dropSession, State.event_head]
    rfl
  · exact (((Frame.refl ..).setSession (List.Subset.refl _) j.isLt 0).setPeer (by decide) _ _).then_event (by decide) ..

/-! ### Taking a message (R384) -/

variable {s} {j : Fin 24} {h : Hdr} {u : State}

theorem State.take_none (hoff : (s.groupUp && (s.peer j).listed && s.linked j) = false) : s.take j h = none := if_pos (by rw [hoff]; rfl)

/-- The header of a message from a member whose session is Linked is checked. -/
theorem State.take_linked (hup : s.groupUp = true) (hl : (s.peer j).listed = true) (hk : s.linked j = true) :
    ¬ (!(s.groupUp && (s.peer j).listed && s.linked j)) = true := by simp [hup, hl, hk]

theorem State.take_forged (hup : s.groupUp = true) (hl : (s.peer j).listed = true) (hk : s.linked j = true)
    (hbad : h.tagOk = false ∨ h.epoch ≠ s.rd Reg.GLI_PEER.EPOCH j) : s.take j h = some (s.dropSession j 2) :=
  (if_neg (State.take_linked hup hl hk)).trans (if_pos (by simpa using hbad))

theorem State.take_missed (hup : s.groupUp = true) (hl : (s.peer j).listed = true) (hk : s.linked j = true) (htag : h.tagOk = true)
    (hep : h.epoch = s.rd Reg.GLI_PEER.EPOCH j) (hseq : h.seq ≠ (s.peer j).recvSeq) : s.take j h = some (s.dropSession j 1) :=
  (if_neg (State.take_linked hup hl hk)).trans ((if_neg (by simp [htag, hep])).trans (if_pos (by simpa using hseq)))

/-- What taking a message in order leaves: the next number expected, and all but the session's counts and what it may send. -/
structure Taken (s u : State) (j : Nat) : Prop where
  recv : (u.peer j).recvSeq = (s.peer j).recvSeq + 1
  keeps : Keeps [.group, .buses] [] s u
  sends : Sends s u
  group : u.group = { s.group with peers := u.group.peers }

theorem State.sendMsg_group (s : State) (j kind : Nat) (l : List Nat) :
    (s.sendMsg j kind l).group = { s.group with peers := (s.sendMsg j kind l).group.peers } := by
  unfold State.sendMsg
  split <;> rfl

/-- The message taken in order. -/
theorem State.take_next (hup : s.groupUp = true) (hl : (s.peer j).listed = true) (hk : s.linked j = true) (htag : h.tagOk = true)
    (hep : h.epoch = s.rd Reg.GLI_PEER.EPOCH j) (hseq : h.seq = (s.peer j).recvSeq) : ∃ u, s.take j h = some u ∧ Taken s u j := by
  let p := s.peer j
  let s1 := s.setPeer j { p with
    recvSeq := p.recvSeq + 1
    unacked := p.unacked + h.size
    pos := if p.pos + h.size ≤ 0x7000 then p.pos + h.size else 0x1000 }
  have h1 : Taken s s1 j := ⟨congrArg Peer.recvSeq ((State.peer_setPeer ..).trans (if_pos rfl)), .setPeer (.refl ..),
    (Sends.refl s).setPeer rfl, rfl⟩
  have h2 : ∀ kind l, Taken s (s1.sendMsg j kind l) j := fun kind l =>
    ⟨(s1.sendMsg_recvSeq j kind l j).trans h1.recv, h1.keeps.trans (s1.sendMsg_keeps j kind l), h1.sends.sendMsg j kind l,
      s1.sendMsg_group j kind l⟩
  rw [State.take, if_neg (State.take_linked hup hl hk), if_neg (by simp [htag, hep]), if_neg (by simp [hseq])]
  dsimp only
  split
  · exact ⟨_, rfl, h2 ..⟩
  · exact ⟨_, rfl, h1⟩

end

/-! ### The rows of the session messages -/

/-- A message that is not for the device, or not from a session, is not noticed. -/
theorem exec_unnoticed {s : State} {c : Instr} {j : Fin 24} {h : Hdr} (hc : carried c = some (j, h)) (e : s.take j h = none) :
    exec c s = .next s := by
  unfold carried at hc
  split at hc
  case h_20 => cases hc
  all_goals
    cases hc
    dsimp only [exec]
    simp only [execPadMessage, execHeartbeat, execViewPropose, execViewAck, execViewCommit, execLeaveRequest, execStripeOpen, execContrib,
      execContribAck, execRangeNote, execSegClose, execStripeState, execRebuildPlan, execChunkDone, execCheckpoint, execLedgerSync, execOuterRead,
      execPatrolRequest, execPatrolReply, e]

/-- A message that drops its session does no more. -/
theorem exec_dropped {s u : State} {c : Instr} {j : Fin 24} {h : Hdr} (hc : carried c = some (j, h)) (e : s.take j h = some u)
    (hu : tookOk u j = false) : exec c s = .next u := by
  have none_found : ∀ l : List Sent, l.find? (fun _ => false) = none := fun l => List.find?_eq_none.2 fun _ _ => by decide
  unfold carried at hc
  split at hc
  case h_20 => cases hc
  all_goals
    cases hc
    dsimp only [exec]
    simp only [execPadMessage, execHeartbeat, execViewPropose, execViewAck, execViewCommit, execLeaveRequest, execStripeOpen, execContrib,
      execContribAck, execRangeNote, execSegClose, execStripeState, execRebuildPlan, execChunkDone, execCheckpoint, execLedgerSync, execOuterRead,
      execPatrolRequest, execPatrolReply, e, hu, Bool.false_and, Bool.false_eq_true, if_false, Bool.not_false, if_true, none_found, ok,
      Bool.true_or]
  case h_4.refl | h_11.refl | h_12.refl | h_14.refl | h_17.refl => split <;> rfl

/-- Settles O46: the header's checks in turn; what is not taken in order ends the session or is not noticed, whatever the message. -/
theorem sessionMessages : Obligations.SessionMessages := by
  intro s c j h hc
  refine ⟨fun hoff => exec_unnoticed hc (State.take_none hoff), fun hup hl hk => ?_⟩
  have drops : ∀ cause, s.take j h = some (s.dropSession j cause) → exec c s = .next (s.dropSession j cause) := fun cause e =>
    exec_dropped hc e (beq_eq_false_iff_ne.2 fun h2 => nomatch (s.dropSession_drops j cause).1.symm.trans h2)
  refine ⟨fun hbad => ⟨_, drops 2 (State.take_forged hup hl hk hbad), s.dropSession_drops j 2⟩, fun htag hep hseq =>
    ⟨_, drops 1 (State.take_missed hup hl hk htag hep hseq), s.dropSession_drops j 1⟩, fun htag hep hseq => ?_⟩
  obtain ⟨u, e, hu⟩ := State.take_next hup hl hk htag hep hseq
  have htook : tookOk u j = true := (congrArg (· == 2) (hu.keeps.rd_eq (by decide) ..)).trans hk
  have hframe : Frame [.group, .buses] [] s u := hu.keeps.frame (by decide)
  refine ⟨⟨u.setPeer j { u.peer j with pos := 0x1000 }, ?_, ?_, ?_, hframe.setPeer (by decide) _ _⟩, u, ⟨e, htook⟩, hu.recv, hframe⟩
  · change execPadMessage j h s = _
    unfold execPadMessage
    simp only [e, htook, if_true, ok]
  · exact congrArg Peer.pos ((State.peer_setPeer ..).trans (if_pos rfl))
  · exact (congrArg Peer.recvSeq ((State.peer_setPeer ..).trans (if_pos rfl))).trans hu.recv

end Sys2Proof.Machine
end

section
/-! PROOFS. The peer group: beacons and the handshake of a session (R381, R383, R392; O47). -/

set_option Elab.async false

namespace Sys2Proof.Machine

/-! ### Beacons sent (R381) -/

section
variable (s : State)

theorem State.setPeer_group (j : Nat) (p : Peer) : (s.setPeer j p).group = { s.group with peers := (s.setPeer j p).group.peers } := rfl

theorem State.sendPlain_out (j kind : Nat) (l : List Nat) : (s.sendPlain j kind l).out = .peer j kind (l ++ [s.sec.groupCtr]) :: s.out := rfl

theorem State.sendPlain_groupCtr (j kind : Nat) (l : List Nat) : (s.sendPlain j kind l).sec.groupCtr = s.sec.groupCtr + 1 := rfl

theorem State.sendPlain_group (j kind : Nat) (l : List Nat) : (s.sendPlain j kind l).group = s.group := rfl

theorem State.sendPlain_peer (j kind : Nat) (l : List Nat) (i : Nat) : (s.sendPlain j kind l).peer i = s.peer i := by
  rw [State.peer, State.sendPlain_group, State.peer]

/-- What a beacon says before its counter. -/
def State.beaconWords (s : State) (o : Peer) : List Nat :=
  [s.rd Reg.GLI_STATUS.GROUP, s.own, bit (s.gstate == 2) + 2 * bit s.leads, s.group.incarnation, o.base, o.reqId, o.log2, s.viewNo]

/-- One beacon sent. -/
def State.beaconTo (s : State) (o : Peer) (j : Nat) : State :=
  (s.setPeer j { s.peer j with beaconAt := s.frame }).sendPlain j 0x100 (s.beaconWords o)

theorem State.beaconTo_keeps (o : Peer) (j : Nat) : Keeps [.group, .keys, .buses] [] s (s.beaconTo o j) :=
  .andThen (.setPeer (.refl ..)) (State.sendPlain_keeps ..)

theorem State.beaconTo_words (o : Peer) (j : Nat) : (s.beaconTo o j).beaconWords o = s.beaconWords o := by
  have k := s.beaconTo_keeps o j
  have hrd : ∀ r i f, (s.beaconTo o j).rd r i f = s.rd r i f := fun _ _ _ => k.rd_eq (by simp) ..
  have hframe : (s.beaconTo o j).frame = s.frame := k.same .frame
  have hgroup := (State.sendPlain_group _ j 0x100 (s.beaconWords o)).trans (s.setPeer_group j { s.peer j with beaconAt := s.frame })
  have hlease : (s.beaconTo o j).group.lease = s.group.lease := (congrArg Group.lease hgroup :)
  have hinc : (s.beaconTo o j).group.incarnation = s.group.incarnation := (congrArg Group.incarnation hgroup :)
  simp only [State.beaconWords, State.own, State.gstate, State.leads, State.viewNo, State.on, hrd, hframe, hlease, hinc]

/-- Beacons sent to a list of members: each is on the bus with a counter of its own. -/
theorem State.beacons_sent (o : Peer) (l : List Nat) (s : State) :
    s.sec.groupCtr ≤ (l.foldl (fun s j => s.beaconTo o j) s).sec.groupCtr ∧ s.out <:+ (l.foldl (fun s j => s.beaconTo o j) s).out ∧
    (∀ i, i ∈ l ∨ (s.peer i).beaconAt = s.frame → ((l.foldl (fun s j => s.beaconTo o j) s).peer i).beaconAt = s.frame) ∧
    ∀ i ∈ l, ∃ ctr, s.sec.groupCtr ≤ ctr ∧ ctr < (l.foldl (fun s j => s.beaconTo o j) s).sec.groupCtr ∧
      .peer i 0x100 (s.beaconWords o ++ [ctr]) ∈ (l.foldl (fun s j => s.beaconTo o j) s).out := by
  induction l generalizing s with
  | nil => exact ⟨le_rfl, List.suffix_rfl, fun i hi => hi.resolve_left (List.not_mem_nil), fun i hi => nomatch hi⟩
  | cons j l ih =>
    obtain ⟨hctr, hout, hat, hmsg⟩ := ih (s.beaconTo o j)
    have hwords : (s.beaconTo o j).beaconWords o = s.beaconWords o := s.beaconTo_words o j
    have hsent : (s.beaconTo o j).out = .peer j 0x100 (s.beaconWords o ++ [s.sec.groupCtr]) :: s.out := State.sendPlain_out ..
    have hnext : (s.beaconTo o j).sec.groupCtr = s.sec.groupCtr + 1 := State.sendPlain_groupCtr ..
    have hpeer : ∀ i, (s.beaconTo o j).peer i = if i = j then { s.peer j with beaconAt := s.frame } else s.peer i :=
      fun i => (State.sendPlain_peer ..).trans (State.peer_setPeer ..)
    rw [hnext] at hctr hmsg
    rw [hsent] at hout
    rw [hwords] at hmsg
    rw [show (s.beaconTo o j).frame = s.frame from (s.beaconTo_keeps o j).same .frame] at hat
    simp only [List.foldl_cons]
    refine ⟨Nat.le_of_succ_le hctr, (List.suffix_cons _ _).trans hout, fun i hi => hat i ?_, fun i hi => ?_⟩
    · rw [hpeer]
      by_cases hij : i = j
      · exact .inr (by rw [if_pos hij])
      · rw [if_neg hij]
        exact hi.imp (fun h => (List.mem_cons.1 h).resolve_left hij) id
    · obtain rfl | hi := List.mem_cons.1 hi
      · exact ⟨_, le_rfl, hctr, hout.subset (.head _)⟩
      · obtain ⟨ctr, h1, h2, h3⟩ := hmsg i hi
        exact ⟨ctr, Nat.le_of_succ_le h1, h2, h3⟩

end

/-! ### Greetings and failures (R383) -/

section
variable (s : State)

theorem Frame.sendPlain {ps : List Part} {rs : List Fld} {t : State} (k : Frame ps rs s t) (hp : [Part.keys, .buses] ⊆ ps) (j kind : Nat)
    (l : List Nat) : Frame ps rs s (t.sendPlain j kind l) :=
  k.trans (((t.sendPlain_keeps j kind l).frame (by decide)).mono hp (by simp))

/-- The initiator's greeting: Greeting from now, with HELLO on the bus. -/
theorem State.greet_greets (j : Fin 24) : (s.greet j).session j = 1 ∧ ((s.greet j).peer j).greetAt = s.frame ∧
    (s.greet j).out = .peer j 0x02 [((s.greet j).peer j).mine, s.group.incarnation, s.sec.groupCtr] :: s.out ∧
    Frame [.group, .freeValues, .keys, .buses] sessionRegs s (s.greet j) := by
  have hpeer : (s.greet j).peer j = { s.peer j with mine := (Config.drbg s.free).toNat % 2 ^ 128, greetAt := s.frame } :=
    (State.sendPlain_peer ..).trans ((State.peer_setPeer ..).trans (if_pos rfl))
  refine ⟨?_, congrArg Peer.greetAt hpeer, ?_, ?_⟩
  · exact State.setSession_session s.freeNext j.isLt (by decide)
  · rw [hpeer]
    rfl
  · exact ((((Frame.refl ..).freeNext (by decide)).setSession (List.Subset.refl _) j.isLt 1).setPeer (by decide) _ _).sendPlain _ (by decide) ..

/-- A failed handshake: Unknown again, to be retried in 1,000 frames, counted and recorded. -/
theorem State.greetFail_fails (j : Fin 24) : (s.greetFail j).session j = 0 ∧ ((s.greetFail j).peer j).retryAt = s.frame + 1000 ∧
    (s.greetFail j).rd Reg.GLI_CNT.AUTH_FAIL = min (s.rd Reg.GLI_CNT.AUTH_FAIL + 1) (2 ^ Reg.GLI_CNT.AUTH_FAIL.w - 1) ∧
    (s.greetFail j).events.head?.map (fun e => (e.source, e.code, e.detail)) = some (0x30, 0x0102, j.val) ∧
    Frame [.group, .log] (sessionRegs ++ [Reg.GLI_CNT.AUTH_FAIL]) s (s.greetFail j) := by
  let s1 := (s.setSession j 0).setPeer j { s.peer j with retryAt := s.frame + 1000 }
  have hkept : s1.rd Reg.GLI_CNT.AUTH_FAIL = s.rd Reg.GLI_CNT.AUTH_FAIL := (s.setSession_keeps j 0).rd_eq (by decide) ..
  refine ⟨?_, ?_, ?_, ?_, ?_⟩
  · exact (State.rd_bump_apart s1 _ _ _ _ _ _ _ (by decide)).trans (s.setSession_session j.isLt (by decide))
  · exact congrArg Peer.retryAt ((State.peer_setPeer ..).trans (if_pos rfl))
  · rw [← hkept]
    exact State.rd_bump_same ..
  · rw [State.greetFail, State.event_head]
    rfl
  · exact ((((Frame.refl ..).setSession (by decide) j.isLt 0).setPeer (by decide) _ _).then_bump (by decide) 1 (by decide) (by decide)).then_event
      (by decide) ..

end

/-! ### Both sides Linked (R383, R392) -/

section
variable (s : State)

theorem Frame.rejoin {ps : List Part} {rs : List Fld} {t : State} (k : Frame ps rs s t) (hp : asyncParts ⊆ ps)
    (hr : [Reg.GLI_STATUS.STATE, Reg.HIF_ASYNC.PEND] ⊆ rs) : Frame ps rs s t.rejoin :=
  .ite ((k.then_wr (hr (by decide)) _ (by decide) (by decide)).asyncAll hp (hr (by decide)) _ _) k

/-- The fields a handshake that ends well reaches. -/
def linkRegs : List Fld := sessionRegs ++ [Reg.GLI_PEER.EPOCH, Reg.GLI_PEER.INCARNATION, Reg.GLI_PEER.MISSED, Reg.GLI_STATUS.STATE,
  Reg.HIF_ASYNC.PEND]

/-- A member whose session starts under a key. -/
def Peer.started (p : Peer) (key : BitVec 256) (now : Nat) : Peer :=
  { p with key := some key, heardAt := now, sendSeq := 1, recvSeq := 1, unacked := 0, pos := 0x1000, echoed := 0, synced := false }

/-- A session Linked: shown in GLI_LINKED, under the next EPOCH and with its sequences started again. -/
structure Links (s t : State) (j : Nat) : Prop where
  session : t.session j = 2
  shown : (t.rd Reg.GLI_LINKED.MASK).testBit j = true
  epoch : t.rd Reg.GLI_PEER.EPOCH j = (s.rd Reg.GLI_PEER.EPOCH j + 1) % 2 ^ Reg.GLI_PEER.EPOCH.w
  send : (t.peer j).sendSeq = 1
  recv : (t.peer j).recvSeq = 1
  pos : (t.peer j).pos = 0x1000
  heard : (t.peer j).heardAt = s.frame
  key : (t.peer j).key ≠ none
  out : s.out <:+ t.out
  frame : Frame ([.group, .keys, .log] ++ asyncParts) linkRegs s t

theorem State.link_links (j : Fin 24) (na nb incarnation : Nat) : Links s (s.link j na nb incarnation) j := by
  unfold State.link
  extract_lets lo hi key p s1
  let s2 := s1.wr Reg.GLI_PEER.MISSED 0 j
  have hset : s.rd Reg.GLI_PEER.EPOCH j = (s.setSession j 2).rd Reg.GLI_PEER.EPOCH j := ((s.setSession_keeps j 2).rd_eq (by decide) ..).symm
  have k2 : Keeps [] [Reg.GLI_PEER.EPOCH, Reg.GLI_PEER.INCARNATION, Reg.GLI_PEER.MISSED] (s.setSession j 2) s2 := .wr (.wr (.wr (.refl ..)))
  have hep : s2.rd Reg.GLI_PEER.EPOCH j = (s.rd Reg.GLI_PEER.EPOCH j + 1) % 2 ^ Reg.GLI_PEER.EPOCH.w :=
    (State.rd_wr_apart _ _ _ _ _ _ _ _ (by decide)).trans ((State.rd_wr_apart _ _ _ _ _ _ _ _ (by decide)).trans (State.rd_wr_same ..))
  have hsess : s2.session j = 2 := (k2.rd_eq (by decide) ..).trans (s.setSession_session j.isLt (by decide))
  have hmask : (s2.rd Reg.GLI_LINKED.MASK).testBit j = true := by
    have hkept : s2.rd Reg.GLI_LINKED.MASK = (s.setSession j 2).rd Reg.GLI_LINKED.MASK := k2.rd_eq (by decide) ..
    rw [hkept]
    refine (congrArg (Nat.testBit · j) (State.rd_wr_same ..)).trans ?_
    rw [Nat.testBit_mod_two_pow, if_pos rfl, testBit_setBit_self, decide_eq_true (show j.val < Reg.GLI_LINKED.MASK.w from j.isLt)]
    rfl
  have f2 : Frame ([.group, .keys, .log] ++ asyncParts) linkRegs s s2 :=
    ((((Frame.refl ..).setSession (by decide) j.isLt 2).then_wr (by decide) _ j.isLt (by decide)).then_wr (by decide) _ j.isLt (by decide)).then_wr
      (by decide) _ j.isLt (by decide)
  have hout : s2.out = s.out := rfl
  let q := p.started key s.frame
  change Links s (s2.setPeer j q).rejoin j
  clear_value s2
  have kept := (s2.setPeer j q).rejoin_keeps
  have hpeer : (s2.setPeer j q).rejoin.peer j = q := by
    rw [State.peer, kept.same .group]
    exact (State.peer_setPeer ..).trans (if_pos rfl)
  exact {
    session := (kept.rd_eq (by decide) ..).trans hsess
    shown := (congrArg (Nat.testBit · j) (kept.rd_eq (by decide) ..)).trans hmask
    epoch := (kept.rd_eq (by decide) ..).trans hep
    send := congrArg Peer.sendSeq hpeer
    recv := congrArg Peer.recvSeq hpeer
    pos := congrArg Peer.pos hpeer
    heard := congrArg Peer.heardAt hpeer
    key := fun h => Option.some_ne_none _ ((congrArg Peer.key hpeer).symm.trans h)
    out := hout ▸ kept.steady.out
    frame := (f2.setPeer (by decide) _ _).rejoin _ (by decide) (by decide) }

end

/-! ### Beacons received (R381, R383) -/

/-- The fields that programming windows reaches. -/
def windowRegs : List Fld := [Reg.WIN_EPOCH.EPOCH, Reg.WIN_EPOCH.BUSY, Reg.WIN_ENT_BASE.BASE, Reg.WIN_ENT_LIMIT.LIMIT, Reg.WIN_ENT_CTRL.RD_EN,
  Reg.WIN_ENT_CTRL.WR_EN, Reg.WIN_ENT_CTRL.RID, Reg.WIN_ENT_CTRL.RID_CHK, Reg.WIN_ENT_CTRL.TARGET, Reg.WIN_ENT_CTRL.PENDING]

/-- The fields an accepted beacon reaches. -/
def beaconRegs : List Fld := sessionRegs ++ [Reg.GLI_PEER.INCARNATION, Reg.GLI_PEER.REQ_ID] ++ windowRegs

/-- The parts an accepted beacon reaches. -/
def beaconParts : List Part := [.group, .windows, .buses, .log, .freeValues, .keys]

section
variable {ps : List Part} {rs : List Fld} {s t : State}

theorem Frame.stage (k : Frame ps rs s t) (hr : windowRegs ⊆ rs) {n : Nat} (hn : n < 256) (w : Win) : Frame ps rs s (t.stage n w) := by
  refine Frame.trans k (Frame.mono (List.nil_subset ps) hr ?_)
  exact ((((((((Frame.refl ..).then_wr (by decide) _ hn (by decide)).then_wr (by decide) _ hn (by decide)).then_wr (by decide) _ hn
    (by decide)).then_wr (by decide) _ hn (by decide)).then_wr (by decide) _ hn (by decide)).then_wr (by decide) _ hn (by decide)).then_wr
    (by decide) _ hn (by decide)).then_wr (by decide) _ hn (by decide)

theorem Frame.stagePeer (k : Frame ps rs s t) (hr : windowRegs ⊆ rs) {j : Nat} (hj : j < 24) : Frame ps rs s (t.stagePeer j) :=
  .ite ((k.stage hr (by omega) _).stage hr (by omega) _) (k.stage hr (by omega) _)

theorem Frame.winDevice (k : Frame ps rs s t) (hp : [Part.windows, .log] ⊆ ps) (hr : windowRegs ⊆ rs) : Frame ps rs s t.winDevice := by
  unfold State.winDevice
  rw [State.winCommit_eq]
  by_cases hb : t.on Reg.WIN_EPOCH.BUSY = true
  · rw [if_pos hb]
    exact k.then_event (hp (by decide)) ..
  · rw [if_neg hb]
    cases (t.winPending none).find? (fun n => !t.winOk n (t.staged n)) with
    | some n => exact k.then_event (hp (by decide)) ..
    | none =>
      obtain ⟨-, -, -, -, -, hf⟩ := t.committed_commits none
      exact k.trans ((hf.mono (qs := ps) (us := windowRegs) (fun p h => hp (List.mem_singleton.1 h ▸ .head _)) (by decide)).mono
        (List.Subset.refl _) hr)

end

section
variable {s t : State}

/-- What an accepted beacon leaves of its sender. -/
structure Heard (s t : State) (j : Nat) (b : Beacon) : Prop where
  seenInc : (t.peer j).seenInc = b.incarnation
  seenCtr : (t.peer j).seenCtr = b.ctr + 1
  base : (t.peer j).base = b.base
  reqId : (t.peer j).reqId = b.reqId
  log2 : (t.peer j).log2 = b.log2
  incarnation : t.rd Reg.GLI_PEER.INCARNATION j = b.incarnation % 2 ^ Reg.GLI_PEER.INCARNATION.w
  frame : Frame beaconParts beaconRegs s t

/-- A greeting keeps what the beacon left. -/
theorem Heard.greet {j : Fin 24} {b : Beacon} (h : Heard s t j b) : Heard s (t.greet j) j b := by
  have hpeer : (t.greet j).peer j = { t.peer j with mine := (Config.drbg t.free).toNat % 2 ^ 128, greetAt := t.frame } :=
    (State.sendPlain_peer ..).trans ((State.peer_setPeer ..).trans (if_pos rfl))
  exact {
    seenInc := (congrArg Peer.seenInc hpeer :).trans h.seenInc
    seenCtr := (congrArg Peer.seenCtr hpeer :).trans h.seenCtr
    base := (congrArg Peer.base hpeer :).trans h.base
    reqId := (congrArg Peer.reqId hpeer :).trans h.reqId
    log2 := (congrArg Peer.log2 hpeer :).trans h.log2
    incarnation := ((t.greet_keeps j).rd_eq (by decide) ..).trans h.incarnation
    frame := h.frame.trans ((t.greet_greets j).2.2.2.mono (by decide) (by decide)) }

end

section
variable (s : State) (j : Fin 24) (b : Beacon)

/-- The sender as the beacon names it. -/
def Peer.told (p : Peer) (b : Beacon) : Peer := { p with seenInc := b.incarnation, seenCtr := b.ctr + 1 }

/-- The sender at the address the beacon gives. -/
def Peer.moved (p : Peer) (b : Beacon) : Peer := { p.told b with base := b.base, reqId := b.reqId, log2 := b.log2, key := none }

/-- The beacon gives another address than the one held. -/
def Peer.moves (p : Peer) (b : Beacon) : Bool := p.base != b.base || p.reqId != b.reqId || p.log2 != b.log2

/-- The beacon is taken down. -/
def State.told (s : State) (j : Fin 24) (b : Beacon) : State :=
  (s.setPeer j ((s.peer j).told b)).wr Reg.GLI_PEER.INCARNATION b.incarnation j

/-- The sender's address is moved: its windows are programmed anew and its session ends. -/
def State.readdress (s : State) (j : Fin 24) (b : Beacon) : State :=
  (((((((s.told j b).setPeer j ((s.peer j).moved b)).wr Reg.GLI_PEER.REQ_ID b.reqId j).stagePeer j).winDevice).setSession j 0).event 0x30 0x0106 j)

/-- The beacon and what it moves or wakes. -/
def State.hearing (s : State) (j : Fin 24) (b : Beacon) : State :=
  if (s.peer j).moves b then s.readdress j b else if (s.told j b).session j = 3 then (s.told j b).setSession j 0 else s.told j b

theorem execBeaconReceived_eq (hup : s.groupUp = true) (hok : s.beaconOk j b = true) : exec (.beaconReceived j b) s =
    if (s.hearing j b).session j = 0 && (s.hearing j b).initiates j && decide (((s.hearing j b).peer j).retryAt ≤ (s.hearing j b).frame) then
      .next ((s.hearing j b).greet j) else .next (s.hearing j b) := if_pos (by simp [hup, hok])

theorem State.told_frame : Frame beaconParts beaconRegs s (s.told j b) :=
  ((Frame.refl ..).setPeer (by decide) _ _).then_wr (by decide) _ j.isLt (by decide)

theorem State.told_incarnation : (s.told j b).rd Reg.GLI_PEER.INCARNATION j = b.incarnation % 2 ^ Reg.GLI_PEER.INCARNATION.w := State.rd_wr_same ..

theorem State.told_peer : (s.told j b).peer j = (s.peer j).told b := (State.peer_setPeer ..).trans (if_pos rfl)

theorem State.readdress_readdresses : Heard s (s.readdress j b) j b ∧ (s.readdress j b).session j = 0 ∧
    (s.readdress j b).events.head?.map (fun e => (e.source, e.code, e.detail)) = some (0x30, 0x0106, j.val) := by
  let s3 := ((s.told j b).setPeer j ((s.peer j).moved b)).wr Reg.GLI_PEER.REQ_ID b.reqId j
  let s4 := (s3.stagePeer j).winDevice
  have k : Keeps [.windows, .log] _ s3 (s.readdress j b) := .event (((s3.stagePeer_keeps j).then (s3.stagePeer j).winDevice_keeps).then
    (s4.setSession_keeps j 0))
  have f3 : Frame beaconParts (sessionRegs ++ windowRegs) s3 (s.readdress j b) := ((((Frame.refl ..).stagePeer (by decide) j.isLt).winDevice
    (by decide) (by decide)).setSession (by decide) j.isLt 0).then_event (by decide) ..
  have hpeer : (s.readdress j b).peer j = (s.peer j).moved b := by
    rw [State.peer, k.same .group]
    exact (State.peer_setPeer ..).trans (if_pos rfl)
  refine ⟨{ seenInc := congrArg Peer.seenInc hpeer, seenCtr := congrArg Peer.seenCtr hpeer, base := congrArg Peer.base hpeer,
            reqId := congrArg Peer.reqId hpeer, log2 := congrArg Peer.log2 hpeer, incarnation := ?_, frame := ?_ }, ?_, ?_⟩
  · refine (Frame.rd_valid f3 j.isLt (by decide) 0).trans ?_
    exact (State.rd_wr_apart _ _ _ _ _ _ _ _ (by decide)).trans (s.told_incarnation j b)
  · exact (((s.told_frame j b).setPeer (by decide) _ _).then_wr (by decide) _ j.isLt (by decide)).trans (f3.mono (List.Subset.refl _) (by decide))
  · exact s4.setSession_session j.isLt (by decide)
  · rw [State.readdress, State.event_head]
    rfl

theorem State.hearing_heard : Heard s (s.hearing j b) j b ∧ ((s.peer j).moves b = true → (s.hearing j b).session j = 0 ∧
    (s.hearing j b).events.head?.map (fun e => (e.source, e.code, e.detail)) = some (0x30, 0x0106, j.val)) := by
  unfold State.hearing
  split
  · next h =>
    obtain ⟨h1, h2⟩ := s.readdress_readdresses j b
    exact ⟨h1, fun _ => h2⟩
  · next h =>
    refine ⟨?_, fun hm => absurd hm h⟩
    obtain ⟨⟨hbase, hreq⟩, hlog⟩ : ((s.peer j).base = b.base ∧ (s.peer j).reqId = b.reqId) ∧ (s.peer j).log2 = b.log2 := by
      simpa [Peer.moves] using h
    have hpeer := s.told_peer j b
    have heard : Heard s (s.told j b) j b := {
      seenInc := congrArg Peer.seenInc hpeer
      seenCtr := congrArg Peer.seenCtr hpeer
      base := (congrArg Peer.base hpeer).trans hbase
      reqId := (congrArg Peer.reqId hpeer).trans hreq
      log2 := (congrArg Peer.log2 hpeer).trans hlog
      incarnation := s.told_incarnation j b
      frame := s.told_frame j b }
    split
    · exact {
        seenInc := heard.seenInc
        seenCtr := heard.seenCtr
        base := heard.base
        reqId := heard.reqId
        log2 := heard.log2
        incarnation := (((s.told j b).setSession_keeps j 0).rd_eq (by decide) ..).trans heard.incarnation
        frame := heard.frame.setSession (by decide) j.isLt 0 }
    · exact heard

end

/-! ### The handshake (R383) -/

section
variable (s : State) (j : Fin 24)

/-- The responder's answer to HELLO: Greeting, with CHALLENGE on the bus. -/
def State.challenges (s : State) (j : Fin 24) (na incarnation : Nat) : State :=
  let s2 := (s.freeNext.setSession j 1).wr Reg.GLI_PEER.INCARNATION incarnation j
  (s2.setPeer j { s2.peer j with mine := (Config.drbg s.free).toNat % 2 ^ 128, theirs := na, greetAt := s2.frame }).sendPlain j 0x03
    [(Config.drbg s.free).toNat % 2 ^ 128, na, s2.group.incarnation]

theorem execHello_eq (hup : s.groupUp = true) (hl : (s.peer j).listed = true) (hi : s.initiates j = false) (hj : j.val ≠ s.own)
    (h0 : s.session j = 0) (na inc : Nat) : exec (.hello j na inc true) s = .next (s.challenges j na inc) := by
  have hlink : s.linked j = false := by rw [State.linked, h0]; rfl
  have hne : (j.val != s.own) = true := bne_iff_ne.2 hj
  change execHello j na inc true s = _
  unfold execHello
  simp only [hup, hl, hi, hlink, h0, hne, Bool.not_false, Bool.and_true, if_true, Bool.false_and, Bool.false_eq_true, if_false]
  rfl

theorem State.challenges_greets (na inc : Nat) : (s.challenges j na inc).session j = 1 ∧ ((s.challenges j na inc).peer j).theirs = na ∧
    ((s.challenges j na inc).peer j).greetAt = s.frame ∧
    (s.challenges j na inc).rd Reg.GLI_PEER.INCARNATION j = inc % 2 ^ Reg.GLI_PEER.INCARNATION.w ∧
    (s.challenges j na inc).out = .peer j 0x03 [((s.challenges j na inc).peer j).mine, na, s.group.incarnation, s.sec.groupCtr] :: s.out ∧
    (s.challenges j na inc).sec.groupCtr = s.sec.groupCtr + 1 ∧
    Frame [.group, .freeValues, .keys, .buses] (sessionRegs ++ [Reg.GLI_PEER.INCARNATION]) s (s.challenges j na inc) := by
  unfold State.challenges
  extract_lets s2
  have hsess : s2.session j = 1 := (State.rd_wr_apart _ _ _ _ _ _ _ _ (by decide)).trans (State.setSession_session s.freeNext j.isLt (by decide))
  have hinc : s2.rd Reg.GLI_PEER.INCARNATION j = inc % 2 ^ Reg.GLI_PEER.INCARNATION.w := State.rd_wr_same ..
  have f2 : Frame [.group, .freeValues, .keys, .buses] (sessionRegs ++ [Reg.GLI_PEER.INCARNATION]) s s2 :=
    (((Frame.refl ..).freeNext (by decide)).setSession (by decide) j.isLt 1).then_wr (by decide) _ j.isLt (by decide)
  have hout : s2.out = s.out := rfl
  have hframe : s2.frame = s.frame := rfl
  have hgroup : s2.group = s.group := rfl
  have hsec : s2.sec = s.sec := rfl
  clear_value s2
  have k : ∀ q kind l, Keeps [.group, .keys, .buses] [] s2 ((s2.setPeer j q).sendPlain j kind l) := fun q kind l =>
    .andThen (.setPeer (.refl ..)) (State.sendPlain_keeps ..)
  have hpeer : ∀ q kind l, ((s2.setPeer j q).sendPlain j kind l).peer j = q := fun q kind l =>
    (State.sendPlain_peer ..).trans ((State.peer_setPeer ..).trans (if_pos rfl))
  refine ⟨((k ..).rd_eq (by simp) ..).trans hsess, congrArg Peer.theirs (hpeer ..), (congrArg Peer.greetAt (hpeer ..)).trans hframe,
    ((k ..).rd_eq (by simp) ..).trans hinc, ?_, (State.sendPlain_groupCtr ..).trans (congrArg (·.groupCtr + 1) hsec), ?_⟩
  · rw [State.sendPlain_out, hpeer, hgroup]
    rw [← hsec, ← hout]
    rfl
  · exact (f2.setPeer (by decide) _ _).sendPlain _ (by decide) ..

end

/-- Settles O47: beacons out and in, then the handshake message by message, its failures, and both sides Linked. -/
theorem handshake : Obligations.Handshake := by
  intro s j hup
  refine ⟨?_, fun b hok => ?_, fun b hbad => if_neg (by simp [hbad]), fun na inc => ⟨if_neg (by simp), fun hl hi hj h0 => ?_⟩,
    fun nb echo inc c h1 hc => ?_, fun nb echo inc c h1 hc => ⟨fun hecho => ?_, fun hecho => ?_⟩, fun hl h0 hi hretry => ?_⟩
  · let l := s.listed.filter (fun j => j != s.own && !s.linked j && ((s.peer j).beaconAt == 0 ||
      decide ((s.peer j).beaconAt + (if s.gstate = 1 then s.rd Reg.GLI_CFG.BEACON_INT else 100000) ≤ s.frame)))
    have hrun : exec .beaconSend s = .next (l.foldl (fun u j => u.beaconTo (s.peer s.own) j) s) := if_pos hup
    obtain ⟨-, -, hat, hmsg⟩ := State.beacons_sent (s.peer s.own) l s
    refine ⟨_, hrun, Frame.foldl (fun u i _ => (u.beaconTo_keeps _ i).frame (by decide)) (.refl ..), fun i hi hown hlink hdue => ?_⟩
    have hil : i ∈ l := List.mem_filter.2 ⟨hi, by simpa [hown, hlink] using hdue⟩
    exact ⟨hat i (.inl hil), hmsg i hil⟩
  · obtain ⟨heard, hmoved⟩ := s.hearing_heard j b
    rw [execBeaconReceived_eq s j b hup hok]
    have hmoves : ((s.peer j).base ≠ b.base ∨ (s.peer j).reqId ≠ b.reqId ∨ (s.peer j).log2 ≠ b.log2) → (s.peer j).moves b = true := by
      simp [Peer.moves, or_assoc]
    split
    · have h := heard.greet
      refine ⟨_, rfl, h.seenInc, h.seenCtr, h.base, h.reqId, h.log2, h.incarnation, fun hm => ?_, h.frame⟩
      obtain ⟨-, hev⟩ := hmoved (hmoves hm)
      refine ⟨fun h2 => (nomatch ((s.hearing j b).greet_greets j).1.symm.trans h2), ?_⟩
      rw [(((s.hearing j b).greet_keeps j).same .log).1]
      exact hev
    · refine ⟨_, rfl, heard.seenInc, heard.seenCtr, heard.base, heard.reqId, heard.log2, heard.incarnation, fun hm => ?_, heard.frame⟩
      obtain ⟨h0, hev⟩ := hmoved (hmoves hm)
      exact ⟨fun h2 => (nomatch h0.symm.trans h2), hev⟩
  · exact ⟨_, execHello_eq s j hup hl hi hj h0 na inc, s.challenges_greets j na inc⟩
  · refine ⟨_, ?_, s.greetFail_fails j⟩
    obtain ⟨hi, rfl⟩ | ⟨hi, rfl⟩ | ⟨hlate, rfl⟩ := hc
    · exact (if_pos (by simp [hup, h1, hi])).trans (if_pos rfl)
    · exact (if_pos (by simp [hup, h1, hi])).trans (if_pos rfl)
    · exact if_pos (by simp [hup, h1, hlate])
  · obtain ⟨hi, rfl⟩ | ⟨hi, rfl⟩ := hc
    · exact (if_pos (by simp [hup, h1, hi])).trans ((if_neg (by decide)).trans (if_neg hecho))
    · exact (if_pos (by simp [hup, h1, hi])).trans ((if_neg (by decide)).trans (if_neg hecho))
  · obtain ⟨hi, rfl⟩ | ⟨hi, rfl⟩ := hc
    · have hrun : exec (.challenge j nb echo inc true) s = .next ((s.sendPlain j 0x04 [nb]).link j (s.peer j).mine nb inc) :=
        (if_pos (by simp [hup, h1, hi])).trans ((if_neg (by decide)).trans (if_pos hecho))
      have h := (s.sendPlain j 0x04 [nb]).link_links j (s.peer j).mine nb inc
      refine ⟨_, hrun, h.session, h.shown, h.epoch, h.send, h.recv, h.pos, h.heard, h.key, fun _ => h.out.subset (.head _), ?_⟩
      exact (Frame.sendPlain s (.refl ..) (by decide) j 0x04 [nb]).trans h.frame
    · have hrun : exec (.confirm j echo true) s = .next (s.link j (s.peer j).theirs (s.peer j).mine (s.rd Reg.GLI_PEER.INCARNATION j)) :=
        (if_pos (by simp [hup, h1, hi])).trans ((if_neg (by decide)).trans (if_pos hecho))
      have h := s.link_links j (s.peer j).theirs (s.peer j).mine (s.rd Reg.GLI_PEER.INCARNATION j)
      exact ⟨_, hrun, h.session, h.shown, h.epoch, h.send, h.recv, h.pos, h.heard, h.key, fun hyes => absurd (hyes.symm.trans hi)
        (by decide), h.frame⟩
  · obtain ⟨h1, h2, h3, h4⟩ := s.greet_greets j
    exact ⟨_, if_pos (by simp [hup, hl, h0, hi, hretry]), h1, h2, h3, h4⟩

end Sys2Proof.Machine
end

section
/-! PROOFS. Peer stripes: their changes of state, contributions, acknowledgements and closing (R397 to R413; O49). -/

set_option Elab.async false

namespace Sys2Proof.Machine

/-! ### What changes of stripes reach -/

section
variable {ps qs : List Part} {rs us : List Fld} {s t u : State}

/-- An operation that reaches single fields alone keeps a frame. -/
theorem Frame.then_keeps (k : Frame ps rs s t) (h : Keeps qs us t u) (hp : qs ⊆ ps) (hr : us ⊆ rs) (hs : ∀ r ∈ us, r.stride = 0 ∧ 0 < r.count) :
    Frame ps rs s u := k.trans ((h.frame hs).mono hp hr)

theorem Frame.sendMsg (k : Frame ps rs s t) (hp : [Part.group, .buses] ⊆ ps) (j kind : Nat) (l : List Nat) : Frame ps rs s (t.sendMsg j kind l) :=
  k.then_keeps (t.sendMsg_keeps j kind l) hp (List.nil_subset _) nofun

theorem Frame.thiDelete (k : Frame ps rs s t) (hp : [Part.engine, .log] ⊆ ps) (hr : engineRegs ⊆ rs) {tb : Nat} (ht : tb < 8) (i : Nat) :
    Frame ps rs s (t.thiDelete tb i).2 := by
  refine k.trans (Frame.mono hp hr ?_)
  have h1 : Frame [.engine, .log] engineRegs t (t.thiOps 1) := (Frame.refl ..).then_bump (by decide) 1 (by decide) (by decide)
  unfold State.thiDelete
  split
  · exact Frame.thiRefresh _ (h1.setThi (by decide) _ _) (by decide) ht
  · exact h1

theorem Frame.thiInsertAny (k : Frame ps rs s t) (hp : [Part.engine, .log] ⊆ ps) (hr : engineRegs ⊆ rs) {tb : Nat} (ht : tb < 8)
    (key care prio data : Nat) (unique : Bool) (field : Nat) (add : Int) :
    Frame ps rs s (t.thiInsertAny tb key care prio data unique field add).2 := by
  refine k.trans (Frame.mono hp hr ?_)
  have h1 : Frame [.engine, .log] engineRegs t (t.thiOps 1) := (Frame.refl ..).then_bump (by decide) 1 (by decide) (by decide)
  unfold State.thiInsertAny
  extract_lets same
  split
  · exact h1.setThi (by decide) _ _
  · split
    · exact Frame.thiRefuse _ h1 (by decide) (by decide) _ _
    · exact Frame.thiRefresh _ (h1.setThi (by decide) _ _) (by decide) ht

/-- The stripe as a change of state leaves it (R412). -/
def PStripe.goTo (p : PStripe) (st : StripeSt) : PStripe :=
  { p with st := st, before := if st = .degraded ∧ p.st ≠ .degraded ∧ p.st ≠ .rebuilding then p.st else p.before }

/-- The change of state recorded and reported. -/
def State.stripeTold (s : State) (p : PStripe) (st : StripeSt) : State :=
  let s1 := (s.setStripe (p.goTo st)).ledger (p.goTo st) 0x44 st.code p.erased
  if p.p = s.own then (s1.sendMsg s1.steward 0x15 [p.num, st.code, p.erased]).sendMsg p.q 0x15 [p.num, st.code, p.erased] else s1

/-- What entering a state does once it is told. -/
def State.stripeEnters (s : State) (own : Nat) (p : PStripe) : StripeSt → State
  | .degraded => if p.st = .degraded then s else s.event 0x30 0x0110 (p.num % 2 ^ 32)
  | .lost =>
    let s4 := s.event 0x30 0x0113 (p.num % 2 ^ 32)
    (if (s4.roleBit (p.goTo .lost) own).isSome then s4.bump Reg.GLI_STRIPE_LOST.COUNT else s4).replaceGrans (p.goTo .lost) (fun _ => true)
  | .released =>
    match (s.thiList 3).find? (fun e => e.2.value == p.num) with
    | some e => (s.thiDelete 3 e.1).2
    | none => s
  | _ => s

theorem State.stripeGo_eq (s : State) (p : PStripe) (st : StripeSt) :
    s.stripeGo p st = (s.stripeTold p st).stripeEnters (s.stripeTold p st).own p st := by
  cases st <;> rfl

/-- The fields that the counts of stripes reach. -/
def countRegs : List Fld := [Reg.GLI_STRIPE_CNT.OPEN, Reg.GLI_STRIPE_CNT.DEGRADED]

theorem State.stripeTold_keeps (s : State) (p : PStripe) (st : StripeSt) : Keeps [.group, .buses, .ftl] countRegs s (s.stripeTold p st) :=
  have k : Keeps [.group, .buses, .ftl] countRegs s ((s.setStripe (p.goTo st)).ledger (p.goTo st) 0x44 st.code p.erased) :=
    .andThen (.mono (State.setStripe_keeps ..)) (State.ledger_keeps ..)
  .ite (.andThen (.andThen k (State.sendMsg_keeps ..)) (State.sendMsg_keeps ..)) k

theorem Frame.stripeGo (k : Frame ps rs s t) (hp : stripeParts ⊆ ps) (hr : stripeRegs ⊆ rs) (p : PStripe) (st : StripeSt) :
    Frame ps rs s (t.stripeGo p st) := by
  rw [State.stripeGo_eq]
  have h1 : Frame stripeParts stripeRegs t (t.stripeTold p st) :=
    Frame.then_keeps (.refl ..) (t.stripeTold_keeps p st) (by decide) (by decide) (by decide)
  refine k.trans (Frame.mono hp hr ?_)
  cases st with
  | degraded => exact .ite h1 (h1.then_event (by decide) ..)
  | lost =>
    have h2 := h1.then_event (by decide) 0x30 0x0113 (p.num % 2 ^ 32) 0xFF
    exact Frame.setGroup (.ite (h2.then_bump (r := Reg.GLI_STRIPE_LOST.COUNT) (by decide) 1 (by decide) (by decide)) h2) (by decide) _
  | released =>
    dsimp only [State.stripeEnters]
    split
    · exact h1.thiDelete (by decide) (by decide) (by decide) _
    · exact h1
  | opened | sealed | thinning | rebuilding => exact h1

/-! ### The stripes held -/

theorem State.pstripe_num {n : Nat} {p : PStripe} (h : s.pstripe n = some p) : p.num = n := by simpa using List.find?_some h

/-- A stripe held that is put in the place of the one with its number. -/
theorem List.find?_replace {l : List PStripe} {n : Nat} {x p : PStripe} (h : l.find? (fun p => p.num == n) = some x) (hp : p.num = n) :
    (l.map (fun x => if x.num = p.num then p else x)).find? (fun p => p.num == n) = some p := by
  induction l with
  | nil => nomatch h
  | cons a l ih =>
    by_cases ha : a.num = n
    · simp [ha, hp]
    · rw [List.find?_cons_of_neg (by simpa using ha)] at h
      rw [List.map_cons, if_neg (by rw [hp]; exact ha), List.find?_cons_of_neg (by simpa using ha)]
      exact ih h

theorem State.pstripe_of_stripes (h : t.group.stripes = s.group.stripes) (n : Nat) : t.pstripe n = s.pstripe n := by
  rw [State.pstripe, h, State.pstripe]

theorem State.setStripe_stripes (s : State) (p : PStripe) :
    (s.setStripe p).group.stripes = s.group.stripes.map (fun x => if x.num = p.num then p else x) := rfl

theorem State.setStripe_pstripe {n : Nat} {x p : PStripe} (h : s.pstripe n = some x) (hp : p.num = n) : (s.setStripe p).pstripe n = some p := by
  rw [State.pstripe, State.setStripe_stripes]
  exact List.find?_replace h hp

theorem State.sendMsg_stripes (s : State) (j kind : Nat) (l : List Nat) : (s.sendMsg j kind l).group.stripes = s.group.stripes :=
  (congrArg Group.stripes (s.sendMsg_group j kind l) :)

theorem State.ledger_group (s : State) (p : PStripe) (type b c : Nat) : (s.ledger p type b c).group = s.group :=
  (s.ledger_keeps p type b c).same .group

theorem State.stripeTold_stripes (s : State) (p : PStripe) (st : StripeSt) :
    (s.stripeTold p st).group.stripes = (s.setStripe (p.goTo st)).group.stripes := by
  unfold State.stripeTold
  extract_lets s1
  have h1 : s1.group.stripes = (s.setStripe (p.goTo st)).group.stripes := by rw [State.ledger_group]
  clear_value s1
  split
  · rw [State.sendMsg_stripes, State.sendMsg_stripes, h1]
  · exact h1

theorem State.stripeEnters_stripes (s : State) (own : Nat) (p : PStripe) (st : StripeSt) :
    (s.stripeEnters own p st).group.stripes = s.group.stripes := by
  cases st with
  | degraded =>
    dsimp only [State.stripeEnters]
    split <;> rfl
  | lost =>
    dsimp only [State.stripeEnters, State.replaceGrans]
    split <;> rfl
  | released =>
    dsimp only [State.stripeEnters]
    split
    · rw [(s.thiDelete_keeps ..).same .group]
    · rfl
  | opened | sealed | thinning | rebuilding => rfl

theorem State.stripeGo_pstripe {n : Nat} {x p : PStripe} (h : s.pstripe n = some x) (hp : p.num = n) (st : StripeSt) :
    (s.stripeGo p st).pstripe n = some (p.goTo st) := by
  rw [State.stripeGo_eq, State.pstripe_of_stripes (State.stripeEnters_stripes ..), State.pstripe_of_stripes (State.stripeTold_stripes ..)]
  exact State.setStripe_pstripe h hp

/-! ### Work on stripes that only sends and records -/

theorem Sends.setStripe (k : Sends s t) (p : PStripe) : Sends s (t.setStripe p) :=
  (k.setGroup (g := { t.group with stripes := t.group.stripes.map (fun x => if x.num = p.num then p else x) }) rfl rfl).trans
    (.of_keeps (State.stripeCounts_keeps ..))

theorem Sends.ledger (k : Sends s t) (p : PStripe) (type b c : Nat) : Sends s (t.ledger p type b c) := .ite (k.record _) k

theorem Sends.replaceGrans (k : Sends s t) (p : PStripe) (g : Gran → Bool) : Sends s (t.replaceGrans p g) := k.setGroup rfl rfl

theorem Sends.event (k : Sends s t) (a b c d : Nat) : Sends s (t.event a b c d) :=
  k.trans (.of_keeps (ps := [.log]) (rs := []) (.event (.refl ..)))

theorem Sends.wr (k : Sends s t) (r : Fld) (v i f : Nat) : Sends s (t.wr r v i f) :=
  k.trans (.of_keeps (ps := []) (rs := [r]) (.wr (.refl ..) (.head _)))

theorem Sends.bump (k : Sends s t) (r : Fld) (n i f : Nat) : Sends s (t.bump r n i f) :=
  k.trans (.of_keeps (ps := []) (rs := [r]) (.bump (.refl ..) (.head _)))

theorem Sends.stripeGo (k : Sends s t) (p : PStripe) (st : StripeSt) : Sends s (t.stripeGo p st) := by
  rw [State.stripeGo_eq]
  have h0 : Sends s ((t.setStripe (p.goTo st)).ledger (p.goTo st) 0x44 st.code p.erased) := (k.setStripe _).ledger _ _ _ _
  have h1 : Sends s (t.stripeTold p st) := .ite ((h0.sendMsg _ _ _).sendMsg _ _ _) h0
  cases st with
  | degraded => exact .ite h1 (h1.event _ _ _ _)
  | lost =>
    have h2 := h1.event 0x30 0x0113 (p.num % 2 ^ 32) 0xFF
    exact Sends.replaceGrans (.ite (h2.bump Reg.GLI_STRIPE_LOST.COUNT 1 0 0) h2) _ _
  | released =>
    dsimp only [State.stripeEnters]
    split
    · exact h1.trans (.of_keeps (State.thiDelete_keeps ..))
    · exact h1
  | opened | sealed | thinning | rebuilding => exact h1

end

/-! ### Closing and opening (R402, R403, R412) -/

section
variable {s t u : State}

/-- The stripe as its closed segments leave it: Sealed once every slot is closed. -/
def PStripe.closeAt (p : PStripe) (m : Nat) : PStripe :=
  { p with closed := setBit p.closed m,
           st := if p.st = .opened ∧ p.slots.all (fun i => (setBit p.closed m).testBit i) = true then .sealed else p.st }

/-- The stripe sealed when it is Open with every slot closed. -/
def PStripe.sealedIf (p : PStripe) : PStripe := if p.st = .opened ∧ p.slots.all (fun m => p.closed.testBit m) then p.goTo .sealed else p

theorem PStripe.sealedIf_close (p : PStripe) (m : Nat) : ({ p with closed := setBit p.closed m } : PStripe).sealedIf = p.closeAt m := by
  by_cases hc : p.st = .opened ∧ p.slots.all (fun i => (setBit p.closed m).testBit i) = true
  · rw [PStripe.closeAt, if_pos hc]
    exact if_pos hc
  · rw [PStripe.closeAt, if_neg hc]
    exact if_neg hc

theorem State.sealIfClosed_pstripe {n : Nat} {p : PStripe} (h : s.pstripe n = some p) : (s.sealIfClosed n).pstripe n = some p.sealedIf := by
  unfold State.sealIfClosed PStripe.sealedIf
  rw [h]
  dsimp only
  split
  · exact State.stripeGo_pstripe h (State.pstripe_num h) _
  · exact h

theorem Frame.sealIfClosed {ps : List Part} {rs : List Fld} (k : Frame ps rs s t) (hp : stripeParts ⊆ ps) (hr : stripeRegs ⊆ rs) (n : Nat) :
    Frame ps rs s (t.sealIfClosed n) := by
  unfold State.sealIfClosed
  split
  · exact .ite (k.stripeGo hp hr _ _) k
  · exact k

theorem Sends.sealIfClosed (k : Sends s t) (n : Nat) : Sends s (t.sealIfClosed n) := by
  unfold State.sealIfClosed
  split
  · exact .ite (k.stripeGo _ _) k
  · exact k

theorem State.sendMsgs_stripes {α : Type} (f : State → α → Nat) (kind : Nat) (g : State → α → List Nat) (l : List α) (s : State) :
    (l.foldl (fun s a => s.sendMsg (f s a) kind (g s a)) s).group.stripes = s.group.stripes :=
  s.foldl_same (fun u => u.group.stripes) (fun u _ => u.sendMsg_stripes ..) l

theorem State.segClose_pstripe {n m : Nat} {p : PStripe} (h : s.pstripe n = some p) (hm : s.slotOfMember p s.own = some m) :
    (s.segClose p).pstripe n = some { p with closed := setBit p.closed m } := by
  unfold State.segClose
  rw [hm]
  refine (State.pstripe_of_stripes (State.sendMsgs_stripes (fun _ j => j) 0x14 (fun _ _ => [p.num, m, p.fill]) ..) n).trans ?_
  exact State.setStripe_pstripe (p := { p with closed := setBit p.closed m }) h (show p.num = n from State.pstripe_num h)

/-- A new entry holds its key. -/
theorem State.thiInsertAny_value {tb key care prio data field i : Nat} {add : Int}
    (h : (s.thiInsertAny tb key care prio data false field add).1 = .inserted i) :
    ((s.thiInsertAny tb key care prio data false field add).2.thiEnt i).value = key := by
  unfold State.thiInsertAny at h ⊢
  dsimp only [Bool.false_eq_true, if_false] at h ⊢
  rw [if_neg (by decide)] at h ⊢
  cases hf : s.thiFree tb with
  | nil =>
    rw [hf] at h
    cases h
  | cons k l =>
    rw [hf] at h
    cases h
    dsimp only
    rw [State.thiEnt_thiRefresh, State.thiEnt_setThi_self]

/-- The stripe opened, with its place in the stripe table. -/
theorem State.openStripe_opens {num k p q vacant view i : Nat} (hnone : s.pstripe num = none)
    (hrole : ((s.roleBit { num := num, k := k, p := p, q := q, vacant := vacant, view := view, openedAt := s.frame } s.own).isSome || s.leads)
      = true) (hins : (s.thiInsertAny 3 num 0 0 0 false 0 0).1 = .inserted i) :
    (s.openStripe num k p q vacant view).pstripe num =
      some { num := num, k := k, p := p, q := q, vacant := vacant, view := view, openedAt := s.frame } ∧
    ((s.openStripe num k p q vacant view).thiEnt i).value = num := by
  let x : PStripe := { num := num, k := k, p := p, q := q, vacant := vacant, view := view, openedAt := s.frame }
  let r := (s.thiInsertAny 3 num 0 0 0 false 0 0).2
  have hrun : s.openStripe num k p q vacant view = ((r.setGroup { r.group with stripes := r.group.stripes ++ [x] }).ledger x 0x40
      (k + p * 2 ^ 8 + q * 2 ^ 16) (vacant + view * 2 ^ 32)).stripeCounts := by
    unfold State.openStripe
    rw [if_neg (by rw [hnone]; decide)]
    refine (if_pos hrole).trans ?_
    dsimp only
    rw [hins]
  have hstripes : r.group.stripes = s.group.stripes := congrArg Group.stripes ((s.thiInsertAny_keeps ..).same .group :)
  have hkept := (State.ledger_keeps (r.setGroup { r.group with stripes := r.group.stripes ++ [x] }) x 0x40 (k + p * 2 ^ 8 + q * 2 ^ 16)
    (vacant + view * 2 ^ 32)).then (State.stripeCounts_keeps _)
  rw [hrun]
  constructor
  · refine (State.pstripe_of_stripes (s := r.setGroup { r.group with stripes := r.group.stripes ++ [x] })
      (congrArg Group.stripes (hkept.same .group :)) num).trans ?_
    change (r.group.stripes ++ [x]).find? (fun p => p.num == num) = some x
    rw [hstripes, List.find?_append, show s.group.stripes.find? (fun p => p.num == num) = none from hnone]
    simp [x]
  · rw [State.thiEnt, hkept.same .engine]
    exact State.thiInsertAny_value hins

theorem Frame.openStripe {ps : List Part} {rs : List Fld} (f : Frame ps rs s t) (hp : stripeParts ⊆ ps) (hr : stripeRegs ⊆ rs)
    (num k p q vacant view : Nat) : Frame ps rs s (t.openStripe num k p q vacant view) := by
  refine f.trans (Frame.mono hp hr ?_)
  have h1 := (Frame.refl stripeParts stripeRegs t).thiInsertAny (by decide) (by decide) (tb := 3) (by decide) num 0 0 0 false 0 0
  unfold State.openStripe
  refine .ite (.refl ..) (.ite ?_ (.refl ..))
  dsimp only
  split
  · exact ((h1.setGroup (by decide) _).then_keeps (State.ledger_keeps ..) (by decide) (by decide) (by decide)).then_keeps
      (State.stripeCounts_keeps ..) (by decide) (by decide) (by decide)
  · exact h1

/-- The stripes changed alone. -/
theorem Sends.withStripes (h : Sends s t) (l : List PStripe) : Sends s (t.setGroup { t.group with stripes := l }) := h.setGroup rfl rfl

theorem Sends.openStripe (h : Sends s t) (num k p q vacant view : Nat) : Sends s (t.openStripe num k p q vacant view) := by
  refine h.trans ?_
  have h1 : Sends t (t.thiInsertAny 3 num 0 0 0 false 0 0).2 := .of_keeps (t.thiInsertAny_keeps ..)
  unfold State.openStripe
  refine .ite (.refl _) (.ite ?_ (.refl _))
  dsimp only
  split
  · exact (Sends.ledger (h1.withStripes _) _ _ _ _).trans (.of_keeps (State.stripeCounts_keeps ..))
  · exact h1

end

/-! ### Accepted messages (R384) -/

section
variable {s u : State} {j : Fin 24} {h : Hdr}

/-- An accepted message was taken in order, from a member whose session stays Linked. -/
theorem State.Accepts.taken (ha : s.Accepts j h u) : Taken s u j ∧ s.groupUp = true ∧ s.linked j = true ∧ u.linked j = true := by
  obtain ⟨e, hu⟩ := ha
  by_cases hon : (s.groupUp && (s.peer j).listed && s.linked j) = true
  · obtain ⟨⟨hup, hl⟩, hk⟩ : (s.groupUp = true ∧ (s.peer j).listed = true) ∧ s.linked j = true := by simpa using hon
    have undropped : ∀ cause, s.take j h ≠ some (s.dropSession j cause) := fun cause e' => by
      cases e.symm.trans e'
      exact nomatch (s.dropSession_drops j cause).1.symm.trans (beq_iff_eq.1 hu)
    by_cases hforged : h.tagOk = false ∨ h.epoch ≠ s.rd Reg.GLI_PEER.EPOCH j
    · exact absurd (State.take_forged hup hl hk hforged) (undropped 2)
    · obtain ⟨htag, hep⟩ : h.tagOk = true ∧ h.epoch = s.rd Reg.GLI_PEER.EPOCH j := by simpa using hforged
      by_cases hseq : h.seq = (s.peer j).recvSeq
      · obtain ⟨u', e', ht⟩ := State.take_next hup hl hk htag hep hseq
        cases e.symm.trans e'
        exact ⟨ht, hup, hk, hu⟩
      · exact absurd (State.take_missed hup hl hk htag hep hseq) (undropped 1)
  · rw [State.take_none (by simpa using hon)] at e
    cases e

end

/-! ### Messages of the rows -/

section
variable {s t u : State}

/-- Messages of one kind to a list of members: a member whose session is Linked gets its own. -/
theorem State.sendMsgs_sent {kind i : Nat} {g : State → List Nat} {w : List Nat} (l : List Nat) (hi : i ∈ l) (hk : s.linked i = true)
    (hg : ∀ u, Keeps [.group, .buses] [] s u → g u = w) :
    ∃ h, .peer i kind (h ++ w) ∈ (l.foldl (fun s j => s.sendMsg j kind (g s)) s).out := by
  induction l generalizing s with
  | nil => nomatch hi
  | cons a l ih =>
    simp only [List.foldl_cons]
    have k := s.sendMsg_keeps a kind (g s)
    obtain rfl | hi := List.mem_cons.1 hi
    · refine ⟨[(s.peer i).sendSeq, s.viewNo, (s.peer i).recvSeq - 1, s.rd Reg.GLI_PEER.EPOCH i],
        (Keeps.foldl (.refl ..) fun u j => u.sendMsg_keeps j kind (g u)).steady.out.subset ?_⟩
      rw [State.sendMsg_out _ hk, hg s (.refl ..)]
      exact .head _
    · exact ih hi ((congrArg (· == 2) (k.rd_eq (by simp) ..)).trans hk) fun u ku => hg u (k.trans ku)

theorem State.isParity_of_keeps {ps : List Part} {rs : List Fld} (k : Keeps ps rs s t) (hr : ∀ r ∈ rs, Reg.GLI_STATUS.MEMBER.clear r = true)
    (p : PStripe) : t.isParity p = s.isParity p := by
  simp only [State.isParity, State.own, k.rd_eq hr]

theorem State.ledger_recorded {p : PStripe} (h : s.isParity p = true) (type b c : Nat) :
    .ledger type p.num b c ∈ (s.ledger p type b c).ftl.journal.collecting := by
  rw [State.ledger, if_pos h]
  exact List.mem_append_right _ (.head _)

/-- Steps that each write a record and keep those before: every record is held. -/
theorem Sends.foldl_recorded {α : Type} {g : State → α → State} {f : α → Rec} (hs : ∀ u a, Sends u (g u a))
    (hr : ∀ u a, f a ∈ (g u a).ftl.journal.collecting) (l : List α) (s : State) : ∀ a ∈ l, f a ∈ (l.foldl g s).ftl.journal.collecting := by
  induction l generalizing s with
  | nil => exact fun a ha => nomatch ha
  | cons b l ih =>
    intro a ha
    obtain rfl | ha := List.mem_cons.1 ha
    · exact (Sends.foldl hs l (.refl _)).journal.subset (hr s a)
    · exact ih _ a ha

/-! ### Contributions (R405, R408) -/

theorem State.applyEntries_num {j slot : Nat} {wd again : Bool} {es : List Entry} {p p1 : PStripe}
    (h : s.applyEntries j slot wd again es p = .inl p1) : p1.num = p.num := by
  induction es generalizing p with
  | nil => cases h; rfl
  | cons e es ih =>
    unfold State.applyEntries at h
    extract_lets p0 st at h
    have h0 : p0.num = p.num := by
      change (if _ then _ else _ : PStripe).num = _
      split <;> rfl
    clear_value st p0
    by_cases hst : st ≠ 0
    · rw [if_pos hst] at h
      cases h
    · rw [if_neg hst] at h
      exact (ih h).trans h0

/-- A contribution refused whole. -/
def State.contribRefused (s : State) (j seq num role st : Nat) : State :=
  (s.sendMsg j 0x12 [num, seq, role, st]).event 0x30 0x0114 (st + j * 2 ^ 8)

/-- A contribution applied, recorded, and owed its acknowledgement. -/
def State.contribApplied (s : State) (j seq num slot : Nat) (es : List Entry) (role : Nat) (p1 : PStripe) : State :=
  let s1 := es.foldl (fun s e => s.record (.ledger 0x41 num (e.off + slot * 2 ^ 16) e.dg.toNat)) (s.setStripe p1)
  s1.setGroup { s1.group with owedNext := s1.group.owedNext ++ [(j, num, seq, role)] }

/-- What a contribution to an Open segment comes to. -/
def State.contribOutcome (s : State) (j seq num slot : Nat) (es : List Entry) (role : Nat) : PStripe ⊕ Nat → State
  | .inr st => s.contribRefused j seq num role st
  | .inl p1 => s.contribApplied j seq num slot es role p1

theorem State.contribParity_open {j seq num slot : Nat} {es : List Entry} {p : PStripe} (hp : s.pstripe num = some p) (hpar : s.isParity p = true)
    (hmem : s.slotMember p slot = j) (hslot : p.slots.contains slot = true) (hst : p.st = .opened) (hcl : p.closed.testBit slot = false) :
    s.contribParity j seq num slot 0 es =
      s.contribOutcome j seq num slot es (if p.p = s.own then 0 else 1) (s.applyEntries j slot false false es p) := by
  unfold State.contribParity
  dsimp only
  rw [hp]
  dsimp only
  rw [if_neg (by rw [hpar, hmem, hslot]; simp), hst]
  simp only [Nat.zero_testBit]
  rw [if_neg (by rw [hcl]; decide)]
  cases s.applyEntries j slot false false es p with
  | inr st => rfl
  | inl p1 =>
    have hbit : bit false = 0 := rfl
    simp only [Bool.false_eq_true, false_and, if_false, hbit, Nat.zero_mul, Nat.add_zero]
    rfl

theorem State.contribRefused_refuses {j seq num role st : Nat} (hk : s.linked j = true) :
    (s.contribRefused j seq num role st).group.stripes = s.group.stripes ∧
    (s.contribRefused j seq num role st).events.head?.map (fun e => (e.source, e.code, e.detail)) = some (0x30, 0x0114, st + j * 256) ∧
    (∃ l, (s.contribRefused j seq num role st).out = .peer j 0x12 (l ++ [num, seq, role, st]) :: s.out) ∧
    Frame [.group, .buses, .log] [] s (s.contribRefused j seq num role st) := by
  refine ⟨s.sendMsg_stripes .., ?_, ⟨_, s.sendMsg_out hk ..⟩, ?_⟩
  · rw [State.contribRefused, State.event_head]
    rfl
  · exact ((Frame.refl ..).sendMsg (by decide) ..).then_event (by decide) ..

theorem State.contribApplied_applies {j seq num slot role : Nat} {es : List Entry} {p p1 : PStripe} (hp : s.pstripe num = some p)
    (hnum : p1.num = num) : (s.contribApplied j seq num slot es role p1).pstripe num = some p1 ∧
    (j, num, seq, role) ∈ (s.contribApplied j seq num slot es role p1).group.owedNext ∧
    (∀ e ∈ es, .ledger 0x41 num (e.off + slot * 2 ^ 16) e.dg.toNat ∈ (s.contribApplied j seq num slot es role p1).ftl.journal.collecting) ∧
    Frame [.group, .buses, .ftl] countRegs s (s.contribApplied j seq num slot es role p1) := by
  unfold State.contribApplied
  extract_lets s1
  have hstripes : s1.group.stripes = (s.setStripe p1).group.stripes :=
    (s.setStripe p1).foldl_same (g := fun s (e : Entry) => s.record (.ledger 0x41 num (e.off + slot * 2 ^ 16) e.dg.toNat))
      (fun u => u.group.stripes) (fun _ _ => rfl) es
  have hrec : ∀ e ∈ es, .ledger 0x41 num (e.off + slot * 2 ^ 16) e.dg.toNat ∈ s1.ftl.journal.collecting :=
    Sends.foldl_recorded (f := fun e : Entry => .ledger 0x41 num (e.off + slot * 2 ^ 16) e.dg.toNat) (fun u e => (Sends.refl u).record _)
      (fun u e => List.mem_append_right _ (.head _)) es _
  have f1 : Frame [.group, .buses, .ftl] countRegs s s1 :=
    .foldl (fun u e _ => (Frame.refl ..).record (by decide) _) ((Frame.refl ..).then_keeps (s.setStripe_keeps p1) (by decide) (by decide) (by decide))
  clear_value s1
  refine ⟨(State.pstripe_of_stripes (t := s1.setGroup _) (s := s.setStripe p1) hstripes num).trans (State.setStripe_pstripe hp hnum),
    List.mem_append_right _ (.head _), hrec, f1.setGroup (by decide) _⟩

/-! ### Acknowledgements (R30, R408) -/

/-- A granule of the own segment as an acknowledgement by P or Q leaves it. -/
def Gran.ackedBy (g : Gran) (role : Nat) : Gran := if role = 1 then { g with ackQ := true } else { g with ackP := true }

/-- The stripe as an acknowledgement of a message leaves it. -/
def PStripe.ackedBy (p : PStripe) (m : Sent) (role : Nat) : PStripe :=
  { p with grans := p.grans.map (fun g => if m.offs.contains g.off then g.ackedBy role else g) }

theorem State.acked_eq {p : PStripe} {m : Sent} {role : Nat} (hw : m.withdraw = false) : s.acked p m (role == 1) =
    (p.grans.filter (fun g => m.offs.contains g.off)).foldl (fun s g => s.ackVersion g (role == 1)) (s.setStripe (p.ackedBy m role)) := by
  have hgrans : p.grans.map (fun g => if !m.offs.contains g.off then g
      else if m.withdraw then (if role == 1 then { g with wdQ := true } else { g with wdP := true })
      else (if role == 1 then { g with ackQ := true } else { g with ackP := true })) =
      p.grans.map (fun g => if m.offs.contains g.off then g.ackedBy role else g) := by
    refine List.map_congr_left fun g _ => ?_
    rw [hw, Gran.ackedBy]
    cases m.offs.contains g.off <;> simp
  unfold State.acked
  extract_lets mine p1 s1
  have h1 : p1 = p.ackedBy m role := congrArg (fun l => { p with grans := l }) hgrans
  rw [if_neg (by rw [hw]; decide)]
  change (p.grans.filter mine).foldl _ (s.setStripe p1) = _
  rw [h1]

theorem State.acked_acks {n : Nat} {p : PStripe} {m : Sent} {role : Nat} (hp : s.pstripe n = some p) (hw : m.withdraw = false) :
    (s.acked p m (role == 1)).pstripe n = some (p.ackedBy m role) ∧ (s.acked p m (role == 1)).group.sent = s.group.sent ∧
    Frame [.group, .buses, .ftl] countRegs s (s.acked p m (role == 1)) := by
  rw [State.acked_eq hw]
  have hgroup : ((p.grans.filter (fun g => m.offs.contains g.off)).foldl (fun s g => s.ackVersion g (role == 1))
      (s.setStripe (p.ackedBy m role))).group = (s.setStripe (p.ackedBy m role)).group :=
    (s.setStripe (p.ackedBy m role)).foldl_same (g := fun s (g : Gran) => s.ackVersion g (role == 1)) State.group (fun _ _ => rfl) _
  refine ⟨?_, ?_, ?_⟩
  · exact (State.pstripe_of_stripes (congrArg Group.stripes hgroup) n).trans (State.setStripe_pstripe hp (show p.num = n from State.pstripe_num hp))
  · exact (congrArg Group.sent hgroup :)
  · exact .foldl (fun u g _ => (Frame.refl ..).then_keeps (u.ackVersion_keeps g _) (by decide) (by decide) (by decide))
      ((Frame.refl ..).then_keeps (s.setStripe_keeps _) (by decide) (by decide) (by decide))

end

/-! ### The rows (O49) -/

section
variable {s u : State} {j : Fin 24} {h : Hdr} {stripe : Nat}

/-- What a message leaves before its row: the counts of its session, on the bus or not. -/
theorem Taken.frame {ps : List Part} {rs : List Fld} (ht : Taken s u j) (hp : [Part.group, .buses] ⊆ ps) : Frame ps rs s u :=
  (Frame.refl ..).then_keeps ht.keeps hp (List.nil_subset _) nofun

theorem execSegClose_eq (ha : s.Accepts j h u) {p : PStripe} {slot : Nat} (granules : Nat) (hp : u.pstripe stripe = some p)
    (hm : u.slotMember p slot = j) (hslot : p.slots.contains slot = true) : exec (.segClose j h stripe slot granules) s =
    .next (((u.setStripe { p with closed := setBit p.closed slot }).ledger { p with closed := setBit p.closed slot } 0x43 slot granules).sealIfClosed
      stripe) := by
  obtain ⟨e, hu⟩ := ha
  change execSegClose j h stripe slot granules s = _
  unfold execSegClose
  simp only [e, hp, hu, hm, hslot, Bool.true_and, beq_self_eq_true, if_true, ok]

theorem execContribAck_eq (ha : s.Accepts j h u) {p : PStripe} {m : Sent} {cseq role : Nat}
    (hm : u.group.sent.find? (fun m => m.peer == j.val && m.seq == cseq && m.stripe == stripe) = some m) (hosn : m.osn = 0)
    (hp : u.pstripe stripe = some p) (hr : role < 2) : exec (.contribAck j h stripe cseq role 0) s =
    .next ((u.setGroup { u.group with sent := u.group.sent.filter (fun x => decide (x ≠ m)) }).acked p m (role == 1)) := by
  obtain ⟨e, hu⟩ := ha
  change execContribAck j h stripe cseq role 0 s = _
  unfold execContribAck
  simp only [e, hu, Bool.true_and, hm]
  refine (if_neg (not_not.2 hosn)).trans ?_
  rw [show State.pstripe (u.setGroup { u.group with sent := u.group.sent.filter (fun x => decide (x ≠ m)) }) stripe = some p from hp]
  exact (if_neg (by omega)).trans (if_pos trivial)

theorem execRangeNote_eq (ha : s.Accepts j h u) {p : PStripe} {m slba nblk osn : Nat} {zeroes : Bool} (hp : u.pstripe stripe = some p)
    (hm : u.slotOfMember p j = some m) (hpar : u.isParity p = true) :
    exec (.rangeNote j h stripe slba nblk zeroes (u.rd Reg.GLI_PEER.INCARNATION j) osn) s =
      let p1 := { p with notes := p.notes ++ [(m, slba, nblk, osn)] }
      let s2 := (u.setStripe p1).ledger p1 0x42 (slba + m * 2 ^ 48) (nblk + bit zeroes * 2 ^ 32)
      .next (s2.setGroup { s2.group with owedNext := s2.group.owedNext ++ [(j.val, stripe, h.seq, if p.p = s2.own then 0 else 1)] }) := by
  obtain ⟨e, hu⟩ := ha
  change execRangeNote j h stripe slba nblk zeroes (u.rd Reg.GLI_PEER.INCARNATION j) osn s = _
  unfold execRangeNote
  simp only [e, hu, Bool.not_true, Bool.false_eq_true, if_false, hp, hm, hpar, beq_self_eq_true, Bool.and_true, if_true, ok]

theorem execContrib_eq (ha : s.Accepts j h u) {slot plan : Nat} (es : List Entry) : exec (.contrib j h stripe slot 0 plan es) s =
    .next (u.contribParity j h.seq stripe slot 0 es) := by
  obtain ⟨e, hu⟩ := ha
  change execContrib j h stripe slot 0 plan es s = _
  unfold execContrib
  simp only [e, hu, Bool.not_true, Bool.false_eq_true, if_false, Nat.zero_testBit, ok]

end

/-- Settles O49: the rows of peer stripes one by one, each from the lemmas on changes of state, contributions and acknowledgements. -/
theorem stripes : Obligations.Stripes := by
  intro s
  refine ⟨fun n hup hlead hst hn hfew => ?_, fun stripe p m hp hm hup hst hcl hlate => ?_, fun j h u stripe ha => ?_⟩
  · let k := min (s.rd Reg.GLI_STRIPE_CFG.K) (s.listed.length - 2)
    let vacant := ((List.range k).filter (fun m => !s.viewMask.testBit (s.memberAt (n + 2 + m)))).foldl setBit 0
    let s1 := s.setGroup { s.group with nextStripe := n + 1 }
    let dst := ([s.memberAt n, s.memberAt (n + 1)] ++ ((List.range k).filter (fun m => !vacant.testBit m)).map
      (fun m => s.memberAt (n + 2 + m))).filter (fun j => j != s.own)
    let words : State → List Nat := fun u => [n, k, s.memberAt n, s.memberAt (n + 1), vacant, u.viewNo]
    let s2 := dst.foldl (fun u j => u.sendMsg j 0x10 (words u)) s1
    have hrun : exec .stripeOpenIssue s = .next (s2.openStripe n k (s.memberAt n) (s.memberAt (n + 1)) vacant s1.viewNo) := by
      change execStripeOpenIssue s = _
      unfold execStripeOpenIssue
      refine (if_pos (by simp only [hup, hlead, hst, hfew]; rfl)).trans ?_
      rw [hn]
    have hsend : Sends s1 s2 := .foldl (fun u j => (Sends.refl u).sendMsg j _ _) dst (.refl s1)
    have hopen := hsend.openStripe n k (s.memberAt n) (s.memberAt (n + 1)) vacant s1.viewNo
    refine ⟨_, hrun, (congrArg Group.nextStripe hopen.group :), fun i hi hown hk => ?_, ?_⟩
    · have hdst : i ∈ dst := List.mem_filter.2 ⟨List.mem_append_left _ hi, bne_iff_ne.2 hown⟩
      obtain ⟨hd, hm⟩ := State.sendMsgs_sent (s := s1) (kind := 0x10) (g := words) (w := words s) dst hdst hk fun u ku => by
        change [n, k, _, _, vacant, u.viewNo] = [n, k, _, _, vacant, s.viewNo]
        rw [show u.viewNo = s.viewNo from ku.rd_eq (by simp) ..]
      exact ⟨hd, k, vacant, (s2.openStripe_keeps ..).steady.out.subset hm⟩
    · refine Frame.openStripe ?_ (by decide) (by decide) ..
      exact .foldl (fun u i _ => (Frame.refl ..).sendMsg (by decide) ..) ((Frame.refl ..).setGroup (by decide) _)
  · have hrun : exec (.sealWaitExpiry stripe) s = .next ((s.segClose p).sealIfClosed stripe) := by
      change execSealWaitExpiry stripe s = _
      unfold execSealWaitExpiry
      rw [hp]
      dsimp only
      rw [hm]
      exact if_pos (by simp [hup, hst, hcl, hlate])
    refine ⟨_, hrun, ?_, Frame.sealIfClosed (.then_keeps (.refl ..) (s.segClose_keeps p) (by decide) (by decide) (by decide)) (by decide)
      (by decide) _⟩
    rw [State.sealIfClosed_pstripe (State.segClose_pstripe hp hm), PStripe.sealedIf_close, PStripe.closeAt]
    simp only [hst, true_and]
  · obtain ⟨ht, hup, hks, hku⟩ := ha.taken
    obtain ⟨e, hu⟩ := id ha
    have hframe : u.frame = s.frame := ht.keeps.same .frame
    have hown : u.own = s.own := ht.keeps.rd_eq (by decide) ..
    refine ⟨?_, fun p slot granules hp hm hslot => ?_, fun slot plan es hnone => ?_,
      fun p p1 slot plan es hp hpar hm hslot hst hcl happ => ?_, fun p st slot plan es hp hpar hm hslot hst hcl happ => ?_,
      fun cseq role p m hm hosn hp hr hw => ?_, fun cseq role status hnone => ?_, fun p m slba nblk osn zeroes hp hm hpar => ?_,
      fun p state erased hp hstate hne => ?_, fun p state erased hp hsame => ?_⟩
    · intro k p q vacant view i hst hnone x hrole hins
      have hgst : u.gstate = s.gstate := ht.keeps.rd_eq (by decide) ..
      have hrun : exec (.stripeOpen j h stripe k p q vacant view) s = .next (u.openStripe stripe k p q vacant view) := by
        change execStripeOpen j h stripe k p q vacant view s = _
        unfold execStripeOpen
        simp only [e]
        exact if_pos (by simp [hu, hgst, hst])
      obtain ⟨h1, h2⟩ := State.openStripe_opens (k := k) (p := p) (q := q) (vacant := vacant) (view := view) hnone (by rw [hframe]; exact hrole) hins
      refine ⟨_, hrun, ?_, h2, (ht.frame (by decide)).openStripe (by decide) (by decide) ..⟩
      rw [h1, hframe]
    · let p1 : PStripe := { p with closed := setBit p.closed slot }
      let s2 := (u.setStripe p1).ledger p1 0x43 slot granules
      have hnum := State.pstripe_num hp
      have h2 : s2.pstripe stripe = some p1 :=
        (State.pstripe_of_stripes (congrArg Group.stripes (State.ledger_group ..)) stripe).trans (State.setStripe_pstripe hp hnum)
      refine ⟨_, execSegClose_eq ha granules hp hm hslot, ?_, fun hpar => ?_, ?_⟩
      · rw [State.sealIfClosed_pstripe h2, PStripe.sealedIf_close]
        rfl
      · have hpar1 : (u.setStripe p1).isParity p1 = true := (State.isParity_of_keeps (u.setStripe_keeps p1) (by decide) p).trans hpar
        have hrec := State.ledger_recorded hpar1 0x43 slot granules
        rw [show p1.num = stripe from hnum] at hrec
        exact ((Sends.refl s2).sealIfClosed stripe).journal.subset hrec
      · exact Frame.sealIfClosed (((ht.frame (by decide)).then_keeps (u.setStripe_keeps p1) (by decide) (by decide) (by decide)).then_keeps
          (State.ledger_keeps ..) (by decide) (by decide) (by decide)) (by decide) (by decide) _
    · have hrun : u.contribParity j h.seq stripe slot 0 es = u.contribRefused j h.seq stripe 0 1 := by
        unfold State.contribParity
        dsimp only
        rw [hnone]
        rfl
      obtain ⟨h1, h2, -, h4⟩ := State.contribRefused_refuses (seq := h.seq) (num := stripe) (role := 0) (st := 1) hku
      exact ⟨_, (execContrib_eq ha es).trans (congrArg _ hrun), h1, h2, (ht.frame (by decide)).trans h4⟩
    · have hrun := State.contribParity_open (seq := h.seq) (es := es) hp hpar hm hslot hst hcl
      rw [happ, hown] at hrun
      obtain ⟨h1, h2, h3, h4⟩ := State.contribApplied_applies (j := j) (seq := h.seq) (slot := slot) (es := es)
        (role := if p.p = s.own then 0 else 1) hp ((State.applyEntries_num happ).trans (State.pstripe_num hp))
      exact ⟨_, (execContrib_eq ha es).trans (congrArg _ hrun), h1, h2, h3, (ht.frame (by decide)).trans h4⟩
    · have hrun := State.contribParity_open (seq := h.seq) (es := es) hp hpar hm hslot hst hcl
      rw [happ, hown] at hrun
      obtain ⟨h1, h2, h3, h4⟩ := State.contribRefused_refuses (seq := h.seq) (num := stripe) (role := if p.p = s.own then 0 else 1) (st := st) hku
      exact ⟨_, (execContrib_eq ha es).trans (congrArg _ hrun), h1, h2, h3, (ht.frame (by decide)).trans h4⟩
    · let s1 := u.setGroup { u.group with sent := u.group.sent.filter (fun x => decide (x ≠ m)) }
      obtain ⟨h1, h2, h3⟩ := State.acked_acks (s := s1) (role := role) (show s1.pstripe stripe = some p from hp) hw
      refine ⟨_, execContribAck_eq ha hm hosn hp hr, ?_, ?_, ((ht.frame (by decide)).setGroup (by decide) _).trans h3⟩
      · rw [h2]
        exact fun hm => by simpa using (List.mem_filter.1 hm).2
      · rw [h1]
        rfl
    · change execContribAck j h stripe cseq role status s = _
      unfold execContribAck
      simp only [e, hu, Bool.true_and, hnone, ok]
    · have hinc : u.rd Reg.GLI_PEER.INCARNATION j = s.rd Reg.GLI_PEER.INCARNATION j := ht.keeps.rd_eq (by decide) ..
      let p1 : PStripe := { p with notes := p.notes ++ [(m, slba, nblk, osn)] }
      let s1 := u.setStripe p1
      let s2 := s1.ledger p1 0x42 (slba + m * 2 ^ 48) (nblk + bit zeroes * 2 ^ 32)
      have hnum := State.pstripe_num hp
      have k2 := (u.setStripe_keeps p1).then (s1.ledger_keeps p1 0x42 (slba + m * 2 ^ 48) (nblk + bit zeroes * 2 ^ 32))
      have hown2 : s2.own = s.own := (k2.rd_eq (by decide) ..).trans hown
      have h2 : s2.pstripe stripe = some p1 :=
        (State.pstripe_of_stripes (congrArg Group.stripes (State.ledger_group ..)) stripe).trans (State.setStripe_pstripe hp hnum)
      have hpar1 : s1.isParity p1 = true := (State.isParity_of_keeps (u.setStripe_keeps p1) (by decide) p).trans hpar
      have hrec := State.ledger_recorded hpar1 0x42 (slba + m * 2 ^ 48) (nblk + bit zeroes * 2 ^ 32)
      rw [show p1.num = stripe from hnum] at hrec
      have hrun := execRangeNote_eq ha (slba := slba) (nblk := nblk) (osn := osn) (zeroes := zeroes) hp hm hpar
      rw [hinc] at hrun
      refine ⟨_, hrun, h2, hrec, ?_, ?_⟩
      · rw [← hown2]
        exact List.mem_append_right _ (.head _)
      · exact ((ht.frame (by decide)).then_keeps k2 (by decide) (by decide) (by decide)).setGroup (by decide) _
    · have hrun : exec (.stripeState j h stripe state erased) s = .next (u.stripeGo { p with erased := erased } (stripeStOf state)) := by
        change execStripeState j h stripe state erased s = _
        unfold execStripeState
        simp only [e, hp]
        exact if_pos (by simpa [hu, hstate] using hne)
      refine ⟨_, hrun, ?_, (ht.frame (by decide)).stripeGo (by decide) (by decide) _ _⟩
      rw [State.stripeGo_pstripe (p := { p with erased := erased }) hp (show p.num = stripe from State.pstripe_num hp)]
      rfl
    · change execStripeState j h stripe state erased s = _
      unfold execStripeState
      simp only [e, hp]
      refine if_neg ?_
      obtain hbig | ⟨hst, her⟩ := hsame
      · simp [Nat.not_lt.2 hbig]
      · simp [hst, her]

end Sys2Proof.Machine
end

section
/-! PROOFS. Rebuilds of peer stripes: plans, chunks, checkpoints, reconciliation, outer reads and patrol (R411 to R421; O50). -/

set_option Elab.async false

namespace Sys2Proof.Machine

/-! ### Pushes (R407) -/

section
variable {s t u : State}

/-- A fold whose accumulator holds a state. -/
theorem Sends.foldl_on {α β : Type} (f : α → State) {g : α → β → α} (hg : ∀ a b, Sends (f a) (f (g a b))) (l : List β) {a : α}
    (k : Sends s (f a)) : Sends s (f (l.foldl g a)) := by
  induction l generalizing a with
  | nil => exact k
  | cons b l ih => exact ih (k.trans (hg a b))

/-- One granule of a push written into a staging slot. -/
def pushGran (j : Nat) (acc : List Nat × List Nat × State) (g : Nat × Option Block × GHead) : List Nat × List Nat × State :=
  match g.2.1 with
  | none => (acc.1 ++ [g.1, 1, 0, 0], acc.2.1, acc.2.2)
  | some b =>
    let st := acc.2.2.nextStage j
    (acc.1 ++ [g.1, 0, st.1, (dg b).toNat], acc.2.1 ++ [st.1], st.2.emit (.peerWrite j st.1 b))

/-- The state with every granule of a push staged. -/
def State.staging (s : State) (j : Nat) (l : List (Nat × Option Block × GHead)) : List Nat × List Nat × State := l.foldl (pushGran j) ([], [], s)

theorem State.staging_keeps (s : State) (j : Nat) (l : List (Nat × Option Block × GHead)) :
    Keeps [.group, .buses] [] s (s.staging j l).2.2 := by
  refine Keeps.foldl_on (fun a : List Nat × List Nat × State => a.2.2) (.refl ..) fun a g => ?_
  unfold pushGran
  split
  · exact .refl ..
  · exact .emit (.mono (a.2.2.nextStage_keeps j))

theorem State.nextStage_sends (s : State) (j : Nat) : Sends s (s.nextStage j).2 := (Sends.refl s).setGroup rfl rfl

theorem State.staging_sends (s : State) (j : Nat) (l : List (Nat × Option Block × GHead)) : Sends s (s.staging j l).2.2 := by
  refine Sends.foldl_on (fun a : List Nat × List Nat × State => a.2.2) (fun a g => ?_) l (.refl s)
  unfold pushGran
  split
  · exact .refl _
  · exact (a.2.2.nextStage_sends j).emit _

theorem State.staging_stripes (s : State) (j : Nat) (l : List (Nat × Option Block × GHead)) :
    (s.staging j l).2.2.group.stripes = s.group.stripes := by
  suffices ∀ (l : List (Nat × Option Block × GHead)) (a : List Nat × List Nat × State),
      (l.foldl (pushGran j) a).2.2.group.stripes = a.2.2.group.stripes from this l _
  intro l
  induction l with
  | nil => exact fun _ => rfl
  | cons g l ih =>
    intro a
    refine (ih _).trans ?_
    unfold pushGran
    split <;> rfl

/-- A push: the granules staged, then the message that names them, kept until it is acknowledged. -/
theorem State.push_eq (s : State) (j num slot flags plan : Nat) (l : List (Nat × Option Block × GHead)) : s.push j num slot flags plan l =
    if s.linked j && !l.isEmpty then
      let r := s.staging j l
      let s1 := r.2.2.sendMsg j 0x11 ([num, slot, flags, l.length, plan] ++ r.1)
      let m : Sent := { peer := j, seq := (r.2.2.peer j).sendSeq, stripe := num, slot := slot, withdraw := flags.testBit 0, offs := l.map (·.1),
                        stages := r.2.1 }
      s1.setGroup { s1.group with sent := s1.group.sent ++ [m] }
    else s := rfl

theorem Sends.push (k : Sends s t) (j num slot flags plan : Nat) (l : List (Nat × Option Block × GHead)) :
    Sends s (t.push j num slot flags plan l) := by
  rw [State.push_eq]
  exact .ite (Sends.setGroup ((k.trans (t.staging_sends j l)).sendMsg _ _ _) rfl rfl) k

theorem State.push_stripes (s : State) (j num slot flags plan : Nat) (l : List (Nat × Option Block × GHead)) :
    (s.push j num slot flags plan l).group.stripes = s.group.stripes := by
  rw [State.push_eq]
  split
  · exact ((s.staging j l).2.2.sendMsg_stripes ..).trans (s.staging_stripes j l)
  · rfl

/-- A push to a member whose session is Linked ends with its CONTRIB on the bus. -/
theorem State.push_sent {j : Nat} {l : List (Nat × Option Block × GHead)} (hk : s.linked j = true) (hl : l.isEmpty = false)
    (num slot flags plan : Nat) : ∃ w, (s.push j num slot flags plan l).out.head? = some (.peer j 0x11 w) := by
  have hstaged : (s.staging j l).2.2.linked j = true := (congrArg (· == 2) ((s.staging_keeps j l).rd_eq (by simp) ..)).trans hk
  refine ⟨[((s.staging j l).2.2.peer j).sendSeq, (s.staging j l).2.2.viewNo, ((s.staging j l).2.2.peer j).recvSeq - 1,
    (s.staging j l).2.2.rd Reg.GLI_PEER.EPOCH j] ++ ([num, slot, flags, l.length, plan] ++ (s.staging j l).1), ?_⟩
  rw [State.push_eq, if_pos (by rw [hk, hl]; rfl)]
  exact congrArg List.head? (State.sendMsg_out _ hstaged ..)

/-! ### Plans and checkpoints (R415, R416, R419) -/

theorem State.sourcePushes_stripes (s : State) (p : PStripe) (plan first : Nat) : (s.sourcePushes p plan first).group.stripes = s.group.stripes := by
  unfold State.sourcePushes
  split
  · rfl
  · refine s.foldl_same (fun u => u.group.stripes) (fun u i => ?_) _
    dsimp only
    split
    · rfl
    · exact u.push_stripes ..

theorem Sends.sourcePushes (k : Sends s t) (p : PStripe) (plan first : Nat) : Sends s (t.sourcePushes p plan first) := by
  unfold State.sourcePushes
  split
  · exact k
  · exact .foldl (fun u i => .ite (.refl u) ((Sends.refl u).push ..)) _ k

/-- The stripe under a plan. -/
def PStripe.planned (p : PStripe) (plan erased first : Nat) : PStripe :=
  { p with plan := plan, erased := erased, next := first, done := 2 ^ first - 1 }

/-- A plan taken, before its pushes. -/
def State.planTaken (s : State) (p : PStripe) (plan : Nat) : State :=
  let s1 := s.stripeGo p .rebuilding
  if (s1.targets p).any (fun t => t.2 == s.own) then (s1.wr Reg.GLI_REBUILD.TARGET 1).event 0x30 0x0111 plan else s1

theorem State.takePlan_eq (s : State) (p : PStripe) (plan erased first : Nat) : s.takePlan p plan erased first =
    (s.planTaken (p.planned plan erased first) plan).sourcePushes { p.planned plan erased first with st := .rebuilding } plan first := rfl

theorem Frame.takePlan {ps : List Part} {rs : List Fld} (k : Frame ps rs s t) (hp : stripeParts ⊆ ps) (hr : stripeRegs ⊆ rs)
    (ht : Reg.GLI_REBUILD.TARGET ∈ rs) (p : PStripe) (plan erased first : Nat) : Frame ps rs s (t.takePlan p plan erased first) := by
  have h1 := k.stripeGo hp hr (p.planned plan erased first) .rebuilding
  rw [State.takePlan_eq]
  refine Frame.then_keeps (.ite ?_ h1) (State.sourcePushes_keeps ..) (fun q hq => hp ?_) (List.nil_subset _) nofun
  · exact (h1.then_wr ht 1 (by decide) (by decide)).then_event (hp (by decide)) ..
  · exact (by decide : [Part.group, .buses] ⊆ stripeParts) hq

theorem Sends.takePlan (k : Sends s t) (p : PStripe) (plan erased first : Nat) : Sends s (t.takePlan p plan erased first) := by
  have h1 := k.stripeGo (p.planned plan erased first) .rebuilding
  rw [State.takePlan_eq]
  exact Sends.sourcePushes (.ite ((h1.wr _ _ _ _).event _ _ _ _) h1) ..

theorem State.takePlan_pstripe {n plan erased first : Nat} {x p : PStripe} (h : s.pstripe n = some x) (hp : p.num = n) :
    (s.takePlan p plan erased first).pstripe n = some ((p.planned plan erased first).goTo .rebuilding) := by
  rw [State.takePlan_eq, State.pstripe_of_stripes (State.sourcePushes_stripes ..)]
  have h1 := State.stripeGo_pstripe (p := p.planned plan erased first) h hp .rebuilding
  unfold State.planTaken
  dsimp only
  split
  · exact h1
  · exact h1

theorem Sends.checkpoint (k : Sends s t) (p : PStripe) : Sends s (t.checkpoint p) :=
  Sends.sendMsg (Sends.setGroup (g := { (t.record _).group with ckptAt := (t.record _).frame }) (k.record _) rfl rfl) _ _ _

theorem State.checkpoint_stripes (s : State) (p : PStripe) : (s.checkpoint p).group.stripes = s.group.stripes := State.sendMsg_stripes ..

theorem State.checkpoint_recorded (s : State) (p : PStripe) :
    .ledger 0x46 p.num (p.plan + p.next * 2 ^ 32) p.erased ∈ (s.checkpoint p).ftl.journal.collecting := by
  refine (Sends.sendMsg (.refl (State.setGroup (s.record _) _)) ..).journal.subset ?_
  exact List.mem_append_right _ (.head _)

/-! ### Chunks (R412, R419) -/

/-- The stripe with every chunk rebuilt. -/
def PStripe.whole (p : PStripe) : PStripe := { p with erased := 0, done := 0 }

/-- The state a rebuilt stripe goes to. -/
def PStripe.wholeSt (p : PStripe) : StripeSt :=
  if p.tally.any (fun e => e.2.st == 2) || p.grans.any (fun g => g.withdrawn) then .thinning else .sealed

/-- A rebuilt stripe, reported to its parity members. -/
def State.wholeTold (s : State) (p : PStripe) : State :=
  [p.p, p.q].foldl (fun s j => if j = s.own then s else s.sendMsg j 0x15 [p.num,
    if p.tally.any (fun e => e.2.st == 2) || p.grans.any (fun g => g.withdrawn) then 2 else 1, 0])
    ((s.stripeGo p.whole p.wholeSt).event 0x30 0x0112 (p.num % 2 ^ 32))

theorem State.rebuilt_eq (s : State) (p : PStripe) : s.rebuilt p =
    if (s.wholeTold p).group.stripes.any (fun x => decide (x.st = .rebuilding)) then s.wholeTold p
    else (s.wholeTold p).wr Reg.GLI_REBUILD.PLANNING 0 := rfl

theorem State.wholeTold_pstripe {n : Nat} {x p : PStripe} (h : s.pstripe n = some x) (hp : p.num = n) :
    (s.wholeTold p).pstripe n = some (p.whole.goTo p.wholeSt) := by
  have h1 : ((s.stripeGo p.whole p.wholeSt).event 0x30 0x0112 (p.num % 2 ^ 32)).pstripe n = some (p.whole.goTo p.wholeSt) :=
    State.stripeGo_pstripe (p := p.whole) h hp _
  refine (State.pstripe_of_stripes (State.foldl_same _ (fun u => u.group.stripes) (fun u j => ?_) _) n).trans h1
  split
  · rfl
  · exact u.sendMsg_stripes ..

theorem State.rebuilt_pstripe {n : Nat} {x p : PStripe} (h : s.pstripe n = some x) (hp : p.num = n) :
    (s.rebuilt p).pstripe n = some (p.whole.goTo p.wholeSt) := by
  rw [State.rebuilt_eq]
  split
  · exact State.wholeTold_pstripe h hp
  · exact State.wholeTold_pstripe h hp

theorem Frame.rebuilt {ps : List Part} {rs : List Fld} (k : Frame ps rs s t) (hp : stripeParts ⊆ ps) (hr : stripeRegs ⊆ rs)
    (hpl : Reg.GLI_REBUILD.PLANNING ∈ rs) (p : PStripe) : Frame ps rs s (t.rebuilt p) := by
  have hsend : [Part.group, .buses] ⊆ ps := fun q hq => hp ((by decide : [Part.group, .buses] ⊆ stripeParts) hq)
  have h1 : Frame ps rs s (t.wholeTold p) :=
    .foldl (fun u j _ => .ite (.refl ..) ((Frame.refl ..).sendMsg hsend ..)) ((k.stripeGo hp hr _ _).then_event (hp (by decide)) ..)
  rw [State.rebuilt_eq]
  exact .ite h1 (h1.then_wr hpl 0 (by decide) (by decide))

/-- The stripe with one more chunk of its plan done. -/
def PStripe.chunkAt (p : PStripe) (chunk : Nat) : PStripe :=
  { p with done := setBit p.done chunk, next := ((List.range 1024).find? (fun c => !(setBit p.done chunk).testBit c)).getD 1024 }

theorem PStripe.chunkAt_num (p : PStripe) (chunk : Nat) : (p.chunkAt chunk).num = p.num := by rw [PStripe.chunkAt]

theorem PStripe.chunkAt_shown (p : PStripe) (chunk : Nat) : ((p.chunkAt chunk).st, (p.chunkAt chunk).done) = (p.st, setBit p.done chunk) := by
  rw [PStripe.chunkAt]

theorem State.chunkDone_eq (s : State) (p : PStripe) (chunk status : Nat) : s.chunkDone p chunk status =
    let s1 := (s.setStripe (p.chunkAt chunk)).checkpoint (p.chunkAt chunk)
    if status = 1 then s1.stripeGo (p.chunkAt chunk) .lost else if (p.chunkAt chunk).next = 1024 then s1.rebuilt (p.chunkAt chunk) else s1 := by
  unfold State.chunkDone PStripe.chunkAt
  dsimp only

theorem testBit_setBit_ne (n : Nat) {i k : Nat} (h : k ≠ i) : (setBit n i).testBit k = n.testBit k := by
  simp [setBit, Nat.testBit_or, Ne.symm h]

/-- Another chunk that is not done is still to come. -/
theorem PStripe.chunkAt_next_of_missing {p : PStripe} {chunk : Nat} (h : ∃ c < 1024, c ≠ chunk ∧ p.done.testBit c = false) :
    (p.chunkAt chunk).next ≠ 1024 := by
  obtain ⟨c, hc, hne, hd⟩ := h
  obtain ⟨d, hfind⟩ : ∃ d, (List.range 1024).find? (fun c => !(setBit p.done chunk).testBit c) = some d :=
    Option.isSome_iff_exists.1 (List.find?_isSome.2 ⟨c, List.mem_range.2 hc, by rw [testBit_setBit_ne _ hne, hd]; rfl⟩)
  have hd : d < 1024 := List.mem_range.1 (List.mem_of_find?_eq_some hfind)
  rw [PStripe.chunkAt, hfind]
  exact Nat.ne_of_lt hd

/-- With every other chunk done the plan is complete. -/
theorem PStripe.chunkAt_next_of_all {p : PStripe} {chunk : Nat} (h : ∀ c < 1024, c ≠ chunk → p.done.testBit c = true) :
    (p.chunkAt chunk).next = 1024 := by
  have hfind : (List.range 1024).find? (fun c => !(setBit p.done chunk).testBit c) = none := by
    refine List.find?_eq_none.2 fun c hc => ?_
    by_cases hcc : c = chunk
    · rw [hcc, testBit_setBit_self]
      decide
    · rw [testBit_setBit_ne _ hcc, h c (List.mem_range.1 hc) hcc]
      decide
  rw [PStripe.chunkAt, hfind]
  rfl

/-- What a chunk leaves of its stripe, before its state follows. -/
theorem State.chunkKept_pstripe {n chunk : Nat} {p : PStripe} (h : s.pstripe n = some p) :
    ((s.setStripe (p.chunkAt chunk)).checkpoint (p.chunkAt chunk)).pstripe n = some (p.chunkAt chunk) :=
  (State.pstripe_of_stripes (State.checkpoint_stripes ..) n).trans (State.setStripe_pstripe h ((p.chunkAt_num chunk).trans (State.pstripe_num h)))

theorem Frame.chunkDone {ps : List Part} {rs : List Fld} (k : Frame ps rs s t) (hp : stripeParts ⊆ ps) (hr : stripeRegs ⊆ rs)
    (hpl : Reg.GLI_REBUILD.PLANNING ∈ rs) (p : PStripe) (chunk status : Nat) : Frame ps rs s (t.chunkDone p chunk status) := by
  have k0 := (t.setStripe_keeps (p.chunkAt chunk)).then (State.checkpoint_keeps (t.setStripe (p.chunkAt chunk)) (p.chunkAt chunk))
  have h1 := k.then_keeps k0 (fun q hq => hp ((by decide : [Part.group] ++ [.ftl, .group, .buses] ⊆ stripeParts) hq))
    (fun r hm => hr ((by decide : countRegs ++ [] ⊆ stripeRegs) hm)) (by decide)
  rw [State.chunkDone_eq]
  exact .ite (h1.stripeGo hp hr _ _) (.ite (h1.rebuilt hp hr hpl _) h1)

/-! ### Outer patrol (R331 to R333) -/

/-- The outer patrol's requests replaced. -/
def State.withWaits (s : State) (l : List PatrolWait) : State := { s with patrol := { s.patrol with waits := l } }

theorem State.withWaits_keeps (s : State) (l : List PatrolWait) : Keeps [.patrol] [] s (s.withWaits l) := .with_patrol (.refl ..)

theorem State.withWaits_digests (s : State) (l : List PatrolWait) (p : PStripe) (c : Nat) :
    (s.withWaits l).chunkDigests p c = s.chunkDigests p c := rfl

theorem State.chunkDigests_length (s : State) (p : PStripe) (c : Nat) : (s.chunkDigests p c).length = 2 := by
  unfold State.chunkDigests
  dsimp only
  split <;> rfl

theorem List.length_flatMap_pairs {f : Nat → List Nat} (hf : ∀ i, (f i).length = 2) (n : Nat) : ((List.range n).flatMap f).length = 2 * n := by
  simp [List.length_flatMap, hf, Nat.mul_comm]

/-- The requests that stay when one of a chunk has been judged. -/
def State.judged (s : State) (w : PatrolWait) : State :=
  s.withWaits (s.patrol.waits.filter (fun x => decide (x.stripe ≠ w.stripe ∨ x.chunk ≠ w.chunk)))

/-- One chunk of a request judged. -/
def State.judgeChunk (s : State) (p : PStripe) (w : PatrolWait) (i : Nat) : State :=
  let c := patrolCompare ((s.chunkDigests p (w.chunk + i)).headD 0) w.replies i
  if c.1 && c.2 then s
  else (s.bump Reg.MIN_CNT.OUTER_MISMATCH).event 0x26 0x0104 ((w.chunk + i) % 1024 + bit (!c.1) * 2 ^ 10 + bit (!c.2) * 2 ^ 11)

theorem State.patrolJudge_eq (s : State) (p : PStripe) (w : PatrolWait) : s.patrolJudge p w =
    if w.replies.any (fun r => r.status == 3) then (s.judged w).sendMsg (s.judged w).steward 0x15 [p.num, p.st.code, p.erased]
    else if w.replies.any (fun r => r.status == 2) then s.judged w
    else (List.range w.count).foldl (fun s i => s.judgeChunk p w i) (s.judged w) := rfl

theorem State.judgeChunk_keeps (s : State) (p : PStripe) (w : PatrolWait) (i : Nat) :
    Keeps [.log] [Reg.MIN_CNT.OUTER_MISMATCH] s (s.judgeChunk p w i) := .ite (.refl ..) (.event (.bump (.refl ..)))

theorem State.patrolJudge_waits (s : State) (p : PStripe) (w : PatrolWait) :
    ∀ x ∈ (s.patrolJudge p w).patrol.waits, x.stripe ≠ w.stripe ∨ x.chunk ≠ w.chunk := by
  have k : Keeps [.group, .buses, .log] [Reg.MIN_CNT.OUTER_MISMATCH] (s.judged w) (s.patrolJudge p w) := by
    rw [State.patrolJudge_eq]
    exact .ite (.mono (State.sendMsg_keeps ..)) (.ite (.refl ..) (.foldl (.refl ..) fun u i => .mono (u.judgeChunk_keeps p w i)))
  rw [k.same .patrol]
  exact fun x hx => of_decide_eq_true (List.mem_filter.1 hx).2

/-- A reply that says the chunk cannot be judged. -/
theorem State.patrolJudge_unjudged (s : State) {p : PStripe} {w : PatrolWait} (h : ∃ x ∈ w.replies, x.status = 3 ∨ x.status = 2) :
    Keeps [.patrol, .group, .buses] [] s (s.patrolJudge p w) := by
  have k : Keeps [.patrol, .group, .buses] [] s (s.judged w) := .mono (s.withWaits_keeps _)
  obtain ⟨x, hx, hst⟩ := h
  rw [State.patrolJudge_eq]
  split
  · exact .andThen k (State.sendMsg_keeps ..)
  · next h3 =>
    have h2 : w.replies.any (fun r => r.status == 2) = true := by
      obtain h | h := hst
      · exact absurd (List.any_eq_true.2 ⟨x, hx, by simpa using h⟩) h3
      · exact List.any_eq_true.2 ⟨x, hx, beq_iff_eq.2 h⟩
    rw [if_pos h2]
    exact k

/-- One chunk that every role has answered for. -/
theorem State.patrolJudge_one (s : State) {p : PStripe} {w : PatrolWait} (hone : w.count = 1)
    (h : ∀ x ∈ w.replies, x.status ≠ 3 ∧ x.status ≠ 2) : s.patrolJudge p w = (s.judged w).judgeChunk p w 0 := by
  have none_of : ∀ n, (∀ x ∈ w.replies, x.status ≠ n) → ¬ w.replies.any (fun r => r.status == n) = true := fun n hn ha => by
    obtain ⟨x, hx, hst⟩ := List.any_eq_true.1 ha
    exact hn x hx (beq_iff_eq.1 hst)
  rw [State.patrolJudge_eq, if_neg (none_of 3 fun x hx => (h x hx).1), if_neg (none_of 2 fun x hx => (h x hx).2), hone]
  rfl

/-- A mismatch found in one chunk is counted and recorded. -/
theorem State.judgeChunk_mismatch (s : State) {p : PStripe} {w : PatrolWait}
    (h : ((patrolCompare ((s.chunkDigests p w.chunk).headD 0) w.replies 0).1 && (patrolCompare ((s.chunkDigests p w.chunk).headD 0) w.replies 0).2)
      = false) :
    (s.judgeChunk p w 0).rd Reg.MIN_CNT.OUTER_MISMATCH = min (s.rd Reg.MIN_CNT.OUTER_MISMATCH + 1) (2 ^ Reg.MIN_CNT.OUTER_MISMATCH.w - 1) ∧
    (s.judgeChunk p w 0).events.head?.map (fun e => (e.source, e.code, e.detail)) = some (0x26, 0x0104,
      w.chunk % 1024 + bit (!(patrolCompare ((s.chunkDigests p w.chunk).headD 0) w.replies 0).1) * 2 ^ 10
        + bit (!(patrolCompare ((s.chunkDigests p w.chunk).headD 0) w.replies 0).2) * 2 ^ 11) := by
  have hrun : s.judgeChunk p w 0 = (s.bump Reg.MIN_CNT.OUTER_MISMATCH).event 0x26 0x0104 (w.chunk % 1024
      + bit (!(patrolCompare ((s.chunkDigests p w.chunk).headD 0) w.replies 0).1) * 2 ^ 10
      + bit (!(patrolCompare ((s.chunkDigests p w.chunk).headD 0) w.replies 0).2) * 2 ^ 11) := if_neg (by rw [Nat.add_zero, h]; decide)
  rw [hrun]
  refine ⟨State.rd_bump_same .., ?_⟩
  rw [State.event_head]
  rfl

end

/-! ### The rows (O50) -/

section
variable {s u : State} {j : Fin 24} {h : Hdr} {stripe : Nat}

theorem execRebuildPlan_eq (ha : s.Accepts j h u) {p : PStripe} (plan erased first : Nat) (hp : u.pstripe stripe = some p) (hst : u.steward = j) :
    exec (.rebuildPlan j h plan u.viewNo stripe erased first) s =
      if p.plan < plan then .next (u.takePlan p plan erased first) else .next u := by
  obtain ⟨e, hu⟩ := ha
  change execRebuildPlan j h plan u.viewNo stripe erased first s = _
  unfold execRebuildPlan
  simp only [e, hu, hst, hp, bne_self_eq_false, Bool.not_true, Bool.or_false, Bool.false_eq_true, if_false, Option.isSome_some, if_true, ok]

theorem execChunkDone_eq (ha : s.Accepts j h u) {p : PStripe} {chunk status unsolved : Nat} (hp : u.pstripe stripe = some p) (hlead : u.leads = true)
    (hst : p.st = .rebuilding) (hc : chunk < 1024) : exec (.chunkDone j h p.plan stripe chunk status unsolved) s =
    .next (u.chunkDone p chunk (if unsolved = 0 then status else 1)) := by
  obtain ⟨e, hu⟩ := ha
  change execChunkDone j h p.plan stripe chunk status unsolved s = _
  unfold execChunkDone
  simp only [e, hp]
  exact if_pos (by simp [hu, hlead, hst, hc])

/-- The own states of a range as LEDGER_SYNC spells them. -/
def PStripe.granStates (p : PStripe) (first n : Nat) : List Nat := (List.range n).map (fun i => p.granState (first + i))

theorem execLedgerSync_own (ha : s.Accepts j h u) {p : PStripe} {slot first : Nat} {states : List Nat} (hp : u.pstripe stripe = some p)
    (hslot : slot < 22) (hown : u.slotOfMember p u.own = some slot) : ∃ v, Sends u v ∧ Keeps [.group, .buses] [] u v ∧
      v.group.stripes = u.group.stripes ∧ exec (.ledgerSync j h stripe slot first states) s =
        .next (v.sendMsg j 0x19 ([stripe, slot, first] ++ p.granStates first states.length)) := by
  obtain ⟨e, hu⟩ := ha
  change ∃ v, Sends u v ∧ Keeps [.group, .buses] [] u v ∧ v.group.stripes = u.group.stripes ∧ execLedgerSync j h stripe slot first states s = _
  unfold execLedgerSync
  simp only [e, hu, Bool.not_true, Bool.false_eq_true, if_false, hp, Nat.not_le.2 hslot, hown, if_true]
  exact ⟨_, ((Sends.refl u).push ..).push .., (State.push_keeps ..).trans (State.push_keeps ..),
    (State.push_stripes ..).trans (State.push_stripes ..), rfl⟩

theorem execPatrolRequest_eq (ha : s.Accepts j h u) (chunk count : Nat) : ∃ slot status d, List.length d = 2 * count ∧
    (u.pstripe stripe = none → status = 3) ∧ exec (.patrolRequest j h stripe chunk count) s =
      .next (u.sendMsg j 0x31 ([stripe, chunk, count, u.own, slot, status] ++ d)) := by
  obtain ⟨e, hu⟩ := ha
  change ∃ slot status d, List.length d = 2 * count ∧ (u.pstripe stripe = none → status = 3) ∧ execPatrolRequest j h stripe chunk count s = _
  unfold execPatrolRequest
  simp only [e, hu, Bool.not_true, Bool.false_eq_true, if_false]
  cases u.pstripe stripe with
  | none => exact ⟨0, 3, _, List.length_replicate, fun _ => rfl, rfl⟩
  | some p =>
    exact ⟨_, _, (List.range count).flatMap (fun i => u.chunkDigests p (chunk + i)),
      List.length_flatMap_pairs (fun i => u.chunkDigests_length p _) count, nofun, rfl⟩

theorem execPatrolReply_eq (ha : s.Accepts j h u) {p : PStripe} {w : PatrolWait} (slot status : Nat) (digests : List Nat)
    (hp : u.pstripe stripe = some p)
    (hw : u.patrol.waits.find? (fun x => x.stripe == stripe && x.chunk == w.chunk && x.count == w.count) = some w) :
    exec (.patrolReply j h stripe w.chunk w.count slot status digests) s =
      let w1 := { w with replies := w.replies.filter (fun x => x.slot != slot) ++
                                      [{ member := j, slot := slot, status := status, digests := digests }] }
      let s2 := u.withWaits (u.patrol.waits.map (fun x => if x = w then w1 else x))
      if (u.patrolRoles p).all (fun k => w1.replies.any (fun x => x.slot == k)) then .next (s2.patrolJudge p w1) else .next s2 := by
  obtain ⟨e, hu⟩ := ha
  change execPatrolReply j h stripe w.chunk w.count slot status digests s = _
  unfold execPatrolReply
  simp only [e, hu, Bool.not_true, Bool.false_eq_true, if_false, hp, hw]
  rfl

end

/-- Settles O50: plans, chunks and checkpoints, then reconciliation, outer reads and the outer patrol, row by row. -/
theorem rebuilds : Obligations.Rebuilds := by
  intro s
  refine ⟨fun hup hlead hlate => ?_, fun hserv => ?_, fun j h u stripe ha => ?_⟩
  · have hrun : exec .checkpointTimer s =
        .next ((s.group.stripes.filter (fun p => decide (p.st = .rebuilding))).foldl (fun s p => s.checkpoint p) s) :=
      if_pos (by simp [hup, hlead, hlate])
    refine ⟨_, hrun, .foldl (fun u p _ => (Frame.refl ..).then_keeps (u.checkpoint_keeps p) (by decide) (by decide) nofun) (.refl ..),
      fun p hp hst => ?_⟩
    exact Sends.foldl_recorded (f := fun p : PStripe => .ledger 0x46 p.num (p.plan + p.next * 2 ^ 32) p.erased)
      (fun u p => (Sends.refl u).checkpoint p) (fun u p => u.checkpoint_recorded p) _ s p (List.mem_filter.2 ⟨hp, decide_eq_true hst⟩)
  · refine ⟨_, if_pos hserv, fun w => ?_, (s.withWaits_keeps _).frame nofun⟩
    exact List.mem_filter.trans (and_congr_right fun _ => decide_eq_true_iff)
  · obtain ⟨ht, hup, hks, hku⟩ := ha.taken
    obtain ⟨e, hu⟩ := id ha
    have hown : u.own = s.own := ht.keeps.rd_eq (by decide) ..
    have hsteward : u.steward = s.steward := ht.keeps.rd_eq (by decide) ..
    have hview : u.viewNo = s.viewNo := ht.keeps.rd_eq (by decide) ..
    have hleads : u.leads = s.leads := by
      have hlease : u.group.lease = s.group.lease := (congrArg Group.lease ht.group :)
      rw [State.leads, State.on, ht.keeps.rd_eq (by decide), ht.keeps.same .frame, hlease]
      rfl
    refine ⟨fun p plan erased first hp hst => ⟨fun hle => ?_, fun hlt => ?_⟩, fun plan view erased first hbad => ?_,
      fun p chunk status unsolved hp hlead hst hc => ?_, fun plan next erased => ⟨fun hne => ?_, fun hst => ?_⟩,
      fun slot first states => ⟨fun hnone => ?_, fun p hp hslot hmine => ?_, fun p b hp hslot hrole hb hst => ?_⟩,
      fun p slot first count hp => ⟨fun hm h1 h16 => ?_, fun hbad => ?_⟩, fun chunk count => ?_,
      fun p w slot status digests hp hw => ?_⟩
    · rw [← hview, execRebuildPlan_eq ha plan erased first hp (hsteward.trans hst)]
      exact if_neg (Nat.not_lt.2 hle)
    · rw [← hview, execRebuildPlan_eq ha plan erased first hp (hsteward.trans hst), if_pos hlt]
      refine ⟨_, rfl, ?_, (ht.frame (by decide)).takePlan (by decide) (by decide) (by decide) ..⟩
      rw [State.takePlan_pstripe hp (State.pstripe_num hp)]
      rfl
    · change execRebuildPlan j h plan view stripe erased first s = _
      unfold execRebuildPlan
      simp only [e]
      refine if_pos ?_
      rw [← hview, ← hsteward] at hbad
      obtain hv | hs := hbad
      · simp [hu, hv]
      · simp [hu, Ne.symm hs]
    · refine ⟨_, execChunkDone_eq ha hp (hleads.trans hlead) hst hc, fun hbad => ?_, fun h0 h1 hmore => ?_, fun h0 h1 hall => ?_,
        (ht.frame (by decide)).chunkDone (by decide) (by decide) (by decide) ..⟩
      · have hlost : (if unsolved = 0 then status else 1) = 1 := by
          split
          · next h0 => exact hbad.resolve_left (not_not.2 h0)
          · rfl
        rw [hlost, State.chunkDone_eq]
        dsimp only
        rw [if_pos rfl, State.stripeGo_pstripe (State.chunkKept_pstripe hp) ((p.chunkAt_num chunk).trans (State.pstripe_num hp))]
        rfl
      · rw [if_pos h0, State.chunkDone_eq]
        dsimp only
        rw [if_neg h1, if_neg (PStripe.chunkAt_next_of_missing hmore), State.chunkKept_pstripe hp, ← hst]
        exact congrArg some (p.chunkAt_shown chunk)
      · rw [if_pos h0, State.chunkDone_eq]
        dsimp only
        rw [if_neg h1, if_pos (PStripe.chunkAt_next_of_all hall),
          State.rebuilt_pstripe (State.chunkKept_pstripe hp) ((p.chunkAt_num chunk).trans (State.pstripe_num hp))]
        refine ⟨rfl, ?_⟩
        by_cases hthin : ((p.chunkAt chunk).tally.any (fun e => e.2.st == 2) || (p.chunkAt chunk).grans.any (fun g => g.withdrawn)) = true
        · exact .inr (congrArg some (if_pos hthin))
        · exact .inl (congrArg some (if_neg hthin))
    · change execCheckpoint j h plan stripe next erased s = _
      unfold execCheckpoint
      simp only [e]
      exact if_neg (by rw [← hsteward] at hne; simp [hu, Ne.symm hne])
    · let s2 := u.record (.ledger 0x46 stripe (plan + next * 2 ^ 32) erased)
      have hrec : .ledger 0x46 stripe (plan + next * 2 ^ 32) erased ∈ s2.ftl.journal.collecting := List.mem_append_right _ (.head _)
      have f2 : Frame [.group, .buses, .ftl] countRegs s s2 := (ht.frame (by decide)).record (by decide) _
      have hrun : exec (.checkpoint j h plan stripe next erased) s = match s2.pstripe stripe with
          | some p => .next (s2.setStripe { p with plan := max p.plan plan, next := next, erased := erased })
          | none => .next s2 := by
        change execCheckpoint j h plan stripe next erased s = _
        unfold execCheckpoint
        simp only [e]
        exact if_pos (by simp [hu, hsteward, hst])
      cases hp : s2.pstripe stripe with
      | none =>
        rw [hp] at hrun
        exact ⟨_, hrun, hrec, fun p hp' => (nomatch hp.symm.trans hp'), f2⟩
      | some p =>
        rw [hp] at hrun
        refine ⟨_, hrun, ((Sends.refl s2).setStripe _).journal.subset hrec, fun q hq => ?_,
          f2.then_keeps (State.setStripe_keeps ..) (by decide) (by decide) (by decide)⟩
        cases hp.symm.trans hq
        exact State.setStripe_pstripe (p := { p with plan := max p.plan plan, next := next, erased := erased }) hp
          (show p.num = stripe from State.pstripe_num hp)
    · refine ⟨_, [(u.peer j).sendSeq, u.viewNo, (u.peer j).recvSeq - 1, u.rd Reg.GLI_PEER.EPOCH j], ?_,
        u.sendMsg_out hku 0x19 [stripe, slot, first], (ht.frame (by decide)).sendMsg (by decide) ..⟩
      change execLedgerSync j h stripe slot first states s = _
      unfold execLedgerSync
      simp only [e, hu, Bool.not_true, Bool.false_eq_true, if_false, hnone, ok]
    · obtain ⟨v, -, kv, hstripes, hrun⟩ := execLedgerSync_own ha (first := first) (states := states) hp hslot hmine
      have hkv : v.linked j = true := (congrArg (· == 2) (kv.rd_eq (by simp) ..)).trans hku
      refine ⟨_, [(v.peer j).sendSeq, v.viewNo, (v.peer j).recvSeq - 1, v.rd Reg.GLI_PEER.EPOCH j], hrun, ?_,
        (v.sendMsg_stripes ..).trans hstripes, ((ht.frame (by decide)).then_keeps kv (by decide) (by decide) nofun).sendMsg (by decide) ..⟩
      rw [State.sendMsg_out _ hkv]
      rfl
    · have hrun : exec (.ledgerSync j h stripe slot first states) s =
          .next (u.stripeGo { p with erased := clearBit p.erased b } (if clearBit p.erased b = 0 then p.before else .degraded)) := by
        change execLedgerSync j h stripe slot first states s = _
        unfold execLedgerSync
        simp only [e, hu, Bool.not_true, Bool.false_eq_true, if_false, hp, hslot, if_true, State.reconcile, hrole, hb, hst, decide_true,
          Bool.and_true, ok]
      refine ⟨_, hrun, ?_, (ht.frame (by decide)).stripeGo (by decide) (by decide) _ _⟩
      rw [State.stripeGo_pstripe (p := { p with erased := clearBit p.erased b }) hp (show p.num = stripe from State.pstripe_num hp)]
      rfl
    · let grans := (u.ownReport p (first / 16)).grans.filter (fun g => decide (first ≤ g.1 ∧ g.1 < first + count))
      let l : List (Nat × Option Block × GHead) := if grans.isEmpty then [(first, some 0, {})] else grans
      have hrun : exec (.outerRead j h stripe slot first count) s = .next (u.push j stripe (u.ownReport p (first / 16)).slot 0x14 0 l) := by
        change execOuterRead j h stripe slot first count s = _
        unfold execOuterRead
        simp only [e, hp]
        exact if_pos (by simp [hu, hm, h1, h16])
      have hl : l.isEmpty = false := by
        by_cases hg : grans.isEmpty = true
        · rw [show l = _ from if_pos hg]
          rfl
        · rw [show l = grans from if_neg hg]
          simpa using hg
      obtain ⟨w, hw⟩ := State.push_sent hku hl stripe (u.ownReport p (first / 16)).slot 0x14 0
      exact ⟨_, w, hrun, hw, (ht.frame (by decide)).then_keeps (State.push_keeps ..) (by decide) (by decide) nofun⟩
    · change execOuterRead j h stripe slot first count s = _
      unfold execOuterRead
      simp only [e, hp]
      refine if_neg fun hyes => ?_
      simp only [hu, Bool.true_and, Bool.and_eq_true, beq_iff_eq, decide_eq_true_eq] at hyes
      obtain ⟨hm, h1, h16⟩ := hyes
      obtain hbad | hbad | hbad := hbad
      · exact hbad hm
      · omega
      · omega
    · obtain ⟨slot, status, d, hlen, hnone, hrun⟩ := execPatrolRequest_eq ha chunk count
      refine ⟨_, [(u.peer j).sendSeq, u.viewNo, (u.peer j).recvSeq - 1, u.rd Reg.GLI_PEER.EPOCH j], slot, status, d, hrun, ?_, hlen, hnone,
        (ht.frame (by decide)).sendMsg (by decide) ..⟩
      rw [State.sendMsg_out _ hku, hown]
    · intro r w1
      have hpatrol : u.patrol = s.patrol := ht.keeps.same .patrol
      rw [← hpatrol] at hw
      have hrun := execPatrolReply_eq ha slot status digests hp hw
      let s2 := u.withWaits (u.patrol.waits.map (fun x => if x = w then w1 else x))
      have f2 : Frame [.patrol, .group, .buses] [] s s2 := (ht.frame (by decide)).then_keeps (u.withWaits_keeps _) (by decide) (by decide) nofun
      refine ⟨fun hsome => ?_, fun hall => ?_⟩
      · refine ⟨_, hrun.trans (if_neg (Bool.eq_false_iff.1 hsome)), ?_, f2⟩
        rw [← hpatrol]
        rfl
      · have f3 := (f2.mono (by decide) (List.nil_subset [Reg.MIN_CNT.OUTER_MISMATCH])).then_keeps (ps := [.patrol, .group, .buses, .log])
          (s2.patrolJudge_keeps p w1) (by decide) (by decide) (by decide)
        refine ⟨_, hrun.trans (if_pos hall), s2.patrolJudge_waits p w1, fun hbad => ?_, fun hone hgood => ?_, f3⟩
        · have k := (ht.keeps.then (u.withWaits_keeps (u.patrol.waits.map (fun x => if x = w then w1 else x)))).then
            (s2.patrolJudge_unjudged (p := p) hbad)
          exact ⟨k.rd_eq (by simp) .., (k.same .log).1⟩
        · intro m hm
          have hd : (s2.judged w1).chunkDigests p w1.chunk = u.chunkDigests p w.chunk :=
            (State.withWaits_digests ..).trans (State.withWaits_digests ..)
          have hcount : (s2.judged w1).rd Reg.MIN_CNT.OUTER_MISMATCH = s.rd Reg.MIN_CNT.OUTER_MISMATCH := ht.keeps.rd_eq (by simp) ..
          obtain ⟨h1, h2⟩ := (s2.judged w1).judgeChunk_mismatch (p := p) (w := w1) (by rw [hd]; exact hm)
          rw [State.patrolJudge_one s2 (w := w1) hone hgood]
          rw [hcount] at h1
          rw [hd] at h2
          exact ⟨h1, h2⟩

end Sys2Proof.Machine
end

section
/-! PROOFS. Views of the peer group: heartbeats, proposals, installed views, leases and isolation (R379 to R390; O48). -/

set_option Elab.async false

namespace Sys2Proof.Machine

/-! ### Proposals (R387) -/

section
variable {s t u : State}

/-- The group with a proposal under way. -/
def State.proposal (s : State) (v : View) : Group :=
  { s.group with prop := some v, acks := if s.electors.testBit s.own then 2 ^ s.own else 0, propAt := s.frame, acked := some v, earlier := none,
                 winning := false }

theorem State.propose_sends (s : State) (v : View) : Sends (s.setGroup (s.proposal v)) (s.propose v) :=
  .foldl (fun u j => (Sends.refl u).sendMsg j _ _) _ ((Sends.refl _).record _)

/-- The steward's duty leaves things as they are, or makes a proposal. -/
theorem State.stewardDuty_proposes (s : State) : s.stewardDuty = s ∨ ∃ v, s.stewardDuty = s.propose v := by
  unfold State.stewardDuty State.proposeSet
  dsimp only
  split
  · exact .inl rfl
  · split
    · split
      · exact .inr ⟨_, rfl⟩
      · exact .inl rfl
    · split
      · exact .inr ⟨_, rfl⟩
      · exact .inl rfl

/-- What the steward's duty leaves of every member, and of the heartbeat. -/
theorem State.stewardDuty_kept (s : State) : (∀ j, (s.stewardDuty.peer j).bare = (s.peer j).bare) ∧
    s.stewardDuty.group.lastSent = s.group.lastSent ∧ s.stewardDuty.group.hb = s.group.hb := by
  obtain h | ⟨v, h⟩ := s.stewardDuty_proposes
  · rw [h]
    exact ⟨fun _ => rfl, rfl, rfl⟩
  · have k := s.propose_sends v
    rw [h]
    exact ⟨k.peers, (congrArg Group.lastSent k.group :), (congrArg Group.hb k.group :)⟩

/-! ### Stripes and plans as views change (R409, R415) -/

theorem Frame.checkpoint {ps : List Part} {rs : List Fld} (k : Frame ps rs s t) (hp : [Part.ftl, .group, .buses] ⊆ ps) (p : PStripe) :
    Frame ps rs s (t.checkpoint p) := k.then_keeps (t.checkpoint_keeps p) hp (List.nil_subset _) nofun

/-- The fields that planning a rebuild reaches. -/
def planRegs : List Fld := stripeRegs ++ [Reg.GLI_REBUILD.PLANNING, Reg.GLI_REBUILD.TARGET]

theorem Frame.issuePlan (k : Frame stripeParts planRegs s t) (p : PStripe) (first : Nat) : Frame stripeParts planRegs s (t.issuePlan p first) := by
  refine Frame.takePlan ?_ (by decide) (by decide) (by decide) ..
  refine .foldl (fun u j _ => (Frame.refl ..).sendMsg (by decide) ..) ?_
  exact Frame.checkpoint ((k.setGroup (by decide) _).then_wr (by decide) 1 (by decide) (by decide)) (by decide) _

theorem Frame.rebuildDuty {ps : List Part} {rs : List Fld} (k : Frame ps rs s t) (hp : stripeParts ⊆ ps) (hr : planRegs ⊆ rs) :
    Frame ps rs s t.rebuildDuty :=
  k.trans (Frame.mono hp hr (.ite (.foldl (fun _ p _ => (Frame.refl ..).issuePlan p 0) (.refl ..)) (.refl ..)))

theorem Sends.issuePlan (k : Sends s t) (p : PStripe) (first : Nat) : Sends s (t.issuePlan p first) := by
  have h1 : Sends t (t.setGroup { t.group with nextPlan := t.group.nextPlan + 1 }) := (Sends.refl t).setGroup rfl rfl
  refine Sends.takePlan ?_ ..
  exact .foldl (fun u j => (Sends.refl u).sendMsg j _ _) _ (((k.trans h1).wr ..).checkpoint _)

theorem Sends.rebuildDuty (k : Sends s t) : Sends s t.rebuildDuty := .ite (.foldl (fun u p => (Sends.refl u).issuePlan p 0) _ k) k

theorem Frame.rePlace {ps : List Part} {rs : List Fld} (k : Frame ps rs s t) (hp : stripeParts ⊆ ps) (hr : stripeRegs ⊆ rs) (p : PStripe) :
    Frame ps rs s (t.rePlace p) := ((k.stripeGo hp hr _ _).setGroup (hp (by decide)) _).then_event (hp (by decide)) ..

theorem Sends.rePlace (k : Sends s t) (p : PStripe) : Sends s (t.rePlace p) := ((k.stripeGo _ _).replaceGrans _ _).event _ _ _ _

theorem Frame.with_lost {ps : List Part} {rs : List Fld} (k : Frame ps rs s t) (h : Part.lostStripes ∈ ps) (l : List LostEntry) (n : Nat) :
    Frame ps rs s { t with lost := l, lostSeq := n } :=
  k.part .lostStripes h (fun q hq => by cases q <;> first | exact absurd rfl hq | simp [Part.same]) rfl

/-- A view's parts and fields without those of the view itself. -/
def loseRegs : List Fld := stripeRegs ++ [Reg.HIF_ASYNC.PEND]

theorem Frame.loseStripe (k : Frame viewParts loseRegs s t) (p : PStripe) (cause : Nat) (l : List (Nat × Nat)) :
    Frame viewParts loseRegs s (t.loseStripe p cause l) := by
  have h1 : Frame viewParts loseRegs s ((t.stripeGo p .lost).lostEntry p cause l) :=
    (((k.stripeGo (by decide) (by decide) _ _).with_lost (by decide) _ _).setHealth (by decide) _ _).asyncAll (by decide) (by decide) _ _
  unfold State.loseStripe
  split
  · exact k
  · exact k
  · exact h1

theorem Frame.stripeLeaves (k : Frame viewParts loseRegs s t) (p : PStripe) (gone : List Nat) :
    Frame viewParts loseRegs s (t.stripeLeaves p gone) := by
  unfold State.stripeLeaves
  dsimp only
  split
  · exact k
  split
  · exact .ite (k.loseStripe _ _ _) ((k.loseStripe _ _ _).with_lost (by decide) _ _)
  have h1 := fun q => k.stripeGo (by decide) (by decide) q .degraded
  exact .ite ((h1 _).rePlace (by decide) (by decide) _) (.ite ((h1 _).setGroup (by decide) _) (h1 _))

theorem Sends.loseStripe (k : Sends s t) (p : PStripe) (cause : Nat) (l : List (Nat × Nat)) : Sends s (t.loseStripe p cause l) := by
  unfold State.loseStripe
  split
  · exact k
  · exact k
  · exact (k.stripeGo _ _).trans (.of_keeps (State.lostEntry_keeps ..))

/-- The Lost-stripe entries replaced. -/
theorem Sends.with_lost (k : Sends s t) (l : List LostEntry) (n : Nat) : Sends s { t with lost := l, lostSeq := n } :=
  ⟨k.journal, k.peers, k.group⟩

theorem Sends.stripeLeaves (k : Sends s t) (p : PStripe) (gone : List Nat) : Sends s (t.stripeLeaves p gone) := by
  unfold State.stripeLeaves
  dsimp only
  split
  · exact k
  split
  · exact .ite (k.loseStripe _ _ _) ((k.loseStripe _ _ _).with_lost _ _)
  have h1 := fun q => k.stripeGo q .degraded
  exact .ite ((h1 _).rePlace _) (.ite ((h1 _).replaceGrans _ _) (h1 _))

/-! ### Installing a view (R387, R390) -/

/-- The view's registers, as installing it writes them. -/
def State.viewShown (s : State) (v : View) : State :=
  ((List.range 24).foldl (fun u j => u.wr Reg.GLI_PEER.IN_VIEW (bit (v.members.testBit j)) j)
    (((((s.wr Reg.GLI_VIEW.VIEW v.number).wr Reg.GLI_MEMBERS.MASK v.members).wr Reg.GLI_ROLES.STEWARD v.steward).wr Reg.GLI_ROLES.DEPUTY
      v.deputy).bump Reg.GLI_CNT.VIEWS)).wr Reg.GLI_STATUS.DEPUTY (bit (v.members.testBit s.own && v.deputy == s.own))

/-- The view recorded, with no proposal left. -/
def State.viewTaken (s : State) (v : View) : State :=
  ((s.viewShown v).event 0x30 0x0100 v.number).setGroup { (s.viewShown v).group with
    prop := none
    acks := 0
    winning := false
    earlier := none
    fails := 0
    grant := (s.viewShown v).frame + 5000 }

/-- The stripes of the members that have left. -/
def State.viewStripes (s : State) (had : Bool) (gone : List Nat) : State :=
  if had then s.group.stripes.foldl (fun s p => s.stripeLeaves p gone) s else s

/-- The device's own place in the view. -/
def State.viewPlace (s : State) (inside : Bool) : State :=
  if inside then (if s.gstate = 4 then s else s.wr Reg.GLI_STATUS.STATE 2)
  else if s.gstate = 4 then s.record (.admin .leave s.group.leaver)
  else s.wr Reg.GLI_STATUS.STATE 1

/-- The steward's lease, taken, kept or dropped. -/
def State.viewLease (s : State) (leads kept : Bool) (old : Nat) : State :=
  if leads then (if kept then s else s.takeLease old) else s.wr Reg.GLI_STATUS.STEWARD 0

theorem State.install_eq (s : State) (v : View) : s.install v =
    let inside := v.members.testBit s.own
    let s5 := ((s.viewTaken v).viewStripes (s.viewNo != 0) (maskMembers (s.viewMask &&& (v.members ^^^ s.viewMask)))).viewPlace inside
    let s6 := s5.viewLease (inside && v.steward == s5.own) ((s.viewNo != 0) && s.steward == s5.own && s5.leads) s.steward
    (if inside then s6.asyncAll 6 (popCount 24 v.members) else s6).rebuildDuty := rfl

/-- The group without its work on stripes and what its steward carries. -/
def Group.core (g : Group) : Group := { g.bare with lease := 0, hbAt := [], nextStripe := 1 }

/-- Work that keeps the members and the group's core. -/
structure Works (s t : State) : Prop where
  peers : ∀ j, (t.peer j).bare = (s.peer j).bare
  core : t.group.core = s.group.core

theorem Sends.works (k : Sends s t) : Works s t := ⟨k.peers, congrArg (fun g : Group => { g with lease := 0, hbAt := [], nextStripe := 1 }) k.group⟩

theorem Works.trans (h : Works s t) (k : Works t u) : Works s u := ⟨fun j => (k.peers j).trans (h.peers j), k.core.trans h.core⟩

theorem Works.ite {c : Prop} [Decidable c] (h : Works s t) (k : Works s u) : Works s (if c then t else u) := by
  split
  · exact h
  · exact k

/-- The lease as the steward of a new view takes it. -/
def State.leased (s : State) : State :=
  (s.setGroup { s.group with
    lease := s.frame + 4500
    hbAt := []
    nextPlan := max s.group.nextPlan (s.group.stripes.foldl (fun m p => max m p.plan) 0 + 1)
    nextStripe := max s.group.nextStripe (s.group.stripes.foldl (fun m p => max m p.num) 0 + 1) }).wr Reg.GLI_STATUS.STEWARD 1

theorem State.takeLease_eq (s : State) (old : Nat) : s.takeLease old =
    let s2 := s.leased.event 0x30 0x0103 (s.leased.own + old * 32)
    (s2.group.stripes.filter (fun p => decide (p.st = .rebuilding))).foldl (fun s p => s.issuePlan p p.next) s2 := rfl

theorem State.takeLease_works (s : State) (old : Nat) : Works s (s.takeLease old) := by
  have h1 : Works s s.leased := ⟨fun _ => rfl, rfl⟩
  rw [State.takeLease_eq]
  exact h1.trans (Sends.foldl (fun u p => (Sends.refl u).issuePlan p p.next) _ ((Sends.refl s.leased).event ..)).works

/-- The fields that follow a view's own registers. -/
def afterRegs : List Fld := stripeRegs ++ [Reg.HIF_ASYNC.PEND, Reg.GLI_STATUS.STATE, Reg.GLI_STATUS.STEWARD, Reg.GLI_REBUILD.PLANNING,
  Reg.GLI_REBUILD.TARGET]

theorem Frame.takeLease (k : Frame viewParts afterRegs s t) (old : Nat) : Frame viewParts afterRegs s (t.takeLease old) := by
  rw [State.takeLease_eq]
  refine .foldl (fun u p _ => ((Frame.refl ..).issuePlan p p.next).mono (by decide) (by decide)) ?_
  exact ((k.setGroup (by decide) _).then_wr (by decide) 1 (by decide) (by decide)).then_event (by decide) ..

theorem State.viewStripes_sends (s : State) (had : Bool) (gone : List Nat) : Sends s (s.viewStripes had gone) :=
  .ite (.foldl (fun u p => (Sends.refl u).stripeLeaves p gone) _ (.refl s)) (.refl s)

theorem State.viewPlace_sends (s : State) (inside : Bool) : Sends s (s.viewPlace inside) :=
  .ite (.ite (.refl s) ((Sends.refl s).wr ..)) (.ite ((Sends.refl s).record _) ((Sends.refl s).wr ..))

theorem State.viewLease_works (s : State) (leads kept : Bool) (old : Nat) : Works s (s.viewLease leads kept old) :=
  .ite (.ite (Sends.refl s).works (s.takeLease_works old)) ((Sends.refl s).wr ..).works

/-- What follows the view's own registers leaves the members and the group's core. -/
theorem State.install_works (s : State) (v : View) : Works (s.viewTaken v) (s.install v) := by
  rw [State.install_eq]
  extract_lets inside s5 s6
  have h5 : Works (s.viewTaken v) s5 := ((State.viewStripes_sends ..).trans (State.viewPlace_sends ..)).works
  have h6 : Works s5 s6 := State.viewLease_works ..
  have h7 : Works s6 (if inside = true then s6.asyncAll 6 (popCount 24 v.members) else s6) :=
    .ite (Sends.of_keeps (State.asyncAll_keeps ..)).works (Sends.refl s6).works
  exact ((h5.trans h6).trans h7).trans (Sends.refl _).rebuildDuty.works

theorem State.install_tail (s : State) (v : View) : Keeps viewParts afterRegs (s.viewTaken v) (s.install v) := by
  rw [State.install_eq]
  extract_lets inside s5 s6
  have h4 : Keeps viewParts afterRegs (s.viewTaken v) ((s.viewTaken v).viewStripes (s.viewNo != 0)
      (maskMembers (s.viewMask &&& (v.members ^^^ s.viewMask)))) := .ite (.foldl (.refl ..) fun _ _ => .mono (State.stripeLeaves_keeps ..)) (.refl ..)
  have h5 : Keeps viewParts afterRegs (s.viewTaken v) s5 :=
    h4.trans (.ite (.ite (.refl ..) (.wr (.refl ..))) (.ite (.record (.refl ..)) (.wr (.refl ..))))
  have h6 : Keeps viewParts afterRegs s5 s6 := .ite (.ite (.refl ..) (.mono (State.takeLease_keeps ..))) (.wr (.refl ..))
  have h7 : Keeps viewParts afterRegs s6 (if inside = true then s6.asyncAll 6 (popCount 24 v.members) else s6) :=
    .ite (.mono (State.asyncAll_keeps ..)) (.refl ..)
  exact ((h5.trans h6).trans h7).trans (.mono (State.rebuildDuty_keeps ..))

/-- What follows the view's own registers reaches no others of the view. -/
theorem State.install_after (s : State) (v : View) : Frame viewParts afterRegs (s.viewTaken v) (s.install v) := by
  rw [State.install_eq]
  extract_lets inside s5 s6
  have h4 : Frame viewParts afterRegs (s.viewTaken v) ((s.viewTaken v).viewStripes (s.viewNo != 0)
      (maskMembers (s.viewMask &&& (v.members ^^^ s.viewMask)))) :=
    .ite (.foldl (fun u p _ => ((Frame.refl ..).stripeLeaves p _).mono (List.Subset.refl _) (by decide)) (.refl ..)) (.refl ..)
  have h5 : Frame viewParts afterRegs (s.viewTaken v) s5 := .ite (.ite h4 (h4.then_wr (by decide) _ (by decide) (by decide)))
    (.ite (h4.record (by decide) _) (h4.then_wr (by decide) _ (by decide) (by decide)))
  have h6 : Frame viewParts afterRegs (s.viewTaken v) s6 :=
    .ite (.ite h5 (h5.takeLease _)) (h5.then_wr (by decide) _ (by decide) (by decide))
  exact Frame.rebuildDuty (.ite (h6.asyncAll (by decide) (by decide) _ _) h6) (by decide) (by decide)

theorem Frame.install (k : Frame viewParts viewRegs s t) (v : View) : Frame viewParts viewRegs s (t.install v) := by
  have h0 : Frame viewParts viewRegs t (t.viewShown v) := by
    refine Frame.then_wr ?_ (by decide) _ (by decide) (by decide)
    refine .foldl (fun u j hj => (Frame.refl ..).then_wr (by decide) _ (List.mem_range.1 hj) (by decide)) ?_
    exact (((((Frame.refl ..).then_wr (by decide) _ (by decide) (by decide)).then_wr (by decide) _ (by decide) (by decide)).then_wr (by decide) _
      (by decide) (by decide)).then_wr (by decide) _ (by decide) (by decide)).then_bump (by decide) 1 (by decide) (by decide)
  have h3 : Frame viewParts viewRegs t (t.viewTaken v) := (h0.then_event (by decide) ..).setGroup (by decide) _
  exact k.trans (h3.trans ((t.install_after v).mono (List.Subset.refl _) (by decide)))

/-! ### The view installed, as its registers show it -/

/-- The instances of an array field written one after another. -/
theorem State.rd_foldl_wr (r : Fld) (hs : r.stride ≠ 0) (f : Nat → Nat) (l : List Nat) (s : State) (i : Nat) :
    (l.foldl (fun u j => u.wr r (f j) j) s).rd r i = if i ∈ l then f i % 2 ^ r.w else s.rd r i := by
  induction l generalizing s with
  | nil => rw [if_neg List.not_mem_nil]; rfl
  | cons a l ih =>
    rw [List.foldl_cons, ih]
    by_cases hl : i ∈ l
    · rw [if_pos hl, if_pos (List.mem_cons_of_mem _ hl)]
    · rw [if_neg hl]
      by_cases ha : i = a
      · rw [ha, if_pos (.head _), State.rd_wr_same]
      · rw [if_neg (fun h => (List.mem_cons.1 h).elim ha hl)]
        exact State.rd_wr_other _ _ _ _ _ _ _ _ (Fld.key_instance hs ha 0)

/-- The registers of an installed view (R387). -/
structure Installed (s t : State) (v : View) : Prop where
  view : t.viewNo = v.number % 2 ^ Reg.GLI_VIEW.VIEW.w
  members : t.viewMask = v.members % 2 ^ Reg.GLI_MEMBERS.MASK.w
  steward : t.steward = v.steward % 2 ^ Reg.GLI_ROLES.STEWARD.w
  deputy : t.rd Reg.GLI_ROLES.DEPUTY = v.deputy % 2 ^ Reg.GLI_ROLES.DEPUTY.w
  inView : ∀ i < 24, t.rd Reg.GLI_PEER.IN_VIEW i = bit (v.members.testBit i)
  views : t.rd Reg.GLI_CNT.VIEWS = min (s.rd Reg.GLI_CNT.VIEWS + 1) (2 ^ Reg.GLI_CNT.VIEWS.w - 1)

theorem State.viewShown_installed (s : State) (v : View) : Installed s (s.viewShown v) v := by
  let s1 := ((((s.wr Reg.GLI_VIEW.VIEW v.number).wr Reg.GLI_MEMBERS.MASK v.members).wr Reg.GLI_ROLES.STEWARD v.steward).wr Reg.GLI_ROLES.DEPUTY
      v.deputy).bump Reg.GLI_CNT.VIEWS
  have k : Keeps [] [Reg.GLI_PEER.IN_VIEW, Reg.GLI_STATUS.DEPUTY] s1 (s.viewShown v) := .wr (.foldl (.refl ..) fun _ _ => .wr (.refl ..))
  have hviews : s1.rd Reg.GLI_CNT.VIEWS = min (s.rd Reg.GLI_CNT.VIEWS + 1) (2 ^ Reg.GLI_CNT.VIEWS.w - 1) := by
    have k0 : Keeps [] [Reg.GLI_VIEW.VIEW, Reg.GLI_MEMBERS.MASK, Reg.GLI_ROLES.STEWARD, Reg.GLI_ROLES.DEPUTY] s
      ((((s.wr Reg.GLI_VIEW.VIEW v.number).wr Reg.GLI_MEMBERS.MASK v.members).wr Reg.GLI_ROLES.STEWARD v.steward).wr Reg.GLI_ROLES.DEPUTY v.deputy) :=
      .wr (.wr (.wr (.wr (.refl ..))))
    rw [State.rd_bump_same, k0.rd_eq (by decide)]
  refine ⟨?_, ?_, ?_, ?_, fun i hi => ?_, (k.rd_eq (by decide) ..).trans hviews⟩
  · refine (k.rd_eq (by decide) ..).trans ?_
    simp (disch := decide) only [s1, State.rd_bump_apart, State.rd_wr_apart, State.rd_wr_same]
  · refine (k.rd_eq (by decide) ..).trans ?_
    simp (disch := decide) only [s1, State.rd_bump_apart, State.rd_wr_apart, State.rd_wr_same]
  · refine (k.rd_eq (by decide) ..).trans ?_
    simp (disch := decide) only [s1, State.rd_bump_apart, State.rd_wr_apart, State.rd_wr_same]
  · refine (k.rd_eq (by decide) ..).trans ?_
    simp (disch := decide) only [s1, State.rd_bump_apart, State.rd_wr_same]
  · refine (State.rd_wr_apart _ _ _ _ _ _ _ _ (by decide)).trans ?_
    rw [State.rd_foldl_wr _ (by decide) (fun j => bit (v.members.testBit j)), if_pos (List.mem_range.2 hi)]
    cases v.members.testBit i <;> rfl

theorem State.install_installed (s : State) (v : View) : Installed s (s.install v) v := by
  have k : Frame viewParts afterRegs (s.viewShown v) (s.install v) :=
    (((Frame.refl ..).then_event (by decide) ..).setGroup (by decide) _).trans (s.install_after v)
  obtain ⟨view, members, steward, deputy, inView, views⟩ := s.viewShown_installed v
  generalize s.viewShown v = x at k view members steward deputy inView views
  generalize s.install v = y at k
  have kept : ∀ q i, i < q.count → (∀ r ∈ afterRegs, q.away r = true) → y.rd q i 0 = x.rd q i 0 := fun _ _ hi hq => k.rd_valid hi hq 0
  exact ⟨(kept _ _ (by decide) (by decide)).trans view, (kept _ _ (by decide) (by decide)).trans members,
    (kept _ _ (by decide) (by decide)).trans steward, (kept _ _ (by decide) (by decide)).trans deputy,
    fun i hi => (kept _ i hi (by decide)).trans (inView i hi), (kept _ _ (by decide) (by decide)).trans views⟩

theorem State.viewShown_keeps (s : State) (v : View) : Keeps [] viewRegs s (s.viewShown v) :=
  .wr (.foldl (.bump (.wr (.wr (.wr (.wr (.refl ..)))))) fun _ _ => .wr (.refl ..))

/-- An installed view leaves no proposal, keeps the members, and is recorded. -/
theorem State.install_kept (s : State) (v : View) : (s.install v).group.prop = none ∧ (∀ j, ((s.install v).peer j).bare = (s.peer j).bare) ∧
    s.eventTotal < (s.install v).eventTotal := by
  have h := s.install_works v
  have hgroup : (s.viewShown v).group = s.group := (s.viewShown_keeps v).same .group
  refine ⟨(congrArg Group.prop h.core :), fun j => (h.peers j).trans ?_, ?_⟩
  · rw [State.peer, State.peer, ← hgroup]
    rfl
  · have htotal : (s.viewShown v).eventTotal = s.eventTotal := ((s.viewShown_keeps v).same .log).2
    have htaken : (s.viewTaken v).eventTotal = (s.viewShown v).eventTotal + 1 := rfl
    obtain ⟨l, -, hl⟩ := (s.install_tail v).steady.log
    omega

end

end Sys2Proof.Machine
end

section
/-! PROOFS. The rows of heartbeats, proposals, views, leases and isolation (R379 to R390; O48). -/

set_option Elab.async false

namespace Sys2Proof.Machine

/-! ### Heartbeats sent (R385, R386, R389) -/

section
variable (s : State) (n : Nat)

/-- The frames without a heartbeat, as GLI_PEER shows them. -/
def State.beatMissed (i : Nat) : Nat := min 255 ((s.frame - (s.peer i).heardAt) / 100)

/-- The words of a heartbeat. -/
def State.beatWords (i : Nat) : List Nat :=
  [(s.peer i).sendSeq, s.viewNo, (s.peer i).recvSeq - 1, s.rd Reg.GLI_PEER.EPOCH i, n, s.group.incarnation, s.gstate]

/-- One heartbeat sent. -/
def State.beatTo (j : Nat) : State := (s.wr Reg.GLI_PEER.MISSED (s.beatMissed j) j).sendMsg j 0x05 [n, s.group.incarnation, s.gstate]

theorem State.sendMsg_peer_other {i j : Nat} (h : i ≠ j) (kind : Nat) (l : List Nat) : (s.sendMsg j kind l).peer i = s.peer i := by
  unfold State.sendMsg
  split
  · exact (State.peer_setPeer ..).trans (if_neg h)
  · rfl

theorem State.beatTo_rd {q : Fld} {i j : Nat} (h : q.away Reg.GLI_PEER.MISSED = true) (hi : i < q.count) (hj : j < 24) :
    (s.beatTo n j).rd q i = s.rd q i := ((State.sendMsg_keeps ..).rd_eq (by simp) ..).trans (State.rd_wr_away _ h hj hi ..)

/-- A heartbeat to another member leaves a member's own heartbeat as it was. -/
theorem State.beatTo_other {i j : Nat} (h : i ≠ j) (hi : i < 24) (hj : j < 24) : (s.beatTo n j).linked i = s.linked i ∧
    (s.beatTo n j).beatWords n i = s.beatWords n i ∧ (s.beatTo n j).beatMissed i = s.beatMissed i ∧
    (s.beatTo n j).rd Reg.GLI_PEER.MISSED i = s.rd Reg.GLI_PEER.MISSED i := by
  have hpeer : (s.beatTo n j).peer i = s.peer i := State.sendMsg_peer_other _ h ..
  have hframe : (s.beatTo n j).frame = s.frame := (State.sendMsg_keeps ..).same .frame
  have hinc : (s.beatTo n j).group.incarnation = s.group.incarnation := (congrArg Group.incarnation (State.sendMsg_group ..) :)
  refine ⟨congrArg (· == 2) (s.beatTo_rd n (by decide) hi hj), ?_, ?_, ((State.sendMsg_keeps ..).rd_eq (by simp) ..).trans ?_⟩
  · rw [State.beatWords, hpeer, hinc, s.beatTo_rd n (by decide) hi hj, State.viewNo, State.gstate, s.beatTo_rd n (by decide) (by decide) hj,
      s.beatTo_rd n (by decide) (by decide) hj]
    rfl
  · rw [State.beatMissed, hpeer, hframe, State.beatMissed]
  · exact State.rd_wr_other _ _ _ _ _ _ _ _ (Fld.key_instance (by decide) h 0)

theorem State.beatTo_sent {j : Nat} (hj : j < 24) (hk : s.linked j = true) : (s.beatTo n j).rd Reg.GLI_PEER.MISSED j = s.beatMissed j ∧
    .peer j 0x05 (s.beatWords n j) ∈ (s.beatTo n j).out := by
  let s1 := s.wr Reg.GLI_PEER.MISSED (s.beatMissed j) j
  have kept : ∀ q i, q.away Reg.GLI_PEER.MISSED = true → i < q.count → s1.rd q i = s.rd q i := fun q i h hi => State.rd_wr_away _ h hj hi ..
  have hk1 : s1.linked j = true := (congrArg (· == 2) (kept _ _ (by decide) hj)).trans hk
  refine ⟨((State.sendMsg_keeps ..).rd_eq (by simp) ..).trans ((State.rd_wr_same ..).trans (Nat.mod_eq_of_lt ?_)), ?_⟩
  · exact Nat.lt_of_le_of_lt (Nat.min_le_left ..) (by decide)
  · rw [State.beatTo, State.sendMsg_out _ hk1, State.viewNo, kept _ _ (by decide) (by decide), kept _ _ (by decide) hj]
    exact .head _

/-- Heartbeats sent to a list of members: each is on the bus and shows how long its member was silent. -/
theorem State.beats_sent (l : List Nat) (hl : l.Nodup) (h24 : ∀ j ∈ l, j < 24) (s : State) :
    s.out <:+ (l.foldl (fun s j => s.beatTo n j) s).out ∧
    (∀ i < 24, i ∉ l → (l.foldl (fun s j => s.beatTo n j) s).rd Reg.GLI_PEER.MISSED i = s.rd Reg.GLI_PEER.MISSED i) ∧
    ∀ i ∈ l, s.linked i = true → (l.foldl (fun s j => s.beatTo n j) s).rd Reg.GLI_PEER.MISSED i = s.beatMissed i ∧
      .peer i 0x05 (s.beatWords n i) ∈ (l.foldl (fun s j => s.beatTo n j) s).out := by
  induction l generalizing s with
  | nil => exact ⟨List.suffix_rfl, fun _ _ _ => rfl, fun _ hi => nomatch hi⟩
  | cons j l ih =>
    obtain ⟨hj, hl⟩ := List.nodup_cons.1 hl
    have hj24 := h24 j (.head _)
    obtain ⟨hout, hkept, hsent⟩ := ih hl (fun i hi => h24 i (.tail _ hi)) (s.beatTo n j)
    have hgrows : s.out <:+ (s.beatTo n j).out := (State.sendMsg_keeps (s.wr Reg.GLI_PEER.MISSED (s.beatMissed j) j) j 0x05 _).steady.out
    simp only [List.foldl_cons]
    refine ⟨hgrows.trans hout, fun i hi hn => ?_, fun i hi hk => ?_⟩
    · obtain ⟨hij, hil⟩ : i ≠ j ∧ i ∉ l := by simpa using hn
      exact (hkept i hi hil).trans (s.beatTo_other n hij hi hj24).2.2.2
    · by_cases hij : i = j
      · subst hij
        obtain ⟨hm, ho⟩ := s.beatTo_sent n hj24 hk
        exact ⟨(hkept i hj24 hj).trans hm, hout.subset ho⟩
      · have hil : i ∈ l := (List.mem_cons.1 hi).resolve_left hij
        obtain ⟨hlink, hwords, hmissed, -⟩ := s.beatTo_other n hij (h24 i hi) hj24
        obtain ⟨hm, ho⟩ := hsent i hil (hlink.trans hk)
        exact ⟨hm.trans hmissed, hwords ▸ ho⟩

/-- The steward's part of a heartbeat: its number, and when it was sent. -/
def State.beatLeads : Bool := s.viewNo != 0 && s.inView && s.steward == s.own

/-- The number a heartbeat carries. -/
def State.beatNumber : Nat := if s.beatLeads then s.group.hb + 1 else s.group.heard

/-- The group once the heartbeat is numbered. -/
def State.beatGroup : Group :=
  if s.beatLeads then
    { s.group with
      lastSent := s.frame
      hb := s.beatNumber
      hbAt := Tbl.set 0 (s.group.hbAt.filter (fun e => decide (s.frame < e.2 + 4500))) s.beatNumber s.frame }
  else { s.group with lastSent := s.frame }

/-- The heartbeats sent. -/
def State.beats : State :=
  ((s.setGroup s.beatGroup).listed.filter (s.setGroup s.beatGroup).linked).foldl (fun u j => u.beatTo s.beatNumber j) (s.setGroup s.beatGroup)

theorem exec_heartbeatSend (hup : s.groupUp = true) (hdue : s.group.lastSent + 100 ≤ s.frame) :
    exec .heartbeatSend s = .next s.beats.stewardDuty.rebuildDuty := by
  refine (if_pos (by simp [hup, hdue])).trans ?_
  unfold State.beats State.beatGroup State.beatNumber
  rfl

theorem Frame.beatTo {ps : List Part} {rs : List Fld} {s t : State} (k : Frame ps rs s t) (hp : [Part.group, .buses] ⊆ ps)
    (hr : Reg.GLI_PEER.MISSED ∈ rs) {j : Nat} (hj : j < 24) (n : Nat) : Frame ps rs s (t.beatTo n j) := (k.then_wr hr _ hj (by decide)).sendMsg hp ..

theorem State.beatGroup_same : s.beatGroup.peers = s.group.peers ∧ s.beatGroup.lastSent = s.frame ∧
    s.beatGroup.incarnation = s.group.incarnation ∧ (s.beatLeads = true → s.beatGroup.hb = s.group.hb + 1) := by
  unfold State.beatGroup
  cases h : s.beatLeads
  · exact ⟨rfl, rfl, rfl, nofun⟩
  · exact ⟨rfl, rfl, rfl, fun _ => by simp [State.beatNumber, h]⟩

/-- What HEARTBEAT_SEND leaves. -/
theorem State.beats_done : (s.beats.stewardDuty.rebuildDuty).group.lastSent = s.frame ∧
    (s.beatLeads = true → (s.beats.stewardDuty.rebuildDuty).group.hb = s.group.hb + 1) ∧
    (∀ i ∈ s.listed, s.linked i = true → (s.beats.stewardDuty.rebuildDuty).rd Reg.GLI_PEER.MISSED i = s.beatMissed i ∧
      .peer i 0x05 (s.beatWords s.beatNumber i) ∈ (s.beats.stewardDuty.rebuildDuty).out) ∧
    Frame stripeParts (stripeRegs ++ [Reg.GLI_PEER.MISSED, Reg.GLI_REBUILD.PLANNING, Reg.GLI_REBUILD.TARGET]) s
      s.beats.stewardDuty.rebuildDuty := by
  obtain ⟨hpeers, hlast, hinc, hhb⟩ := s.beatGroup_same
  have hsame : ∀ i, (s.setGroup s.beatGroup).peer i = s.peer i := fun i => by rw [State.peer, State.peer, State.setGroup, hpeers]
  have hlisted : (s.setGroup s.beatGroup).listed = s.listed := by simp only [State.listed, hsame]
  let l := s.listed.filter s.linked
  have hl : l.Nodup := (List.nodup_range.filter _).filter _
  have h24 : ∀ j ∈ l, j < 24 := fun j hj => List.mem_range.1 (List.mem_filter.1 (List.mem_filter.1 hj).1).1
  have hbeats : s.beats = l.foldl (fun u j => u.beatTo s.beatNumber j) (s.setGroup s.beatGroup) := by
    rw [State.beats, hlisted]
    rfl
  have hduty : Sends s.beats.stewardDuty s.beats.stewardDuty.rebuildDuty := (Sends.refl _).rebuildDuty
  have hsends : Sends (s.setGroup s.beatGroup) s.beats := by
    rw [hbeats]
    exact .foldl (fun u j => ((Sends.refl u).wr ..).sendMsg ..) _ (.refl _)
  obtain ⟨-, hsent, hnumber⟩ := s.beats.stewardDuty_kept
  refine ⟨?_, fun hlead => ?_, fun i hi hk => ?_, ?_⟩
  · exact (congrArg Group.lastSent hduty.group :).trans (hsent.trans ((congrArg Group.lastSent hsends.group :).trans hlast))
  · exact (congrArg Group.hb hduty.group :).trans (hnumber.trans ((congrArg Group.hb hsends.group :).trans (hhb hlead)))
  · obtain ⟨hm, ho⟩ := (State.beats_sent s.beatNumber l hl h24 (s.setGroup s.beatGroup)).2.2 i (List.mem_filter.2 ⟨hi, hk⟩) hk
    rw [← hbeats] at hm ho
    have hi24 : i < 24 := List.mem_range.1 (List.mem_filter.1 hi).1
    have k : Frame stripeParts planRegs s.beats s.beats.stewardDuty.rebuildDuty :=
      Frame.rebuildDuty (.then_keeps (.refl ..) s.beats.stewardDuty_keeps (by decide) (by decide) (by decide)) (by decide) (by decide)
    refine ⟨(k.rd_valid hi24 (by decide) 0).trans (hm.trans ?_), ?_⟩
    · rw [State.beatMissed, hsame, State.beatMissed]
      rfl
    · refine (s.beats.stewardDuty_keeps.steady.out.trans (State.rebuildDuty_keeps _).steady.out).subset ?_
      rw [State.beatWords, hsame, show (s.setGroup s.beatGroup).group.incarnation = s.group.incarnation from hinc] at ho
      exact ho
  · refine Frame.rebuildDuty (.then_keeps ?_ s.beats.stewardDuty_keeps (by decide) (by decide) (by decide)) (by decide) (by decide)
    rw [hbeats]
    exact .foldl (fun u j hj => (Frame.refl ..).beatTo (by decide) (by decide) (h24 j hj) _) ((Frame.refl ..).setGroup (by decide) _)

end

/-! ### Heartbeats received (R380, R383, R385, R387, R389) -/

section
variable (s : State)

theorem Frame.stewardDuty {ps : List Part} {rs : List Fld} {s t : State} (k : Frame ps rs s t) (hp : [Part.group, .ftl, .buses] ⊆ ps) :
    Frame ps rs s t.stewardDuty := k.then_keeps t.stewardDuty_keeps hp (List.nil_subset _) nofun

/-- A member that leaves is marked so; its roles are placed again (R418). -/
theorem State.peerLeaves_leaves (j : Nat) : ((s.peerLeaves j).peer j).leaving = true ∧
    ((s.peerLeaves j).peer j).heardAt = (s.peer j).heardAt ∧ Frame stripeParts stripeRegs s (s.peerLeaves j) := by
  unfold State.peerLeaves
  split
  · next h => exact ⟨h, rfl, .refl ..⟩
  · extract_lets p s1
    have hself : s1.peer j = { s.peer j with leaving := true, goneAt := s.frame } := (State.peer_setPeer ..).trans (if_pos rfl)
    have h1 : Frame stripeParts stripeRegs s s1 := (Frame.refl ..).setPeer (by decide) _ _
    generalize s1.group.stripes.filter _ = l
    have k : Sends s1 (l.foldl (fun s p => s.rePlace p) s1) := .foldl (fun u p => (Sends.refl u).rePlace p) l (.refl s1)
    have hbare : _ = { s.peer j with leaving := true, goneAt := s.frame }.bare := (k.peers j).trans (congrArg Peer.bare hself)
    exact ⟨(congrArg Peer.leaving hbare :), (congrArg Peer.heardAt hbare :),
      .foldl (fun u p _ => (Frame.refl ..).rePlace (by decide) (by decide) p) h1⟩

theorem Sends.syncSlot {s t : State} (k : Sends s t) (p : PStripe) (slot j : Nat) : Sends s (t.syncSlot p slot j) :=
  .foldl (fun u _ => (Sends.refl u).sendMsg ..) _ k

/-- The exchange of states keeps every member but for the mark that it was made. -/
theorem State.syncWith_kept (j i : Nat) : ((s.syncWith j).peer i).bare = (s.peer i).bare := by
  unfold State.syncWith
  split
  · rfl
  · extract_lets p s1 s2
    have h1 : Sends s s1 := (Sends.refl s).setPeer rfl
    have h2 : Sends s1 s2 := by
      refine .foldl (fun u p => ?_) _ (.refl s1)
      have hplain : ∀ c : Bool, Sends u (if c then u.sendMsg j 0x19 [p.num, if p.p = u.own then 0xFE else 0xFF, 0] else u) :=
        fun _ => .ite ((Sends.refl u).sendMsg ..) (.refl u)
      split
      · exact .refl u
      · exact .refl u
      · exact .refl u
      · refine .ite ?_ (.refl u)
        split
        · exact (Sends.refl u).syncSlot ..
        · exact hplain _
    exact (h2.peers i).trans (h1.peers i)

/-- What a heartbeat says of its sender. -/
def State.beatHeard (j steward : Nat) : State :=
  (s.setPeer j { s.peer j with heardAt := s.frame, echoed := if s.steward = s.own then max (s.peer j).echoed steward else (s.peer j).echoed }).wr
    Reg.GLI_PEER.MISSED 0 j

/-- The steward's grant renewed. -/
def State.beatGrant (j steward : Nat) : State :=
  if s.viewNo ≠ 0 ∧ s.steward = j ∧ j ≠ s.own then
    s.setGroup { s.group with heard := max s.group.heard steward, grant := s.frame + 5000 }
  else s

/-- The end of isolation. -/
def State.beatMember : State :=
  if s.gstate = 3 && s.viewMask.testBit s.own && s.hearsMajority then s.wr Reg.GLI_STATUS.STATE 2 else s

theorem State.beatGrant_peer (j steward i : Nat) : (s.beatGrant j steward).peer i = s.peer i := by
  unfold State.beatGrant
  split <;> rfl

theorem State.renewLease_peer (i : Nat) : s.renewLease.peer i = s.peer i := by
  unfold State.renewLease
  dsimp only
  split
  · split <;> rfl
  · rfl

theorem State.beatMember_peer (i : Nat) : s.beatMember.peer i = s.peer i := by
  unfold State.beatMember
  split <;> rfl

/-- A heartbeat taken, up to what a member that leaves does. -/
def State.beatTaken (j steward hview : Nat) (v : View) : State :=
  ((if (s.beatHeard j steward).viewNo < hview ∧ v.number = hview then (s.beatHeard j steward).install v else s.beatHeard j steward).beatGrant j
    steward).renewLease.beatMember

end

section
variable {s u : State} {j : Fin 24} {h : Hdr}

theorem exec_heartbeat_restarted (ha : s.Accepts j h u) {inc : Nat} (hinc : inc ≠ u.rd Reg.GLI_PEER.INCARNATION j) (sw st : Nat) (v : View) :
    exec (.heartbeat j h sw inc st v) s = .next (u.dropSession j 3) := by
  obtain ⟨e, hu⟩ := ha
  change execHeartbeat j h sw inc st v s = _
  unfold execHeartbeat
  simp only [e, hu, Bool.not_true, Bool.false_eq_true, if_false]
  exact if_pos (bne_iff_ne.2 hinc)

theorem exec_heartbeat (ha : s.Accepts j h u) {inc : Nat} (hinc : inc = u.rd Reg.GLI_PEER.INCARNATION j) (sw st : Nat) (v : View) :
    exec (.heartbeat j h sw inc st v) s = .next (((if st = 4 then (u.beatTaken j sw h.view v).peerLeaves j else
      u.beatTaken j sw h.view v).syncWith j).stewardDuty) := by
  obtain ⟨e, hu⟩ := ha
  change execHeartbeat j h sw inc st v s = _
  unfold execHeartbeat
  simp only [e, hu, Bool.not_true, Bool.false_eq_true, if_false]
  refine (if_neg (by simp [hinc])).trans ?_
  rfl

end

/-- What a heartbeat leaves of its sender and of the view. -/
structure Beaten (s t : State) (j hview : Nat) (v : View) : Prop where
  heard : (t.peer j).heardAt = s.frame
  missed : t.rd Reg.GLI_PEER.MISSED j = 0
  view : s.viewNo < hview → v.number = hview → t.viewNo = hview % 2 ^ Reg.GLI_VIEW.VIEW.w
  frame : Frame viewParts (viewRegs ++ [Reg.GLI_PEER.MISSED]) s t

section
variable {s t u : State} {j hview : Nat} {v : View}

/-- Later work that keeps the sender's last heartbeat and the registers of the view. -/
theorem Beaten.later (b : Beaten s t j hview v) (hj : j < 24) (hp : (u.peer j).heardAt = (t.peer j).heardAt)
    (k : Frame viewParts afterRegs t u) : Beaten s u j hview v where
  heard := hp.trans b.heard
  missed := (k.rd_valid hj (by decide) 0).trans b.missed
  view h1 h2 := (k.rd_valid (by decide) (by decide) 0).trans (b.view h1 h2)
  frame := b.frame.trans (k.mono (List.Subset.refl _) (by decide))

theorem State.beatHeard_heard (s : State) (hj : j < 24) (sw : Nat) : ((s.beatHeard j sw).peer j).heardAt = s.frame ∧
    (s.beatHeard j sw).rd Reg.GLI_PEER.MISSED j = 0 ∧ (s.beatHeard j sw).viewNo = s.viewNo ∧
    Frame viewParts (viewRegs ++ [Reg.GLI_PEER.MISSED]) s (s.beatHeard j sw) := by
  refine ⟨congrArg Peer.heardAt ((State.peer_setPeer ..).trans (if_pos rfl)), State.rd_wr_same .., ?_, ?_⟩
  · exact State.rd_wr_away _ (by decide) hj (by decide) ..
  · exact ((Frame.refl ..).setPeer (by decide) _ _).then_wr (by decide) _ hj (by decide)

theorem State.beatTaken_taken (s : State) (hj : j < 24) (sw hview : Nat) (v : View) : Beaten s (s.beatTaken j sw hview v) j hview v := by
  obtain ⟨hheard, hmissed, hview2, hframe⟩ := s.beatHeard_heard hj sw
  unfold State.beatTaken
  generalize s.beatHeard j sw = s2 at hheard hmissed hview2 hframe
  let s3 := if s2.viewNo < hview ∧ v.number = hview then s2.install v else s2
  have h3 : Beaten s s3 j hview v := by
    by_cases hnew : s2.viewNo < hview ∧ v.number = hview
    · rw [show s3 = s2.install v from if_pos hnew]
      obtain ⟨-, hpeers, -⟩ := s2.install_kept v
      have k : Frame viewParts viewRegs s2 (s2.install v) := (Frame.refl ..).install v
      exact {
        heard := (congrArg Peer.heardAt (hpeers j) :).trans hheard
        missed := (k.rd_valid hj (by decide) 0).trans hmissed
        view := fun _ hv => hv ▸ (s2.install_installed v).view
        frame := hframe.trans (k.mono (List.Subset.refl _) (by decide)) }
    · rw [show s3 = s2 from if_neg hnew]
      exact ⟨hheard, hmissed, fun h1 h2 => absurd ⟨hview2 ▸ h1, h2⟩ hnew, hframe⟩
  have h4 : Beaten s (s3.beatGrant j sw) j hview v :=
    h3.later hj (congrArg Peer.heardAt (s3.beatGrant_peer j sw j)) (.ite ((Frame.refl ..).setGroup (by decide) _) (.refl ..))
  have h5 : Beaten s (s3.beatGrant j sw).renewLease j hview v :=
    h4.later hj (congrArg Peer.heardAt (State.renewLease_peer _ j))
      (Frame.then_keeps (.refl ..) (State.renewLease_keeps _) (by decide) (by decide) (by decide))
  exact h5.later hj (congrArg Peer.heardAt (State.beatMember_peer _ j))
    (.ite ((Frame.refl ..).then_wr (by decide) _ (by decide) (by decide)) (.refl ..))

/-- What HEARTBEAT leaves of a sender that did not start again. -/
theorem State.heartbeat_done (s : State) (hj : j < 24) (sw hview st : Nat) (v : View) :
    let t := ((if st = 4 then (s.beatTaken j sw hview v).peerLeaves j else s.beatTaken j sw hview v).syncWith j).stewardDuty
    Beaten s t j hview v ∧ (st = 4 → (t.peer j).leaving = true) := by
  intro t
  have h0 := s.beatTaken_taken hj sw hview v
  obtain ⟨hleaving, hheard, hframe⟩ := (s.beatTaken j sw hview v).peerLeaves_leaves j
  let s1 := if st = 4 then (s.beatTaken j sw hview v).peerLeaves j else s.beatTaken j sw hview v
  have h1 : Beaten s s1 j hview v ∧ (st = 4 → (s1.peer j).leaving = true) := by
    by_cases hst : st = 4
    · rw [show s1 = (s.beatTaken j sw hview v).peerLeaves j from if_pos hst]
      exact ⟨h0.later hj hheard (hframe.mono (by decide) (by decide)), fun _ => hleaving⟩
    · rw [show s1 = s.beatTaken j sw hview v from if_neg hst]
      exact ⟨h0, fun h => absurd h hst⟩
  have hbare : (t.peer j).bare = (s1.peer j).bare := ((s1.syncWith j).stewardDuty_kept.1 j).trans (s1.syncWith_kept j j)
  have k : Frame viewParts afterRegs s1 t :=
    Frame.stewardDuty (.then_keeps (.refl ..) (s1.syncWith_keeps j) (by decide) (by decide) (by decide)) (by decide)
  exact ⟨h1.1.later hj (congrArg Peer.heardAt hbare :) k, fun hst => (congrArg Peer.leaving hbare :).trans (h1.2 hst)⟩

end

/-! ### Proposals and their acknowledgements (R387, R390) -/

section
variable {s t u : State}

/-- A proposal made: under way from now. -/
theorem State.propose_proposes (s : State) (v : View) : (s.propose v).group.prop = some v ∧ (s.propose v).group.propAt = s.frame ∧
    (s.propose v).group.fails = s.group.fails ∧ Frame [.group, .buses, .ftl] [] s (s.propose v) := by
  have k := (s.propose_sends v).group
  exact ⟨(congrArg Group.prop k :), (congrArg Group.propAt k :), (congrArg Group.fails k :),
    .then_keeps (.refl ..) (s.propose_keeps v) (by decide) (List.nil_subset _) nofun⟩

/-- The members whose majority decides stay while the view and the list of members stay. -/
theorem State.electors_of_keeps (k : Keeps [.group, .buses] [] s t) (hp : ∀ j, (t.peer j).bare = (s.peer j).bare) : t.electors = s.electors := by
  have hlisted : ∀ j, (t.peer j).listed = (s.peer j).listed := fun j => (congrArg Peer.listed (hp j) :)
  have hno : t.viewNo = s.viewNo := k.rd_eq (by simp) ..
  have hmask : t.viewMask = s.viewMask := k.rd_eq (by simp) ..
  simp only [State.electors, hno, hmask, State.listed, hlisted]

theorem State.nextRound_of_keeps (k : Keeps [.group, .buses] [] s t) (h : t.group.acked = s.group.acked) : t.nextRound = s.nextRound := by
  have hno : t.viewNo = s.viewNo := k.rd_eq (by simp) ..
  simp only [State.nextRound, h, hno]

/-- Counting leaves the acknowledgements; a majority without an earlier proposal wins. -/
theorem State.countAcks_counts {p : View} (hprop : s.group.prop = some p) (hearlier : s.group.earlier = none) :
    s.countAcks.group.acks = s.group.acks ∧ (majority s.electors s.group.acks = true → s.countAcks.group.winning = true) := by
  rw [State.countAcks, hprop, hearlier]
  dsimp only
  cases hw : s.group.winning
  · by_cases hm : majority s.electors s.group.acks = true
    · rw [if_pos (by simp [hm])]
      exact ⟨rfl, fun _ => rfl⟩
    · rw [if_neg (by simp [hm]), ite_self]
      exact ⟨rfl, fun h => absurd h hm⟩
  · rw [if_neg (by simp), if_neg (by simp)]
    exact ⟨rfl, fun _ => hw⟩

/-- An earlier proposal takes the place of the proposer's own set. -/
theorem State.countAcks_yields {p w : View} (hprop : s.group.prop = some p) (hearlier : s.group.earlier = some w) (hw : s.group.winning = false) :
    s.countAcks = s.propose { p with round := s.nextRound, members := w.members, steward := w.steward, deputy := w.deputy } := by
  rw [State.countAcks, hprop, hearlier]
  dsimp only
  rw [if_neg (by simp), if_pos (by simp [hw])]

/-- The earlier proposal an acknowledgement names, when it is none of the proposer's. -/
def yieldsTo (p : View) : Option View → Option View
  | some w => if sameView w p then none else some w
  | none => none

variable {j : Fin 24} {h : Hdr}

theorem exec_viewAck (ha : s.Accepts j h u) {v p : View} (e : Option View) (hprop : u.group.prop = some p) (hn : p.number = v.number)
    (hr : p.round = v.round) : ∃ best, (u.group.earlier = none → best = yieldsTo p e) ∧ exec (.viewAck j h v e) s =
    .next (u.setGroup { u.group with acks := setBit u.group.acks j, earlier := best }).countAcks := by
  obtain ⟨ht, hu⟩ := ha
  have hrun : ∀ t : State, (if tookOk u j && p.number == v.number && p.round == v.round then ok t else ok u) = .next t := fun _ =>
    if_pos (by simp [hu, hn, hr])
  change ∃ best, _ ∧ execViewAck j h v e s = _
  unfold execViewAck
  simp only [ht, hprop]
  refine ⟨_, fun hearlier => ?_, hrun _⟩
  rw [hearlier]
  cases e <;> rfl

/-- VIEW_PROPOSE acknowledged once it is durable. -/
theorem exec_viewPropose (ha : s.Accepts j h u) {v : View} (hnext : v.number = u.viewNo + 1)
    (hfresh : ∀ a, u.group.acked = some a → a.number = v.number → a.round < v.round)
    (hgrant : u.viewNo ≠ 0 → u.frame < u.group.grant → v.steward = u.steward) : ∃ before, exec (.viewPropose j h v) s =
    .next ((u.setGroup { u.group with acked := some v, ackDue := some (j.val, before) }).record (.admin .view 0)) := by
  obtain ⟨ht, hu⟩ := ha
  have hgranted : (u.viewNo != 0 && decide (u.frame < u.group.grant) && v.steward != u.steward) = false := by
    simpa [imp_iff_not_or, or_assoc] using hgrant
  have hrun : ∀ t : State, (if tookOk u j && v.number == u.viewNo + 1 && true
      && !(u.viewNo != 0 && decide (u.frame < u.group.grant) && v.steward != u.steward) then ok t else ok u) = ok t := fun _ =>
    if_pos (by rw [hgranted, show tookOk u j = true from hu, hnext, beq_self_eq_true]; rfl)
  change ∃ before, execViewPropose j h v s = _
  unfold execViewPropose
  simp only [ht]
  cases hacked : u.group.acked with
  | none => exact ⟨none, hrun _⟩
  | some a =>
    by_cases hnum : a.number = v.number
    · refine ⟨some a, ?_⟩
      simp only [if_pos hnum, decide_eq_true (hfresh a hacked hnum)]
      exact hrun _
    · refine ⟨none, ?_⟩
      simp only [if_neg hnum]
      exact hrun _

theorem exec_viewPropose_refused (ha : s.Accepts j h u) {v : View} (hno : v.number ≠ u.viewNo + 1
    ∨ (∃ a, u.group.acked = some a ∧ a.number = v.number ∧ v.round ≤ a.round)
    ∨ (u.viewNo ≠ 0 ∧ u.frame < u.group.grant ∧ v.steward ≠ u.steward)) : exec (.viewPropose j h v) s = .next u := by
  obtain ⟨ht, hu⟩ := ha
  change execViewPropose j h v s = _
  unfold execViewPropose
  simp only [ht]
  refine if_neg ?_
  obtain hnum | ⟨a, hacked, hnum, hround⟩ | ⟨hv, hg, hst⟩ := hno
  · simp [hnum]
  · simp [hacked, hnum, hround]
  · simp [hv, hg, hst]

end

/-- Settles O48: the rows of heartbeats, proposals, views, leases and isolation, each from what its parts leave. -/
theorem views : Obligations.Views := by
  intro s
  refine ⟨fun hup hdue => ?_, fun j h u sw inc st v ha => ?_, fun j hup hk hlate => ?_, fun j h u v ha hnext hfresh hgrant => ?_,
    fun j h u v ha hno => ?_, fun j h u v p e ha hprop hn hr => ?_, fun j h u v ha => ?_, fun j h u ha => ?_,
    fun hup hst hview hother hgrant hprop hrank => ?_, fun v hprop hup hw hlate => ?_, fun hup hon hlease => ?_, fun hup hst hmaj => ?_⟩
  · obtain ⟨hlast, hhb, hsent, hframe⟩ := s.beats_done
    have hlead : s.beatLeads = true ↔ s.viewNo ≠ 0 ∧ s.inView = true ∧ s.steward = s.own := by simp [State.beatLeads, and_assoc]
    refine ⟨_, exec_heartbeatSend s hup hdue, hlast, fun h1 h2 h3 => hhb (hlead.2 ⟨h1, h2, h3⟩), fun i hi hk => ?_, hframe⟩
    obtain ⟨hm, ho⟩ := hsent i hi hk
    refine ⟨hm, ?_⟩
    simpa only [State.beatWords, State.beatNumber, hlead] using ho
  · obtain ⟨ht, -, -, -⟩ := ha.taken
    have hinc : u.rd Reg.GLI_PEER.INCARNATION j = s.rd Reg.GLI_PEER.INCARNATION j := ht.keeps.rd_eq (by simp) ..
    refine ⟨fun hne => ?_, fun heq => ?_⟩
    · obtain ⟨hsess, -, hevent, -⟩ := u.dropSession_drops j 3
      exact ⟨_, exec_heartbeat_restarted ha (hinc ▸ hne) sw st v, hsess, hevent⟩
    · obtain ⟨hb, hleaving⟩ := u.heartbeat_done j.isLt sw h.view st v
      have hframe : u.frame = s.frame := ht.keeps.same .frame
      have hno : u.viewNo = s.viewNo := ht.keeps.rd_eq (by simp) ..
      exact ⟨_, exec_heartbeat ha (hinc ▸ heq) sw st v, hb.heard.trans hframe, hb.missed, fun h1 => hb.view (hno ▸ h1), hleaving,
        (ht.frame (by decide)).trans hb.frame⟩
  · let s1 := (s.setSession j 3).event 0x30 0x0101 j
    let s2 := s1.setPeer j { s1.peer j with key := none, goneAt := s1.frame }
    have hrun : exec (.peerAbsent j) s = .next s2.stewardDuty := if_pos (by simp [hup, hk, hlate])
    have hself : s2.peer j = { s1.peer j with key := none, goneAt := s1.frame } := (State.peer_setPeer ..).trans (if_pos rfl)
    have hbare := (s2.stewardDuty_kept.1 j).trans (congrArg Peer.bare hself)
    have hevents : s2.stewardDuty.events = s2.events := (s2.stewardDuty_keeps.same .log).1
    refine ⟨_, hrun, (s2.stewardDuty_keeps.rd_eq (by simp) ..).trans (s.setSession_session j.isLt (by decide)), (congrArg Peer.key hbare :),
      (congrArg Peer.goneAt hbare :), ?_, ?_⟩
    · rw [hevents]
      exact congrArg (Option.map _) (State.event_head ..)
    · exact ((((Frame.refl ..).setSession (List.Subset.refl _) j.isLt 3).then_event (by decide) ..).setPeer (by decide) _ _).stewardDuty (by decide)
  · obtain ⟨ht, -, -, -⟩ := ha.taken
    have hframe : u.frame = s.frame := ht.keeps.same .frame
    have hno : u.viewNo = s.viewNo := ht.keeps.rd_eq (by simp) ..
    have hsteward : u.steward = s.steward := ht.keeps.rd_eq (by simp) ..
    have hacked : u.group.acked = s.group.acked := (congrArg Group.acked ht.group :)
    have hg : u.group.grant = s.group.grant := (congrArg Group.grant ht.group :)
    obtain ⟨before, hrun⟩ := exec_viewPropose ha (by rw [hno, hnext]) (by rwa [hacked]) (by rwa [hno, hframe, hg, hsteward])
    exact ⟨_, hrun, rfl, rfl, List.mem_append_right _ (.head _), ((ht.frame (by decide)).setGroup (by decide) _).record (by decide) _⟩
  · obtain ⟨ht, -, -, -⟩ := ha.taken
    have hframe : u.frame = s.frame := ht.keeps.same .frame
    have hview : u.viewNo = s.viewNo := ht.keeps.rd_eq (by simp) ..
    have hsteward : u.steward = s.steward := ht.keeps.rd_eq (by simp) ..
    have hacked : u.group.acked = s.group.acked := (congrArg Group.acked ht.group :)
    have hg : u.group.grant = s.group.grant := (congrArg Group.grant ht.group :)
    exact exec_viewPropose_refused ha (by rwa [hview, hframe, hg, hsteward, hacked])
  · obtain ⟨ht, -, -, -⟩ := ha.taken
    have hacks : u.group.acks = s.group.acks := (congrArg Group.acks ht.group :)
    have hacked : u.group.acked = s.group.acked := (congrArg Group.acked ht.group :)
    have hwinning : u.group.winning = s.group.winning := (congrArg Group.winning ht.group :)
    have hearlier : u.group.earlier = s.group.earlier := (congrArg Group.earlier ht.group :)
    have huprop : u.group.prop = some p := (congrArg Group.prop ht.group :).trans hprop
    obtain ⟨best, hbest, hrun⟩ := exec_viewAck ha e huprop hn hr
    let u1 := u.setGroup { u.group with acks := setBit u.group.acks j, earlier := best }
    have k1 : Keeps [.group, .buses] [] s u1 := .setGroup ht.keeps
    have hp1 : u1.group.prop = some p := huprop
    have hacks1 : u1.group.acks = setBit s.group.acks j := congrArg (setBit · j.val) hacks
    refine ⟨_, hrun, .then_keeps ((ht.frame (by decide)).setGroup (by decide) _) (State.countAcks_keeps _) (by decide) (List.nil_subset _) nofun,
      fun he hnone => ?_, fun w he hnone hw hdiff => ?_⟩
    · obtain ⟨h1, h2⟩ := State.countAcks_counts hp1 (show best = none by rw [hbest (hearlier.trans hnone), he]; rfl)
      rw [hacks1] at h1 h2
      exact ⟨h1, fun hm => h2 (State.electors_of_keeps k1 ht.sends.peers ▸ hm)⟩
    · have hsome : best = some w := by rw [hbest (hearlier.trans hnone), he]; exact if_neg (Bool.not_eq_true _ ▸ hdiff)
      have hyield := State.countAcks_yields hp1 (show u1.group.earlier = some w from hsome) (hwinning.trans hw)
      rw [State.nextRound_of_keeps k1 hacked] at hyield
      exact (congrArg (·.group.prop) hyield :).trans (State.propose_proposes ..).1
  · obtain ⟨ht, -, -, -⟩ := ha.taken
    obtain ⟨e, hu⟩ := ha
    have hno : u.viewNo = s.viewNo := ht.keeps.rd_eq (by simp) ..
    have hviews : u.rd Reg.GLI_CNT.VIEWS = s.rd Reg.GLI_CNT.VIEWS := ht.keeps.rd_eq (by simp) ..
    have htotal : u.eventTotal = s.eventTotal := (ht.keeps.same .log).2
    have hrun : ∀ t, (if tookOk u j && decide (u.viewNo < v.number) then ok (u.install v) else ok u) = .next t →
        exec (.viewCommit j h v) s = .next t := fun t ht => by
      change execViewCommit j h v s = _
      unfold execViewCommit
      simpa only [e] using ht
    refine ⟨fun hold => hrun _ (if_neg ?_), fun hnew => ⟨_, hrun _ (if_pos ?_), ?_⟩⟩
    · simpa [hu, hno] using hold
    · simpa [hu, hno] using hnew
    · obtain ⟨view, members, steward, deputy, inView, views⟩ := u.install_installed v
      obtain ⟨hprop, -, hmore⟩ := u.install_kept v
      exact ⟨view, members, steward, deputy, inView, hviews ▸ views, hprop, htotal ▸ hmore, (ht.frame (by decide)).install v⟩
  · obtain ⟨ht, -, -, -⟩ := ha.taken
    obtain ⟨e, hu⟩ := ha
    have hrun : exec (.leaveRequest j h) s = .next (u.peerLeaves j).stewardDuty := by
      change execLeaveRequest j h s = _
      unfold execLeaveRequest
      simp only [e]
      exact if_pos hu
    obtain ⟨hleaving, -, hframe⟩ := u.peerLeaves_leaves j
    exact ⟨_, hrun, (congrArg Peer.leaving ((u.peerLeaves j).stewardDuty_kept.1 j) :).trans hleaving,
      ((ht.frame (by decide)).trans hframe).stewardDuty (by decide)⟩
  · let members := if s.session s.steward = 3 then clearBit s.viewMask s.steward else s.viewMask
    have hrun : exec .grantExpiry s = .next (s.proposeSet members s.own) :=
      if_pos (by simp [hup, hst, hview, hother, hgrant, hprop, hrank])
    obtain ⟨hp, hat, -, hframe⟩ := s.propose_proposes { number := s.viewNo + 1, round := s.nextRound, members := members, steward := s.own,
                                                        deputy := deputyOf members s.own }
    exact ⟨_, hrun, congrArg (Option.map fun v : View => (v.number, v.members, v.steward)) hp, hat, hframe⟩
  · let s1 := s.setGroup { s.group with fails := s.group.fails + 1 }
    have hrun : exec .proposalRetry s = .next (s1.propose { v with round := s.nextRound }) := by
      change execProposalRetry s = _
      unfold execProposalRetry
      simp only [hprop]
      exact if_pos (by simp [hup, hw, hlate])
    obtain ⟨hp, hat, hfails, hframe⟩ := s1.propose_proposes { v with round := s.nextRound }
    exact ⟨_, hrun, hp, hfails, hat, ((Frame.refl ..).setGroup (by decide) _).trans hframe⟩
  · let s1 := (s.wr Reg.GLI_STATUS.STEWARD 0).wr Reg.GLI_REBUILD.PLANNING 0
    have hsteward : s1.rd Reg.GLI_STATUS.STEWARD = 0 := (State.rd_wr_apart _ _ _ _ _ _ _ _ (by decide)).trans (State.rd_wr_same ..)
    have hplanning : s1.rd Reg.GLI_REBUILD.PLANNING = 0 := State.rd_wr_same ..
    refine ⟨_, if_pos (by simp [hup, hon, hlease]), ?_, hsteward, hplanning, rfl, ?_⟩
    · exact Bool.and_eq_false_iff.2 (.inl (bne_eq_false_iff_eq.2 hsteward))
    · exact (((Frame.refl ..).then_wr (by decide) _ (by decide) (by decide)).then_wr (by decide) _ (by decide) (by decide)).setGroup (by decide) _
  · have hstate : (s.wr Reg.GLI_STATUS.STATE 3).gstate = 3 := State.rd_wr_same ..
    refine ⟨_, if_pos (by simp [hup, hst, hmaj]), hstate, congrArg (Option.map _) (State.event_head ..), ?_⟩
    exact ((Frame.refl ..).then_wr (by decide) _ (by decide) (by decide)).then_event (by decide) ..

end Sys2Proof.Machine
end
